-- ==== Sys2Proof/Word.lean ====
section
/-! DEFINITION. The word types of the NW6420 (R1, R2): bytes of ring data, 32-bit Orwyn registers and instruction words,
64-bit ledger, queue and slot words, and the 16-bit status word. Bit 0 is the least significant bit of all of them. -/

namespace Sys2Proof

/-- One byte of frame data (R1). -/
abbrev Byte := BitVec 8
/-- The status word (R38). -/
abbrev Word16 := BitVec 16
/-- An Orwyn register or instruction word (R240, R241). -/
abbrev Word32 := BitVec 32
/-- A ledger word, a queue word or a schedule slot (R214, R216, R264). -/
abbrev Word64 := BitVec 64

end Sys2Proof
end

