-- ==== Sys2Proof/Syntax.lean ====
section
/-! DEFINITION. The commands of the module: one constructor of `Instr` per row of the opcode table, in the table's order.

The table gives its rows no fields. The operands below are what the rule of each row needs from outside: which axis, die,
channel, queue or port is meant; the value written; the level or reading that the terminal or sensor presents. `t` is the device
time (R363) of the CKM cycle in which the event becomes visible; a host operation carries it in its `Hdr`. A frame arrives in the cycle of
its last bit, but a SWEEP is given in the cycle in which the module's slot enters its gorge, and an own frame is sent in the cycle in which its
Yorun header starts (R37); `hop` is its hop latency in 10 ns, 0 where its sending port was not idle (R292); for a TIME frame it is in 1/16 ns and `idle`
tells the same. `stamp`, `t1`, `t2` and `t3` are time stamps in 1/16 ns of device time, `phase` the sub-tick phase of one (R305). An Orwyn instruction
names the block that runs it (R239) and the fields of its format (R241); a ledger load carries what the SECDED check of its word finds. -/
namespace Sys2Proof

/-- Who sent a host operation and on which transaction it runs (R285, R294): the cycle in which its frame was received, the port
(0 RA, 1 RB, 2 the module's own LP; R284), the address of the head, the tag, and the RETRY bit. -/
structure Hdr where
  t     : Nat
  port  : Fin 3
  src   : Nat
  tag   : Fin 128
  retry : Bool
  deriving DecidableEq, Repr

/-- A Yorun frame: the header of R285 and its data bytes. `version` and `reserved` (a reserved bit set) are what R285 and R286
test; `carried` is false when LENGTH is larger than the data the frame carries (R286). `ether` tells that the Ethernet frame around it is
one that R280 accepts. -/
structure Frame where
  ether    : Bool
  version  : Nat
  kind     : Nat
  op       : Nat
  dest     : Nat
  src      : Nat
  tag      : Nat
  retry    : Bool
  wraps    : Nat
  gateway  : Bool
  enum     : Bool
  index    : Nat
  sub      : Nat
  result   : Nat
  status   : Nat
  data     : List Byte
  reserved : Bool
  carried  : Bool
  deriving DecidableEq, Repr

/-- What the supply sensors read at a mark (R398, R168): voltages in 10 mV, currents in 10 mA, power in mW, temperature in
0.1 °C; `bus` is the bus after the OR of VMA and VMB. -/
structure MarkIn where
  vma     : Nat
  vmb     : Nat
  aux     : Nat
  ima     : Nat
  imb     : Nat
  power   : Nat
  hubTemp : Int
  bus     : Nat
  deriving DecidableEq, Repr

/-- What a SECDED check finds in one word (R215, R217, R17). -/
inductive Ecc where
  | clean
  | corrected
  | uncorrectable
  deriving DecidableEq, Repr

/-- What the checks of the memories that a slot is run from find (R215, R217, R227): the walker a corrected error in the slot word, the engine a
corrected error in its program store, and the slot's reads the worst outcome in the words of its axis's ledger record. -/
structure SlotIn where
  word   : Bool
  store  : Bool
  ledger : Ecc
  deriving DecidableEq, Repr

/-- What stands at the terminals when RESET ends (R357, R358, R392): whether REFIN carries its edges, whether the crystal starts,
the levels of ENA1 and ENA2, which of VMA, VMB and AUX are in range, and the µs that first PLL lock takes. -/
structure ReleaseIn where
  refin   : Bool
  crystal : Bool
  ena1    : Bool
  ena2    : Bool
  vmaOk   : Bool
  vmbOk   : Bool
  auxOk   : Bool
  lock    : Nat
  deriving DecidableEq, Repr

/-- What the start-up steps find (R317, R318): the fatal findings of step 2, the redundant parts that fail it, and the power dies
that fail the handshake of step 5 (bit k: die k). -/
structure BootIn where
  fatal      : Bool
  deadEngine : BitVec 8
  stFaulty   : Option (Fin 2)
  tsFaulty   : Option (Fin 2)
  deadDie    : BitVec 8
  deriving DecidableEq, Repr

/-- The block that runs an Orwyn program (R239): an engine, the compared pair of trip sequencers, or a harvest unit. -/
inductive RunUnit where
  | engine  (e : Fin 8)
  | trip
  | harvest (c : Fin 16)
  deriving DecidableEq, Repr

/-- A general register V0–V15 (R240). -/
abbrev V := Fin 16

/-- The fields of an L-format instruction (R241). -/
structure LForm where
  d       : V
  word    : Fin 64
  half    : Bool
  ctx     : Bool
  axis    : Fin 64
  indexed : Bool
  deriving DecidableEq, Repr

/-- The commands of the NW6420, one constructor per row of the opcode table. -/
inductive Instr where
  -- the pass, the slots and the engines
  | passMark (w : MarkIn)
  | staleIncrement (n : Fin 64)
  | feedbackFoldIn (t : Nat) (n : Fin 64) (m : SlotIn)
  | profileStep (t : Nat) (n : Fin 64) (m : SlotIn)
  | interpolationSetUp (t : Nat) (n : Fin 64) (m : SlotIn)
  | loadIndexStep (t : Nat) (n : Fin 64) (m : SlotIn)
  | axisProgramRun (t : Nat) (slot : Fin 4096) (m : SlotIn)
  | tripProgramRun (t : Nat) (n : Fin 64)
  | slotCutOff (t : Nat) (slot : Fin 4096)
  | slotUncorrectable (t : Nat) (slot : Fin 4096)
  | bankRebuildDone
  | engineFailing (t : Nat) (e : Fin 8) (storeError : Bool)
  | fallbackLoadDone
  | fallbackPlansBuilt (t : Nat)
  | engineClear (h : Hdr) (v : Nat)
  | engineSelfTestDone (t : Nat) (e : Fin 8) (pass : Bool)
  | ledgerScrub (t : Nat) (n : Fin 64) (w : Fin 64) (ecc : Ecc)
  | feedLost (t : Nat) (feed : Fin 3) (volt : Nat)
  | logicBuckLost (t : Nat) (buck : Fin 2) (volt : Nat)
  | auxLost (t : Nat)
  | stewardLost (t : Nat)
  | tsMismatch (t : Nat) (n w : Fin 64) (high : Bool) (out : BitVec 32)
  | tsSelfTest (t : Nat) (faulty : Option (Fin 2))
  | flashBankLost (t : Nat) (bank : Fin 2)
  | sdramCorrected (t : Nat) (bank : Fin 8) (addr : Nat)
  | sdramUncorrectable (t : Nat) (bank : Fin 8) (addr : Nat)
  -- the dictionary
  | read (h : Hdr) (index sub : Nat)
  | readBlock (h : Hdr) (index sub count : Nat)
  | writeBlock (h : Hdr) (index sub : Nat) (data : List Byte)
  | registerWrite (h : Hdr) (index sub : Nat) (data : List Byte)
  | rwcWrite (h : Hdr) (index sub : Nat) (data : List Byte)
  | w1cWrite (h : Hdr) (index sub : Nat) (data : List Byte)
  | stageDiscard (h : Hdr) (v : Nat)
  | commit (h : Hdr)
  | commitTakesEffect
  | ackOrdinal (h : Hdr) (v : Nat)
  | logSeen (h : Hdr) (v : Nat)
  -- moves
  | target (h : Hdr) (n : Fin 64) (v : Int)
  | stop (h : Hdr) (n : Fin 64)
  | stopFlush (h : Hdr) (n : Fin 64)
  | setPosition (h : Hdr) (n : Fin 64) (v : Int)
  | movePush (h : Hdr) (n : Fin 64) (ws : List Word64)
  | queueFlush (h : Hdr) (n : Fin 64)
  | limitChange (h : Hdr) (n : Fin 64) (which : Fin 4) (v : Nat)
  | lowMark (h : Hdr) (n : Fin 64) (v : Nat)
  | abs (t : Nat) (n : Fin 64)
  | rel (t : Nat) (n : Fin 64)
  | vel (t : Nat) (n : Fin 64)
  | dwell (t : Nat) (n : Fin 64)
  | wait (t : Nat) (n : Fin 64)
  | waitTimeout (t : Nat) (n : Fin 64)
  | setLimits (t : Nat) (n : Fin 64)
  | setCurrents (t : Nat) (n : Fin 64)
  | call (t : Nat) (n : Fin 64)
  | homeHere (t : Nat) (n : Fin 64)
  | homeEndStop (t : Nat) (n : Fin 64)
  | homeLimitInput (t : Nat) (n : Fin 64)
  | homeLimitOrEndStop (t : Nat) (n : Fin 64)
  | homeExerciseRun (t : Nat) (n : Fin 64)
  | releaseStart (t : Nat) (n : Fin 64)
  -- following
  | followEngage (h : Hdr) (n : Fin 64)
  | followDisengage (h : Hdr) (n : Fin 64)
  | ratioChange (h : Hdr) (n : Fin 64) (den : Bool) (v : Int)
  | stepEdge (t : Nat) (pair : Fin 8) (dirHigh : Bool) (dirAge : Nat)
  | pairFault (t : Nat) (pair : Fin 8) (on : Bool)
  | streamTimeout (t : Nat) (n : Fin 64)
  -- choppers and the adaptive offset
  | chopperPeak (t : Nat) (n : Fin 64) (ph : Fin 2)
  | chopperValley (t : Nat) (n : Fin 64) (ph : Fin 2)
  | offTimeMax (t : Nat) (n : Fin 64) (ph : Fin 2)
  | refSignChange (t : Nat) (n : Fin 64) (ph : Fin 2)
  | fastBelowTwoCodes (t : Nat) (n : Fin 64) (ph : Fin 2)
  | adaptReset (h : Hdr) (n : Fin 64)
  | adaptEnable (h : Hdr) (n : Fin 64) (v : Nat)
  -- learning and stall
  | learnStart (h : Hdr) (n : Fin 64)
  | learnAbort (h : Hdr) (n : Fin 64)
  | learnLegEnd (t : Nat) (n : Fin 64)
  | stallRelease (h : Hdr) (n : Fin 64)
  -- bridges, diagnostics, direct switch mode and protections
  | driveEnable (h : Hdr) (n : Fin 64)
  | driveDisable (h : Hdr) (n : Fin 64)
  | rearm (h : Hdr) (n : Fin 64)
  | diagStart (h : Hdr) (n : Fin 64)
  | diagAll (h : Hdr)
  | diagTestStart (t : Nat) (k : Fin 8)
  | diagEnd (t : Nat) (k : Fin 8) (volts : List Nat) (busLow : Bool)
  | ocRetry (n : Fin 64)
  | retryCountReset (n : Fin 64)
  | directModeEnter (h : Hdr) (n : Fin 64)
  | directModeExit (h : Hdr) (n : Fin 64)
  | directFire (h : Hdr) (n : Fin 64)
  | directPulseEnd (t : Nat) (n : Fin 64)
  | overcurrent (t : Nat) (n : Fin 64) (switches : Byte)
  | bootstrapRefresh (t : Nat) (n : Fin 64) (hs : Fin 4) (vbs : Nat)
  | bootstrapRefreshEnd (t : Nat) (n : Fin 64) (hs : Fin 4) (vbs : Nat)
  | bootstrapLow (t : Nat) (n : Fin 64) (hs : Fin 4) (vbs : Nat)
  | pumpFail (t : Nat) (k : Fin 8)
  | openPhase (n : Fin 64) (ph : Fin 2)
  | dieHot (t : Nat) (k : Fin 8)
  | dieShutdown (t : Nat) (k : Fin 8)
  | dieCooled (t : Nat) (k : Fin 8)
  | busLow (t : Nat) (v : Nat)
  | busUndervoltage (t : Nat) (v : Nat)
  | busRecovered (t : Nat) (v : Nat)
  | busHigh (t : Nat) (v : Nat)
  | busOvervoltage (t : Nat) (dies : Byte) (v : Nat)
  | shortBrakeEnd (t : Nat) (dies : Byte) (v : Nat)
  | enaRemoved (t : Nat) (input : Fin 2)
  | enaRestored (t : Nat) (input : Fin 2)
  | enaDiscrepancy (t : Nat)
  -- feedback and sense inputs
  | quadratureEdge (t : Nat) (c : Fin 16) (a b : Bool)
  | index (t : Nat) (c : Fin 16)
  | speedTimeout (t : Nat) (c : Fin 16)
  | ssiFrameStart (t : Nat) (c : Fin 16) (dataHigh : Bool)
  | ssiFrameArrival (t : Nat) (c : Fin 16) (word : Nat) (mono : Bool)
  | ssiMonoTimeout (t : Nat) (c : Fin 16)
  | ssiDeadline (t : Nat) (c : Fin 16)
  | lineFault (t : Nat) (c : Fin 16) (pair : Fin 3)
  | chPreset (h : Hdr) (c : Fin 16) (v : Int)
  | fbAlign (h : Hdr) (n : Fin 64)
  | latchSrc (h : Hdr) (c : Fin 16) (v : Nat)
  | latchCapture (t : Nat) (c : Fin 16)
  | senseEdge (t : Nat) (i : Fin 128) (high : Bool)
  -- converters
  | conversionTrigger (t : Nat)
  | conversionComplete (t : Nat) (c : Fin 16) (code : Int)
  | harvest (t : Nat) (c : Fin 16)
  | urgentReq (h : Hdr) (c : Fin 16) (v : Nat)
  | cvRestart (h : Hdr) (c : Fin 16)
  | cvSelfCheckDone (t : Nat) (c : Fin 16) (ground dac : List Int)
  | calZeroPoint (h : Hdr)
  | calFullPoint (h : Hdr)
  | calCompute (h : Hdr)
  | calPointDone (t : Nat) (mean : Int) (oor : List (Fin 256))
  | calStore (h : Hdr)
  -- Orwyn instructions
  | oNop (u : RunUnit)
  | oAdd (u : RunUnit) (d a b : V)
  | oSub (u : RunUnit) (d a b : V)
  | oAnd (u : RunUnit) (d a b : V)
  | oOr (u : RunUnit) (d a b : V)
  | oXor (u : RunUnit) (d a b : V)
  | oShl (u : RunUnit) (d a b : V)
  | oShr (u : RunUnit) (d a b : V)
  | oSra (u : RunUnit) (d a b : V)
  | oMin (u : RunUnit) (d a b : V)
  | oMax (u : RunUnit) (d a b : V)
  | oAddw (u : RunUnit) (d a b : V)
  | oSubw (u : RunUnit) (d a b : V)
  | oCtxn (u : RunUnit) (d : V)
  | oArg (u : RunUnit) (d : V)
  | oCallp (u : RunUnit) (d : V)
  | oAddi (u : RunUnit) (d a : V) (imm : BitVec 18)
  | oAndi (u : RunUnit) (d a : V) (imm : BitVec 18)
  | oOri (u : RunUnit) (d a : V) (imm : BitVec 18)
  | oXori (u : RunUnit) (d a : V) (imm : BitVec 18)
  | oShli (u : RunUnit) (d a : V) (imm : BitVec 18)
  | oShri (u : RunUnit) (d a : V) (imm : BitVec 18)
  | oSrai (u : RunUnit) (d a : V) (imm : BitVec 18)
  | oMovi (u : RunUnit) (d : V) (imm : BitVec 18)
  | oOrhi (u : RunUnit) (d a : V) (imm : BitVec 18)
  | oDone (u : RunUnit)
  | oMul (u : RunUnit) (d a b : V)
  | oMulu (u : RunUnit) (d a b : V)
  | oEnd (u : RunUnit)
  | oBeq (u : RunUnit) (a b : V) (off : BitVec 10)
  | oBne (u : RunUnit) (a b : V) (off : BitVec 10)
  | oBlt (u : RunUnit) (a b : V) (off : BitVec 10)
  | oBge (u : RunUnit) (a b : V) (off : BitVec 10)
  | oBltu (u : RunUnit) (a b : V) (off : BitVec 10)
  | oBgeu (u : RunUnit) (a b : V) (off : BitVec 10)
  | oBra (u : RunUnit) (off : BitVec 10)
  | oLoop (u : RunUnit) (count : BitVec 8)
  | oEndl (u : RunUnit)
  | oLidx (u : RunUnit) (d : V)
  | oTime (u : RunUnit) (d : V)
  | oRtime (u : RunUnit) (d : V)
  | oMode (u : RunUnit) (d : V)
  | oLdl (u : RunUnit) (l : LForm) (ecc : Ecc)
  | oLdlw (u : RunUnit) (l : LForm) (ecc : Ecc)
  | oStl (u : RunUnit) (l : LForm)
  | oStlw (u : RunUnit) (l : LForm)
  | oPush (u : RunUnit) (d : V) (q : Fin 128) (e : Bool)
  | oPop (u : RunUnit) (d : V) (q : Fin 128)
  | oQdep (u : RunUnit) (d : V) (q : Fin 128)
  | oObjr (u : RunUnit) (d : V) (entry : Fin 16) (half : Bool)
  | oObjw (u : RunUnit) (d : V) (entry : Fin 16)
  -- images and plan swap
  | imageSel (h : Hdr) (v : Nat)
  | imageOffset (h : Hdr) (v : Nat)
  | imageChunk (h : Hdr) (bytes : List Byte)
  | imageClose (h : Hdr) (len : Nat)
  | imageCloseDone (t : Nat)
  | imageErase (h : Hdr) (v : Nat)
  | swapStart (h : Hdr) (v : Nat)
  | swapComplete
  -- queues
  | queuePointer (t : Nat) (q : Fin 80) (ptr : Fin 4)
  | basinEcc (t : Nat) (q : Fin 80) (off : Nat)
  | release (h : Hdr) (q : Fin 80)
  | mailPush (h : Hdr) (m : Fin 4) (bytes : List Byte)
  | captureFetch (h : Hdr) (v : Nat)
  -- the ring
  | frameArrival (t : Nat) (port : Fin 2) (f : Frame) (fcsOk : Bool) (hop : Nat)
  | gatewayFrameIn (t : Nat) (f : Frame) (fcsOk : Bool)
  | ownFrameSend (t : Nat) (waited : Nat)
  | sweep (t : Nat) (port : Fin 2) (f : Frame) (fcsOk : Bool) (hop : Nat)
  | timeDistribution (t : Nat) (port : Fin 3) (f : Frame) (fcsOk : Bool) (hop : Nat) (idle : Bool) (stamp : Nat)
  | linkProbeSend (t : Nat) (port : Fin 3) (phase : Nat)
  | linkProbe (t : Nat) (port : Fin 3) (t1 t2 phase : Nat)
  | linkProbeAnswer (t : Nat) (port : Fin 3) (t1 t2 t3 : Nat) (phase : Nat)
  | note (t : Nat) (port : Fin 2) (f : Frame) (fcsOk : Bool) (hop : Nat)
  | gwTimeout (t : Nat) (tag : Fin 128)
  | linkLost (t : Nat) (port : Fin 2) (partly : Bool)
  | linkUp (t : Nat) (port : Fin 3) (amplitude : Fin 4)
  | linkHeld (t : Nat) (port : Fin 3)
  -- modes and start-up
  | resetNLow
  | logicSupplyLost
  | resetRequest (h : Hdr) (v : Nat)
  | resetRelease (w : ReleaseIn)
  | bootEnd (w : BootIn)
  | armingComplete
  | autoRun
  | modeRequestConfigure (h : Hdr)
  | modeRequestCalibrate (h : Hdr)
  | modeRequestArmed (h : Hdr)
  | modeRequestRun (h : Hdr)
  | modeRequestSafe (h : Hdr)
  | modeRequestLockout (h : Hdr)
  | modeRequestStandby (h : Hdr)
  | islandTimeout
  | islandHold
  | safeEntry
  | lockoutClear (h : Hdr) (v : Nat)
  | standbyEntered
  | wake
  -- faults, the log and injection
  | logWrite (t : Nat)
  | incidentClose
  | shadowEnd (t : Nat) (first : Nat)
  | dualRail (t : Nat) (k : Fin 8) (tripPath : Bool)
  | railTestEnd (t : Nat) (k : Fin 8) (tripPath followsP followsN : Bool)
  | linkParity (t : Nat) (k : Fin 8) (secondFails : Bool)
  | injectArm (h : Hdr) (v : Nat)
  | injectionLapse (t : Nat)
  | tripiRise (t : Nat)
  | tripiFall (t : Nat)
  -- clocks and SYNC
  | rootLost (t : Nat)
  | rootRestored (t : Nat)
  | backupTrim (t : Nat) (ppb : Int)
  | pllSwitch (t : Nat)
  | holdoverEntry (t : Nat)
  | holdoverLimit (t : Nat)
  | syncOutputPulse (t : Nat)
  | syncPulseEnd (t : Nat)
  | syncInputEdge (t : Nat)
  -- trace and counters
  | traceWordOut (t : Nat)
  | dropRecord (t : Nat)
  | counterFreeze (h : Hdr)
  -- the ends of lasting conditions
  | feedRestored (t : Nat) (feed : Fin 2)
  | logicBuckRestored (t : Nat) (buck : Fin 2)
  | auxRestored (t : Nat)
  | flashBankRestored (t : Nat) (bank : Fin 2)
  | takeoverComplete (t : Nat)
  | bothPllsLoseLock
  | activeHeadLapse (t : Nat)
  | lpLinkLost (t : Nat)
  | requestedResetEntry (t : Nat)
  | lineFaultEnd (t : Nat) (c : Fin 16)
  | dieHotEnd (t : Nat) (k : Fin 8)
  | busHighEnd (t : Nat) (v : Nat)
  deriving DecidableEq, Repr

end Sys2Proof
end

