-- ==== Sys2Proof/Decode.lean ====
section
/-! DEFINITION. The command that a word of the opcode table spells. -/
namespace Sys2Proof

/-- The opcode table gives no row any bits or fields, so no word spells a command. (The words of the Orwyn instructions, which R241
and R242 do encode, are read by `Machine.orwynDecode`.) -/
def decodeTableWord (_nbits _w : Nat) : Option Instr := none

end Sys2Proof
end

