-- ==== Sys2Proof/Config.lean ====
section
/-! DEFINITION. What an implementation fixes and the spec does not: opaque constants, so that no proof can rest on a value. -/
namespace Sys2Proof.Config

/-- The free values: the k-th value drawn. The step draws it, reduced to the width of the place it goes to (log entry 2). -/
opaque free : Nat → Nat
/-- SERIAL, set at manufacture (R308; log entry 3). -/
opaque serial : Nat
/-- FW_BUILD of the firmware that runs (R308; log entry 3). -/
opaque fwBuild : Nat
/-- MAC_ADDRESS, first byte lowest (R308; log entry 3). -/
opaque macAddress : Nat
/-- HW_ISSUE (R308; log entry 3). -/
opaque hwIssue : Nat
/-- KEY_HASH as held in the fuses, first byte lowest (R256; log entry 3). -/
opaque keyHash : Nat
/-- The factory trim of the backup oscillator, in ppb (R364; log entry 3). -/
opaque factoryTrim : Int

end Sys2Proof.Config
end

