-- ==== Sys2Proof/Machine/Reg.lean ====
section
/-! DEFINITION. The names of the registers of the module: one per object (or array of objects) of the dictionary, under the
manual's own name, and one per machine register that a rule gives the module without an object, in lower case. Six names are shared by
two objects of the manual and carry a word more here: PORT_AMPLITUDE and PORT_HOP_SLOW are AMPLITUDE and HOP_SLOW of R309, CV_RESULT is
RESULT_0–15 of R209, CAL_OFS and CAL_GAIN_FACTOR are OFS_G1–G8 and GAIN_G1–G8 of R211, COUNTER and COUNTER_FROZEN are the banks of R378.
The register of a unit and an array member has the number `unit * members + member`. -/
namespace Sys2Proof.Machine

/-- The registers. -/
inductive Reg where
  -- R15, spec/01_module_and_pass.md
  | PASS_COUNT
  | PASS_MARK_TIME
  | PASS_LATE
  -- R28, spec/02_dictionary_status.md
  | AXIS_STATE
  | AXIS_EVENTS
  | AXE_MASK
  -- R30, spec/02_dictionary_status.md
  | STAGE_COUNT
  | STAGE_PROBE
  | STAGE_VALUE
  | STAGE_DISCARD
  -- R33, spec/02_dictionary_status.md
  | RESULT
  | OBJECT_A
  | OBJECT_B
  | RESOURCE
  | DETAIL
  -- R39, spec/02_dictionary_status.md
  | AXE_MAP
  | QLO_MAP
  | CFG_CHANGED
  | ACK_ORDINAL
  | LOG_SEEN
  | NEWEST_ORDINAL
  | NEWEST_SEVERE
  | NEWEST_WARN
  -- R75, spec/03_moves.md
  | VMAX
  | AMAX
  | DMAX
  | JMAX
  | SOFT_MIN
  | SOFT_MAX
  | QUEUE_RECORDS
  | LOW_MARK
  | QUEUE_DEPTH
  | MOVE_PUSH
  | QUEUE_FLUSH
  | TARGET
  | STOP
  | CMD_POS
  | CMD_VEL
  | CMD_ACC
  | SEGMENT
  | ACTIVE_TAG
  | LAST_DONE_TAG
  | ACTIVE_KIND
  | SADDLE_POS
  | SADDLE_TIME
  | SADDLE_PENDING
  | REQUIRED_DECEL
  | REQUIRED_JERK
  | DEFERRED
  | CLAMP_REQUEST
  | CLAMP_COUNT
  | RELEASE_PENDING
  | RELEASE_LATE
  | RELEASE_SLIP
  | RELEASE_UNSYNC
  | WAIT_TIMEOUTS
  | SET_POSITION
  | SET_SHIFT
  -- R92, spec/04_following.md
  | FOLLOW_SOURCE
  | SOURCE_NUM
  | SOURCE_NODE
  | RATIO_NUM
  | RATIO_DEN
  | COARSE_SIZE
  | ENGAGE_MODE
  | FOLLOW_CTRL
  | VEL_WINDOW
  | CATCHUP
  | LAG_MAX
  | LOSS_REACTION
  | SPREAD_MAX
  | FOLLOW_STATE
  | FOLLOW_LAG
  | GEARED_VEL
  | END_CAUSE
  | LOSS_COUNT
  | SOURCE_POS
  | STREAM_DELAY
  | STREAM_TIMEOUT
  | STREAM_GAPS
  | STREAM_LATE
  | PUBLISH_PERIOD
  | PUBLISH_SEQ
  -- R93, spec/04_following.md
  | STEP_FILTER
  | STEP_EDGE
  | DIR_POLARITY
  | STEP_COUNT
  | DIR_SETUP_VIOL
  | OVERRATE
  | PAIR_FAULT
  -- R114, spec/05_current_microstep.md
  | RUN_CURRENT
  | HOLD_CURRENT
  | BOOST_CURRENT
  | BOOST_MODE
  | HOLD_DELAY
  | HOLD_RAMP
  | AMPLITUDE
  | AMP_CODE
  | AMP_SOURCE
  | STILL_PASSES
  | ANGLE
  | ANGLE_ORIGIN
  | ANGLE_INC
  | REF_A
  | REF_B
  | SHAPE_K3
  | SHAPE_LIFT
  | SHAPE_RMS
  | SHAPE_PROBE
  | SHAPE_ENTRY
  | BAND
  | BLANK
  | DECAY_MODE
  | MIX_TIME
  | TOFF_MAX
  | WIDEN_A
  | WIDEN_B
  | WIDEN_EVENTS
  | FREQ_CAPS
  | EARLY_TRIPS
  | OFF_TIMEOUTS
  | THRESH_CLAMPS
  | TON_A
  | TOFF_A
  | TON_B
  | TOFF_B
  | SIG_FLAGS
  | ADAPT_ENABLE
  | ADAPT_GAIN
  | ADAPT_MIN_REF
  | DRIFT_LIMIT
  | ADAPT_RESET
  | ADAPT_OFFSET_A
  | ADAPT_OFFSET_B
  | ADAPT_ACC_A
  | ADAPT_ACC_B
  | ADAPT_ERR_A
  | ADAPT_ERR_B
  | ADAPT_SETTLED
  | ADAPT_UPDATES
  | ADAPT_SAT_PASSES
  | ADAPT_INIT_A
  | ADAPT_INIT_B
  -- R138, spec/06_stall_load.md
  | LOAD_INDEX
  | LI_STATE
  | LI_SPEED
  | LI_RATIO
  | LI_FORMED
  | LI_VOID
  | LI_MIN_SPEED
  | LI_LOW_MIN_SPEED
  | LI_VM_TOL
  | LI_MIN_SAMPLES
  | LI_SPEED_TOL
  | LEARN_SPEED
  | LEARN_STEPS
  | LEARN_FIRST
  | LEARN_SPREAD
  | LEARN_START
  | LEARN_RESULT
  | LEARN_FAIL_POINT
  | LEARN_EXCURSION
  | SIG_ACTIVE
  | COND_ACTIVE
  | TABLE_ORIGIN
  | SIG_TABLE
  | SIG_COND
  | STALL_REACTION
  | STALL_THRESH
  | STALL_STEPS
  | STALL_SET_NEG
  | STALL_SET_POS
  | STALL_RELEASE
  | STALL_RUN
  | STALL_COUNT
  | STALL_POS
  | STALL_SHIFT
  | STALL_TIME
  | HOME_SEARCH_DIST
  | HOME_BACKOFF
  | HOME_PRESET
  | HOME_RESULT
  | HOME_SHIFT
  | HOME_COUNT
  | EX_TRAVEL
  | EX_TOL
  | EX_LOAD_MIN
  | EX_RETURN
  | EX_RESULT
  | EX_TRAVEL_MEAS
  | EX_MIN_INDEX
  | EX_TIME
  | EX_COUNT
  | EX_FAILS
  -- R167, spec/07_bridges.md
  | AXIS_USE
  | DRIVE_CTRL
  | DRIVE_STATE
  | DISABLE_CAUSE
  | DEAD_TIME
  | OC_RETRIES
  | OC_RETRY_DELAY
  | OPEN_DETECT_PASSES
  | OPEN_LEVEL
  | BRIDGE_FAULT
  | FAULT_SWITCHES
  | OC_COUNT
  | SHOOT_COUNT
  | RETRY_COUNT
  | BOOT_REFRESHES
  | BOOT_MIN
  | DIAG_START
  | DIAG_RESULT
  | DIAG_FLAGS
  | DIAG_LEVELS
  | DIAG_TIME
  | DIRECT_MODE
  | DIRECT_PATTERN
  | DIRECT_PULSE
  | DIRECT_FIRE
  | REARM
  -- R168, spec/07_bridges.md
  | DIE_TEMP
  | DIE_TEMP_MAX
  | DIE_STATE
  | BUS_TAP
  | PUMP_OK
  | BRAKE_COUNT
  | DIAG_AXIS
  | ENA_STATE
  | DIAG_ALL
  | BUS_VM
  | ENA_REMOVALS
  -- R187, spec/08_feedback_sense.md
  | CH_MODE
  | CH_FILTER
  | CH_INVERT
  | CH_MIN
  | CH_MAX
  | SPEED_SPAN
  | SPEED_TIMEOUT
  | INDEX_MODE
  | INDEX_PERIOD
  | INDEX_REF
  | INDEX_CORR
  | INDEX_WINDOW
  | ILLEGAL_LIMIT
  | SSI_DIV
  | SSI_BITS
  | SSI_GRAY
  | SSI_DELAY
  | SSI_MONO
  | ABS_PERIOD
  | ABS_JUMP_MAX
  | ABS_UNWRAP
  | ABS_ERR_LIMIT
  | LATCH_SRC
  | LATCH_SENSE
  | LATCH_AT
  | LATCH_REPEAT
  | CH_PRESET
  -- R188, spec/08_feedback_sense.md
  | CH_POS
  | CH_SPEED
  | CH_FLAGS
  | CH_EVENTS
  | ILLEGAL_COUNT
  | INDEX_DEV_COUNT
  | CORR_COUNT
  | OUT_WINDOW_COUNT
  | SKIPPED_INDEX
  | LAST_DEV
  | Z_POS
  | Z_TIME
  | LATCH_POS
  | LATCH_TIME
  | LATCH_SPEED
  | LATCH_COUNT
  | FRAME_ERRORS
  | ABS_RAW
  | SAT_EDGES
  -- R189, spec/08_feedback_sense.md
  | SENSE_LO
  | SENSE_HI
  | SENSE_RISE_LO
  | SENSE_RISE_HI
  | SENSE_FALL_LO
  | SENSE_FALL_HI
  | SENSE_FILTER
  | SENSE_INVERT
  | SENSE_EDGES
  -- R190, spec/08_feedback_sense.md
  | EM_SOURCE
  | EM_NUM_SRC
  | EM_RATIO_NUM
  | EM_RATIO_DEN
  | EM_Z_PERIOD
  | EM_MIN_GAP
  | EM_COUNT
  | EM_BACKLOG
  | EM_OVERRATE
  -- R191, spec/08_feedback_sense.md
  | LIMIT_NEG
  | LIMIT_POS
  | LIMIT_REACTION
  | LIMIT_STATE
  | LIMIT_HITS
  | FB_CHANNEL
  | FB_NUM
  | FB_DEN
  | DEV_MAX
  | DEV_REACTION
  | FB_ALIGN
  | FB_POS
  | DEVIATION
  | DEV_PEAK
  | DEV_VALID
  -- R208, spec/09_converters.md
  | CV_MODE
  | SEQ_LEN
  | SEQ_ENTRY
  | URGENT_SAMPLE
  | HARVEST_PROG
  | OVERRUN_LIMIT
  | GND_TOL
  -- R209, spec/09_converters.md
  | CV_STATE
  | CV_RESULT
  | RESULT_FLAGS
  | CONVERSIONS
  | OVERRUNS
  | OOR_COUNT
  | SUSPECT_COUNT
  | TRIG_LATCHED
  | TRIG_LOST
  | GROUND_FAILS
  | HARVEST_MAX
  | CV_EVENTS
  | URGENT_REQ
  | URGENT_RESULT
  | URGENT_FLAGS
  | URGENT_DONE
  | CV_RESTART
  -- R210, spec/09_converters.md
  | LOCK_TRIGGER
  | LOCK_OFFSET
  | STANDBY_PERIOD
  | CAPTURE_DROPS
  | TEST_DAC
  -- R211, spec/09_converters.md
  | CAL_CONV
  | CAL_GAIN
  | CAL_SOURCE
  | CAL_INPUT
  | CAL_EXPECT_ZERO
  | CAL_EXPECT_FS
  | CAL_POINT
  | CAL_MEAN
  | CAL_STATUS
  | CAL_STORE
  | CAL_OFS
  | CAL_GAIN_FACTOR
  -- R218, spec/10_engines_placement.md
  | VIEW_ACTIVE
  | VIEW_INACTIVE
  -- R236, spec/10_engines_placement.md
  | REDUNDANCY_POLICY
  | SPARE_ENGINE
  | EFFECTIVE_SPARE
  | ACTIVE_BANK
  | FALLBACK_FOR
  | FALLBACK_READY
  | SLOTS_USED
  | REPLACE_COUNT
  | REPLACE_MARK
  | ENGINE_LOAD
  | ENGINE_OVERRUNS
  | ENGINE_STATE
  | ENGINE_CLEAR
  | SWAP_START
  | SWAP_STATE
  | SWAP_RESULT
  | SWAP_MARK
  -- R237, spec/10_engines_placement.md
  | BASIN_BANK
  -- R238, spec/10_engines_placement.md
  | WORK_PROG
  | WORK_CTX
  | WORK_AFTER
  | WORK_PERIOD
  | WORK_SHED
  | WORK_PIN_ENGINE
  | WORK_PIN_START
  | WORK_ENGINE
  | WORK_START
  | WORK_SLOT
  | WORK_BUDGET
  -- R261, spec/11_programs.md
  | IMAGE_SEL
  | IMAGE_OFFSET
  | IMAGE_CHUNK
  | IMAGE_CLOSE
  | IMAGE_RESULT
  | IMAGE_PROG
  | IMAGE_GROUND
  | IMAGE_ERASE
  | IMAGE_STATE
  | IMAGE_BUILD
  | PLAN_IMAGE
  | KEY_HASH
  -- R262, spec/11_programs.md
  | PROG_KIND
  | PROG_WORDS
  | PROG_WCET
  | PROG_RUNS
  | PUSH_REFUSED
  | OBJW_DROPPED
  -- R263, spec/11_programs.md
  | TRIP_PROG
  | TRIP_STATE
  -- R276, spec/12_queues.md
  | CAPACITY
  | BASIN_WORDS
  | CUT_BYTES
  | DEPTH
  | PACKETS
  | HIGH_WATER
  | PUSHED
  | POPPED
  | REFUSED
  | RESETS
  | HELD
  | RELEASE
  | REWIND_VALID
  | REWIND_LOST
  | RESENDS
  -- R277, spec/12_queues.md
  | BASIN_TOTAL
  | BASIN_FREE
  | HELD_LO
  | HELD_HI
  | MAIL_PUSH
  | CAPTURE_FETCH
  | CAPTURE_BUF
  -- R308, spec/13_yorun_ring.md
  | DEVICE_ID
  | SERIAL
  | FW_BUILD
  | MAC_ADDRESS
  | HW_ISSUE
  | NODE_MODE
  | NODE_FIXED
  | NODE_NUMBER
  | GATEWAY_HEAD
  | AMPLITUDE_PERMIT_RA
  | AMPLITUDE_PERMIT_RB
  | LINK_HOLD
  | HOP_BUDGET
  | GW_TIMEOUT
  | GW_RETRIES
  -- R309, spec/13_yorun_ring.md
  | LINK
  | PORT_AMPLITUDE
  | WRAPPED
  | LINK_DELAY
  | FRAMES_IN
  | FRAMES_OUT
  | FCS_ERRORS
  | ABANDONED
  | HOP_MAX
  | PORT_HOP_SLOW
  | INSERT_WAIT_MAX
  | LINK_LOSSES
  | CIRCLED
  | DROPPED
  -- R310, spec/13_yorun_ring.md
  | IN_PROGRESS
  | REQUESTS
  | RETRIES_ANSWERED
  | TAG_CONFLICTS
  | NO_REPLY
  | GW_RETRIES_SENT
  | GW_GIVEN_UP
  | GW_DUPLICATES
  | SWEEPS
  | SWEEP_TIME
  | TIME_FRAMES
  | TIME_HEAD
  | NOTES_SENT
  | NOTES_TAKEN
  -- R332, spec/14_modes_startup.md
  | MODE
  | MODE_REQUEST
  | MODE_PREV
  | MODE_TIME
  | MODE_CAUSE
  | RESET_REQUEST
  | AUTO_RUN
  | RUN_ENABLE
  | ARM_STATE
  | BOOT_RESULT
  | BOOT_DURATION
  | ISLAND_TIMEOUT
  | ISLAND_ACTION
  | ISLAND_HOLD
  | ISLAND_COUNT
  | LAST_CONTACT
  | TRIP_LIMIT
  | TRIP_WINDOW
  | SAFE_COUNT
  | LOCKOUT_CLEAR
  | LOCKOUT_FLAG
  | STANDBY_AUTO
  | STANDBY_DELAY
  | WAKE_DELAY
  | STANDBY_ORIGIN
  -- R355, spec/15_faults_log.md
  | LOG_OLDEST
  | LOG_COUNT
  | LOG_WRAPPED
  | POST_DROPS
  | INCIDENTS
  | INCIDENT_OPEN
  | HEAD_FIRST
  | HEAD_LAST
  | INCIDENT_QUIET
  | LOG_PROBE
  | LOG_WINDOW
  | HISTORY
  | INJECT_ENABLE
  | INJECT_TARGET
  | INJECT_ARM
  | INJECT_STATE
  | INJECTIONS
  | ALIVE_STATE
  | TRIPI_MODE
  | TRIPI_LEVEL
  | TRIPI_COUNT
  | RAIL_STATE
  -- R356, spec/15_faults_log.md
  | CAUSES_PRESENT
  | CAUSES_LATCHED
  | OPEN_ORDINAL
  | OPEN_CAUSES
  | LAST_ORDINAL
  | RECORDS
  | MERGES
  | SHADOW_OF
  -- R371, spec/16_clocks_time.md
  | CLK_SOURCE
  | PLL_IN_USE
  | BACKUP_TRIM
  | ROOT_LOSSES
  | ROOT_RETURN_DELAY
  | DEVICE_TIME
  | RING_TIME
  | SYNC_STATE
  | RT_ERROR
  | RT_RATE
  | RT_STEPS
  | HOLDOVER_LIMIT
  | LAST_TIME_FRAME
  | SYNC_MODE
  | SYNC_PERIOD
  | SYNC_PHASE
  | SYNC_WIDTH
  | SYNC_FREE
  | SYNC_IN_DEVICE
  | SYNC_IN_RING
  | SYNC_EDGES
  | SYNC_SKIPPED
  -- R377, spec/17_observation.md
  | TRACE_DEST
  | TRACE_SOURCES
  | TRACE_ENGINES
  | TRACE_AXES
  | TRACE_PORTS
  | TRACE_MIN_SEV
  | TRACE_CONVS
  | TRACE_BUF_PROBE
  | TRACE_BUF_WINDOW
  | TRACE_BUF_NEWEST
  | TRACE_DROPS
  -- R398, spec/18_terminals_supply.md
  | VMA_VOLTAGE
  | VMB_VOLTAGE
  | VMA_CURRENT
  | VMB_CURRENT
  | AUX_VOLTAGE
  | LOGIC_POWER
  | HUB_TEMP
  | IRMS_MODULE
  | IRMS_DIE
  -- R20, spec/01_module_and_pass.md
  | REDUNDANCY
  -- R378, spec/17_observation.md
  | COUNTER
  | COUNTER_FROZEN
  | COUNTER_FREEZE
  -- machine registers without an object: INVENTORY.md, State, names the rule of each
  /-- 1 from first PLL lock: marks fall and device time counts (R363 of spec/16_clocks_time.md). -/
  | pllLocked
  /-- root selected at the release of RESET: 0 crystal, 1 REFIN, 2 backup (R357 of spec/16_clocks_time.md). -/
  | rootKind
  /-- device time up to which the ring-time estimate has been advanced (R365 of spec/16_clocks_time.md). -/
  | rtAt
  /-- ring time minus device time at rtAt, in 2^-32 tick (R365 of spec/16_clocks_time.md). -/
  | rtOffset
  /-- part of e/4 still to be moved, in 2^-32 tick (R365 of spec/16_clocks_time.md). -/
  | rtSlewLeft
  /-- device time at which the slew of the last frame ends (R365 of spec/16_clocks_time.md). -/
  | rtSlewEnd
  /-- rate of ring time against device time, in 2^-32 tick per tick (R365 of spec/16_clocks_time.md). -/
  | rtRateFine
  /-- consecutive slewed frames with an error of at most 250 ns (R366 of spec/16_clocks_time.md). -/
  | rtGood
  /-- consecutive frames with an error above 1 us (R366 of spec/16_clocks_time.md). -/
  | rtBad
  /-- 1 once the module has synchronised since reset (R367 of spec/16_clocks_time.md). -/
  | rtOnce
  /-- device time from which HOLDOVER_LIMIT runs: entry to SYNC_STATE 3 or the last usable frame in it (R366 of spec/16_clocks_time.md). -/
  | holdoverFrom
  /-- device time at which the root was lost (R361 of spec/16_clocks_time.md). -/
  | rootLostAt
  /-- 1 once BACKUP_TRIM has been measured (R364 of spec/16_clocks_time.md). -/
  | trimKnown
  /-- trim the PLL applies while the backup oscillator serves, in ppb (R364 of spec/16_clocks_time.md). -/
  | pllTrim
  /-- device time up to which pllTrim has followed RT_RATE (R364 of spec/16_clocks_time.md). -/
  | pllTrimAt
  /-- ring-time instant of the last SYNC pulse sent or passed over (R369 of spec/16_clocks_time.md). -/
  | syncNext
  /-- level of the SYNC terminal in output mode (R369 of spec/16_clocks_time.md). -/
  | syncLevel
  /-- device time at which SYNC last went high (R369 of spec/16_clocks_time.md). -/
  | syncHighFrom
  /-- ordinal of the first fault of the open incident (R342 of spec/15_faults_log.md). -/
  | incidentFirst
  /-- PASS_COUNT of the pass of its last non-consequent severe record (R342 of spec/15_faults_log.md). -/
  | incidentPass
  /-- device time at which the injection was armed (R350 of spec/15_faults_log.md). -/
  | injectAt
  /-- 1 while a fired injection is reacting: its records carry INJECTED (R350 of spec/15_faults_log.md). -/
  | injecting
  /-- 1 from a TRIP record that leads to SAFE: ALIVE does not change level (R352 of spec/15_faults_log.md). -/
  | aliveStop
  /-- level of ALIVE (R352 of spec/15_faults_log.md). -/
  | alive
  /-- 1 from the end of the hub self-test: ALIVE toggles in BOOT (R311 of spec/14_modes_startup.md). -/
  | aliveBoot
  /-- PASS_COUNT plus 1 of the last mark that took a mode change (R313 of spec/14_modes_startup.md). -/
  | modeMark
  /-- bit f: feed f has been within 18-60 V since reset (R21 of spec/01_module_and_pass.md). -/
  | feedSeen
  /-- bit p: port p has had a link since reset (R21 of spec/01_module_and_pass.md). -/
  | portSeen
  /-- accepted MODE_REQUEST waiting for its mark; 0 none (R314 of spec/14_modes_startup.md). -/
  | modeReq
  /-- MODE_CAUSE of a SAFE entry that waits for the next mark; 0 none (R323 of spec/14_modes_startup.md). -/
  | tripPending
  /-- MODE_CAUSE of a LOCKOUT entry that waits for the next mark; 0 none (R325 of spec/14_modes_startup.md). -/
  | lockoutPending
  /-- an accepted LOCKOUT_CLEAR waits for the next mark (R326 of spec/14_modes_startup.md). -/
  | clearPending
  /-- ARMED was entered from BOOT or by automatic wake (R320 of spec/14_modes_startup.md). -/
  | armAuto
  /-- a plan is placed (R315 of spec/14_modes_startup.md). -/
  | planPlaced
  /-- device time at which the island timer last started (R321 of spec/14_modes_startup.md). -/
  | islandFrom
  /-- the island timer expired during a swap (R321 of spec/14_modes_startup.md). -/
  | islandInSwap
  /-- device time of the ISLAND entry mark (R322 of spec/14_modes_startup.md). -/
  | islandMark
  /-- a head contact in ISLAND waits for the next mark (R322 of spec/14_modes_startup.md). -/
  | contactPending
  /-- device time plus 1 since which the condition of automatic standby has held; 0 does not hold (R327 of spec/14_modes_startup.md). -/
  | standbySince
  /-- device time plus 1 since which BUS_VM has been above 16.5 V in STANDBY; 0 is not (R329 of spec/14_modes_startup.md). -/
  | wakeSince
  /-- device time plus 1 of the last bit of an accepted RESET_REQUEST; 0 none (R316 of spec/14_modes_startup.md). -/
  | resetDue
  /-- device time plus 1 at which the last bit of its reply has left; 0 not yet (R316 of spec/14_modes_startup.md). -/
  | resetSent
  /-- boot found no firmware, steward core, trip sequencer or SDRAM: only RESET leaves BOOT (R318 of spec/14_modes_startup.md). -/
  | bootStuck
  /-- device time at which that SAFE entry was asked for (R323 of spec/14_modes_startup.md). -/
  | tripFrom
  /-- device time at which ARM_STATE last went to 1 (R320 of spec/14_modes_startup.md). -/
  | armAt
  /-- the island timer expired before a later contact, and no mark has come since (R321 of spec/14_modes_startup.md). -/
  | islandExp
  /-- microseconds from the release of RESET to first PLL lock (R332 of spec/14_modes_startup.md). -/
  | lockDelay
  /-- step 3 of boot has ended: READ is answered (R317 of spec/14_modes_startup.md). -/
  | flashRead
  /-- device time from which a queue reset by R270 takes pushes and pops again (R270 of spec/12_queues.md). -/
  | qVoid
  /-- TRACE_ENGINES as of the latest mark (R376 of spec/17_observation.md). -/
  | tfEngines
  /-- TRACE_AXES as of the latest mark (R376 of spec/17_observation.md). -/
  | tfAxes
  /-- TRACE_PORTS as of the latest mark (R376 of spec/17_observation.md). -/
  | tfPorts
  /-- TRACE_MIN_SEV as of the latest mark (R376 of spec/17_observation.md). -/
  | tfMinSev
  /-- TRACE_CONVS as of the latest mark (R376 of spec/17_observation.md). -/
  | tfConvs
  /-- records dropped since the last DROP record (R375 of spec/17_observation.md). -/
  | dropPending
  /-- device time before which the trace unit pops no further word (R372 of spec/17_observation.md). -/
  | traceNext
  /-- the protected head is complete: no further ordinal joins it (R343 of spec/15_faults_log.md). -/
  | headDone
  /-- VMAX in effect (R52 of spec/03_moves.md). -/
  | effV
  /-- AMAX in effect (R52 of spec/03_moves.md). -/
  | effA
  /-- DMAX in effect (R53 of spec/03_moves.md). -/
  | effD
  /-- JMAX in effect (R53 of spec/03_moves.md). -/
  | effJ
  /-- limit objects written since the last profile step: bit 0 VMAX, 1 AMAX, 2 DMAX, 3 JMAX (R45, R53 of spec/03_moves.md). -/
  | limNew
  /-- device time of the last write of a limit: of VMAX, AMAX, DMAX and JMAX of axis n at 4n, 4n + 1, 4n + 2 and 4n + 3 (R45 of spec/03_moves.md). -/
  | limAt
  /-- STOP value waiting for the profile step (R60 of spec/03_moves.md). -/
  | stopPend
  /-- device time of that write (R45 of spec/03_moves.md). -/
  | stopAt
  /-- a TARGET write waits for the profile step (R51 of spec/03_moves.md). -/
  | tgtPend
  /-- its value (R51 of spec/03_moves.md). -/
  | tgtVal
  /-- device time of that write (R45 of spec/03_moves.md). -/
  | tgtAt
  /-- a QUEUE_FLUSH waits for the profile step in which a record may be taken (R62 of spec/03_moves.md). -/
  | flushPend
  /-- move in progress: 0 none, 1 to a position, 2 at a speed toward the soft limit (R48, R58 of spec/03_moves.md). -/
  | goalKind
  /-- target in effect, in 2^-16 microstep (R57 of spec/03_moves.md). -/
  | goalQ
  /-- speed cap of the move in progress; 0 none (R65 of spec/03_moves.md). -/
  | goalCap
  /-- signed speed of the velocity move (R65 of spec/03_moves.md). -/
  | velGoal
  /-- device time at which the last record completed within a step or by an arrival (R67 of spec/03_moves.md). -/
  | readyAt
  /-- what the next mark completes: bit 0 a move, bit 1 its record, bit 2 the axis goes to HOLD, bit 3 a soft-limit stop of R58, bit 4 no record waited behind it (R46 of spec/03_moves.md). -/
  | finPend
  /-- TAG of that record (R46 of spec/03_moves.md). -/
  | finTag
  /-- device time plus 1 of a zero crossing that the next mark reports; 0 none (R50 of spec/03_moves.md). -/
  | sadDue
  /-- increment the profile step wrote for the next pass, 2^-16 microstep (R44 of spec/03_moves.md). -/
  | incPlan
  /-- increment shadow of the power die, 2^-16 microstep (R12 of spec/01_module_and_pass.md). -/
  | incShadow
  /-- the increment was held in the last pass: the next profile step plans afresh (R229 of spec/10_engines_placement.md). -/
  | incHeld
  /-- consecutive passes without a written increment (R14 of spec/01_module_and_pass.md). -/
  | incMissed
  /-- consecutive passes in which interpolation set-up has committed (R354 of spec/15_faults_log.md). -/
  | incOk
  /-- PASS_COUNT plus 1 of the last committed feedback fold-in (R217 of spec/10_engines_placement.md). -/
  | stampFold
  /-- PASS_COUNT plus 1 of the last committed profile step (R217 of spec/10_engines_placement.md). -/
  | stampProfile
  /-- PASS_COUNT plus 1 of the last committed interpolation set-up (R217 of spec/10_engines_placement.md). -/
  | stampInterp
  /-- PASS_COUNT plus 1 of the last committed load-index step (R217 of spec/10_engines_placement.md). -/
  | stampLoad
  /-- a released record: 0 none, 1 waits for its instant, 2 planned from it, 3 in the pass of its instant (R74 of spec/03_moves.md). -/
  | relWait
  /-- the waiting release starts late, at the next mark (R73 of spec/03_moves.md). -/
  | relLate
  /-- a SET_POSITION waits for its mark (R61 of spec/03_moves.md). -/
  | setPend
  /-- its value (R61 of spec/03_moves.md). -/
  | setVal
  /-- a limit is held at its required value for the present move (R54 of spec/03_moves.md). -/
  | deferMove
  /-- goal G of the follower's reconstructed source position, in 2^-16 microstep (R78 of spec/04_following.md). -/
  | srcGoal
  /-- r at the latest update, in 2^-16 microstep (R78 of spec/04_following.md). -/
  | srcFrom
  /-- device time of the latest update (R78 of spec/04_following.md). -/
  | srcAt
  /-- interval over which r moves to G (R78 of spec/04_following.md). -/
  | srcSpan
  /-- 1 once an update has arrived since reset or engagement (R78 of spec/04_following.md). -/
  | srcNew
  /-- source position s of the pass, in 2^-16 microstep (R76 of spec/04_following.md). -/
  | srcQ
  /-- s of the pass before (R79 of spec/04_following.md). -/
  | srcPrev
  /-- 1 while a source position exists (R86 of spec/04_following.md). -/
  | srcOk
  /-- geared position of the pass, in 2^-16 microstep (R79 of spec/04_following.md). -/
  | gearQ
  /-- geared position of the pass before (R79 of spec/04_following.md). -/
  | gearPrev
  /-- FOLLOW_ORIGIN, in 2^-16 microstep (R79 of spec/04_following.md). -/
  | foOrg
  /-- SOURCE_ORIGIN, in 2^-16 microstep (R79 of spec/04_following.md). -/
  | soOrg
  /-- RATIO_NUM in effect (R80 of spec/04_following.md). -/
  | effNum
  /-- RATIO_DEN in effect (R80 of spec/04_following.md). -/
  | effDen
  /-- an engagement waits for the next mark (R81 of spec/04_following.md). -/
  | followPend
  /-- FOLLOW_CTRL 0x00 waits for the profile step (R89 of spec/04_following.md). -/
  | discPend
  /-- device time of that write (R45 of spec/04_following.md). -/
  | discAt
  /-- PASS_COUNT of the mark at which engagement took effect (R86 of spec/04_following.md). -/
  | engagedAt
  /-- the origins wait for a source position (R86 of spec/04_following.md). -/
  | origWait
  /-- device time plus 1 of the latest active STEP edge of the pair (R93 of spec/04_following.md). -/
  | stepAt
  /-- live count of the channel (R171 of spec/08_feedback_sense.md). -/
  | chCount
  /-- filtered levels of A (bit 0) and B (bit 1) (R171 of spec/08_feedback_sense.md). -/
  | qState
  /-- intervals of the history in its direction, 0 to 4, plus 1; 0: empty (R175 of spec/08_feedback_sense.md). -/
  | edgeN
  /-- direction of the last counted edge (R175 of spec/08_feedback_sense.md). -/
  | edgeDir
  /-- device time of the latest edge of the history of intervals, counted or illegal (R175 of spec/08_feedback_sense.md). -/
  | edgeT1
  /-- of the edge before it (R175 of spec/08_feedback_sense.md). -/
  | edgeT2
  /-- of the edge before that (R175 of spec/08_feedback_sense.md). -/
  | edgeT3
  /-- of the edge before that (R175 of spec/08_feedback_sense.md). -/
  | edgeT4
  /-- of the edge before that (R175 of spec/08_feedback_sense.md). -/
  | edgeT5
  /-- time over SPEED_SPAN edges of the last estimate (R175 of spec/08_feedback_sense.md). -/
  | edgeDt
  /-- illegal changes in the present window of 1,000 passes (R172 of spec/08_feedback_sense.md). -/
  | illegalWin
  /-- device time plus 1 of the last illegal change (R173 of spec/08_feedback_sense.md). -/
  | illegalAt
  /-- reference learned under INDEX_MODE 1 (R173 of spec/08_feedback_sense.md). -/
  | idxRef
  /-- containment ends at the next mark (R170 of spec/08_feedback_sense.md). -/
  | chFreePend
  /-- a CH_PRESET waits for its mark (R177 of spec/08_feedback_sense.md). -/
  | prePend
  /-- its value (R177 of spec/08_feedback_sense.md). -/
  | preVal
  /-- frame: 0 none, 1 waits for the data line, 2 runs (R176 of spec/08_feedback_sense.md). -/
  | ssiState
  /-- time stamp of the frame that runs (R176 of spec/08_feedback_sense.md). -/
  | ssiStamp
  /-- time stamp of the last valid frame (R176 of spec/08_feedback_sense.md). -/
  | ssiLast
  /-- 1 once a valid frame has been taken (R176 of spec/08_feedback_sense.md). -/
  | absHave
  /-- raw value of the last valid frame (R176 of spec/08_feedback_sense.md). -/
  | absPrev
  /-- consecutive invalid frames (R177 of spec/08_feedback_sense.md). -/
  | absErr
  /-- the latch is armed (R179 of spec/08_feedback_sense.md). -/
  | latchArmed
  /-- ring time has reached LATCH_AT since it was armed (R367 of spec/16_clocks_time.md). -/
  | latchDone
  /-- device time plus 1 of the latest filtered edge of the input (R182 of spec/08_feedback_sense.md). -/
  | senseAt
  /-- CMD_POS at the alignment of FB_ORIGIN, moved by reassignments (R180 of spec/08_feedback_sense.md). -/
  | fbCmd
  /-- CH_POS at that alignment (R180 of spec/08_feedback_sense.md). -/
  | fbCh
  /-- an alignment has taken place since the axis was enabled (R181 of spec/08_feedback_sense.md). -/
  | fbAligned
  /-- an alignment is due at the next mark (R180 of spec/08_feedback_sense.md). -/
  | fbAlignPend
  /-- a hard stop for a deviation is due in the load-index step (R181 of spec/08_feedback_sense.md). -/
  | devStop
  /-- E of the output as last formed (R185 of spec/08_feedback_sense.md). -/
  | emE
  /-- output count at the end of the pass (R185 of spec/08_feedback_sense.md). -/
  | emNext
  /-- STREAM_TIMEOUT has expired and no sample has arrived since (R90 of spec/04_following.md). -/
  | srcLost
  /-- angle at the latest mark with its fraction, in 2^-16 position (R94 of spec/05_current_microstep.md). -/
  | angleQ
  /-- amplitude shadow of the power die, mA (R99 of spec/05_current_microstep.md). -/
  | ampShadow
  /-- its source (R99 of spec/05_current_microstep.md). -/
  | ampSrcShadow
  /-- BAND in effect (R103 of spec/05_current_microstep.md). -/
  | effBand
  /-- BLANK in effect (R103 of spec/05_current_microstep.md). -/
  | effBlank
  /-- DECAY_MODE in effect (R103 of spec/05_current_microstep.md). -/
  | effDecay
  /-- MIX_TIME in effect (R103 of spec/05_current_microstep.md). -/
  | effMix
  /-- TOFF_MAX in effect (R103 of spec/05_current_microstep.md). -/
  | effToff
  /-- chopper state: 0 OPEN, 1 ON, 2 SLOW, 3 FAST (register 2n + phase) (R104 of spec/05_current_microstep.md). -/
  | phState
  /-- sign of the conducting direction; 0 none yet (R104 of spec/05_current_microstep.md). -/
  | phSign
  /-- the phase is in a reversal (R104 of spec/05_current_microstep.md). -/
  | phRev
  /-- CKP cycle in which blanking of the present or last on time started, or will start while phPend is 1 (R104 of spec/05_current_microstep.md). -/
  | phOnAt
  /-- CKP cycle of the off command (R104 of spec/05_current_microstep.md). -/
  | phOffAt
  /-- magnitude of REF at the start of that on time (R105 of spec/05_current_microstep.md). -/
  | phOnRef
  /-- on time of the present chopper cycle (R113 of spec/05_current_microstep.md). -/
  | phTon
  /-- present cycle: bit 0 W above 0, 1 FAST, 2 early trip or TOFF_MAX, 3 reversal, 4 reference high, 5 a cycle runs, 6 threshold clamped (R113 of spec/05_current_microstep.md). -/
  | phFlags
  /-- automatic widening W (R106 of spec/05_current_microstep.md). -/
  | phW
  /-- a cycle shorter than 750 CKP cycles completed in this pass (R106 of spec/05_current_microstep.md). -/
  | phShort
  /-- the phase had a peak event in this pass (R151 of spec/07_bridges.md). -/
  | phPeak
  /-- signature cycle recorded in this pass, with its flags (R113 of spec/05_current_microstep.md). -/
  | phRec
  /-- its on time (R113 of spec/05_current_microstep.md). -/
  | phRecOn
  /-- its off time (R113 of spec/05_current_microstep.md). -/
  | phRecOff
  /-- sum of the valid error samples of the pass, 1/16 code (register 2n + phase) (R107 of spec/05_current_microstep.md). -/
  | adSum
  /-- sum of the harvested currents of those samples, 1/16 code (R151 of spec/07_bridges.md). -/
  | adMag
  /-- their number (R107 of spec/05_current_microstep.md). -/
  | adCnt
  /-- filtered error F, in 2^-24 of 1/16 code (R109 of spec/05_current_microstep.md). -/
  | adF
  /-- valid updates of the phase since the last accumulator reset (R109 of spec/05_current_microstep.md). -/
  | adUpd
  /-- REF of the phase has reached ADAPT_MIN_REF since then (R109 of spec/05_current_microstep.md). -/
  | adSeen
  /-- the accumulator of the phase is pushed against its limit (R111 of spec/05_current_microstep.md). -/
  | adSat
  /-- an accumulator reset waits for the next mark (R110 of spec/05_current_microstep.md). -/
  | adReset
  /-- consecutive passes that meet the open-phase condition (R151 of spec/07_bridges.md). -/
  | openRun
  /-- fault latch of rank 3 of the axis (R140 of spec/07_bridges.md). -/
  | faultLatch
  /-- containment that takes effect at the next mark: 1 OPEN, 2 HELD (R149 of spec/07_bridges.md). -/
  | contPend
  /-- an accepted enable waits for the next mark (R145 of spec/07_bridges.md). -/
  | drivePend
  /-- a disable: 1 at the next mark, 2 once the stop completes, 3 a HELD axis goes OPEN (R146 of spec/07_bridges.md). -/
  | disPend
  /-- a REARM waits for the next mark: 1 of the host, 2 of a retry (R156 of spec/07_bridges.md). -/
  | rearmPend
  /-- a removal of ENA1 or ENA2 takes effect on the axes at the next mark (R158 of spec/07_bridges.md). -/
  | enaPend
  /-- device time plus 1 since which ENA1 and ENA2 differ (R158 of spec/07_bridges.md). -/
  | enaDiffFrom
  /-- DRIVE_STATE that short-brake interrupts (R154 of spec/07_bridges.md). -/
  | prevDrive
  /-- short-brake is in force on the die (R154 of spec/07_bridges.md). -/
  | brakeOn
  /-- bus undervoltage: every die holds rank 2 (R153 of spec/07_bridges.md). -/
  | uvOn
  /-- bus-undervoltage comparator asserted (R149 of spec/07_bridges.md). -/
  | busUvOn
  /-- bus-low comparator asserted (R149 of spec/07_bridges.md). -/
  | busLowOn
  /-- bus-high comparator asserted (R149 of spec/07_bridges.md). -/
  | busHighOn
  /-- the die is held off until reset (R348 too) (R318 of spec/14_modes_startup.md). -/
  | dieOff
  /-- BRIDGE_FAULT bits whose cause persists until a diagnostic, a pass or a reassignment ends it (R166 of spec/07_bridges.md). -/
  | brPersist
  /-- PASS_COUNT plus 1 of the mark at which a retry is due; 0 none (R157 of spec/07_bridges.md). -/
  | retryAt
  /-- the axis's queued or running diagnostic is a retry (R157 of spec/07_bridges.md). -/
  | retryDiag
  /-- PASS_COUNT from which passes in CHOPPING without an overcurrent count (R157 of spec/07_bridges.md). -/
  | chopFrom
  /-- device time at which the die's running diagnostic started (R160 of spec/07_bridges.md). -/
  | diagFrom
  /-- DIRECT: 1 entered, 2 left at the next mark (R164 of spec/07_bridges.md). -/
  | directPend
  /-- a pulse starts at the next mark (R164 of spec/07_bridges.md). -/
  | firePend
  /-- device time at which the running pulse ends; 0 none (R164 of spec/07_bridges.md). -/
  | pulseEnd
  /-- device time plus 1 of the start of the last refresh (register 4n + high side) (R148 of spec/07_bridges.md). -/
  | refreshAt
  /-- that refresh runs (R148 of spec/07_bridges.md). -/
  | refreshOn
  /-- commanded position at the latest mark, in 2^-16 microstep (R41 of spec/03_moves.md). -/
  | posQ
  /-- a reassignment at the next mark: 1 to a value, 2 by a shift (R128 of spec/06_stall_load.md). -/
  | asgPend
  /-- that value or shift (R128 of spec/06_stall_load.md). -/
  | asgVal
  /-- what reports the shift: 1 STALL_SHIFT, 2 HOME_SHIFT, 3 HOME_SHIFT and POS_UNSURE ends (R127 of spec/06_stall_load.md). -/
  | asgStall
  /-- the axis posts DIE_SHUTDOWN at the next mark (R354 of spec/15_faults_log.md). -/
  | diePend
  /-- built-in slots of the axis write nothing until REARM (R215 of spec/10_engines_placement.md). -/
  | ledBad
  /-- limit inputs whose activation a profile step has seen (R184 of spec/08_feedback_sense.md). -/
  | limSeen
  /-- first increment of a released record: 0 none, 1 held until RELEASE_START, otherwise the CKP cycle it began in plus 2 (R72 of spec/03_moves.md). -/
  | relFrom
  /-- 0 none, 1 search, 2 stop after a limit find, 3 first back-off due, 4 it runs, 5 second search, 6 second back-off due, 7 it runs, 8 return due, 9 it runs, 10 a STOP runs (R131 of spec/06_stall_load.md). -/
  | hmPhase
  /-- device time plus 1 of a limit-input find; 0 none (R132 of spec/06_stall_load.md). -/
  | hmFoundAt
  /-- PASS_COUNT of a stall find (R130 of spec/06_stall_load.md). -/
  | hmPass
  /-- starting position of an exercise run, moved by reassignments, in 2^-16 microstep (R134 of spec/06_stall_load.md). -/
  | hmStart
  /-- lowest index of the present run of low steps (R134 of spec/06_stall_load.md). -/
  | exPend
  /-- a full step is open (R115 of spec/06_stall_load.md). -/
  | fsOpen
  /-- ANGLE div 1,024 at its opening mark (R115 of spec/06_stall_load.md). -/
  | fsQuad
  /-- its passes (R115 of spec/06_stall_load.md). -/
  | fsPasses
  /-- sum of its increments, 2^-16 microstep (R115 of spec/06_stall_load.md). -/
  | fsSum
  /-- CMD_ACC was not 0 at one of its marks (R117 of spec/06_stall_load.md). -/
  | fsAcc
  /-- least amplitude in effect at its marks, mA (R121 of spec/06_stall_load.md). -/
  | fsAmpLo
  /-- largest (R121 of spec/06_stall_load.md). -/
  | fsAmpHi
  /-- sum of TON of its kept samples (R117 of spec/06_stall_load.md). -/
  | fsOn
  /-- sum of TOFF (R117 of spec/06_stall_load.md). -/
  | fsOff
  /-- number of kept samples (R117 of spec/06_stall_load.md). -/
  | fsCnt
  /-- sum of the bus-voltage results of its passes, 10 mV (R117 of spec/06_stall_load.md). -/
  | fsVm
  /-- their number (R117 of spec/06_stall_load.md). -/
  | fsVmCnt
  /-- sum of its pair slopes, Q16.16 codes/us (R118 of spec/06_stall_load.md). -/
  | fsSlope
  /-- number of pairs (R118 of spec/06_stall_load.md). -/
  | fsPairs
  /-- CMD_POS at its opening mark (R126 of spec/06_stall_load.md). -/
  | fsPos
  /-- a closed step waits for the load-index step (R115 of spec/06_stall_load.md). -/
  | clReady
  /-- the closed step: its passes (R115 of spec/06_stall_load.md). -/
  | clPasses
  /-- sum of its increments (R115 of spec/06_stall_load.md). -/
  | clSum
  /-- CMD_ACC was not 0 at one of its marks (R117 of spec/06_stall_load.md). -/
  | clAcc
  /-- least amplitude (R121 of spec/06_stall_load.md). -/
  | clAmpLo
  /-- largest amplitude (R121 of spec/06_stall_load.md). -/
  | clAmpHi
  /-- sum of TON (R117 of spec/06_stall_load.md). -/
  | clOn
  /-- sum of TOFF (R117 of spec/06_stall_load.md). -/
  | clOff
  /-- kept samples (R117 of spec/06_stall_load.md). -/
  | clCnt
  /-- sum of bus results (R117 of spec/06_stall_load.md). -/
  | clVm
  /-- their number (R117 of spec/06_stall_load.md). -/
  | clVmCnt
  /-- sum of pair slopes (R118 of spec/06_stall_load.md). -/
  | clSlope
  /-- pairs (R118 of spec/06_stall_load.md). -/
  | clPairs
  /-- opening position (R126 of spec/06_stall_load.md). -/
  | clPos
  /-- device time of the closing mark (R126 of spec/06_stall_load.md). -/
  | clTime
  /-- number of the phase's present off time (register 2n + phase) (R118 of spec/06_stall_load.md). -/
  | phOffNum
  /-- reaction 1: no further stall is declared (R127 of spec/06_stall_load.md). -/
  | stBlock
  /-- consecutive formed steps at or above the threshold since then (R127 of spec/06_stall_load.md). -/
  | stGood
  /-- sum of the die's bus results of the pass, 10 mV (R123 of spec/06_stall_load.md). -/
  | dvSum
  /-- their number (R123 of spec/06_stall_load.md). -/
  | dvCnt
  /-- mean bus voltage of the last pass with a result (R123 of spec/06_stall_load.md). -/
  | dvLast
  /-- a STALL_RELEASE waits for the next mark (R129 of spec/06_stall_load.md). -/
  | stallRel
  /-- learning run: 1 starts at the next mark, 2 a leg runs, 3 a leg has ended, 4 succeeded, table active at the next mark (R124 of spec/06_stall_load.md). -/
  | lnOn
  /-- the leg waits for the profile step (R124 of spec/06_stall_load.md). -/
  | lnGo
  /-- index of its LEARN_SPEED, 0 to 7 (R124 of spec/06_stall_load.md). -/
  | lnPoint
  /-- 0 first leg, 1 return (R124 of spec/06_stall_load.md). -/
  | lnLeg
  /-- starting position, 2^-16 microstep (R124 of spec/06_stall_load.md). -/
  | lnStart
  /-- condition record of the run (R123 of spec/06_stall_load.md). -/
  | lnCond
  /-- steps collected on the leg (R124 of spec/06_stall_load.md). -/
  | lnCnt
  /-- sum of TON normalised to VM_L, 2^-32; sum of pair slopes for the ripple method (R125 of spec/06_stall_load.md). -/
  | lnSamp
  /-- sum of TOFF; number of pairs for the ripple method (R125 of spec/06_stall_load.md). -/
  | lnOff
  /-- sum of the RATIO values (R125 of spec/06_stall_load.md). -/
  | lnR1
  /-- sum of their squares (R125 of spec/06_stall_load.md). -/
  | lnR2
  /-- method of the steps collected (R125 of spec/06_stall_load.md). -/
  | lnMeth
  /-- entries collected so far (register 16n + k) (R125 of spec/06_stall_load.md). -/
  | lnEntry
  /-- HOME result that the next mark posts: 16 times the method plus the result; 0 none (R132 of spec/06_stall_load.md). -/
  | finHome
  /-- r at the latest mark, in 2^-16 microstep (R78 of spec/04_following.md). -/
  | srcMark
  /-- RATIO_NUM as of the latest mark (R80 of spec/04_following.md). -/
  | markNum
  /-- RATIO_DEN as of the latest mark (R80 of spec/04_following.md). -/
  | markDen
  /-- start of the running sequence of the lockstep group, in half ticks of device time (R195 of spec/09_converters.md). -/
  | seqStart
  /-- its end (R195 of spec/09_converters.md). -/
  | seqEnd
  /-- a trigger is latched (R196 of spec/09_converters.md). -/
  | trigHeld
  /-- number of the next sequence entry plus 1; 0: the sequence does not run (R194 of spec/09_converters.md). -/
  | cvPos
  /-- conversion in progress or due: 0 none, 1 the entry cvEnt, 2 urgent (R192 of spec/09_converters.md). -/
  | cvCur
  /-- start of that conversion, in half ticks of device time (R195 of spec/09_converters.md). -/
  | cvFrom
  /-- urgent request held: URGENT_REQ value plus 1 (R197 of spec/09_converters.md). -/
  | cvUrg
  /-- the next result is SUSPECT (R201 of spec/09_converters.md). -/
  | cvSusp
  /-- the result register holds an untaken result (R198 of spec/09_converters.md). -/
  | hdFull
  /-- its raw code (R192 of spec/09_converters.md). -/
  | hdCode
  /-- its entry, 0xF for urgent (R192 of spec/09_converters.md). -/
  | hdEntry
  /-- its input (R192 of spec/09_converters.md). -/
  | hdInput
  /-- its gain (R192 of spec/09_converters.md). -/
  | hdGain
  /-- bit 0 OOR, 1 SUSPECT, 2 OVERRUN, 3 urgent, 4 CAPTURE (R192 of spec/09_converters.md). -/
  | hdFlags
  /-- device time of its sample instant (R192 of spec/09_converters.md). -/
  | hdTime
  /-- REF latched with it (R107 of spec/05_current_microstep.md). -/
  | hdRef
  /-- bit 0 the chopper was OPEN, 1 the phase was in a reversal, 2 flagged for a slope pair (R118) (R107 of spec/05_current_microstep.md). -/
  | hdTag
  /-- number of the off time of its window (R118 of spec/06_stall_load.md). -/
  | hdOff
  /-- device time from which the harvest unit is idle (R198 of spec/09_converters.md). -/
  | hvFree
  /-- overruns in the present window of 1,000 passes (R198 of spec/09_converters.md). -/
  | ovrWin
  /-- the last ground result was outside GND_TOL (R203 of spec/09_converters.md). -/
  | gndRun
  /-- device time plus 1 of the start of a self-check; 0 none (R203 of spec/09_converters.md). -/
  | scOn
  /-- point being measured: 0 none, 1 zero, 2 full (R205 of spec/09_converters.md). -/
  | calBusy
  /-- device time of its start (R205 of spec/09_converters.md). -/
  | calAt
  /-- its converter (R205 of spec/09_converters.md). -/
  | calC
  /-- its gain (R205 of spec/09_converters.md). -/
  | calG
  /-- mean of the zero point (register 4c + gain) (R205 of spec/09_converters.md). -/
  | calZero
  /-- mean of the full point (R205 of spec/09_converters.md). -/
  | calFull
  /-- points measured since the last computation: bit 0 zero, bit 1 full (R205 of spec/09_converters.md). -/
  | calHave
  /-- an accepted pair takes effect at the next mark (register 4c + gain) (R205 of spec/09_converters.md). -/
  | calPend
  /-- its OFS (R205 of spec/09_converters.md). -/
  | calOfsNew
  /-- its GAIN (R205 of spec/09_converters.md). -/
  | calGainNew
  /-- a pair has been loaded from flash or computed (register 4c + gain) (R206 of spec/09_converters.md). -/
  | calHas
  /-- angleQ of the pass before (R107 of spec/05_current_microstep.md). -/
  | angleOld
  /-- ANGLE_INC of the pass before (R107 of spec/05_current_microstep.md). -/
  | incOld
  /-- AMP_CODE of the pass before (R107 of spec/05_current_microstep.md). -/
  | ampOld
  /-- chopper states before the last changes, the latest first (registers 8n + 4 phase and on): bits 1:0 the state, bit 2 in a reversal (R107 of spec/05_current_microstep.md). -/
  | phWas
  /-- CKP cycle of the last change of chopper state (R118 of spec/06_stall_load.md). -/
  | phSince
  /-- CKP cycles in which the phase had gone to those states (R118 of spec/06_stall_load.md). -/
  | phWasAt
  /-- entry of the conversion in progress (R194 of spec/09_converters.md). -/
  | cvEnt
  /-- an IMAGE_CLOSE runs (R257 of spec/11_programs.md). -/
  | imgBusy
  /-- its image (R257 of spec/11_programs.md). -/
  | imgNum
  /-- the length written (R257 of spec/11_programs.md). -/
  | imgLen
  /-- flash bank from which the module booted (R258 of spec/11_programs.md). -/
  | bootBank
  /-- PASS_COUNT plus 1 of the pass in which the slot was last issued or cut off (R217 of spec/10_engines_placement.md). -/
  | slotAt
  /-- PASS_COUNT plus 1 of the pass in which the trip program of the axis last started (R250 of spec/11_programs.md). -/
  | tripAt
  /-- TARGET as committed at the latest mark (R246 of spec/11_programs.md). -/
  | mkTarget
  /-- LOAD_INDEX, LI_STATE and STALL_RUN as committed at the latest mark, in the layout of ledger word 40 (R246 of spec/11_programs.md). -/
  | mkLoad
  /-- FB_POS as committed at the latest mark (R246 of spec/11_programs.md). -/
  | mkFbPos
  /-- DEVIATION as committed at the latest mark (R246 of spec/11_programs.md). -/
  | mkDev
  /-- a steward takeover runs: no frame is answered (R18 of spec/01_module_and_pass.md). -/
  | takeover
  /-- device time at which it began (R18 of spec/01_module_and_pass.md). -/
  | takeoverAt
  /-- plan being loaded into the inactive bank: 0 none, 1 fallback plan, 2 rebuild, 3 plan placed after ENGINE_CLEAR (R228 of spec/10_engines_placement.md). -/
  | loadKind
  /-- engine whose fallback plan loads (R228 of spec/10_engines_placement.md). -/
  | loadFor
  /-- device time by which the load has ended (R228 of spec/10_engines_placement.md). -/
  | loadEnd
  /-- fallback plans under construction: 0 none, 1 for the loss of a further engine, 2 of an adopted plan (R230 of spec/10_engines_placement.md). -/
  | planBuild
  /-- engine in its ENGINE_CLEAR self-test, plus 1; 0 none (R231 of spec/10_engines_placement.md). -/
  | selfTest
  /-- device time at which it began (R231 of spec/10_engines_placement.md). -/
  | selfTestAt
  /-- the fallback state is left at the next mark (R231 of spec/10_engines_placement.md). -/
  | leaveFallback
  /-- image of the swap in progress (R233 of spec/10_engines_placement.md). -/
  | swapImg
  /-- a COMMIT that has passed its checks waits for its mark (R32 of spec/02_dictionary_status.md). -/
  | commitRun
  /-- trip sequencer contained, plus 1; 0 none (R19 of spec/01_module_and_pass.md). -/
  | tsOut
  /-- both trip sequencers owe a self-test after a mismatch (R19 of spec/01_module_and_pass.md). -/
  | tsTest
  /-- flash banks that are unreadable (R17 of spec/01_module_and_pass.md). -/
  | flashBad
  /-- flash bank that holds the current committed set (R31 of spec/02_dictionary_status.md). -/
  | flashCur
  /-- device time plus 1 at which the rail test of the path began (register 2k + path, 0 ERR, 1 TRIP); 0 none (R348 of spec/15_faults_log.md). -/
  | railOn
  /-- rails of the die marked stuck, in the layout of RAIL_STATE (R348 of spec/15_faults_log.md). -/
  | railStuck
  /-- R292 has applied since the last slot write (R299 of spec/13_yorun_ring.md). -/
  | hopSlow
  /-- device time plus 1 at which the link of the port last came up (R302 of spec/13_yorun_ring.md). -/
  | linkAt
  /-- device time plus 1 of the port's last link probe; 0 one is due (R305 of spec/13_yorun_ring.md). -/
  | probeAt
  /-- queue of the packet under the port's rewind mark; 0 none (R273 of spec/12_queues.md). -/
  | lastTx
  /-- device time plus 1 of the last TIME frame of the head; 0 none (R303 of spec/13_yorun_ring.md). -/
  | headAt
  /-- the last frame of the port was ended with a wrong FCS (R288 of spec/13_yorun_ring.md). -/
  | wireBad
  /-- device time plus 1 of the request taken up last (R24 of spec/02_dictionary_status.md). -/
  | reqAt
  /-- its port (R24 of spec/02_dictionary_status.md). -/
  | reqPort
  /-- device time plus 1 of the last bit of a head's sweep that is still arriving and counts as contact then; 0 none (R321 of spec/14_modes_startup.md). -/
  | sweepEnd
  /-- device time from which PAIR_FAULT of the pair has been set (R90 of spec/04_following.md). -/
  | pairAt
  /-- SEQ plus 1 of the sample of the stream received last; 0 none (R85 of spec/04_following.md). -/
  | streamSeq
  /-- device time of the last write of QUEUE_FLUSH (R45 of spec/03_moves.md). -/
  | flushAt
  /-- CKP cycle plus 1 in which the FAST part of the mixed off time ends; 0 none (register 2n + phase) (R105 of spec/05_current_microstep.md). -/
  | phMixEnd
  /-- CKP cycle plus 1 in which an on command held back to 625 cycles issues; 0 none (R106 of spec/05_current_microstep.md). -/
  | phCmd
  /-- the on time is commanded and its switches wait for their dead time (R104 of spec/05_current_microstep.md). -/
  | phPend
  /-- phOnAt of the on time before (R106 of spec/05_current_microstep.md). -/
  | phOnPrev
  /-- CKP cycle of the event that ended the off time (R113 of spec/05_current_microstep.md). -/
  | phOffEnd
  /-- CKP cycle up to which the thresholds have been looked at for a clamp (R103 of spec/05_current_microstep.md). -/
  | phLook
  /-- relFrom of the pass before (R72 of spec/03_moves.md). -/
  | relWas
  /-- command pair of the half-bridge: bit 0 high, bit 1 low (register 4n + half-bridge A1, A2, B1, B2) (R140 of spec/07_bridges.md). -/
  | swCmd
  /-- CKP cycle from which that pair has been commanded (R141 of spec/07_bridges.md). -/
  | swAt
  /-- CKP cycle plus 1 in which the high switch last went off; 0 never (R141 of spec/07_bridges.md). -/
  | swHighOff
  /-- CKP cycle plus 1 in which the low switch last went off; 0 never (R141 of spec/07_bridges.md). -/
  | swLowOff
  /-- a forced refresh of the half-bridge waits for its time (R148 of spec/07_bridges.md). -/
  | refreshWait
  /-- CKP cycle plus 1 in which the fault latch was last set; 0 never (R155 of spec/07_bridges.md). -/
  | latchAt
  /-- device time at which the braked die last saw the bus at or above 64.0 V (R154 of spec/07_bridges.md). -/
  | brakeFrom
  /-- device time plus 1 of the last counted edge; 0 none (R175 of spec/08_feedback_sense.md). -/
  | edgeAt
  /-- device time plus 1 of the last change of the filtered level of A; 0 none (R171 of spec/08_feedback_sense.md). -/
  | lineAtA
  /-- the same of B (R171 of spec/08_feedback_sense.md). -/
  | lineAtB
  /-- device time plus 1 of the last filtered rising edge of Z; 0 none (R171 of spec/08_feedback_sense.md). -/
  | lineAtZ
  /-- time stamp plus 1 of a frame whose deadline has come with no arrival; 0 none (R176 of spec/08_feedback_sense.md). -/
  | ssiOld
  /-- device time plus 1 of the last bit of a frame whose data line is not yet high; 0 none (R176 of spec/08_feedback_sense.md). -/
  | ssiMono
  /-- device time plus 1 of the last change of the filtered terminal level of the input; 0 none (R182 of spec/08_feedback_sense.md). -/
  | senseChg
  deriving DecidableEq, Repr

end Sys2Proof.Machine
end

