-- ==== Sys2Proof/Machine/Dict.lean ====
section
/-! DEFINITION. The object dictionary (R2, R3, R22, R26): one row per object table line of the chapters, with its place, type,
access class and range, and the defaults of R23. -/
namespace Sys2Proof.Machine

/-- The data types of R2. `oct n` is OCT[n]. -/
inductive Ty where
  | bool | u8 | u16 | u32 | u64 | i32 | i48
  | oct (n : Nat)
  deriving DecidableEq, Repr

/-- Bytes a value of the type takes on the ring (R2). -/
def Ty.size : Ty → Nat
  | .bool => 1 | .u8 => 1 | .u16 => 2 | .u32 => 4 | .u64 => 8 | .i32 => 4 | .i48 => 8 | .oct n => n

/-- The access classes of R3. -/
inductive Acc where
  | ro | rw | rwc | w1c | wo
  deriving DecidableEq, Repr

/-- One line of an object table. The object of unit `u`, member `m` is at index `base + stride * u`, subindex `sub + m`, and is
register number `u * nsub + m` of `reg`. `rng` lists the intervals of the Range column; empty: every value of the type. -/
structure Obj where
  reg    : Reg
  base   : Nat
  stride : Nat
  units  : Nat
  sub    : Nat
  nsub   : Nat
  ty     : Ty
  acc    : Acc
  rng    : List (Int × Int)
  deriving DecidableEq, Repr


/-- Rows 1 to 40 of the object tables. -/
def objects00 : List Obj := [
  ⟨.PASS_COUNT, 0x1010, 0x1, 1, 1, 1, .u64, .ro, []⟩,
  ⟨.PASS_MARK_TIME, 0x1010, 0x1, 1, 2, 1, .u64, .ro, []⟩,
  ⟨.PASS_LATE, 0x1010, 0x1, 1, 3, 1, .u32, .ro, []⟩,
  ⟨.AXIS_STATE, 0x8000, 0x100, 64, 1, 1, .u8, .ro, []⟩,
  ⟨.AXIS_EVENTS, 0x8001, 0x100, 64, 1, 1, .u32, .w1c, []⟩,
  ⟨.AXE_MASK, 0x8001, 0x100, 64, 2, 1, .u32, .rw, []⟩,
  ⟨.STAGE_COUNT, 0x1030, 0x1, 1, 1, 1, .u16, .ro, []⟩,
  ⟨.STAGE_PROBE, 0x1030, 0x1, 1, 2, 1, .u32, .rw, [(0, 16777215)]⟩,
  ⟨.STAGE_VALUE, 0x1030, 0x1, 1, 3, 1, .oct 17, .ro, []⟩,
  ⟨.STAGE_DISCARD, 0x1030, 0x1, 1, 4, 1, .bool, .wo, [(1, 1)]⟩,
  ⟨.RESULT, 0x1031, 0x1, 1, 1, 1, .u8, .ro, []⟩,
  ⟨.OBJECT_A, 0x1031, 0x1, 1, 2, 1, .u32, .ro, []⟩,
  ⟨.OBJECT_B, 0x1031, 0x1, 1, 3, 1, .u32, .ro, []⟩,
  ⟨.RESOURCE, 0x1031, 0x1, 1, 4, 1, .u32, .ro, []⟩,
  ⟨.DETAIL, 0x1031, 0x1, 1, 5, 1, .u32, .ro, []⟩,
  ⟨.AXE_MAP, 0x1040, 0x1, 1, 1, 1, .u64, .ro, []⟩,
  ⟨.QLO_MAP, 0x1040, 0x1, 1, 2, 1, .u64, .ro, []⟩,
  ⟨.CFG_CHANGED, 0x1041, 0x1, 1, 1, 1, .u8, .w1c, []⟩,
  ⟨.ACK_ORDINAL, 0x2001, 0x1, 1, 1, 1, .u32, .rw, []⟩,
  ⟨.LOG_SEEN, 0x2001, 0x1, 1, 2, 1, .u32, .rw, []⟩,
  ⟨.NEWEST_ORDINAL, 0x2001, 0x1, 1, 3, 1, .u32, .ro, []⟩,
  ⟨.NEWEST_SEVERE, 0x2001, 0x1, 1, 4, 1, .u32, .ro, []⟩,
  ⟨.NEWEST_WARN, 0x2001, 0x1, 1, 5, 1, .u32, .ro, []⟩,
  ⟨.VMAX, 0x8010, 0x100, 64, 1, 1, .u32, .rw, [(1, 20480000)]⟩,
  ⟨.AMAX, 0x8010, 0x100, 64, 2, 1, .u32, .rw, [(1, 4294967295)]⟩,
  ⟨.DMAX, 0x8010, 0x100, 64, 3, 1, .u32, .rw, [(1, 4294967295)]⟩,
  ⟨.JMAX, 0x8010, 0x100, 64, 4, 1, .u32, .rw, [(1, 4294967295)]⟩,
  ⟨.SOFT_MIN, 0x8011, 0x100, 64, 1, 1, .i48, .rwc, []⟩,
  ⟨.SOFT_MAX, 0x8011, 0x100, 64, 2, 1, .i48, .rwc, []⟩,
  ⟨.QUEUE_RECORDS, 0x8012, 0x100, 64, 1, 1, .u16, .rwc, [(20, 1024)]⟩,
  ⟨.LOW_MARK, 0x8012, 0x100, 64, 2, 1, .u16, .rw, [(0, 1024)]⟩,
  ⟨.QUEUE_DEPTH, 0x8012, 0x100, 64, 3, 1, .u16, .ro, []⟩,
  ⟨.MOVE_PUSH, 0x8013, 0x100, 64, 1, 1, .oct 128, .wo, []⟩,
  ⟨.QUEUE_FLUSH, 0x8013, 0x100, 64, 2, 1, .bool, .wo, [(1, 1)]⟩,
  ⟨.TARGET, 0x8014, 0x100, 64, 1, 1, .i48, .rw, []⟩,
  ⟨.STOP, 0x8015, 0x100, 64, 1, 1, .u8, .wo, [(1, 2)]⟩,
  ⟨.CMD_POS, 0x8016, 0x100, 64, 1, 1, .i48, .ro, []⟩,
  ⟨.CMD_VEL, 0x8016, 0x100, 64, 2, 1, .i32, .ro, []⟩,
  ⟨.CMD_ACC, 0x8016, 0x100, 64, 3, 1, .i48, .ro, []⟩,
  ⟨.SEGMENT, 0x8016, 0x100, 64, 4, 1, .u8, .ro, []⟩]

/-- Rows 41 to 80 of the object tables. -/
def objects01 : List Obj := [
  ⟨.ACTIVE_TAG, 0x8016, 0x100, 64, 5, 1, .u16, .ro, []⟩,
  ⟨.LAST_DONE_TAG, 0x8016, 0x100, 64, 6, 1, .u16, .ro, []⟩,
  ⟨.ACTIVE_KIND, 0x8016, 0x100, 64, 7, 1, .u8, .ro, []⟩,
  ⟨.SADDLE_POS, 0x8017, 0x100, 64, 1, 1, .i48, .ro, []⟩,
  ⟨.SADDLE_TIME, 0x8017, 0x100, 64, 2, 1, .u64, .ro, []⟩,
  ⟨.SADDLE_PENDING, 0x8017, 0x100, 64, 3, 1, .bool, .ro, []⟩,
  ⟨.REQUIRED_DECEL, 0x8018, 0x100, 64, 1, 1, .u32, .ro, []⟩,
  ⟨.REQUIRED_JERK, 0x8018, 0x100, 64, 2, 1, .u32, .ro, []⟩,
  ⟨.DEFERRED, 0x8018, 0x100, 64, 3, 1, .u8, .ro, []⟩,
  ⟨.CLAMP_REQUEST, 0x8019, 0x100, 64, 1, 1, .i48, .ro, []⟩,
  ⟨.CLAMP_COUNT, 0x8019, 0x100, 64, 2, 1, .u32, .ro, []⟩,
  ⟨.RELEASE_PENDING, 0x801A, 0x100, 64, 1, 1, .u64, .ro, []⟩,
  ⟨.RELEASE_LATE, 0x801A, 0x100, 64, 2, 1, .u32, .ro, []⟩,
  ⟨.RELEASE_SLIP, 0x801A, 0x100, 64, 3, 1, .i32, .ro, []⟩,
  ⟨.RELEASE_UNSYNC, 0x801A, 0x100, 64, 4, 1, .u32, .ro, []⟩,
  ⟨.WAIT_TIMEOUTS, 0x801B, 0x100, 64, 1, 1, .u32, .ro, []⟩,
  ⟨.SET_POSITION, 0x801C, 0x100, 64, 1, 1, .i48, .wo, []⟩,
  ⟨.SET_SHIFT, 0x801C, 0x100, 64, 2, 1, .i48, .ro, []⟩,
  ⟨.FOLLOW_SOURCE, 0x8030, 0x100, 64, 1, 1, .u8, .rwc, [(0, 4)]⟩,
  ⟨.SOURCE_NUM, 0x8030, 0x100, 64, 2, 1, .u16, .rwc, [(0, 63)]⟩,
  ⟨.SOURCE_NODE, 0x8030, 0x100, 64, 3, 1, .u16, .rwc, [(0, 1023)]⟩,
  ⟨.RATIO_NUM, 0x8031, 0x100, 64, 1, 1, .i32, .rw, [((-1048576), (-1)), (1, 1048576)]⟩,
  ⟨.RATIO_DEN, 0x8031, 0x100, 64, 2, 1, .u32, .rw, [(1, 1048576)]⟩,
  ⟨.COARSE_SIZE, 0x8031, 0x100, 64, 3, 1, .u16, .rwc, [(1, 1024)]⟩,
  ⟨.ENGAGE_MODE, 0x8032, 0x100, 64, 1, 1, .u8, .rw, [(0, 1)]⟩,
  ⟨.FOLLOW_CTRL, 0x8032, 0x100, 64, 2, 1, .u8, .wo, [(0, 1)]⟩,
  ⟨.VEL_WINDOW, 0x8032, 0x100, 64, 3, 1, .u32, .rw, [(0, 20480000)]⟩,
  ⟨.CATCHUP, 0x8033, 0x100, 64, 1, 1, .u16, .rw, [(1, 4096)]⟩,
  ⟨.LAG_MAX, 0x8033, 0x100, 64, 2, 1, .u32, .rw, [(0, 4294967295)]⟩,
  ⟨.LOSS_REACTION, 0x8033, 0x100, 64, 3, 1, .u8, .rw, [(0, 1)]⟩,
  ⟨.SPREAD_MAX, 0x8034, 0x100, 64, 1, 1, .u32, .rwc, [(5000, 10000000)]⟩,
  ⟨.FOLLOW_STATE, 0x8035, 0x100, 64, 1, 1, .u8, .ro, []⟩,
  ⟨.FOLLOW_LAG, 0x8035, 0x100, 64, 2, 1, .i48, .ro, []⟩,
  ⟨.GEARED_VEL, 0x8035, 0x100, 64, 3, 1, .i32, .ro, []⟩,
  ⟨.END_CAUSE, 0x8035, 0x100, 64, 4, 1, .u8, .ro, []⟩,
  ⟨.LOSS_COUNT, 0x8035, 0x100, 64, 5, 1, .u32, .ro, []⟩,
  ⟨.SOURCE_POS, 0x8035, 0x100, 64, 6, 1, .i48, .ro, []⟩,
  ⟨.STREAM_DELAY, 0x8036, 0x100, 64, 1, 1, .u32, .rwc, [(2, 20000)]⟩,
  ⟨.STREAM_TIMEOUT, 0x8036, 0x100, 64, 2, 1, .u32, .rw, [(1, 60000)]⟩,
  ⟨.STREAM_GAPS, 0x8036, 0x100, 64, 3, 1, .u32, .ro, []⟩]

/-- Rows 81 to 120 of the object tables. -/
def objects02 : List Obj := [
  ⟨.STREAM_LATE, 0x8036, 0x100, 64, 4, 1, .u32, .ro, []⟩,
  ⟨.PUBLISH_PERIOD, 0x8038, 0x100, 64, 1, 1, .u16, .rwc, [(0, 0), (20, 2000)]⟩,
  ⟨.PUBLISH_SEQ, 0x8038, 0x100, 64, 2, 1, .u8, .ro, []⟩,
  ⟨.STEP_FILTER, 0x4800, 0x1, 8, 1, 1, .u8, .rwc, [(1, 8)]⟩,
  ⟨.STEP_EDGE, 0x4800, 0x1, 8, 2, 1, .u8, .rwc, [(0, 1)]⟩,
  ⟨.DIR_POLARITY, 0x4800, 0x1, 8, 3, 1, .bool, .rwc, [(0, 1)]⟩,
  ⟨.STEP_COUNT, 0x4800, 0x1, 8, 4, 1, .i48, .ro, []⟩,
  ⟨.DIR_SETUP_VIOL, 0x4800, 0x1, 8, 5, 1, .u32, .ro, []⟩,
  ⟨.OVERRATE, 0x4800, 0x1, 8, 6, 1, .u32, .ro, []⟩,
  ⟨.PAIR_FAULT, 0x4800, 0x1, 8, 7, 1, .bool, .ro, []⟩,
  ⟨.RUN_CURRENT, 0x8040, 0x100, 64, 1, 1, .u16, .rw, [(0, 3000)]⟩,
  ⟨.HOLD_CURRENT, 0x8040, 0x100, 64, 2, 1, .u16, .rw, [(0, 3000)]⟩,
  ⟨.BOOST_CURRENT, 0x8040, 0x100, 64, 3, 1, .u16, .rw, [(0, 3000)]⟩,
  ⟨.BOOST_MODE, 0x8040, 0x100, 64, 4, 1, .u8, .rw, [(0, 2)]⟩,
  ⟨.HOLD_DELAY, 0x8040, 0x100, 64, 5, 1, .u32, .rw, [(0, 4294967295)]⟩,
  ⟨.HOLD_RAMP, 0x8040, 0x100, 64, 6, 1, .u16, .rw, [(0, 65535)]⟩,
  ⟨.AMPLITUDE, 0x8041, 0x100, 64, 1, 1, .u16, .ro, []⟩,
  ⟨.AMP_CODE, 0x8041, 0x100, 64, 2, 1, .u16, .ro, []⟩,
  ⟨.AMP_SOURCE, 0x8041, 0x100, 64, 3, 1, .u8, .ro, []⟩,
  ⟨.STILL_PASSES, 0x8041, 0x100, 64, 4, 1, .u32, .ro, []⟩,
  ⟨.ANGLE, 0x8042, 0x100, 64, 1, 1, .u16, .ro, []⟩,
  ⟨.ANGLE_ORIGIN, 0x8042, 0x100, 64, 2, 1, .u16, .ro, []⟩,
  ⟨.ANGLE_INC, 0x8042, 0x100, 64, 3, 1, .i32, .ro, []⟩,
  ⟨.REF_A, 0x8042, 0x100, 64, 4, 1, .i32, .ro, []⟩,
  ⟨.REF_B, 0x8042, 0x100, 64, 5, 1, .i32, .ro, []⟩,
  ⟨.SHAPE_K3, 0x8043, 0x100, 64, 1, 1, .i32, .rwc, [((-100), 100)]⟩,
  ⟨.SHAPE_LIFT, 0x8043, 0x100, 64, 2, 1, .u16, .rwc, [(0, 100)]⟩,
  ⟨.SHAPE_RMS, 0x8043, 0x100, 64, 3, 1, .u16, .ro, []⟩,
  ⟨.SHAPE_PROBE, 0x8043, 0x100, 64, 4, 1, .u16, .rw, [(0, 1023)]⟩,
  ⟨.SHAPE_ENTRY, 0x8043, 0x100, 64, 5, 1, .u16, .ro, []⟩,
  ⟨.BAND, 0x8044, 0x100, 64, 1, 1, .u8, .rw, [(2, 25)]⟩,
  ⟨.BLANK, 0x8044, 0x100, 64, 2, 1, .u8, .rw, [(10, 100)]⟩,
  ⟨.DECAY_MODE, 0x8044, 0x100, 64, 3, 1, .u8, .rw, [(0, 3)]⟩,
  ⟨.MIX_TIME, 0x8044, 0x100, 64, 4, 1, .u16, .rw, [(0, 2500)]⟩,
  ⟨.TOFF_MAX, 0x8044, 0x100, 64, 5, 1, .u16, .rw, [(250, 2500)]⟩,
  ⟨.WIDEN_A, 0x8045, 0x100, 64, 1, 1, .u8, .ro, []⟩,
  ⟨.WIDEN_B, 0x8045, 0x100, 64, 2, 1, .u8, .ro, []⟩,
  ⟨.WIDEN_EVENTS, 0x8045, 0x100, 64, 3, 1, .u32, .ro, []⟩,
  ⟨.FREQ_CAPS, 0x8045, 0x100, 64, 4, 1, .u32, .ro, []⟩,
  ⟨.EARLY_TRIPS, 0x8045, 0x100, 64, 5, 1, .u32, .ro, []⟩]

/-- Rows 121 to 160 of the object tables. -/
def objects03 : List Obj := [
  ⟨.OFF_TIMEOUTS, 0x8045, 0x100, 64, 6, 1, .u32, .ro, []⟩,
  ⟨.THRESH_CLAMPS, 0x8045, 0x100, 64, 7, 1, .u32, .ro, []⟩,
  ⟨.TON_A, 0x8046, 0x100, 64, 1, 1, .u16, .ro, []⟩,
  ⟨.TOFF_A, 0x8046, 0x100, 64, 2, 1, .u16, .ro, []⟩,
  ⟨.TON_B, 0x8046, 0x100, 64, 3, 1, .u16, .ro, []⟩,
  ⟨.TOFF_B, 0x8046, 0x100, 64, 4, 1, .u16, .ro, []⟩,
  ⟨.SIG_FLAGS, 0x8046, 0x100, 64, 5, 1, .u8, .ro, []⟩,
  ⟨.ADAPT_ENABLE, 0x8047, 0x100, 64, 1, 1, .bool, .rw, [(0, 1)]⟩,
  ⟨.ADAPT_GAIN, 0x8047, 0x100, 64, 2, 1, .u16, .rw, [(0, 1024)]⟩,
  ⟨.ADAPT_MIN_REF, 0x8047, 0x100, 64, 3, 1, .u16, .rw, [(0, 1023)]⟩,
  ⟨.DRIFT_LIMIT, 0x8047, 0x100, 64, 4, 1, .u8, .rw, [(0, 64)]⟩,
  ⟨.ADAPT_RESET, 0x8047, 0x100, 64, 5, 1, .bool, .wo, [(1, 1)]⟩,
  ⟨.ADAPT_OFFSET_A, 0x8048, 0x100, 64, 1, 1, .i32, .ro, []⟩,
  ⟨.ADAPT_OFFSET_B, 0x8048, 0x100, 64, 2, 1, .i32, .ro, []⟩,
  ⟨.ADAPT_ACC_A, 0x8048, 0x100, 64, 3, 1, .i32, .ro, []⟩,
  ⟨.ADAPT_ACC_B, 0x8048, 0x100, 64, 4, 1, .i32, .ro, []⟩,
  ⟨.ADAPT_ERR_A, 0x8048, 0x100, 64, 5, 1, .i32, .ro, []⟩,
  ⟨.ADAPT_ERR_B, 0x8048, 0x100, 64, 6, 1, .i32, .ro, []⟩,
  ⟨.ADAPT_SETTLED, 0x8048, 0x100, 64, 7, 1, .bool, .ro, []⟩,
  ⟨.ADAPT_UPDATES, 0x8048, 0x100, 64, 8, 1, .u32, .ro, []⟩,
  ⟨.ADAPT_SAT_PASSES, 0x8048, 0x100, 64, 9, 1, .u32, .ro, []⟩,
  ⟨.ADAPT_INIT_A, 0x8049, 0x100, 64, 1, 1, .i32, .rwc, [((-64), 64)]⟩,
  ⟨.ADAPT_INIT_B, 0x8049, 0x100, 64, 2, 1, .i32, .rwc, [((-64), 64)]⟩,
  ⟨.LOAD_INDEX, 0x8060, 0x100, 64, 1, 1, .u16, .ro, []⟩,
  ⟨.LI_STATE, 0x8060, 0x100, 64, 2, 1, .u8, .ro, []⟩,
  ⟨.LI_SPEED, 0x8060, 0x100, 64, 3, 1, .u32, .ro, []⟩,
  ⟨.LI_RATIO, 0x8060, 0x100, 64, 4, 1, .u32, .ro, []⟩,
  ⟨.LI_FORMED, 0x8060, 0x100, 64, 5, 1, .u32, .ro, []⟩,
  ⟨.LI_VOID, 0x8060, 0x100, 64, 6, 1, .u32, .ro, []⟩,
  ⟨.LI_MIN_SPEED, 0x8061, 0x100, 64, 1, 1, .u32, .rwc, [(1024, 20480000)]⟩,
  ⟨.LI_LOW_MIN_SPEED, 0x8061, 0x100, 64, 2, 1, .u32, .rwc, [(1024, 20480000)]⟩,
  ⟨.LI_VM_TOL, 0x8061, 0x100, 64, 3, 1, .u8, .rwc, [(1, 20)]⟩,
  ⟨.LI_MIN_SAMPLES, 0x8061, 0x100, 64, 4, 1, .u8, .rw, [(1, 64)]⟩,
  ⟨.LI_SPEED_TOL, 0x8061, 0x100, 64, 5, 1, .u8, .rw, [(0, 20)]⟩,
  ⟨.LEARN_SPEED, 0x8062, 0x100, 64, 1, 8, .u32, .rw, [(0, 20480000)]⟩,
  ⟨.LEARN_STEPS, 0x8062, 0x100, 64, 9, 1, .u16, .rw, [(8, 1024)]⟩,
  ⟨.LEARN_FIRST, 0x8062, 0x100, 64, 10, 1, .u8, .rw, [(0, 1)]⟩,
  ⟨.LEARN_SPREAD, 0x8062, 0x100, 64, 11, 1, .u16, .rw, [(5, 500)]⟩,
  ⟨.LEARN_START, 0x8062, 0x100, 64, 12, 1, .u8, .wo, [(0, 1)]⟩,
  ⟨.LEARN_RESULT, 0x8062, 0x100, 64, 13, 1, .u8, .ro, []⟩]

/-- Rows 161 to 200 of the object tables. -/
def objects04 : List Obj := [
  ⟨.LEARN_FAIL_POINT, 0x8062, 0x100, 64, 14, 1, .u8, .ro, []⟩,
  ⟨.LEARN_EXCURSION, 0x8062, 0x100, 64, 15, 1, .u32, .ro, []⟩,
  ⟨.SIG_ACTIVE, 0x8063, 0x100, 64, 1, 16, .u64, .ro, []⟩,
  ⟨.COND_ACTIVE, 0x8063, 0x100, 64, 17, 1, .oct 16, .ro, []⟩,
  ⟨.TABLE_ORIGIN, 0x8063, 0x100, 64, 18, 1, .u8, .ro, []⟩,
  ⟨.SIG_TABLE, 0x8064, 0x100, 64, 1, 16, .u64, .rwc, []⟩,
  ⟨.SIG_COND, 0x8064, 0x100, 64, 17, 1, .oct 16, .rwc, []⟩,
  ⟨.STALL_REACTION, 0x8065, 0x100, 64, 1, 1, .u8, .rw, [(0, 3)]⟩,
  ⟨.STALL_THRESH, 0x8065, 0x100, 64, 2, 1, .u16, .rw, [(0, 1023)]⟩,
  ⟨.STALL_STEPS, 0x8065, 0x100, 64, 3, 1, .u8, .rw, [(1, 16)]⟩,
  ⟨.STALL_SET_NEG, 0x8065, 0x100, 64, 4, 1, .i48, .rw, []⟩,
  ⟨.STALL_SET_POS, 0x8065, 0x100, 64, 5, 1, .i48, .rw, []⟩,
  ⟨.STALL_RELEASE, 0x8065, 0x100, 64, 6, 1, .bool, .wo, [(1, 1)]⟩,
  ⟨.STALL_RUN, 0x8066, 0x100, 64, 1, 1, .u8, .ro, []⟩,
  ⟨.STALL_COUNT, 0x8066, 0x100, 64, 2, 1, .u32, .ro, []⟩,
  ⟨.STALL_POS, 0x8066, 0x100, 64, 3, 1, .i48, .ro, []⟩,
  ⟨.STALL_SHIFT, 0x8066, 0x100, 64, 4, 1, .i48, .ro, []⟩,
  ⟨.STALL_TIME, 0x8066, 0x100, 64, 5, 1, .u64, .ro, []⟩,
  ⟨.HOME_SEARCH_DIST, 0x8067, 0x100, 64, 1, 1, .u32, .rw, [(1024, 2147483647)]⟩,
  ⟨.HOME_BACKOFF, 0x8067, 0x100, 64, 2, 1, .u32, .rw, [(0, 1048576)]⟩,
  ⟨.HOME_PRESET, 0x8067, 0x100, 64, 3, 1, .i48, .rw, []⟩,
  ⟨.HOME_RESULT, 0x8068, 0x100, 64, 1, 1, .u8, .ro, []⟩,
  ⟨.HOME_SHIFT, 0x8068, 0x100, 64, 2, 1, .i48, .ro, []⟩,
  ⟨.HOME_COUNT, 0x8068, 0x100, 64, 3, 1, .u32, .ro, []⟩,
  ⟨.EX_TRAVEL, 0x8069, 0x100, 64, 1, 1, .u32, .rw, [(0, 2147483647)]⟩,
  ⟨.EX_TOL, 0x8069, 0x100, 64, 2, 1, .u32, .rw, [(0, 2147483647)]⟩,
  ⟨.EX_LOAD_MIN, 0x8069, 0x100, 64, 3, 1, .u16, .rw, [(0, 1023)]⟩,
  ⟨.EX_RETURN, 0x8069, 0x100, 64, 4, 1, .u8, .rw, [(0, 2)]⟩,
  ⟨.EX_RESULT, 0x806A, 0x100, 64, 1, 1, .u8, .ro, []⟩,
  ⟨.EX_TRAVEL_MEAS, 0x806A, 0x100, 64, 2, 1, .i48, .ro, []⟩,
  ⟨.EX_MIN_INDEX, 0x806A, 0x100, 64, 3, 1, .u16, .ro, []⟩,
  ⟨.EX_TIME, 0x806A, 0x100, 64, 4, 1, .u64, .ro, []⟩,
  ⟨.EX_COUNT, 0x806A, 0x100, 64, 5, 1, .u32, .ro, []⟩,
  ⟨.EX_FAILS, 0x806A, 0x100, 64, 6, 1, .u32, .ro, []⟩,
  ⟨.AXIS_USE, 0x8070, 0x100, 64, 1, 1, .bool, .rwc, [(0, 1)]⟩,
  ⟨.DRIVE_CTRL, 0x8070, 0x100, 64, 2, 1, .u8, .wo, [(0, 1)]⟩,
  ⟨.DRIVE_STATE, 0x8070, 0x100, 64, 3, 1, .u8, .ro, []⟩,
  ⟨.DISABLE_CAUSE, 0x8070, 0x100, 64, 4, 1, .u8, .ro, []⟩,
  ⟨.DEAD_TIME, 0x8071, 0x100, 64, 1, 1, .u8, .rwc, [(5, 50)]⟩,
  ⟨.OC_RETRIES, 0x8071, 0x100, 64, 2, 1, .u8, .rw, [(0, 3)]⟩]

/-- Rows 201 to 240 of the object tables. -/
def objects05 : List Obj := [
  ⟨.OC_RETRY_DELAY, 0x8071, 0x100, 64, 3, 1, .u16, .rw, [(20, 60000)]⟩,
  ⟨.OPEN_DETECT_PASSES, 0x8071, 0x100, 64, 4, 1, .u16, .rw, [(0, 65535)]⟩,
  ⟨.OPEN_LEVEL, 0x8071, 0x100, 64, 5, 1, .u8, .rw, [(1, 64)]⟩,
  ⟨.BRIDGE_FAULT, 0x8072, 0x100, 64, 1, 1, .u16, .w1c, []⟩,
  ⟨.FAULT_SWITCHES, 0x8072, 0x100, 64, 2, 1, .u8, .ro, []⟩,
  ⟨.OC_COUNT, 0x8072, 0x100, 64, 3, 1, .u32, .ro, []⟩,
  ⟨.SHOOT_COUNT, 0x8072, 0x100, 64, 4, 1, .u32, .ro, []⟩,
  ⟨.RETRY_COUNT, 0x8072, 0x100, 64, 5, 1, .u8, .ro, []⟩,
  ⟨.BOOT_REFRESHES, 0x8073, 0x100, 64, 1, 1, .u32, .ro, []⟩,
  ⟨.BOOT_MIN, 0x8073, 0x100, 64, 2, 1, .u16, .ro, []⟩,
  ⟨.DIAG_START, 0x8074, 0x100, 64, 1, 1, .bool, .wo, [(1, 1)]⟩,
  ⟨.DIAG_RESULT, 0x8074, 0x100, 64, 2, 1, .u8, .ro, []⟩,
  ⟨.DIAG_FLAGS, 0x8074, 0x100, 64, 3, 1, .u16, .ro, []⟩,
  ⟨.DIAG_LEVELS, 0x8074, 0x100, 64, 4, 1, .u32, .ro, []⟩,
  ⟨.DIAG_TIME, 0x8074, 0x100, 64, 5, 1, .u64, .ro, []⟩,
  ⟨.DIRECT_MODE, 0x8075, 0x100, 64, 1, 1, .bool, .rw, [(0, 1)]⟩,
  ⟨.DIRECT_PATTERN, 0x8075, 0x100, 64, 2, 1, .u8, .rw, []⟩,
  ⟨.DIRECT_PULSE, 0x8075, 0x100, 64, 3, 1, .u16, .rw, [(1, 5000)]⟩,
  ⟨.DIRECT_FIRE, 0x8075, 0x100, 64, 4, 1, .bool, .wo, [(1, 1)]⟩,
  ⟨.REARM, 0x8076, 0x100, 64, 1, 1, .bool, .wo, [(1, 1)]⟩,
  ⟨.DIE_TEMP, 0x1070, 0x1, 8, 1, 1, .i32, .ro, []⟩,
  ⟨.DIE_TEMP_MAX, 0x1070, 0x1, 8, 2, 1, .i32, .ro, []⟩,
  ⟨.DIE_STATE, 0x1070, 0x1, 8, 3, 1, .u8, .ro, []⟩,
  ⟨.BUS_TAP, 0x1070, 0x1, 8, 4, 1, .u16, .ro, []⟩,
  ⟨.PUMP_OK, 0x1070, 0x1, 8, 5, 1, .bool, .ro, []⟩,
  ⟨.BRAKE_COUNT, 0x1070, 0x1, 8, 6, 1, .u32, .ro, []⟩,
  ⟨.DIAG_AXIS, 0x1070, 0x1, 8, 7, 1, .u8, .ro, []⟩,
  ⟨.ENA_STATE, 0x1078, 0x1, 1, 1, 1, .u8, .ro, []⟩,
  ⟨.DIAG_ALL, 0x1078, 0x1, 1, 2, 1, .bool, .wo, [(1, 1)]⟩,
  ⟨.BUS_VM, 0x1078, 0x1, 1, 3, 1, .u16, .ro, []⟩,
  ⟨.ENA_REMOVALS, 0x1078, 0x1, 1, 4, 1, .u32, .ro, []⟩,
  ⟨.CH_MODE, 0x4000, 0x1, 16, 1, 1, .u8, .rwc, [(0, 2)]⟩,
  ⟨.CH_FILTER, 0x4000, 0x1, 16, 2, 1, .u8, .rwc, [(2, 8)]⟩,
  ⟨.CH_INVERT, 0x4000, 0x1, 16, 3, 1, .bool, .rwc, [(0, 1)]⟩,
  ⟨.CH_MIN, 0x4000, 0x1, 16, 4, 1, .i48, .rwc, []⟩,
  ⟨.CH_MAX, 0x4000, 0x1, 16, 5, 1, .i48, .rwc, []⟩,
  ⟨.SPEED_SPAN, 0x4000, 0x1, 16, 6, 1, .u8, .rwc, [(1, 2), (4, 4)]⟩,
  ⟨.SPEED_TIMEOUT, 0x4000, 0x1, 16, 7, 1, .u32, .rw, [(1000, 4294967295)]⟩,
  ⟨.INDEX_MODE, 0x4000, 0x1, 16, 8, 1, .u8, .rwc, [(0, 2)]⟩,
  ⟨.INDEX_PERIOD, 0x4000, 0x1, 16, 9, 1, .u32, .rwc, [(0, 0), (4, 2147483647)]⟩]

/-- Rows 241 to 280 of the object tables. -/
def objects06 : List Obj := [
  ⟨.INDEX_REF, 0x4000, 0x1, 16, 10, 1, .u32, .rwc, []⟩,
  ⟨.INDEX_CORR, 0x4000, 0x1, 16, 11, 1, .bool, .rw, [(0, 1)]⟩,
  ⟨.INDEX_WINDOW, 0x4000, 0x1, 16, 12, 1, .u16, .rw, [(1, 1024)]⟩,
  ⟨.ILLEGAL_LIMIT, 0x4000, 0x1, 16, 13, 1, .u16, .rw, [(0, 65535)]⟩,
  ⟨.SSI_DIV, 0x4000, 0x1, 16, 14, 1, .u16, .rwc, [(25, 1000)]⟩,
  ⟨.SSI_BITS, 0x4000, 0x1, 16, 15, 1, .u8, .rwc, [(8, 40)]⟩,
  ⟨.SSI_GRAY, 0x4000, 0x1, 16, 16, 1, .bool, .rwc, [(0, 1)]⟩,
  ⟨.SSI_DELAY, 0x4000, 0x1, 16, 17, 1, .u8, .rwc, [(0, 255)]⟩,
  ⟨.SSI_MONO, 0x4000, 0x1, 16, 18, 1, .u16, .rwc, [(100, 10000)]⟩,
  ⟨.ABS_PERIOD, 0x4000, 0x1, 16, 19, 1, .u8, .rwc, [(1, 100)]⟩,
  ⟨.ABS_JUMP_MAX, 0x4000, 0x1, 16, 20, 1, .u32, .rw, [(0, 2147483648)]⟩,
  ⟨.ABS_UNWRAP, 0x4000, 0x1, 16, 21, 1, .bool, .rwc, [(0, 1)]⟩,
  ⟨.ABS_ERR_LIMIT, 0x4000, 0x1, 16, 22, 1, .u8, .rw, [(1, 255)]⟩,
  ⟨.LATCH_SRC, 0x4000, 0x1, 16, 23, 1, .u8, .rw, [(0, 3)]⟩,
  ⟨.LATCH_SENSE, 0x4000, 0x1, 16, 24, 1, .u16, .rw, [(0, 383)]⟩,
  ⟨.LATCH_AT, 0x4000, 0x1, 16, 25, 1, .u64, .rw, []⟩,
  ⟨.LATCH_REPEAT, 0x4000, 0x1, 16, 26, 1, .bool, .rw, [(0, 1)]⟩,
  ⟨.CH_PRESET, 0x4000, 0x1, 16, 27, 1, .i48, .wo, []⟩,
  ⟨.CH_POS, 0x4100, 0x1, 16, 1, 1, .i48, .ro, []⟩,
  ⟨.CH_SPEED, 0x4100, 0x1, 16, 2, 1, .i32, .ro, []⟩,
  ⟨.CH_FLAGS, 0x4100, 0x1, 16, 3, 1, .u8, .ro, []⟩,
  ⟨.CH_EVENTS, 0x4100, 0x1, 16, 4, 1, .u8, .w1c, []⟩,
  ⟨.ILLEGAL_COUNT, 0x4100, 0x1, 16, 5, 1, .u32, .ro, []⟩,
  ⟨.INDEX_DEV_COUNT, 0x4100, 0x1, 16, 6, 1, .u32, .ro, []⟩,
  ⟨.CORR_COUNT, 0x4100, 0x1, 16, 7, 1, .u32, .ro, []⟩,
  ⟨.OUT_WINDOW_COUNT, 0x4100, 0x1, 16, 8, 1, .u32, .ro, []⟩,
  ⟨.SKIPPED_INDEX, 0x4100, 0x1, 16, 9, 1, .u32, .ro, []⟩,
  ⟨.LAST_DEV, 0x4100, 0x1, 16, 10, 1, .i32, .ro, []⟩,
  ⟨.Z_POS, 0x4100, 0x1, 16, 11, 1, .i48, .ro, []⟩,
  ⟨.Z_TIME, 0x4100, 0x1, 16, 12, 1, .u64, .ro, []⟩,
  ⟨.LATCH_POS, 0x4100, 0x1, 16, 13, 1, .i48, .ro, []⟩,
  ⟨.LATCH_TIME, 0x4100, 0x1, 16, 14, 1, .u64, .ro, []⟩,
  ⟨.LATCH_SPEED, 0x4100, 0x1, 16, 15, 1, .i32, .ro, []⟩,
  ⟨.LATCH_COUNT, 0x4100, 0x1, 16, 16, 1, .u32, .ro, []⟩,
  ⟨.FRAME_ERRORS, 0x4100, 0x1, 16, 17, 1, .u32, .ro, []⟩,
  ⟨.ABS_RAW, 0x4100, 0x1, 16, 18, 1, .u64, .ro, []⟩,
  ⟨.SAT_EDGES, 0x4100, 0x1, 16, 19, 1, .u32, .ro, []⟩,
  ⟨.SENSE_LO, 0x4400, 0x1, 1, 1, 1, .u64, .ro, []⟩,
  ⟨.SENSE_HI, 0x4400, 0x1, 1, 2, 1, .u64, .ro, []⟩,
  ⟨.SENSE_RISE_LO, 0x4400, 0x1, 1, 3, 1, .u64, .w1c, []⟩]

/-- Rows 281 to 320 of the object tables. -/
def objects07 : List Obj := [
  ⟨.SENSE_RISE_HI, 0x4400, 0x1, 1, 4, 1, .u64, .w1c, []⟩,
  ⟨.SENSE_FALL_LO, 0x4400, 0x1, 1, 5, 1, .u64, .w1c, []⟩,
  ⟨.SENSE_FALL_HI, 0x4400, 0x1, 1, 6, 1, .u64, .w1c, []⟩,
  ⟨.SENSE_FILTER, 0x4500, 0x1, 128, 1, 1, .u16, .rwc, [(1, 65535)]⟩,
  ⟨.SENSE_INVERT, 0x4500, 0x1, 128, 2, 1, .bool, .rwc, [(0, 1)]⟩,
  ⟨.SENSE_EDGES, 0x4500, 0x1, 128, 3, 1, .u32, .ro, []⟩,
  ⟨.EM_SOURCE, 0x4900, 0x1, 4, 1, 1, .u8, .rwc, [(0, 2)]⟩,
  ⟨.EM_NUM_SRC, 0x4900, 0x1, 4, 2, 1, .u8, .rwc, [(0, 63)]⟩,
  ⟨.EM_RATIO_NUM, 0x4900, 0x1, 4, 3, 1, .i32, .rwc, [((-1048576), (-1)), (1, 1048576)]⟩,
  ⟨.EM_RATIO_DEN, 0x4900, 0x1, 4, 4, 1, .u32, .rwc, [(1, 1048576)]⟩,
  ⟨.EM_Z_PERIOD, 0x4900, 0x1, 4, 5, 1, .u32, .rwc, [(0, 0), (4, 2147483647)]⟩,
  ⟨.EM_MIN_GAP, 0x4900, 0x1, 4, 6, 1, .u16, .rwc, [(10, 1000)]⟩,
  ⟨.EM_COUNT, 0x4900, 0x1, 4, 7, 1, .i48, .ro, []⟩,
  ⟨.EM_BACKLOG, 0x4900, 0x1, 4, 8, 1, .u32, .ro, []⟩,
  ⟨.EM_OVERRATE, 0x4900, 0x1, 4, 9, 1, .u32, .ro, []⟩,
  ⟨.LIMIT_NEG, 0x8080, 0x100, 64, 1, 1, .u8, .rwc, [(0, 127), (255, 255)]⟩,
  ⟨.LIMIT_POS, 0x8080, 0x100, 64, 2, 1, .u8, .rwc, [(0, 127), (255, 255)]⟩,
  ⟨.LIMIT_REACTION, 0x8080, 0x100, 64, 3, 1, .u8, .rw, [(0, 2)]⟩,
  ⟨.LIMIT_STATE, 0x8080, 0x100, 64, 4, 1, .u8, .ro, []⟩,
  ⟨.LIMIT_HITS, 0x8080, 0x100, 64, 5, 1, .u32, .ro, []⟩,
  ⟨.FB_CHANNEL, 0x8081, 0x100, 64, 1, 1, .u8, .rwc, [(0, 15), (255, 255)]⟩,
  ⟨.FB_NUM, 0x8081, 0x100, 64, 2, 1, .i32, .rwc, [((-1048576), (-1)), (1, 1048576)]⟩,
  ⟨.FB_DEN, 0x8081, 0x100, 64, 3, 1, .u32, .rwc, [(1, 1048576)]⟩,
  ⟨.DEV_MAX, 0x8081, 0x100, 64, 4, 1, .u32, .rw, [(0, 2147483648)]⟩,
  ⟨.DEV_REACTION, 0x8081, 0x100, 64, 5, 1, .u8, .rw, [(1, 2)]⟩,
  ⟨.FB_ALIGN, 0x8081, 0x100, 64, 6, 1, .bool, .wo, [(1, 1)]⟩,
  ⟨.FB_POS, 0x8082, 0x100, 64, 1, 1, .i48, .ro, []⟩,
  ⟨.DEVIATION, 0x8082, 0x100, 64, 2, 1, .i48, .ro, []⟩,
  ⟨.DEV_PEAK, 0x8082, 0x100, 64, 3, 1, .u32, .ro, []⟩,
  ⟨.DEV_VALID, 0x8082, 0x100, 64, 4, 1, .bool, .ro, []⟩,
  ⟨.CV_MODE, 0x3000, 0x1, 16, 1, 1, .u8, .rwc, [(0, 2)]⟩,
  ⟨.SEQ_LEN, 0x3000, 0x1, 16, 2, 1, .u8, .rwc, [(1, 16)]⟩,
  ⟨.SEQ_ENTRY, 0x3000, 0x1, 16, 3, 16, .u32, .rwc, []⟩,
  ⟨.URGENT_SAMPLE, 0x3000, 0x1, 16, 19, 1, .u8, .rwc, [(4, 255)]⟩,
  ⟨.HARVEST_PROG, 0x3000, 0x1, 16, 20, 1, .u16, .rwc, [(0, 1023)]⟩,
  ⟨.OVERRUN_LIMIT, 0x3000, 0x1, 16, 21, 1, .u8, .rw, [(0, 255)]⟩,
  ⟨.GND_TOL, 0x3000, 0x1, 16, 22, 1, .u16, .rw, [(1, 1024)]⟩,
  ⟨.CV_STATE, 0x3100, 0x1, 16, 1, 1, .u8, .ro, []⟩,
  ⟨.CV_RESULT, 0x3100, 0x1, 16, 2, 16, .i32, .ro, []⟩,
  ⟨.RESULT_FLAGS, 0x3100, 0x1, 16, 18, 1, .u64, .ro, []⟩]

/-- Rows 321 to 360 of the object tables. -/
def objects08 : List Obj := [
  ⟨.CONVERSIONS, 0x3100, 0x1, 16, 19, 1, .u64, .ro, []⟩,
  ⟨.OVERRUNS, 0x3100, 0x1, 16, 20, 1, .u32, .ro, []⟩,
  ⟨.OOR_COUNT, 0x3100, 0x1, 16, 21, 1, .u32, .ro, []⟩,
  ⟨.SUSPECT_COUNT, 0x3100, 0x1, 16, 22, 1, .u32, .ro, []⟩,
  ⟨.TRIG_LATCHED, 0x3100, 0x1, 16, 23, 1, .u32, .ro, []⟩,
  ⟨.TRIG_LOST, 0x3100, 0x1, 16, 24, 1, .u32, .ro, []⟩,
  ⟨.GROUND_FAILS, 0x3100, 0x1, 16, 25, 1, .u32, .ro, []⟩,
  ⟨.HARVEST_MAX, 0x3100, 0x1, 16, 26, 1, .u16, .ro, []⟩,
  ⟨.CV_EVENTS, 0x3100, 0x1, 16, 27, 1, .u8, .w1c, []⟩,
  ⟨.URGENT_REQ, 0x3100, 0x1, 16, 28, 1, .u8, .wo, [(0, 63)]⟩,
  ⟨.URGENT_RESULT, 0x3100, 0x1, 16, 29, 1, .i32, .ro, []⟩,
  ⟨.URGENT_FLAGS, 0x3100, 0x1, 16, 30, 1, .u8, .ro, []⟩,
  ⟨.URGENT_DONE, 0x3100, 0x1, 16, 31, 1, .u32, .ro, []⟩,
  ⟨.CV_RESTART, 0x3100, 0x1, 16, 32, 1, .bool, .wo, [(1, 1)]⟩,
  ⟨.LOCK_TRIGGER, 0x3300, 0x1, 1, 1, 1, .u8, .rwc, [(0, 1)]⟩,
  ⟨.LOCK_OFFSET, 0x3300, 0x1, 1, 2, 1, .u16, .rwc, [(0, 1999)]⟩,
  ⟨.STANDBY_PERIOD, 0x3300, 0x1, 1, 3, 1, .u16, .rwc, [(1, 60000)]⟩,
  ⟨.CAPTURE_DROPS, 0x3300, 0x1, 1, 4, 1, .u32, .ro, []⟩,
  ⟨.TEST_DAC, 0x3300, 0x1, 1, 5, 8, .u16, .rw, [(0, 1023)]⟩,
  ⟨.CAL_CONV, 0x3400, 0x1, 1, 1, 1, .u8, .rw, [(0, 15)]⟩,
  ⟨.CAL_GAIN, 0x3400, 0x1, 1, 2, 1, .u8, .rw, [(0, 3)]⟩,
  ⟨.CAL_SOURCE, 0x3400, 0x1, 1, 3, 1, .u8, .rw, [(0, 1)]⟩,
  ⟨.CAL_INPUT, 0x3400, 0x1, 1, 4, 1, .u8, .rw, [(0, 9)]⟩,
  ⟨.CAL_EXPECT_ZERO, 0x3400, 0x1, 1, 5, 1, .i32, .rw, []⟩,
  ⟨.CAL_EXPECT_FS, 0x3400, 0x1, 1, 6, 1, .i32, .rw, []⟩,
  ⟨.CAL_POINT, 0x3400, 0x1, 1, 7, 1, .u8, .wo, [(1, 3)]⟩,
  ⟨.CAL_MEAN, 0x3400, 0x1, 1, 8, 1, .i32, .ro, []⟩,
  ⟨.CAL_STATUS, 0x3400, 0x1, 1, 9, 1, .u8, .ro, []⟩,
  ⟨.CAL_STORE, 0x3400, 0x1, 1, 10, 1, .bool, .wo, [(1, 1)]⟩,
  ⟨.CAL_OFS, 0x3500, 0x1, 16, 1, 4, .i32, .ro, []⟩,
  ⟨.CAL_GAIN_FACTOR, 0x3500, 0x1, 16, 5, 4, .u16, .ro, []⟩,
  ⟨.VIEW_ACTIVE, 0x6C00, 0x1, 32, 1, 128, .u64, .ro, []⟩,
  ⟨.VIEW_INACTIVE, 0x6C20, 0x1, 32, 1, 128, .u64, .ro, []⟩,
  ⟨.REDUNDANCY_POLICY, 0x6800, 0x1, 1, 1, 1, .u8, .rwc, [(0, 1)]⟩,
  ⟨.SPARE_ENGINE, 0x6800, 0x1, 1, 2, 1, .u8, .rwc, [(0, 7)]⟩,
  ⟨.EFFECTIVE_SPARE, 0x6800, 0x1, 1, 3, 1, .u8, .ro, []⟩,
  ⟨.ACTIVE_BANK, 0x6800, 0x1, 1, 4, 1, .u8, .ro, []⟩,
  ⟨.FALLBACK_FOR, 0x6800, 0x1, 1, 5, 1, .u8, .ro, []⟩,
  ⟨.FALLBACK_READY, 0x6800, 0x1, 1, 6, 1, .u8, .ro, []⟩,
  ⟨.SLOTS_USED, 0x6800, 0x1, 1, 7, 1, .u16, .ro, []⟩]

/-- Rows 361 to 400 of the object tables. -/
def objects09 : List Obj := [
  ⟨.REPLACE_COUNT, 0x6800, 0x1, 1, 8, 1, .u32, .ro, []⟩,
  ⟨.REPLACE_MARK, 0x6800, 0x1, 1, 9, 1, .u64, .ro, []⟩,
  ⟨.ENGINE_LOAD, 0x6801, 0x1, 1, 1, 8, .u16, .ro, []⟩,
  ⟨.ENGINE_OVERRUNS, 0x6802, 0x1, 1, 1, 8, .u32, .ro, []⟩,
  ⟨.ENGINE_STATE, 0x6803, 0x1, 1, 1, 8, .u8, .ro, []⟩,
  ⟨.ENGINE_CLEAR, 0x6803, 0x1, 1, 9, 1, .u8, .wo, [(0, 7)]⟩,
  ⟨.SWAP_START, 0x6808, 0x1, 1, 1, 1, .u8, .wo, [(0, 7)]⟩,
  ⟨.SWAP_STATE, 0x6808, 0x1, 1, 2, 1, .u8, .ro, []⟩,
  ⟨.SWAP_RESULT, 0x6808, 0x1, 1, 3, 1, .u8, .ro, []⟩,
  ⟨.SWAP_MARK, 0x6808, 0x1, 1, 4, 1, .u64, .ro, []⟩,
  ⟨.BASIN_BANK, 0x6820, 0x1, 1, 1, 80, .u8, .ro, []⟩,
  ⟨.WORK_PROG, 0x6900, 0x1, 256, 1, 1, .u16, .rwc, [(0, 1023)]⟩,
  ⟨.WORK_CTX, 0x6900, 0x1, 256, 2, 1, .u8, .rwc, [(0, 63), (255, 255)]⟩,
  ⟨.WORK_AFTER, 0x6900, 0x1, 256, 3, 1, .u8, .rwc, [(0, 0), (2, 5)]⟩,
  ⟨.WORK_PERIOD, 0x6900, 0x1, 256, 4, 1, .u8, .rwc, [(0, 3)]⟩,
  ⟨.WORK_SHED, 0x6900, 0x1, 256, 5, 1, .bool, .rwc, [(0, 1)]⟩,
  ⟨.WORK_PIN_ENGINE, 0x6900, 0x1, 256, 6, 1, .u8, .rwc, [(0, 7), (255, 255)]⟩,
  ⟨.WORK_PIN_START, 0x6900, 0x1, 256, 7, 1, .u16, .rwc, [(0, 9999), (65535, 65535)]⟩,
  ⟨.WORK_ENGINE, 0x6900, 0x1, 256, 8, 1, .u8, .ro, []⟩,
  ⟨.WORK_START, 0x6900, 0x1, 256, 9, 1, .u16, .ro, []⟩,
  ⟨.WORK_SLOT, 0x6900, 0x1, 256, 10, 1, .u16, .ro, []⟩,
  ⟨.WORK_BUDGET, 0x6900, 0x1, 256, 11, 1, .u16, .ro, []⟩,
  ⟨.IMAGE_SEL, 0x6000, 0x1, 1, 1, 1, .u8, .rw, [(0, 8)]⟩,
  ⟨.IMAGE_OFFSET, 0x6000, 0x1, 1, 2, 1, .u32, .rw, []⟩,
  ⟨.IMAGE_CHUNK, 0x6000, 0x1, 1, 3, 1, .oct 1024, .wo, []⟩,
  ⟨.IMAGE_CLOSE, 0x6000, 0x1, 1, 4, 1, .u32, .wo, []⟩,
  ⟨.IMAGE_RESULT, 0x6000, 0x1, 1, 5, 1, .u8, .ro, []⟩,
  ⟨.IMAGE_PROG, 0x6000, 0x1, 1, 6, 1, .u16, .ro, []⟩,
  ⟨.IMAGE_GROUND, 0x6000, 0x1, 1, 7, 1, .u8, .ro, []⟩,
  ⟨.IMAGE_ERASE, 0x6000, 0x1, 1, 8, 1, .u8, .wo, [(0, 8)]⟩,
  ⟨.IMAGE_STATE, 0x6001, 0x1, 1, 1, 9, .u8, .ro, []⟩,
  ⟨.IMAGE_BUILD, 0x6002, 0x1, 1, 1, 9, .u64, .ro, []⟩,
  ⟨.PLAN_IMAGE, 0x6003, 0x1, 1, 1, 1, .u8, .rwc, [(0, 7), (255, 255)]⟩,
  ⟨.KEY_HASH, 0x6003, 0x1, 1, 2, 1, .oct 32, .ro, []⟩,
  ⟨.PROG_KIND, 0x6400, 0x1, 1024, 1, 1, .u8, .ro, []⟩,
  ⟨.PROG_WORDS, 0x6400, 0x1, 1024, 2, 1, .u16, .ro, []⟩,
  ⟨.PROG_WCET, 0x6400, 0x1, 1024, 3, 1, .u16, .ro, []⟩,
  ⟨.PROG_RUNS, 0x6400, 0x1, 1024, 4, 1, .u64, .ro, []⟩,
  ⟨.PUSH_REFUSED, 0x6400, 0x1, 1024, 5, 1, .u32, .ro, []⟩,
  ⟨.OBJW_DROPPED, 0x6400, 0x1, 1024, 6, 1, .u32, .ro, []⟩]

/-- Rows 401 to 440 of the object tables. -/
def objects10 : List Obj := [
  ⟨.TRIP_PROG, 0x6A00, 0x1, 1, 1, 64, .u16, .rwc, [(0, 1023)]⟩,
  ⟨.TRIP_STATE, 0x6A01, 0x1, 1, 1, 64, .u8, .ro, []⟩,
  ⟨.CAPACITY, 0x5000, 0x1, 80, 1, 1, .u32, .ro, []⟩,
  ⟨.BASIN_WORDS, 0x5000, 0x1, 80, 2, 1, .u32, .rwc, [(64, 262144)]⟩,
  ⟨.CUT_BYTES, 0x5000, 0x1, 80, 3, 1, .u8, .rwc, [(8, 128)]⟩,
  ⟨.DEPTH, 0x5000, 0x1, 80, 4, 1, .u32, .ro, []⟩,
  ⟨.PACKETS, 0x5000, 0x1, 80, 5, 1, .u64, .ro, []⟩,
  ⟨.HIGH_WATER, 0x5000, 0x1, 80, 6, 1, .u32, .ro, []⟩,
  ⟨.PUSHED, 0x5000, 0x1, 80, 7, 1, .u64, .ro, []⟩,
  ⟨.POPPED, 0x5000, 0x1, 80, 8, 1, .u64, .ro, []⟩,
  ⟨.REFUSED, 0x5000, 0x1, 80, 9, 1, .u32, .ro, []⟩,
  ⟨.RESETS, 0x5000, 0x1, 80, 10, 1, .u32, .ro, []⟩,
  ⟨.HELD, 0x5000, 0x1, 80, 11, 1, .bool, .ro, []⟩,
  ⟨.RELEASE, 0x5000, 0x1, 80, 12, 1, .bool, .wo, [(1, 1)]⟩,
  ⟨.REWIND_VALID, 0x5000, 0x1, 80, 13, 1, .bool, .ro, []⟩,
  ⟨.REWIND_LOST, 0x5000, 0x1, 80, 14, 1, .u32, .ro, []⟩,
  ⟨.RESENDS, 0x5000, 0x1, 80, 15, 1, .u32, .ro, []⟩,
  ⟨.BASIN_TOTAL, 0x5100, 0x1, 1, 1, 1, .u32, .ro, []⟩,
  ⟨.BASIN_FREE, 0x5100, 0x1, 1, 2, 1, .u32, .ro, []⟩,
  ⟨.HELD_LO, 0x5100, 0x1, 1, 3, 1, .u64, .ro, []⟩,
  ⟨.HELD_HI, 0x5100, 0x1, 1, 4, 1, .u16, .ro, []⟩,
  ⟨.MAIL_PUSH, 0x5200, 0x1, 4, 1, 1, .oct 129, .wo, []⟩,
  ⟨.CAPTURE_FETCH, 0x5300, 0x1, 1, 1, 1, .u8, .wo, [(1, 16)]⟩,
  ⟨.CAPTURE_BUF, 0x5300, 0x1, 1, 2, 1, .oct 129, .ro, []⟩,
  ⟨.DEVICE_ID, 0x0000, 0x1, 1, 1, 1, .u32, .ro, []⟩,
  ⟨.SERIAL, 0x0000, 0x1, 1, 2, 1, .u64, .ro, []⟩,
  ⟨.FW_BUILD, 0x0000, 0x1, 1, 3, 1, .u64, .ro, []⟩,
  ⟨.MAC_ADDRESS, 0x0000, 0x1, 1, 4, 1, .oct 6, .ro, []⟩,
  ⟨.HW_ISSUE, 0x0000, 0x1, 1, 5, 1, .u16, .ro, []⟩,
  ⟨.NODE_MODE, 0x0010, 0x1, 1, 1, 1, .u8, .rwc, [(0, 1)]⟩,
  ⟨.NODE_FIXED, 0x0010, 0x1, 1, 2, 1, .u16, .rwc, [(0, 1023)]⟩,
  ⟨.NODE_NUMBER, 0x0010, 0x1, 1, 3, 1, .u16, .ro, []⟩,
  ⟨.GATEWAY_HEAD, 0x0010, 0x1, 1, 4, 1, .u8, .rwc, [(0, 3), (255, 255)]⟩,
  ⟨.AMPLITUDE_PERMIT_RA, 0x0011, 0x1, 1, 1, 1, .bool, .rwc, [(0, 1)]⟩,
  ⟨.AMPLITUDE_PERMIT_RB, 0x0011, 0x1, 1, 2, 1, .bool, .rwc, [(0, 1)]⟩,
  ⟨.LINK_HOLD, 0x0011, 0x1, 1, 3, 1, .u16, .rw, [(100, 60000)]⟩,
  ⟨.HOP_BUDGET, 0x0011, 0x1, 1, 4, 1, .u16, .rw, [(1000, 10000)]⟩,
  ⟨.GW_TIMEOUT, 0x0011, 0x1, 1, 5, 1, .u32, .rw, [(100000, 100000000)]⟩,
  ⟨.GW_RETRIES, 0x0011, 0x1, 1, 6, 1, .u8, .rw, [(0, 7)]⟩,
  ⟨.LINK, 0x0020, 0x1, 3, 1, 1, .u8, .ro, []⟩]

/-- Rows 441 to 480 of the object tables. -/
def objects11 : List Obj := [
  ⟨.PORT_AMPLITUDE, 0x0020, 0x1, 3, 2, 1, .u8, .ro, []⟩,
  ⟨.WRAPPED, 0x0020, 0x1, 3, 3, 1, .bool, .ro, []⟩,
  ⟨.LINK_DELAY, 0x0020, 0x1, 3, 4, 1, .u32, .ro, []⟩,
  ⟨.FRAMES_IN, 0x0020, 0x1, 3, 5, 1, .u64, .ro, []⟩,
  ⟨.FRAMES_OUT, 0x0020, 0x1, 3, 6, 1, .u64, .ro, []⟩,
  ⟨.FCS_ERRORS, 0x0020, 0x1, 3, 7, 1, .u32, .ro, []⟩,
  ⟨.ABANDONED, 0x0020, 0x1, 3, 8, 1, .u32, .ro, []⟩,
  ⟨.HOP_MAX, 0x0020, 0x1, 3, 9, 1, .u32, .ro, []⟩,
  ⟨.PORT_HOP_SLOW, 0x0020, 0x1, 3, 10, 1, .u32, .ro, []⟩,
  ⟨.INSERT_WAIT_MAX, 0x0020, 0x1, 3, 11, 1, .u32, .ro, []⟩,
  ⟨.LINK_LOSSES, 0x0020, 0x1, 3, 12, 1, .u32, .ro, []⟩,
  ⟨.CIRCLED, 0x0020, 0x1, 3, 13, 1, .u32, .ro, []⟩,
  ⟨.DROPPED, 0x0020, 0x1, 3, 14, 1, .u32, .ro, []⟩,
  ⟨.IN_PROGRESS, 0x0030, 0x1, 1, 1, 1, .u8, .ro, []⟩,
  ⟨.REQUESTS, 0x0030, 0x1, 1, 2, 1, .u64, .ro, []⟩,
  ⟨.RETRIES_ANSWERED, 0x0030, 0x1, 1, 3, 1, .u32, .ro, []⟩,
  ⟨.TAG_CONFLICTS, 0x0030, 0x1, 1, 4, 1, .u32, .ro, []⟩,
  ⟨.NO_REPLY, 0x0030, 0x1, 1, 5, 1, .u32, .ro, []⟩,
  ⟨.GW_RETRIES_SENT, 0x0030, 0x1, 1, 6, 1, .u32, .ro, []⟩,
  ⟨.GW_GIVEN_UP, 0x0030, 0x1, 1, 7, 1, .u32, .ro, []⟩,
  ⟨.GW_DUPLICATES, 0x0030, 0x1, 1, 8, 1, .u32, .ro, []⟩,
  ⟨.SWEEPS, 0x0030, 0x1, 1, 9, 1, .u64, .ro, []⟩,
  ⟨.SWEEP_TIME, 0x0030, 0x1, 1, 10, 1, .u64, .ro, []⟩,
  ⟨.TIME_FRAMES, 0x0030, 0x1, 1, 11, 1, .u64, .ro, []⟩,
  ⟨.TIME_HEAD, 0x0030, 0x1, 1, 12, 1, .u8, .ro, []⟩,
  ⟨.NOTES_SENT, 0x0030, 0x1, 1, 13, 1, .u64, .ro, []⟩,
  ⟨.NOTES_TAKEN, 0x0030, 0x1, 1, 14, 1, .u64, .ro, []⟩,
  ⟨.MODE, 0x1001, 0x1, 1, 1, 1, .u8, .ro, []⟩,
  ⟨.MODE_REQUEST, 0x1001, 0x1, 1, 2, 1, .u8, .wo, [(2, 5), (9, 11)]⟩,
  ⟨.MODE_PREV, 0x1001, 0x1, 1, 3, 1, .u8, .ro, []⟩,
  ⟨.MODE_TIME, 0x1001, 0x1, 1, 4, 1, .u64, .ro, []⟩,
  ⟨.MODE_CAUSE, 0x1001, 0x1, 1, 5, 1, .u8, .ro, []⟩,
  ⟨.RESET_REQUEST, 0x1001, 0x1, 1, 6, 1, .u8, .wo, [(165, 165)]⟩,
  ⟨.AUTO_RUN, 0x1002, 0x1, 1, 1, 1, .bool, .rwc, [(0, 1)]⟩,
  ⟨.RUN_ENABLE, 0x1002, 0x1, 1, 2, 1, .u8, .rwc, [(0, 1)]⟩,
  ⟨.ARM_STATE, 0x1002, 0x1, 1, 3, 1, .u8, .ro, []⟩,
  ⟨.BOOT_RESULT, 0x1002, 0x1, 1, 4, 1, .u8, .ro, []⟩,
  ⟨.BOOT_DURATION, 0x1002, 0x1, 1, 5, 1, .u32, .ro, []⟩,
  ⟨.ISLAND_TIMEOUT, 0x1003, 0x1, 1, 1, 1, .u32, .rw, [(0, 0), (100, 600000)]⟩,
  ⟨.ISLAND_ACTION, 0x1003, 0x1, 1, 2, 1, .u8, .rw, [(0, 3)]⟩]

/-- Rows 481 to 520 of the object tables. -/
def objects12 : List Obj := [
  ⟨.ISLAND_HOLD, 0x1003, 0x1, 1, 3, 1, .u32, .rw, [(100, 3600000)]⟩,
  ⟨.ISLAND_COUNT, 0x1003, 0x1, 1, 4, 1, .u32, .ro, []⟩,
  ⟨.LAST_CONTACT, 0x1003, 0x1, 1, 5, 1, .u64, .ro, []⟩,
  ⟨.TRIP_LIMIT, 0x1004, 0x1, 1, 1, 1, .u8, .rw, [(0, 255)]⟩,
  ⟨.TRIP_WINDOW, 0x1004, 0x1, 1, 2, 1, .u32, .rw, [(1, 604800)]⟩,
  ⟨.SAFE_COUNT, 0x1004, 0x1, 1, 3, 1, .u32, .ro, []⟩,
  ⟨.LOCKOUT_CLEAR, 0x1004, 0x1, 1, 4, 1, .bool, .wo, [(1, 1)]⟩,
  ⟨.LOCKOUT_FLAG, 0x1004, 0x1, 1, 5, 1, .bool, .ro, []⟩,
  ⟨.STANDBY_AUTO, 0x1005, 0x1, 1, 1, 1, .bool, .rwc, [(0, 1)]⟩,
  ⟨.STANDBY_DELAY, 0x1005, 0x1, 1, 2, 1, .u32, .rw, [(100, 3600000)]⟩,
  ⟨.WAKE_DELAY, 0x1005, 0x1, 1, 3, 1, .u32, .rw, [(100, 600000)]⟩,
  ⟨.STANDBY_ORIGIN, 0x1005, 0x1, 1, 4, 1, .u8, .ro, []⟩,
  ⟨.LOG_OLDEST, 0x2002, 0x1, 1, 1, 1, .u32, .ro, []⟩,
  ⟨.LOG_COUNT, 0x2002, 0x1, 1, 2, 1, .u16, .ro, []⟩,
  ⟨.LOG_WRAPPED, 0x2002, 0x1, 1, 3, 1, .u32, .ro, []⟩,
  ⟨.POST_DROPS, 0x2002, 0x1, 1, 4, 1, .u32, .ro, []⟩,
  ⟨.INCIDENTS, 0x2002, 0x1, 1, 5, 1, .u32, .ro, []⟩,
  ⟨.INCIDENT_OPEN, 0x2002, 0x1, 1, 6, 1, .bool, .ro, []⟩,
  ⟨.HEAD_FIRST, 0x2002, 0x1, 1, 7, 1, .u32, .ro, []⟩,
  ⟨.HEAD_LAST, 0x2002, 0x1, 1, 8, 1, .u32, .ro, []⟩,
  ⟨.INCIDENT_QUIET, 0x2002, 0x1, 1, 9, 1, .u32, .rw, [(200, 1200000)]⟩,
  ⟨.LOG_PROBE, 0x2003, 0x1, 1, 1, 1, .u32, .rw, []⟩,
  ⟨.LOG_WINDOW, 0x2003, 0x1, 1, 2, 1, .oct 1024, .ro, []⟩,
  ⟨.HISTORY, 0x2004, 0x1, 1, 1, 1, .oct 256, .ro, []⟩,
  ⟨.INJECT_ENABLE, 0x2005, 0x1, 1, 1, 1, .bool, .rwc, [(0, 1)]⟩,
  ⟨.INJECT_TARGET, 0x2005, 0x1, 1, 2, 1, .u32, .rw, []⟩,
  ⟨.INJECT_ARM, 0x2005, 0x1, 1, 3, 1, .bool, .wo, [(1, 1)]⟩,
  ⟨.INJECT_STATE, 0x2005, 0x1, 1, 4, 1, .u8, .ro, []⟩,
  ⟨.INJECTIONS, 0x2005, 0x1, 1, 5, 1, .u32, .ro, []⟩,
  ⟨.ALIVE_STATE, 0x2006, 0x1, 1, 1, 1, .u8, .ro, []⟩,
  ⟨.TRIPI_MODE, 0x2006, 0x1, 1, 2, 1, .u8, .rwc, [(0, 1)]⟩,
  ⟨.TRIPI_LEVEL, 0x2006, 0x1, 1, 3, 1, .bool, .ro, []⟩,
  ⟨.TRIPI_COUNT, 0x2006, 0x1, 1, 4, 1, .u32, .ro, []⟩,
  ⟨.RAIL_STATE, 0x2006, 0x1, 1, 5, 1, .u32, .ro, []⟩,
  ⟨.CAUSES_PRESENT, 0x2100, 0x1, 256, 1, 1, .u64, .ro, []⟩,
  ⟨.CAUSES_LATCHED, 0x2100, 0x1, 256, 2, 1, .u64, .w1c, []⟩,
  ⟨.OPEN_ORDINAL, 0x2100, 0x1, 256, 3, 1, .u32, .ro, []⟩,
  ⟨.OPEN_CAUSES, 0x2100, 0x1, 256, 4, 1, .u64, .ro, []⟩,
  ⟨.LAST_ORDINAL, 0x2100, 0x1, 256, 5, 1, .u32, .ro, []⟩,
  ⟨.RECORDS, 0x2100, 0x1, 256, 6, 1, .u32, .ro, []⟩]

/-- Rows 521 to 560 of the object tables. -/
def objects13 : List Obj := [
  ⟨.MERGES, 0x2100, 0x1, 256, 7, 1, .u32, .ro, []⟩,
  ⟨.SHADOW_OF, 0x2100, 0x1, 256, 8, 1, .u32, .ro, []⟩,
  ⟨.CLK_SOURCE, 0x1050, 0x1, 1, 1, 1, .u8, .ro, []⟩,
  ⟨.PLL_IN_USE, 0x1050, 0x1, 1, 2, 1, .u8, .ro, []⟩,
  ⟨.BACKUP_TRIM, 0x1050, 0x1, 1, 3, 1, .i32, .ro, []⟩,
  ⟨.ROOT_LOSSES, 0x1050, 0x1, 1, 4, 1, .u32, .ro, []⟩,
  ⟨.ROOT_RETURN_DELAY, 0x1050, 0x1, 1, 5, 1, .u32, .rw, [(1000, 600000)]⟩,
  ⟨.DEVICE_TIME, 0x1051, 0x1, 1, 1, 1, .u64, .ro, []⟩,
  ⟨.RING_TIME, 0x1051, 0x1, 1, 2, 1, .u64, .ro, []⟩,
  ⟨.SYNC_STATE, 0x1051, 0x1, 1, 3, 1, .u8, .ro, []⟩,
  ⟨.RT_ERROR, 0x1051, 0x1, 1, 4, 1, .i32, .ro, []⟩,
  ⟨.RT_RATE, 0x1051, 0x1, 1, 5, 1, .i32, .ro, []⟩,
  ⟨.RT_STEPS, 0x1051, 0x1, 1, 6, 1, .u32, .ro, []⟩,
  ⟨.HOLDOVER_LIMIT, 0x1051, 0x1, 1, 7, 1, .u32, .rw, [(1000, 60000)]⟩,
  ⟨.LAST_TIME_FRAME, 0x1051, 0x1, 1, 8, 1, .u64, .ro, []⟩,
  ⟨.SYNC_MODE, 0x1052, 0x1, 1, 1, 1, .u8, .rwc, [(0, 2)]⟩,
  ⟨.SYNC_PERIOD, 0x1052, 0x1, 1, 2, 1, .u32, .rwc, [(5000, 100000000)]⟩,
  ⟨.SYNC_PHASE, 0x1052, 0x1, 1, 3, 1, .u32, .rwc, []⟩,
  ⟨.SYNC_WIDTH, 0x1052, 0x1, 1, 4, 1, .u16, .rwc, [(10, 10000)]⟩,
  ⟨.SYNC_FREE, 0x1052, 0x1, 1, 5, 1, .bool, .rwc, [(0, 1)]⟩,
  ⟨.SYNC_IN_DEVICE, 0x1052, 0x1, 1, 6, 1, .u64, .ro, []⟩,
  ⟨.SYNC_IN_RING, 0x1052, 0x1, 1, 7, 1, .u64, .ro, []⟩,
  ⟨.SYNC_EDGES, 0x1052, 0x1, 1, 8, 1, .u32, .ro, []⟩,
  ⟨.SYNC_SKIPPED, 0x1052, 0x1, 1, 9, 1, .u32, .ro, []⟩,
  ⟨.TRACE_DEST, 0x7000, 0x1, 1, 1, 1, .u8, .rw, [(0, 3)]⟩,
  ⟨.TRACE_SOURCES, 0x7000, 0x1, 1, 2, 1, .u8, .rw, [(0, 63)]⟩,
  ⟨.TRACE_ENGINES, 0x7000, 0x1, 1, 3, 1, .u8, .rw, []⟩,
  ⟨.TRACE_AXES, 0x7000, 0x1, 1, 4, 1, .u64, .rw, []⟩,
  ⟨.TRACE_PORTS, 0x7000, 0x1, 1, 5, 1, .u8, .rw, [(0, 7)]⟩,
  ⟨.TRACE_MIN_SEV, 0x7000, 0x1, 1, 6, 1, .u8, .rw, [(0, 4)]⟩,
  ⟨.TRACE_CONVS, 0x7000, 0x1, 1, 7, 1, .u16, .rw, []⟩,
  ⟨.TRACE_BUF_PROBE, 0x7000, 0x1, 1, 8, 1, .u32, .rw, []⟩,
  ⟨.TRACE_BUF_WINDOW, 0x7000, 0x1, 1, 9, 1, .oct 1024, .ro, []⟩,
  ⟨.TRACE_BUF_NEWEST, 0x7000, 0x1, 1, 10, 1, .u32, .ro, []⟩,
  ⟨.TRACE_DROPS, 0x7000, 0x1, 1, 11, 1, .u32, .ro, []⟩,
  ⟨.VMA_VOLTAGE, 0x1060, 0x1, 1, 1, 1, .u16, .ro, []⟩,
  ⟨.VMB_VOLTAGE, 0x1060, 0x1, 1, 2, 1, .u16, .ro, []⟩,
  ⟨.VMA_CURRENT, 0x1060, 0x1, 1, 3, 1, .u16, .ro, []⟩,
  ⟨.VMB_CURRENT, 0x1060, 0x1, 1, 4, 1, .u16, .ro, []⟩,
  ⟨.AUX_VOLTAGE, 0x1060, 0x1, 1, 5, 1, .u16, .ro, []⟩]

/-- Rows 561 to 568 of the object tables. -/
def objects14 : List Obj := [
  ⟨.LOGIC_POWER, 0x1060, 0x1, 1, 6, 1, .u16, .ro, []⟩,
  ⟨.HUB_TEMP, 0x1060, 0x1, 1, 7, 1, .i32, .ro, []⟩,
  ⟨.IRMS_MODULE, 0x1061, 0x1, 1, 1, 1, .u32, .ro, []⟩,
  ⟨.IRMS_DIE, 0x1061, 0x1, 1, 2, 8, .u32, .ro, []⟩,
  ⟨.REDUNDANCY, 0x1020, 0x1, 1, 1, 1, .u32, .ro, []⟩,
  ⟨.COUNTER, 0x7100, 0x1, 16, 1, 16, .u64, .ro, []⟩,
  ⟨.COUNTER_FROZEN, 0x7200, 0x1, 16, 1, 16, .u64, .ro, []⟩,
  ⟨.COUNTER_FREEZE, 0x7300, 0x1, 1, 1, 1, .bool, .wo, [(1, 1)]⟩]

/-- The object tables of the dictionary (R22, R26). -/
def objects : List Obj :=
  objects00 ++ objects01 ++ objects02 ++ objects03 ++ objects04 ++ objects05 ++ objects06 ++ objects07 ++ objects08 ++ objects09 ++ objects10 ++ objects11 ++ objects12 ++ objects13 ++ objects14

/-- The default of every object and machine register whose default is one number other than 0 (the Default columns). -/
def defaults : List (Reg × Int) := [
  (.AXIS_STATE, 7),
  (.AXE_MASK, 2047),
  (.VMAX, 204800),
  (.AMAX, 409600),
  (.DMAX, 409600),
  (.JMAX, 1638400),
  (.SOFT_MIN, (-140737488355328)),
  (.SOFT_MAX, 140737488355327),
  (.QUEUE_RECORDS, 1024),
  (.RATIO_NUM, 1),
  (.RATIO_DEN, 1),
  (.COARSE_SIZE, 64),
  (.VEL_WINDOW, 1024),
  (.CATCHUP, 16),
  (.LAG_MAX, 65536),
  (.SPREAD_MAX, 200000),
  (.STREAM_DELAY, 1000),
  (.STREAM_TIMEOUT, 600),
  (.STEP_FILTER, 2),
  (.RUN_CURRENT, 1000),
  (.HOLD_CURRENT, 500),
  (.BOOST_CURRENT, 1000),
  (.HOLD_DELAY, 10000),
  (.HOLD_RAMP, 2000),
  (.SHAPE_RMS, 46341),
  (.SHAPE_ENTRY, 50),
  (.BAND, 8),
  (.BLANK, 30),
  (.MIX_TIME, 50),
  (.TOFF_MAX, 2000),
  (.ADAPT_ENABLE, 1),
  (.ADAPT_GAIN, 2),
  (.ADAPT_MIN_REF, 64),
  (.DRIFT_LIMIT, 8),
  (.LOAD_INDEX, 512),
  (.LI_STATE, 2),
  (.LI_MIN_SPEED, 102400),
  (.LI_LOW_MIN_SPEED, 10240),
  (.LI_VM_TOL, 10),
  (.LI_MIN_SAMPLES, 2),
  (.LI_SPEED_TOL, 5),
  (.LEARN_STEPS, 32),
  (.LEARN_SPREAD, 60),
  (.STALL_THRESH, 256),
  (.STALL_STEPS, 4),
  (.HOME_SEARCH_DIST, 1048576),
  (.HOME_BACKOFF, 2048),
  (.EX_TOL, 4096),
  (.EX_RETURN, 1),
  (.EX_MIN_INDEX, 1023),
  (.AXIS_USE, 1),
  (.DISABLE_CAUSE, 1),
  (.DEAD_TIME, 15),
  (.OC_RETRY_DELAY, 200),
  (.OPEN_DETECT_PASSES, 20),
  (.OPEN_LEVEL, 8),
  (.BRIDGE_FAULT, 4096),
  (.BOOT_MIN, 65535),
  (.DIRECT_PULSE, 50),
  (.PUMP_OK, 1),
  (.DIAG_AXIS, 255),
  (.CH_FILTER, 3),
  (.CH_MIN, (-140737488355328)),
  (.CH_MAX, 140737488355327),
  (.SPEED_SPAN, 4),
  (.SPEED_TIMEOUT, 10000000),
  (.INDEX_WINDOW, 4),
  (.ILLEGAL_LIMIT, 16),
  (.SSI_DIV, 100),
  (.SSI_BITS, 25),
  (.SSI_GRAY, 1),
  (.SSI_MONO, 2500),
  (.ABS_PERIOD, 2),
  (.ABS_UNWRAP, 1),
  (.ABS_ERR_LIMIT, 3),
  (.SENSE_FILTER, 200),
  (.EM_RATIO_NUM, 1),
  (.EM_RATIO_DEN, 16),
  (.EM_MIN_GAP, 10),
  (.LIMIT_REACTION, 2),
  (.FB_CHANNEL, 255),
  (.FB_NUM, 1),
  (.FB_DEN, 1),
  (.DEV_REACTION, 1),
  (.CV_MODE, 1),
  (.SEQ_LEN, 11),
  (.URGENT_SAMPLE, 4),
  (.OVERRUN_LIMIT, 3),
  (.GND_TOL, 32),
  (.STANDBY_PERIOD, 200),
  (.TEST_DAC, 512),
  (.CAL_EXPECT_FS, 114688),
  (.CAL_GAIN_FACTOR, 16384),
  (.SPARE_ENGINE, 7),
  (.EFFECTIVE_SPARE, 7),
  (.FALLBACK_FOR, 255),
  (.WORK_CTX, 255),
  (.WORK_PIN_ENGINE, 255),
  (.WORK_PIN_START, 65535),
  (.WORK_ENGINE, 255),
  (.PLAN_IMAGE, 255),
  (.CUT_BYTES, 24),
  (.BASIN_TOTAL, 625664),
  (.BASIN_FREE, 422912),
  (.DEVICE_ID, 25632),
  (.NODE_NUMBER, 65535),
  (.GATEWAY_HEAD, 255),
  (.AMPLITUDE_PERMIT_RA, 1),
  (.AMPLITUDE_PERMIT_RB, 1),
  (.LINK_HOLD, 1000),
  (.HOP_BUDGET, 2600),
  (.GW_TIMEOUT, 8000000),
  (.GW_RETRIES, 2),
  (.TIME_HEAD, 255),
  (.RUN_ENABLE, 1),
  (.ISLAND_TIMEOUT, 2000),
  (.ISLAND_HOLD, 30000),
  (.TRIP_WINDOW, 3600),
  (.STANDBY_AUTO, 1),
  (.STANDBY_DELAY, 10000),
  (.WAKE_DELAY, 1000),
  (.INCIDENT_QUIET, 20000),
  (.LOG_PROBE, 1),
  (.TRIPI_MODE, 1),
  (.ROOT_RETURN_DELAY, 10000),
  (.HOLDOVER_LIMIT, 2000),
  (.SYNC_PERIOD, 100000),
  (.SYNC_WIDTH, 100),
  (.TRACE_ENGINES, 255),
  (.TRACE_AXES, 18446744073709551615),
  (.TRACE_PORTS, 7),
  (.TRACE_CONVS, 65535),
  (.TRACE_BUF_PROBE, 1),
  (.REDUNDANCY, 7199),
  (.tfEngines, 255),
  (.tfAxes, 18446744073709551615),
  (.tfPorts, 7),
  (.tfConvs, 65535),
  (.effV, 204800),
  (.effA, 409600),
  (.effD, 409600),
  (.effJ, 1638400),
  (.effNum, 1),
  (.effDen, 1),
  (.effBand, 8),
  (.effBlank, 30),
  (.effMix, 50),
  (.effToff, 2000),
  (.brPersist, 4096),
  (.exPend, 1023),
  (.markNum, 1),
  (.markDen, 1),
  (.mkLoad, 131584)]

/-- The default of register `i` of `r` (R23; R8 for the limit inputs, R194 for the sequence entries, R264 for the queues). -/
def Reg.dflt (r : Reg) (i : Nat) : Int :=
  match r with
  | .LIMIT_NEG => 2 * i
  | .LIMIT_POS => 2 * i + 1
  | .SEQ_ENTRY => if i % 16 ≤ 9 then 0x400 + i % 16 else 0x40B
  | .BASIN_WORDS =>
      if i < 64 then 4080 else if i < 73 then (if i = 72 then 16384 else 32768) else if i = 73 then 65536
      else if i = 74 then 0 else if i = 75 then 16384 else 1024
  | r => ((defaults.find? (fun p => p.1 = r)).map Prod.snd).getD 0

/-- The row and the number of the object at index `idx`, subindex `sub` (R22); none where no row covers it. The index of an
axis (area 0x8–0xB) is taken apart into its offset and the axis number (R27). -/
def findObj (idx sub : Nat) : Option (Obj × Nat) :=
  if 0x8000 ≤ idx ∧ idx < 0xC000 then
    (objects.find? (fun o => o.base = 0x8000 + idx % 256 ∧ o.stride = 256 ∧ o.sub ≤ sub ∧ sub < o.sub + o.nsub)).map
      (fun o => (o, (idx - 0x8000) / 256 * o.nsub + (sub - o.sub)))
  else
    (objects.find? (fun o => o.base ≤ idx ∧ idx < o.base + o.units ∧ o.stride = 1 ∧ o.sub ≤ sub ∧ sub < o.sub + o.nsub)).map
      (fun o => (o, (idx - o.base) * o.nsub + (sub - o.sub)))

/-- The highest subindex of an index: subindex 0x00 holds it (R22); none where the index does not exist. -/
def maxSub (idx : Nat) : Option Nat :=
  let here (o : Obj) : Bool :=
    if 0x8000 ≤ idx ∧ idx < 0xC000 then decide (o.base = 0x8000 + idx % 256 ∧ o.stride = 256)
    else decide (o.base ≤ idx ∧ idx < o.base + o.units ∧ o.stride = 1)
  match objects.filter here with
  | []      => none
  | o :: os => some (os.foldl (fun m p => max m (p.sub + p.nsub - 1)) (o.sub + o.nsub - 1))

/-- The index of unit `u` of a row. -/
def Obj.index (o : Obj) (i : Nat) : Nat := o.base + o.stride * (i / o.nsub)

/-- The subindex of register `i` of a row. -/
def Obj.subindex (o : Obj) (i : Nat) : Nat := o.sub + i % o.nsub

/-- The row of a register that is an object. -/
def Reg.obj (r : Reg) : Option Obj := objects.find? (fun o => o.reg = r)

/-- Whether `v` lies in the Range column. -/
def Obj.inRange (o : Obj) (v : Int) : Bool :=
  o.rng.isEmpty || o.rng.any (fun p => decide (p.1 ≤ v ∧ v ≤ p.2))

end Sys2Proof.Machine
end

