-- ==== Sys2Proof/Machine/State.lean ====
section
/-! DEFINITION. The state of the module: plain data, everything the spec gives the machine (INVENTORY.md lists it with its rules),
and the queue of commands that wait. -/
namespace Sys2Proof.Machine

/-- A sparse table: keys strictly rising, no entry equal to the table's default (`Tbl.wf`). -/
abbrev Tbl (α : Type) := List (Nat × α)

/-- The canonical form of a table whose unlisted keys read `d`. -/
def Tbl.wf {α : Type} [DecidableEq α] (d : α) (l : Tbl α) : Bool :=
  decide (l.Pairwise (fun p q => p.1 < q.1)) && l.all (fun p => decide (p.2 ≠ d))

/-- One log record, which is also the packet of Q72 (R344). `data` holds the fourteen data bytes, the first one lowest. -/
structure Rec where
  time       : Nat
  cause      : Nat
  block      : Nat
  sev        : Nat
  consequent : Bool
  merged     : Bool
  injected   : Bool
  head       : Bool
  isOpen     : Bool
  first      : Bool
  ordinal    : Nat
  link       : Nat
  merges     : Nat
  data       : Nat
  deriving DecidableEq, Repr

/-- A packet of a queue (R264): 64-bit words, a ring frame, or a fault record. -/
inductive Pkt where
  | words (ws : List Word64)
  | frame (f : Frame)
  | record (r : Rec)
  deriving DecidableEq, Repr

/-- One hardware queue (R264–R274): complete packets, oldest first; words reserved for packets being written; read and write
pointers in words; the packet under the rewind mark with the mark's word; how many of the newest packets landed in the cycle
`pushAt`, which no pop of that cycle takes (R266); and the depth at the latest mark. -/
structure Queue where
  pkts      : List Pkt
  resv      : Nat
  rdPtr     : Nat
  wrPtr     : Nat
  rewind    : Option Pkt
  rewindPtr : Nat
  pushAt    : Nat
  fresh     : Nat
  markDepth : Nat
  deriving DecidableEq, Repr

/-- When the open record of a block closes (R339). -/
inductive Until where
  | mark
  | held
  | containment
  | queueReset
  | reaction
  | safeMark
  | shadow
  deriving DecidableEq, Repr

/-- The open record of a block (R339). -/
structure OpenRec where
  ordinal : Nat
  cause   : Nat
  sev     : Nat
  time    : Nat
  ends    : Until
  marked  : Bool
  deriving DecidableEq, Repr

/-- When a shadow ends (R341). -/
inductive ShadowEnd where
  | waiting
  | mark (p : Nat)
  | time (t : Nat)
  | reset
  deriving DecidableEq, Repr

/-- A shadow (R340, R341): the ordinal of its first fault, the block and cause that opened it, the covered blocks (each with the
causes covered, all of them where the list is empty), and its end. -/
structure Shadow where
  first  : Nat
  block  : Nat
  cause  : Nat
  covers : List (Nat × List Nat)
  ends   : ShadowEnd
  deriving DecidableEq, Repr

/-- A segment of a planned path (R42) in the planner's units: `F` = 20,000·2^32 quanta of time in a second, so that a pass is 2^32
quanta; position `x` in 1/(6F³), velocity `v` in 1/(2F²) and acceleration `a` in 1/F of the units of R40, all at its start. -/
structure Seg where
  kind : Nat
  j    : Int
  n    : Nat
  x    : Int
  v    : Int
  a    : Int
  deriving DecidableEq, Repr

/-- A planned path: its segments, its length in quanta, its end in 2^-16 microstep, and the instant and place of its saddle. -/
structure Plan where
  segs   : List Seg
  len    : Nat
  goal   : Int
  saddle : Option (Nat × Int)
  deriving DecidableEq, Repr

/-- The planned state at a mark: position in 2^-16 microstep (R41), velocity and acceleration in the units of `Seg`, segment, and what the
path's own position lies beyond `x`, in the units of `Seg`. -/
structure Kin where
  x   : Int
  v   : Int
  a   : Int
  seg : Nat
  fr  : Int
  deriving DecidableEq, Repr

/-- The active record of an axis (R64, R65): its words, the PASS_COUNT of the mark from which its passes count, and whether it
has been found complete. -/
structure Move where
  w0   : Nat
  w1   : Nat
  w2   : Nat
  w3   : Nat
  mark : Nat
  done : Bool
  deriving DecidableEq, Repr

/-- What an axis had before the profile step of a pass took a STOP, a TARGET write or a record (R128): the PASS_COUNT of that pass, the plan with
its age, the active record, the values of `inputRegs` in their order, and the packet of the record taken. -/
structure Prior where
  pass : Nat
  plan : Option Plan
  age  : Int
  act  : Option Move
  vals : List Int
  pkt  : Option Pkt
  deriving DecidableEq, Repr

/-- The planner of an axis (R44–R74): the planned state at the next mark, that of the mark after it once this pass's profile step
has run, the plan, the quanta from the plan's origin to the next mark, the active record, and what the step has replaced. -/
structure Planner where
  nxt   : Kin
  aft   : Option Kin
  plan  : Option Plan
  age   : Int
  act   : Option Move
  prior : Option Prior
  deriving DecidableEq, Repr

/-- A stream sample (R84). -/
structure Sample where
  seq : Nat
  t   : Nat
  pos : Int
  vel : Int
  deriving DecidableEq, Repr

/-- A program of a loaded image with its certificate (R253). -/
structure Prog where
  num      : Nat
  kind     : Nat
  words    : List Word32
  wcet     : Nat
  ctxRead  : Nat
  ctxWrite : Nat
  absAxes  : Nat
  absRead  : Nat
  absWrite : Nat
  pushes   : Nat
  pops     : Nat
  flags    : Nat
  objs     : List (Nat × Nat × Nat)
  hash     : Nat
  deriving DecidableEq, Repr

/-- An open loop of a run (R242): the word after its LOOP, its COUNT, and the index of the present iteration. -/
structure LoopSt where
  body  : Nat
  count : Nat
  index : Nat
  deriving DecidableEq, Repr

/-- A program run (R240, R213): the program number and its words, the next word, the registers V0–V15, the open loops innermost
first, the context axis (0xFF: module), the slot it runs in, the device time of its start, and what its commit buffer holds:
ledger stores newest first, queue words newest first with their end bits, the words popped of each mailbox, the values of the
objects it has read, object writes newest first, and whether DONE was executed. -/
structure Run where
  prog   : Nat
  words  : List Word32
  pos    : Nat
  regs   : List Word32
  loops  : List LoopSt
  ctx    : Nat
  slot   : Nat
  start  : Nat
  cycles : Nat
  stores : List ((Nat × Bool) × Word32)
  pushes : List (Nat × Word64 × Bool)
  pops   : Tbl Nat
  read   : Tbl (Option Int)
  writes : List (Nat × Word32)
  called : Bool
  deriving DecidableEq, Repr

/-- A tag of R293–R295: the digest of its last or present request, whether that transaction is in progress, and the cached
reply. -/
structure TagSt where
  digest : Option Nat
  busy   : Bool
  reply  : Option Frame
  deriving DecidableEq, Repr

/-- A reply that waits for its operation to end (R31, R234, R257, R231, R314): the operation and what it waits for. -/
structure Deferred where
  hdr   : Hdr
  op    : Nat
  index : Nat
  sub   : Nat
  deriving DecidableEq, Repr

/-- A gateway wait (R297): the request, the device time of expiry, and how many retries have been sent. -/
structure GwWait where
  frame   : Frame
  expires : Nat
  tries   : Nat
  deriving DecidableEq, Repr

/-- What one flash bank holds beside images (R31, R206, R325): the committed set, the calibration, the lockout flag. -/
structure FlashSet where
  valid   : Bool
  config  : Tbl Int
  cal     : Tbl Int
  lockout : Bool
  deriving DecidableEq, Repr

/-- A COMMIT or swap whose new set waits for its mark (R31, R234): the new committed values, the new plan and its fallback plans,
the programs, and the result. -/
structure NewSet where
  swap     : Bool
  config   : Tbl Int
  slots    : List Word64
  fallback : Tbl (List Word64)
  progs    : List Prog
  banks    : Tbl Nat
  spare    : Nat
  placed   : Bool
  deriving DecidableEq, Repr

/-- The registers and the ledger as they stood when a CKM cycle began (R45, R215). -/
structure Was where
  regs   : Tbl Int
  ledger : Tbl Word64
  deriving DecidableEq, Repr

/-- The state of the module. -/
structure State where
  /-- Every register and counter: key `i * 2048 + r`, defaults by `Reg.dflt`. -/
  regs     : Tbl Int
  /-- The axis ledger (R214): key `64 * n + w`, 0 unlisted. -/
  ledger   : Tbl Word64
  /-- The staging store (R29): the key of a register and its staged value. -/
  staged   : Tbl (Option Int)
  /-- The hardware queues (R264). -/
  queues   : Tbl Queue
  /-- The fault log, oldest first (R343). -/
  log      : List Rec
  /-- The open record of each block (R339). -/
  opens    : Tbl (Option OpenRec)
  /-- The open shadows (R340). -/
  shadows  : List Shadow
  /-- W1C bits set in the device-time cycle `freshAt`, by register key (R36, R336). -/
  fresh    : Tbl Nat
  freshAt  : Nat
  /-- The planners (R44). -/
  planners : Tbl Planner
  /-- The stream samples of R85 each axis holds, newest first: key the following axis. -/
  streams  : Tbl (List Sample)
  /-- Flagged current results of each phase that no slope pair has used (R118): key 2n + phase, oldest first, with the number of the off
  time in `seq`, the device time of the window's end in `t` and the magnitude in 1/16 code in `pos`. -/
  slopes   : Tbl (List Sample)
  /-- The schedule banks A and B, the plan copy and the fallback plans in SDRAM, as slot words in slot order (R216, R223). -/
  bankA    : List Word64
  bankB    : List Word64
  planCopy : List Word64
  fallback : Tbl (List Word64)
  /-- The plan being loaded into the inactive bank (R228, R232). -/
  loading  : Option (List Word64)
  /-- The loaded programs (R260), and the runs by unit: engine e, 8 the trip sequencers, 16 + c harvest unit c (R239). -/
  progs    : List Prog
  runs     : Tbl (Option Run)
  /-- PASS_COUNT stamps of the cut-offs of each engine, newest first (R226). -/
  cutoffs  : Tbl (List Nat)
  /-- Marks of the SAFE entries, as device times, newest first (R325). -/
  safes    : List Nat
  /-- Pending calls (R249): key `1024 * axis + program`, the argument. -/
  calls    : Tbl (Option Nat)
  /-- Axes that wait for an off-state diagnostic on each die, in order (R159). -/
  diag     : Tbl (List Nat)
  /-- Images in flash by `16 * bank + number`, and the chunks received by the steward (R255, R257). -/
  images   : Tbl (List Byte)
  chunks   : List Byte
  /-- The committed sets, calibration and lockout flag of the two flash banks (R31). -/
  flash    : Tbl FlashSet
  /-- A COMMIT or swap that has passed its checks and waits for its mark. -/
  newSet   : Option NewSet
  /-- Tags and the reply cache (R293–R295), replies that wait for their operation, gateway waits (R297). -/
  tags     : Tbl TagSt
  deferred : List Deferred
  gateway  : Tbl (Option GwWait)
  /-- The last frame each port began to send: 0 RA, 1 RB, 2 LP (the model's own view of the wire). -/
  wire     : Tbl (Option Frame)
  /-- The last eight link delays of each port, newest first (R305). -/
  delays   : Tbl (List Int)
  /-- The trace buffer, newest word first (R377), and the last word at the trace port (R373). -/
  traceBuf : List Word64
  traceOut : Option Word64
  /-- The model's own: how many free values have been drawn from Config.free. -/
  freeCtr  : Nat
  /-- The model's own view of the present CKM cycle: what its start found, for what reads before the writes of its cycle (R45, R215). -/
  was      : Was
  /-- The commands that wait, first in, first out. -/
  pending  : List Instr
  deriving DecidableEq, Repr

/-- Why a command stops the model. -/
inductive Fault where
  /-- Raised by an Orwyn command whose fields form no instruction word: an odd register in a pair field, a shift distance above 31,
  a forward distance of 0, HALF set in a 64-bit form. R242 calls such a word invalid, and no program holding it is loaded (R259
  ground 9), so no hardware runs it. Safe. -/
  | invalidOrwyn
  deriving DecidableEq, Repr

/-- Why the model gives a command no meaning. -/
inductive Refusal where
  /-- A command whose meaning has not been written. Safe: nothing can be proved of it. -/
  | notModelled (mnemonic : String)
  deriving DecidableEq, Repr

/-- The default of the queue table: empty, everything 0. -/
def Queue.empty : Queue := ⟨[], 0, 0, 0, none, 0, 0, 0, 0⟩
/-- A planner at rest at position 0. -/
def Planner.rest : Planner := ⟨⟨0, 0, 0, 0, 0⟩, none, none, 0, none, none⟩
/-- A tag that has carried no transaction since reset. -/
def TagSt.free : TagSt := ⟨none, false, none⟩
/-- A flash bank that holds no valid set. -/
def FlashSet.blank : FlashSet := ⟨false, [], [], false⟩

/-- The module in RESET: every object at its default (R23, R316), every queue, log and cache empty, nothing in flash. -/
def State.reset : State where
  regs := []
  ledger := []
  staged := []
  queues := []
  log := []
  opens := []
  shadows := []
  fresh := []
  freshAt := 0
  planners := []
  streams := []
  slopes := []
  bankA := []
  bankB := []
  planCopy := []
  fallback := []
  loading := none
  progs := []
  runs := []
  cutoffs := []
  safes := []
  calls := []
  diag := []
  images := []
  chunks := []
  flash := []
  newSet := none
  tags := []
  deferred := []
  gateway := []
  wire := []
  delays := []
  traceBuf := []
  traceOut := none
  freeCtr := 0
  was := ⟨[], []⟩
  pending := []

end Sys2Proof.Machine
end

