-- ==== Sys2Proof/Machine/Ops.lean ====
section
/-! DEFINITION. The named operations on the state: sparse tables, the register file, free values, counters, W1C bits, device
time and bytes. Everything else reads and writes the state through them. -/
namespace Sys2Proof.Machine

-- tables

/-- The value of key `k`; `d` where it is not listed. -/
def tget {α : Type} (d : α) : Tbl α → Nat → α
  | [], _ => d
  | p :: l, k => if p.1 = k then p.2 else tget d l k

/-- `l`, which does not list `k`, with `k` at its place. -/
def tins {α : Type} (k : Nat) (v : α) : Tbl α → Tbl α
  | [] => [(k, v)]
  | p :: l => if k < p.1 then (k, v) :: p :: l else p :: tins k v l

/-- `l` with `v` at `k`; writing the default removes the entry. -/
def tset {α : Type} [DecidableEq α] (d : α) (l : Tbl α) (k : Nat) (v : α) : Tbl α :=
  if v = d then l.filter (fun p => p.1 ≠ k) else tins k v (l.filter (fun p => p.1 ≠ k))

/-- `f` on every listed value. -/
def tmap {α : Type} [DecidableEq α] (d : α) (f : Nat → α → α) (l : Tbl α) : Tbl α :=
  (l.map (fun p => (p.1, f p.1 p.2))).filter (fun p => p.2 ≠ d)

/-- Two's complement reading of the low `w` bits. -/
def signed (w v : Nat) : Int := if v % 2 ^ w < 2 ^ (w - 1) then (v % 2 ^ w : Nat) else (v % 2 ^ w : Nat) - 2 ^ w

-- the register file

/-- The key of register `i` of `r`. -/
def Reg.key (r : Reg) (i : Nat) : Nat := i * 2048 + r.ctorIdx

/-- The register named by a key. -/
def keyReg (k : Nat) : Reg × Nat := (Reg.ofNat (k % 2048), k / 2048)

/-- The value of register `i` of `r`: its default where the file does not list it (R23). -/
def State.rd (s : State) (r : Reg) (i : Nat) : Int := tget (r.dflt i) s.regs (r.key i)

/-- The same as a natural number. -/
def State.rdN (s : State) (r : Reg) (i : Nat) : Nat := (s.rd r i).toNat

/-- Register `i` of `r` takes `v`. -/
def State.wr (s : State) (r : Reg) (i : Nat) (v : Int) : State := { s with regs := tset (r.dflt i) s.regs (r.key i) v }

/-- Whether bit `b` of a register is set. -/
def State.bit (s : State) (r : Reg) (i b : Nat) : Bool := (s.rdN r i).testBit b

/-- Bit `b` of a register set or cleared. -/
def State.wrBit (s : State) (r : Reg) (i b : Nat) (v : Bool) : State :=
  s.wr r i (if v then s.rdN r i ||| 2 ^ b else s.rdN r i ^^^ (s.rdN r i &&& 2 ^ b) : Nat)

/-- The number of a Boolean. -/
def ofBool (b : Bool) : Int := if b then 1 else 0

/-- A fresh free value of `w` bits (log entry 2). -/
def State.draw (s : State) (w : Nat) : Nat × State :=
  (Config.free s.freeCtr % 2 ^ w, { s with freeCtr := s.freeCtr + 1 })

/-- Register `i` of `r` counts `n` up in `w` bits. No rule says what an object's counter does past its top: it takes a free value
there (log entry 7). -/
def State.count (s : State) (r : Reg) (i : Nat) (n : Nat := 1) (w : Nat := 32) : State :=
  if s.rd r i + n < 2 ^ w then s.wr r i (s.rd r i + n) else (s.draw w).2.wr r i (s.draw w).1

/-- Counter `k` of the counter bank counts `n` up, saturating at 2^48 − 1 (R378). -/
def State.tally (s : State) (k : Nat) (n : Nat := 1) : State :=
  s.wr .COUNTER k (min (s.rd .COUNTER k + n) (2 ^ 48 - 1))

/-- A 48-bit signed register takes `v`; past its range the spec states no value, and it takes a free one (log entry 7). -/
def State.wr48 (s : State) (r : Reg) (i : Nat) (v : Int) : State :=
  if -2 ^ 47 ≤ v && v < 2 ^ 47 then s.wr r i v else (s.draw 48).2.wr r i (signed 48 (s.draw 48).1)

/-- Register `i` of `r` keeps the larger of its value and `v`. -/
def State.keepMax (s : State) (r : Reg) (i : Nat) (v : Int) : State := s.wr r i (max (s.rd r i) v)

-- time

/-- Device time of the present CKM cycle (R363). -/
def State.now (s : State) : Nat := s.rdN .DEVICE_TIME 0

/-- Device time goes to the cycle `t`; a new cycle begins with what the one before it has left. -/
def State.goOn (s : State) (t : Nat) : State :=
  (if t = s.now then s else { s with was := ⟨s.regs, s.ledger⟩ }).wr .DEVICE_TIME 0 t

/-- The value of a register, and of a ledger word, at the start of the present cycle. -/
def State.rdWas (s : State) (r : Reg) (i : Nat) : Int := tget (r.dflt i) s.was.regs (r.key i)
/-- The state with the registers and the ledger of the start of the present cycle, for what is read then. -/
def State.before (s : State) : State := { s with regs := s.was.regs, ledger := s.was.ledger }

/-- The module in the CKM cycle `t`. Time does not run back, and no command carries it past the next mark, at which PASS_MARK takes
it (log entry 10); before first PLL lock device time stays 0 (R363). -/
def State.at (s : State) (t : Nat) : State :=
  if s.rd .pllLocked 0 = 1 then s.goOn (max s.now (min t (s.rdN .PASS_MARK_TIME 0 + 4999))) else s

/-- Passes since the first mark (R15). -/
def State.pass (s : State) : Nat := s.rdN .PASS_COUNT 0

/-- The operating mode (R332). -/
def State.mode (s : State) : Nat := s.rdN .MODE 0

/-- Whether the present mode is one of `l`. -/
def State.inMode (s : State) (l : List Nat) : Bool := l.contains s.mode

/-- RUN, RUN-DEGRADED, SWAP and ISLAND: the modes that take records and TARGET (R67, R51). -/
def State.motionMode (s : State) : Bool := s.inMode [5, 6, 7, 8]

-- W1C objects

/-- The bits of a W1C object set in the present cycle (R36). -/
def State.freshBits (s : State) (r : Reg) (i : Nat) : Nat := if s.freshAt = s.now then tget 0 s.fresh (r.key i) else 0

/-- The bits of mask `m` set in a W1C object, and noted as set in this cycle. -/
def State.raise (s : State) (r : Reg) (i m : Nat) : State :=
  { s.wr r i (s.rdN r i ||| m : Nat) with
    fresh := tset 0 (if s.freshAt = s.now then s.fresh else []) (r.key i) (s.freshBits r i ||| m)
    freshAt := s.now }

/-- The bits of mask `m` cleared in a W1C object, but for those set in this cycle (R36). -/
def State.lower (s : State) (r : Reg) (i m : Nat) : State :=
  s.wr r i (s.rdN r i - (s.rdN r i &&& m) + (s.rdN r i &&& m &&& s.freshBits r i) : Nat)

-- the ledger

/-- Word `w` of the ledger record of axis `n` (R214). -/
def State.led (s : State) (n w : Nat) : Word64 := tget 0 s.ledger (64 * n + w)

/-- Word `w` of the record of axis `n` takes `v`. -/
def State.wrLed (s : State) (n w : Nat) (v : Word64) : State := { s with ledger := tset 0 s.ledger (64 * n + w) v }

-- bytes (R1, R2)

/-- The number spelled by bytes, least significant first. -/
def leNat (bs : List Byte) : Nat := bs.foldr (fun b acc => b.toNat + 256 * acc) 0

/-- `n` bytes of a number, least significant first. -/
def leBytes : Nat → Nat → List Byte
  | 0, _ => []
  | n + 1, v => BitVec.ofNat 8 v :: leBytes n (v / 256)

/-- The number spelled by bytes, most significant first. -/
def beNat (bs : List Byte) : Nat := bs.foldl (fun acc b => 256 * acc + b.toNat) 0

/-- The low `w` bits of an integer. -/
def unsigned (w : Nat) (v : Int) : Nat := (v % 2 ^ w).toNat

/-- An integer held within two bounds. -/
def clampInt (lo hi v : Int) : Int := min (max v lo) hi

/-- Quotient rounded toward negative infinity. -/
def fdiv (a b : Int) : Int := Int.fdiv a b

/-- Bits `hi:lo` of a number. -/
def bitsOf (v hi lo : Nat) : Nat := v / 2 ^ lo % 2 ^ (hi + 1 - lo)

/-- Square root rounded down, by binary digits: `fuel` is the number of result bits still to be found. -/
def isqrtAux (v : Nat) : Nat → Nat → Nat
  | 0, r => r
  | b + 1, r => isqrtAux v b (if (r + 2 ^ b) * (r + 2 ^ b) ≤ v then r + 2 ^ b else r)

/-- Square root rounded down. -/
def isqrt (v : Nat) : Nat := isqrtAux v (v.log2 / 2 + 1) 0

/-- A function applied for 0, 1, …, n − 1 in turn. -/
def State.forAll (s : State) (n : Nat) (f : State → Nat → State) : State := (List.range n).foldl f s

/-- A function applied for each number of a list in turn. -/
def State.forList (s : State) (l : List Nat) (f : State → Nat → State) : State := l.foldl f s

/-- `f` where `c` holds. -/
def State.iff (s : State) (c : Bool) (f : State → State) : State := if c then f s else s

end Sys2Proof.Machine
end

