-- ==== Sys2Proof/Machine/Queues.lean ====
section
/-! DEFINITION. The hardware queues (R264–R274): depth, push, pop, rewind marks, reset, and the trace records that go to Q73
(R372–R376), which every other chapter offers. -/
namespace Sys2Proof.Machine

/-- Bytes of a frame on the wire, FCS and padding included (R280, R285). -/
def Frame.bytes (f : Frame) : Nat := max 64 (34 + f.data.length)

/-- Words a packet takes in a queue: a frame longer than 16 words is held as one item of all its words (log entry 11). -/
def Pkt.len : Pkt → Nat
  | .words ws => ws.length
  | .frame f => (Frame.bytes f + 7) / 8
  | .record _ => 4

/-- Queue `q`. -/
def State.queue (s : State) (q : Nat) : Queue := tget Queue.empty s.queues q

/-- Queue `q` takes the state `x`. -/
def State.wrQueue (s : State) (q : Nat) (x : Queue) : State := { s with queues := tset Queue.empty s.queues q x }

/-- Words of complete packets and reserved words (R266). -/
def Queue.depth (x : Queue) : Nat := (x.pkts.map Pkt.len).sum + x.resv

/-- Words queue `q` holds (R264, R63). -/
def State.capacity (s : State) (q : Nat) : Nat :=
  if q < 64 then 4 * s.rdN .QUEUE_RECORDS q else if q = 74 then 32 else s.rdN .BASIN_WORDS q + 16

/-- Whether the pushes and pops of queue `q` are void in this cycle (R270). -/
def State.qVoided (s : State) (q : Nat) : Bool := decide (s.now < s.rdN .qVoid q)

/-- How many packets of queue `q` a pop of this cycle may take: those present at its start (R266). -/
def State.poppable (s : State) (q : Nat) : Nat :=
  let x := s.queue q
  if s.qVoided q then 0 else if x.pushAt = s.now then x.pkts.length - x.fresh else x.pkts.length

/-- Whether `L` words pushed at pointer `w` of a ring of `c` words cover the word `m` (R273). -/
def covers (c w L m : Nat) : Bool := decide ((m + c - w % c) % c < L)

/-- The oldest words of Q74 given up until `L` more fit in `c` words (R266). -/
def dropOldest (c L : Nat) : List Pkt → List Pkt
  | [] => []
  | p :: l => if ((p :: l).map Pkt.len).sum + L ≤ c then p :: l else dropOldest c L l

/-- A packet offered to queue `q` under R266; whether it was taken. A push to a full Q74 first discards its oldest word. -/
def State.push (s : State) (q : Nat) (p : Pkt) : State × Bool :=
  let x0 := s.queue q
  let cap := s.capacity q
  let x := if q = 74 then { x0 with pkts := dropOldest cap p.len x0.pkts } else x0
  let s := s.count .REFUSED q (x0.pkts.length - x.pkts.length)
  if s.qVoided q || decide (cap < x.depth + p.len) then (s.count .REFUSED q, false)
  else
    let y : Queue := { x with
      pkts := x.pkts ++ [p]
      wrPtr := (x.wrPtr + p.len) % cap
      fresh := if x.pushAt = s.now then x.fresh + 1 else 1
      pushAt := s.now }
    let s := if s.rd .REWIND_VALID q = 1 && covers cap x.wrPtr p.len x.rewindPtr then s.wr .REWIND_VALID q 0 else s
    let s := s.wrQueue q y
    let s := s.count .PUSHED q 1 64
    let s := s.count .PACKETS q 1 64
    let s := s.keepMax .HIGH_WATER q y.depth
    (s.wr .COUNTER (16 + q) (max (s.rd .COUNTER (16 + q)) y.depth), true)

/-- The oldest packet popped from queue `q` (R266, R268); none where none was complete at the start of the cycle. -/
def State.pop (s : State) (q : Nat) : State × Option Pkt :=
  let x := s.queue q
  if s.poppable q = 0 then (s, none)
  else
    match x.pkts with
    | [] => (s, none)
    | p :: l =>
      ((s.wrQueue q { x with pkts := l, rdPtr := (x.rdPtr + p.len) % s.capacity q }).count .POPPED q 1 64, some p)

/-- A packet popped in the present pass given back as the oldest of queue `q`: it counts as not taken (R128). -/
def State.unpop (s : State) (q : Nat) (p : Pkt) : State :=
  let x := s.queue q
  let c := s.capacity q
  (s.wrQueue q { x with pkts := p :: x.pkts, rdPtr := (x.rdPtr + c - p.len % c) % c }).wr .POPPED q (max 0 (s.rd .POPPED q - 1))

/-- The oldest packet popped from transmit queue `q` to be sent: the rewind mark is set to its first word (R273). -/
def State.popSend (s : State) (q : Nat) : State × Option Pkt :=
  let ptr := (s.queue q).rdPtr
  match s.pop q with
  | (s, none) => (s, none)
  | (s, some p) => ((s.wrQueue q { s.queue q with rewind := some p, rewindPtr := ptr }).wr .REWIND_VALID q 1, some p)

/-- Queue `q` emptied, every pointer zero, its rewind mark invalid (R270, R265). -/
def State.emptyQueue (s : State) (q : Nat) : State :=
  (s.wrQueue q { Queue.empty with markDepth := (s.queue q).markDepth }).wr .REWIND_VALID q 0

/-- Waiting records of move queue `q` (R63). -/
def State.waiting (s : State) (n : Nat) : Nat := (s.queue n).pkts.length

/-- Every waiting record of the move queue of axis `n` discarded (R60, R75): the packets leave the queue. -/
def State.flushQueue (s : State) (n : Nat) : State :=
  let x := s.queue n
  (s.wrQueue n { x with pkts := [], rdPtr := x.wrPtr, fresh := 0 })

/-- A record of trace source `src` with payload `v`, offered to Q73 where TRACE_DEST is not 0 (R372, R374). A refused record is
dropped and counted. -/
def State.trace (s : State) (src v : Nat) : State :=
  if s.rd .TRACE_DEST 0 = 0 then s
  else
    let w : Word64 := BitVec.ofNat 64 (src + 16 * (s.now % 2 ^ 28) + 2 ^ 32 * (v % 2 ^ 32))
    match s.push 73 (.words [w]) with
    | (s, true) => if src = 0 then s.tally 203 else s
    | (s, false) =>
      ((s.count .TRACE_DROPS 0).iff (1 ≤ src && src ≤ 6) (fun s => s.tally (195 + src))).wr .dropPending 0
        (min (s.rd .dropPending 0 + 1) (2 ^ 32 - 1))

/-- A trace record of source `src` (1–6) that passes its source bit and filter (R376). -/
def State.traceIf (s : State) (src : Nat) (pass : Bool) (v : Nat) : State :=
  if s.bit .TRACE_SOURCES 0 (src - 1) && pass then s.trace src v else s

/-- Trace record of source 3: event bit `b` of axis `n`, or 31 for a change of AXIS_STATE (R375). -/
def State.traceAxis (s : State) (n b : Nat) : State :=
  s.traceIf 3 (s.bit .tfAxes 0 n) (n + 64 * b + 2048 * s.rdN .AXIS_STATE n)

/-- AXIS_EVENTS bit `b` of axis `n` set (R28). -/
def State.event (s : State) (n b : Nat) : State := (s.raise .AXIS_EVENTS n (2 ^ b)).traceAxis n b

/-- AXIS_STATE of axis `n` takes `v` (R28). -/
def State.setAxis (s : State) (n : Nat) (v : Int) : State :=
  if s.rd .AXIS_STATE n = v then s else (s.wr .AXIS_STATE n v).traceAxis n 31

end Sys2Proof.Machine
end

