-- ==== Sys2Proof/Machine/FaultLog.lean ====
section
/-! DEFINITION. Detections, records, merges, shadows, incidents and the log (R333–R346, R354). `detect` is the one operation by
which every block records a cause. -/
namespace Sys2Proof.Machine

/-- Severity of cause `c` of block `b` (R354): 0 INFO, 1 WARN, 2 CONTAIN, 3 DEGRADE, 4 TRIP (R333). -/
def sevOf (b c : Nat) : Nat :=
  if 0x20 ≤ c then 0
  else if 0x10 ≤ c then 1
  else if b < 0x20 then 3                                  -- engines
  else if b < 0x30 then (if c = 8 then 3 else 2)           -- power dies
  else if b < 0x58 then 2                                  -- converters, channels, queue fabric
  else if b = 0x5A then 0                                  -- LP
  else if b < 0x61 then 3                                  -- RA, RB, clocks
  else if b = 0x61 then (if c ≤ 3 then 4 else 3)           -- supply
  else if b = 0x62 then 2                                  -- SDRAM
  else if b = 0x63 then 3                                  -- flash
  else if b < 0x66 then (if c = 1 then 3 else 4)           -- steward cores
  else if b < 0x70 then 3                                  -- trip sequencers
  else if b = 0x70 then (if c = 1 then 4 else 3)           -- placer
  else 2                                                   -- axes

/-- The WARN causes that R354 marks as held. -/
def isHeld (b c : Nat) : Bool :=
  (0x20 ≤ b && b < 0x28 && (c = 0x10 || c = 0x11)) || (0x30 ≤ b && b < 0x40 && c = 0x12) ||
  (0x40 ≤ b && b < 0x50 && (c = 0x13 || c = 0x14)) || (b = 0x60 && c = 0x10) ||
  (b = 0x61 && (c = 0x10 || c = 0x11 || c = 0x13)) || (b = 0x70 && c = 0x10) ||
  (0x80 ≤ b && [0x10, 0x12, 0x13, 0x18, 0x1B].contains c)

/-- The causes that stay present until a stated end (R336, R354). -/
def persists (b c : Nat) : Bool :=
  isHeld b c || (b < 0x20 && c = 1) || (0x20 ≤ b && b < 0x30 && c < 0x10) || (0x30 ≤ b && b < 0x50 && c < 0x10) ||
  (0x58 ≤ b && b < 0x62 && c < 0x10) || (b = 0x63 && c = 1) || ((b = 0x64 || b = 0x65) && c = 1) ||
  ((b = 0x66 || b = 0x67) && c < 0x10) || (b = 0x70 && c = 2) ||
  (0x80 ≤ b && ((1 ≤ c && c ≤ 6) || c = 8 || c = 9 || c = 0x11))

/-- When the record of a detection closes (R339). -/
def endsOf (b c : Nat) : Until :=
  if isHeld b c then .held
  else if (b < 0x20 && c = 1) || (b = 0x70 && c = 2) || ((b = 0x64 || b = 0x65) && c = 1) ||
      ((b = 0x58 || b = 0x59) && c = 1) || (0x20 ≤ b && b < 0x30 && c = 8) then .reaction
  else if b = 0x50 && c < 0x10 then .queueReset
  else if sevOf b c = 2 then .containment
  else if sevOf b c = 4 then .safeMark
  else .mark

/-- The ordinal of the earliest first fault whose shadow covers cause `c` of block `b` (R340); 0 if none. -/
def State.coveredBy (s : State) (b c : Nat) : Nat :=
  ((s.shadows.filter (fun x => x.covers.any (fun p => p.1 = b && (p.2.isEmpty || p.2.contains c)))).map Shadow.first).foldl
    (fun m o => if m = 0 then o else min m o) 0

/-- Whether a detection of cause `c` of block `b` would be consequent (R340). A TRIP detection never is. -/
def State.covered (s : State) (b c : Nat) : Bool := sevOf b c ≠ 4 && s.coveredBy b c ≠ 0

/-- `f` on the stored record of ordinal `o`, in the log or still in Q72. -/
def State.onRecord (s : State) (o : Nat) (f : Rec → Rec) : State :=
  let g (r : Rec) : Rec := if r.ordinal = o then f r else r
  let q := s.queue 72
  { s.wrQueue 72 { q with pkts := q.pkts.map (fun p => match p with | .record r => .record (g r) | p => p) } with
    log := s.log.map g }

/-- The open record of block `b`. -/
def State.openRec (s : State) (b : Nat) : Option OpenRec := tget none s.opens b

/-- The open record of block `b` becomes `o`. -/
def State.setOpen (s : State) (b : Nat) (o : Option OpenRec) : State := { s with opens := tset none s.opens b o }

/-- The open record of block `b` closed (R339). -/
def State.closeRec (s : State) (b : Nat) : State :=
  match s.openRec b with
  | none => s
  | some o => ((s.onRecord o.ordinal (fun r => { r with isOpen := false })).setOpen b none).wr .OPEN_ORDINAL b 0

/-- Whether cause `c` of block `b` is present (R336): it persists and has not ended, or its cycle of detection is this one. -/
def State.present (s : State) (b c : Nat) : Bool :=
  s.bit .CAUSES_PRESENT b c || (s.freshBits .CAUSES_LATCHED b).testBit c

/-- Cause `c` of block `b` ends. A held record closes with it, but no earlier than the mark after it was posted (R339). -/
def State.endCause (s : State) (b c : Nat) : State :=
  let s := s.wrBit .CAUSES_PRESENT b c false
  match s.openRec b with
  | some o => if o.ends = .held && o.cause = c && o.marked then s.closeRec b else s
  | none => s

/-- A merge into the open record `o` of block `b` (R339). -/
def State.mergeInto (s : State) (b c : Nat) (o : OpenRec) : State :=
  let s := s.onRecord o.ordinal (fun r => { r with merged := true, merges := min (r.merges + 1) 65535 })
  let s := s.wrBit .OPEN_CAUSES b c true
  (s.count .MERGES b).tally 221

/-- The history word of a record (R346). -/
def Rec.history (r : Rec) : Word64 :=
  BitVec.ofNat 64 (r.cause + 2 ^ 8 * r.block + 2 ^ 16 * r.sev + (if r.consequent then 2 ^ 19 else 0) +
    (if r.injected then 2 ^ 20 else 0) + 2 ^ 24 * (r.ordinal % 2 ^ 16) + 2 ^ 40 * (r.time / 2 ^ 12 % 2 ^ 24))

/-- Modes from which a TRIP record leads to SAFE (R315). -/
def tripModes : List Nat := [4, 5, 6, 7, 8, 11]

/-- The record of a detection posted: its ordinal, links and flags (R338, R342, R343), the ordinals of R334, Q72, Q74 and trace;
a TRIP record asks for SAFE at the next mark (R323) and stops ALIVE (R352). -/
def State.post (s : State) (b c data : Nat) (opens : Bool) : State :=
  let s := s.closeRec b
  let sev := sevOf b c
  let o := s.rdN .NEWEST_ORDINAL 0 + 1
  let cons := s.covered b c
  let severe := !cons && decide (2 ≤ sev)
  let begins := severe && s.rd .INCIDENT_OPEN 0 = 0
  let s := if begins then
      let s := ((s.wr .INCIDENT_OPEN 0 1).wr .incidentFirst 0 o).count .INCIDENTS 0
      let s := s.tally 223
      if s.rd .HEAD_FIRST 0 = 0 then (s.wr .HEAD_FIRST 0 o).wr .headDone 0 0 else s
    else s
  let s := if severe then s.wr .incidentPass 0 s.pass else s
  let inHead := s.rd .HEAD_FIRST 0 ≠ 0 && s.rd .headDone 0 = 0 && decide (o < s.rdN .HEAD_FIRST 0 + 1024)
  let s := if inHead then
      let s := s.wr .HEAD_LAST 0 o
      if o = s.rdN .HEAD_FIRST 0 + 1023 then s.wr .headDone 0 1 else s
    else s
  let link := if cons then s.coveredBy b c else if s.rd .INCIDENT_OPEN 0 = 1 then s.rdN .incidentFirst 0 else 0
  let r : Rec := {
    time := s.now, cause := c, block := b, sev := sev, consequent := cons, merged := false
    injected := s.rd .injecting 0 = 1, head := inHead, isOpen := true, first := begins || opens
    ordinal := o, link := link, merges := 0, data := data }
  let s := s.wr .NEWEST_ORDINAL 0 o
  let s := if 2 ≤ sev then s.wr .NEWEST_SEVERE 0 o else if sev = 1 then s.wr .NEWEST_WARN 0 o else s
  let s := (s.wr .OPEN_ORDINAL b o).wr .OPEN_CAUSES b (2 ^ c : Nat)
  let s := ((s.wr .LAST_ORDINAL b o).count .RECORDS b).tally 220
  let s := s.setOpen b (some ⟨o, c, sev, s.now, if cons then .shadow else endsOf b c, false⟩)
  let s := match s.push 72 (.record r) with
    | (s, true) => s
    | (s, false) => (s.count .POST_DROPS 0).tally 222
  let s := (s.push 74 (.words [r.history])).1
  let s := s.traceIf 5 (decide (s.rdN .tfMinSev 0 ≤ sev))
    (c + 256 * b + 2 ^ 16 * sev + (if cons then 2 ^ 19 else 0) + (if r.injected then 2 ^ 20 else 0) + 2 ^ 24 * (o % 256))
  if sev = 4 && tripModes.contains s.mode then
    let s := s.wr .aliveStop 0 1
    if s.rd .tripPending 0 = 0 then (s.wr .tripPending 0 (if (b = 0x64 || b = 0x65) && c = 3 then 2 else 8)).wr .tripFrom 0 s.now else s
  else s

/-- Block `b` detects cause `c` in this cycle (R335–R339): the status object is set, and the detection merges into the block's
open record or posts a record with the data bytes `data`. `opens`: the reaction opens a shadow (R340). -/
def State.detect (s : State) (b c : Nat) (data : Nat := 0) (opens : Bool := false) : State :=
  let s := s.raise .CAUSES_LATCHED b (2 ^ c)
  let s := if persists b c then s.wrBit .CAUSES_PRESENT b c true else s
  match s.openRec b with
  | some o =>
    if o.time < s.now && sevOf b c ≤ o.sev && (o.ends ≠ .held || c = o.cause) then s.mergeInto b c o
    else s.post b c data opens
  | none => s.post b c data opens

/-- A held cause that is found present: detected when it begins, not again while it lasts (R336). -/
def State.detectHeld (s : State) (b c : Nat) (data : Nat := 0) : State :=
  if s.bit .CAUSES_PRESENT b c then s else s.detect b c data

/-- Whether detection `x` is posted before `y` in one cycle: higher severity, then lower block, then lower cause (R338). -/
def detectBefore (x y : Nat × Nat × Nat) : Bool :=
  let sx := sevOf x.1 x.2.1
  let sy := sevOf y.1 y.2.1
  sy < sx || (sx = sy && (x.1 < y.1 || (x.1 = y.1 && x.2.1 ≤ y.2.1)))

/-- A detection put in its place. -/
def insertDetect (x : Nat × Nat × Nat) : List (Nat × Nat × Nat) → List (Nat × Nat × Nat)
  | [] => [x]
  | y :: l => if detectBefore x y then x :: y :: l else y :: insertDetect x l

/-- Several detections (block, cause, data) of one cycle, in the order of R338. -/
def State.detectAll (s : State) (l : List (Nat × Nat × Nat)) : State :=
  (l.foldr insertDetect []).foldl (fun s x => s.detect x.1 x.2.1 x.2.2) s

/-- The shadow of the first fault just posted by block `b` for cause `c` opened over the blocks `covers` (R340, R341). -/
def State.openShadow (s : State) (b c : Nat) (covers : List (Nat × List Nat)) (ends : ShadowEnd) : State :=
  { s with shadows := s.shadows ++ [⟨s.rdN .LAST_ORDINAL b, b, c, covers, ends⟩] }

/-- The end of the shadows opened by cause `c` of block `b` set (R341). -/
def State.endShadow (s : State) (b c : Nat) (e : ShadowEnd) : State :=
  { s with shadows := s.shadows.map (fun x => if x.block = b && x.cause = c && x.ends = .waiting then { x with ends := e } else x) }

/-- A detection by block `b` whose reaction opens a shadow, unless it merges or is consequent (R340). -/
def State.detectShadow (s : State) (b c data : Nat) (covers : List (Nat × List Nat)) (ends : ShadowEnd) : State :=
  let o := s.rdN .LAST_ORDINAL b
  let cons := s.covered b c
  let s := s.detect b c data (!cons)
  if cons || s.rdN .LAST_ORDINAL b = o then s else s.openShadow b c covers ends

/-- Records that are open until a mark close at the start of its cycle (R339); a held record closes there once its cause is gone. A
PORT_DOWN record closes at the first mark 2.5 ms after it, when both ends are wrapped (log entry 12). -/
def State.closeAtMark (s : State) : State :=
  s.opens.foldl (fun s p =>
    match p.2 with
    | none => s
    | some o =>
      match o.ends with
      | .mark | .containment | .safeMark | .queueReset => s.closeRec p.1
      | .held => if s.bit .CAUSES_PRESENT p.1 o.cause then s.setOpen p.1 (some { o with marked := true }) else s.closeRec p.1
      | .reaction => if (p.1 = 0x58 || p.1 = 0x59) && decide (o.time + 250000 ≤ s.now) then s.closeRec p.1 else s
      | .shadow => s) s

/-- Fault block of power die `k`, of converter `c`, of channel `c`, of axis `n`, of engine `e` (R354). -/
def blkDie (k : Nat) : Nat := 0x20 + k
def blkCv (c : Nat) : Nat := 0x30 + c
def blkFb (c : Nat) : Nat := 0x40 + c
def blkAxis (n : Nat) : Nat := 0x80 + n
def blkEngine (e : Nat) : Nat := 0x10 + e
/-- Fault block of the active steward core (R331). -/
def State.blkSteward (s : State) : Nat := 0x64 + (if s.bit .REDUNDANCY 0 7 then 1 else 0)

/-- Every block id of R354. -/
def blockIds : List Nat :=
  (List.range 8).map (0x10 + ·) ++ (List.range 8).map (0x20 + ·) ++ (List.range 16).map (0x30 + ·) ++
  (List.range 16).map (0x40 + ·) ++ [0x50, 0x58, 0x59, 0x5A, 0x60, 0x61, 0x62, 0x63, 0x64, 0x65, 0x66, 0x67, 0x70] ++
  (List.range 64).map (0x80 + ·)

/-- Whether a TRIP cause is present: of the supply, the steward or the placer (R324, R326, R327). -/
def State.tripPresent (s : State) : Bool :=
  s.bit .CAUSES_PRESENT 0x61 1 || s.bit .CAUSES_PRESENT 0x61 2 || s.bit .CAUSES_PRESENT 0x61 3

/-- The fourteen-byte data field with `l` as (bytes, value), first one lowest. -/
def dataOf : List (Nat × Nat) → Nat
  | [] => 0
  | (n, v) :: l => v % 256 ^ n + 256 ^ n * dataOf l

end Sys2Proof.Machine
end

