-- ==== Sys2Proof/Machine/Planner.lean ====
section
/-! DEFINITION. The closed-form planner (R42–R50, R53, R60) as pure functions on the planner's units (see `Seg`). Every path is a
list of segments, each with its start state written out; a time between marks is a whole number of quanta of 2^-32 pass, so a
segment's end is off its ideal place by less than one quantum of travel, and the path's end is the target exactly (log entry 13). -/
namespace Sys2Proof.Machine

/-- Quanta in a second. -/
def unitF : Nat := 20000 * 2 ^ 32
/-- Quanta in a pass. -/
def passQ : Nat := 2 ^ 32

/-- The limits a path is planned under (R43), in the units of R40. -/
structure Lim where
  vmax : Nat
  amax : Nat
  dmax : Nat
  jmax : Nat
  deriving DecidableEq, Repr

/-- Planner units of a position in 2^-16 microstep, a velocity and an acceleration. -/
def posUnits (x : Int) : Int := x * (6 * unitF ^ 3 / 2 ^ 16 : Nat)
def velUnits (v : Int) : Int := v * (2 * unitF ^ 2 : Nat)
def accUnits (a : Int) : Int := a * unitF
/-- The reading of a position in planner units: 2^-16 microstep, rounded toward negative infinity (R41). -/
def posOf (x : Int) : Int := fdiv x (6 * unitF ^ 3 / 2 ^ 16 : Nat)
/-- The readings of a velocity and an acceleration in whole units (log entry 14). -/
def velOf (v : Int) : Int := fdiv v (2 * unitF ^ 2 : Nat)
def accOf (a : Int) : Int := fdiv a unitF

/-- A phase of constant jerk: segment number, jerk, quanta, velocity and acceleration at its start. -/
structure Phase where
  kind : Nat
  j    : Int
  n    : Nat
  v    : Int
  a    : Int
  deriving DecidableEq, Repr

/-- Distance a phase covers. -/
def Phase.dist (p : Phase) : Int := 3 * p.v * p.n + 3 * p.a * p.n ^ 2 + p.j * p.n ^ 3

/-- Distance phases cover. -/
def distOf (l : List Phase) : Int := (l.map Phase.dist).sum

/-- Quanta to change the acceleration by `d ≥ 0` at jerk `J`. -/
def jerkTime (d : Int) (J : Nat) : Nat := d.toNat / J

/-- The jerk phase that brings the acceleration from `a1` to `p ≥ 0`, both counted in the direction `sg`, from velocity `v`. What of it lies
before acceleration 0 still belongs to the slope that ends there, as its segment `k0`; the rest opens the slope of segment `k` (R42). -/
def jerkPhases (J : Nat) (k0 k : Nat) (sg v a1 p : Int) : List Phase :=
  if a1 < 0 then
    [⟨k0, sg * J, jerkTime (-a1) J, v, sg * a1⟩, ⟨k, sg * J, jerkTime p J, v - sg * (a1 * a1 / J), 0⟩]
  else [⟨k, sg * J, jerkTime (p - a1) J, v, sg * a1⟩]

/-- The slopes from velocity `v` and acceleration `a` to velocity `V` with acceleration 0: jerk, held bound, jerk (R42, R43, R47).
Above the velocity at which the acceleration would by itself end it rises under `amax`, below it falls under `dmax`. An
acceleration above its bound is brought to it at the jerk limit. -/
def ramp (lim : Lim) (v a V : Int) : List Phase :=
  let J : Int := lim.jmax
  let vs := v + a * a.natAbs / J
  let up : Bool := vs ≤ V
  let sg : Int := if up then 1 else -1
  let B : Int := accUnits (if up then lim.amax else lim.dmax)
  let a1 := sg * a
  let g := sg * (V - v)
  let k := if up then 1 else 5
  if B < a1 then
    let h := (g - (a1 * a1 - B * B) / J - B * B / J) / (2 * B)
    let v1 := v + sg * ((a1 * a1 - B * B) / J)
    let v2 := V - sg * (B * B / J)
    [⟨k + 2, -sg * J, jerkTime (a1 - B) lim.jmax, v, a⟩, ⟨k + 1, 0, h.toNat, v1, sg * B⟩,
     ⟨k + 2, -sg * J, jerkTime B lim.jmax, v2, sg * B⟩]
  else
    let p0 : Int := isqrt ((J * g + a1 * a1) / 2).toNat
    let p := min p0 B
    let h := if p0 ≤ B then 0 else (g - (B * B - a1 * a1) / J - B * B / J) / (2 * B)
    let v1 := v + sg * ((p * p - a1 * a1) / J)
    let v2 := V - sg * (p * p / J)
    jerkPhases lim.jmax (if up then 7 else 3) k sg v a1 p ++
    [⟨k + 1, 0, h.toNat, v1, sg * p⟩, ⟨k + 2, -sg * J, jerkTime p lim.jmax, v2, sg * p⟩]

/-- The phases from (v, a) with v ≥ 0 to the saddle: velocity 0 with the deceleration `af` where the jerk limit lets it be reached
(R49), and the deceleration the saddle then has. -/
def saddlePhases (lim : Lim) (v a af : Int) : List Phase × Int :=
  let J : Int := lim.jmax
  let B : Int := accUnits lim.dmax
  let d := -a
  let q := J * v + d * d
  if q < af * af then
    let e : Int := isqrt q.toNat
    (jerkPhases lim.jmax 3 5 (-1) v d e, e)
  else if af < d && J * v + af * af < d * d then
    let e : Int := isqrt (d * d - J * v).toNat
    ([⟨7, J, jerkTime (d - e) lim.jmax, v, a⟩], e)
  else if B < d then
    let h := (v - (d * d - B * B) / J - (B * B - af * af) / J) / (2 * B)
    ([⟨7, J, jerkTime (d - B) lim.jmax, v, a⟩, ⟨6, 0, h.toNat, v - (d * d - B * B) / J, -B⟩,
      ⟨7, J, jerkTime (B - af) lim.jmax, (B * B - af * af) / J, -B⟩], af)
  else
    let p0 : Int := isqrt ((J * v + d * d + af * af) / 2).toNat
    let p := min p0 B
    let h := if p0 ≤ B then 0 else (v - (B * B - d * d) / J - (B * B - af * af) / J) / (2 * B)
    (jerkPhases lim.jmax 3 5 (-1) v d p ++ [⟨6, 0, h.toNat, v - (p * p - d * d) / J, -p⟩,
      ⟨7, J, jerkTime (p - af) lim.jmax, (p * p - af * af) / J, -p⟩], af)

/-- The largest `k` below `2 ^ bits` with `ok`, by binary digits; 0 where none is found. -/
def largest (ok : Nat → Bool) : Nat → Nat → Nat
  | 0, r => r
  | b + 1, r => largest ok b (if ok (r + 2 ^ b) then r + 2 ^ b else r)

/-- Four quanta of travel at the highest speed of the phases: what the whole quanta of a path may leave it short of its ideal end. -/
def slackOf (l : List Phase) : Int := (12 * l.foldl (fun m p => max m p.v.natAbs) 0 : Nat)

/-- Phases from a moving state to a target `L` ahead: ascent, plain and descent (R43). The speed is the largest on the grid of
2^-16 microstep/s, not above the limit, whose slopes cover no more than `L`; a plain covers the rest. The grid starts at the speed at
which the acceleration would by itself end: from there on the slopes cover the more, the higher the speed. -/
def forwardPhases (lim : Lim) (v a L : Int) : List Phase :=
  let grid : Int := (2 * unitF ^ 2 / 2 ^ 16 : Nat)
  let need (V : Int) : Int := distOf (ramp lim v a V) + distOf (ramp lim V 0 0)
  let top := velUnits lim.vmax
  let vs := v + a * a.natAbs / (lim.jmax : Int)
  let base := if decide (0 ≤ vs ∧ vs ≤ top ∧ need vs ≤ L + slackOf (ramp lim vs 0 0)) then vs else 0
  let V := if need top ≤ L then top
    else base + grid * (largest (fun k => decide (base + k * grid ≤ top ∧ need (base + k * grid) ≤ L)) 41 0 : Nat)
  let rest := L - need V
  ramp lim v a V ++ [⟨4, 0, if V ≤ 0 then 0 else (rest / (3 * V)).toNat, V, 0⟩] ++ ramp lim V 0 0

/-- A phase seen in the opposite direction. -/
def Phase.mirror (p : Phase) : Phase := { p with j := -p.j, v := -p.v, a := -p.a }

/-- Phases of a reversal from (v, a), v ≥ 0, to a target `L` away (negative, or short of the stopping point): to the saddle, then an
ordinary move back (R48, R49). The deceleration at the saddle is min(DMAX, AMAX), or the largest below it from which the way
back does not pass the target. Second: how many phases lead to the saddle. -/
def reversePhases (lim : Lim) (v a L : Int) : List Phase × Nat :=
  let m : Nat := min lim.dmax lim.amax
  let ok (e : Nat) : Bool :=
    let r := saddlePhases lim v a (e * (unitF / 2 ^ 8 : Nat))
    decide (distOf (ramp lim 0 r.2 0) ≤ distOf r.1 - L)
  let e := if ok (m * 2 ^ 8) then m * 2 ^ 8 else largest (fun k => k ≤ m * 2 ^ 8 && ok k) 40 0
  let r := saddlePhases lim v a (e * (unitF / 2 ^ 8 : Nat))
  (r.1 ++ (forwardPhases lim 0 r.2 (distOf r.1 - L)).map Phase.mirror, r.1.length)

/-- Phases laid end to end from position `x`, those of no length left out. -/
def layOut (x : Int) : List Phase → List Seg
  | [] => []
  | p :: l => if p.n = 0 then layOut x l else ⟨p.kind, p.j, p.n, x, p.v, p.a⟩ :: layOut (x + p.dist) l

/-- Quanta phases last. -/
def lenOf (l : List Phase) : Nat := (l.map Phase.n).sum

/-- The direction of travel of a planned state, or of its target when it is at rest (R48). -/
def Kin.dir (k : Kin) (T : Int) : Int :=
  if 0 < k.v then 1 else if k.v < 0 then -1 else if 0 < k.a then 1 else if k.a < 0 then -1 else if k.x ≤ T then 1 else -1

/-- The path's position at a mark in planner units: the planner never loses what lies beyond 2^-16 microstep (R41). -/
def Kin.pos (k : Kin) : Int := posUnits k.x + k.fr

/-- The phases of the descent begun at once (R48), in the direction of travel `sg`. -/
def Kin.descent (lim : Lim) (k : Kin) (sg : Int) : List Phase := ramp lim (sg * k.v) (sg * k.a) 0

/-- The stopping point S of R48, in 2^-16 microstep. -/
def stopPoint (lim : Lim) (k : Kin) : Int :=
  let sg := k.dir k.x
  posOf (k.pos + sg * distOf (k.descent lim sg))

/-- Whether a target lies ahead at or beyond the stopping point (R48). -/
def ahead (lim : Lim) (k : Kin) (T : Int) : Bool :=
  let sg := k.dir T
  let L := sg * (posUnits T - k.pos)
  let d := k.descent lim sg
  decide (-slackOf d ≤ L ∧ distOf d ≤ L + slackOf d)

/-- A path whose phases are given in the direction `sg` from state `k` to `T`. -/
def planOf (k : Kin) (T sg : Int) (ph : List Phase) (saddle : Option Nat) : Plan :=
  let ph := if sg = 1 then ph else ph.map Phase.mirror
  { segs := layOut k.pos ph, len := lenOf ph, goal := T
    saddle := saddle.map (fun c => (lenOf (ph.take c), posOf (k.pos + distOf (ph.take c)))) }

/-- The time-optimal path from a planned state to the target `T` (2^-16 microstep) under the limits (R44, R48). A target less than 2^-16
microstep from the stopping point is at it (R41). -/
def planTo (lim : Lim) (k : Kin) (T : Int) : Plan :=
  let sg := k.dir T
  let L := sg * (posUnits T - k.pos)
  let d := k.descent lim sg
  if k.v = 0 && k.a = 0 && k.x = T then ⟨[], 0, T, none⟩
  else if k.v = 0 && k.a = 0 then planOf k T sg (forwardPhases lim 0 0 L) none
  else if (distOf d - L).natAbs < (posUnits 1).natAbs then planOf k T sg d none
  else if decide (0 ≤ L ∧ distOf d ≤ L) then planOf k T sg (forwardPhases lim (sg * k.v) (sg * k.a) L) none
  else
    let r := reversePhases lim (sg * k.v) (sg * k.a) L
    planOf k T sg r.1 (some r.2)

/-- The path of a STOP: the descent to the stopping point (R60). -/
def planStop (lim : Lim) (k : Kin) : Plan :=
  let sg := k.dir k.x
  planOf k (stopPoint lim k) sg (k.descent lim sg) none

/-- The state of a segment `t` quanta after its start. -/
def Seg.at (s : Seg) (t : Nat) : Kin :=
  let p := s.x + 3 * s.v * t + 3 * s.a * t ^ 2 + s.j * t ^ 3
  ⟨posOf p, s.v + 2 * s.a * t + s.j * t ^ 2, s.a + s.j * t, s.kind, p - posUnits (posOf p)⟩

/-- The state on a list of segments at `t` quanta; the goal at rest past the last of them. -/
def segsAt (goal : Int) : List Seg → Nat → Kin
  | [], _ => ⟨goal, 0, 0, 0, 0⟩
  | s :: l, t => if t < s.n then s.at t else segsAt goal l (t - s.n)

/-- The state of a path `t` quanta after its origin: the goal at rest from its end on (R46). -/
def Plan.at (p : Plan) (t : Nat) : Kin := if p.len ≤ t then ⟨p.goal, 0, 0, 0, 0⟩ else segsAt p.goal p.segs t

/-- The smallest value from 1 up to `hi` for which `ok` holds, given that it holds at `hi` and, once it holds, above. -/
def smallest (ok : Nat → Bool) (hi : Nat) : Nat :=
  hi - largest (fun d => d < hi && ok (hi - d)) 32 0

/-- The required value of DMAX (R53): the smallest with which a path reaches the target without passing it; 1 where the move is a
reversal, which any value lets reach it. -/
def requiredD (lim : Lim) (k : Kin) (T : Int) : Nat :=
  if ahead lim k T then smallest (fun d => ahead { lim with dmax := d } k T) lim.dmax else 1

/-- The required value of JMAX (R53). -/
def requiredJ (lim : Lim) (k : Kin) (T : Int) : Nat :=
  if ahead lim k T then smallest (fun j => ahead { lim with jmax := j } k T) lim.jmax else 1

end Sys2Proof.Machine
end

