-- ==== Sys2Proof/Machine/Moves.lean ====
section
/-! DEFINITION. The planner of an axis: limits in effect, targets and clamping, the start, completion and abandoning of moves and
records (R44–R74). The profile step that calls these stands in Profile.lean. -/
namespace Sys2Proof.Machine

/-- The planner of axis `n`. -/
def State.planner (s : State) (n : Nat) : Planner := tget Planner.rest s.planners n

/-- The planner of axis `n` takes `p`. -/
def State.wrPlanner (s : State) (n : Nat) (p : Planner) : State := { s with planners := tset Planner.rest s.planners n p }

/-- The limits in effect (R52, R53), with the speed cap of the move in progress (R65). -/
def State.limits (s : State) (n : Nat) : Lim :=
  let cap := s.rdN .goalCap n
  let v := s.rdN .effV n
  ⟨if cap = 0 then v else min cap v, s.rdN .effA n, s.rdN .effD n, s.rdN .effJ n⟩

/-- The limit objects put into effect: a new move begins (R54, R55). -/
def State.takeLimits (s : State) (n : Nat) : State :=
  let s := ((s.wr .effV n (s.rd .VMAX n)).wr .effA n (s.rd .AMAX n))
  let s := ((s.wr .effD n (s.rd .DMAX n)).wr .effJ n (s.rd .JMAX n))
  (s.wr .limNew n 0).wr .deferMove n 0

/-- The present move ends for the purposes of R53 (R54): DEFERRED is cleared and the cause of LIMIT_DEFERRED ends. -/
def State.endDeferral (s : State) (n : Nat) : State := s.wr .DEFERRED n 0

/-- The KIND of a record (R64). -/
def Move.kind (m : Move) : Nat := bitsOf m.w0 7 0
/-- Its TAG. -/
def Move.tag (m : Move) : Nat := bitsOf m.w0 31 16
/-- Its RELEASE, DIR, ON_TIMEOUT and NOWAIT bits. -/
def Move.release (m : Move) : Bool := m.w0.testBit 8
def Move.dirNeg (m : Move) : Bool := m.w0.testBit 9
def Move.onTimeout (m : Move) : Bool := m.w0.testBit 10
def Move.nowait (m : Move) : Bool := m.w0.testBit 11

/-- The active record completes within a step, through an arrival, or by being abandoned (R67, R71): LAST_DONE_TAG takes its TAG,
and QUEUE_EMPTY is set where no record waits (R69). An axis in IDLE stays in IDLE (log entry 168). -/
def State.completeRec (s : State) (n : Nat) : State :=
  match (s.planner n).act with
  | none => s
  | some m =>
    let s := s.wrPlanner n { s.planner n with act := none }
    let s := (s.wr .LAST_DONE_TAG n m.tag).wr .ACTIVE_KIND n 0
    let s := s.wr .readyAt n s.now
    if s.waiting n = 0 then s.event n 4 else s

/-- The active record completes at the next mark (R46). -/
def State.completeAtMark (s : State) (n : Nat) : State :=
  match (s.planner n).act with
  | none => s
  | some m =>
    let s := s.wrPlanner n { s.planner n with act := none }
    (s.wr .finTag n m.tag).wr .finPend n (s.rdN .finPend n ||| (if s.waiting n = 0 then 18 else 2) : Nat)

/-- A waiting release given up (R74). -/
def State.dropRelease (s : State) (n : Nat) : State :=
  ((s.wr .relWait n 0).wr .relLate n 0).wr .RELEASE_PENDING n 0

/-- The call pending on axis `n` for its active CALL record ends without completion (R249). -/
def State.dropCall (s : State) (n : Nat) : State :=
  match (s.planner n).act with
  | some m => if m.kind = 8 then { s with calls := tset none s.calls (1024 * n + m.w1 % 1024) none } else s
  | none => s

/-- Fields of a HOME record (R65, R130): method, preset bit, direction, home value, search speed. -/
def Move.method (m : Move) : Nat := bitsOf m.w2 6 0
def Move.preset (m : Move) : Bool := m.w2.testBit 7
def Move.homeDir (m : Move) : Int := if m.w2.testBit 8 then -1 else 1
def Move.homeVal (m : Move) : Int := signed 48 m.w1
def Move.speed (m : Move) : Nat := m.w3 % 2 ^ 32

/-- The lowest index of low steps that have not led to a stall counts for the exercise run after all (R134). -/
def State.mergePend (s : State) (n : Nat) : State :=
  (s.wr .EX_MIN_INDEX n (min (s.rd .EX_MIN_INDEX n) (s.rd .exPend n))).wr .exPend n 1023

/-- No position is assigned for a HOME record that is stopped or abandoned before the mark of its find (R133). -/
def State.dropAssign (s : State) (n : Nat) : State := (s.wr .asgPend n 0).wr .asgStall n 0

/-- The results of an exercise run that ends with `r` (R135, R136). -/
def State.exerciseEnd (s : State) (n r : Nat) : State :=
  let s := s.mergePend n
  let s := ((s.wr .EX_RESULT n r).wr .EX_TIME n s.now).count .EX_COUNT n
  let s := (s.iff (r ≠ 1) (fun s => s.count .EX_FAILS n)).event n 10
  s.detect (blkAxis n) (if r = 1 then 0x22 else 0x16)
    (dataOf [(6, unsigned 48 (s.rd .EX_TRAVEL_MEAS n)), (2, s.rdN .EX_MIN_INDEX n), (1, r)])

/-- The results of a HOME record of method `m` that ends with `r` (R133, R147): HOME_RESULT, or EX_RESULT for method 4. -/
def State.homeResult (s : State) (n m r : Nat) : State :=
  let s := (s.wr .hmPhase n 0).wr .hmFoundAt n 0
  if m = 4 then s.exerciseEnd n r
  else
    let s := (s.wr .HOME_RESULT n r).event n 6
    if r = 1 then s.wrBit .brPersist n 12 false else s.detect (blkAxis n) 0x15

/-- An active HOME record that is given up completes with HOME_RESULT 5 or EX_RESULT 7 (R133). -/
def State.dropHome (s : State) (n : Nat) : State :=
  match (s.planner n).act with
  | some m => if m.kind = 9 then (s.dropAssign n).homeResult n m.method (if m.method = 4 then 7 else 5) else s
  | none => s

/-- The active record is abandoned and counts as complete (R71). -/
def State.abandon (s : State) (n : Nat) : State := (((s.dropCall n).dropHome n).completeRec n).dropRelease n

/-- Commanded motion ends where the axis stands, at the position planned for the next mark; a planned saddle is gone. -/
def State.halt (s : State) (n : Nat) : State :=
  let p := s.planner n
  let s := s.wrPlanner n { p with nxt := ⟨p.nxt.x, 0, 0, 0, 0⟩, aft := none, plan := none, age := 0 }
  let s := ((s.wr .goalKind n 0).wr .goalQ n p.nxt.x).wr .TARGET n (fdiv p.nxt.x 65536)
  let s := ((s.wr .incPlan n 0).wr .incShadow n 0).wr .incHeld n 0
  (s.wr .SADDLE_PENDING n 0).endDeferral n

/-- The clamp of R57: `x` is the planned position from which the path starts, rounded toward negative infinity. -/
def clampGoal (softMin softMax x T : Int) : Int := min (max T (min softMin x)) (max softMax x)

/-- The bounds an active bound limit input puts on a target while the bridges are enabled (R184): no farther in its direction than the
present position. -/
def State.limitClamp (s : State) (n : Nat) (k : Kin) (T : Int) : Int :=
  if s.rd .DRIVE_STATE n ≠ 1 && s.rd .DRIVE_STATE n ≠ 2 then T
  else
    let T := if s.bit .LIMIT_STATE n 0 then max T k.x else T
    if s.bit .LIMIT_STATE n 1 then min T k.x else T

/-- `T` (2^-16 microstep) after the clamps of R57 and R184, both `shift` microsteps away from the reading of the position (R131); a
target that changes sets SOFT_LIMIT_CLAMP and counts. A difference of one unit of 2^-16 microstep is no difference (R41). -/
def State.clampTarget (s : State) (n : Nat) (k : Kin) (T : Int) (shift : Int := 0) : State × Int :=
  let x := fdiv k.x 65536
  let T' := clampGoal ((s.rd .SOFT_MIN n - shift) * 65536) ((s.rd .SOFT_MAX n - shift) * 65536) (x * 65536) T
  let T' := s.limitClamp n k T'
  if (T' - T).natAbs ≤ 1 then (s, T)
  else (((s.event n 3).wr48 .CLAMP_REQUEST n (fdiv T 65536 + shift)).count .CLAMP_COUNT n, T')

/-- A path put in place from the state `k` planned for the next mark: the saddle objects follow it (R50). -/
def State.setPlan (s : State) (n : Nat) (p : Plan) : State :=
  let pl := s.planner n
  let s := s.wrPlanner n { pl with plan := some p, age := 0, aft := none }
  match p.saddle with
  | some (_, x) => (s.wr .SADDLE_POS n (fdiv x 65536)).wr .SADDLE_PENDING n 1
  | none => if s.rd .sadDue n = 0 then s.wr .SADDLE_PENDING n 0 else s

/-- The path planned afresh from the state at the next mark to the target in effect (R52). A velocity move of speed 0 is a
descent. -/
def State.replan (s : State) (n : Nat) : State :=
  let k := (s.planner n).nxt
  if s.rd .goalKind n = 2 && s.rd .velGoal n = 0 then s.setPlan n (planStop (s.limits n) k)
  else s.setPlan n (planTo (s.limits n) k (s.rd .goalQ n))

/-- A new move to `T` (2^-16 microstep) from the state at the next mark (R47, R48): the limits take effect without deferral, the
target is clamped, TARGET reads it. -/
def State.newMove (s : State) (n : Nat) (T : Int) (cap : Nat) (shift : Int := 0) : State :=
  let k := (s.planner n).nxt
  let s := (s.takeLimits n).endDeferral n
  let s := (s.wr .goalCap n cap).wr .goalKind n 1
  let (s, T) := s.clampTarget n k T shift
  let s := (s.wr .goalQ n T).wr .TARGET n (fdiv T 65536)
  s.replan n

/-- A velocity move at the signed speed `v`, negative-going where `neg`: its implicit target is the soft limit ahead, or, beyond it, the
present position as R57 rounds it (R58). A speed of 0 has the implicit target of its direction too, which TARGET goes on reading (log
entry 149). -/
def State.velMove (s : State) (n : Nat) (v : Int) (neg : Bool) : State :=
  let k := (s.planner n).nxt
  let s := (s.takeLimits n).endDeferral n
  let x := fdiv k.x 65536
  let T := if neg then min (s.rd .SOFT_MIN n) x * 65536 else max (s.rd .SOFT_MAX n) x * 65536
  let s := ((s.wr .goalCap n v.natAbs).wr .goalKind n 2).wr .velGoal n v
  let (s, T) := s.clampTarget n k T
  let s := (s.wr .goalQ n T).wr .TARGET n (fdiv T 65536)
  s.replan n

/-- A STOP taken (R60): the target is the stopping point under the limits in effect, a deferred one included (R54). A stopping point that
lies beyond a bound of R57 is clamped like every other target, and the path then leads to the clamped target under R48 (log entry 150). -/
def State.stopMove (s : State) (n : Nat) : State :=
  let k := (s.planner n).nxt
  let lim := { s.limits n with vmax := s.rdN .effV n }
  let p := planStop lim k
  let (s, T) := (s.endDeferral n).clampTarget n k p.goal
  let s := ((s.wr .goalKind n 1).wr .goalQ n T).wr .TARGET n (fdiv T 65536)
  s.setPlan n (if T = p.goal then p else planTo lim k T)

/-- Limit writes seen by the profile step of a move in progress (R52, R53): a raised limit, and a lowered VMAX or AMAX, take effect;
a lowered DMAX or JMAX takes effect down to its required value, which is then held for the move. -/
def State.applyLimits (s : State) (n : Nat) : State :=
  let k := (s.planner n).nxt
  let T := s.rd .goalQ n
  let s := (s.wr .effV n (s.rd .VMAX n)).wr .effA n (s.rd .AMAX n)
  let lim := s.limits n
  let moving := s.rd .goalKind n ≠ 0
  let d := s.rdN .DMAX n
  let s := if lim.dmax ≤ d || !s.bit .limNew n 2 then (if s.bit .limNew n 2 then s.wr .effD n d else s)
    else
      let req := if moving then requiredD lim k T else 1
      let s := s.wr .REQUIRED_DECEL n req
      if req ≤ d then s.wr .effD n d
      else (((s.wr .effD n req).wrBit .DEFERRED n 0 true).wr .deferMove n 1).event n 2
  let lim := s.limits n
  let j := s.rdN .JMAX n
  let s := if lim.jmax ≤ j || !s.bit .limNew n 3 then (if s.bit .limNew n 3 then s.wr .effJ n j else s)
    else
      let req := if moving then requiredJ lim k T else 1
      let s := s.wr .REQUIRED_JERK n req
      if req ≤ j then s.wr .effJ n j
      else (((s.wr .effJ n req).wrBit .DEFERRED n 1 true).wr .deferMove n 1).event n 2
  let s := s.wr .limNew n 0
  if moving then s.replan n else s

/-- Device time of the next mark (R10). -/
def State.nextMark (s : State) : Nat := s.rdN .PASS_MARK_TIME 0 + 5000

/-- A zero crossing of the plan in effect that falls before the next mark is reported at it (R50), whatever the step then takes. -/
def State.noteSaddle (s : State) (n : Nat) : State :=
  let p := s.planner n
  match p.plan with
  | some pl =>
    match pl.saddle with
    | some (q, _) =>
      if (q : Int) ≤ p.age && s.rd .SADDLE_PENDING n = 1 && s.rd .sadDue n = 0 then
        s.wr .sadDue n ((s.nextMark : Int) - ((p.age - q) * 5000 + (passQ / 2 : Nat)) / passQ + 1)
      else s
    | none => s
  | none => s

/-- Whether the plan has ended at the state of the next mark (R46). -/
def Planner.arrived (p : Planner) : Bool :=
  match p.plan with
  | some pl => decide ((pl.len : Int) ≤ p.age)
  | none => false

/-- The plan evaluated one pass on: the state at the mark after the next, and the increment written for the next pass (R44). An axis
without a plan stays where it is. -/
def State.advance (s : State) (n : Nat) : State :=
  let p := s.planner n
  let age := p.age + passQ
  let k : Kin := match p.plan with
    | some pl => if age < 0 then p.nxt else pl.at age.toNat
    | none => ⟨p.nxt.x, 0, 0, 0, 0⟩
  (s.wrPlanner n { p with aft := some k, age := age }).wr .incPlan n (k.x - p.nxt.x)

/-- What a record that completes at this mark, or before it, leaves (R46, R69, R75): its TAG, and no KIND where none has followed it. -/
def State.finRec (s : State) (n : Nat) : State :=
  let b := s.rdN .finPend n
  let s := s.iff (b.testBit 1) (fun s =>
    (s.wr .LAST_DONE_TAG n (s.rd .finTag n)).iff (s.planner n).act.isNone (fun s => s.wr .ACTIVE_KIND n 0))
  s.iff (b.testBit 4) (fun s => s.event n 4)

/-- What the profile step has left for the next mark is dropped by a stop of the same pass (R128); a record that it found complete
stays complete, with all that its completion shows (R69, R75). -/
def State.dropFin (s : State) (n : Nat) : State :=
  let s := s.finRec n
  let h := s.rdN .finHome n
  let s := if h ≠ 0 then s.homeResult n (h / 16) (h % 16) else s
  (s.wr .finHome n 0).wr .finPend n 0

/-- The axis taken out of motion into STALLED, CONTAINED or DISABLED (R71): its record is abandoned, its motion and any
following end. -/
def State.stopAxis (s : State) (n : Nat) (state : Int) : State :=
  let s := if (s.planner n).act.isSome || s.rd .relWait n ≠ 0 then s.abandon n else s
  let s := ((s.wr .FOLLOW_STATE n 0).wr .followPend n 0).wr .discPend n 0
  ((((s.dropFin n).halt n).wr .stopPend n 0).wr .tgtPend n 0).setAxis n state

end Sys2Proof.Machine
end

