-- ==== Sys2Proof/Machine/Status.lean ====
section
/-! DEFINITION. The status word (R38), redundancy (R20, R21), changes of mode (R312), ring time (R365), and fault injection
(R350, R351) as the checkers see it. -/
namespace Sys2Proof.Machine

/-- Whether bits `r` of REDUNDANCY hold a loss (R20, R21): `feeds` and `ports` tell which feeds have been in range and which ports
have had a link since reset. -/
def lossIn (r feeds ports : Nat) : Bool :=
  (!r.testBit 0 && r.testBit 1 && feeds.testBit 0) || (!r.testBit 1 && r.testBit 0 && feeds.testBit 1) ||
  !r.testBit 3 || !r.testBit 4 || r.testBit 5 || r.testBit 6 || r.testBit 8 || r.testBit 9 ||
  (!r.testBit 10 && ports.testBit 0) || (!r.testBit 11 && ports.testBit 1) ||
  r.testBit 13 || r.testBit 14 || r.testBit 15 || decide (bitsOf r 23 16 ≠ 0)

/-- DEG: some loss bit of REDUNDANCY is set (R20, R38). -/
def State.deg (s : State) : Bool := lossIn (s.rdN .REDUNDANCY 0) (s.rdN .feedSeen 0) (s.rdN .portSeen 0)

/-- MODE, MODE_PREV, MODE_TIME and MODE_CAUSE change together (R312); mode changes and SAFE entries are counted (R378). -/
def State.setMode (s : State) (m c : Nat) : State :=
  let s := (s.wr .MODE_PREV 0 s.mode).wr .MODE 0 m
  (((s.wr .MODE_TIME 0 s.now).wr .MODE_CAUSE 0 c).tally 230).iff (m = 9) (fun s => s.tally 231)

/-- RUN and RUN-DEGRADED follow DEG in its own cycle (R312). -/
def State.followDeg (s : State) : State :=
  if s.mode = 5 && s.deg then s.setMode 6 4 else if s.mode = 6 && !s.deg then s.setMode 5 4 else s

/-- Bit `b` of REDUNDANCY becomes `v` (R20). -/
def State.setRed (s : State) (b : Nat) (v : Bool) : State := (s.wrBit .REDUNDANCY 0 b v).followDeg

/-- The mode of motion that DEG selects: RUN or RUN-DEGRADED (R314). -/
def State.runMode (s : State) : Nat := if s.deg then 6 else 5

/-- TSY: ring time is not held to ±1 µs (R367). -/
def State.tsy (s : State) : Bool :=
  !(s.rd .SYNC_STATE 0 = 2 ||
    (s.rd .SYNC_STATE 0 = 3 && decide (s.now < s.rdN .holdoverFrom 0 + 100000 * s.rdN .HOLDOVER_LIMIT 0)))

/-- Whether a warning cause is present in some block (R38). -/
def State.warnPresent (s : State) : Bool := blockIds.any (fun b => bitsOf (s.rdN .CAUSES_PRESENT b) 0x1F 0x10 ≠ 0)

/-- AXE_MAP: bit n set while AXIS_EVENTS AND AXE_MASK of axis n is not 0 (R39). -/
def State.axeMap (s : State) : Nat :=
  ((List.range 64).map (fun n => if s.rdN .AXIS_EVENTS n &&& s.rdN .AXE_MASK n = 0 then 0 else 2 ^ n)).sum

/-- QLO_MAP: bit n set while the waiting records of Qn are at or below a low mark that is not 0 (R39, R70). -/
def State.qloMap (s : State) : Nat :=
  ((List.range 64).map (fun n => if s.rd .LOW_MARK n ≠ 0 && decide (s.waiting n ≤ s.rdN .LOW_MARK n) then 2 ^ n else 0)).sum

/-- The number whose bits are these, bit 0 first. -/
def ofBits : List Bool → Nat
  | [] => 0
  | b :: l => (if b then 1 else 0) + 2 * ofBits l

/-- The status word in the present cycle (R37, R38). -/
def State.statusWord (s : State) : Nat :=
  s.pass % 16 + 16 * (s.mode % 16) + 256 * ofBits [
    decide (s.rdN .ACK_ORDINAL 0 < s.rdN .NEWEST_WARN 0) || s.warnPresent,
    s.tsy,
    s.rd .CFG_CHANGED 0 ≠ 0,
    decide (s.rdN .LOG_SEEN 0 < s.rdN .NEWEST_ORDINAL 0),
    s.qloMap ≠ 0,
    s.axeMap ≠ 0,
    s.deg,
    decide (s.rdN .ACK_ORDINAL 0 < s.rdN .NEWEST_SEVERE 0)]

/-- Bit `b` of CFG_CHANGED set (R39). -/
def State.cfg (s : State) (b : Nat) : State := s.raise .CFG_CHANGED 0 (2 ^ b)

/-- Whether the present cycle is that of the latest mark. -/
def State.atMark (s : State) : Bool := s.rd .pllLocked 0 = 1 && s.now = s.rdN .PASS_MARK_TIME 0

/-- Whether this mark has taken a mode change already (R313). -/
def State.modeTaken (s : State) : Bool := s.rdN .modeMark 0 = s.pass + 1

/-- Whether the present cycle is that of a mark at which no change of higher rank is due (R313): a LOCKOUT or SAFE entry asked for
before this mark, or a change already taken. -/
def State.modeFree (s : State) : Bool :=
  s.atMark && !s.modeTaken && s.rd .lockoutPending 0 = 0 && s.rd .tripPending 0 = 0

-- ring time

/-- The part of the slew of the last frame that is done by device time `t`, in 2^-32 tick (R365). -/
def State.slewDone (s : State) (t : Nat) : Int :=
  let a := s.rdN .rtAt 0
  let e := s.rdN .rtSlewEnd 0
  if e ≤ a || e ≤ t then s.rd .rtSlewLeft 0 else fdiv (s.rd .rtSlewLeft 0 * ((t - a : Nat) : Int)) (e - a : Nat)

/-- The ring-time estimate at device time `t`, in 2^-32 tick (R365). -/
def State.ringAt (s : State) (t : Nat) : Int :=
  (t : Int) * 2 ^ 32 + s.rd .rtOffset 0 + s.rd .rtRateFine 0 * ((t : Int) - s.rd .rtAt 0) + s.slewDone t

/-- RING_TIME in the present cycle (R371). -/
def State.ring (s : State) : Nat := unsigned 64 (fdiv (s.ringAt s.now) (2 ^ 32))

/-- Whether ring time is in use by a release, a latch at a ring-time instant, a stream or SYNC (R367). -/
def State.ringUsed (s : State) : Bool :=
  s.rd .SYNC_MODE 0 ≠ 0 || (List.range 64).any (fun n => s.rd .relWait n ≠ 0 || s.rd .FOLLOW_SOURCE n = 4 || s.rd .PUBLISH_PERIOD n ≠ 0) ||
  (List.range 16).any (fun c => s.rd .LATCH_SRC c = 3 && s.rd .latchArmed c = 1)

/-- SYNC_LOST begins or ends (R367). -/
def State.checkSync (s : State) : State :=
  if s.tsy && s.rd .rtOnce 0 = 1 && s.ringUsed then s.detectHeld 0x60 0x10 else s.endCause 0x60 0x10

-- injection

/-- The sub-kind of an injection armed on instance `k` of class `c` (R350, R351); none where no such injection is armed. -/
def State.armed (s : State) (c k : Nat) : Option Nat :=
  let g := s.rdN .INJECT_TARGET 0
  if s.rd .INJECT_STATE 0 = 1 && s.rdN .injectAt 0 + 100000000 > s.now && bitsOf g 31 24 = c && bitsOf g 15 0 = k
  then some (bitsOf g 23 16) else none

/-- The armed injection fires: the records that follow from it carry INJECTED (R350). -/
def State.fire (s : State) : State := ((s.wr .INJECT_STATE 0 2).count .INJECTIONS 0).wr .injecting 0 1

/-- The reaction of a fired injection has been recorded. -/
def State.unfire (s : State) : State := s.wr .injecting 0 0

/-- `f` as the reaction of a check on instance `k` of class `c`: given the sub-kind where an armed injection makes that check see
inverted check bits (R350), and none where the check sees what is there. -/
def State.check (s : State) (c k : Nat) (f : State → Option Nat → State) : State :=
  match s.armed c k with
  | some b => (f s.fire (some b)).unfire
  | none => f s none

end Sys2Proof.Machine
end

