-- ==== Sys2Proof/Machine/Clocks.lean ====
section
/-! DEFINITION. Clocks, holdover and the SYNC output (R357–R370). Ring time itself stands in Status.lean, the TIME frames that steer
it in Ring.lean, the SYNC input in Convert.lean. -/
namespace Sys2Proof.Machine

/-- What ROOT_LOST and PLL_SWITCH cover (R341): the ports, and two causes of every feedback channel. -/
def clockCovers : List (Nat × List Nat) :=
  [(0x58, []), (0x59, []), (0x5A, [])] ++ (List.range 16).map (fun c => (0x40 + c, [0x10, 0x12]))

/-- A second of device time. -/
def second : Nat := 100000000

/-- The PLL trim for the backup oscillator when it takes over (R360, R364): the last BACKUP_TRIM, or the factory trim. -/
def State.backupStart (s : State) : Int := if s.rd .trimKnown 0 = 1 then s.rd .BACKUP_TRIM 0 else Config.factoryTrim

/-- ROOT_LOST (R360): the monitor finds the root lost, and the PLL in use moves to the backup oscillator. -/
def execRootLost (t : Nat) (s : State) : Host.Outcome State Fault Refusal :=
  let s := s.at t
  .next (
    if s.rd .CLK_SOURCE 0 = 2 then s
    else
      let s := s.detectShadow 0x60 1 0 clockCovers (.time (s.now + second))
      let s := ((s.wr .CLK_SOURCE 0 2).count .ROOT_LOSSES 0).tally 238
      let s := ((s.wr .pllTrim 0 s.backupStart).wr .pllTrimAt 0 s.now).wr .rootLostAt 0 s.now
      s.setRed 5 true)

/-- ROOT_RESTORED (R361): the root has stayed valid for ROOT_RETURN_DELAY. A root found lost at reset is not sought again. -/
def execRootRestored (t : Nat) (s : State) : Host.Outcome State Fault Refusal :=
  let s := s.at t
  .next (
    if s.rd .CLK_SOURCE 0 = 2 && s.rd .rootKind 0 ≠ 2 && decide (s.rdN .rootLostAt 0 + 100000 * s.rdN .ROOT_RETURN_DELAY 0 ≤ s.now)
    then ((((s.wr .CLK_SOURCE 0 (s.rd .rootKind 0)).wr .pllTrim 0 0).endCause 0x60 1).detect 0x60 0x20).setRed 5 false
    else s)

/-- BACKUP_TRIM (R360): once a second, while the root is present, the backup oscillator is measured against it. -/
def execBackupTrim (t : Nat) (ppb : Int) (s : State) : Host.Outcome State Fault Refusal :=
  let s := s.at t
  .next (if s.rd .CLK_SOURCE 0 = 2 then s else (s.wr .BACKUP_TRIM 0 (signed 32 (unsigned 32 ppb))).wr .trimKnown 0 1)

/-- PLL_SWITCH (R362): PLL0 loses lock and the clocks move to PLL1, for good until reset. -/
def execPllSwitch (t : Nat) (s : State) : Host.Outcome State Fault Refusal :=
  let s := s.at t
  .next (
    if s.rd .PLL_IN_USE 0 = 1 then s
    else
      let s := s.detectShadow 0x60 2 0 clockCovers (.time (s.now + second))
      ((s.wr .PLL_IN_USE 0 1).tally 239).setRed 6 true)

/-- HOLDOVER_ENTRY (R366): no usable TIME frame for 1 s. -/
def execHoldoverEntry (t : Nat) (s : State) : Host.Outcome State Fault Refusal :=
  let s := s.at t
  .next (
    if (s.rd .SYNC_STATE 0 = 1 || s.rd .SYNC_STATE 0 = 2) && decide (s.rdN .LAST_TIME_FRAME 0 + second ≤ s.now) then
      (((s.wr .SYNC_STATE 0 3).wr .holdoverFrom 0 s.now).wr .rtGood 0 0).wr .rtBad 0 0
    else s)

/-- HOLDOVER_LIMIT (R366): whether a frame becomes usable in the cycle of expiry is known once that cycle is over (R16, log entry 147). -/
def execHoldoverLimit (t : Nat) (s : State) : Host.Outcome State Fault Refusal :=
  let s := s.at t
  .next (
    if s.rd .SYNC_STATE 0 = 3 && decide (s.rdN .holdoverFrom 0 + 100000 * s.rdN .HOLDOVER_LIMIT 0 < s.now) then
      (s.wr .SYNC_STATE 0 0).checkSync
    else s)

/-- The latest ring-time instant at or before `r` that equals `phase` modulo `period`; none before the first. -/
def syncInstant (r period phase : Nat) : Option Nat := if r < phase then none else some (r - (r - phase) % period)

/-- How many such instants lie above `a` and at or below `b`. -/
def syncCount (a b period phase : Nat) : Nat := (b + period - phase) / period - (a + period - phase) / period

/-- SYNC_OUTPUT_PULSE (R369): the CKP cycle that holds a ring-time instant of the output. An instant already pulsed or passed over
is not repeated. -/
def execSyncOutputPulse (t : Nat) (s : State) : Host.Outcome State Fault Refusal :=
  let s := s.at t
  let r := s.ring
  .next (
    if s.rd .SYNC_MODE 0 ≠ 1 then s
    else
      match syncInstant r (s.rdN .SYNC_PERIOD 0) (s.rdN .SYNC_PHASE 0) with
      | none => s
      | some i =>
        if r < i + 2 && decide (s.rdN .syncNext 0 < i) then
          let s := s.wr .syncNext 0 i
          if s.tsy && s.rd .SYNC_FREE 0 = 0 then s.count .SYNC_SKIPPED 0
          else (s.wr .syncLevel 0 1).wr .syncHighFrom 0 s.now
        else s)

/-- SYNC_PULSE_END (R369). -/
def execSyncPulseEnd (t : Nat) (s : State) : Host.Outcome State Fault Refusal :=
  let s := s.at t
  .next (if s.rd .syncLevel 0 = 1 && decide (s.rdN .syncHighFrom 0 + s.rdN .SYNC_WIDTH 0 ≤ s.now) then s.wr .syncLevel 0 0 else s)

end Sys2Proof.Machine
end

