-- ==== Sys2Proof/Machine/Switches.lean ====
section
/-! DEFINITION. The switches of the half-bridges (R102, R139–R142): the command pair that the highest active rank gives, the interlock, and which
switches are on. Half-bridge hb (0 A1, 1 A2, 2 B1, 3 B2) of axis n has the register number 4n + hb. A pair is a number: bit 0 high, bit 1
low commanded on. -/
namespace Sys2Proof.Machine

/-- Power die of axis `n` (R8). -/
def dieOf (n : Nat) : Nat := n / 8

/-- Whether ENA1 and ENA2 are both high. -/
def State.enaOk (s : State) : Bool := s.rdN .ENA_STATE 0 % 4 = 3

/-- Whether the die of axis `n` is shut down or held off (R152, R318, R348). -/
def State.dieDown (s : State) (n : Nat) : Bool := s.rd .DIE_STATE (dieOf n) = 2 || s.rd .dieOff (dieOf n) = 1

/-- The drive state that short-brake interrupts, or the present one. -/
def State.driveOf (s : State) (n : Nat) : Nat :=
  if s.rd .DRIVE_STATE n = 3 then s.rdN .prevDrive n else s.rdN .DRIVE_STATE n

/-- Whether rank 1, 2 or 3 commands the half-bridges of axis `n` off (R140): the gate supply removed, its die shut down or the bus too low, its
fault latch. -/
def State.forcedOff (s : State) (n : Nat) : Bool :=
  !s.bit .ENA_STATE 0 2 || s.dieDown n || s.rd .uvOn 0 = 1 || s.rd .faultLatch n = 1

/-- The pair of half-bridge `hb` in a chopper state (R102): `st` 0 OPEN, 1 ON, 2 SLOW, 3 FAST, `sign` the direction that conducts. -/
def chopPair (st : Nat) (sign : Int) (hb : Nat) : Nat :=
  let first := decide (hb % 2 = 0)
  match st with
  | 0 => 0
  | 1 => if first = decide (0 < sign) then 1 else 2
  | 2 => 2
  | _ => if first = decide (0 < sign) then 2 else 1

/-- The command pair that the chopper of the phase gives half-bridge `hb` of axis `n` (R102). -/
def State.chopCmd (s : State) (n hb : Nat) : Nat := chopPair (s.rdN .phState (2 * n + hb / 2)) (s.rd .phSign (2 * n + hb / 2)) hb

/-- The command pair of a half-bridge (R140): that of the highest rank active for it. -/
def State.pairOf (s : State) (n hb : Nat) : Nat :=
  if s.forcedOff n then 0                                        -- ranks 1, 2, 3
  else if s.rd .brakeOn (dieOf n) = 1 then 2                     -- rank 4
  else if s.driveOf n = 5 then 0                                 -- rank 5
  else if s.rd .refreshOn (4 * n + hb) = 1 then 2                -- rank 6
  else
    match s.driveOf n with
    | 4 => if s.rd .pulseEnd n = 0 then 0 else s.rdN .DIRECT_PATTERN n / 4 ^ hb % 4
    | 1 | 2 => s.chopCmd n hb
    | _ => 0

/-- The CKP cycle from which the switch commanded on is on (R141, R142): at once, or once the other one has been off for DEAD_TIME cycles. -/
def State.onFrom (s : State) (n hb : Nat) : Nat :=
  let k := 4 * n + hb
  let off := if s.rd .swCmd k = 1 then s.rdN .swLowOff k else s.rdN .swHighOff k
  if off = 0 then s.rdN .swAt k else max (s.rdN .swAt k) (off - 1 + s.rdN .DEAD_TIME n)

/-- Whether the high or the low switch of a half-bridge is on in CKP cycle `c` (R141): both commanded on, neither is. -/
def State.switchOn (s : State) (n hb : Nat) (high : Bool) (c : Nat) : Bool :=
  s.rd .swCmd (4 * n + hb) = (if high then 1 else 2) && decide (s.onFrom n hb ≤ c)

/-- Half-bridge `hb` takes its command pair in CKP cycle `c` (R141): a switch whose command goes off is off from that cycle on. -/
def State.switchHb (s : State) (n hb c : Nat) : State :=
  let k := 4 * n + hb
  let p := s.pairOf n hb
  if s.rdN .swCmd k = p then s
  else
    let s' := s.iff (s.switchOn n hb true c) (fun s => s.wr .swHighOff k (c + 1 : Nat))
    let s' := s'.iff (s.switchOn n hb false c) (fun s => s.wr .swLowOff k (c + 1 : Nat))
    (s'.wr .swCmd k p).wr .swAt k c

/-- The half-bridges of axis `n` take their command pairs in CKP cycle `c`. -/
def State.switchAt (s : State) (n c : Nat) : State := s.forAll 4 (fun s hb => s.switchHb n hb c)

/-- Whether the chosen pair of a half-bridge of axis `n` has both switches on (R141). -/
def State.shootReq (s : State) (n : Nat) : Bool := (List.range 4).any (fun hb => s.pairOf n hb = 3)

/-- Whether the high side of half-bridge `hb` of axis `n` is on, or commanded on and waiting for its dead time. -/
def State.highCmd (s : State) (n hb : Nat) : Bool := s.rd .swCmd (4 * n + hb) = 1

/-- The CKP cycle of the present CKM cycle; marks fall on CKP edges (R359). -/
def State.ckp (s : State) : Nat := (s.now + s.rdN .PASS_MARK_TIME 0 % 2) / 2

/-- The CKP cycle of a device time (R359). -/
def State.ckpOf (s : State) (t : Nat) : Nat := (t + s.rdN .PASS_MARK_TIME 0 % 2) / 2

/-- The CKP cycle of the latest mark. -/
def State.markCkp (s : State) : Nat := (s.rdN .PASS_MARK_TIME 0 + 1) / 2

/-- A forced refresh of half-bridge `hb` starts at device time `t` (R148): rank 6. -/
def State.startRefresh (s : State) (n hb t : Nat) : State :=
  let k := 4 * n + hb
  let s := ((s.wr .refreshAt k (t + 1 : Nat)).wr .refreshOn k 1).wr .refreshWait k 0
  (s.count .BOOT_REFRESHES n).switchAt n (s.ckpOf t)

/-- The device time from which a refresh of half-bridge `hb` may start (R148): 1,000 CKP cycles after the start of the one before. -/
def State.refreshFrom (s : State) (n hb : Nat) : Nat :=
  if s.rd .refreshAt (4 * n + hb) = 0 then 0 else s.rdN .refreshAt (4 * n + hb) + 1999

/-- Refreshes of axis `n` that have waited for their time start (R148); one whose high side has gone off meanwhile is not needed. -/
def State.dueRefresh (s : State) (n : Nat) : State :=
  s.forAll 4 (fun s hb =>
    if s.rd .refreshWait (4 * n + hb) = 0 then s
    else if !s.highCmd n hb then s.wr .refreshWait (4 * n + hb) 0
    else if s.refreshFrom n hb ≤ s.now then s.startRefresh n hb (s.refreshFrom n hb)
    else s)

end Sys2Proof.Machine
end

