-- ==== Sys2Proof/Machine/Current.lean ====
section
/-! DEFINITION. The electrical angle, phase references, amplitudes, choppers and the adaptive offset (R94–R113). Registers of a phase
have the number 2n + ph (ph 0: A, 1: B). -/
namespace Sys2Proof.Machine

-- the tables (R96, R98)

/-- π in 2^-96. -/
def piFix : Int := 248902613312231085230521944622

/-- A product of two numbers in 2^-96. -/
def mulFix (a b : Int) : Int := a * b / 2 ^ 96

/-- The sine series from term `k` on, for the argument x with `x2` = x² and `term` = the term before: `fuel` more terms. -/
def sinAux (x2 : Int) : Nat → Nat → Int → Int
  | 0, _, term => term
  | fuel + 1, k, term => term + sinAux x2 fuel (k + 1) (-(mulFix term x2) / ((2 * k + 2) * (2 * k + 3) : Nat))

/-- sin(m · π / 4,096) in 2^-96, 0 ≤ m ≤ 6,141: the error is far below what a rounding of R98 can see. -/
def sinFix (m : Nat) : Int :=
  let x := piFix * m / 4096
  sinAux (mulFix x x) 30 0 x

/-- A quotient rounded to the nearest integer, halves up. -/
def roundDiv (a b : Int) : Int := fdiv (2 * a + b) (2 * b)

/-- A quotient rounded to the nearest integer, halves away from zero. -/
def roundAway (a b : Int) : Int := if 0 ≤ a then roundDiv a b else -(roundDiv (-a) b)

/-- Entry `i` of the table shaped by `k3` and `lift` (R98); the table of R96 at 0, 0. Here 3s − 4s³ is the sine of three times the
angle. -/
def tableEntry (k3 : Int) (lift i : Nat) : Nat :=
  let s := sinFix (2 * i + 1)
  let s3 := sinFix (3 * (2 * i + 1))
  let num := (lift : Int) * (1000 + k3) * 2 ^ 96 + (1000 - lift : Int) * (1000 * s - k3 * s3)
  (roundDiv (65535 * num) (1000 * (1000 + k3) * 2 ^ 96)).toNat

/-- SHAPE_RMS (R98). -/
def shapeRms (k3 : Int) (lift : Nat) : Nat :=
  let sum := ((List.range 1024).map (fun i => (tableEntry k3 lift i) ^ 2)).sum
  (isqrt (4 * 65536 ^ 2 * sum / (1024 * 65535 ^ 2)) + 1) / 2

-- references (R97)

/-- AMP_CODE of an amplitude in mA. -/
def ampCode (mA : Nat) : Nat := (2 * mA * 1023 + 3000) / 6000

/-- The sign of phase A at position `a`, and the table entry of its magnitude (R96). -/
def quadrant (a : Nat) : Int × Nat :=
  let q := a / 1024 % 4
  (if q < 2 then 1 else -1, if q % 2 = 0 then a % 1024 else 1023 - a % 1024)

/-- REF of phase `ph` at position `a` for amplitude code `code` (R96, R97). -/
def refAt (k3 : Int) (lift code a ph : Nat) : Int :=
  let p := quadrant (a + 1024 * ph)
  p.1 * ((2 * code * tableEntry k3 lift p.2 + 65535) / 131070 : Nat)

/-- The angle with its fraction `j` CKP cycles after a mark at which it was `a`, with increment `d` (R95): the extra units fall at
even spacing, the k-th of r of them in cycle ⌈2,500·k / r⌉. -/
def angleAfter (a d : Int) (j : Nat) : Int :=
  let q := d.natAbs / 2500
  let r := d.natAbs % 2500
  a + d.sign * (q * j + r * j / 2500 : Nat)

/-- The same in a pass whose release register is `rel`: in the pass of a release instant the angle stands until the increment begins, and
covers it in the cycles that are left (R72). -/
def angleIn (rel : Nat) (a d : Int) (j : Nat) : Int :=
  match rel with
  | 0 => angleAfter a d j
  | 1 => a
  | k => a + d.sign * (d.natAbs * (j + 2 - k) / (2502 - k) : Nat)

/-- The angle position that an angle with its fraction stands at. -/
def posAt (x : Int) : Nat := unsigned 28 x / 65536

/-- The angle of axis `n` in CKP cycle `c` of the present pass. -/
def State.angleCkp (s : State) (n c : Nat) : Int :=
  angleIn (s.rdN .relFrom n) (s.rd .angleQ n) (s.rd .ANGLE_INC n) (min 2499 (c - s.markCkp))

/-- The angle position of axis `n` in the present CKP cycle. -/
def State.anglePos (s : State) (n : Nat) : Nat := posAt (s.angleCkp n s.ckp)

/-- REF of phase `ph` of axis `n` at angle position `a`. -/
def State.refOf (s : State) (n ph a : Nat) : Int :=
  refAt (s.rd .SHAPE_K3 n) (s.rdN .SHAPE_LIFT n) (s.rdN .AMP_CODE n) a ph

/-- REF of a phase in CKP cycle `c`, of this pass or the one before. -/
def State.refIn (s : State) (n ph c : Nat) : Int :=
  let m := s.markCkp
  if m ≤ c then s.refOf n ph (posAt (s.angleCkp n c))
  else
    refAt (s.rd .SHAPE_K3 n) (s.rdN .SHAPE_LIFT n) (s.rdN .ampOld n)
      (posAt (angleIn (s.rdN .relWas n) (s.rd .angleOld n) (s.rd .incOld n) (c + 2500 - m))) ph

/-- REF of a phase in the present CKP cycle. -/
def State.refNow (s : State) (n ph : Nat) : Int := s.refIn n ph s.ckp

/-- The least and the largest |REF| of a phase while the angle goes from `x` to `y`: it falls to entry 0 where the sign changes and rises to
entry 1,023 half way between, and runs evenly from one to the other. -/
def State.refSpan (s : State) (n ph : Nat) (x y : Int) : Nat × Nat :=
  let r (a : Nat) : Nat := (s.refOf n ph a).natAbs
  let turn (z w : Int) : Int := fdiv (z + 1024 * 65536 * ph + w) (2048 * 65536)
  let a := r (posAt x)
  let b := r (posAt y)
  (if turn x 0 = turn y 0 then min a b else min (min a b) (r (posAt (-(1024 * 65536 * ph : Nat)))),
   if turn x (1024 * 65536) = turn y (1024 * 65536) then max a b else max (max a b) (r (posAt (1023 * 65536 - (1024 * 65536 * ph : Nat)))))

-- the chopper (R102–R106)

/-- Peak and valley of a phase at |REF| `r` before clamping (R103). -/
def State.band (s : State) (n ph r : Nat) : Int × Int :=
  let h := max 2 (roundDiv (r * s.rd .effBand n) 200) + s.rd .phW (2 * n + ph)
  let o := s.rd (if ph = 0 then .ADAPT_OFFSET_A else .ADAPT_OFFSET_B) n
  (r + o + h, r + o - h)

/-- Peak and valley of a phase in the present CKP cycle (R103). -/
def State.thresholds (s : State) (n ph : Nat) : Int × Int :=
  let t := s.band n ph (s.refNow n ph).natAbs
  (min 1023 t.1, max 0 t.2)

/-- The chopper of a phase goes to state `st` in CKP cycle `c`, to a reversal (`rev` 1) or not, and its half-bridges with it; the states it
leaves are kept for the samples whose window ended before (R107, R118). -/
def State.turn (s : State) (n ph st rev c : Nat) : State :=
  let p := 2 * n + ph
  let s := [2, 1, 0].foldl (fun (s : State) i =>
    (s.wr .phWas (4 * p + i + 1) (s.rd .phWas (4 * p + i))).wr .phWasAt (4 * p + i + 1) (s.rd .phWasAt (4 * p + i))) s
  let s := (s.wr .phWas (4 * p) (s.rd .phState p + 4 * s.rd .phRev p)).wr .phWasAt (4 * p) (s.rd .phSince p)
  (((s.wr .phSince p c).wr .phState p st).wr .phRev p rev).switchAt n c

/-- A threshold that was clamped in some CKP cycle up to `c` since it was last looked at is counted, once in a chopper cycle (R103): the peak is
highest where |REF| is, and the valley lowest where it is lowest. -/
def State.noteClamp (s : State) (n ph c : Nat) : State :=
  let p := 2 * n + ph
  if s.bit .phFlags p 5 then
    let r := s.refSpan n ph (s.angleCkp n (max (s.rdN .phLook p) s.markCkp)) (s.angleCkp n c)
    let s := s.wr .phLook p c
    if !s.bit .phFlags p 6 && (decide (1023 < (s.band n ph r.2).1) || decide ((s.band n ph r.1).2 < 0)) then
      (s.wrBit .phFlags p 6 true).count .THRESH_CLAMPS n
    else s
  else s

/-- A chopper cycle completes after `len` CKP cycles (R106, R113). -/
def State.cycleDone (s : State) (n ph len off : Nat) : State :=
  let p := 2 * n + ph
  let s := s.tally (132 + n)
  let s := s.iff (len < 750) (fun s => s.wr .phShort p 1)
  let s := s.iff (len < 625 && s.rdN .phW p < 63) (fun s => (s.wr .phW p (s.rd .phW p + 1)).count .WIDEN_EVENTS n)
  if s.bit .phFlags p 4 && !s.bit .phFlags p 3 then
    ((s.wr .phRec p (1 + 2 * (s.rdN .phFlags p % 8) : Nat)).wr .phRecOn p (s.rd .phTon p)).wr .phRecOff p off
  else s

/-- The on time commanded begins, once its switches are on (R104, R106): blanking starts, and the chopper cycle before is complete. -/
def State.onStart (s : State) (n ph c : Nat) : State :=
  let p := 2 * n + ph
  let on := s.rdN .phOnAt p
  if s.rd .phPend p = 0 || decide (c < on) then s
  else
    let s := (s.noteClamp n ph on).wr .phPend p 0
    let s := s.iff (s.bit .phFlags p 5) (fun s => s.cycleDone n ph (on - s.rdN .phOnPrev p) (s.rdN .phOffEnd p - s.rdN .phOffAt p))
    let r := (s.refIn n ph on).natAbs
    let high : Bool := 7 * s.rdN .AMP_CODE n ≤ 8 * r
    let s := (s.wr .phOnRef p r).wr .phLook p on
    s.wr .phFlags p ((if s.rd .phW p = 0 then 0 else 1) + (if high then 16 else 0) + 32)

/-- The CKP cycle in which the switches of the on time commanded in cycle `c` are on: one dead time later where a higher rank keeps them from
it (R140). -/
def State.onCycle (s : State) (n ph c : Nat) : Nat :=
  let h := [2 * ph, 2 * ph + 1]
  if h.all (fun hb => s.rdN .swCmd (4 * n + hb) = s.chopCmd n hb) then (h.map (s.onFrom n)).foldl max 0 else c + s.rdN .DEAD_TIME n

/-- The on command of a phase in CKP cycle `c`, in the sign of REF (R104). -/
def State.commandOn (s : State) (n ph c : Nat) : State :=
  let p := 2 * n + ph
  let s := s.wr .phSign p (s.refIn n ph c).sign
  let s := (s.turn n ph 1 0 c).wr .phOnPrev p (s.rd .phOnAt p)
  let s := (s.wr .phOnAt p (s.onCycle n ph c)).wr .phPend p 1
  ((s.wr .phCmd p 0).wr .phMixEnd p 0).onStart n ph c

/-- An event of CKP cycle `c` ends the off time of a phase (R104, R106). With W at 63 the on time waits until 625 cycles have passed since the
start of the last one: the off time goes on until then. -/
def State.startOn (s : State) (n ph c : Nat) : State :=
  let p := 2 * n + ph
  let keeps := s.rd .phState p = 3 && (s.refIn n ph c).sign ≠ s.rd .phSign p
  let dead := if keeps then 0 else s.rdN .DEAD_TIME n
  let prev := s.rdN .phOnAt p
  let s := s.wr .phOffEnd p c
  if s.bit .phFlags p 5 && s.rd .phW p = 63 && decide (c + dead < prev + 625) then
    (s.count .FREQ_CAPS n).wr .phCmd p (prev + 626 - dead : Nat)
  else s.commandOn n ph c

/-- An off time begins in CKP cycle `c` (R104, R105). An on time whose switches were not on yet has not begun. -/
def State.startOff (s : State) (n ph st rev c : Nat) : State :=
  let p := 2 * n + ph
  let s := s.iff (s.rd .phPend p = 1) (fun s => (s.wr .phPend p 0).wr .phOnAt p (s.rd .phOnPrev p))
  let s := ((s.turn n ph st rev c).wr .phOffAt p c).wr .phOffNum p ((s.rd .phOffNum p + 1) % 2 ^ 32)
  ((s.wr .phMixEnd p 0).wr .phCmd p 0).wrBit .phFlags p 1 (s.bit .phFlags p 1 || st = 3)

/-- REF of a phase changes sign in CKP cycle `c`: FAST from the old sign (R104). The off time runs on where one is running. -/
def State.reverse (s : State) (n ph c : Nat) : State :=
  let p := 2 * n + ph
  let s := if s.rd .phState p = 1 then s.startOff n ph 3 1 c
    else (((s.turn n ph 3 1 c).wr .phMixEnd p 0).wr .phCmd p 0).wrBit .phFlags p 1 true
  s.wrBit .phFlags p 3 true

/-- Whether REF of a phase has changed sign against the direction that conducts (R104). -/
def State.signChanged (s : State) (n ph : Nat) : Bool :=
  let p := 2 * n + ph
  let r := s.refNow n ph
  s.rd .phState p ≠ 0 && s.rd .phRev p = 0 && r ≠ 0 && s.rd .phSign p ≠ 0 && r.sign ≠ s.rd .phSign p

-- what the chopper does by itself

/-- The first CKP cycle of the run of cycles up to `c`, in this pass and since the last change of state, in which `ok` holds of REF. -/
def State.runFrom (s : State) (n ph c : Nat) (ok : Int → Bool) : Nat :=
  let lo := max (s.rdN .phSince (2 * n + ph)) s.markCkp
  c - largest (fun k => decide (lo + k ≤ c) && ok (s.refIn n ph (c - k))) 12 0

/-- A phase whose REF is 0 goes to SLOW in the cycle in which it has become 0 (R104). -/
def State.zeroRef (s : State) (n ph c : Nat) : State :=
  let st := s.rd .phState (2 * n + ph)
  if (st = 1 || st = 3) && s.refIn n ph c = 0 then
    let z := s.runFrom n ph c (fun r => r = 0)
    if st = 1 then s.startOff n ph 2 0 z else (s.turn n ph 2 0 z).wr .phMixEnd (2 * n + ph) 0
  else s

/-- The FAST part of a mixed off time ends (R105). -/
def State.mixDone (s : State) (n ph c : Nat) : State :=
  let p := 2 * n + ph
  if s.rd .phState p = 3 && s.rd .phRev p = 0 && s.rd .phMixEnd p ≠ 0 && decide (s.rdN .phMixEnd p ≤ c + 1) then
    (s.turn n ph 2 0 (s.rdN .phMixEnd p - 1)).wr .phMixEnd p 0
  else s

/-- An off time that TOFF_MAX has ended, in a cycle before `c`: an event of the cycle of expiry comes first (R16, R104). While REF is 0 the phase
stays in SLOW. A REF that has changed sign waits for its reversal. -/
def State.toffDone (s : State) (n ph c : Nat) : State :=
  let p := 2 * n + ph
  let x := s.rdN .phOffAt p + s.rdN .effToff n
  if (s.rd .phState p = 2 || s.rd .phState p = 3) && s.rd .phCmd p = 0 && decide (x < c) && s.refIn n ph c ≠ 0 then
    let e := if s.refIn n ph x = 0 then max x (s.runFrom n ph c (fun r => r ≠ 0)) else x
    if s.rd .phRev p = 0 && s.rd .phSign p ≠ 0 && (s.refIn n ph e).sign ≠ s.rd .phSign p then s
    else
      let s := s.iff (s.rd .phRev p = 0) (fun s => s.count .OFF_TIMEOUTS n)
      (s.wrBit .phFlags p 2 true).startOn n ph e
  else s

/-- The on command that R106 has held back issues. -/
def State.capDone (s : State) (n ph c : Nat) : State :=
  let p := 2 * n + ph
  let x := s.rdN .phCmd p - 1
  if s.rd .phCmd p ≠ 0 && decide (x ≤ c) then
    if s.refIn n ph x = 0 then s.wr .phCmd p 0 else s.commandOn n ph x
  else s

/-- What the chopper of a phase has done by itself up to CKP cycle `c`. -/
def State.settlePhase (s : State) (n ph c : Nat) : State :=
  if s.rd .phState (2 * n + ph) = 0 then s
  else
    let s := ((s.onStart n ph c).zeroRef n ph c).mixDone n ph c
    (((s.toffDone n ph c).capDone n ph c).onStart n ph c).noteClamp n ph c

/-- Axis `n` in the present CKP cycle: what its refreshes and its choppers have done by themselves. -/
def State.settleAxis (s : State) (n : Nat) : State :=
  let s := s.dueRefresh n
  (s.settlePhase n 0 s.ckp).settlePhase n 1 s.ckp

/-- The chopper of a phase goes OPEN (R104). -/
def State.openPhase (s : State) (n ph : Nat) : State :=
  let p := 2 * n + ph
  let s := ((s.turn n ph 0 0 s.ckp).wr .phSign p 0).wr .phFlags p 0
  ((s.wr .phPend p 0).wr .phCmd p 0).wr .phMixEnd p 0

/-- The chopper of a phase leaves OPEN: its bridge is enabled (R104). -/
def State.enablePhase (s : State) (n ph : Nat) : State :=
  if s.rd .phState (2 * n + ph) ≠ 0 then s
  else if s.refNow n ph = 0 then s.startOff n ph 2 0 s.ckp
  else s.startOn n ph s.ckp

-- the events

/-- An event of a phase in the present cycle: what the chopper has done by itself comes first, and a sign change of the same cycle takes
precedence (R104). -/
def State.chopEvent (s : State) (t n ph : Nat) (f : State → State) : State :=
  let s := (s.at t).dueRefresh n
  let s := s.settlePhase n ph s.ckp
  if s.signChanged n ph then s.reverse n ph s.ckp else f s

/-- A peak event in the present cycle (R104, R105): the decay of the off time is chosen in the cycle in which it starts. One during blanking is
ignored. -/
def State.peak (s : State) (n ph : Nat) : State :=
  let p := 2 * n + ph
  let c := s.ckp
  let clear := s.rdN .phOnAt p + s.rdN .effBlank n
  if s.rd .phState p = 1 && s.rd .phPend p = 0 && decide (clear ≤ c) then
    let s := (s.wr .phPeak p 1).wr .phTon p (c - s.rdN .phOnAt p : Nat)
    let s := s.iff (c = clear) (fun s => (s.count .EARLY_TRIPS n).wrBit .phFlags p 2 true)
    let mix := s.rd .effDecay n = 3 && s.rd .effMix n ≠ 0
    let fast := s.rd .effDecay n = 2 || mix || (s.rd .effDecay n = 0 && decide ((s.refNow n ph).natAbs < s.rdN .phOnRef p))
    (s.startOff n ph (if fast then 3 else 2) 0 c).iff mix (fun s => s.wr .phMixEnd p (c + s.rdN .effMix n + 1 : Nat))
  else s

/-- CHOPPER_PEAK (R104, R105). -/
def execChopperPeak (t : Nat) (n : Fin 64) (ph : Fin 2) (s : State) : Host.Outcome State Fault Refusal :=
  .next (s.chopEvent t n ph (fun s => s.peak n ph))

/-- Whether a phase is in an off time that may end in an on time (R104): REF is not 0, and no event has ended it yet. -/
def State.inOff (s : State) (n ph : Nat) : Bool :=
  let p := 2 * n + ph
  (s.rd .phState p = 2 || s.rd .phState p = 3) && s.rd .phCmd p = 0 && s.refNow n ph ≠ 0

/-- CHOPPER_VALLEY (R104): at least 1 µs after the off time began, not in a reversal, whose valley is the 2 codes of
FAST_BELOW_TWO_CODES. -/
def execChopperValley (t : Nat) (n : Fin 64) (ph : Fin 2) (s : State) : Host.Outcome State Fault Refusal :=
  let p := 2 * n.val + ph.val
  .next (s.chopEvent t n ph (fun s =>
    if s.inOff n ph && s.rd .phRev p = 0 && decide (s.rdN .phOffAt p + 50 ≤ s.ckp) then s.startOn n ph s.ckp else s))

/-- OFF_TIME_MAX (R104): TOFF_MAX cycles since the off time began. The chopper ends the off time by itself, in that cycle; a valley event of the
same cycle ends it before (R16). -/
def execOffTimeMax (t : Nat) (n : Fin 64) (ph : Fin 2) (s : State) : Host.Outcome State Fault Refusal :=
  .next (s.chopEvent t n ph (fun s => s))

/-- REF_SIGN_CHANGE (R104). -/
def execRefSignChange (t : Nat) (n : Fin 64) (ph : Fin 2) (s : State) : Host.Outcome State Fault Refusal :=
  .next (s.chopEvent t n ph (fun s => s))

/-- FAST_BELOW_TWO_CODES (R104): SLOW for the rest of the off time, or, in a reversal and at least 1 µs after the off time began, ON
in the new sign. -/
def execFastBelowTwoCodes (t : Nat) (n : Fin 64) (ph : Fin 2) (s : State) : Host.Outcome State Fault Refusal :=
  let p := 2 * n.val + ph.val
  .next (s.chopEvent t n ph (fun s =>
    if s.rd .phState p = 3 then
      if s.rd .phRev p = 0 then (s.turn n ph 2 0 s.ckp).wr .phMixEnd p 0
      else if s.inOff n ph && decide (s.rdN .phOffAt p + 50 ≤ s.ckp) then s.startOn n ph s.ckp
      else s
    else s))

-- amplitude (R99)

/-- The hold ramp of row 4 (R99). -/
def rampAmp (run hold k n : Nat) : Int := roundDiv ((run : Int) * n + ((hold : Int) - run) * k) n

/-- The amplitude of the next pass and its source (R99), once the profile step has planned the states at marks p+1 and p+2. -/
def State.amplitude (s : State) (n : Nat) : Int × Nat :=
  let p := s.planner n
  let a : Kin := p.aft.getD p.nxt
  let boost := (s.rd .BOOST_MODE n = 1 && a.a ≠ 0) || (s.rd .BOOST_MODE n = 2 && decide (p.nxt.v.natAbs < a.v.natAbs))
  let moving := s.rd .incPlan n ≠ 0 || a.seg ≠ 0
  let still := s.rdN .STILL_PASSES n
  let delay := s.rdN .HOLD_DELAY n
  let k := still - delay + 1
  if boost then (s.rd .BOOST_CURRENT n, 2)
  else if moving || decide (still < delay) then (s.rd .RUN_CURRENT n, 1)
  else if k ≤ s.rdN .HOLD_RAMP n then (rampAmp (s.rdN .RUN_CURRENT n) (s.rdN .HOLD_CURRENT n) k (s.rdN .HOLD_RAMP n), 3)
  else (s.rd .HOLD_CURRENT n, 4)

/-- STILL_PASSES after the pass being written, and the amplitude shadow (R99). STILL_PASSES counts the pass that the increment is
written for (log entry 19). -/
def State.writeAmplitude (s : State) (n : Nat) : State :=
  let p := s.planner n
  let moving := s.rd .incPlan n ≠ 0 || (p.aft.getD p.nxt).seg ≠ 0
  let s := s.wr .STILL_PASSES n (if moving then 0 else min (s.rd .STILL_PASSES n + 1) (2 ^ 32 - 1))
  let a := s.amplitude n
  (s.wr .ampShadow n a.1).wr .ampSrcShadow n a.2

-- the adaptive offset (R107–R111)

/-- The registers of a phase: accumulator, offset in effect, filtered error, start value. -/
def accReg (ph : Nat) : Reg := if ph = 0 then .ADAPT_ACC_A else .ADAPT_ACC_B
def offReg (ph : Nat) : Reg := if ph = 0 then .ADAPT_OFFSET_A else .ADAPT_OFFSET_B
def errReg (ph : Nat) : Reg := if ph = 0 then .ADAPT_ERR_A else .ADAPT_ERR_B
def initReg (ph : Nat) : Reg := if ph = 0 then .ADAPT_INIT_A else .ADAPT_INIT_B

/-- The accumulators of axis `n` reset (R110). -/
def State.resetAdapt (s : State) (n : Nat) : State :=
  let one (s : State) (ph : Nat) : State :=
    let p := 2 * n + ph
    let s := ((s.wr (accReg ph) n (1024 * s.rd (initReg ph) n)).wr (errReg ph) n 0).wr .adF p 0
    ((s.wr .adUpd p 0).wr .adSeen p 0).wr .adSat p 0
  let s := (one (one s 0) 1).wr .ADAPT_UPDATES n 0
  (s.wr .adReset n 0).endCause (blkAxis n) 0x12

/-- The update of a phase at the end of a pass that gave it valid samples (R108, R109), unless ADAPT_ENABLE has been taken away meanwhile, which
freezes the offset at once (R110): the mean error is taken exactly; the product
of R108 is rounded with halves away from zero, and F is kept to 2^-24 of its unit (log entry 20). Second: whether the update pushed the
accumulator outward at its limit. -/
def State.adaptPhase (s : State) (n ph : Nat) : State × Bool :=
  let p := 2 * n + ph
  let k := s.rdN .adCnt p
  if k = 0 || s.rd .ADAPT_ENABLE n = 0 then (s, false)
  else
    let e := s.rd .adSum p
    let acc := s.rd (accReg ph) n
    let step := roundAway (s.rd .ADAPT_GAIN n * e) (16 * k : Nat)
    let out := decide ((acc = 65536 ∧ 0 < step) ∨ (acc = -65536 ∧ step < 0))
    let inward := decide ((0 ≤ acc ∧ step < 0) ∨ (acc ≤ 0 ∧ 0 < step))
    let f := s.rd .adF p
    let f := f + fdiv (fdiv (e * 2 ^ 24) k - f) 1024
    let s := (s.wr (accReg ph) n (clampInt (-65536) 65536 (acc + step))).wr .adF p f
    let s := (s.wr (errReg ph) n (fdiv f (2 ^ 24))).wr .adUpd p (s.rd .adUpd p + 1)
    let s := s.count .ADAPT_UPDATES n
    (if out then s.wr .adSat p 1 else if inward then s.wr .adSat p 0 else s, out)

/-- ADAPT_SETTLED (R109). -/
def State.settled (s : State) (n : Nat) : Bool :=
  [0, 1].all (fun ph =>
    let p := 2 * n + ph
    s.rd .adSeen p = 0 || (decide ((s.rd .adF p).natAbs < 32 * 2 ^ 24) && decide (1024 ≤ s.rdN .adUpd p)))

/-- The offset learning of axis `n` at the mark that ends a pass (R108–R111), and the offsets that take effect at it. -/
def State.adaptMark (s : State) (n : Nat) : State :=
  let (s, o0) := s.adaptPhase n 0
  let (s, o1) := s.adaptPhase n 1
  let s := s.iff (o0 || o1) (fun s => (s.count .ADAPT_SAT_PASSES n).detectHeld (blkAxis n) 0x12)
  let s := s.iff (s.rd .adSat (2 * n) = 0 && s.rd .adSat (2 * n + 1) = 0) (fun s => s.endCause (blkAxis n) 0x12)
  let s := s.iff (s.rd .adReset n = 1) (fun s => s.resetAdapt n)
  (s.wr .ADAPT_OFFSET_A n (roundAway (s.rd .ADAPT_ACC_A n) 1024)).wr .ADAPT_OFFSET_B n (roundAway (s.rd .ADAPT_ACC_B n) 1024)

/-- A harvested current of phase `ph` of axis `n` (R107): `cur` in 1/16 code against the REF latched with the result. Valid ones only. -/
def State.takeError (s : State) (n ph : Nat) (ref cur : Int) : State :=
  let p := 2 * n + ph
  let e := 16 * (ref.natAbs : Int) - ref.sign * cur
  ((s.wr .adSum p (s.rd .adSum p + e)).wr .adMag p (s.rd .adMag p + cur)).wr .adCnt p (s.rd .adCnt p + 1)

-- the mark

/-- SIG_FLAGS and the signature registers of the ending pass, which become ledger words too (R113). -/
def State.signatureMark (s : State) (n : Nat) : State :=
  let put (s : State) (ph : Nat) (on off : Reg) : State :=
    let p := 2 * n + ph
    if s.rd .phRec p = 0 then s else (s.wr on n (s.rd .phRecOn p)).wr off n (s.rd .phRecOff p)
  let s := put (put s 0 .TON_A .TOFF_A) 1 .TON_B .TOFF_B
  let s := s.wr .SIG_FLAGS n (s.rdN .phRec (2 * n) + 16 * s.rdN .phRec (2 * n + 1) : Nat)
  (s.wr .phRec (2 * n) 0).wr .phRec (2 * n + 1) 0

/-- W of a phase at a mark (R106). -/
def State.widenMark (s : State) (n ph : Nat) : State :=
  let p := 2 * n + ph
  let s := if s.rd .phShort p = 0 then s.wr .phW p (max 0 (s.rd .phW p - 1)) else s.wr .phShort p 0
  s.wr (if ph = 0 then .WIDEN_A else .WIDEN_B) n (s.rd .phW p)

/-- The chopper values that take effect at a mark (R103), as they have been written up to it (log entry 169). -/
def State.takeChopper (s : State) (n : Nat) : State :=
  let s := ((s.wr .effBand n (s.rd .BAND n)).wr .effBlank n (s.rd .BLANK n)).wr .effDecay n (s.rd .DECAY_MODE n)
  (s.wr .effMix n (s.rd .MIX_TIME n)).wr .effToff n (s.rd .TOFF_MAX n)

/-- AMPLITUDE and AMP_CODE take `mA`, AMP_SOURCE `src` (R97, R99). -/
def State.setAmp (s : State) (n mA src : Nat) : State :=
  ((s.wr .AMPLITUDE n mA).wr .AMP_CODE n (ampCode mA)).wr .AMP_SOURCE n src

/-- REF_A and REF_B at the latest mark. -/
def State.refMark (s : State) (n : Nat) : State :=
  let a := s.rdN .angleQ n / 65536
  ((s.wr .ANGLE n a).wr .REF_A n (s.refOf n 0 a)).wr .REF_B n (s.refOf n 1 a)

/-- The least and the largest |REF| of a phase in the 2,500 CKP cycles of the pass that ends at this mark, before the angle moves on. -/
def State.passSpan (s : State) (n ph : Nat) : Nat × Nat :=
  let x := angleIn (s.rdN .relFrom n) (s.rd .angleQ n) (s.rd .ANGLE_INC n)
  s.refSpan n ph (x 0) (x 2499)

/-- A phase whose |REF| was at or above ADAPT_MIN_REF in some CKP cycle of the pass that ends is noted (R109), before the angle moves on. -/
def State.seenPass (s : State) (n ph : Nat) : State :=
  s.iff (s.rdN .ADAPT_MIN_REF n ≤ (s.passSpan n ph).2) (fun s => s.wr .adSeen (2 * n + ph) 1)

/-- ADAPT_SETTLED at a mark, with the |REF| of the mark itself (R109). -/
def State.settledMark (s : State) (n : Nat) : State :=
  let m := s.rdN .ADAPT_MIN_REF n
  let s := s.iff (m ≤ (s.rd .REF_A n).natAbs) (fun s => s.wr .adSeen (2 * n) 1)
  let s := s.iff (m ≤ (s.rd .REF_B n).natAbs) (fun s => s.wr .adSeen (2 * n + 1) 1)
  s.wr .ADAPT_SETTLED n (ofBool (s.settled n))

end Sys2Proof.Machine
end

