-- ==== Sys2Proof/Machine/Bridges.lean ====
section
/-! DEFINITION. Bridges, gate drive, protections, off-state diagnostics and direct switch mode (R139–R164). A protection's record is
posted in its cycle of detection and its switches go off in that cycle; the axis states follow at the next mark where a rule says so. -/
namespace Sys2Proof.Machine

-- predicates

/-- Modes in which bridges may be enabled (R144). -/
def State.bridgeMode (s : State) : Bool := s.inMode [5, 6, 7, 8, 9]

/-- Whether the bus is at or above 16.5 V and no short-brake is in force on the die of axis `n` (R145). -/
def State.busOk (s : State) (n : Nat) : Bool :=
  decide (1650 ≤ s.rdN .BUS_VM 0) && s.rd .brakeOn (dieOf n) = 0 && s.rd .uvOn 0 = 0

/-- DISABLE_CAUSE of the first failing condition of the last two rows of R145; 0 where none fails. -/
def State.driveBlock (s : State) (n : Nat) : Nat :=
  if s.rd .AXIS_USE n = 0 then 5
  else if s.rd .DIAG_RESULT n ≠ 1 then 6
  else if !s.enaOk then 3
  else if !s.busOk n then 4
  else if s.dieDown n then 8
  else 0

/-- The drive state set, under a short-brake that is in force where there is one. The deviation is valid only while CHOPPING (R181). -/
def State.setDrive (s : State) (n : Nat) (v : Int) : State :=
  if s.rd .DRIVE_STATE n = 3 then s.wr .prevDrive n v
  else (s.wr .DRIVE_STATE n v).iff (v ≠ 1) (fun s => s.wr .DEV_VALID n 0)

/-- Whether a diagnostic of axis `n` runs or is queued (R159). -/
def State.diagBusy (s : State) (n : Nat) : Bool := s.rd .DIAG_RESULT n = 5

/-- BRIDGE_FAULT bits of axis `n` whose cause persists (R166). -/
def State.bridgeHeld (s : State) (n : Nat) : Nat :=
  s.rdN .brPersist n ||| (if s.rd .DIE_STATE (dieOf n) = 2 then 2 ^ 7 else 0) |||
    (if s.rdN .BUS_VM 0 < 1650 then 2 ^ 8 else 0) ||| (if s.rd .brakeOn (dieOf n) = 1 then 2 ^ 9 else 0)

/-- BRIDGE_FAULT bit `b` set, its cause persisting (R166). -/
def State.bridgeBit (s : State) (n b : Nat) : State := (s.raise .BRIDGE_FAULT n (2 ^ b)).wrBit .brPersist n b true

-- drive states

/-- Both choppers of axis `n` go OPEN (R104). -/
def State.openPhases (s : State) (n : Nat) : State := (s.openPhase n 0).openPhase n 1

/-- The axis goes OPEN (R143): AMPLITUDE and AMP_SOURCE read 0, and POS_UNSURE is set from CHOPPING, HELD or SHORT_BRAKE (R147). Under
a short-brake the axis stays braked until its end. -/
def State.goOpen (s : State) (n : Nat) : State :=
  let d := s.rdN .DRIVE_STATE n
  let s := ((s.openPhases n).setAmp n 0 0).setDrive n 0
  if d = 1 || d = 2 then s.bridgeBit n 12 else s

/-- The axis is disabled for cause `c` (R28, R71). -/
def State.disable (s : State) (n c : Nat) : State :=
  let s := ((s.stopAxis n 7).goOpen n).wr .DISABLE_CAUSE n c
  (s.wr .drivePend n 0).wr .disPend n 0

/-- The axis goes CONTAINED at the present mark, OPEN or HELD (R143): HELD keeps the amplitude in effect. -/
def State.contain (s : State) (n : Nat) (toOpen : Bool) : State :=
  let was := s.rd .AXIS_STATE n
  let s := s.stopAxis n 6
  let s := s.iff (was ≠ 6) (fun s => s.event n 7)
  let s := (((s.wr .contPend n 0).wr .drivePend n 0).wr .disPend n 0).wr .rearmPend n 0
  if toOpen then (if s.driveOf n = 0 || s.driveOf n = 5 then s else s.goOpen n)
  else if s.driveOf n = 1 then ((s.setDrive n 2).wr .ampShadow n (s.rd .AMPLITUDE n)).wr .ampSrcShadow n (s.rd .AMP_SOURCE n)
  else s

/-- A containment by another chapter, HELD at the next mark (R143); one that is consequent contains nothing (R340). -/
def State.holdAxis (s : State) (n : Nat) : State := if s.rd .contPend n = 0 then s.wr .contPend n 2 else s

/-- The chopper leaves OPEN with hold current (R145): the amplitude of row 5 of R99 applies from this mark. -/
def State.preset (s : State) (n : Nat) : State :=
  let s := s.wr .STILL_PASSES n (min (s.rd .HOLD_DELAY n + s.rd .HOLD_RAMP n) (2 ^ 32 - 1))
  let h := s.rdN .HOLD_CURRENT n
  let s := ((s.wr .ampShadow n h).wr .ampSrcShadow n 4).setAmp n h 4
  ((s.setDrive n 1).wr .chopFrom n s.pass).wr .fbAlignPend n 1

/-- The choppers of an axis in CHOPPING or HELD that are OPEN start (R104), unless a higher rank keeps its bridges off or its containment waits
for the mark. -/
def State.startPhases (s : State) (n : Nat) : State :=
  if (s.rd .DRIVE_STATE n = 1 || s.rd .DRIVE_STATE n = 2) && !s.forcedOff n && s.rd .contPend n ≠ 1 then
    (s.enablePhase n 0).enablePhase n 1
  else s

/-- Axis `n` is in short-brake while rank 4 is in command of it (R140, R143, R154). Entering, its chopper goes OPEN; leaving, the chopper restarts
from OPEN where the bridges remain enabled, and an axis that is left OPEN may have moved (R147). The switches follow. -/
def State.brakeSync (s : State) (n : Nat) : State :=
  let braked := s.rd .brakeOn (dieOf n) = 1 && !s.forcedOff n
  if s.rd .DRIVE_STATE n ≠ 3 && braked then
    let s := ((s.wr .prevDrive n (s.rd .DRIVE_STATE n)).wr .DRIVE_STATE n 3).wr .DEV_VALID n 0
    ((s.openPhases n).raise .BRIDGE_FAULT n (2 ^ 9)).switchAt n s.ckp
  else if s.rd .DRIVE_STATE n = 3 && !braked then
    let d := s.rdN .prevDrive n
    let s := (s.wr .DRIVE_STATE n d).wr .prevDrive n 0
    let s := s.iff (d = 1 || d = 2) (fun s => (s.startPhases n).wr .chopFrom n s.pass)
    (s.iff (d = 0) (fun s => s.bridgeBit n 12)).switchAt n s.ckp
  else s.switchAt n s.ckp

/-- An accepted enable at its mark (R145). -/
def State.enableNow (s : State) (n : Nat) : State :=
  let s := s.wr .drivePend n 0
  if s.rd .AXIS_STATE n ≠ 7 || (s.driveOf n ≠ 0 && s.driveOf n ≠ 5) || !s.bridgeMode then s
  else if s.driveBlock n ≠ 0 then s.wr .DISABLE_CAUSE n (s.driveBlock n)
  else ((s.preset n).setAxis n 0).wr .DISABLE_CAUSE n 0

/-- Whether a condition of R156 keeps the axis contained: a bridge cause or another containment cause not cleared (R337), or a
condition of its fifth row. -/
def State.rearmBlock (s : State) (n : Nat) : Bool :=
  (s.rdN .BRIDGE_FAULT n &&& 0x9F) ≠ 0 || (s.rdN .CAUSES_LATCHED (blkAxis n) &&& 0x3FE) ≠ 0 ||
  s.rd .DIAG_RESULT n ≠ 1 || !s.enaOk || !s.busOk n || s.dieDown n

/-- The ledger record of an axis written afresh at REARM (R215): planner at rest with the limits of the objects, adaptive offset and
alignment from the start, TRIP_STATE and the integrator words 0. The position the axis has stays. -/
def State.ledgerRestore (s : State) (n : Nat) : State :=
  if s.rd .ledBad n = 0 then s
  else
    let s := { s with ledger := s.ledger.filter (fun p => p.1 / 64 ≠ n) }
    let s := ((s.halt n).takeLimits n).wr .TRIP_STATE n 0
    ((s.wr .adReset n 1).wr .fbAlignPend n 1).wr .ledBad n 0

/-- The mark of an event of the present cycle: this one, or the next. -/
def State.markOf (s : State) : Nat := if s.atMark then s.pass else s.pass + 1

/-- RETRY_EXHAUSTED set (R157). -/
def State.exhaust (s : State) (n : Nat) : State := s.bridgeBit n 11

/-- A retry of axis `n` has failed (R157): the next one follows, or none is left. -/
def State.retryFail (s : State) (n : Nat) : State :=
  if s.rd .RETRY_COUNT n < s.rd .OC_RETRIES n then s.wr .retryAt n (s.markOf + 1 + s.rd .OC_RETRY_DELAY n)
  else if s.rd .OC_RETRIES n ≠ 0 then s.exhaust n
  else s

/-- An accepted REARM at its mark (R156, R157). -/
def State.rearmNow (s : State) (n : Nat) : State :=
  let host := s.rd .rearmPend n = 1
  let s := s.wr .rearmPend n 0
  if s.rd .AXIS_STATE n ≠ 6 then s
  else if !s.bridgeMode || s.rearmBlock n || s.diagBusy n then (if host then s else s.retryFail n)
  else
    let s := s.wr .faultLatch n 0
    let s := if s.driveOf n = 2 then (s.setDrive n 1).wr .chopFrom n s.pass else s.preset n
    let s := s.iff host (fun s => s.wr .RETRY_COUNT n 0)
    (s.ledgerRestore n).setAxis n 1

/-- The module leaves the modes in which bridges may be enabled (R144); DIRECT ends with CALIBRATE (R164). -/
def State.bridgesOff (s : State) : State :=
  s.forAll 64 (fun s n =>
    let d := s.driveOf n
    let s := (s.wr .drivePend n 0).wr .rearmPend n 0
    let s := if d = 1 then s.disable n 7 else if d = 2 then s.goOpen n else s
    if d = 4 then (((s.setDrive n 0).wr .pulseEnd n 0).wr .firePend n 0).switchAt n s.ckp else s)

-- rank 3

/-- Data bytes of the axis causes of this chapter (R345). -/
def State.bridgeData (s : State) (n : Nat) : Nat := dataOf [(1, s.rdN .FAULT_SWITCHES n), (2, s.rdN .BUS_VM 0)]

/-- The fault latch of rank 3 with BRIDGE_FAULT bit `b` and cause `b + 1` (R140, R155): every switch of the axis goes off in this
cycle, one in short-brake too, and the axis goes CONTAINED at the next mark. Power-die hardware acts inside a shadow too (R340). -/
def State.latch (s : State) (n b : Nat) : State :=
  let s := (((s.wr .faultLatch n 1).wr .latchAt n (s.ckp + 1 : Nat)).openPhases n).bridgeBit n b
  (((s.wr .contPend n 1).wr .pulseEnd n 0).brakeSync n).detect (blkAxis n) (b + 1) (s.bridgeData n)

/-- Whether the axis was latched in the present CKP cycle: every protection that acts in one cycle sets its bit and posts its record (R155). -/
def State.latchedNow (s : State) (n : Nat) : Bool := s.rdN .latchAt n = s.ckp + 1

/-- The interlock on the chosen pairs of axis `n` (R141), which then reach the switches. -/
def State.interlock (s : State) (n : Nat) : State :=
  if s.shootReq n then (s.count .SHOOT_COUNT n).latch n 0 else s.switchAt n s.ckp

/-- The ranks above the chopper as they stand now (R140): short-brake, then the interlock. -/
def State.ranks (s : State) (n : Nat) : State := (s.brakeSync n).interlock n

/-- The ranks of every axis. -/
def State.ranksAll (s : State) : State := s.forAll 64 State.ranks

/-- The switches of a pattern that have been on for `k` CKP cycles: bit 2hb the high one of half-bridge hb, bit 2hb + 1 the low one. -/
def State.onSince (s : State) (n w k : Nat) : Nat :=
  ((List.range 8).map (fun b =>
    if w.testBit b && s.switchOn n (b / 2) (b % 2 = 0) s.ckp && decide (s.onFrom n (b / 2) + k ≤ s.ckp) then 2 ^ b else 0)).sum

/-- OVERCURRENT (R149, R150): the switches whose comparators are asserted from the present cycle until all eight are off, five cycles at most
after it. A comparator counts 25 cycles after the turn-on of its switch. -/
def execOvercurrent (t : Nat) (n : Fin 64) (switches : Byte) (s : State) : Host.Outcome State Fault Refusal :=
  let s := (s.at t).settleAxis n
  let now := s.latchedNow n
  let w := if now then switches.toNat else s.onSince n switches.toNat 20
  .next (
    if w = 0 || (!now && (s.onSince n switches.toNat 25 = 0 || s.rd .faultLatch n = 1)) then s
    else
      let b := if w &&& 0xAA = 0 then 2 else if w &&& 0x55 = 0 then 3 else 1
      let s := ((s.wr .FAULT_SWITCHES n w).count .OC_COUNT n).wr .chopFrom n s.pass
      let s := if s.rd .OC_RETRIES n ≠ 0 && s.rd .RETRY_COUNT n = s.rd .OC_RETRIES n then s.exhaust n else s
      let s := s.latch n b
      s.wr .retryAt n (s.pass + 2 + s.rd .OC_RETRY_DELAY n))

/-- BOOT_MIN keeps the lowest VBS seen. -/
def State.seeVbs (s : State) (n vbs : Nat) : State := s.wr .BOOT_MIN n (min (s.rd .BOOT_MIN n) vbs)

/-- BOOTSTRAP_REFRESH (R148): VBS is below 8.5 V with the high side on or commanded on; a request that comes too soon waits. -/
def execBootstrapRefresh (t : Nat) (n : Fin 64) (hs : Fin 4) (vbs : Nat) (s : State) : Host.Outcome State Fault Refusal :=
  let s := ((s.at t).settleAxis n).seeVbs n vbs
  .next (
    if s.highCmd n hs && decide (vbs < 8500) then
      if s.refreshFrom n hs ≤ s.now then s.startRefresh n hs s.now else s.wr .refreshWait (4 * n + hs) 1
    else s)

/-- BOOTSTRAP_REFRESH_END (R148): the 50th CKP cycle of a refresh. -/
def execBootstrapRefreshEnd (t : Nat) (n : Fin 64) (hs : Fin 4) (vbs : Nat) (s : State) : Host.Outcome State Fault Refusal :=
  let s := ((s.at t).settleAxis n).seeVbs n vbs
  let k := 4 * n.val + hs.val
  .next (
    if s.rd .refreshOn k = 1 && decide (s.rdN .refreshAt k + 99 ≤ s.now + 1) then
      let s := (s.wr .refreshOn k 0).switchAt n s.ckp
      if vbs < 9500 then s.latch n 4 else s
    else s)

/-- BOOTSTRAP_LOW (R148): VBS below 7.5 V with the high side on. -/
def execBootstrapLow (t : Nat) (n : Fin 64) (hs : Fin 4) (vbs : Nat) (s : State) : Host.Outcome State Fault Refusal :=
  let s := ((s.at t).settleAxis n).seeVbs n vbs
  .next (if (s.switchOn n hs true s.ckp || s.latchedNow n) && decide (vbs < 7500) then s.latch n 4 else s)

/-- PUMP_FAIL (R148). No rule says how the pump comes back: the cause is held until reset (log entry 21). -/
def execPumpFail (t : Nat) (k : Fin 8) (s : State) : Host.Outcome State Fault Refusal :=
  .next (((s.at t).wr .PUMP_OK k 0).detectHeld (blkDie k) 0x11)

-- open phase

/-- The open-phase condition of the pass that ends at this mark (R151), before the angle moves on; a pass without a valid current
does not meet it. -/
def State.openPass (s : State) (n ph : Nat) : Bool :=
  let p := 2 * n + ph
  s.rd .DRIVE_STATE n = 1 && s.rd .phPeak p = 0 && s.rd .adCnt p ≠ 0 &&
  decide ((s.rd .adMag p).natAbs < 16 * s.rdN .OPEN_LEVEL n * s.rdN .adCnt p) &&
  decide (s.rdN .ADAPT_MIN_REF n ≤ (s.passSpan n ph).1)

/-- The open-phase count of a phase at a mark (R151); a contained converter suspends the check. -/
def State.openMark (s : State) (n ph : Nat) : State :=
  let p := 2 * n + ph
  let s1 := s.wr .phPeak p 0
  if s.rd .CV_STATE (2 * dieOf n + (if n % 8 < 4 then 0 else 1)) = 3 then s1
  else if s.openPass n ph then s1.wr .openRun p (min (s1.rd .openRun p + 1) 65535)
  else
    let s1 := (s1.wr .openRun p 0).wrBit .brPersist n (5 + ph) false
    if s1.rdN .brPersist n &&& 0x60 = 0 then s1.endCause (blkAxis n) 0x10 else s1

/-- OPEN_PHASE (R151): the mark at which OPEN_DETECT_PASSES consecutive passes have met the condition. -/
def execOpenPhase (n : Fin 64) (ph : Fin 2) (s : State) : Host.Outcome State Fault Refusal :=
  let p := 2 * n.val + ph.val
  .next (
    if s.atMark && s.rd .OPEN_DETECT_PASSES n ≠ 0 && decide (s.rd .OPEN_DETECT_PASSES n ≤ s.rd .openRun p) then
      (s.bridgeBit n (5 + ph)).detectHeld (blkAxis n) 0x10
    else s)

-- diagnostics

/-- The diagnostics that wait on die `k`, in ascending axis order. -/
def State.diagQueue (s : State) (k : Nat) : List Nat := tget [] s.diag k

/-- The waiting list of die `k` replaced. -/
def State.setDiag (s : State) (k : Nat) (l : List Nat) : State := { s with diag := tset [] s.diag k l }

/-- A number put into an ascending list. -/
def insertAsc (n : Nat) : List Nat → List Nat
  | [] => [n]
  | m :: l => if n < m then n :: m :: l else m :: insertAsc n l

/-- A diagnostic of axis `n` requested (R159): no effect where one is running or queued, where the axis does not qualify, or on a die
that is held off. -/
def State.queueDiag (s : State) (n : Nat) : State :=
  if s.diagBusy n || s.rd .AXIS_USE n = 0 || s.rd .DRIVE_STATE n ≠ 0 || s.rd .dieOff (dieOf n) = 1 then s
  else (s.wr .DIAG_RESULT n 5).setDiag (dieOf n) (insertAsc n (s.diagQueue (dieOf n)))

/-- A retry diagnostic of axis `n` has ended with `result` (R157). -/
def State.retryEnd (s : State) (n result : Nat) : State :=
  if s.rd .retryDiag n = 0 then s
  else
    let s := s.wr .retryDiag n 0
    let s := if result = 1 then
        (s.lower .BRIDGE_FAULT n 0xE).lower .CAUSES_LATCHED (blkAxis n) 0x1C
      else s
    if s.rd .AXIS_STATE n ≠ 6 then s
    else if result = 1 && s.bridgeMode && !s.rearmBlock n then (s.detect (blkAxis n) 0x20).wr .rearmPend n 2
    else s.retryFail n

/-- The diagnostic of axis `n` aborted or cancelled (R163). -/
def State.abortDiag (s : State) (n : Nat) : State :=
  let s := s.wr .DIAG_RESULT n 3
  let s := if s.rd .DRIVE_STATE n = 5 then s.wr .DRIVE_STATE n 0 else s
  s.retryEnd n 3

/-- Every diagnostic of die `k`, running or queued, aborted (R163). -/
def State.abortDie (s : State) (k : Nat) : State :=
  let run := s.rdN .DIAG_AXIS k
  let l := (if run < 8 then [8 * k + run] else []) ++ s.diagQueue k
  ((s.wr .DIAG_AXIS k 255).setDiag k []).forList l State.abortDiag

/-- A diagnostic that waits on an axis which a COMMIT has put out of use is dropped: the axis is never diagnosed (R167; log entry 157). -/
def State.dropDiag (s : State) (n : Nat) : State :=
  if (s.diagQueue (dieOf n)).contains n then
    (s.setDiag (dieOf n) ((s.diagQueue (dieOf n)).filter (· ≠ n))).wr .DIAG_RESULT n 0
  else s

/-- DIAG_TEST_START (R159, R160): a free die takes the lowest of its queued axes that is in OPEN. On a die shut down or braked it is aborted
(R163). -/
def execDiagTestStart (t : Nat) (k : Fin 8) (s : State) : Host.Outcome State Fault Refusal :=
  let s := s.at t
  .next (
    match (s.diagQueue k).find? (fun n => s.driveOf n = 0) with
    | none => s
    | some n =>
      if s.rd .DIAG_AXIS k ≠ 255 then s
      else
        let s := s.setDiag k ((s.diagQueue k).filter (· ≠ n))
        if s.dieDown n || s.rd .brakeOn k = 1 then s.abortDiag n
        else (((s.wr .DIAG_AXIS k (n % 8)).wr .DRIVE_STATE n 5).wr .diagFrom k s.now).switchAt n s.ckp)

/-- Whether terminal `t` (0 A1, 1 A2, 2 B1, 3 B2) is sourced in step `st` of a diagnostic (R160); else it is a sink. -/
def diagSource (st t : Nat) : Bool :=
  match st with
  | 1 => true
  | 2 => t % 2 = 0
  | 3 => t < 2
  | 4 => 2 ≤ t
  | _ => false

/-- What the die under test does with terminal `t` of axis `n` in the present cycle (R160): source, sink, or neither. -/
def State.terminal (s : State) (n t : Nat) : Option Bool :=
  if s.rd .DRIVE_STATE n = 5 then some (diagSource ((s.now - s.rdN .diagFrom (dieOf n)) / 40000) t) else none

/-- The level code of a terminal voltage in 10 mV (R160): LOW, MID, HIGH, ABOVE. -/
def levelOf (v : Nat) : Nat := if v < 50 then 0 else if v < 350 then 1 else if v ≤ 600 then 2 else 3

/-- DIAG_LEVELS of the sixteen voltages, those of S1 first and A1 first in each step (R160); a voltage that is not given counts as 0. -/
def diagLevels (volts : List Nat) : Nat := ((List.range 16).map (fun i => levelOf (volts.getD i 0) * 4 ^ i)).sum

/-- The level of terminal `t` in step `st` (1–4) (R160). -/
def diagLevel (levels st t : Nat) : Nat := bitsOf levels (8 * (st - 1) + 2 * t + 1) (8 * (st - 1) + 2 * t)

/-- DIAG_FLAGS of the readings (R161). -/
def diagFlags (levels : Nat) (noBus : Bool) : Nat :=
  let l := diagLevel levels
  let above (ph : Nat) : Bool := [1, 2, 3, 4].any (fun st => l st (2 * ph) = 3 || l st (2 * ph + 1) = 3)
  let one (ph : Nat) : Nat :=
    let x1 := 2 * ph
    let x2 := 2 * ph + 1
    if above ph then 2 ^ (2 + ph)
    else if l 1 x1 = 0 || l 1 x2 = 0 then 2 ^ ph
    else if l 1 x1 = 1 || l 1 x2 = 1 then 2 ^ 7
    else if l 2 x1 = 2 && l 2 x2 = 0 then 2 ^ (4 + ph)
    else if l 2 x1 ≠ 0 || l 2 x2 ≠ 0 then 2 ^ 7
    else 0
  let f := one 0 ||| one 1
  let pairs := [(3, 0), (3, 1), (3, 2), (3, 3), (4, 0), (4, 1), (4, 2), (4, 3)]
  let both :=
    if f % 64 ≠ 0 then 0
    else if pairs.any (fun p => l p.1 p.2 = (if diagSource p.1 p.2 then 0 else 2)) then 2 ^ 6
    else if pairs.any (fun p => l p.1 p.2 = 1) then 2 ^ 7
    else 0
  f ||| both ||| (if noBus then 2 ^ 8 else 0)

/-- DIAG_RESULT of the flags (R161). -/
def diagResult (flags : Nat) : Nat := if flags % 256 ≠ 0 then 2 else if flags ≠ 0 then 4 else 1

/-- DIAG_END (R161): 2.0 ms after the start the die evaluates the readings of S1–S4. -/
def execDiagEnd (t : Nat) (k : Fin 8) (volts : List Nat) (busLow : Bool) (s : State) : Host.Outcome State Fault Refusal :=
  let s := s.at t
  let n := 8 * k.val + s.rdN .DIAG_AXIS k
  .next (
    if 8 ≤ s.rdN .DIAG_AXIS k || decide (s.now < s.rdN .diagFrom k + 200000) then s
    else
      let levels := diagLevels volts
      let f := diagFlags levels busLow
      let r := diagResult f
      let s := (s.wr .DIAG_AXIS k 255).wr .DRIVE_STATE n 0
      let s := ((s.wr .DIAG_FLAGS n f).wr .DIAG_LEVELS n levels).wr .DIAG_RESULT n r
      let s := s.wr .DIAG_TIME n s.now
      let s := if r = 1 then
          let s := s.wr .brPersist n (s.rdN .brPersist n &&& 0x1060 : Nat)
          [1, 2, 3, 4, 5, 0x11].foldl (fun s c => s.endCause (blkAxis n) c) s
        else if r = 2 then (s.bridgeBit n 10).detect (blkAxis n) 0x11
        else s
      s.retryEnd n r)

/-- OC_RETRY (R157): OC_RETRY_DELAY passes after the mark of the containment, or of the end of the last retry's diagnostic. -/
def execOcRetry (n : Fin 64) (s : State) : Host.Outcome State Fault Refusal :=
  .next (
    if s.atMark && s.rd .retryAt n ≠ 0 && decide (s.rdN .retryAt n ≤ s.pass + 1) then
      let s := s.wr .retryAt n 0
      if s.rd .AXIS_STATE n = 6 && s.rd .RETRY_COUNT n < s.rd .OC_RETRIES n then
        let s := (s.wr .RETRY_COUNT n (s.rd .RETRY_COUNT n + 1)).queueDiag n
        s.wr .retryDiag n (ofBool (s.diagBusy n))
      else s
    else s)

/-- RETRY_COUNT_RESET (R157): 1,200,000 consecutive passes in CHOPPING without an overcurrent. -/
def execRetryCountReset (n : Fin 64) (s : State) : Host.Outcome State Fault Refusal :=
  .next (
    if s.atMark && s.rd .DRIVE_STATE n = 1 && decide (s.rdN .chopFrom n + 1200000 ≤ s.pass) then s.wr .RETRY_COUNT n 0 else s)

-- direct switch mode

/-- Direct switch mode of axis `n` at a mark (R164): entry, once no test runs on the axis, exit, and the first cycle of a pulse. -/
def State.directMark (s : State) (n : Nat) : State :=
  let s := match s.rdN .directPend n with
    | 1 =>
      if s.rd .AXIS_STATE n = 7 && s.driveOf n = 5 && s.mode = 3 then s
      else
        let s := s.wr .directPend n 0
        if s.rd .AXIS_STATE n = 7 && s.driveOf n = 0 && s.mode = 3 then s.setDrive n 4 else s
    | 2 => (if s.driveOf n = 4 then ((s.setDrive n 0).wr .pulseEnd n 0).wr .firePend n 0 else s).wr .directPend n 0
    | _ => s
  if s.rd .firePend n = 1 then
    let s := s.wr .firePend n 0
    if s.driveOf n = 4 then s.wr .pulseEnd n (s.now + 2 * s.rd .DIRECT_PULSE n) else s
  else s

/-- A pulse that has run its time ends (R164): every switch of the axis is commanded off in its cycle. -/
def State.pulseDone (s : State) (n : Nat) : State :=
  let e := s.rdN .pulseEnd n
  if e ≠ 0 && decide (e ≤ s.now) then (s.wr .pulseEnd n 0).switchAt n (s.ckpOf e) else s

/-- DIRECT_PULSE_END (R164). -/
def execDirectPulseEnd (t : Nat) (n : Fin 64) (s : State) : Host.Outcome State Fault Refusal := .next ((s.at t).pulseDone n)

-- dies

/-- DIE_TEMP as data bytes (R345). -/
def State.tempData (s : State) (k : Nat) : Nat := unsigned 16 (s.rd .DIE_TEMP k)

/-- DIE_HOT (R149). -/
def execDieHot (t : Nat) (k : Fin 8) (s : State) : Host.Outcome State Fault Refusal :=
  let s := s.at t
  .next ((s.iff (s.rd .DIE_STATE k = 0) (fun s => s.wr .DIE_STATE k 1)).detectHeld (blkDie k) 0x10 (s.tempData k))

/-- DIE_HOT_END (R149): the die is below 130 °C. -/
def execDieHotEnd (t : Nat) (k : Fin 8) (s : State) : Host.Outcome State Fault Refusal :=
  let s := s.at t
  .next ((s.iff (s.rd .DIE_STATE k = 1) (fun s => s.wr .DIE_STATE k 0)).endCause (blkDie k) 0x10)

/-- Axes of die `k`. -/
def axesOf (k : Nat) : List Nat := (List.range 8).map (8 * k + ·)

/-- What a die's own faults cover (R341): its axes and its two converters. -/
def dieCovers (k : Nat) : List (Nat × List Nat) :=
  (axesOf k).map (fun n => (blkAxis n, [])) ++ [(blkCv (2 * k), []), (blkCv (2 * k + 1), [])]

/-- The die is held off: its axes go OPEN and CONTAINED (R318, R348). -/
def State.holdDie (s : State) (k : Nat) : State :=
  ((s.wr .dieOff k 1).abortDie k).forList (axesOf k) (fun s n => ((s.openPhases n).wr .contPend n 1).ranks n)

/-- DIE_SHUTDOWN (R152): rank 2 on the die. Its axes post their records at the mark, in the shadow of the die's (R354). -/
def execDieShutdown (t : Nat) (k : Fin 8) (s : State) : Host.Outcome State Fault Refusal :=
  let s := s.at t
  .next (
    if s.rd .DIE_STATE k = 2 then s
    else
      let s := s.wr .DIE_STATE k 2
      let s := (s.detectShadow (blkDie k) 1 (s.tempData k) (dieCovers k) .waiting).abortDie k
      s.forList (axesOf k) (fun s n =>
        ((((s.openPhases n).raise .BRIDGE_FAULT n (2 ^ 7)).wr .contPend n 1).wr .diePend n 1).ranks n))

/-- DIE_COOLED (R152): the die is below 125 °C, and its axes wait for REARM. -/
def execDieCooled (t : Nat) (k : Fin 8) (s : State) : Host.Outcome State Fault Refusal :=
  let s := s.at t
  .next (
    if s.rd .DIE_STATE k ≠ 2 then s
    else
      let s := s.wr .DIE_STATE k (if s.bit .CAUSES_PRESENT (blkDie k) 0x10 then 1 else 0)
      let s := (s.endCause (blkDie k) 1).endShadow (blkDie k) 1 (.mark (s.pass + 20))
      s.forList (axesOf k) (fun s n => (s.endCause (blkAxis n) 9).ranks n))

-- the bus

/-- What BUS_UNDERVOLTAGE covers (R341). -/
def busCovers : List (Nat × List Nat) :=
  (List.range 8).map (fun k => (blkDie k, [])) ++ (List.range 64).map (fun n => (blkAxis n, []))
def uvCovers : List (Nat × List Nat) := busCovers ++ (List.range 16).map (fun c => (blkCv c, []))

/-- BUS_VM takes what a comparator's event tells of the bus, in 10 mV; a die in short-brake has then seen it at or above 64.0 V (R154). -/
def State.seeBus (s : State) (v : Nat) : State :=
  (s.wr .BUS_VM 0 v).iff (6400 ≤ v) (fun s => s.forAll 8 (fun s k => s.iff (s.rd .brakeOn k = 1) (fun s => s.wr .brakeFrom k s.now)))

/-- Bus undervoltage where bridges may be enabled (R153): every die holds rank 2. -/
def State.busUv (s : State) : State :=
  let s := (s.wr .uvOn 0 1).detectShadow 0x61 1 0 uvCovers .waiting
  s.forAll 64 (fun s n =>
    let d := s.driveOf n
    let s := if d = 1 then (s.raise .BRIDGE_FAULT n (2 ^ 8)).disable n 4 else if d = 2 then s.goOpen n else s
    s.ranks n)

/-- The bus conditions present at the mark at which the module enters a mode in which bridges may be enabled are recorded, whether or not they
have been before (R153). -/
def State.busAtEntry (s : State) : State :=
  let s := s.iff (s.rd .busLowOn 0 = 1) (fun s => s.detect 0x61 0x10)
  let s := s.iff (s.rd .busUvOn 0 = 1) State.busUv
  s.iff (s.rd .busHighOn 0 = 1) (fun s => s.detect 0x61 0x11)

/-- BUS_LOW (R149, R153): the comparator asserts, at 16.0 V or up to 2 % from it. -/
def execBusLow (t v : Nat) (s : State) : Host.Outcome State Fault Refusal :=
  let s := (s.at t).seeBus v
  .next (if 1632 < v then s else (s.wr .busLowOn 0 1).iff s.bridgeMode (fun s => s.detectHeld 0x61 0x10))

/-- BUS_UNDERVOLTAGE (R153): 15.0 V or up to 2 % from it. -/
def execBusUndervoltage (t v : Nat) (s : State) : Host.Outcome State Fault Refusal :=
  let s := (s.at t).seeBus v
  .next (if 1530 < v then s else (s.wr .busUvOn 0 1).iff (s.bridgeMode && s.rd .uvOn 0 = 0) State.busUv)

/-- BUS_RECOVERED (R149): the bus is above 16.5 V. -/
def execBusRecovered (t v : Nat) (s : State) : Host.Outcome State Fault Refusal :=
  let s := (s.at t).seeBus v
  .next (
    if v ≤ 1650 then s
    else
      let s := ((s.wr .busLowOn 0 0).wr .busUvOn 0 0).endCause 0x61 0x10
      if s.rd .uvOn 0 = 1 then (((s.wr .uvOn 0 0).endCause 0x61 1).endShadow 0x61 1 (.mark (s.pass + 20))).ranksAll else s)

/-- BUS_HIGH (R149, R153): 64.0 V or up to 2 % from it. -/
def execBusHigh (t v : Nat) (s : State) : Host.Outcome State Fault Refusal :=
  let s := (s.at t).seeBus v
  .next (if v < 6272 then s else (s.wr .busHighOn 0 1).iff s.bridgeMode (fun s => s.detectHeld 0x61 0x11))

/-- BUS_HIGH_END (R149): the bus is below 63.0 V. -/
def execBusHighEnd (t v : Nat) (s : State) : Host.Outcome State Fault Refusal :=
  let s := (s.at t).seeBus v
  .next (if 6300 ≤ v then s else (s.wr .busHighOn 0 0).endCause 0x61 0x11)

/-- The dies of a mask whose short-brake is in force (`on` 1) or not. -/
def State.brakeDies (s : State) (dies : Byte) (on : Int) : List Nat :=
  (List.range 8).filter (fun k => dies.toNat.testBit k && s.rd .brakeOn k = on)

/-- BUS_OVERVOLTAGE (R154): the comparators of the dies in `dies` assert, at 68.0 V or up to 2 % from it, and those dies enter short-brake. The
first one records the cause. -/
def execBusOvervoltage (t : Nat) (dies : Byte) (v : Nat) (s : State) : Host.Outcome State Fault Refusal :=
  let s := (s.at t).seeBus v
  let l := s.brakeDies dies 0
  .next (
    if v < 6664 || l.isEmpty then s
    else
      let first := s.brakeDies 255 1 = []
      let s := s.iff first (fun s => s.detectShadow 0x61 2 0 busCovers .waiting)
      s.forList l (fun s k =>
        let s := (((s.wr .brakeOn k 1).wr .brakeFrom k s.now).count .BRAKE_COUNT k).abortDie k
        s.forList (axesOf k) State.ranks))

/-- SHORT_BRAKE_END (R154): the dies in `dies` have seen the bus below 64.0 V for 1 ms. -/
def execShortBrakeEnd (t : Nat) (dies : Byte) (v : Nat) (s : State) : Host.Outcome State Fault Refusal :=
  let s := (s.at t).seeBus v
  let l := (s.brakeDies dies 1).filter (fun k => decide (s.rdN .brakeFrom k + 100000 ≤ s.now))
  .next (
    if l.isEmpty then s
    else
      let s := s.forList l (fun s k => s.wr .brakeOn k 0)
      let s := s.iff (s.brakeDies 255 1 = []) (fun s => (s.endCause 0x61 2).endShadow 0x61 2 (.mark (s.pass + 20)))
      s.forList l (fun s k => s.forList (axesOf k) State.ranks))

-- ENA1 and ENA2

/-- ENA_REMOVED (R158): the gate supply goes in hardware; the axes follow at the next mark. -/
def execEnaRemoved (t : Nat) (input : Fin 2) (s : State) : Host.Outcome State Fault Refusal :=
  let s := s.at t
  .next (
    if !s.bit .ENA_STATE 0 input then s
    else
      let s := ((s.wrBit .ENA_STATE 0 input false).wrBit .ENA_STATE 0 2 false).wr .enaPend 0 1
      let differ := s.rdN .ENA_STATE 0 % 4 ≠ 0
      let s := s.wr .enaDiffFrom 0 (if differ then s.now + 1 else 0)
      let s := s.iff (!differ) (fun s => s.endCause 0x61 0x13)
      (s.iff (!s.inMode [0, 1]) (fun s => (s.count .ENA_REMOVALS 0).detect 0x61 0x12)).ranksAll)

/-- ENA_RESTORED (R158): an input goes high again. Once both are, the gate supply is back with this event (log entry 100). -/
def execEnaRestored (t : Nat) (input : Fin 2) (s : State) : Host.Outcome State Fault Refusal :=
  let s := s.at t
  .next (
    if s.bit .ENA_STATE 0 input then s
    else
      let s := s.wrBit .ENA_STATE 0 input true
      if s.enaOk then (((s.wrBit .ENA_STATE 0 2 true).wr .enaDiffFrom 0 0).endCause 0x61 0x13).ranksAll
      else s.wr .enaDiffFrom 0 (s.now + 1))

/-- ENA_DISCREPANCY (R158): the inputs have differed for 100 ms. -/
def execEnaDiscrepancy (t : Nat) (s : State) : Host.Outcome State Fault Refusal :=
  let s := s.at t
  .next (
    if s.rd .enaDiffFrom 0 ≠ 0 && decide (s.rdN .enaDiffFrom 0 + 10000000 ≤ s.now + 1) then s.detectHeld 0x61 0x13 else s)

-- the mark

/-- Pending changes of the drive of axis `n` at a mark: containment first, then ENA, a disable, REARM, an enable, direct mode. -/
def State.driveMark (s : State) (n : Nat) : State :=
  let s := if s.rd .diePend n = 1 then (s.wr .diePend n 0).detect (blkAxis n) 9 (s.tempData (dieOf n)) else s
  let s := match s.rdN .contPend n with
    | 1 => s.contain n true
    | 2 => s.contain n false
    | _ => s
  let s := if s.rd .enaPend 0 = 1 then
      (if s.driveOf n = 1 then s.disable n 3 else if s.driveOf n = 2 then s.goOpen n else s)
    else s
  let s := match s.rdN .disPend n with
    | 1 => if s.rd .AXIS_STATE n = 6 || s.rd .AXIS_STATE n = 7 then s.wr .disPend n 0 else s.disable n 2
    | 2 => if [2, 3, 4].contains (s.rdN .AXIS_STATE n) then s
      else if s.rd .AXIS_STATE n = 6 || s.rd .AXIS_STATE n = 7 then s.wr .disPend n 0 else s.disable n 2
    | 3 => (if s.driveOf n = 2 then s.goOpen n else s).wr .disPend n 0
    | _ => s
  let s := if s.rd .rearmPend n = 0 then s else s.rearmNow n
  let s := if s.rd .drivePend n = 0 then s else s.enableNow n
  (s.pulseDone n).directMark n

/-- An enable asked for (R145): the axis is enabled at the next mark. -/
def State.askDrive (s : State) (n : Nat) : State := if s.rd .AXIS_STATE n = 7 then s.wr .drivePend n 1 else s

/-- DRIVE_CTRL 0x00 (R146): at the next mark, or once a STOP 0x01 has completed. -/
def State.askDisable (s : State) (n : Nat) : State :=
  match s.rdN .AXIS_STATE n with
  | 0 | 1 | 5 => s.wr .disPend n 1
  | 2 | 3 | 4 => ((s.wr .disPend n 2).wr .stopPend n 1).wr .stopAt n s.now
  | 6 => if s.driveOf n = 2 then s.wr .disPend n 3 else s
  | _ => s

end Sys2Proof.Machine
end

