-- ==== Sys2Proof/Machine/Checks.lean ====
section
/-! DEFINITION. The log writer, incidents, shadows (R338–R343), dual-rail paths and link parity (R347–R349), fault injection (R350, R351)
and TRIPI (R353). -/
namespace Sys2Proof.Machine

-- the log

/-- Whether an entry belongs to the protected head (R343): its ordinals run from the first fault to the highest one posted of it. -/
def State.protected (s : State) (r : Rec) : Bool :=
  s.rd .HEAD_FIRST 0 ≠ 0 && decide (s.rdN .HEAD_FIRST 0 ≤ r.ordinal) && decide (r.ordinal ≤ s.rdN .HEAD_LAST 0)

/-- A record stored in the log (R343): in a free place, or in that of the oldest unprotected entry. -/
def State.store (s : State) (r : Rec) : State :=
  let s := if 4096 ≤ s.log.length then
      { s with log := s.log.eraseIdx ((s.log.findIdx? (fun x => !s.protected x)).getD 0) }.count .LOG_WRAPPED 0
    else s
  { s with log := s.log ++ [r] }

/-- LOG_WRITE (R338): the steward's log writer pops one record of Q72; not while a takeover runs. -/
def execLogWrite (t : Nat) (s : State) : Host.Outcome State Fault Refusal :=
  let s := s.at t
  .next (
    if s.rd .takeover 0 = 1 || s.rd .bootStuck 0 = 1 || s.mode = 0 then s
    else
      match s.pop 72 with
      | (s, some (.record r)) => s.store r
      | _ => s)

/-- The head is released once it is complete and acknowledged (R343). -/
def State.releaseHead (s : State) : State :=
  if s.rd .HEAD_FIRST 0 ≠ 0 && s.rd .headDone 0 = 1 && s.rd .HEAD_LAST 0 ≤ s.rd .ACK_ORDINAL 0 then
    ((s.wr .HEAD_FIRST 0 0).wr .HEAD_LAST 0 0).wr .headDone 0 0
  else s

/-- INCIDENT_CLOSE (R342): INCIDENT_QUIET passes after the pass of the last severe record. -/
def execIncidentClose (s : State) : Host.Outcome State Fault Refusal :=
  .next (
    if s.atMark && s.rd .INCIDENT_OPEN 0 = 1 && decide (s.rdN .incidentPass 0 + s.rdN .INCIDENT_QUIET 0 ≤ s.pass) then
      let s := s.wr .INCIDENT_OPEN 0 0
      (s.iff (s.rd .HEAD_FIRST 0 ≠ 0) (fun s => s.wr .headDone 0 1)).releaseHead
    else s)

/-- Whether a shadow covers cause `c` of block `b`. -/
def Shadow.has (x : Shadow) (b c : Nat) : Bool := x.covers.any (fun p => p.1 = b && (p.2.isEmpty || p.2.contains c))

/-- Whether the end of a shadow has come (R341). -/
def State.shadowDue (s : State) (x : Shadow) : Bool :=
  match x.ends with
  | .mark p => s.atMark && decide (p ≤ s.pass)
  | .time t => decide (t ≤ s.now)
  | _ => false

/-- SHADOW_END (R341): the shadow of the first fault with ordinal `first`. Its consequent records close (R339). -/
def execShadowEnd (t : Nat) (first : Nat) (s : State) : Host.Outcome State Fault Refusal :=
  let s := s.at t
  .next (
    match s.shadows.find? (fun x => x.first = first) with
    | some x =>
      if s.shadowDue x then
        let rest := s.shadows.filter (fun y => y.first ≠ first)
        let s1 := { s with shadows := rest }
        s.opens.foldl (fun (s : State) p =>
          match p.2 with
          | some o =>
            let mine := o.ends = .shadow && x.has p.1 o.cause && decide (first < o.ordinal) &&
              !rest.any (fun y => y.first < first && y.has p.1 o.cause)
            if mine then s.closeRec p.1 else s
          | none => s) s1
      else s
    | none => s)

-- dual-rail paths and link parity

/-- Number of a path of die `k`: ERR, then TRIP. -/
def railOf (k : Nat) (trip : Bool) : Nat := 2 * k + (if trip then 1 else 0)

/-- A path fault of die `k` (R348): recorded, and the rail test starts, unless the detection is consequent. -/
def State.pathFault (s : State) (k : Nat) (trip : Bool) : State :=
  let cons := s.covered (blkDie k) 8
  let s := s.detectShadow (blkDie k) 8 (dataOf [(1, if trip then 1 else 0), (1, 0)]) ((axesOf k).map (fun n => (blkAxis n, []))) .waiting
  if cons then s else ((s.tally 237).setRed 15 true).wr .railOn (railOf k trip) (s.now + 1 : Nat)

/-- Whether a rail of a path is marked stuck: it then decodes from the other rail alone. -/
def State.stuck (s : State) (k : Nat) (trip : Bool) : Bool :=
  bitsOf (s.rdN .railStuck k) (if trip then 3 else 1) (if trip then 2 else 0) ≠ 0

/-- DUAL_RAIL (R348): two equal levels on a path, which an armed injection causes too (R351). -/
def execDualRail (t : Nat) (k : Fin 8) (tripPath : Bool) (s : State) : Host.Outcome State Fault Refusal :=
  let s := s.at t
  let free (trip : Bool) : Bool := s.rd .railOn (railOf k trip) = 0 && !s.stuck k trip
  .next (
    match s.armed 7 k with
    | some b => if free (2 ≤ b) then (s.fire.pathFault k (2 ≤ b)).unfire else s
    | none => if free tripPath then s.pathFault k tripPath else s)

/-- RAIL_TEST_END (R348): P alone and N alone have each been driven for 2 µs. -/
def execRailTestEnd (t : Nat) (k : Fin 8) (tripPath followsP followsN : Bool) (s : State) : Host.Outcome State Fault Refusal :=
  let s := s.at t
  let r := railOf k tripPath
  .next (
    if s.rd .railOn r = 0 || decide (s.now + 1 < s.rdN .railOn r + 400) then s
    else
      let bad := (if followsP then 0 else 1) + (if followsN then 0 else 2)
      let result := if bad = 1 then 1 else if bad = 2 then 2 else 0
      let s := (s.wr .railOn r 0).wr .RAIL_STATE 0 (s.rdN .RAIL_STATE 0 ||| max bad 1 * 2 ^ (2 * r) : Nat)
      let s := s.wr .railStuck k (s.rdN .railStuck k ||| bad * 2 ^ (2 * (r % 2)) : Nat)
      let s := match s.openRec (blkDie k) with
        | some o => if o.cause = 8 then
            (s.onRecord o.ordinal (fun x => { x with data := x.data % 256 + 256 * result })).closeRec (blkDie k)
          else s
        | none => s
      let s := s.endShadow (blkDie k) 8 (.time s.now)
      if followsP && followsN then s.iff (s.rd .railStuck k = 0) (fun s => s.endCause (blkDie k) 8)
      else if followsP || followsN then s
      else
        let cons := s.covered (blkDie k) 3
        let s := s.detectShadow (blkDie k) 3 0 (dieCovers k) .reset
        if cons then s else s.holdDie k)

/-- LINK_PARITY (R349): a bad word is sent once more. Where the second copy fails too, the receiving value keeps its previous content;
which of the die's shadow values the word carried is free. -/
def execLinkParity (t : Nat) (k : Fin 8) (secondFails : Bool) (s : State) : Host.Outcome State Fault Refusal :=
  let s := s.at t
  let react (s : State) (both : Bool) : State :=
    let s := (s.detect (blkDie k) 0x12).tally 236
    if both then
      let (x, s) := s.draw 5
      let n := 8 * k.val + x % 8
      match x / 8 with
      | 0 => s.wr .incShadow n (s.rd .ANGLE_INC n)
      | 1 => (s.wr .ampShadow n (s.rd .AMPLITUDE n)).wr .ampSrcShadow n (s.rd .AMP_SOURCE n)
      | _ => s
    else s
  .next (match s.armed 6 k with
    | some b => (react s.fire (b = 2)).unfire
    | none => react s secondFails)

-- injection

/-- Whether a target of R351 exists. -/
def targetOk (g : Nat) : Bool :=
  let c := bitsOf g 31 24
  let b := bitsOf g 23 16
  let i := bitsOf g 15 0
  match c with
  | 1 => (b = 1 || b = 2) && decide (i < 4096)
  | 2 => (b = 1 || b = 2) && decide (i < 4096)
  | 3 | 4 => (b = 1 || b = 2) && decide (i < 8)
  | 5 => b = 0 && decide (i < 8)
  | 6 => (b = 1 || b = 2) && decide (i < 8)
  | 7 => decide (b < 4) && decide (i < 8)
  | 8 => decide (b < 4) && decide (i < 80)
  | _ => false

/-- Whether an injection is armed and has not lapsed. -/
def State.isArmed (s : State) : Bool := s.rd .INJECT_STATE 0 = 1 && decide (s.now < s.rdN .injectAt 0 + second)

/-- The checks of a write to INJECT_ARM (R350), in the ranks of R35. -/
def State.injectCode (s : State) : Nat :=
  if s.isArmed then 0x07
  else if s.rd .INJECT_ENABLE 0 = 0 || !targetOk (s.rdN .INJECT_TARGET 0) then 0x05 else 0

/-- INJECT_TARGET armed. -/
def State.injectArm (s : State) : State := (s.wr .INJECT_STATE 0 1).wr .injectAt 0 s.now

/-- INJECTION_LAPSE (R350): 1 s without such a check. -/
def execInjectionLapse (t : Nat) (s : State) : Host.Outcome State Fault Refusal :=
  let s := s.at t
  .next (if s.rd .INJECT_STATE 0 = 1 && !s.isArmed then s.wr .INJECT_STATE 0 3 else s)

-- TRIPI

/-- TRIPI_RISE (R353): the filtered level rises. -/
def execTripiRise (t : Nat) (s : State) : Host.Outcome State Fault Refusal :=
  let s := s.at t
  .next (
    if s.rd .TRIPI_LEVEL 0 = 1 || s.mode = 0 then s
    else
      let s := (s.wr .TRIPI_LEVEL 0 1).count .TRIPI_COUNT 0
      if s.rd .TRIPI_MODE 0 = 1 then s.detect 0x61 3 (dataOf [(1, s.mode)]) else s)

/-- TRIPI_FALL (R353). -/
def execTripiFall (t : Nat) (s : State) : Host.Outcome State Fault Refusal :=
  .next (((s.at t).wr .TRIPI_LEVEL 0 0).endCause 0x61 3)

end Sys2Proof.Machine
end

