-- ==== Sys2Proof/Machine/Follow.lean ====
section
/-! DEFINITION. Sources of following (R76–R80, R84–R86, R90, R93): coarse-step interpolation, stream playback, gearing, and the
STEP/DIR pairs. What the profile step does with them stands in Profile.lean. -/
namespace Sys2Proof.Machine

/-- r of R78 at device time `t`, in 2^-16 microstep. -/
def State.srcPos (s : State) (n t : Nat) : Int :=
  let f := s.rd .srcFrom n
  let d := s.rdN .srcSpan n
  let e := t - s.rdN .srcAt n
  if d ≤ e then s.rd .srcGoal n else f + fdiv ((s.rd .srcGoal n - f) * (e : Nat)) (d : Nat)

/-- An update of the source of axis `n` in the present cycle: its position is `P` microsteps (R78). What changes the count twice in one cycle, a
counted edge and the correction of an index, is one update (R172, R174). -/
def State.srcUpdate (s : State) (n : Nat) (P : Int) : State :=
  if s.rd .srcNew n = 1 && s.rdN .srcAt n = s.now then s.wr .srcGoal n (P * 65536) else
  let r := s.srcPos n s.now
  let d := if s.rd .srcNew n = 0 then s.rdN .SPREAD_MAX n else min (s.now - s.rdN .srcAt n) (s.rdN .SPREAD_MAX n)
  let s := (s.wr .srcGoal n (P * 65536)).wr .srcFrom n r
  ((s.wr .srcAt n s.now).wr .srcSpan n d).wr .srcNew n 1

/-- Axes that follow source `num` of kind `k` (R76). -/
def State.followers (s : State) (k num : Nat) : List Nat :=
  (List.range 64).filter (fun n => s.rdN .FOLLOW_SOURCE n = k && s.rdN .SOURCE_NUM n = num)

/-- Every follower of source `num` of kind `k` takes the update to the coarse count `p` (R76). -/
def State.updateFollowers (s : State) (k num : Nat) (p : Int) : State :=
  s.forList (s.followers k num) (fun s n => s.srcUpdate n (p * s.rd .COARSE_SIZE n))

/-- The source's position is reassigned by `d` coarse steps: the reconstruction and SOURCE_ORIGIN move along (R80). -/
def State.shiftSource (s : State) (n : Nat) (d : Int) : State :=
  let q := d * 65536
  let s := (s.wr .srcGoal n (s.rd .srcGoal n + q)).wr .srcFrom n (s.rd .srcFrom n + q)
  let s := (s.wr .srcQ n (s.rd .srcQ n + q)).wr .srcPrev n (s.rd .srcPrev n + q)
  let s := s.wr .srcMark n (s.rd .srcMark n + q)
  s.wr .soOrg n (s.rd .soOrg n + q)

/-- The playback instant of axis `n` at device time `t`, in 2^-32 tick of ring time (R85). -/
def State.playAt (s : State) (n t : Nat) : Int := s.ringAt t - (5000 * s.rdN .STREAM_DELAY n : Nat) * 2 ^ 32

/-- The cubic of R85 between two samples, at `u` 2^-32 ticks after the first, in 2^-16 microstep. -/
def hermite (a b : Sample) (u : Int) : Int :=
  let h : Int := ((b.t : Int) - a.t) * 2 ^ 32
  let e : Int := 10 ^ 8 * 2 ^ 32
  let num := ((2 * u ^ 3 - 3 * u ^ 2 * h + h ^ 3) * a.pos + (-2 * u ^ 3 + 3 * u ^ 2 * h) * b.pos) * e +
    ((u ^ 3 - 2 * u ^ 2 * h + u * h ^ 2) * a.vel + (u ^ 3 - u ^ 2 * h) * b.vel) * h
  fdiv (num * 65536) (h ^ 3 * e)

/-- The stream's value at the instant `q` (2^-32 tick), from samples newest first; none before the oldest (R85, R86). -/
def playback : List Sample → Int → Option Int
  | [], _ => none
  | b :: l, q =>
    if (b.t : Int) * 2 ^ 32 ≤ q then
      some (b.pos * 65536 + fdiv (b.vel * (q - b.t * 2 ^ 32) * 65536) (10 ^ 8 * 2 ^ 32))
    else
      let rec go (b : Sample) : List Sample → Option Int
        | [] => none
        | a :: l => if (a.t : Int) * 2 ^ 32 ≤ q then some (hermite a b (q - a.t * 2 ^ 32)) else go a l
      go b l

/-- The samples axis `n` holds. -/
def State.samples (s : State) (n : Nat) : List Sample := tget [] s.streams n

/-- Samples older than the newest one at or before the instant `q` dropped: playback never needs them again. -/
def pruneSamples (q : Int) : List Sample → List Sample
  | [] => []
  | x :: l => if (x.t : Int) * 2 ^ 32 ≤ q then [x] else x :: pruneSamples q l

/-- A sample put at its place, newest first. -/
def insertSample (x : Sample) : List Sample → List Sample
  | [] => [x]
  | y :: l => if y.t < x.t then x :: y :: l else if y.t = x.t then x :: l else y :: insertSample x l

/-- A sample arrives for axis `n` (R85): late ones are discarded, and a SEQ that does not follow that of the sample received before, held or
not, counts one gap (log entry 151). One that is held already is discarded without count (R302). What the next mark may still play is kept:
the samples from the newest one on that the latest mark had behind its playback instant. -/
def State.takeSample (s : State) (n : Nat) (x : Sample) : State :=
  let l := s.samples n
  if l.any (fun y => y.seq = x.seq && y.t = x.t) then s else
  let last := s.rdN .streamSeq n
  let s := s.iff (last ≠ 0 && x.seq ≠ last % 256 && x.seq ≠ last - 1) (fun s => s.count .STREAM_GAPS n)
  let s := (s.wr .streamSeq n (x.seq + 1)).wr .srcLost n 0
  if (x.t : Int) * 2 ^ 32 < s.playAt n s.now then s.count .STREAM_LATE n
  else { s with streams := tset [] s.streams n (pruneSamples (s.playAt n (s.rdN .PASS_MARK_TIME 0)) (insertSample x l)) }

/-- The source position of axis `n` for the mark at device time `t` (R76), in 2^-16 microstep. For a local leader it is the position planned for
the mark after the next one, as the leader's profile step has written it (R88). -/
def State.sourceAt (s : State) (n t : Nat) : Option Int :=
  match s.rdN .FOLLOW_SOURCE n with
  | 1 | 2 => some (s.rd .srcMark n)
  | 3 =>
    let p := s.planner (s.rdN .SOURCE_NUM n)
    some (match p.aft with | some k => k.x | none => p.nxt.x)
  | 4 => playback (s.samples n) (s.playAt n t)
  | _ => none

/-- The geared position of a source position (R79), in 2^-16 microstep. -/
def State.gearOf (s : State) (n : Nat) (q : Int) : Int :=
  s.rd .foOrg n + fdiv ((q - s.rd .soOrg n) * s.rd .effNum n) (s.rd .effDen n)

/-- Whether the axis is in FOLLOW. -/
def State.following (s : State) (n : Nat) : Bool := s.rd .FOLLOW_STATE n ≠ 0

/-- What the mark takes of a follower's source (R77, R78, R80): r, and the ratio objects. -/
def State.followMark (s : State) (n : Nat) : State :=
  let k := s.rdN .FOLLOW_SOURCE n
  let s := if k = 1 || k = 2 then s.wr .srcMark n (s.srcPos n s.now) else s
  (s.wr .markNum n (s.rd .RATIO_NUM n)).wr .markDen n (s.rd .RATIO_DEN n)

/-- A changed ratio takes effect with a new origin, so that g is continuous (R80). -/
def State.takeRatio (s : State) (n : Nat) : State :=
  if s.rd .effNum n = s.rd .markNum n && s.rd .effDen n = s.rd .markDen n then s
  else
    let s := (s.wr .foOrg n (s.rd .gearQ n)).wr .soOrg n (s.rd .srcQ n)
    (s.wr .effNum n (s.rd .markNum n)).wr .effDen n (s.rd .markDen n)

/-- The source and geared position of the pass formed for axis `n` at device time `t` (R76, R79); the origins are taken at the first
pass that has a source position (R81, R86), a changed ratio after the position is formed (R80). -/
def State.formGear (s : State) (n t : Nat) : State :=
  match s.sourceAt n t with
  | none => (s.wr .srcOk n 0).wr .GEARED_VEL n 0
  | some q =>
    let fresh := s.rd .srcOk n = 0
    let s := (s.wr .srcPrev n (if fresh then q else s.rd .srcQ n)).wr .srcQ n q
    let s := (s.wr .srcOk n 1).wr .SOURCE_POS n (fdiv q 65536)
    if !s.following n then s
    else
      let s := if s.rd .origWait n = 1 then ((s.wr .soOrg n q).wr .foOrg n (s.rd .posQ n)).wr .origWait n 0 else s
      let g := s.gearOf n q
      let s := (s.wr .gearPrev n (s.gearOf n (s.rd .srcPrev n))).wr .gearQ n g
      let s := s.wr .GEARED_VEL n (fdiv ((g - s.rd .gearPrev n) * 20000) 65536)
      s.takeRatio n

/-- Following engages at the present mark (R81); `x` is the planned position of the mark in 2^-16 microstep. The active record is
abandoned and counts as complete. -/
def State.engage (s : State) (n : Nat) (x : Int) : State :=
  let s := (s.wr .followPend n 0).abandon n
  let s := ((s.wr .foOrg n x).wr .FOLLOW_LAG n 0).wr .END_CAUSE n 0
  let s := (s.wr .effNum n (s.rd .RATIO_NUM n)).wr .effDen n (s.rd .RATIO_DEN n)
  let s := ((s.wr .srcNew n 0).wr .origWait n 1).wr .engagedAt n s.pass
  (s.wr .FOLLOW_STATE n 1).setAxis n 3

/-- Whether STREAM_TIMEOUT has run out on axis `n` (R90): past the newest sample, or with none held since the engagement mark. A sample of the
cycle in which it runs out is in time, so that the time is out only in the cycle after it (R16; log entry 147). -/
def State.streamOver (s : State) (n : Nat) : Bool :=
  let T := s.rdN .STREAM_TIMEOUT n
  match s.samples n with
  | x :: _ => decide (((x.t + 5000 * T : Nat) : Int) * 2 ^ 32 ≤ s.playAt n (s.now - 1))
  | [] => s.following n && decide (s.rdN .engagedAt n + T < s.pass + (if s.rdN .PASS_MARK_TIME 0 < s.now then 1 else 0))

/-- Whether the source of axis `n` is lost (R90). A stream whose time has run out is lost with no command needed. -/
def State.sourceLost (s : State) (n : Nat) : Bool :=
  let c := s.rdN .SOURCE_NUM n
  match s.rdN .FOLLOW_SOURCE n with
  | 1 => s.rd .PAIR_FAULT c = 1 && decide (s.rdN .pairAt c + 100 ≤ s.now)
  | 2 => s.bit .CH_FLAGS c 3 || !s.bit .CH_FLAGS c 0
  | 3 => s.rd .AXIS_STATE c = 6 || s.rd .AXIS_STATE c = 7
  | 4 => s.rd .srcLost n = 1 || s.streamOver n
  | _ => false

/-- STREAM_TIMEOUT (R90): the source of a stream follower is lost. -/
def execStreamTimeout (t : Nat) (n : Fin 64) (s : State) : Host.Outcome State Fault Refusal :=
  let s := s.at t
  .next (if s.rd .FOLLOW_SOURCE n = 4 && s.streamOver n then s.wr .srcLost n 1 else s)

/-- STEP_EDGE (R93): a filtered active edge of STEP, with the level of filtered DIR and the ticks since DIR last changed. -/
def execStepEdge (t : Nat) (pair : Fin 8) (dirHigh : Bool) (dirAge : Nat) (s : State) : Host.Outcome State Fault Refusal :=
  let s := s.at t
  let up : Bool := dirHigh ≠ (s.rd .DIR_POLARITY pair = 1)
  let last := s.rdN .stepAt pair
  let s := s.iff (dirAge < 10) (fun s => s.count .DIR_SETUP_VIOL pair)
  let s := s.iff (last ≠ 0 && decide (s.now + 1 < last + 45)) (fun s => s.count .OVERRATE pair)
  let c := s.rd .STEP_COUNT pair + (if up then 1 else -1)
  let s := (s.wr .stepAt pair (s.now + 1)).wr48 .STEP_COUNT pair c
  .next (s.updateFollowers 1 pair (s.rd .STEP_COUNT pair))

/-- PAIR_FAULT (R90, R93): the receiver's detector finds a pair open or short, or no longer; the source is lost once it has found it for 1 µs
without a break. -/
def execPairFault (t : Nat) (pair : Fin 8) (on : Bool) (s : State) : Host.Outcome State Fault Refusal :=
  let s := s.at t
  let s := s.iff (on && s.rd .PAIR_FAULT pair = 0) (fun s => s.wr .pairAt pair s.now)
  .next (s.wr .PAIR_FAULT pair (if on then 1 else 0))

end Sys2Proof.Machine
end

