-- ==== Sys2Proof/Machine/Waits.lean ====
section
/-! DEFINITION. WAIT records (R65, R68): what satisfies the wait of an axis, and its completion at the arrival. -/
namespace Sys2Proof.Machine

/-- SOURCE, NUMBER and condition of a WAIT record, its instant and its timeout (R65). -/
def Move.waitSrc (m : Move) : Nat := bitsOf m.w1 7 0
def Move.waitNum (m : Move) : Nat := bitsOf m.w1 15 8
def Move.waitCond (m : Move) : Nat := bitsOf m.w1 17 16
def Move.waitAt (m : Move) : Nat := m.w2
def Move.timeout (m : Move) : Nat := m.w3 % 2 ^ 32

/-- Filtered active level of sense input `i` (R182). -/
def State.sense (s : State) (i : Nat) : Bool := if i < 64 then s.bit .SENSE_LO 0 i else s.bit .SENSE_HI 0 (i - 64)

/-- Whether queue `q` holds a complete packet. -/
def State.hasPacket (s : State) (q : Nat) : Bool := !(s.queue q).pkts.isEmpty

/-- Whether a WAIT record is satisfied by a level, an instant reached or a mailbox packet (R68). -/
def State.waitMet (s : State) (m : Move) : Bool :=
  match m.waitSrc with
  | 1 => (m.waitCond = 2 && s.sense m.waitNum) || (m.waitCond = 3 && !s.sense m.waitNum)
  | 2 => decide (m.waitAt ≤ s.now)
  | 3 => decide (m.waitAt ≤ s.ring)
  | 4 => s.hasPacket (76 + m.waitNum)
  | _ => false

/-- The WAIT record of axis `n`, if one is active. -/
def State.waitRec (s : State) (n : Nat) : Option Move := (s.planner n).act.filter (fun m => m.kind = 5)

/-- The WAIT record of axis `n` completes where its wait is satisfied (R68). -/
def State.pollWait (s : State) (n : Nat) : State :=
  match s.waitRec n with
  | some m => if s.waitMet m then s.completeRec n else s
  | none => s

/-- A WAIT record whose device- or ring-time instant has passed by is satisfied in the cycle in which that instant became visible (R68): before the
present cycle, unless it falls in it. -/
def State.pollInstant (s : State) (n : Nat) : State :=
  match s.waitRec n with
  | some m =>
    if (m.waitSrc = 2 || m.waitSrc = 3) && s.waitMet m then
      let past := if m.waitSrc = 2 then decide (m.waitAt < s.now) else decide ((m.waitAt : Int) * 2 ^ 32 ≤ s.ringAt (s.now - 1))
      (s.completeRec n).iff past (fun s => s.wr .readyAt n (s.now - 1 : Nat))
    else s
  | none => s

/-- Every axis looks at its wait: an instant or a packet may have arrived. -/
def State.pollWaits (s : State) : State := s.forAll 64 State.pollWait

/-- A filtered edge of sense input `i`, rising or falling, reaches the WAIT record of axis `n` (R68). -/
def State.senseWait (s : State) (i : Nat) (rise : Bool) (n : Nat) : State :=
  match s.waitRec n with
  | some m =>
    if m.waitSrc = 1 && m.waitNum = i && ((m.waitCond = 0 && rise) || (m.waitCond = 1 && !rise)) then s.completeRec n
    else s.pollWait n
  | none => s

/-- The timeout of the WAIT record of axis `n` (R68): the record completes, and with ON_TIMEOUT every waiting record goes. -/
def State.timeOut (s : State) (n : Nat) : State :=
  match s.waitRec n with
  | none => s
  | some m =>
    let s := (s.event n 9).count .WAIT_TIMEOUTS n
    (if m.onTimeout then s.flushQueue n else s).completeRec n

/-- WAIT_TIMEOUT (R68): due at the mark that completes the count of passes from the record's mark. An arrival of the same cycle
satisfies the wait (R16). -/
def execWaitTimeout (t : Nat) (n : Fin 64) (s : State) : Host.Outcome State Fault Refusal :=
  let s := (s.at t).pollWait n
  .next (match s.waitRec n with
    | some m => if s.atMark && m.timeout ≠ 0 && decide (m.mark + m.timeout ≤ s.pass) then s.timeOut n else s
    | none => s)

end Sys2Proof.Machine
end

