-- ==== Sys2Proof/Machine/Feedback.lean ====
section
/-! DEFINITION. Feedback channels, latches, sense and limit inputs, emulation outputs (R169–R191). -/
namespace Sys2Proof.Machine

/-- Bit `b` of CH_EVENTS of channel `c` set (R188). -/
def State.chEvent (s : State) (c b : Nat) : State := s.raise .CH_EVENTS c (2 ^ b)

/-- Axes bound to channel `c` (R180). -/
def State.boundTo (s : State) (c : Nat) : List Nat := (List.range 64).filter (fun n => s.rdN .FB_CHANNEL n = c)

/-- The deviation of the axes bound to channel `c` is no longer valid (R181). -/
def State.devOff (s : State) (c : Nat) : State := s.forList (s.boundTo c) (fun s n => s.wr .DEV_VALID n 0)

/-- The position of channel `c` is marked invalid: POS_INVALID is held (R177). -/
def State.chInvalid (s : State) (c : Nat) : State := ((s.devOff c).wrBit .CH_FLAGS c 0 false).detectHeld (blkFb c) 0x13

/-- The position of channel `c` becomes valid: the cause ends, the reference is learned afresh (R173), bound axes are aligned at
the mark (R180). -/
def State.chValid (s : State) (c : Nat) : State :=
  if s.bit .CH_FLAGS c 0 then s
  else
    let s := ((s.wrBit .CH_FLAGS c 0 true).wrBit .CH_FLAGS c 5 false).endCause (blkFb c) 0x13
    s.forList (s.boundTo c) (fun s n => s.wr .fbAlignPend n 1)

/-- Followers of channel `c` take its count, unless the update is marked invalid (R78, R177). -/
def State.chUpdate (s : State) (c : Nat) : State :=
  if s.bit .CH_FLAGS c 0 then s.updateFollowers 2 c (s.rd .chCount c) else s

/-- The count of channel `c` becomes `v`, held within CH_MIN to CH_MAX (R178). -/
def State.chSet (s : State) (c : Nat) (v : Int) : State :=
  let lo := s.rd .CH_MIN c
  let hi := s.rd .CH_MAX c
  let w := clampInt lo hi v
  let s := s.wr .chCount c w
  if w ≠ v then
    ((s.count .SAT_EDGES c (v - w).natAbs).wrBit .CH_FLAGS c 2 true).detectHeld (blkFb c) 0x14
  else if lo < v && v < hi then (s.wrBit .CH_FLAGS c 2 false).endCause (blkFb c) 0x14
  else s

/-- The bounds of channel `c` have changed: the count is brought within them, which is no update and loses no counts, and a bound that no update
has pressed against saturates nothing (R178; log entry 162). -/
def State.chBounds (s : State) (c : Nat) : State :=
  let w := clampInt (s.rd .CH_MIN c) (s.rd .CH_MAX c) (s.rd .chCount c)
  let s := s.iff (w ≠ s.rd .chCount c || (s.rd .CH_MIN c < w && w < s.rd .CH_MAX c)) (fun s =>
    (s.wrBit .CH_FLAGS c 2 false).endCause (blkFb c) 0x14)
  (s.wr .chCount c w).wr .CH_POS c w

/-- Whether the filtered level of a line of channel `c` that last changed at `r` can change in the present cycle: its raw level must have
held for CH_FILTER samples since (R171; log entry 163). -/
def State.lineFree (s : State) (r : Reg) (c : Nat) : Bool :=
  s.rd r c = 0 || decide (s.rdN r c + s.rdN .CH_FILTER c ≤ s.now + 1)

/-- Direction of a change of the filtered (A, B) state (R171): A leading B is +1; 0 where the change is no quadrature step. -/
def quadStep (a b a' b' : Bool) : Int :=
  if a ≠ a' && b ≠ b' then 0
  else if a ≠ a' then (if a' ≠ b then 1 else -1)
  else if b ≠ b' then (if b' = a then 1 else -1)
  else 0

/-- Time of the edge `k` edges before the latest (R175). -/
def State.edgeTime (s : State) (c k : Nat) : Nat :=
  match k with
  | 0 => s.rdN .edgeT1 c | 1 => s.rdN .edgeT2 c | 2 => s.rdN .edgeT3 c | 3 => s.rdN .edgeT4 c | _ => s.rdN .edgeT5 c

/-- The times of R175 moved on by an edge in the present cycle. -/
def State.pushEdge (s : State) (c : Nat) : State :=
  let s := (s.wr .edgeT5 c (s.rd .edgeT4 c)).wr .edgeT4 c (s.rd .edgeT3 c)
  let s := (s.wr .edgeT3 c (s.rd .edgeT2 c)).wr .edgeT2 c (s.rd .edgeT1 c)
  s.wr .edgeT1 c s.now

/-- The speed update of a counted edge in direction `d` (R175). An interval runs in the direction of the edge that ends it. -/
def State.speedEdge (s : State) (c : Nat) (d : Int) : State :=
  let k := s.rdN .edgeN c
  let run := if k = 0 then 1 else if s.rd .edgeDir c = d || k = 1 then min (k + 1) 5 else 2
  let s := (s.pushEdge c).wr .edgeN c run
  let s := ((s.wr .edgeDir c d).wr .edgeAt c (s.now + 1)).wrBit .CH_FLAGS c 4 false
  let span := s.rdN .SPEED_SPAN c
  if span < run then
    let dt := s.now - s.edgeTime c span
    let s := (s.wr .edgeDt c dt).wrBit .CH_FLAGS c 1 true
    if dt = 0 then s else s.wr .CH_SPEED c (d * (span * 10 ^ 8 / dt : Nat))
  else s.wrBit .CH_FLAGS c 1 false

/-- An illegal change (R171, R172): the history of intervals starts again from it (R174's example). It is no counted edge, so that the time since
the last counted edge runs on (R175). -/
def State.illegalEdge (s : State) (c : Nat) : State :=
  let s := (((s.chEvent c 0).count .ILLEGAL_COUNT c).tally (100 + c)).wr .illegalAt c (s.now + 1)
  let s := (s.wr .illegalWin c (s.rd .illegalWin c + 1)).wrBit .CH_FLAGS c 1 false
  let s := ((s.pushEdge c).wr .edgeN c 1).detect (blkFb c) 0x10
  if s.rd .ILLEGAL_LIMIT c ≠ 0 && decide (s.rd .ILLEGAL_LIMIT c < s.rd .illegalWin c) then s.chInvalid c else s

/-- Whether channel `c` counts: incremental and not contained (R169, R170). -/
def State.counting (s : State) (c : Nat) : Bool := s.rd .CH_MODE c = 1 && !s.bit .CH_FLAGS c 3

/-- QUADRATURE_EDGE (R171, R172, R175): the filtered levels of A and B in this cycle. A line that the filter cannot have let through yet keeps
its level. -/
def execQuadratureEdge (t : Nat) (c : Fin 16) (a b : Bool) (s : State) : Host.Outcome State Fault Refusal :=
  let s := s.at t
  let a0 := s.bit .qState c 0
  let b0 := s.bit .qState c 1
  let a := if s.lineFree .lineAtA c then a else a0
  let b := if s.lineFree .lineAtB c then b else b0
  let s := s.wr .qState c ((if a then 1 else 0) + (if b then 2 else 0))
  let s := (s.iff (a ≠ a0) (fun s => s.wr .lineAtA c (s.now + 1))).iff (b ≠ b0) (fun s => s.wr .lineAtB c (s.now + 1))
  .next (
    if !s.counting c || (a = a0 && b = b0) then s
    else if a ≠ a0 && b ≠ b0 then s.illegalEdge c
    else
      let d := quadStep a0 b0 a b * (if s.rd .CH_INVERT c = 1 then -1 else 1)
      ((s.chSet c (s.rd .chCount c + d)).speedEdge c d).chUpdate c)

/-- The deviation of R173 taken into −P/2 to P/2 − 1. -/
def indexDev (z r : Int) (P : Nat) : Int :=
  let m := (z - r) % P
  if m < P - P / 2 then m else m - P

/-- A deviation of the index found on channel `c` (R173). -/
def State.indexDeviates (s : State) (c : Nat) (dev : Int) : State :=
  let s := (((s.chEvent c 1).count .INDEX_DEV_COUNT c).wr .LAST_DEV c dev).detect (blkFb c) 0x11
  if s.rdN .INDEX_WINDOW c < dev.natAbs then s.count .OUT_WINDOW_COUNT c
  else if s.rd .INDEX_CORR c = 1 then
    let s := s.chSet c (s.rd .chCount c - dev)
    (((s.chEvent c 2).count .CORR_COUNT c).detect (blkFb c) 0x20).chUpdate c
  else s

/-- INDEX (R173): a filtered rising edge of Z, which the filter lets through no sooner than CH_FILTER samples after the falling edge that came
after the last one. -/
def execIndex (t : Nat) (c : Fin 16) (s : State) : Host.Outcome State Fault Refusal :=
  let s := s.at t
  let z := s.rd .chCount c
  let P := s.rdN .INDEX_PERIOD c
  let m := s.rd .INDEX_MODE c
  .next (
    if !s.counting c || !(s.rd .lineAtZ c = 0 || decide (s.rdN .lineAtZ c + s.rdN .CH_FILTER c ≤ s.now)) then s
    else
      let s := ((s.wr .Z_POS c z).wr .Z_TIME c s.now).wr .lineAtZ c (s.now + 1)
      if s.rdN .illegalAt c = s.now + 1 then s.count .SKIPPED_INDEX c
      else if m = 0 || P = 0 then s
      else if m = 1 && !s.bit .CH_FLAGS c 5 then (s.wr .idxRef c (z % P)).wrBit .CH_FLAGS c 5 true
      else
        let dev := indexDev z (if m = 1 then s.rd .idxRef c else s.rd .INDEX_REF c) P
        if dev = 0 then s else s.indexDeviates c dev)

/-- Whether a counted edge of channel `c` has begun a time that SPEED_TIMEOUT has not ended yet (R175). -/
def State.edgeTimed (s : State) (c : Nat) : Bool := s.counting c && s.rd .edgeAt c ≠ 0 && !s.bit .CH_FLAGS c 4

/-- SPEED_TIMEOUT (R175): an edge of the cycle of expiry counts as before it (R16), so the expiry is taken once that cycle is over (log entry
147). -/
def execSpeedTimeout (t : Nat) (c : Fin 16) (s : State) : Host.Outcome State Fault Refusal :=
  let s := s.at t
  .next (if s.edgeTimed c && decide (s.rdN .edgeAt c + s.rdN .SPEED_TIMEOUT c ≤ s.now) then
      ((s.wr .CH_SPEED c 0).wrBit .CH_FLAGS c 4 true).wr .edgeN c 0
    else s)

/-- CH_SPEED of channel `c` at a mark (R175): the fastest speed the missing edge still allows. -/
def State.speedAtMark (s : State) (c : Nat) : State :=
  let tau := s.now + 1 - s.rdN .edgeAt c
  if s.edgeTimed c && s.rd .edgeDt c ≠ 0 && decide (s.rdN .edgeDt c < tau * s.rdN .SPEED_SPAN c) then
    s.wr .CH_SPEED c (s.rd .edgeDir c * (10 ^ 8 / tau : Nat))
  else s

-- synchronous serial channels

/-- Whether synchronous serial frames run on channel `c` (R176, R328). -/
def State.ssiOn (s : State) (c : Nat) : Bool := s.rd .CH_MODE c = 2 && !s.bit .CH_FLAGS c 3 && s.mode ≠ 11

/-- An invalid frame (R176, R177). -/
def State.badFrame (s : State) (c : Nat) : State :=
  let s := (((s.chEvent c 3).count .FRAME_ERRORS c).detect (blkFb c) 0x12).wr .absErr c (min (s.rd .absErr c + 1) 255)
  if s.rd .ABS_ERR_LIMIT c ≤ s.rd .absErr c then s.chInvalid c else s

/-- Whether the present cycle is the mark at which a frame of channel `c` starts (R176). -/
def State.ssiDue (s : State) (c : Nat) : Bool := s.atMark && s.pass % (s.rdN .ABS_PERIOD c) = 0

/-- The frame of channel `c` that missed its deadline is discarded as late (R176). -/
def State.ssiLate (s : State) (c : Nat) : State :=
  s.iff (s.rd .ssiOld c ≠ 0) (fun s => (s.wr .ssiOld c 0).count .FRAME_ERRORS c)

/-- A mark at which a frame of channel `c` starts (R176): the deadline of the frame before. One that could not start is invalid; one that runs may
still arrive in this cycle (R16). -/
def State.ssiMark (s : State) (c : Nat) : State :=
  if !s.ssiDue c then s
  else
    let s := s.ssiLate c
    if s.rd .ssiState c = 1 then (s.wr .ssiState c 0).badFrame c
    else if s.rd .ssiState c = 2 then (s.wr .ssiState c 0).wr .ssiOld c (s.rd .ssiStamp c + 1)
    else s

/-- SSI_FRAME_START (R176): the start mark of a frame with the level of the data line, or the line going high while a start waits. -/
def execSsiFrameStart (t : Nat) (c : Fin 16) (dataHigh : Bool) (s : State) : Host.Outcome State Fault Refusal :=
  let s := s.at t
  .next (
    if s.ssiOn c && ((s.ssiDue c && s.rd .ssiState c = 0) || s.rd .ssiState c = 1) then
      if dataHigh then (s.wr .ssiState c 2).wr .ssiStamp c s.now else s.wr .ssiState c 1
    else s)

/-- Gray code to binary (R176). -/
def grayToBin (g : Nat) : Nat → Nat
  | 0 => g
  | k + 1 => grayToBin g k ^^^ (g >>> (k + 1))

/-- A valid raw word `v` of the frame with time stamp `stamp` arrives on channel `c` (R176, R177). CH_SPEED is formed from the positions of two
frames, whatever a preset has made of the count in between. -/
def State.takeRaw (s : State) (c v stamp : Nat) : State :=
  let bits := s.rdN .SSI_BITS c
  let have0 := s.rd .absHave c = 1
  let first := !have0
  let dif := signed bits (unsigned bits ((v : Int) - s.rd .absPrev c))
  if have0 && s.rd .ABS_JUMP_MAX c ≠ 0 && decide (s.rdN .ABS_JUMP_MAX c < dif.natAbs) then (s.chEvent c 6).badFrame c
  else
    let unwrap := s.rd .ABS_UNWRAP c = 1
    let old := if unwrap then s.rd .chCount c else clampInt (s.rd .CH_MIN c) (s.rd .CH_MAX c) (s.rd .absPrev c)
    let s := s.chSet c (if unwrap && have0 then old + dif else (v : Int))
    let dt := stamp - s.rdN .ssiLast c
    let s := if have0 && dt ≠ 0 then
        (s.wr .CH_SPEED c (((s.rd .chCount c - old) * 10 ^ 8).tdiv dt)).wrBit .CH_FLAGS c 1 true
      else s
    let s := ((s.wr .absPrev c v).wr .ABS_RAW c v).wr .absHave c 1
    let s := (s.wr .ssiLast c stamp).wr .absErr c 0
    let s := if first || !unwrap then s.chValid c else s
    s.chUpdate c

/-- Whether the last bit of a frame of channel `c` with time stamp `stamp` can be sampled in the present cycle: SSI_DELAY after a rising clock
edge of its last period but one or its last period (R176; log entry 164). -/
def State.ssiSampled (s : State) (c stamp : Nat) : Bool :=
  let D := s.rdN .SSI_DIV c
  let e := s.now - stamp
  decide ((s.rdN .SSI_BITS c - 1) * D + s.rdN .SSI_DELAY c ≤ e) && decide (e ≤ (s.rdN .SSI_BITS c + 1) * D + s.rdN .SSI_DELAY c)

/-- SSI_FRAME_ARRIVAL (R176): the last bit of `word` is sampled. `mono` is true where the data line goes high within SSI_MONO; where
it does not, the frame is invalid at SSI_MONO_TIMEOUT (log entry 17). A frame whose deadline has passed is not taken; in the cycle of the deadline
it is (R16). -/
def execSsiFrameArrival (t : Nat) (c : Fin 16) (word : Nat) (mono : Bool) (s : State) : Host.Outcome State Fault Refusal :=
  let s := s.at t
  let bits := s.rdN .SSI_BITS c
  let w := word % 2 ^ bits
  let old : Bool := s.rd .ssiOld c ≠ 0 && s.atMark
  let stamp := if old then s.rdN .ssiOld c - 1 else s.rdN .ssiStamp c
  .next (
    if s.ssiOn c && (old || s.rd .ssiState c = 2) && s.ssiSampled c stamp then
      let s := if old then s.wr .ssiOld c 0 else s.wr .ssiState c 0
      if mono then s.takeRaw c (if s.rd .SSI_GRAY c = 1 then grayToBin w bits else w) stamp
      else s.wr .ssiMono c (s.now + 1)
    else s)

/-- SSI_MONO_TIMEOUT (R176): the data line is not high within SSI_MONO of the last bit. A high level of the cycle of expiry satisfies the check
(R16), so the expiry is taken once that cycle is over (log entry 147). -/
def execSsiMonoTimeout (t : Nat) (c : Fin 16) (s : State) : Host.Outcome State Fault Refusal :=
  let s := s.at t
  .next (if s.rd .ssiMono c ≠ 0 && decide (s.rdN .ssiMono c + s.rdN .SSI_MONO c ≤ s.now) then (s.wr .ssiMono c 0).badFrame c else s)

/-- SSI_DEADLINE (R176): the cycle of the next frame's start mark is over, and a frame that has not arrived is discarded as late. -/
def execSsiDeadline (t : Nat) (c : Fin 16) (s : State) : Host.Outcome State Fault Refusal :=
  let s := s.at t
  .next (if s.atMark then s else s.ssiLate c)

/-- Whether pair `p` of channel `c` is a used receiver (R169, R170). -/
def State.pairUsed (s : State) (c p : Nat) : Bool :=
  match s.rdN .CH_MODE c with
  | 1 => p < 2 || s.rd .INDEX_MODE c ≠ 0 || s.rd .LATCH_SRC c = 1
  | 2 => p = 1
  | _ => false

/-- LINE_FAULT (R170): a used receiver has read faulty for 1 µs, and the channel is contained. -/
def execLineFault (t : Nat) (c : Fin 16) (p : Fin 3) (s : State) : Host.Outcome State Fault Refusal :=
  let s := s.at t
  let deps := (List.range 64).filter (fun n => s.rdN .FB_CHANNEL n = c || (s.rd .FOLLOW_SOURCE n = 2 && s.rdN .SOURCE_NUM n = c))
  .next (
    if !s.pairUsed c p || s.bit .CAUSES_PRESENT (blkFb c) 1 then s
    else
      let s := s.detectShadow (blkFb c) 1 0 (deps.map (fun n => (blkAxis n, []))) .waiting
      let s := ((s.chEvent c 5).wrBit .CH_FLAGS c 3 true).wr .chFreePend c 0
      ((((s.wr .ssiState c 0).wr .ssiOld c 0).wr .ssiMono c 0).chInvalid c))

/-- LINE_FAULT_END (R170, R341): the detector reads no fault, and the shadow ends at the 20th mark after it. -/
def execLineFaultEnd (t : Nat) (c : Fin 16) (s : State) : Host.Outcome State Fault Refusal :=
  let s := s.at t
  .next (
    if s.bit .CAUSES_PRESENT (blkFb c) 1 then (s.endCause (blkFb c) 1).endShadow (blkFb c) 1 (.mark (s.pass + 20)) else s)

-- the mark

/-- What a mark does to channel `c` (R77, R170, R172, R175, R177): containment ends, a preset takes effect, the snapshot is taken. -/
def State.channelMark (s : State) (c : Nat) : State :=
  let s := if s.rd .chFreePend c = 1 then (s.wr .chFreePend c 0).wrBit .CH_FLAGS c 3 (s.bit .CAUSES_PRESENT (blkFb c) 1) else s
  let s := s.iff (s.ssiOn c) (fun s => s.ssiMark c)
  let s := if s.rd .prePend c = 1 then
      let was := s.rd .chCount c
      let s := ((s.wr .prePend c 0).chSet c (s.rd .preVal c)).wrBit .CH_FLAGS c 5 false
      (s.forList (s.followers 2 c) (fun s n => s.shiftSource n ((s.rd .chCount c - was) * s.rd .COARSE_SIZE n))).chValid c
    else s
  let s := if s.pass % 1000 = 0 then s.wr .illegalWin c 0 else s
  (s.wr .CH_POS c (s.rd .chCount c)).speedAtMark c

/-- FB_ORIGIN of axis `n` aligned at the present mark, so that FB_POS equals CMD_POS (R180). -/
def State.alignFb (s : State) (n : Nat) : State :=
  let c := s.rdN .FB_CHANNEL n
  let s := (s.wr .fbCmd n (s.rd .CMD_POS n)).wr .fbCh n (s.rd .CH_POS c)
  ((s.wr .fbAlignPend n 0).wr .fbAligned n 1).wr .DEV_PEAK n 0

/-- DEV_VALID (R181). -/
def State.devValid (s : State) (n : Nat) : Bool :=
  let c := s.rdN .FB_CHANNEL n
  decide (c < 16) && s.rd .DRIVE_STATE n = 1 && s.bit .CH_FLAGS c 0 && !s.bit .CH_FLAGS c 3 && s.rd .fbAligned n = 1

/-- The feedback fold-in of axis `n` (R180, R181). DEV_PEAK and DEV_MAX look at every deviation formed, valid or not. A deviation found consequent
makes no stop (R340). -/
def State.foldIn (s : State) (n : Nat) : State :=
  let c := s.rdN .FB_CHANNEL n
  if c < 16 then
    let p := s.rd .fbCmd n + fdiv ((s.rd .CH_POS c - s.rd .fbCh n) * s.rd .FB_NUM n) (s.rd .FB_DEN n)
    let dev := p - s.rd .CMD_POS n
    let s := ((s.wr48 .FB_POS n p).wr48 .DEVIATION n dev).wr .DEV_VALID n (ofBool (s.devValid n))
    let s := s.keepMax .DEV_PEAK n (min dev.natAbs (2 ^ 32 - 1))
    if s.rd .DEV_MAX n ≠ 0 && decide (s.rdN .DEV_MAX n < dev.natAbs) && [1, 2, 3, 4].contains (s.rdN .AXIS_STATE n) then
      let cons := s.covered (blkAxis n) 0x19
      let s := s.detect (blkAxis n) 0x19
      if s.rd .DEV_REACTION n = 2 && !cons then s.wr .devStop n 1 else s
    else s
  else s.wr .DEV_VALID n 0

-- latches

/-- The latch of channel `c` captures (R179): it disarms unless LATCH_REPEAT. In mode 1 the speed is the one before an edge of this cycle updates
it (R172). -/
def State.capture (s : State) (c : Nat) : State :=
  let v := if s.rd .CH_MODE c = 1 && s.rdN .edgeAt c = s.now + 1 then s.rdWas .CH_SPEED c else s.rd .CH_SPEED c
  let p := if s.rd .CH_MODE c = 2 then s.rd .chCount c + fdiv (v * ((s.now : Int) - s.rd .ssiLast c)) (10 ^ 8) else s.rd .chCount c
  let s := (s.wr48 .LATCH_POS c p).wr .LATCH_TIME c s.now
  let s := ((s.wr .LATCH_SPEED c v).count .LATCH_COUNT c).chEvent c 4
  let s := s.wr .latchDone c 1
  if s.rd .LATCH_REPEAT c = 1 then s else s.wr .latchArmed c 0

/-- Whether the event of the latch of channel `c` falls in the present cycle (R179). -/
def State.latchDue (s : State) (c : Nat) : Bool :=
  s.rd .latchArmed c = 1 &&
  match s.rdN .LATCH_SRC c with
  | 1 => s.rdN .lineAtZ c = s.now + 1 && s.counting c
  | 2 =>
    let i := s.rdN .LATCH_SENSE c % 128
    s.rdN .senseAt i = s.now + 1 && s.sense i ≠ s.bit .LATCH_SENSE c 8
  | 3 => s.rd .latchDone c = 0 && decide (s.rdN .LATCH_AT c ≤ s.ring)
  | _ => false

/-- LATCH_CAPTURE (R179). -/
def execLatchCapture (t : Nat) (c : Fin 16) (s : State) : Host.Outcome State Fault Refusal :=
  let s := s.at t
  .next (if s.latchDue c then s.capture c else s)

/-- A write of LATCH_AT (R179): whether ring time has yet to reach the new instant. -/
def State.latchTime (s : State) (c : Nat) : State := s.wr .latchDone c (ofBool (decide (s.rdN .LATCH_AT c ≤ s.ring)))

/-- The latch of channel `c` armed by a write of LATCH_SRC (R179). An instant that ring time has already passed is not reached. -/
def State.armLatch (s : State) (c : Nat) : State :=
  (s.wr .latchArmed c (ofBool (s.rd .LATCH_SRC c ≠ 0))).latchTime c

-- sense and limit inputs

/-- LIMIT_STATE of axis `n` follows its inputs; LIMIT_BOTH is held while both are active (R183, R184). -/
def State.limitInputs (s : State) (n : Nat) : State :=
  let on (r : Reg) : Bool := decide (s.rdN r n < 128) && s.sense (s.rdN r n)
  let v := (if on .LIMIT_NEG then 1 else 0) + (if on .LIMIT_POS then 2 else 0)
  let s := s.wr .LIMIT_STATE n v
  if v = 3 then s.detectHeld (blkAxis n) 0x1B else s.endCause (blkAxis n) 0x1B

/-- A limit input `i` becomes active in the present cycle: the find of a homing search of axis `n` by that input (R130, R132). The
position at the cycle of the edge, on the straight line between the marks, is given the home value at the next mark. After a stall find of the
same pass it counts in place of that (R130): the axis stands already. -/
def State.limitFind (s : State) (i n : Nat) : State :=
  match (s.planner n).act with
  | none => s
  | some m =>
    let stalled := m.method = 3 && s.rd .hmPhase n = 3 && s.rdN .hmPass n = s.pass
    if m.kind = 9 && (m.method = 2 || m.method = 3) && (s.rd .hmPhase n = 1 || stalled) && s.rd .hmFoundAt n = 0 &&
        s.rdN (if m.homeDir < 0 then .LIMIT_NEG else .LIMIT_POS) n = i then
      let x := s.rd .posQ n + fdiv (((s.planner n).nxt.x - s.rd .posQ n) * (s.now - s.rdN .PASS_MARK_TIME 0 : Nat)) 5000
      let s := s.iff (!stalled) (fun s => ((s.wr .hmFoundAt n (s.now + 1)).wr .hmPass n s.pass).count .HOME_COUNT n)
      ((s.wr .asgPend n 2).wr .asgVal n (m.homeVal - fdiv x 65536)).wr .asgStall n 2
    else s

/-- The filtered active level of input `i` becomes `act` (R182): an edge, which serves limits, homing searches and WAIT records (R68, R130, R184). -/
def State.senseChange (s : State) (i : Nat) (act : Bool) : State :=
  if s.sense i = act then s
  else
    let lo : Bool := i < 64
    let b := i % 64
    let s := if lo then s.wrBit .SENSE_LO 0 b act else s.wrBit .SENSE_HI 0 b act
    let s := s.raise (if act then (if lo then .SENSE_RISE_LO else .SENSE_RISE_HI)
      else (if lo then .SENSE_FALL_LO else .SENSE_FALL_HI)) 0 (2 ^ b)
    let s := (s.count .SENSE_EDGES i).wr .senseAt i (s.now + 1)
    let bound := (List.range 64).filter (fun n => s.rdN .LIMIT_NEG n = i || s.rdN .LIMIT_POS n = i)
    let s := s.forList bound State.limitInputs
    let s := if act then s.forList bound (State.limitFind · i) else s
    s.forAll 64 (fun s n => s.senseWait i act n)

/-- Whether the present cycle can decide a filtered level of input `i`: it is one of its samples, and SENSE_FILTER samples have come since its
last change (R182; log entry 163). -/
def State.senseDecides (s : State) (i : Nat) : Bool :=
  s.now % 100 = 0 && (s.rd .senseChg i = 0 || decide (s.rdN .senseChg i + 100 * s.rdN .SENSE_FILTER i ≤ s.now + 1))

/-- SENSE_EDGE (R182): the filtered level of terminal `i` changes. -/
def execSenseEdge (t : Nat) (i : Fin 128) (high : Bool) (s : State) : Host.Outcome State Fault Refusal :=
  let s := s.at t
  let act : Bool := high ≠ (s.rd .SENSE_INVERT i = 1)
  .next (
    if s.sense i = act || !s.senseDecides i then s
    else (s.wr .senseChg i (s.now + 1)).senseChange i act)

/-- Whether limit input `b` of axis `n` (0 negative, 1 positive) was active before the present cycle (R45, R184). -/
def State.limitSeen (s : State) (n b : Nat) : Bool :=
  let i := if b = 0 then s.rdN .LIMIT_NEG n else s.rdN .LIMIT_POS n
  decide (i < 128) && (s.sense i ≠ (s.rdN .senseAt i = s.now + 1))

-- emulation

/-- Whether the terminals of emulation output `e` are outputs (R169, R185). -/
def State.emOn (s : State) (e : Nat) : Bool := s.rd .EM_SOURCE e ≠ 0 && s.mode ≠ 11

/-- The output count of output `e` at the present instant: its edges lie evenly in the pass (R185; log entry 165). -/
def State.emCount (s : State) (e : Nat) : Int :=
  let c := s.rd .EM_COUNT e
  let d := s.rd .emNext e - c
  let j : Int := fdiv (d.natAbs * (s.now - s.rdN .PASS_MARK_TIME 0 : Nat)) 5000
  c + (if d < 0 then -j else j)

/-- The levels of A, B and Z of output `e` (R185): A leads B while the count rises, both are high at the counts divisible by four, and Z is high at
the counts divisible by EM_Z_PERIOD while both are (log entry 165). -/
def State.emLevels (s : State) (e : Nat) : Bool × Bool × Bool :=
  if !s.emOn e then (false, false, false)
  else
    let c := s.emCount e
    let a : Bool := c % 4 = 0 || c % 4 = 3
    let b : Bool := c % 4 = 0 || c % 4 = 1
    (a, b, a && b && s.rd .EM_Z_PERIOD e ≠ 0 && c % s.rd .EM_Z_PERIOD e = 0)

/-- Emulation output `e` at a mark (R185): the count reached, the count its source asks for, and how far the pass can carry it. An output whose
source is frozen holds its level. -/
def State.emulate (s : State) (e : Nat) : State :=
  if !s.emOn e then s
  else
    let k := s.rdN .EM_SOURCE e
    let j := s.rdN .EM_NUM_SRC e
    let frozen : Bool := k = 2 && (!s.bit .CH_FLAGS j 0 || s.bit .CH_FLAGS j 3)
    let src := if k = 1 then s.rd .CMD_POS j else s.rd .CH_POS j
    let E := if frozen then s.rd .emE e else fdiv (src * s.rd .EM_RATIO_NUM e) (s.rd .EM_RATIO_DEN e)
    let c := s.rd .emNext e
    let most : Int := (5000 / s.rdN .EM_MIN_GAP e : Nat)
    let d := if frozen then 0 else clampInt (-most) most (E - c)
    let left := (E - c - d).natAbs
    let s := ((s.wr48 .EM_COUNT e c).wr .emE e E).wr .emNext e (c + d)
    let s := s.wr .EM_BACKLOG e (min left (2 ^ 32 - 1))
    if left = 0 || frozen then s else (s.count .EM_OVERRATE e).detect (blkFb (12 + e)) 0x15

end Sys2Proof.Machine
end

