-- ==== Sys2Proof/Machine/Placer.lean ====
section
/-! DEFINITION. The placer (R216, R219–R225, R230): slot words, placement, the fit test, fallback plans and basin banks. It works
on a state whose registers hold the candidate committed set, and on the programs that set makes current. -/
namespace Sys2Proof.Machine

/-- A placed slot before numbering (R216). `ctx` is 0xFF for a module context; `item` is the work item plus 1, 0 for built-in
work. -/
structure PSlot where
  engine : Nat
  start  : Nat
  budget : Nat
  kind   : Nat
  ctx    : Nat
  prog   : Nat
  period : Nat
  phase  : Nat
  item   : Nat
  deriving DecidableEq, Repr

/-- The slot word of R216. -/
def PSlot.word (p : PSlot) : Word64 :=
  BitVec.ofNat 64 (p.engine + 8 + 2 ^ 4 * p.start + 2 ^ 18 * p.budget + 2 ^ 32 * p.prog +
    (if p.ctx = 0xFF then 0 else 2 ^ 48 * p.ctx) + 2 ^ 54 * p.kind + 2 ^ 58 * p.period + 2 ^ 60 * p.phase +
    (if p.ctx = 0xFF then 2 ^ 63 else 0))

/-- The fields of a slot word (R216). -/
def slotEngine (w : Word64) : Nat := bitsOf w.toNat 2 0
def slotValid (w : Word64) : Bool := w.toNat.testBit 3
def slotStart (w : Word64) : Nat := bitsOf w.toNat 17 4
def slotBudget (w : Word64) : Nat := bitsOf w.toNat 31 18
def slotProg (w : Word64) : Nat := bitsOf w.toNat 47 32
def slotCtx (w : Word64) : Nat := if w.toNat.testBit 63 then 0xFF else bitsOf w.toNat 53 48
def slotKind (w : Word64) : Nat := bitsOf w.toNat 57 54
def slotPeriod (w : Word64) : Nat := bitsOf w.toNat 59 58
def slotPhase (w : Word64) : Nat := bitsOf w.toNat 62 60
/-- Whether a slot runs in pass `p` (R216). -/
def slotRuns (w : Word64) (p : Nat) : Bool := slotValid w && p % 2 ^ slotPeriod w = slotPhase w
/-- A slot word moved to engine `e`. -/
def slotToEngine (w : Word64) (e : Nat) : Word64 := BitVec.ofNat 64 (w.toNat / 8 * 8 + e)

/-- The end of a slot in CKE cycles. -/
def PSlot.stop (p : PSlot) : Nat := p.start + p.budget

/-- Budgets of the built-in steps of KIND 1 to 4 (R219). -/
def builtinBudget (k : Nat) : Nat := if k = 1 then 110 else if k = 2 then 330 else if k = 3 then 90 else 120

/-- Converter of axis `n`, and its inputs for phases A and B (R8). -/
def cvOf (n : Nat) : Nat := 2 * (n / 8) + (if n % 8 < 4 then 0 else 1)
def inputOf (n ph : Nat) : Nat := 2 * (n % 4) + ph

/-- The entries of converter `c` in order (R194). -/
def State.entries (s : State) (c : Nat) : List Nat :=
  (List.range (s.rdN .SEQ_LEN c)).map (fun k => s.rdN .SEQ_ENTRY (16 * c + k))

/-- Fields of a sequence entry (R194). -/
def entryInput (e : Nat) : Nat := bitsOf e 3 0
def entryGain (e : Nat) : Nat := bitsOf e 5 4
def entryCapture (e : Nat) : Bool := e.testBit 6
def entrySample (e : Nat) : Nat := bitsOf e 15 8

/-- Members of the lockstep group (R195). -/
def State.lockstep (s : State) : List Nat := (List.range 16).filter (fun c => s.rd .CV_MODE c = 1)

/-- Slot length L_k of entry `k` of the lockstep group: the largest S + 16 over the members that have the entry (R195). -/
def State.entryLen (s : State) (k : Nat) : Nat :=
  (s.lockstep.map (fun c => if k < s.rdN .SEQ_LEN c then entrySample (s.rdN .SEQ_ENTRY (16 * c + k)) + 16 else 0)).foldl max 0

/-- ready(a) of R220 in CKE cycles. `wcet` gives the worst case of a harvest program in CKM cycles. -/
def State.readyAxis (s : State) (wcet : Nat → Nat) (n : Nat) : Nat :=
  let c := cvOf n
  if s.rd .CV_MODE c ≠ 1 || s.rd .LOCK_TRIGGER 0 = 1 then 0
  else
    let done (k e : Nat) : Nat :=
      if entryInput e = inputOf n 0 || entryInput e = inputOf n 1 then
        5 * (s.rdN .LOCK_OFFSET 0 + ((List.range k).map s.entryLen).sum + entrySample e + 16) + 16
          + 2 * wcet (s.rdN .HARVEST_PROG c)
      else 0
    (((s.entries c).zipIdx).map (fun p => done p.2 p.1)).foldl max 0

/-- Axes with AXIS_USE 0x01 in ascending order, each leader before its followers (R220, R88). -/
def State.chainOrder (s : State) : List Nat :=
  let rec add (fuel : Nat) (acc : List Nat) (n : Nat) : List Nat :=
    match fuel with
    | 0 => acc
    | f + 1 =>
      if acc.contains n || s.rd .AXIS_USE n ≠ 1 then acc
      else
        let acc := if s.rd .FOLLOW_SOURCE n = 3 then add f acc (s.rdN .SOURCE_NUM n) else acc
        if acc.contains n then acc else acc ++ [n]
  (List.range 64).foldl (add 9) []

/-- A list cut into blocks of the given sizes. -/
def cutBlocks : List Nat → List Nat → List (List Nat)
  | [], _ => []
  | k :: ks, l => l.take k :: cutBlocks ks (l.drop k)

/-- Contiguous blocks whose sizes differ by at most one, the larger ones last (R220). -/
def splitBlocks (l : List Nat) (m : Nat) : List (List Nat) :=
  if m = 0 then [] else cutBlocks ((List.range m).map (fun i => l.length / m + (if m - l.length % m ≤ i then 1 else 0))) l

/-- Whether two slots run in a common pass (R221). -/
def PSlot.meet (p q : PSlot) : Bool :=
  (List.range 8).any (fun c => c % 2 ^ p.period = p.phase && c % 2 ^ q.period = q.phase)

/-- Whether two slots overlap in time. -/
def PSlot.overlap (p q : PSlot) : Bool := p.start < q.stop && q.start < p.stop

/-- The program of number `p` among `ps`. -/
def findProg (ps : List Prog) (p : Nat) : Option Prog := ps.find? (fun x => x.num = p)

/-- Ledger words a slot writes, and words it accesses, in the record of axis `a`, as masks (R214, R221). A built-in step accesses
words 0–55 of its own axis. -/
def PSlot.writes (ps : List Prog) (p : PSlot) (a : Nat) : Nat :=
  if p.kind = 5 then
    match findProg ps p.prog with
    | some x => (if p.ctx = a then x.ctxWrite else 0) ||| (if x.absAxes.testBit a then x.absWrite else 0)
    | none => 0
  else if p.ctx ≠ a then 0
  else if p.kind = 1 then 0xFF * 2 ^ 48 else if p.kind = 2 then 0xFFFFFF else if p.kind = 3 then 0xF * 2 ^ 24 else 0xFF * 2 ^ 40
def PSlot.accesses (ps : List Prog) (p : PSlot) (a : Nat) : Nat :=
  if p.kind = 5 then
    match findProg ps p.prog with
    | some x => (if p.ctx = a then x.ctxRead ||| x.ctxWrite else 0) |||
        (if x.absAxes.testBit a then x.absRead ||| x.absWrite else 0)
    | none => 0
  else if p.ctx = a then 2 ^ 56 - 1 else 0

/-- Whether two slots declare, between them, a write and any access to the same ledger word (R221). Two built-in steps never do:
they access different records, or stand one after the other. -/
def PSlot.clash (ps : List Prog) (p q : PSlot) : Bool :=
  (p.kind = 5 || q.kind = 5) && p.engine ≠ q.engine && (List.range 64).any (fun a =>
    (p.writes ps a &&& q.accesses ps a) ≠ 0 || (q.writes ps a &&& p.accesses ps a) ≠ 0)

/-- Whether slot `p` may stand beside the placed slots (R221). -/
def PSlot.fits (ps : List Prog) (placed : List PSlot) (p : PSlot) : Bool :=
  placed.all (fun q => !(p.meet q && p.overlap q && (p.engine = q.engine || p.clash ps q)))

/-- Cycles engine `e` carries in the passes congruent to `c` modulo 8. -/
def loadIn (l : List PSlot) (e c : Nat) : Nat :=
  ((l.filter (fun p => p.engine = e && c % 2 ^ p.period = p.phase)).map PSlot.budget).sum

/-- The largest load of engine `e` in any pass (R236). -/
def maxLoad (l : List PSlot) (e : Nat) : Nat := ((List.range 8).map (loadIn l e)).foldl max 0

/-- The largest load of engine `e` in the passes of period `per` and phase `ph`. -/
def loadAt (l : List PSlot) (e per ph : Nat) : Nat :=
  (((List.range 8).filter (fun c => c % 2 ^ per = ph)).map (loadIn l e)).foldl max 0

/-- The phase with the least load, the lowest on a tie (R220). -/
def bestPhase (l : List PSlot) (e per : Nat) : Nat :=
  (List.range (2 ^ per)).foldl (fun b ph => if loadAt l e per ph < loadAt l e per b then ph else b) 0

/-- The earliest of the starts `lo` and the ends of placed slots after it that fits and ends by `hi`. -/
def earliest (ps : List Prog) (placed : List PSlot) (p : PSlot) (lo hi : Nat) : Option PSlot :=
  let cands := lo :: (placed.map PSlot.stop).filter (fun t => lo < t)
  cands.foldl (fun best t =>
    let q := { p with start := t }
    if q.fits ps placed && decide (t + p.budget ≤ hi) && (match best with | some b => decide (t < b.start) | none => true)
    then some q else best) none

/-- Bounds on start and end of work item `w`: WORK_AFTER (R220). None where the step it follows is not placed. -/
def State.workBounds (s : State) (placed : List PSlot) (w : Nat) : Option (Nat × Nat) :=
  let k := s.rdN .WORK_AFTER w
  if k = 0 then some (0, 9950)
  else
    let step (j : Nat) := placed.find? (fun p => p.kind = j && p.item = 0 && p.ctx = s.rdN .WORK_CTX w)
    match step (k - 1) with
    | none => none
    | some a => if k = 5 then some (a.stop, 9950) else
      match step k with
      | none => none
      | some b => some (a.stop, b.start)

/-- Built-in slots of axis `n` on engine `e` (R220). -/
def State.placeAxis (s : State) (wcet : Nat → Nat) (placed : List PSlot) (e n : Nat) : List PSlot :=
  let prev := ((placed.filter (fun p => p.engine = e)).map PSlot.stop).foldl max 0
  let lead := if s.rd .FOLLOW_SOURCE n = 3 then
      ((placed.filter (fun p => p.kind = 2 && p.ctx = s.rdN .SOURCE_NUM n)).map PSlot.stop).foldl max 0 else 0
  let t := max (max prev (s.readyAxis wcet n)) lead
  placed ++ [⟨e, t, 110, 1, n, 0, 0, 0, 0⟩, ⟨e, t + 110, 330, 2, n, 0, 0, 0, 0⟩,
    ⟨e, t + 440, 90, 3, n, 0, 0, 0, 0⟩, ⟨e, t + 530, 120, 4, n, 0, 0, 0, 0⟩]

/-- The slot of work item `w` before placement. -/
def State.workSlot (s : State) (ps : List Prog) (w : Nat) : PSlot :=
  ⟨0, 0, match findProg ps (s.rdN .WORK_PROG w) with | some x => x.wcet | none => 0, 5, s.rdN .WORK_CTX w,
    s.rdN .WORK_PROG w, s.rdN .WORK_PERIOD w, 0, w + 1⟩

/-- Pinned work item `w` placed (R220). One that fits nowhere is put behind everything on its engine, and the fit test finds it. -/
def State.placePinned (s : State) (ps : List Prog) (placed : List PSlot) (w : Nat) : List PSlot :=
  let e := s.rdN .WORK_PIN_ENGINE w
  let p := s.workSlot ps w
  let p := { p with engine := e, phase := bestPhase placed e p.period }
  let b := (s.workBounds placed w).getD (0, 9950)
  if s.rd .WORK_PIN_START w ≠ 0xFFFF then placed ++ [{ p with start := s.rdN .WORK_PIN_START w }]
  else
    let last := ((placed.filter (fun q => q.engine = e)).map PSlot.stop).foldl max b.1
    placed ++ [(earliest ps placed p b.1 b.2).getD { p with start := last }]

/-- Any other work item placed: on the engine of its axis first, then on the others in ascending order of load (R220). -/
def State.placeWork (s : State) (ps : List Prog) (used : List Nat) (placed : List PSlot) (w : Nat) : List PSlot :=
  let p := s.workSlot ps w
  let b := (s.workBounds placed w).getD (0, 9950)
  let own := ((placed.find? (fun q => q.item = 0 && q.ctx = p.ctx)).map PSlot.engine).toList
  let load (e : Nat) := loadAt placed e p.period (bestPhase placed e p.period)
  let rec ins (e : Nat) : List Nat → List Nat
    | [] => [e]
    | x :: l => if load e < load x then e :: x :: l else x :: ins e l
  let cands := own ++ (used.filter (fun e => !own.contains e)).foldl (fun acc e => ins e acc) []
  let attempt (e : Nat) : Option PSlot :=
    let q := { p with engine := e, phase := bestPhase placed e p.period }
    if 8000 < loadAt placed e q.period q.phase + q.budget then none else earliest ps placed q b.1 b.2
  match cands.findSome? attempt with
  | some q => placed ++ [q]
  | none =>
    let e := cands.headD 0
    let t := max b.1 (((placed.filter (fun q => q.engine = e)).map PSlot.stop).foldl max 0)
    placed ++ [{ p with engine := e, start := t, phase := bestPhase placed e p.period }]

/-- The built-in work of every axis placed on the engines `used` (R220). -/
def State.placeAxes (s : State) (ps : List Prog) (used : List Nat) : List PSlot :=
  let wcet (h : Nat) : Nat := match findProg ps h with | some x => x.wcet | none => 0
  ((splitBlocks s.chainOrder used.length).zip used).foldl (fun acc b => b.1.foldl (fun acc n => s.placeAxis wcet acc b.2 n) acc) []

/-- The work items to be placed (R219, R238), without the `omitted` ones. -/
def State.workItems (s : State) (omitted : List Nat) : List Nat :=
  (List.range 256).filter (fun w => s.rd .WORK_PROG w ≠ 0 && !omitted.contains w)

/-- The built-in work on `used`, and every pinned item on the engine that it names, whether that engine is used or not: the windows of the
claim of R225. -/
def State.pinnedPlan (s : State) (ps : List Prog) (used : List Nat) : List PSlot :=
  ((s.workItems []).filter (fun w => s.rd .WORK_PIN_ENGINE w ≠ 0xFF)).foldl (s.placePinned ps) (s.placeAxes ps used)

/-- Whether the start of a slot is fixed by WORK_PIN_START. -/
def State.startFixed (s : State) (p : PSlot) : Bool :=
  p.item ≠ 0 && s.rdN .WORK_PIN_ENGINE (p.item - 1) = p.engine && s.rd .WORK_PIN_START (p.item - 1) ≠ 0xFFFF

/-- The end of what slot `p` must come after among the placed slots (R13, R220): the earlier steps of its axis, the profile of the leader, the
step that its work item follows, and, for a step, the work items that must end before it. -/
def State.after (s : State) (placed : List PSlot) (p : PSlot) : Nat :=
  let before (q : PSlot) : Bool :=
    if p.item ≠ 0 then q.item = 0 && q.ctx = p.ctx && decide (q.kind < s.rdN .WORK_AFTER (p.item - 1))
    else if q.item ≠ 0 then q.ctx = p.ctx && decide (2 ≤ s.rdN .WORK_AFTER (q.item - 1)) && s.rdN .WORK_AFTER (q.item - 1) ≤ p.kind
    else (q.ctx = p.ctx && q.kind < p.kind) || (s.rd .FOLLOW_SOURCE p.ctx = 3 && q.ctx = s.rdN .SOURCE_NUM p.ctx && q.kind = 2)
  ((placed.filter before).map PSlot.stop).foldl max p.start

/-- The slots in ascending order of START and, within one START, of ENGINE (R216). -/
def numberSlots (l : List PSlot) : List PSlot :=
  let before (p q : PSlot) : Bool := p.start < q.start || (p.start = q.start && p.engine ≤ q.engine)
  let rec ins (p : PSlot) : List PSlot → List PSlot
    | [] => [p]
    | q :: r => if before p q then p :: q :: r else q :: ins p r
  l.foldr ins []

/-- Overlaps of slots that declare a write and an access to one ledger word removed by delaying the later slot (R221): the slots are taken in
the order of their starts, and each stands at its start, or as soon after it as it may. A start that WORK_PIN_START fixes stays (log
entry 143). -/
def State.delayed (s : State) (ps : List Prog) (l : List PSlot) : List PSlot :=
  let items := l.filter (fun p => p.item ≠ 0)
  if items.any (fun p => l.any (fun q => p.meet q && p.overlap q && p.clash ps q)) then
    let fixed := l.filter s.startFixed
    (numberSlots l).foldl (fun acc p =>
      if s.startFixed p then acc ++ [p]
      else
        let around := acc ++ fixed.filter (fun q => q.engine = p.engine && !acc.contains q)
        acc ++ [(earliest ps around p (s.after acc p) 16383).getD p]) []
  else l

/-- The whole placement on the engines `used`, without the work items `omitted` (R220). An item pinned to an engine that is not used is placed
as any other (log entry 143). -/
def State.placeAll (s : State) (ps : List Prog) (used omitted : List Nat) : List PSlot :=
  let pinned (w : Nat) : Bool := used.contains (s.rdN .WORK_PIN_ENGINE w)
  let l := ((s.workItems omitted).filter pinned).foldl (s.placePinned ps) (s.placeAxes ps used)
  s.delayed ps (((s.workItems omitted).filter (fun w => !pinned w)).foldl (s.placeWork ps used) l)

/-- Why a plan does not fit: RESOURCE class and number, and DETAIL (R221). -/
structure NoFit where
  cls    : Nat
  num    : Nat
  detail : Nat
  deriving DecidableEq, Repr

/-- Whether the order of WORK_AFTER and the ledger and engine overlaps hold for a placed work item (R221). -/
def State.workOk (s : State) (ps : List Prog) (l : List PSlot) (p : PSlot) : Bool :=
  p.item = 0 || ((match s.workBounds l (p.item - 1) with
    | none => false
    | some b => decide (b.1 ≤ p.start ∧ p.stop ≤ b.2)) && p.fits ps (l.filter (fun q => q ≠ p)))

/-- The fit test of R221: none where the plan fits. -/
def State.fitTest (s : State) (ps : List Prog) (l : List PSlot) : Option NoFit :=
  let tight := (List.range 8).foldl (fun b e => if maxLoad l b < maxLoad l e then e else b) 0
  let last := l.foldl (fun (b : PSlot) p => if b.stop < p.stop then p else b) ⟨0, 0, 0, 0, 0, 0, 0, 0, 0⟩
  if 8000 < maxLoad l tight then some ⟨7, tight, maxLoad l tight - 8000⟩
  else if 9950 < last.stop || !(l.all (s.workOk ps l)) then some ⟨7, last.engine, last.stop - 9950⟩
  else if 4096 < l.length then some ⟨6, 4095, l.length - 4096⟩
  else none

/-- The spare of a placement under spare-held (R222): SPARE_ENGINE, or the highest-numbered engine not failing. -/
def State.spareOf (s : State) (failing : Nat) : Option Nat :=
  if s.rd .REDUNDANCY_POLICY 0 = 1 then none
  else if failing.testBit (s.rdN .SPARE_ENGINE 0) then ((List.range 8).filter (fun e => !failing.testBit e)).getLast?
  else some (s.rdN .SPARE_ENGINE 0)

/-- Cycles of all work in its heaviest pass (R221, last row): the built-in work and every item, wherever it is pinned, as one engine would carry
them, each item in the phase with the least load. -/
def State.allWork (s : State) (ps : List Prog) : Nat :=
  maxLoad ((s.workItems []).foldl (fun l w =>
    let p := s.workSlot ps w
    l ++ [{ p with engine := 0, phase := bestPhase l 0 p.period }]) (s.placeAxes ps [0])) 0

/-- Work items that may be left out, in descending order (R223). -/
def State.shedItems (s : State) : List Nat :=
  ((List.range 256).filter (fun w => s.rd .WORK_PROG w ≠ 0 && s.rd .WORK_SHED w = 1)).reverse

/-- A plan on the engines `used`, leaving out shed items in descending order until it fits (R223, R230). On no engine nothing fits. -/
def State.placeShedding (s : State) (ps : List Prog) (used : List Nat) : Option (List PSlot) :=
  if used.isEmpty then none
  else ((List.range (s.shedItems.length + 1)).findSome? (fun k =>
    let l := s.placeAll ps used (s.shedItems.take k)
    match s.fitTest ps l with
    | none => some (numberSlots l)
    | some _ => none))

/-- A placement with its fallback plans (R220–R223): the numbered slots, the fallback plan of each engine that carries slots as
slot words, and the spare; or why it does not fit. -/
def State.place (s : State) (ps : List Prog) (failing : Nat) : NoFit ⊕ (List PSlot × Tbl (List Word64) × Option Nat) :=
  let spare := s.spareOf failing
  let used := (List.range 8).filter (fun e => !failing.testBit e && some e ≠ spare)
  if used.isEmpty then .inl ⟨7, 0xFFFF, s.allWork ps⟩
  else
    let l := numberSlots (s.placeAll ps used [])
    match s.fitTest ps l with
    | some x => .inl x
    | none =>
      let carrying := used.filter (fun e => l.any (fun p => p.engine = e))
      match spare with
      | some sp =>
        .inr (l, carrying.map (fun e => (e, l.map (fun p => (if p.engine = e then { p with engine := sp } else p).word))), spare)
      | none =>
        let fb := carrying.map (fun e => (e, s.placeShedding ps (used.filter (· ≠ e))))
        match fb.find? (fun p => p.2.isNone) with
        | some (e, _) =>
          let rest := used.filter (· ≠ e)
          let m := s.placeAll ps rest s.shedItems
          .inl ⟨7, e, (rest.map (maxLoad m)).foldl max 0 - 8000⟩
        | none => .inr (l, fb.map (fun p => (p.1, (p.2.getD []).map PSlot.word)), none)

/-- Fallback plans for the loss of any further engine while a fallback plan runs (R230): on all engines that remain. -/
def State.placeFurther (s : State) (ps : List Prog) (failing : Nat) (running : List Word64) : Tbl (List Word64) :=
  let left := (List.range 8).filter (fun e => !failing.testBit e)
  let carrying := left.filter (fun e => running.any (fun w => slotEngine w = e))
  carrying.filterMap (fun e => (s.placeShedding ps (left.filter (· ≠ e))).map (fun l => (e, l.map PSlot.word)))

/-- Traffic weight of queue `q` (R224). -/
def State.basinWeight (ps : List Prog) (q : Nat) : Nat :=
  if 64 ≤ q && q < 72 then 16
  else if q = 72 || q = 73 || q = 75 then 8
  else if 76 ≤ q then 4 + (ps.filter (fun p => p.pushes.testBit q)).length
  else 1

/-- Basin words of queue `q` in the candidate set (R265, R63). -/
def State.basinSize (s : State) (q : Nat) : Nat :=
  if q < 64 then 4 * s.rdN .QUEUE_RECORDS q - 16 else if q = 74 then 0 else s.rdN .BASIN_WORDS q

/-- Queues in descending order of weight, then ascending number (R224). -/
def basinOrder (ps : List Prog) : List Nat :=
  let rec ins (q : Nat) : List Nat → List Nat
    | [] => [q]
    | x :: l => if State.basinWeight ps x < State.basinWeight ps q then q :: x :: l else x :: ins q l
  ((List.range 80).filter (· ≠ 74)).foldl (fun acc q => ins q acc) []

/-- The SDRAM bank of each queue's basin (R224), or the queue that no bank can take. -/
def State.basinBanks (s : State) (ps : List Prog) : Nat ⊕ Tbl Nat :=
  let step (acc : Nat ⊕ (List (Nat × Nat))) (q : Nat) : Nat ⊕ (List (Nat × Nat)) :=
    match acc with
    | .inl q => .inl q
    | .inr m =>
      let used (b : Nat) := ((m.filter (fun p => p.2 = b)).map (fun p => s.basinSize p.1)).sum
      let wt (b : Nat) := ((m.filter (fun p => p.2 = b)).map (fun p => State.basinWeight ps p.1)).sum
      let twin := if 64 ≤ q && q < 68 then q + 4 else if 68 ≤ q && q < 72 then q - 4 else 1000
      let ok (b : Nat) : Bool := decide (used b + s.basinSize q ≤ 262144) && !(m.any (fun p => p.1 = twin && p.2 = b))
      match (List.range 4).filter ok with
      | [] => .inl q
      | b :: bs => .inr (m ++ [(q, bs.foldl (fun x y => if wt y < wt x then y else x) b)])
  match (basinOrder ps).foldl step (.inr []) with
  | .inl q => .inl q
  | .inr m => .inr (m.foldl (fun t p => tset 0 t p.1 p.2) [])

end Sys2Proof.Machine
end

