-- ==== Sys2Proof/Machine/Crypto.lean ====
section
/-! DEFINITION. The three published functions that the spec names without writing them out: the CRC-32 of the IEEE 802.3 FCS (R294),
SHA-256 (R253, R255, R256) and ECDSA P-256 verification (R255). PRESUMED: they are taken from their standards (log entry 15). -/
namespace Sys2Proof.Machine

-- CRC-32

/-- One bit of the reflected CRC-32. -/
def crcBit (c : Nat) : Nat := if c % 2 = 1 then (c / 2) ^^^ 0xEDB88320 else c / 2

/-- One byte. -/
def crcByte (c : Nat) (b : Byte) : Nat :=
  crcBit (crcBit (crcBit (crcBit (crcBit (crcBit (crcBit (crcBit (c ^^^ b.toNat))))))))

/-- The CRC-32 of the IEEE 802.3 FCS over a byte string. -/
def crc32 (bs : List Byte) : Nat := bs.foldl crcByte 0xFFFFFFFF ^^^ 0xFFFFFFFF

-- SHA-256

/-- The first 64 primes, which FIPS 180-4 takes its constants from. -/
def shaPrimes : List Nat := (List.range 312).filter (fun p => 2 ≤ p && (List.range 18).all (fun d => d < 2 || p ≤ d || p % d ≠ 0))

/-- The largest `x` with `x ^ k ≤ v` and below `2 ^ bits`, found from its highest binary digit down. -/
def rootDigits (k v : Nat) : Nat → Nat → Nat
  | 0, x => x
  | bits + 1, x => rootDigits k v bits (if (x + 2 ^ bits) ^ k ≤ v then x + 2 ^ bits else x)

/-- The first 32 bits of the fraction of the `k`-th root of `p`. -/
def rootFraction (k p : Nat) : Nat := rootDigits k (p * 2 ^ (32 * k)) 40 0 % 2 ^ 32

/-- The round constants: the fractions of the cube roots of the primes. -/
def shaK : List Nat := shaPrimes.map (rootFraction 3)

/-- The exclusive or of `x` rotated to the right, in 32 bits, by each of a list of distances. -/
def turned (ns : List Nat) (x : Nat) : Nat := ns.foldl (fun acc n => acc ^^^ (x * (2 ^ 32 + 1) / 2 ^ n % 2 ^ 32)) 0

/-- A digest in progress as the two rows of words that a round shifts: four words of either, the latest first. -/
structure Sha where
  upper : List Nat
  lower : List Nat
  deriving DecidableEq, Repr

/-- The digest before the first block: the fractions of the square roots of the first eight primes. -/
def shaStart : Sha :=
  let h := (shaPrimes.take 8).map (rootFraction 2)
  ⟨h.take 4, h.drop 4⟩

/-- One round: the lower row mixed in by choice, the upper by majority; each row takes one word and loses its oldest. -/
def shaRound (s : Sha) (kw : Nat) : Sha :=
  match s.upper, s.lower with
  | [u, u1, u2, u3], [l, l1, l2, l3] =>
    let mix := kw + l3 + (l2 ^^^ (l &&& (l1 ^^^ l2))) + turned [6, 11, 25] l
    ⟨[(mix + turned [2, 13, 22] u + ((u &&& (u1 ||| u2)) ||| (u1 &&& u2))) % 2 ^ 32, u, u1, u2], [(u3 + mix) % 2 ^ 32, l, l1, l2]⟩
  | _, _ => s

/-- The message schedule: `n` more words in front of `w`, which holds the latest first. -/
def shaExtend : Nat → List Nat → List Nat
  | 0, w => w
  | n + 1, w =>
    let near := w.getD 1 0
    let far := w.getD 14 0
    let word := w.getD 6 0 + w.getD 15 0 + (turned [17, 19] near ^^^ near / 2 ^ 10) + (turned [7, 18] far ^^^ far / 2 ^ 3)
    shaExtend n (word % 2 ^ 32 :: w)

/-- The big-endian 32-bit words of a byte string. -/
def beWords : Nat → List Byte → List Nat
  | 0, _ => []
  | n + 1, bs => beNat (bs.take 4) :: beWords n (bs.drop 4)

/-- Two rows added word by word. -/
def addRows (x y : List Nat) : List Nat := List.zipWith (fun a b => (a + b) % 2 ^ 32) x y

/-- `n` blocks of 64 bytes in turn: the rounds of each are added to what stood before it. -/
def shaBlocks : Nat → Sha → List Byte → Sha
  | 0, s, _ => s
  | n + 1, s, bs =>
    let t := (List.zipWith (· + ·) shaK (shaExtend 48 (beWords 16 bs).reverse).reverse).foldl shaRound s
    shaBlocks n ⟨addRows s.upper t.upper, addRows s.lower t.lower⟩ (bs.drop 64)

/-- What closes the last block: a one bit, zeros, and the length in bits. -/
def shaTail (l : Nat) : List Byte := 0x80 :: List.replicate ((119 - l % 64) % 64) 0 ++ (leBytes 8 (8 * l)).reverse

/-- SHA-256 of a byte string as a number, first byte most significant. -/
def sha256 (bs : List Byte) : Nat :=
  let m := bs ++ shaTail bs.length
  let s := shaBlocks (m.length / 64) shaStart m
  (s.upper ++ s.lower).foldl (fun acc x => acc * 2 ^ 32 + x) 0

-- ECDSA P-256

/-- The field, the group order, the curve constant b and the base point of P-256. -/
def p256 : Nat := 0xffffffff00000001000000000000000000000000ffffffffffffffffffffffff
def n256 : Nat := 0xffffffff00000000ffffffffffffffffbce6faada7179e84f3b9cac2fc632551
def b256 : Nat := 0x5ac635d8aa3a93e7b3ebbd55769886bc651d06b0cc53b0f63bce3c3e27d2604b
def gx256 : Nat := 0x6b17d1f2e12c4247f8bce6e563a440f277037d812deb33a0f4a13945d898c296
def gy256 : Nat := 0x4fe342e2fe1a7f9b8ee7eb4a7c0f9e162bce33576b315ececbb6406837bf51f5

/-- `a ^ e` modulo `m`, by the low `fuel` binary digits of `e`. -/
def powMod (m : Nat) : Nat → Nat → Nat → Nat → Nat
  | 0, _, _, acc => acc
  | f + 1, a, e, acc => powMod m f (a * a % m) (e / 2) (if e % 2 = 1 then acc * a % m else acc)

/-- The inverse modulo a prime. -/
def invMod (m a : Nat) : Nat := powMod m 256 (a % m) (m - 2) 1

/-- Point addition on P-256; none is the point at infinity. -/
def ecAdd (x y : Option (Nat × Nat)) : Option (Nat × Nat) :=
  match x, y with
  | none, q => q
  | p, none => p
  | some (x1, y1), some (x2, y2) =>
    if x1 = x2 && (y1 + y2) % p256 = 0 then none
    else
      let l := if x1 = x2 then (3 * x1 * x1 + (p256 - 3)) * invMod p256 (2 * y1) % p256
        else (y2 + p256 - y1) * invMod p256 (x2 + p256 - x1) % p256
      let x3 := (l * l + 2 * p256 - x1 - x2) % p256
      some (x3, (l * (x1 + p256 - x3) + p256 - y1) % p256)

/-- Scalar multiplication by the low `fuel` binary digits of `k`. -/
def ecMul : Nat → Nat → Option (Nat × Nat) → Option (Nat × Nat) → Option (Nat × Nat)
  | 0, _, _, acc => acc
  | f + 1, k, p, acc => ecMul f (k / 2) (ecAdd p p) (if k % 2 = 1 then ecAdd acc p else acc)

/-- ECDSA P-256: whether (r, s) signs the digest `z` under the key (qx, qy). -/
def ecdsaOk (qx qy r s z : Nat) : Bool :=
  if r = 0 || n256 ≤ r || s = 0 || n256 ≤ s || p256 ≤ qx || p256 ≤ qy then false
  else if qy * qy % p256 ≠ (qx * qx * qx + (p256 - 3) * qx + b256) % p256 then false
  else
    let w := invMod n256 s
    match ecAdd (ecMul 256 (z * w % n256) (some (gx256, gy256)) none) (ecMul 256 (r * w % n256) (some (qx, qy)) none) with
    | none => false
    | some (x, _) => x % n256 = r

end Sys2Proof.Machine
end

