-- ==== Sys2Proof/Machine/Reply.lean ====
section
/-! DEFINITION. Transactions (R293–R295): the digest, the reply cache, retries, conflicts, and the replies of operations that end
later. Every host operation goes through `transact`. -/
namespace Sys2Proof.Machine

/-- Operations of R286. -/
def opRead : Nat := 1
def opWrite : Nat := 2
def opReadBlock : Nat := 3
def opWriteBlock : Nat := 4
def opCommit : Nat := 5
def opSweep : Nat := 6
def opTime : Nat := 7
def opNote : Nat := 8

/-- What an operation answers: a result code with data, or a reply that follows when the operation has ended. -/
inductive Answer where
  | done (code : Nat) (data : List Byte)
  | later
  deriving DecidableEq, Repr

/-- Whether an address is that of a head (R281). -/
def isHead (a : Nat) : Bool := 0x400 ≤ a && a ≤ 0x403

/-- Head contact in the cycle `e` (R321): the island timer starts again, and a contact later than its expiry does not undo it (R16); in ISLAND
it ends the mode at the next mark. -/
def State.contactAt (s : State) (e : Nat) : State :=
  let late := s.inMode [5, 6, 7] && s.rd .ISLAND_TIMEOUT 0 ≠ 0 &&
    decide (s.rdN .islandFrom 0 + 100000 * s.rdN .ISLAND_TIMEOUT 0 < e)
  let s := s.iff late (fun s => s.wr .islandExp 0 1)
  let s := (s.wr .LAST_CONTACT 0 e).wr .islandFrom 0 e
  if s.mode = 8 then s.wr .contactPending 0 1 else s

/-- The contact of a sweep whose last bit has been received by now (R321): `sweepEnd` is that cycle plus 1. -/
def State.dueContact (s : State) : State :=
  if s.rd .sweepEnd 0 ≠ 0 && decide (s.rdN .sweepEnd 0 ≤ s.now) then (s.contactAt (s.rdN .sweepEnd 0 - 1)).wr .sweepEnd 0 0 else s

/-- Head contact in the present cycle. -/
def State.contact (s : State) : State := s.dueContact.contactAt s.now

/-- The header bytes of R285 with RETRY, FLAGS and STATUS at 0, and the data: what the digest of R294 is taken over. -/
def digestBytes (kind op dest src tag index sub result : Nat) (data : List Byte) : List Byte :=
  [BitVec.ofNat 8 (0x10 + kind), BitVec.ofNat 8 op] ++ leBytes 2 dest ++ leBytes 2 src ++
  [BitVec.ofNat 8 tag, 0] ++ leBytes 2 index ++ [BitVec.ofNat 8 sub, BitVec.ofNat 8 result] ++
  leBytes 2 data.length ++ [0, 0] ++ data

/-- The digest of a request to this module (R294). -/
def State.digest (s : State) (h : Hdr) (op index sub : Nat) (data : List Byte) : Nat :=
  crc32 (digestBytes 0 op (s.rdN .NODE_NUMBER 0) h.src h.tag.val index sub 0 data)

/-- The reply frame of a request (R286). Its status word is sampled when it is sent (R37). -/
def State.replyFrame (s : State) (h : Hdr) (op index sub code : Nat) (data : List Byte) : Frame :=
  { ether := true, version := 1, kind := 1, op := op, dest := h.src, src := s.rdN .NODE_NUMBER 0, tag := h.tag.val, retry := false, wraps := 0
    gateway := false, enum := false, index := index, sub := sub, result := code, status := 0, data := data, reserved := false
    carried := true }

/-- An own frame queued in Q71 (R287). -/
def State.sendOwn (s : State) (f : Frame) : State := (s.push 71 (.frame f)).1

/-- The tag `t`. -/
def State.tagSt (s : State) (t : Nat) : TagSt := tget TagSt.free s.tags t

/-- The tag `t` takes the state `x`; IN_PROGRESS follows. -/
def State.wrTag (s : State) (t : Nat) (x : TagSt) : State :=
  let tags := tset TagSt.free s.tags t x
  { s with tags := tags }.wr .IN_PROGRESS 0 (tags.filter (fun (p : Nat × TagSt) => p.2.busy)).length

/-- The transaction of `h` completes: its reply is queued and cached (R293, R295). -/
def State.complete' (s : State) (h : Hdr) (op index sub code : Nat) (data : List Byte) : State :=
  let f := s.replyFrame h op index sub code data
  (s.wrTag h.tag { s.tagSt h.tag with busy := false, reply := some f }).sendOwn f

/-- Every transaction that waits for the operation at `index`:`sub`, written alone or as the last of a block, completes with `code`. -/
def State.finish (s : State) (index sub code : Nat) : State :=
  let mine (d : Deferred) : Bool := d.index = index && d.sub ≤ sub
  let l := s.deferred.filter mine
  l.foldl (fun (s : State) d => s.complete' d.hdr d.op index sub code []) { s with deferred := s.deferred.filter (fun d => !mine d) }

/-- Whether the module answers requests at all (R317, R318, R18). -/
def State.answering (s : State) : Bool :=
  s.mode ≠ 0 && s.rd .flashRead 0 = 1 && s.rd .bootStuck 0 = 0 && s.rd .takeover 0 = 0

/-- Operations that change something: refused in LOCKOUT on the ring ports and in BOOT (R35, R317). -/
def isWriteOp (op : Nat) : Bool := op = opWrite || op = opWriteBlock || op = opCommit

/-- Operations that answer 0x07 to a retry while they run (R294): COMMIT, plan swap and IMAGE_CLOSE. -/
def answersBusy (op index : Nat) : Bool := op = opCommit || index = 0x6808 || index = 0x6000

/-- A result of COMMIT or of a plan swap as COMMIT_REPORT holds it (R33). -/
structure Verdict where
  code   : Nat
  a      : Nat
  b      : Nat
  res    : Nat
  detail : Nat
  deriving DecidableEq, Repr

/-- COMMIT_REPORT written (R33). -/
def State.report (s : State) (v : Verdict) : State :=
  ((((s.wr .RESULT 0 v.code).wr .OBJECT_A 0 v.a).wr .OBJECT_B 0 v.b).wr .RESOURCE 0 v.res).wr .DETAIL 0 v.detail

/-- A failed check of R31 before step 5 is reported as any other. -/
def State.refuse (s : State) (op code : Nat) : State := if op = opCommit then s.report ⟨code, 0, 0, 0, 0⟩ else s

/-- The cycle in which the steward takes up a request received in the cycle `h.t` (R24): requests received in one cycle are taken in the order
RA, RB, LP, so one given after a request of the same cycle from a later port counts as received in the next cycle (log entry 146). -/
def State.takeUp (s : State) (h : Hdr) : State :=
  let s := s.at h.t
  let s := if s.rdN .reqAt 0 = s.now + 1 && decide (h.port.val < s.rdN .reqPort 0) then s.at (s.now + 1) else s
  (s.wr .reqAt 0 (s.now + 1)).wr .reqPort 0 h.port.val

/-- A request delivered to the module and taken up by the steward (R293, R294): `f` is the operation itself. Ranks 1 and 2 of R35 are
tested here. -/
def State.transact (s : State) (h : Hdr) (op index sub : Nat) (data : List Byte) (f : State → State × Answer) : State :=
  let s := s.takeUp h
  let s := s.iff (isHead h.src && s.mode ≠ 0) State.contact
  if !s.answering then s
  else
    let d := s.digest h op index sub data
    let x := s.tagSt h.tag
    let plain (s : State) (code : Nat) : State := s.sendOwn (s.replyFrame h op index sub code [])
    if x.digest = some d && !x.busy then
      match x.reply with
      | some r => ((s.count .RETRIES_ANSWERED 0).tally 225).sendOwn r
      | none => s
    else if x.digest = some d then (if answersBusy op index then plain s 0x07 else s)
    else if s.mode = 10 && isWriteOp op && h.port ≠ 2 && x.busy then plain (s.refuse op 0x0F) 0x0F
    else if x.busy then plain (((s.refuse op 0x0C).count .TAG_CONFLICTS 0).tally 226) 0x0C
    else
      let s := (s.count .REQUESTS 0 1 64).tally 224
      let s := s.wrTag h.tag ⟨some d, true, none⟩
      if s.mode = 10 && isWriteOp op && h.port ≠ 2 then (s.refuse op 0x0F).complete' h op index sub 0x0F []
      else if s.mode = 1 && isWriteOp op then (s.refuse op 0x04).complete' h op index sub 0x04 []
      else
        match f s with
        | (s, .done code bytes) => s.complete' h op index sub code bytes
        | (s, .later) => { s with deferred := s.deferred ++ [⟨h, op, index, sub⟩] }

/-- Every transaction in progress is discarded: a takeover, after which the head's retry starts it afresh (R18). -/
def State.dropTransactions (s : State) : State :=
  s.deferred.foldl (fun (s : State) d => s.wrTag d.hdr.tag TagSt.free) { s with deferred := [] }

end Sys2Proof.Machine
end

