-- ==== Sys2Proof/Machine/Slots.lean ====
section
/-! DEFINITION. The schedule banks (R216–R218), the loads into the inactive bank (R228, R232), engines becoming failing (R226–R230) and
the issue of slots by the walker (R217). -/
namespace Sys2Proof.Machine

/-- The bank the walker takes (R217). -/
def State.activeBank (s : State) : List Word64 := if s.rd .ACTIVE_BANK 0 = 0 then s.bankA else s.bankB

/-- The other bank. -/
def State.otherBank (s : State) : List Word64 := if s.rd .ACTIVE_BANK 0 = 0 then s.bankB else s.bankA

/-- A slot word as a placed slot. -/
def PSlot.ofWord (w : Word64) : PSlot :=
  ⟨slotEngine w, slotStart w, slotBudget w, slotKind w, slotCtx w, slotProg w, slotPeriod w, slotPhase w, 0⟩

/-- Whether an engine carries a slot of a bank. -/
def carries (ws : List Word64) (e : Nat) : Bool := ws.any (fun w => slotValid w && slotEngine w = e)

/-- Largest load of an engine in any pass (R236). -/
def bankLoad (ws : List Word64) (e : Nat) : Nat := maxLoad ((ws.filter slotValid).map PSlot.ofWord) e

/-- Whether slot word `x` can be that of work item `w` in the bank `ws` (R219, R220). -/
def State.isWorkSlot (s : State) (ws : List Word64) (w : Nat) (x : Word64) : Bool :=
  slotValid x && slotKind x = 5 && slotProg x = s.rdN .WORK_PROG w && slotCtx x = s.rdN .WORK_CTX w &&
  slotPeriod x = s.rdN .WORK_PERIOD w &&
  match s.workBounds (ws.map PSlot.ofWord) w with
  | some b => decide (b.1 ≤ slotStart x ∧ slotStart x + slotBudget x ≤ b.2)
  | none => false

/-- The slot number of each work item in a bank: items bound to a step first, then the others, each in ascending order. -/
def State.assignWork (s : State) (ws : List Word64) : List (Nat × Nat) :=
  let used := (List.range 256).filter (fun w => s.rd .WORK_PROG w ≠ 0)
  let order := used.filter (fun w => s.rd .WORK_AFTER w ≠ 0) ++ used.filter (fun w => s.rd .WORK_AFTER w = 0)
  let nums := (List.range ws.length).zip ws
  order.foldl (fun (acc : List (Nat × Nat)) w =>
    match nums.find? (fun p => !(acc.any (fun q => q.2 = p.1)) && s.isWorkSlot ws w p.2) with
    | some p => acc ++ [(w, p.1)]
    | none => acc) []

/-- ENGINE_STATE of engine `e` (R236). -/
def State.engineState (s : State) (e : Nat) : Nat :=
  if s.bit .REDUNDANCY 0 (16 + e) then (if s.rdN .selfTest 0 = e + 1 then 4 else 3)
  else if carries s.activeBank e then 1
  else if s.rdN .EFFECTIVE_SPARE 0 = e then 2 else 0

/-- The placement objects of the active plan (R236, R238), and WORK_SHED (R230). -/
def State.refreshPlan (s : State) : State :=
  let ws := s.activeBank
  let l := s.assignWork ws
  let s := s.wr .SLOTS_USED 0 (ws.filter slotValid).length
  let s := s.forAll 8 (fun s e => (s.wr .ENGINE_LOAD e (bankLoad ws e)).wr .ENGINE_STATE e (s.engineState e))
  let s := s.forAll 256 (fun s w =>
    match l.find? (fun p => p.1 = w) with
    | some p =>
      let x := ws.getD p.2 0
      (((s.wr .WORK_ENGINE w (slotEngine x)).wr .WORK_START w (slotStart x)).wr .WORK_SLOT w p.2).wr .WORK_BUDGET w (slotBudget x)
    | none => ((s.wr .WORK_ENGINE w 255).wr .WORK_START w 0).wr .WORK_SLOT w 0)
  if (List.range 256).any (fun w => s.rd .WORK_PROG w ≠ 0 && s.rd .WORK_ENGINE w = 255) && s.rd .planPlaced 0 = 1 then
    s.detectHeld 0x70 0x10
  else s.endCause 0x70 0x10

/-- Whether the four built-in slots of axis `n` stand in a bank. -/
def axisPlaced (ws : List Word64) (n : Nat) : Bool :=
  [1, 2, 3, 4].all (fun k => ws.any (fun w => slotValid w && slotKind w = k && slotCtx w = n))

/-- The other bank takes the plan `ws` and becomes active at this mark; what a lost slot word caused ends with it (R228, R232). -/
def State.switchTo (s : State) (ws : List Word64) : State :=
  let s := if s.rd .ACTIVE_BANK 0 = 0 then { s with bankB := ws }.wr .ACTIVE_BANK 0 1 else { s with bankA := ws }.wr .ACTIVE_BANK 0 0
  let s := { s with planCopy := ws, loading := none }.wr .loadKind 0 0
  let s := (s.endCause 0x70 2).endShadow 0x70 2 (.mark (s.pass + 3))
  let s := match s.openRec 0x70 with
    | some o => if o.cause = 2 then s.closeRec 0x70 else s
    | none => s
  let s := s.forAll 64 (fun s n => if axisPlaced ws n then s.endCause (blkAxis n) 8 else s)
  s.refreshPlan

/-- A slot word found uncorrectable in SDRAM while a plan loads is left with VALID at 0 (R232): the axis of its context is contained,
unless the detection is consequent. -/
def State.slotGone (s : State) (w : Word64) : State :=
  let n := slotCtx w
  if 64 ≤ n then s
  else
    let cons := s.covered (blkAxis n) 8
    let s := s.detect (blkAxis n) 8
    if cons then s else s.holdAxis n

/-- A plan begins to load into the inactive bank: 4,096 transfers from the next CKM cycle on (R228). Slot words that SDRAM had lost
before are lost to it (R232). -/
def State.startLoad (s : State) (kind e : Nat) (ws : List Word64) : State :=
  let s := (({ s with loading := some ws }.wr .loadKind 0 kind).wr .loadFor 0 e).wr .loadEnd 0 (s.now + 4097 : Nat)
  (ws.filter (fun w => !slotValid w && slotKind w ≠ 0)).foldl State.slotGone s

/-- The finished fallback plans replaced; FALLBACK_READY shows them (R223, R230). -/
def State.setFallback (s : State) (f : Tbl (List Word64)) : State :=
  { s with fallback := f }.wr .FALLBACK_READY 0 ((f.map (fun (p : Nat × List Word64) => 2 ^ p.1)).sum : Nat)

/-- A plan swap in progress ends without change (R234): the module leaves SWAP at once. -/
def State.endSwap (s : State) (code : Nat) : State :=
  if s.rd .SWAP_STATE 0 = 0 then s
  else
    let s := ((s.wr .SWAP_STATE 0 0).wr .swapImg 0 0).wr .SWAP_RESULT 0 code
    let s := { s with newSet := none }.finish 0x6808 1 code
    if s.mode = 7 then s.setMode s.runMode 5 else s

/-- The open record of a block closes at the next mark (R339): its reaction waits for nothing else. -/
def State.endAtMark (s : State) (b : Nat) : State :=
  match s.openRec b with
  | some o => s.setOpen b (some { o with ends := .mark })
  | none => s

/-- PLAN_EXHAUSTED (R230). -/
def State.exhausted (s : State) : State := s.detect 0x70 1

/-- A detection that opens a shadow where it has dependents at all. -/
def State.detectCover (s : State) (b c data : Nat) (covers : List (Nat × List Nat)) : State :=
  if covers.isEmpty then s.detect b c data else s.detectShadow b c data covers .waiting

/-- Axes with a slot on engine `e` in the running plan (R341). -/
def State.axesOn (s : State) (e : Nat) : List Nat :=
  (List.range 64).filter (fun n => s.activeBank.any (fun w => slotValid w && slotEngine w = e && slotCtx w = n))

/-- Whether the failure of engine `e` leaves no plan to go on with (R230): it is in the plan that loads in place of a failed engine's, or
it is in use and has no finished fallback plan. -/
def State.leavesNoPlan (s : State) (e : Nat) : Bool :=
  if s.rd .loadKind 0 = 1 && (carries s.activeBank e || carries (s.loading.getD []) e) then true
  else carries s.activeBank e && !s.fallback.any (fun p => p.1 = e)

/-- Engine `e` becomes failing (R226–R230): it is fenced, its commit buffer goes, and its fallback plan starts to load. The TRIP of R230 and
the record of the engine fall in one cycle, the TRIP first (R338). -/
def State.failEngine (s : State) (e reason slot : Nat) : State :=
  if s.bit .REDUNDANCY 0 (16 + e) then s
  else
    let s := s.iff (s.leavesNoPlan e) State.exhausted
    let s := s.detectCover (blkEngine e) 1 (dataOf [(1, reason), (2, slot)]) ((s.axesOn e).map (fun n => (blkAxis n, [])))
    let s := { (s.setRed (16 + e) true).wr .ENGINE_STATE e 3 with runs := tset none s.runs e none }
    let s := s.endSwap 0x07
    if s.rd .loadKind 0 = 1 && (carries s.activeBank e || carries (s.loading.getD []) e) then s.endAtMark (blkEngine e)
    else if carries s.activeBank e then
      match s.fallback.find? (fun p => p.1 = e) with
      | some p => (s.setFallback []).startLoad 1 e p.2
      | none => (s.setFallback []).endAtMark (blkEngine e)
    else
      let s := (s.endAtMark (blkEngine e)).setFallback (s.fallback.filter (fun p => !carries p.2 e))
      let s := s.iff (s.rdN .EFFECTIVE_SPARE 0 = e) (fun s => s.wr .EFFECTIVE_SPARE 0 255)
      s.iff (s.rd .planPlaced 0 = 1) (fun s => s.wr .planBuild 0 1)

/-- Slot `i` of the active bank reads with an uncorrectable error (R217, R232): it is not issued, and the bank is rebuilt, unless a complete
image is loading already. -/
def State.slotLost (s : State) (i : Nat) : State :=
  let w := s.activeBank.getD i 0
  let s := s.wr .slotAt i (s.pass + 1)
  let s := s.detectCover 0x70 2 0 (if slotCtx w < 64 then [(blkAxis (slotCtx w), [])] else [])
  if s.rd .loadKind 0 ≠ 0 then s else (s.endSwap 0x07).startLoad 2 0 s.planCopy

/-- An engine at work: what an armed injection makes its checkers see (R350): first its program store, then its registers; else whether its program
store had an error that was corrected (R227). True where it becomes failing. -/
def State.engineChecks (s : State) (e : Nat) (corrected : Bool) : State × Bool :=
  match s.armed 4 e with
  | some 1 => (((s.fire.detect (blkEngine e) 0x20).tally 235).unfire, false)
  | some _ => ((s.fire.failEngine e 3 0).unfire, true)
  | none =>
    match s.armed 5 e with
    | some _ => ((s.fire.failEngine e 2 0).unfire, true)
    | none => (s.iff corrected (fun s => (s.detect (blkEngine e) 0x20).tally 235), false)

/-- The word of slot `i` read by the walker: as an armed injection makes its checker see it (R350), or with an error that was corrected, when it is
used, scrubbed and recorded (R217). True where it is lost. -/
def State.slotCheck (s : State) (i : Nat) (corrected : Bool) : State × Bool :=
  match s.armed 2 i with
  | some 1 => (((s.fire.detect 0x70 0x20).tally 234).unfire, false)
  | some _ => ((s.fire.slotLost i).unfire, true)
  | none => (s.iff corrected (fun s => (s.detect 0x70 0x20).tally 234), false)

/-- Whether slot `i`, with the word `w`, is to be issued in the present cycle (R11, R217): its pass, the CKM cycle in which its START falls, its
engine not fenced, not issued before in this pass. -/
def State.slotDue (s : State) (i : Nat) (w : Word64) : Bool :=
  slotRuns w s.pass && s.rdN .slotAt i ≠ s.pass + 1 && s.rd .ENGINE_STATE (slotEngine w) < 3 &&
  decide (s.now = s.rdN .PASS_MARK_TIME 0 + slotStart w / 2)

/-- Slot `i` issued: its number is taken for this pass and SLOT_START is traced (R375). None where a check stops it. -/
def State.issue (s : State) (i e : Nat) (m : SlotIn) : State × Bool :=
  let (s, lost) := s.slotCheck i m.word
  if lost then (s, false)
  else
    let s := (s.wr .slotAt i (s.pass + 1)).traceIf 1 (s.bit .tfEngines 0 e) (i + 2 ^ 12 * e)
    let (s, dead) := s.engineChecks e m.store
    (s, !dead)

/-- Modes in which the built-in slots of KIND `k` run (R311). -/
def State.kindRuns (s : State) (k : Nat) : Bool := if k = 1 then decide (2 ≤ s.mode) else s.inMode [5, 6, 7, 8, 9]

/-- The built-in slot of KIND `k` of axis `n` that is due, if there is one. -/
def State.builtinSlot (s : State) (k n : Nat) : Option (Nat × Word64) :=
  if s.kindRuns k then
    ((List.range s.activeBank.length).zip s.activeBank).find? (fun p => slotKind p.2 = k && slotCtx p.2 = n && s.slotDue p.1 p.2)
  else none

/-- What a SECDED check of a ledger word of axis `n` finds (R215). -/
def State.ledgerEcc (s : State) (n : Nat) (ecc : Ecc) : State :=
  match ecc with
  | .clean => s
  | .corrected => (s.tally 232).detect 0x70 0x21
  | .uncorrectable =>
    let cons := s.covered (blkAxis n) 7
    let s := s.detect (blkAxis n) 7
    if cons then s else (s.wr .ledBad n 1).holdAxis n

/-- The built-in slot of KIND `k` of axis `n` starts, reads its inputs and commits `f` within its budget (R213, R217): the command is given in the
cycle of the start. How many cycles of its budget it takes is not stated (log entry 118). What it writes is not written after a read that
found an uncorrectable word (R215). -/
def State.builtin (s : State) (k n : Nat) (m : SlotIn) (f : State → State) : State :=
  match s.builtinSlot k n with
  | none => s
  | some (i, w) =>
    let e := slotEngine w
    match s.issue i e m with
    | (s, false) => s
    | (s, true) =>
      let (c, s) := s.draw 14
      let used := 1 + c % max (slotBudget w) 1
      let s := ((s.tally e used).ledgerEcc n m.ledger).iff (m.ledger ≠ .uncorrectable) f
      s.traceIf 2 (s.bit .tfEngines 0 e) (i + 2 ^ 12 * e + 2 ^ 16 * used)

end Sys2Proof.Machine
end

