-- ==== Sys2Proof/Machine/Load.lean ====
section
/-! DEFINITION. Full steps, the load index, the reference table, learning runs, stall, sensorless homing and exercise runs
(R115–R138), and the reassignment of a position (R61, R94, R128). -/
namespace Sys2Proof.Machine

-- reassignment

/-- A planned state moved by `q` (2^-16 microstep). -/
def Kin.shift (q : Int) (k : Kin) : Kin := { k with x := k.x + q }

/-- A plan moved by `q`. -/
def Plan.shift (q : Int) (p : Plan) : Plan :=
  { p with
    segs := p.segs.map (fun s => { s with x := s.x + posUnits q })
    goal := p.goal + q
    saddle := p.saddle.map (fun x => (x.1, x.2 + q)) }

/-- A planner moved by `q`. -/
def Planner.shift (q : Int) (p : Planner) : Planner :=
  { p with nxt := p.nxt.shift q, aft := p.aft.map (Kin.shift q), plan := p.plan.map (Plan.shift q) }

/-- A register kept in 2^-16 microstep moves along. -/
def State.moveQ (s : State) (r : Reg) (n : Nat) (q : Int) : State := s.wr r n (s.rd r n + q)

/-- The position of axis `n` reassigned by `d` microsteps at the present mark (R61, R94): the angle, the deviation and every follower
stay where they are. -/
def State.reassign (s : State) (n : Nat) (d : Int) : State :=
  let q := d * 65536
  let s := s.wrPlanner n ((s.planner n).shift q)
  let s := (s.wr48 .CMD_POS n (s.rd .CMD_POS n + d)).wr48 .TARGET n (s.rd .TARGET n + d)
  let s := (s.moveQ .posQ n q).moveQ .goalQ n q
  let s := (s.moveQ .hmStart n q).moveQ .lnStart n q
  let s := (s.moveQ .fsPos n d).moveQ .fbCmd n d
  let s := if s.rd .SADDLE_PENDING n = 1 then s.wr48 .SADDLE_POS n (s.rd .SADDLE_POS n + d) else s
  let s := if s.following n then s.moveQ .foOrg n q else s
  let s := s.wr .ANGLE_ORIGIN n ((s.rd .ANGLE_ORIGIN n - d) % 4096)
  s.forList (s.followers 3 n) (fun s k => s.shiftSource k d)

/-- A reassignment that finds the position ends the cause of POS_UNSURE (R147). -/
def State.posSure (s : State) (n : Nat) : State := s.wrBit .brPersist n 12 false

/-- The reassignments that wait for the present mark (R61, R127, R132). -/
def State.reassignMark (s : State) (n : Nat) : State :=
  let s := if s.rd .asgPend n = 0 then s
    else
      let d := if s.rd .asgPend n = 1 then s.rd .asgVal n - s.rd .CMD_POS n else s.rd .asgVal n
      let s := (s.reassign n d).wr .asgPend n 0
      let s := match s.rdN .asgStall n with
        | 1 => (s.wr48 .STALL_SHIFT n d).posSure n
        | 2 => s.wr48 .HOME_SHIFT n d
        | 3 => (s.wr48 .HOME_SHIFT n d).posSure n
        | _ => s
      s.wr .asgStall n 0
  if s.rd .setPend n = 0 then s
  else
    let d := s.rd .setVal n - s.rd .CMD_POS n
    ((s.reassign n d).wr .setPend n 0).wr48 .SET_SHIFT n d

/-- A reassignment asked for at the next mark (`kind` 1 to a value, 2 by a shift), reported as `what`. -/
def State.askAssign (s : State) (n kind : Nat) (v : Int) (what : Nat) : State :=
  ((s.wr .asgPend n kind).wr .asgVal n v).wr .asgStall n what

-- the reference table and the condition record

/-- Fields of a table entry (R120). -/
def sigRef (e : Nat) : Nat := bitsOf e 31 0
def sigSpeed (e : Nat) : Nat := bitsOf e 56 32
def sigMethod (e : Nat) : Nat := bitsOf e 62 62
def sigValid (e : Nat) : Bool := e.testBit 63

/-- The valid entries of axis `n` for a method and a direction (R120). -/
def State.sigEntries (s : State) (n meth : Nat) (neg : Bool) : List Nat :=
  ((List.range 8).map (fun k => s.rdN .SIG_ACTIVE (16 * n + (if neg then 8 else 0) + k))).filter
    (fun e => sigValid e && sigMethod e = meth)

/-- The first entry that is best by `better`. -/
def bestOf (better : Nat → Nat → Bool) : List Nat → Option Nat
  | [] => none
  | e :: l =>
    match bestOf better l with
    | none => some e
    | some b => if better b e then some b else some e

/-- REF of R120 at speed `v` as numerator and denominator: interpolated between two entries, else the value of the entry nearest in
speed among those within `tol` percent. -/
def sigLookup (l : List Nat) (tol v : Nat) : Option (Nat × Nat) :=
  let lo := bestOf (fun b e => decide (sigSpeed e < sigSpeed b)) (l.filter (fun e => sigSpeed e ≤ v))
  let hi := bestOf (fun b e => decide (sigSpeed b < sigSpeed e)) (l.filter (fun e => v ≤ sigSpeed e))
  let gap (e : Nat) : Nat := ((v : Int) - sigSpeed e).natAbs
  match lo, hi with
  | some a, some b =>
    if sigSpeed a = sigSpeed b then some (sigRef a, 1)
    else some (sigRef a * (sigSpeed b - v) + sigRef b * (v - sigSpeed a), sigSpeed b - sigSpeed a)
  | _, _ =>
    (bestOf (fun b e => decide (gap b < gap e)) (l.filter (fun e => 100 * gap e ≤ tol * sigSpeed e))).map (fun e => (sigRef e, 1))

/-- The method of a speed: 0 signature, 1 ripple (R117). -/
def State.methodOf (s : State) (n v : Nat) : Nat := if s.rdN .LI_MIN_SPEED n ≤ v then 0 else 1

/-- The lookup of R120 for axis `n`. -/
def State.refFor (s : State) (n : Nat) (neg : Bool) (v : Nat) : Option (Nat × Nat) :=
  sigLookup (s.sigEntries n (s.methodOf n v) neg) (s.rdN .LI_SPEED_TOL n) v

/-- Fields of a condition record (R121). -/
def condAmp (c : Nat) : Nat := bitsOf c 15 0
def condVm (c : Nat) : Nat := bitsOf c 111 96
def condOfsA (c : Nat) : Int := signed 8 (bitsOf c 119 112)
def condOfsB (c : Nat) : Int := signed 8 (bitsOf c 127 120)

/-- A condition record built from the present settings, a bus voltage and two offsets (R121, R123). -/
def State.condOf (s : State) (n vm ofs : Nat) : Nat :=
  dataOf [(2, s.rdN .RUN_CURRENT n), (1, s.rdN .BAND n), (1, s.rdN .BLANK n), (1, s.rdN .DECAY_MODE n), (1, 0),
    (2, s.rdN .MIX_TIME n), (2, unsigned 16 (s.rd .SHAPE_K3 n)), (2, s.rdN .SHAPE_LIFT n), (2, vm), (2, ofs)]

/-- Whether the settings of axis `n`, with amplitudes from `lo` to `hi`, differ from the record `c` (R121). -/
def State.condDiffers (s : State) (n c lo hi : Nat) : Bool :=
  lo ≠ condAmp c || hi ≠ condAmp c || s.rdN .BAND n ≠ bitsOf c 23 16 || s.rdN .BLANK n ≠ bitsOf c 31 24 ||
  s.rdN .DECAY_MODE n ≠ bitsOf c 39 32 || unsigned 16 (s.rd .SHAPE_K3 n) ≠ bitsOf c 79 64 ||
  s.rdN .SHAPE_LIFT n ≠ bitsOf c 95 80 || (s.rd .DECAY_MODE n = 3 && s.rdN .MIX_TIME n ≠ bitsOf c 63 48)

/-- Whether the settings of axis `n` differ from the record `c` with RUN_CURRENT as the amplitude. -/
def State.settingsDiffer (s : State) (n c : Nat) : Bool := s.condDiffers n c (s.rdN .RUN_CURRENT n) (s.rdN .RUN_CURRENT n)

/-- The active table and record of axis `n` replaced (R122, R125). -/
def State.setTable (s : State) (n origin cond : Nat) (entry : Nat → Int) : State :=
  let s := s.forAll 16 (fun s k => s.wr .SIG_ACTIVE (16 * n + k) (entry k))
  (s.wr .COND_ACTIVE n cond).wr .TABLE_ORIGIN n origin

/-- The committed table and record of axis `n` become active (R122). -/
def State.activateSig (s : State) (n : Nat) : State :=
  s.setTable n 1 (s.rdN .SIG_COND n) (fun k => s.rd .SIG_TABLE (16 * n + k))

-- full steps

/-- A full step opens at the present mark (R115): its pairs are formed of results harvested from here on. -/
def State.openStep (s : State) (n : Nat) : State :=
  let s := ((s.wr .fsOpen n 1).wr .fsQuad n (s.rdN .ANGLE n / 1024)).wr .fsPasses n 0
  let s := ((s.wr .fsSum n 0).wr .fsAcc n (ofBool (s.rd .CMD_ACC n ≠ 0))).wr .fsPos n (s.rd .CMD_POS n)
  let s := (s.wr .fsAmpLo n (s.rd .AMPLITUDE n)).wr .fsAmpHi n (s.rd .AMPLITUDE n)
  let s := ((s.wr .fsOn n 0).wr .fsOff n 0).wr .fsCnt n 0
  let s := (s.wr .fsVm n 0).wr .fsVmCnt n 0
  { (s.wr .fsSlope n 0).wr .fsPairs n 0 with slopes := tset [] (tset [] s.slopes (2 * n) []) (2 * n + 1) [] }

/-- The open step closes at the present mark and waits for the load-index step (R115). -/
def State.closeStep (s : State) (n : Nat) : State :=
  let copy (s : State) (p : Reg × Reg) : State := s.wr p.1 n (s.rd p.2 n)
  let s := [(Reg.clPasses, Reg.fsPasses), (.clSum, .fsSum), (.clAcc, .fsAcc), (.clAmpLo, .fsAmpLo), (.clAmpHi, .fsAmpHi),
    (.clOn, .fsOn), (.clOff, .fsOff), (.clCnt, .fsCnt), (.clVm, .fsVm), (.clVmCnt, .fsVmCnt), (.clSlope, .fsSlope),
    (.clPairs, .fsPairs), (.clPos, .fsPos)].foldl copy s
  (s.wr .clReady n 1).wr .clTime n s.now

/-- The signature record of a phase written at this mark joins the open step (R113, R117): recorded, with the W and early or timeout
bits clear. -/
def State.stepSample (s : State) (n ph : Nat) : State :=
  let f := s.rdN .SIG_FLAGS n / 16 ^ ph % 16
  if f.testBit 0 && !f.testBit 1 && !f.testBit 3 then
    let s := s.wr .fsOn n (s.rd .fsOn n + s.rd (if ph = 0 then .TON_A else .TON_B) n)
    (s.wr .fsOff n (s.rd .fsOff n + s.rd (if ph = 0 then .TOFF_A else .TOFF_B) n)).wr .fsCnt n (s.rd .fsCnt n + 1)
  else s

/-- The full step of axis `n` at a mark (R115): `inc` is the increment of the pass that ends; the registers already hold the values
of the mark. -/
def State.stepMark (s : State) (n : Nat) (inc : Int) : State :=
  if s.rd .fsOpen n = 0 then (if s.rd .ANGLE_INC n = 0 then s else s.openStep n)
  else
    let s := (s.wr .fsPasses n (s.rd .fsPasses n + 1)).moveQ .fsSum n inc
    let s := if s.rd .CMD_ACC n ≠ 0 then s.wr .fsAcc n 1 else s
    let a := s.rd .AMPLITUDE n
    let s := (s.wr .fsAmpLo n (min a (s.rd .fsAmpLo n))).wr .fsAmpHi n (max a (s.rd .fsAmpHi n))
    let s := (s.stepSample n 0).stepSample n 1
    if s.rdN .ANGLE n / 1024 = s.rdN .fsQuad n then s else (s.closeStep n).openStep n

/-- STILL_PASSES has reached 1: the open step is discarded (R116). -/
def State.dropStep (s : State) (n : Nat) : State :=
  if s.rd .STILL_PASSES n = 1 then (s.wr .fsOpen n 0).wr .LI_STATE n 2 else s

/-- A bus-voltage result of die `k`, in 10 mV, joins the open steps of its axes and the mean of the pass (R117, R123). -/
def State.takeBus (s : State) (k : Nat) (v : Int) : State :=
  let s := ((s.moveQ .dvSum k v).wr .dvCnt k (s.rd .dvCnt k + 1)).iff (6400 ≤ v && s.rd .brakeOn k = 1) (fun s => s.wr .brakeFrom k s.now)
  s.forList (axesOf k) (fun s n =>
    if s.rd .fsOpen n = 1 then (s.moveQ .fsVm n v).wr .fsVmCnt n (s.rd .fsVmCnt n + 1) else s)

/-- The mean bus voltage of a die at the end of a pass; a pass without a result keeps the last one (log entry 22). -/
def State.busMark (s : State) (k : Nat) : State :=
  let s := if s.rd .dvCnt k = 0 then s else s.wr .dvLast k (fdiv (s.rd .dvSum k) (s.rd .dvCnt k))
  (s.wr .dvSum k 0).wr .dvCnt k 0

/-- The flagged results of a phase that no pair has used, oldest first (R118). -/
def State.slopeList (s : State) (n ph : Nat) : List Sample := tget [] s.slopes (2 * n + ph)

/-- The first sample of a list that ends at least 2 µs before `t`, and the list without it. -/
def pairWith (t : Nat) : List Sample → Option (Sample × List Sample)
  | [] => none
  | x :: l => if x.t + 200 ≤ t then some (x, l) else (pairWith t l).map (fun r => (r.1, x :: r.2))

/-- A flagged current result (R118): its window ended at `t` in off time `off` with the magnitude `mag` (1/16 code). Results of earlier
off times can find no partner any more. -/
def State.takeSlope (s : State) (n ph off t : Nat) (mag : Int) : State :=
  let l := (s.slopeList n ph).filter (fun x => x.seq = off)
  let put (s : State) (l : List Sample) : State := { s with slopes := tset [] s.slopes (2 * n + ph) l }
  match pairWith t l with
  | some (x, l) =>
    let s := put s l
    if s.rd .fsOpen n = 1 then
      (s.moveQ .fsSlope n (fdiv ((x.pos - mag) * 409600) (t - x.t : Nat))).wr .fsPairs n (s.rd .fsPairs n + 1)
    else s
  | none => put s (l ++ [⟨off, t, mag, 0⟩])

-- stops

/-- A hard stop (R128). -/
def State.hardStop (s : State) (n : Nat) : State := (s.dropFin n).halt n

/-- The axis goes STALLED after a hard stop (R127, R181). -/
def State.stallStop (s : State) (n : Nat) : State := s.stopAxis n 5

/-- Following ends for a cause of R89; the stop or move that follows is the axis's active move. -/
def State.endFollow (s : State) (n cause : Nat) : State :=
  ((s.wr .FOLLOW_STATE n 0).wr .END_CAUSE n cause).setAxis n 2

/-- A source loss recorded (R89, R90). -/
def State.noteLoss (s : State) (n cause : Nat) : State := (s.count .LOSS_COUNT n).detect (blkAxis n) cause

-- stall, homing and exercise runs

/-- The HOME record of axis `n`, if one is active. -/
def State.homeRec (s : State) (n : Nat) : Option Move := (s.planner n).act.filter (fun m => m.kind = 9)

/-- Whether a HOME method finds by a stall in its searches (R130, R134). -/
def Move.byStall (m : Move) : Bool := [1, 3, 4].contains m.method

/-- Whether axis `n` is in a search that a stall ends (R130, R134). -/
def State.searching (s : State) (n : Nat) : Bool :=
  match s.homeRec n with
  | some m => (s.rd .hmPhase n = 1 && m.byStall) || s.rd .hmPhase n = 5
  | none => false

/-- Whether an exercise run searches on axis `n` (R134). -/
def State.exercising (s : State) (n : Nat) : Bool :=
  match s.homeRec n with
  | some m => m.method = 4 && (s.rd .hmPhase n = 1 || s.rd .hmPhase n = 5)
  | none => false

/-- The index `idx` and the lowest index of the run of low steps before it count: they have not led to a stall (R134). -/
def State.mergeLow (s : State) (n : Nat) (idx : Int) : State :=
  if s.exercising n then (s.mergePend n).wr .EX_MIN_INDEX n (min (s.mergePend n |>.rd .EX_MIN_INDEX n) idx) else s

/-- A stall in a homing search (R132, R134): a hard stop; the first find assigns the home value, which for an exercise run makes the position sure
(R147), and the second measures the travel. -/
def State.homeStall (s : State) (n : Nat) (m : Move) : State :=
  let second := s.rd .hmPhase n = 5
  let s := (s.hardStop n).wr .hmPass n s.pass
  let s := s.wr .exPend n 1023
  if second then
    (s.wr48 .EX_TRAVEL_MEAS n (fdiv (s.planner n).nxt.x 65536 - m.homeVal)).wr .hmPhase n 6
  else ((s.askAssign n 1 m.homeVal (if m.method = 4 then 3 else 2)).wr .hmPhase n 3).count .HOME_COUNT n

/-- The flag reaction (R127). -/
def State.stallFlag (s : State) (n : Nat) : State :=
  ((s.wr .stBlock n 1).wr .stGood n 0).detect (blkAxis n) 0x14

/-- The registers of an axis that the taking of an input writes. -/
def inputRegs : List Reg :=
  [.goalKind, .goalQ, .goalCap, .velGoal, .TARGET, .ACTIVE_TAG, .ACTIVE_KIND, .LAST_DONE_TAG, .readyAt, .finTag, .finPend, .finHome, .relWait,
   .relLate, .RELEASE_PENDING, .relFrom, .hmPhase, .hmFoundAt, .hmStart, .asgPend, .asgVal, .asgStall, .EX_MIN_INDEX, .exPend, .SADDLE_POS,
   .SADDLE_PENDING, .VMAX, .AMAX, .DMAX, .JMAX, .limNew, .effV, .effA, .effD, .effJ, .DEFERRED, .deferMove, .RUN_CURRENT, .HOLD_CURRENT,
   .BOOST_CURRENT, .AXIS_STATE]

/-- What the profile step of this pass took, given back where a reaction overrides it (R128): the axis is as if the input had not come, and a record
taken waits again at the head of its queue. -/
def State.giveBack (s : State) (n : Nat) : State :=
  match (s.planner n).prior with
  | none => s
  | some b =>
    if b.pass ≠ s.pass then s
    else
      let s := (s.dropCall n).wrPlanner n { s.planner n with plan := b.plan, age := b.age, act := b.act, prior := none }
      let s := (inputRegs.zip b.vals).foldl (fun (s : State) x => s.wr x.1 n x.2) s
      match b.pkt with
      | none => s
      | some p => s.unpop n p

/-- The reaction to a declared stall (R127–R129). A stall in the pass in which the limit input of a search has become active is no find (R130). -/
def State.stallReact (s : State) (n : Nat) : State :=
  let b := s.giveBack n
  match b.homeRec n with
  | some m => if b.searching n && b.rd .hmFoundAt n = 0 then b.homeStall n m else s
  | none =>
    let r := if s.rd .AXIS_STATE n = 3 || s.mode = 9 then min (s.rdN .STALL_REACTION n) 1 else s.rdN .STALL_REACTION n
    match r with
    | 1 => s.stallFlag n
    | 2 => (b.stallStop n).detect (blkAxis n) 0x14
    | 3 =>
      let v := s.rd (if 0 < s.rd .clSum n then .STALL_SET_POS else .STALL_SET_NEG) n
      let s := ((b.hardStop n).completeAtMark n).askAssign n 1 v 1
      (s.wr .finPend n (s.rdN .finPend n ||| 4 : Nat)).detect (blkAxis n) 0x21
    | _ => s

/-- A stall declared (R126). -/
def State.declareStall (s : State) (n : Nat) : State :=
  let s := ((s.wr .STALL_RUN n 0).count .STALL_COUNT n).wr .STALL_TIME n (s.rd .clTime n)
  (s.event n 5).stallReact n

/-- Stall counting with a formed index (R126, R127); a search counts as the pass began it (R128). While the flag reaction blocks a declaration the run stays within its 16. -/
def State.stallStep (s : State) (n idx : Nat) : State :=
  let home := (s.giveBack n).searching n
  if (s.rd .STALL_REACTION n = 0 && !home) || !([2, 3, 4].contains (s.rdN .AXIS_STATE n)) || s.rd .lnOn n ≠ 0 then s
  else
    let steps := s.rdN .STALL_STEPS n
    if idx < s.rdN .STALL_THRESH n then
      let run := s.rdN .STALL_RUN n
      let s := if run = 0 then s.wr .STALL_POS n (s.rd .clPos n) else s
      let s := (s.wr .STALL_RUN n (min (run + 1) 16)).wr .stGood n 0
      let s := s.iff (s.exercising n) (fun s => s.wr .exPend n (min (s.rd .exPend n) idx))
      if steps ≤ run + 1 && (s.rd .stBlock n = 0 || home) then s.declareStall n else s
    else
      let s := s.wr .STALL_RUN n 0
      let s := s.mergeLow n idx
      if s.rd .stBlock n = 0 then s
      else
        let g := s.rdN .stGood n + 1
        (s.wr .stGood n g).wr .stBlock n (ofBool (decide (g < steps)))

-- the index

/-- round(512 · num / (den · ratio)), at most 1,023; 1,023 where the ratio is not positive (R117). -/
def loadIndex (num den : Nat) (ratio : Int) : Nat :=
  if ratio ≤ 0 then 1023 else min 1023 ((1024 * num + den * ratio.toNat) / (2 * den * ratio.toNat))

/-- A step whose RATIO is formed on a learning leg is collected (R124, R125). -/
def State.collect (s : State) (n meth : Nat) (ratio : Int) : State :=
  if s.rd .lnOn n ≠ 2 || s.rdN .LEARN_STEPS n ≤ s.rdN .lnCnt n then s
  else
    let s := (s.wr .lnCnt n (s.rd .lnCnt n + 1)).wr .lnMeth n meth
    let s := (s.moveQ .lnR1 n ratio).moveQ .lnR2 n (ratio * ratio)
    if meth = 0 then
      let on := fdiv (s.rd .clOn n * s.rd .clVm n * 2 ^ 32) (s.rd .clVmCnt n * condVm (s.rdN .lnCond n))
      (s.moveQ .lnSamp n on).moveQ .lnOff n (s.rd .clOff n)
    else (s.moveQ .lnSamp n (s.rd .clSlope n)).moveQ .lnOff n (s.rd .clPairs n)

/-- A step whose RATIO is `num / den` (R117): LI_RATIO, the index where a reference stands, stall counting, learning. A ratio over no
off time or no bus voltage has no stated value, and one outside LI_RATIO's range has no stated reading: both are free (log entry 23). -/
def State.formStep (s : State) (n meth : Nat) (ref : Option (Nat × Nat)) (num den : Int) : State :=
  let (ratio, s) : Int × State := if den = 0 then ((s.draw 32).1, (s.draw 32).2) else (fdiv num den, s)
  let s := if 0 ≤ ratio && ratio < 2 ^ 32 then s.wr .LI_RATIO n ratio else (s.draw 32).2.wr .LI_RATIO n (s.draw 32).1
  let s := s.wr .LI_STATE n meth
  let s := s.collect n meth ratio
  match ref with
  | none => s
  | some (a, b) =>
    let idx := loadIndex a b ratio
    ((s.wr .LOAD_INDEX n idx).count .LI_FORMED n).stallStep n idx

/-- A step without an index (R117). -/
def State.voidStep (s : State) (n st : Nat) : State := (s.wr .LI_STATE n st).count .LI_VOID n

/-- Whether a mean bus voltage of `sum / cnt` is measured and within the tolerance of VM_L (R117). -/
def vmOk (sum cnt vmL tol : Int) : Bool := cnt ≠ 0 && decide (100 * (sum - vmL * cnt).natAbs ≤ (vmL * tol * cnt).natAbs)

/-- The closed step of axis `n` evaluated (R117); on a learning leg states 3, 4 and 5 are passed over, and VM_L is that of the record
being built (R124). -/
def State.evalStep (s : State) (n : Nat) : State :=
  let v := (s.rd .clSum n).natAbs * 20000 / (65536 * s.rdN .clPasses n)
  let s := s.wr .LI_SPEED n v
  let learn := s.rd .lnOn n = 2
  let neg := decide (s.rd .clSum n < 0)
  let meth := s.methodOf n v
  let ref := s.refFor n neg v
  let cond := s.rdN .COND_ACTIVE n
  let vmL := condVm (if learn then s.rdN .lnCond n else cond)
  let few := s.rdN .LI_MIN_SAMPLES n
  if s.rd .clAcc n = 1 then s.voidStep n 8
  else if v < s.rdN .LI_LOW_MIN_SPEED n then s.voidStep n 2
  else if !learn && (s.sigEntries n meth neg).isEmpty then s.voidStep n 4
  else if !learn && ref.isNone then s.voidStep n 3
  else if !learn && s.condDiffers n cond (s.rdN .clAmpLo n) (s.rdN .clAmpHi n) then s.voidStep n 5
  else if meth = 0 then
    if s.rdN .clCnt n < few then s.voidStep n 7
    else if !vmOk (s.rd .clVm n) (s.rd .clVmCnt n) vmL (s.rd .LI_VM_TOL n) then s.voidStep n 6
    else s.formStep n 0 ref (s.rd .clOn n * s.rd .clVm n * 65536) (s.rd .clOff n * s.rd .clVmCnt n * vmL)
  else if s.rd .CV_STATE (cvOf n) = 3 then s.voidStep n 9
  else if s.rdN .clPairs n < few then s.voidStep n 7
  else s.formStep n 1 ref (s.rd .clSlope n) (s.rd .clPairs n)

/-- A deviation stop that the fold-in asked for (R181): STALLED, following ended as for a lost source. -/
def State.deviationStop (s : State) (n : Nat) : State :=
  let was := s.following n
  let s := (s.wr .devStop n 0).stallStop n
  if was then (((s.wr .END_CAUSE n 4).noteLoss n 0x1C).event n 8).iff (s.rd .LOSS_REACTION n = 1) (fun s => s.flushQueue n) else s

/-- LOAD_INDEX_STEP (R115–R129, R181): the slot of KIND 4; it writes nothing where the interpolation set-up of the pass has no stamp
(R217), or while the ledger record of the axis is bad (R215). -/
def execLoadIndexStep (t : Nat) (n : Fin 64) (m : SlotIn) (s : State) : Host.Outcome State Fault Refusal :=
  .next ((s.at t).builtin 4 n m (fun s =>
    if s.rdN .stampInterp n = s.pass + 1 && s.rd .ledBad n = 0 then
      let s := s.wr .stampLoad n (s.pass + 1)
      let s := if s.rd .clReady n = 1 then (s.wr .clReady n 0).evalStep n else s
      if s.rd .devStop n = 1 then s.deviationStop n else s
    else s))

-- homing in the profile step

/-- The search of a HOME record (R131, R134): from `k`, the state at the next mark, toward `T` at the record's speed. `shift` is the
reassignment that the same mark makes. -/
def State.search (s : State) (n : Nat) (m : Move) (T : Int) (ph : Nat) (shift : Int) : State :=
  ((s.newMove n T m.speed shift).wr .hmPhase n ph).setAxis n 4

/-- Whether the bound limit input of a search direction is active, and whether one is bound (R131). -/
def State.limitBound (s : State) (n : Nat) (dir : Int) : Bool := decide (s.rdN (if dir < 0 then .LIMIT_NEG else .LIMIT_POS) n < 128)
def State.limitOn (s : State) (n : Nat) (dir : Int) : Bool := s.limitBound n dir && s.bit .LIMIT_STATE n (if dir < 0 then 0 else 1)

/-- A HOME record completes within the profile step that takes it (R130, R131). -/
def State.homeAtOnce (s : State) (n : Nat) (m : Move) (r : Nat) : State := (s.homeResult n m.method r).completeRec n

/-- A HOME record of method 0 (R130, R132): the position at the next mark takes the home value, and the record completes with it there (log
entry 138). An axis in IDLE or HOLD is in HOMING until then. -/
def State.homeHere (s : State) (n : Nat) (m : Move) : State :=
  let s := (s.askAssign n 1 m.homeVal 2).count .HOME_COUNT n
  let s := s.iff (decide (s.rdN .AXIS_STATE n ≤ 1)) (fun s => s.setAxis n 4)
  let s := (s.completeAtMark n).wr .finHome n 1
  s.wr .finPend n (s.rdN .finPend n ||| 4 : Nat)

/-- A HOME record taken (R130, R131, R134). -/
def State.startHome (s : State) (n : Nat) (m : Move) : State :=
  let x := (s.planner n).nxt.x
  let at0 := fdiv x 65536
  let dir := m.homeDir
  let ref (d : Int) : Bool := (s.refFor n (decide (d < 0)) m.speed).isSome
  if m.method = 0 then s.homeHere n m
  else if m.method = 4 && s.rd .EX_TRAVEL n = 0 then s.homeAtOnce n m 6
  else if m.byStall && !(ref dir && (m.method ≠ 4 || ref (-dir))) then s.homeAtOnce n m (if m.method = 4 then 6 else 3)
  else if m.method = 2 && !s.limitBound n dir then s.homeAtOnce n m 6
  else if (m.method = 2 || m.method = 3) && s.limitOn n dir then s.homeAtOnce n m 4
  else
    let shift : Int := if m.preset then s.rd .HOME_PRESET n - at0 else 0
    let s := if m.preset then s.askAssign n 1 (s.rd .HOME_PRESET n) 0 else s
    let s := ((s.wr .hmStart n x).wr .EX_MIN_INDEX n (if m.method = 4 then 1023 else s.rd .EX_MIN_INDEX n)).wr .exPend n 1023
    s.search n m (x + dir * s.rd .HOME_SEARCH_DIST n * 65536) 1 shift

/-- A move of HOME_BACKOFF microsteps in the direction `dir` (R132). -/
def State.backOff (s : State) (n : Nat) (dir : Int) (ph : Nat) : State :=
  (s.newMove n ((s.planner n).nxt.x + dir * s.rd .HOME_BACKOFF n * 65536) 0).wr .hmPhase n ph

/-- The result of an exercise run whose moves have all ended (R135). -/
def State.exResult (s : State) (n : Nat) : Nat :=
  if s.rdN .EX_TOL n < (((s.rd .EX_TRAVEL_MEAS n).natAbs : Int) - s.rd .EX_TRAVEL n).natAbs then 4
  else if s.rd .EX_LOAD_MIN n ≠ 0 && s.rd .EX_MIN_INDEX n < s.rd .EX_LOAD_MIN n then 5
  else 1

/-- The result with which a HOME record ends when the move of its present phase ends; none where another move follows. -/
def State.homeEnd (s : State) (n : Nat) (m : Move) : Option Nat :=
  match s.rdN .hmPhase n with
  | 4 => if m.method = 4 then none else some 1
  | 7 => if s.rd .EX_RETURN n = 0 then some (s.exResult n) else none
  | 9 => some (s.exResult n)
  | 10 => some (if m.method = 4 then 7 else 5)
  | _ => none

/-- The move of a HOME record's present phase ends at the mark that the profile step plans from (R132–R134): the next move of the
record, or its completion at that mark. -/
def State.homeArrived (s : State) (n : Nat) (m : Move) : State :=
  match s.homeEnd n m with
  | some r =>
    let s := (s.completeAtMark n).wr .finHome n (16 * m.method + r : Nat)
    (s.wr .finPend n (s.rdN .finPend n ||| 4 : Nat)).wr .goalKind n 0
  | none =>
    match s.rdN .hmPhase n with
    | 2 => s.backOff n (-m.homeDir) 4
    | 4 =>
      let far := s.rd .EX_TRAVEL n + s.rd .EX_TOL n
      (s.wr .exPend n 1023).search n m ((m.homeVal - m.homeDir * far) * 65536) 5 0
    | 7 =>
      let T := if s.rd .EX_RETURN n = 1 then (m.homeVal - m.homeDir * s.rd .HOME_BACKOFF n) * 65536 else s.rd .hmStart n
      (s.newMove n T 0).wr .hmPhase n 9
    | _ => s

/-- The HOME record of axis `n` in its profile step, before anything else moves the axis: a back-off that is due, the stop after a
limit find, the end of a move. -/
def State.homeStep (s : State) (n : Nat) : State :=
  match s.homeRec n with
  | none => s
  | some m =>
    match s.rdN .hmPhase n with
    | 3 => s.backOff n (-m.homeDir) 4
    | 6 => s.backOff n m.homeDir 7
    | 1 =>
      if s.rd .hmFoundAt n ≠ 0 && decide (s.rdN .hmFoundAt n ≤ s.now) then
        ((s.stopMove n).wr .hmPhase n 2).wr .hmFoundAt n 0
      else s
    | _ => if (s.planner n).arrived then s.homeArrived n m else s

/-- A search that has reached its target at the present mark without a find (R131, R135), and a phase that has ended at it without a
profile step having seen it. -/
def State.homeMark (s : State) (n : Nat) : State :=
  match s.homeRec n with
  | none => s
  | some m =>
    let ph := s.rdN .hmPhase n
    let r := if ph = 1 && s.rd .hmFoundAt n = 0 then some 2 else if ph = 5 then some 3 else s.homeEnd n m
    match r with
    | none => s
    | some r =>
      let s := s.mergeLow n 1023
      (((s.homeResult n m.method r).completeRec n).wr .goalKind n 0).setAxis n 1

/-- The result of a search that another limit input ends as not found (R184, R135). -/
def State.notFound (s : State) (n : Nat) : Nat := if s.rd .hmPhase n = 5 then 3 else 2

/-- The search of the HOME record of axis `n` ends as not found in a profile step (R184): the axis stops along its descent. -/
def State.homeNotFound (s : State) (n : Nat) (m : Move) : State :=
  (((s.homeResult n m.method (s.notFound n)).completeRec n).setAxis n 2).stopMove n

/-- A hard stop completes the active record at the stop mark (R128, R184), a HOME record with the result `r`. -/
def State.hardEnd (s : State) (n r : Nat) : State :=
  let h := match s.homeRec n with
    | some m => 16 * m.method + r
    | none => 0
  let s := (((s.hardStop n).dropAssign n).completeAtMark n).wr .finHome n h
  s.wr .finPend n (s.rdN .finPend n ||| 4 : Nat)

-- learning

/-- Ascent and descent distance at speed `v` (R43) in microsteps, rounded up, and the steps of a leg (R124). -/
def State.legDist (s : State) (n v : Nat) : Nat :=
  let lim : Lim := ⟨s.rdN .VMAX n, s.rdN .AMAX n, s.rdN .DMAX n, s.rdN .JMAX n⟩
  let V := velUnits v
  let d := distOf (ramp lim 0 0 V) + distOf (ramp lim V 0 0)
  (-(fdiv (-d) (posUnits 65536))).toNat + (s.rdN .LEARN_STEPS n + 2) * 1024

/-- The learning speeds in use, as points 0–7. -/
def State.learnPoints (s : State) (n : Nat) : List Nat := (List.range 8).filter (fun k => s.rd .LEARN_SPEED (8 * n + k) ≠ 0)

/-- LEARN_EXCURSION (R124). -/
def State.excursion (s : State) (n : Nat) : Nat :=
  ((s.learnPoints n).map (fun k => s.legDist n (s.rdN .LEARN_SPEED (8 * n + k)))).foldl max 0

/-- The sign of the present leg (R124). -/
def State.legDir (s : State) (n : Nat) : Int := if s.rd .LEARN_FIRST n = s.rd .lnLeg n then 1 else -1

/-- An accepted LEARN_START 0x01 (R123). -/
def State.learnAsk (s : State) (n : Nat) : State :=
  let s := (s.wr .LEARN_RESULT n 1).wr .LEARN_EXCURSION n (s.excursion n)
  let s := (s.wr .lnCond n (s.condOf n (s.rdN .dvLast (dieOf n)) 0)).wr .lnOn n 1
  s.forAll 16 (fun s k => s.wr .lnEntry (16 * n + k) 0)

/-- The counters of a leg cleared (R125). -/
def State.clearLeg (s : State) (n : Nat) : State :=
  [Reg.lnCnt, .lnSamp, .lnOff, .lnR1, .lnR2, .lnMeth].foldl (fun s r => s.wr r n 0) s

/-- A learning run begins at the present mark (R124). -/
def State.learnBegin (s : State) (n : Nat) : State :=
  let s := ((s.wr .lnPoint n ((s.learnPoints n).headD 0)).wr .lnLeg n 0).wr .lnStart n (s.rd .posQ n)
  ((s.clearLeg n).wr .lnOn n 2).wr .lnGo n 1 |>.setAxis n 2

/-- A learning run fails or aborts (R125): a moving axis stops under R60, one at rest goes to HOLD. -/
def State.learnEnd (s : State) (n r : Nat) : State :=
  let s := (((s.wr .lnOn n 0).wr .lnGo n 0).wr .LEARN_RESULT n r).detect (blkAxis n) 0x17
  if s.rd .AXIS_STATE n ≠ 2 then s
  else if s.rd .goalKind n = 0 then s.setAxis n 1
  else (s.wr .stopPend n 1).wr .stopAt n s.now

/-- The leg that waits for the profile step is planned (R124). -/
def State.learnLeg (s : State) (n : Nat) : State :=
  let v := s.rdN .LEARN_SPEED (8 * n + s.rdN .lnPoint n)
  let x := s.rd .lnStart n
  let T := if s.rd .lnLeg n = 0 then x + s.legDir n * s.legDist n v * 65536 else x
  (s.wr .lnGo n 0).newMove n T v

/-- Whether the values of a leg spread too far (R125): σ / μ · 1,000 > LEARN_SPREAD with the standard deviation over the N values
themselves (log entry 24). -/
def spreads (cnt r1 r2 limit : Int) : Bool := decide (limit * limit * (r1 * r1) < 1000000 * (cnt * r2 - r1 * r1))

/-- The entry of the present leg (R120, R125); a reference that is no Q16.16 of 32 bits has no stated reading and is free. -/
def State.learnEntry (s : State) (n : Nat) : State :=
  let meth := s.rdN .lnMeth n
  let v := s.rdN .LEARN_SPEED (8 * n + s.rdN .lnPoint n)
  let num := if meth = 0 then fdiv (s.rd .lnSamp n) 65536 else s.rd .lnSamp n
  let ref := if s.rd .lnOff n = 0 then -1 else fdiv num (s.rd .lnOff n)
  let (ref, s) : Nat × State := if 0 ≤ ref && ref < 2 ^ 32 then (ref.toNat, s) else s.draw 32
  let k := s.rdN .lnPoint n + (if s.legDir n < 0 then 8 else 0)
  s.wr .lnEntry (16 * n + k) (ref + 2 ^ 32 * v + 2 ^ 62 * meth + 2 ^ 63 : Nat)

/-- The leg that has ended is checked, and the next one begins (R124, R125). -/
def State.learnLegEnd (s : State) (n : Nat) : State :=
  if s.rdN .lnCnt n < s.rdN .LEARN_STEPS n then s.learnEnd n 5
  else if spreads (s.rd .lnCnt n) (s.rd .lnR1 n) (s.rd .lnR2 n) (s.rd .LEARN_SPREAD n) then
    (s.wr .LEARN_FAIL_POINT n (s.rd .lnPoint n + 1)).learnEnd n 4
  else
    let s := (s.learnEntry n).clearLeg n
    if s.rd .lnLeg n = 0 then ((s.wr .lnLeg n 1).wr .lnOn n 2).wr .lnGo n 1
    else
      match (s.learnPoints n).filter (fun k => s.rdN .lnPoint n < k) with
      | [] => s.wr .lnOn n 4
      | k :: _ => ((s.wr .lnPoint n k).wr .lnLeg n 0).wr .lnOn n 2 |>.wr .lnGo n 1

/-- LEARN_LEG_END (R125): the mark at which the leg has completed. -/
def execLearnLegEnd (t : Nat) (n : Fin 64) (s : State) : Host.Outcome State Fault Refusal :=
  let s := s.at t
  .next (if s.rd .lnOn n = 3 then s.learnLegEnd n else s)

/-- A learning run that has succeeded at the mark before the present one (R125). -/
def State.learnDone (s : State) (n : Nat) : State :=
  let ofs := unsigned 8 (s.rd .ADAPT_OFFSET_A n) + 256 * unsigned 8 (s.rd .ADAPT_OFFSET_B n)
  let s := s.setTable n 2 (s.rdN .lnCond n % 2 ^ 112 + 2 ^ 112 * ofs) (fun k => s.rd .lnEntry (16 * n + k))
  ((s.wr .lnOn n 0).wr .LEARN_RESULT n 2).setAxis n 1

/-- The learning run of axis `n` at a mark (R124, R125). -/
def State.learnMark (s : State) (n : Nat) : State :=
  let st := s.rdN .lnOn n
  if st = 0 then s
  else if !s.inMode [5, 6] then s.learnEnd n 3
  else if st = 1 then (if s.rd .AXIS_STATE n = 0 || s.rd .AXIS_STATE n = 1 then s.learnBegin n else s.learnEnd n 3)
  else if s.rd .AXIS_STATE n ≠ 2 then s.learnEnd n 3
  else if s.settingsDiffer n (s.rdN .lnCond n) || s.rdN .MIX_TIME n ≠ bitsOf (s.rdN .lnCond n) 63 48 then s.learnEnd n 6
  else if st = 4 then s.learnDone n
  else s

-- held causes

/-- SIG_VOID (R137): the settings are compared with RUN_CURRENT as the amplitude. -/
def State.sigVoid (s : State) (n : Nat) : Bool :=
  s.rd .STALL_REACTION n ≠ 0 &&
  (!(List.range 16).any (fun k => sigValid (s.rdN .SIG_ACTIVE (16 * n + k))) || s.settingsDiffer n (s.rdN .COND_ACTIVE n))

/-- OFFSET_DRIFT (R112): a table with recorded offsets is active, and an offset in effect is off by more than DRIFT_LIMIT. -/
def State.offsetDrift (s : State) (n : Nat) : Bool :=
  let c := s.rdN .COND_ACTIVE n
  let d := s.rdN .DRIFT_LIMIT n
  d ≠ 0 && s.rd .TABLE_ORIGIN n ≠ 0 &&
  (decide (d < (s.rd .ADAPT_OFFSET_A n - condOfsA c).natAbs) || decide (d < (s.rd .ADAPT_OFFSET_B n - condOfsB c).natAbs))

/-- The held causes of this chapter at a mark. -/
def State.loadCauses (s : State) (n : Nat) : State :=
  let s := if s.sigVoid n then s.detectHeld (blkAxis n) 0x18 else s.endCause (blkAxis n) 0x18
  if s.offsetDrift n then s.detectHeld (blkAxis n) 0x13 else s.endCause (blkAxis n) 0x13

end Sys2Proof.Machine
end

