-- ==== Sys2Proof/Machine/Profile.lean ====
section
/-! DEFINITION. The built-in slots of KIND 1 to 3: feedback fold-in, the profile step with everything it takes — stops, targets,
records, limits, limit inputs, following, homing, learning — and the interpolation set-up (R44–R75, R76–R91, R180, R184). -/
namespace Sys2Proof.Machine

-- fold-in and interpolation

/-- FEEDBACK_FOLD_IN (R180, R217): the slot of KIND 1; it always runs. -/
def execFeedbackFoldIn (t : Nat) (n : Fin 64) (m : SlotIn) (s : State) : Host.Outcome State Fault Refusal :=
  .next ((s.at t).builtin 1 n m (fun s => if s.rd .ledBad n = 0 then (s.wr .stampFold n (s.pass + 1)).foldIn n else s))

/-- INTERPOLATION_SET_UP (R13, R217): the slot of KIND 3, after the profile step of the pass. In SAFE it writes no hardware value
(R251). -/
def execInterpolationSetUp (t : Nat) (n : Fin 64) (m : SlotIn) (s : State) : Host.Outcome State Fault Refusal :=
  .next ((s.at t).builtin 3 n m (fun s =>
    if s.rdN .stampProfile n = s.pass + 1 && s.rd .ledBad n = 0 then
      let s := s.wr .stampInterp n (s.pass + 1)
      if s.mode = 9 then s else s.wr .incShadow n (s.rd .incPlan n)
    else s))

-- moves of records

/-- The axis goes to MOVING from IDLE or HOLD (R75), also for a move that has no way to go and completes at the next mark (R46, R48). -/
def State.beginMoving (s : State) (n : Nat) : State :=
  if s.rd .AXIS_STATE n = 0 || s.rd .AXIS_STATE n = 1 then s.setAxis n 2 else s

/-- A 48-bit value held in range (R57). -/
def sat48 (v : Int) : Int := clampInt (-2 ^ 47) (2 ^ 47 - 1) v

/-- The motion of an ABS, REL or VEL record from the state at the next mark (R65). -/
def State.recordMove (s : State) (n : Nat) (m : Move) : State :=
  let x := fdiv (s.planner n).nxt.x 65536
  match m.kind with
  | 1 => s.newMove n (signed 48 m.w1 * 65536) (m.w3 % 2 ^ 32)
  | 2 => s.newMove n (sat48 (x + signed 48 m.w1) * 65536) (m.w3 % 2 ^ 32)
  | _ => s.velMove n (if m.dirNeg then -(m.w1 % 2 ^ 32 : Nat) else (m.w1 % 2 ^ 32 : Nat)) m.dirNeg

/-- The device time at which the ring-time estimate reaches `r`, by two Newton steps from the present cycle (R72). -/
def State.ringToDevice (s : State) (r : Nat) : Nat :=
  let go (t : Nat) : Nat := (t + fdiv ((r : Int) * 2 ^ 32 - s.ringAt t) (2 ^ 32)).toNat
  go (go s.now)

/-- A released record that starts late, at the next mark (R73). A slip outside its type has no stated reading and is free (log entry 7). -/
def State.startLate (s : State) (n : Nat) (m : Move) : State :=
  let slip := fdiv (s.ringAt s.nextMark) (2 ^ 32) - m.w2
  let s := (s.dropRelease n).count .RELEASE_LATE n
  let s := if -2 ^ 31 ≤ slip && slip < 2 ^ 31 then s.wr .RELEASE_SLIP n slip
    else (s.draw 32).2.wr .RELEASE_SLIP n (signed 32 (s.draw 32).1)
  ((s.detect (blkAxis n) 0x1F).recordMove n m).beginMoving n

/-- A waiting release in its profile step (R72–R74): planned from its instant once the next pass contains it, with the instant
resolved to its CKP cycle as the time origin, of an axis that still moves too (log entry 25); late where ring time has passed it by. -/
def State.releaseStep (s : State) (n : Nat) (m : Move) : State :=
  let d := s.ringToDevice m.w2
  let m1 := s.nextMark
  if s.rd .relLate n = 1 || d < m1 then s.startLate n m
  else if d < m1 + 5000 then
    let s := (s.recordMove n m).wr .relWait n 2
    s.wrPlanner n { s.planner n with age := -(((d - m1) / 2 * 2 * passQ / 5000 : Nat) : Int) }
  else s

/-- A record of kind ABS, REL or VEL taken (R65, R74). -/
def State.startMove (s : State) (n : Nat) (m : Move) : State :=
  if m.release then
    let s := (s.wr .relWait n 1).wr .RELEASE_PENDING n m.w2
    let s := if s.rd .AXIS_STATE n = 0 then s.setAxis n 1 else s
    s.releaseStep n m
  else (s.recordMove n m).beginMoving n

/-- A SET_LIMITS record (R56): the limit objects take its values as from a host write of this cycle. What the step has seen of earlier writes
applies before them (R62). -/
def State.setLimits (s : State) (n : Nat) (m : Move) : State :=
  let s := s.iff (s.rd .limNew n ≠ 0) (fun s => s.applyLimits n)
  let put (s : State) (r : Reg) (b v : Nat) : State :=
    if v = 0 then s else ((s.wr r n v).wrBit .limNew n b true).wr .limAt (4 * n + b) s.now
  let s := put (put s .VMAX 0 (m.w1 % 2 ^ 32)) .AMAX 1 (m.w1 / 2 ^ 32)
  put (put s .DMAX 2 (m.w2 % 2 ^ 32)) .JMAX 3 (m.w2 / 2 ^ 32)

/-- A SET_CURRENTS record (R65, R100). -/
def State.setCurrents (s : State) (n : Nat) (m : Move) : State :=
  let put (s : State) (r : Reg) (v : Nat) : State := if v = 0xFFFF then s else s.wr r n v
  put (put (put s .RUN_CURRENT (bitsOf m.w1 15 0)) .HOLD_CURRENT (bitsOf m.w1 31 16)) .BOOST_CURRENT (bitsOf m.w1 47 32)

/-- A CALL record taken (R67, R249). -/
def State.startCall (s : State) (n : Nat) (m : Move) : State :=
  let p := bitsOf m.w1 15 0
  let works := (List.range 256).any (fun w => s.rdN .WORK_PROG w = p && s.rdN .WORK_CTX w = n)
  if (findProg s.progs p).isSome && works then { s with calls := tset none s.calls (1024 * n + p % 1024) (some m.w2) }
  else (s.detect (blkAxis n) 0x1E).completeRec n

/-- What a record does in the profile step that takes it (R65, R67). -/
def State.startRec (s : State) (n : Nat) (m : Move) : State :=
  match m.kind with
  | 4 => if m.w1 = 0 then s.completeRec n else s
  | 5 => s.pollWait n
  | 6 => (s.setLimits n m).completeRec n
  | 7 => (s.setCurrents n m).completeRec n
  | 8 => s.startCall n m
  | 9 => s.startHome n m
  | _ => s.startMove n m

/-- Whether records are taken at all by axis `n` (R67, R322, R146). -/
def State.taking (s : State) (n : Nat) : Bool :=
  s.motionMode && !(s.mode = 8 && s.rd .ISLAND_ACTION 0 = 1) && [0, 1, 2].contains (s.rdN .AXIS_STATE n) &&
  s.rd .disPend n = 0 && s.rd .lnOn n = 0

/-- Whether the record before is complete, so that the next one may be taken in this step (R67). -/
def State.ready (s : State) (n : Nat) : Bool :=
  (s.planner n).act.isNone && s.rd .goalKind n ≠ 1 && s.rd .relWait n = 0 &&
  (s.rd .readyAt n = 0 || decide (s.rdN .readyAt n < s.now))

/-- The record at the head of the move queue of axis `n`, if this cycle may pop it. -/
def State.headRec (s : State) (n : Nat) : Option Move :=
  if s.poppable n = 0 then none
  else
    match (s.queue n).pkts.head? with
    | some (.words [a, b, c, d]) => some ⟨a.toNat, b.toNat, c.toNat, d.toNat, s.pass + 1, false⟩
    | _ => none

/-- A QUEUE_FLUSH that this step sees (R62). -/
def State.takeFlush (s : State) (n : Nat) : State := if s.rd .flushPend n = 1 then (s.flushQueue n).wr .flushPend n 0 else s

/-- What the step is about to replace by taking an input, with the packet `x` of a record, is kept for a hard stop of the same pass (R128). -/
def State.keepPrior (s : State) (n : Nat) (x : Option Pkt) : State :=
  let p := s.planner n
  s.wrPlanner n { p with prior := some ⟨s.pass, p.plan, p.age, p.act, inputRegs.map (fun r => s.rd r n), x⟩ }

/-- The next record taken (R62, R67); a QUEUE_FLUSH seen in this step discards what waits behind it. -/
def State.takeRec (s : State) (n : Nat) : State :=
  if s.taking n && s.ready n then
    match s.headRec n with
    | none => s.takeFlush n
    | some m =>
      let s := ((s.keepPrior n (s.queue n).pkts.head?).pop n).1.takeFlush n
      let s := (s.wrPlanner n { s.planner n with act := some m }).wr .ACTIVE_TAG n m.tag
      let s := (s.wr .ACTIVE_KIND n m.kind).endDeferral n
      s.startRec n { m with mark := s.pass + 1 }
  else s.takeFlush n

-- ends found in the step

/-- Whether the end of the move in progress completes the active record (R46, R58, R60): one that moves the axis and has begun, or, as the
end of a STOP, any. A record taken while a completed velocity move runs on waits for its own condition (R65, R69). -/
def State.endsRec (s : State) (n : Nat) : Bool :=
  s.rd .relWait n ≠ 1 && (s.rd .goalKind n = 1 ||
    match (s.planner n).act with
    | some m => m.kind ≤ 3
    | none => false)

/-- The move in progress ends at the mark the step plans from (R46, R58). A velocity move that its soft limit ends sets SOFT_LIMIT_CLAMP and no
MOVE_DONE; one of speed 0 ends with MOVE_DONE (log entry 149). -/
def State.arrive (s : State) (n : Nat) : State :=
  let soft := s.rd .goalKind n = 2 && s.rd .velGoal n ≠ 0
  let s := s.iff (s.endsRec n) (fun s => s.completeAtMark n)
  let s := s.wr .finPend n (s.rdN .finPend n ||| (if soft then 12 else 5) : Nat)
  let s := if s.rd .lnOn n = 2 then s.wr .lnOn n 3 else s
  (s.wr .goalKind n 0).wrPlanner n { s.planner n with plan := none }

/-- The speed of a VEL record as limited by VMAX (R65). -/
def State.velReached (s : State) (n : Nat) (m : Move) : Bool :=
  let v : Int := min (m.w1 % 2 ^ 32 : Nat) (s.rd .effV n)
  let k := (s.planner n).nxt
  m.kind = 3 && (s.rd .relWait n = 0 || s.rd .relWait n = 3) && m.w1 % 2 ^ 32 ≠ 0 && k.a = 0 && k.v = velUnits (if m.dirNeg then -v else v)

/-- Records and moves that the step finds complete at mark p+1 (R67): arrivals, reached speeds, ended dwells. -/
def State.findEnds (s : State) (n : Nat) : State :=
  let s := match (s.planner n).act with
    | some m =>
      if s.velReached n m then s.completeAtMark n
      else if m.kind = 4 && decide (m.mark + m.w1 % 2 ^ 32 ≤ s.pass + 1) then s.completeAtMark n
      else s
    | none => s
  if s.rd .goalKind n ≠ 0 && s.rd .AXIS_STATE n ≠ 4 && (s.planner n).arrived then s.arrive n else s

-- stops, targets, limit inputs

/-- A planned release whose instant has not come is given up (R74): the angle, which the power die still holds, stays. -/
def State.discardRelease (s : State) (n : Nat) : State :=
  let p := s.planner n
  let s := (s.abandon n).wrPlanner n { p with nxt := ⟨s.rd .posQ n, 0, 0, 0, 0⟩, aft := none, plan := none, age := 0, act := none }
  ((s.wr .ANGLE_INC n 0).wr .relFrom n 0).halt n

/-- A STOP taken by an axis in IDLE, HOLD, MOVING or HOMING (R60, R74, R133). -/
def State.takeStop (s : State) (n : Nat) : State :=
  let s := if s.rd .stopPend n = 2 then s.flushQueue n else s
  let s := (s.wr .stopPend n 0).wr .tgtPend n 0
  let s := if s.rd .lnOn n ≠ 0 then ((s.learnEnd n 3).wr .stopPend n 0) else s
  let s := s.iff (s.rd .AXIS_STATE n = 4) (fun s => (s.dropAssign n).mergeLow n 1023)
  let s := s.iff (s.rd .relWait n = 1) (fun s => s.abandon n)
  if s.rd .relWait n ≠ 0 && s.rd .relFrom n = 1 then s.discardRelease n
  else if s.rd .AXIS_STATE n = 4 then ((s.dropRelease n).stopMove n).wr .hmPhase n 10
  else if s.rd .goalKind n ≠ 0 then
    let s := (s.dropRelease n).stopMove n
    s.beginMoving n
  else (s.dropCall n).completeAtMark n

/-- A TARGET write taken (R51): it is clamped (R57), and moves nothing where it then equals the target in effect. -/
def State.takeTarget (s : State) (n : Nat) : State :=
  let held := s.rd .relWait n ≠ 0 && s.rd .relFrom n = 1
  let k : Kin := if held then ⟨s.rd .posQ n, 0, 0, 0, 0⟩ else (s.planner n).nxt
  let s := s.wr .tgtPend n 0
  if s.rd .lnOn n ≠ 0 then s.learnEnd n 3
  else
    let (s, T) := s.clampTarget n k (s.rd .tgtVal n * 65536)
    if fdiv T 65536 = s.rd .TARGET n then s
    else
      let s := if held then s.discardRelease n else if s.rd .relWait n ≠ 0 then s.abandon n else s.completeRec n
      (s.newMove n T 0).beginMoving n

/-- The direction in which a planned state moves; 0 at rest. -/
def Kin.heading (k : Kin) : Int := if k.v ≠ 0 then k.v.sign else k.a.sign

/-- Bound limit inputs that are active for this step while the bridges are enabled (R45, R184). -/
def State.limitBits (s : State) (n : Nat) : Nat :=
  if s.rd .DRIVE_STATE n = 1 || s.rd .DRIVE_STATE n = 2 then
    (if s.limitSeen n 0 then 1 else 0) + (if s.limitSeen n 1 then 2 else 0)
  else 0

/-- Whether a limit input that this step sees newly active lies in the axis's direction of travel (R184). -/
def State.limitAhead (s : State) (n : Nat) : Bool :=
  let new := s.limitBits n - (s.limitBits n &&& s.rdN .limSeen n)
  let h := (s.planner n).nxt.heading
  (new.testBit 0 && decide (h < 0)) || (new.testBit 1 && decide (0 < h))

/-- LIMIT_HITS and LIMIT_HIT (R184). -/
def State.limitHit (s : State) (n : Nat) : State := (s.count .LIMIT_HITS n).detect (blkAxis n) 0x1A

/-- The reaction of an axis in MOVING or HOMING to a limit input ahead (R184). -/
def State.limitReact (s : State) (n : Nat) : State :=
  match s.homeRec n with
  | some m =>
    let search := s.rd .hmPhase n = 1 || s.rd .hmPhase n = 5
    if search || s.rd .LIMIT_REACTION n ≠ 0 then
      let s := s.limitHit n
      if s.rd .LIMIT_REACTION n = 2 then s.hardEnd n (if search then s.notFound n else if m.method = 4 then 7 else 5)
      else if search then s.homeNotFound n m
      else s.takeStop n
    else s
  | none =>
    match s.rdN .LIMIT_REACTION n with
    | 1 => (s.limitHit n).takeStop n
    | 2 => (s.limitHit n).hardEnd n 0
    | _ => s

-- following

/-- Following ends and the axis stops (R89). -/
def State.followStop (s : State) (n cause : Nat) : State := ((s.endFollow n cause).takeLimits n).stopMove n

/-- The tracking law (R83) as the increment of the next pass, in 2^-16 microstep. All of it is scaled by 4·10^8 · CATCHUP, in which every
term is whole, and rounded down once at the end. -/
def State.trackInc (s : State) (n : Nat) : Int :=
  let c := s.rd .CATCHUP n
  let e := s.rd .gearPrev n - (s.planner n).nxt.x
  let want := (s.rd .gearQ n - s.rd .gearPrev n) * (400000000 * c) + e * 400000000
  let prev := s.rd .ANGLE_INC n * (400000000 * c)
  let lim := s.limits n
  let rate : Nat :=
    if want.sign = prev.sign then (if prev.natAbs < want.natAbs then lim.amax else lim.dmax) else min lim.amax lim.dmax
  let step : Int := (rate : Int) * 65536 * c
  let top : Int := (s.rd .effV n) * 65536 * 20000 * c
  fdiv (clampInt (-top) top (clampInt (prev - step) (prev + step) want)) (400000000 * c)

/-- The state at mark p+2 of an axis that tracks with increment `d` (R83). -/
def State.trackKin (s : State) (n : Nat) (d : Int) : Kin :=
  ⟨(s.planner n).nxt.x + d, d * (20000 * 2 * unitF ^ 2 / 65536 : Nat),
    (d - s.rd .ANGLE_INC n) * (400000000 * unitF / 65536 : Nat), 0, 0⟩

/-- Whether the stopping point of a state lies beyond a soft limit in its direction of travel (R91). -/
def State.pastSoft (s : State) (n : Nat) (k : Kin) : Bool :=
  let S := stopPoint (s.limits n) k
  (decide (0 < k.heading) && decide (s.rd .SOFT_MAX n * 65536 < S)) ||
  (decide (k.heading < 0) && decide (S < s.rd .SOFT_MIN n * 65536))

/-- The soft limit ends following (R89, R91): the axis moves to it. -/
def State.softEnd (s : State) (n : Nat) (up : Bool) : State :=
  let s := (((s.endFollow n 3).event n 3).wr48 .CLAMP_REQUEST n (fdiv (s.rd .gearQ n) 65536)).count .CLAMP_COUNT n
  (s.newMove n ((if up then s.rd .SOFT_MAX n else s.rd .SOFT_MIN n) * 65536) 0).advance n

/-- ENGAGING ends (R82): FOLLOW_STATE goes to LOCKED, and ENGAGE_MODE takes effect. -/
def State.lock (s : State) (n : Nat) : State :=
  let s := (s.wr .FOLLOW_STATE n 2).wr .goalKind n 0
  if s.rd .ENGAGE_MODE n = 1 then
    let e := s.rd .gearPrev n - (s.planner n).nxt.x
    ((s.moveQ .foOrg n (-e)).moveQ .gearQ n (-e)).moveQ .gearPrev n (-e)
  else s

/-- FOLLOW_LAG of the pass (R83). -/
def State.lag (s : State) (n : Nat) : State :=
  if s.rd .srcOk n = 0 then s else s.wr48 .FOLLOW_LAG n (fdiv (s.rd .gearPrev n - (s.planner n).nxt.x) 65536)

/-- The move of an axis that engages (R82): planned as for a VEL record at the signed speed `v`, whose implicit target TARGET reads. The path
is not bounded there: where it would pass a soft limit is what R91 asks of each candidate. -/
def State.chase (s : State) (n : Nat) (v : Int) : State :=
  let k := (s.planner n).nxt
  let x := fdiv k.x 65536
  let T := if v < 0 then min (s.rd .SOFT_MIN n) x else max (s.rd .SOFT_MAX n) x
  let s := (s.takeLimits n).endDeferral n
  let s := ((s.wr .goalCap n v.natAbs).wr .goalKind n 2).wr .velGoal n v
  let s := (s.wr .goalQ n (T * 65536)).wr .TARGET n T
  s.setPlan n (if v = 0 then planStop (s.limits n) k else planTo (s.limits n) k (k.x + v.sign * 2 ^ 80))

/-- Whether a state travels toward a bound limit input that is active (R184). -/
def State.intoLimit (s : State) (n : Nat) (k : Kin) : Bool :=
  let b := s.limitBits n
  (b.testBit 0 && decide (k.heading < 0)) || (b.testBit 1 && decide (0 < k.heading))

/-- A follower that would turn toward an active limit input ends following at the commanded position, to which the limit clamps its geared
position (R184; log entry 153). -/
def State.limitEnd (s : State) (n : Nat) : State :=
  let s := (((s.endFollow n 3).event n 3).wr48 .CLAMP_REQUEST n (fdiv (s.rd .gearQ n) 65536)).count .CLAMP_COUNT n
  (s.stopMove n).advance n

/-- The planner of a following axis whose following goes on (R82, R83, R86, R91). -/
def State.followPlan (s : State) (n : Nat) : State :=
  let s := s.takeLimits n
  let up (k : Kin) : Bool := decide (0 < k.heading)
  let near := (s.rd .CMD_VEL n - s.rd .GEARED_VEL n).natAbs ≤ s.rdN .VEL_WINDOW n && s.rd .CMD_ACC n = 0
  let s := if s.rd .FOLLOW_STATE n = 1 && s.rd .srcOk n = 1 && near then s.lock n else s
  let s := s.lag n
  if s.rd .FOLLOW_STATE n = 1 then
    let s0 := s
    let s := (s.chase n (if s.rd .srcOk n = 1 then s.rd .GEARED_VEL n else 0)).advance n
    match (s.planner n).aft with
    | some k => if s.pastSoft n k then s0.softEnd n (up k) else if s.intoLimit n k then s0.limitEnd n else s
    | none => s
  else
    let d := s.trackInc n
    let k := s.trackKin n d
    if s.pastSoft n k then s.softEnd n (up k)
    else if s.intoLimit n k then s.limitEnd n
    else (s.wrPlanner n { s.planner n with plan := none, age := 0, aft := some k }).wr .incPlan n d

/-- The profile step of an axis in FOLLOW (R89): the first cause of R89 found ends following. The lag it judges is FOLLOW_LAG as the step finds
it, the one that the pass before formed (log entry 152). -/
def State.followStep (s : State) (n : Nat) : State :=
  let stop := s.rd .stopPend n ≠ 0
  let disc := s.rd .discPend n ≠ 0
  let lost := s.sourceLost n
  let limit := s.limitAhead n
  let lagged := s.rd .LAG_MAX n ≠ 0 && decide (s.rdN .LAG_MAX n < (s.rd .FOLLOW_LAG n).natAbs)
  let flushOnLoss (s : State) : State := if s.rd .LOSS_REACTION n = 1 then s.flushQueue n else s
  let s := if lost && (stop || disc) then s.noteLoss n 0x1C else s
  if stop then
    let s := if s.rd .stopPend n = 2 then s.flushQueue n else s
    (((s.wr .stopPend n 0).wr .discPend n 0).followStop n 2).advance n
  else if disc then ((s.wr .discPend n 0).followStop n 1).advance n
  else if lost then (flushOnLoss (((s.noteLoss n 0x1C).event n 8).followStop n 4)).advance n
  else if lagged then (flushOnLoss (((s.detect (blkAxis n) 0x1D).event n 8).followStop n 5)).advance n
  else if limit then
    let s := s.limitHit n
    if s.rd .LIMIT_REACTION n = 2 then
      let s := (s.endFollow n 3).hardStop n
      (s.wr .finPend n (s.rdN .finPend n ||| 4 : Nat)).advance n
    else (s.followStop n 3).advance n
  else s.followPlan n

-- the step

/-- A step of an axis whose planner plans nothing: STALLED, CONTAINED, DISABLED, and every axis in SAFE (R71, R251). A STOP stops nothing
there; 0x02 still flushes. Limit writes stand. -/
def State.idleInputs (s : State) (n : Nat) : State :=
  let s := (s.iff (s.rd .stopPend n = 2) (fun s => s.flushQueue n)).wr .stopPend n 0
  ((s.takeFlush n).wr .tgtPend n 0).takeLimits n

/-- The inputs of an axis in IDLE, HOLD, MOVING or HOMING, in the order of R62. -/
def State.takeInputs (s : State) (n : Nat) : State :=
  let found := s.rd .AXIS_STATE n = 4 && (s.rd .hmPhase n = 2 || s.rd .hmFoundAt n ≠ 0)
  let limit := s.limitAhead n && (s.rd .AXIS_STATE n = 2 || s.rd .AXIS_STATE n = 4) && !found
  if s.rd .stopPend n ≠ 0 then ((s.keepPrior n none).takeStop n).takeFlush n
  else if limit && (s.rd .LIMIT_REACTION n ≠ 0 || s.rd .AXIS_STATE n = 4) then (s.limitReact n).takeFlush n
  else if s.rd .tgtPend n ≠ 0 then ((s.keepPrior n none).takeTarget n).takeFlush n
  else
    let s := if s.rd .relWait n = 1 then
        match (s.planner n).act with
        | some m => s.releaseStep n m
        | none => s
      else s
    let s := (s.homeStep n).findEnds n
    if s.rd .lnGo n = 1 && s.rd .lnOn n = 2 then s.learnLeg n else s.takeRec n

/-- The profile step of an axis in IDLE, HOLD, MOVING or HOMING (R44, R51, R62): whether a new move is planned shows in a plan of
age 0 or less. -/
def State.moveStep (s : State) (n : Nat) : State :=
  let held := s.rd .incHeld n = 1
  let s := ((s.noteSaddle n).pollInstant n).takeInputs n
  let limits := (List.range 4).any (fun b => s.bit .limNew n b && decide (s.rdN .limAt (4 * n + b) < s.now))
  let s := if limits then s.applyLimits n else s
  let s := if held && s.rd .goalKind n ≠ 0 && decide (0 < (s.planner n).age) then s.replan n else s
  s.advance n

/-- The plain objects of an axis that its profile step reads. -/
def stepObjects : List Reg :=
  [.RUN_CURRENT, .HOLD_CURRENT, .BOOST_CURRENT, .BOOST_MODE, .HOLD_DELAY, .HOLD_RAMP, .ENGAGE_MODE, .VEL_WINDOW, .CATCHUP, .LAG_MAX,
   .LOSS_REACTION, .LIMIT_REACTION, .HOME_BACKOFF, .HOME_SEARCH_DIST, .HOME_PRESET, .EX_TRAVEL, .EX_TOL, .EX_LOAD_MIN,
   .EX_RETURN, .LEARN_STEPS, .LEARN_FIRST]

/-- What host writes of the present cycle have left in the inputs of axis `n`: register and number (R45). A STOP, a TARGET, a flush, a disengagement
and a limit carry the time of their write; every other object shows it by its value. -/
def State.late (s : State) (n : Nat) : List (Reg × Nat) :=
  let at' (a : Reg) (k : Nat) (l : List Reg) : List (Reg × Nat) := if s.rdN a k = s.now then l.map (fun r => (r, n)) else []
  at' .stopAt n [.stopPend] ++ at' .tgtAt n [.tgtPend, .tgtVal] ++ at' .flushAt n [.flushPend] ++ at' .discAt n [.discPend] ++
  at' .limAt (4 * n) [.VMAX] ++ at' .limAt (4 * n + 1) [.AMAX] ++ at' .limAt (4 * n + 2) [.DMAX] ++ at' .limAt (4 * n + 3) [.JMAX] ++
  ((stepObjects.map (fun r => (r, n))) ++ (List.range 8).map (fun k => (Reg.LEARN_SPEED, 8 * n + k))).filter
    (fun p => s.rd p.1 p.2 ≠ s.rdWas p.1 p.2)

/-- The limits of axis `n` written in the present cycle, as bits of limNew. -/
def State.lateLimits (s : State) (n : Nat) : List Nat := (List.range 4).filter (fun b => s.rdN .limAt (4 * n + b) = s.now)

/-- The step `f` of axis `n` as it sees its inputs (R45): without the writes of its own cycle, which stand again after it for the next one. -/
def State.seeing (s : State) (n : Nat) (f : State → State) : State :=
  let l := s.late n
  let b := s.lateLimits n
  let v := l.foldl (fun (v : State) p => v.wr p.1 p.2 (s.rdWas p.1 p.2)) s
  let v := b.foldl (fun (v : State) k => v.wrBit .limNew n k ((s.rdWas .limNew n).toNat.testBit k)) v
  let t := l.foldl (fun (t : State) p => t.wr p.1 p.2 (s.rd p.1 p.2)) (f v)
  b.foldl (fun (t : State) k => t.wrBit .limNew n k true) t

/-- The profile step of axis `n` (R44) on the inputs that it sees. -/
def State.plannerStep (s : State) (n : Nat) : State :=
  let s := s.wr .stampProfile n (s.pass + 1)
  if s.mode = 9 then s.idleInputs n
  else
    let s := s.formGear n (s.rdN .PASS_MARK_TIME 0)
    let s := match s.rdN .AXIS_STATE n with
      | 5 | 6 | 7 => (s.idleInputs n).advance n
      | 3 => s.followStep n
      | _ => s.moveStep n
    let s := (s.wr .limSeen n (s.limitBits n)).wr .incHeld n 0
    (s.iff (s.rd .AXIS_STATE n < 6) (fun s => s.writeAmplitude n)).dropStep n

/-- The profile step of axis `n` (R44, R45). -/
def State.profile (s : State) (n : Nat) : State := s.seeing n (fun s => s.plannerStep n)

/-- The profile step as its slot of KIND 2 commits it: nothing where the fold-in of the pass has no stamp (R217), or while the ledger
record of the axis is bad (R215). -/
def State.profileSlot (s : State) (n : Nat) (m : SlotIn) : State :=
  s.builtin 2 n m (fun s => if s.rdN .stampFold n = s.pass + 1 && s.rd .ledBad n = 0 then s.profile n else s)

/-- PROFILE_STEP (R44): the slot of KIND 2. -/
def execProfileStep (t : Nat) (n : Fin 64) (m : SlotIn) (s : State) : Host.Outcome State Fault Refusal :=
  .next ((s.at t).profileSlot n m)

/-- The profile step of this pass where the record at the head of the queue is one that `p` accepts. -/
def State.takeIf (s : State) (n : Nat) (p : Move → Bool) : State :=
  match s.headRec n with
  | some m => if p m then s.profileSlot n ⟨false, false, .clean⟩ else s
  | none => s

/-- Whether a record is HOME with method `k`. -/
def Move.isHome (m : Move) (k : Nat) : Bool := m.kind = 9 && m.method = k

/-- ABS (R65): the profile step that takes an ABS record. -/
def execAbs (t : Nat) (n : Fin 64) (s : State) : Host.Outcome State Fault Refusal :=
  .next ((s.at t).takeIf n (fun m => m.kind = 1))

/-- REL (R65). -/
def execRel (t : Nat) (n : Fin 64) (s : State) : Host.Outcome State Fault Refusal :=
  .next ((s.at t).takeIf n (fun m => m.kind = 2))

/-- VEL (R65). -/
def execVel (t : Nat) (n : Fin 64) (s : State) : Host.Outcome State Fault Refusal :=
  .next ((s.at t).takeIf n (fun m => m.kind = 3))

/-- DWELL (R65). -/
def execDwell (t : Nat) (n : Fin 64) (s : State) : Host.Outcome State Fault Refusal :=
  .next ((s.at t).takeIf n (fun m => m.kind = 4))

/-- WAIT (R65, R68). -/
def execWait (t : Nat) (n : Fin 64) (s : State) : Host.Outcome State Fault Refusal :=
  .next ((s.at t).takeIf n (fun m => m.kind = 5))

/-- SET_LIMITS (R56). -/
def execSetLimits (t : Nat) (n : Fin 64) (s : State) : Host.Outcome State Fault Refusal :=
  .next ((s.at t).takeIf n (fun m => m.kind = 6))

/-- SET_CURRENTS (R100). -/
def execSetCurrents (t : Nat) (n : Fin 64) (s : State) : Host.Outcome State Fault Refusal :=
  .next ((s.at t).takeIf n (fun m => m.kind = 7))

/-- CALL (R249). -/
def execCall (t : Nat) (n : Fin 64) (s : State) : Host.Outcome State Fault Refusal :=
  .next ((s.at t).takeIf n (fun m => m.kind = 8))

/-- HOME_HERE (R130). -/
def execHomeHere (t : Nat) (n : Fin 64) (s : State) : Host.Outcome State Fault Refusal :=
  .next ((s.at t).takeIf n (fun m => m.isHome 0))

/-- HOME_END_STOP (R131). -/
def execHomeEndStop (t : Nat) (n : Fin 64) (s : State) : Host.Outcome State Fault Refusal :=
  .next ((s.at t).takeIf n (fun m => m.isHome 1))

/-- HOME_LIMIT_INPUT (R131). -/
def execHomeLimitInput (t : Nat) (n : Fin 64) (s : State) : Host.Outcome State Fault Refusal :=
  .next ((s.at t).takeIf n (fun m => m.isHome 2))

/-- HOME_LIMIT_OR_END_STOP (R131). -/
def execHomeLimitOrEndStop (t : Nat) (n : Fin 64) (s : State) : Host.Outcome State Fault Refusal :=
  .next ((s.at t).takeIf n (fun m => m.isHome 3))

/-- HOME_EXERCISE_RUN (R134). -/
def execHomeExerciseRun (t : Nat) (n : Fin 64) (s : State) : Host.Outcome State Fault Refusal :=
  .next ((s.at t).takeIf n (fun m => m.isHome 4))

/-- A released record starts (R72, R74): the angle begins the first increment in the present CKP cycle. -/
def State.releaseNow (s : State) (n : Nat) : State :=
  let s := s.iff s.tsy (fun s => s.count .RELEASE_UNSYNC n)
  let s := if s.rd .relFrom n = 1 then s.wr .relFrom n ((s.now - s.rdN .PASS_MARK_TIME 0) / 2 + 2 : Nat) else s
  ((s.dropRelease n).beginMoving n).checkSync

/-- RELEASE_START (R72): the CKP cycle that contains the release instant. -/
def execReleaseStart (t : Nat) (n : Fin 64) (s : State) : Host.Outcome State Fault Refusal :=
  let s := s.at t
  .next (
    if s.rd .relWait n = 3 && decide (s.rdN .RELEASE_PENDING n ≤ s.ring + 1) then
      s.releaseNow n
    else s)

end Sys2Proof.Machine
end

