-- ==== Sys2Proof/Machine/Convert.lean ====
section
/-! DEFINITION. Converters, sequences, triggers, urgent requests, harvest, capture, containment and calibration (R192–R208), and the
SYNC input (R369). Times within a sequence are kept in half ticks of 5 ns: a CKA cycle is five of them. -/
namespace Sys2Proof.Machine

/-- Half ticks of `k` CKA cycles. -/
def cka (k : Nat) : Nat := 5 * k

/-- Whether converter `c` takes part in sequences: not off, contained, calibrating, or in a self-check (R195, R203, R205). -/
def State.cvRuns (s : State) (c : Nat) : Bool :=
  s.rd .CV_MODE c ≠ 0 && s.rd .CV_STATE c ≠ 3 && s.rd .CV_STATE c ≠ 5 && decide (2 ≤ s.mode)

/-- The converters that run one sequence per trigger: the lockstep group, and in STANDBY every converter that is not off (R195, R204). -/
def State.seqMembers (s : State) : List Nat := if s.mode = 11 then (List.range 16).filter (fun c => s.rd .CV_MODE c ≠ 0) else s.lockstep

/-- The start-up delay before a conversion in STANDBY (R204), in CKA cycles. -/
def State.powerUp (s : State) : Nat := if s.mode = 11 then 80 else 0

/-- Slot length of entry `k` (R195, R204), in CKA cycles; 0 where no member has the entry. -/
def State.slotLen (s : State) (k : Nat) : Nat :=
  let len (c : Nat) : Nat := if k < s.rdN .SEQ_LEN c then entrySample (s.rdN .SEQ_ENTRY (16 * c + k)) + 16 + s.powerUp else 0
  (s.seqMembers.map len).foldl max 0

/-- Start of slot `k` of the sequence that began at `from'`, in half ticks; of slot 16: its end. -/
def State.slotStart (s : State) (from' k : Nat) : Nat := from' + cka ((List.range k).map s.slotLen).sum

/-- Sample window of the conversion in progress on converter `c`, in CKA cycles. -/
def State.cvSample (s : State) (c : Nat) : Nat :=
  if s.rd .cvCur c = 2 then s.rdN .URGENT_SAMPLE c else entrySample (s.rdN .SEQ_ENTRY (16 * c + s.rdN .cvEnt c))

/-- A conversion of kind `kind` of converter `c` due at `at'`; `ent` is its entry. cvPos is the number of the entry that follows it in the sequence
plus 1, 0 after the last one. -/
def State.cvBegin (s : State) (c kind ent at' : Nat) : State :=
  let s := (s.wr .cvCur c kind).wr .cvEnt c ent
  let s := s.wr .cvFrom c (at' + cka s.powerUp : Nat)
  if kind = 1 then s.wr .cvPos c (if ent + 1 < s.rdN .SEQ_LEN c then ent + 2 else 0 : Nat) else s

/-- What converter `c` does next when it is free at `at'` (R195, R197): a held urgent request, the next entry, or nothing. -/
def State.cvNext (s : State) (c at' : Nat) : State :=
  let s := s.wr .cvCur c 0
  if !s.cvRuns c then s
  else if s.rd .cvUrg c ≠ 0 then s.cvBegin c 2 15 at'
  else
    let k := s.rdN .cvPos c - 1
    let more := s.rd .cvPos c ≠ 0 && decide (k < s.rdN .SEQ_LEN c)
    if s.rd .CV_MODE c = 2 && s.mode ≠ 11 then s.cvBegin c 1 (if more then k else 0) at'
    else if more then s.cvBegin c 1 k (max at' (s.slotStart (s.rdN .seqStart 0) k))
    else s

/-- The group's sequence starts at `at'` (R195, R196): members that are free take entry 0, busy ones take it as soon as they are free. -/
def State.startSeq (s : State) (at' : Nat) : State :=
  let s := ((s.wr .seqStart 0 at').wr .trigHeld 0 0).wr .seqEnd 0 (s.slotStart at' 16)
  s.forList s.seqMembers (fun s c =>
    let s := s.wr .cvPos c 1
    if s.rd .cvCur c = 0 then s.cvNext c at' else s)

/-- A latched trigger starts the next sequence once the running one has ended (R196). -/
def State.seqCatch (s : State) : State :=
  if s.rd .trigHeld 0 = 1 && decide (s.rdN .seqEnd 0 ≤ 2 * s.now + 1) then s.startSeq (s.rdN .seqEnd 0) else s

/-- The CKA boundary of a trigger in the present cycle: CKA has an edge at every mark (R359). -/
def State.ckaNow (s : State) : Nat :=
  let m := s.rdN .PASS_MARK_TIME 0
  2 * m + cka ((2 * (s.now - m) + 4) / 5)

/-- A lockstep trigger in the present cycle (R196). -/
def State.trigger (s : State) : State :=
  let s := s.seqCatch
  let g := s.seqMembers
  let at' := s.ckaNow
  match g with
  | [] => s
  | low :: _ =>
    if s.rdN .seqEnd 0 < at' + 5 then s.startSeq (max at' (s.rdN .seqEnd 0))
    else if s.rd .trigHeld 0 = 0 then (s.wr .trigHeld 0 1).forList g (fun s c => s.count .TRIG_LATCHED c)
    else
      let s := s.forList g (fun s c => (s.count .TRIG_LOST c).raise .CV_EVENTS c 4)
      (s.detect (blkCv low) 0x11).traceIf 6 (s.bit .tfConvs 0 low) (low + 2 ^ 11)

/-- Whether a pass-mark trigger falls in the present cycle (R196, R204). -/
def State.markTrigger (s : State) : Bool :=
  decide (2 ≤ s.mode) && (
    if s.mode = 11 then s.atMark && s.pass % (s.rdN .STANDBY_PERIOD 0) = 0
    else s.rd .LOCK_TRIGGER 0 = 0 && s.now - s.rdN .PASS_MARK_TIME 0 = 5 * s.rdN .LOCK_OFFSET 0 / 2)

/-- CONVERSION_TRIGGER (R196): the mark delayed by LOCK_OFFSET; in STANDBY every STANDBY_PERIOD-th mark (R204). A trigger by SYNC is
the effect of SYNC_INPUT_EDGE. -/
def execConversionTrigger (t : Nat) (s : State) : Host.Outcome State Fault Refusal :=
  let s := s.at t
  .next (if s.markTrigger then s.trigger else s)

/-- SYNC_INPUT_EDGE (R369): a stable rising edge of SYNC used as an input. -/
def execSyncInputEdge (t : Nat) (s : State) : Host.Outcome State Fault Refusal :=
  let s := s.at t
  .next (
    if s.rd .SYNC_MODE 0 ≠ 2 then s
    else
      let s := ((s.wr .SYNC_IN_DEVICE 0 s.now).wr .SYNC_IN_RING 0 s.ring).count .SYNC_EDGES 0
      if s.rd .LOCK_TRIGGER 0 = 1 && s.mode ≠ 11 && decide (2 ≤ s.mode) then s.trigger else s)

-- urgent requests

/-- An accepted URGENT_REQ (R197): at once where the converter is idle, an entry that only waits for its slot moving behind it. A sequence that a
latched trigger has started meanwhile has its entry 0 under way. -/
def State.askUrgent (s : State) (c v : Nat) : State :=
  let s := s.seqCatch.wr .cvUrg c (v + 1 : Nat)
  if s.rd .cvCur c = 0 then s.cvNext c s.ckaNow
  else if s.rd .cvCur c = 1 && decide (2 * s.now + cka s.powerUp < s.rdN .cvFrom c) then
    (s.wr .cvPos c (s.rd .cvEnt c + 1)).cvNext c s.ckaNow
  else s

/-- Whether a write of URGENT_REQ is refused, and with what (R197, R35). -/
def State.urgentCode (s : State) (c v : Nat) : Nat :=
  if s.rd .CV_MODE c = 0 then 4
  else if s.rd .CV_STATE c = 3 || s.rd .CV_STATE c = 5 || s.rd .cvUrg c ≠ 0 then 7
  else if 11 < v % 16 || 63 < v then 5
  else 0

-- containment

/-- A calibration point in progress ends without a result (R205). -/
def State.voidPoint (s : State) : State :=
  if s.rd .calBusy 0 = 0 then s
  else
    let i := 4 * s.rdN .calC 0 + s.rdN .calG 0
    let s := s.wrBit .calHave i (s.rdN .calBusy 0 - 1) false
    let c := s.rdN .calC 0
    let s := (s.wr .calBusy 0 0).wr .CAL_STATUS 0 4
    if s.rd .CV_STATE c = 5 then s.wr .CV_STATE c 0 else s

/-- A converter that leaves calibration or containment rejoins its mode (R203, R205): at the next trigger, in continuous mode at once. -/
def State.cvRejoin (s : State) (c : Nat) : State :=
  let s := ((s.wr .CV_STATE c 0).wr .cvPos c 0).wr .cvCur c 0
  s.cvNext c s.ckaNow

/-- Converter `c` is contained for cause `k` with bit `b` of CV_EVENTS (R198, R203); a consequent detection contains nothing (R340). -/
def State.cvContain (s : State) (c k b : Nat) : State :=
  let cons := s.covered (blkCv c) k
  let s := (s.raise .CV_EVENTS c (2 ^ b)).detect (blkCv c) k
  if cons then s
  else
    let s := if s.rd .calC 0 = c then s.voidPoint else s
    ((s.wr .CV_STATE c 3).wr .cvCur c 0).wr .cvUrg c 0

-- capture

/-- A word of Q75 (R202). -/
def captureWord (code : Int) (entry conv : Nat) (oor susp ovr urg : Bool) (time : Nat) : Word64 :=
  BitVec.ofNat 64 (unsigned 16 code + 2 ^ 16 * entry + 2 ^ 20 * conv + (if oor then 2 ^ 24 else 0) + (if susp then 2 ^ 25 else 0) +
    (if ovr then 2 ^ 26 else 0) + (if urg then 2 ^ 27 else 0) + 2 ^ 32 * (time % 2 ^ 32))

/-- The held result of converter `c` pushed to Q75; `ovr`: as a replaced result (R198, R202). -/
def State.captureHeld (s : State) (c : Nat) (ovr : Bool) : State :=
  let f := s.rdN .hdFlags c
  let w := captureWord (s.rd .hdCode c) (s.rdN .hdEntry c) c (f.testBit 0) (f.testBit 1) ovr (f.testBit 3)
    (s.rdN .hdTime c)
  match s.push 75 (.words [w]) with
  | (s, true) => s
  | (s, false) => s.count .CAPTURE_DROPS 0

-- harvest

/-- The axis of input `i` (0–7) of converter `c` (R8), or the first axis that the converter serves. -/
def axisOf (c i : Nat) : Nat := 8 * (c / 2) + 4 * (c % 2) + (if i < 8 then i / 2 else 0)

/-- A raw code corrected (R200), in 1/16 LSB. -/
def State.corrected (s : State) (c g : Nat) (code : Int) : Int :=
  roundDiv ((16 * code - s.rd .CAL_OFS (4 * c + g)) * s.rd .CAL_GAIN_FACTOR (4 * c + g)) 16384

/-- A reading that is a U16 object; one below 0 or above its range has no stated value (log entry 26). -/
def State.wr16 (s : State) (r : Reg) (i : Nat) (v : Int) : State :=
  if 0 ≤ v && v < 65536 then s.wr r i v else (s.draw 16).2.wr r i (s.draw 16).1

/-- A result of ground at gain 1 is checked (R203): `v` in 1/16 LSB. -/
def State.groundCheck (s : State) (c : Nat) (v : Int) : State :=
  if v.natAbs ≤ 16 * s.rdN .GND_TOL c then s.wr .gndRun c 0
  else
    let s := s.count .GROUND_FAILS c
    if s.rd .gndRun c = 1 then (s.wr .gndRun c 0).cvContain c 2 3 else s.wr .gndRun c 1

/-- A phase current delivered (R200): the error sample where it is valid (R107), the slope sample where the result is flagged (R118). The current of
an urgent conversion is taken like that of an entry (log entry 154). -/
def State.takeCurrent (s : State) (c input : Nat) (cur : Int) : State :=
  let n := axisOf c input
  let ph := input % 2
  let ref := s.rd .hdRef c
  let tag := s.rdN .hdTag c
  let ok := s.rdN .hdFlags c % 8 = 0 && s.rd .CV_STATE c ≠ 3 && decide (s.rdN .ADAPT_MIN_REF n ≤ ref.natAbs) && !tag.testBit 1 &&
    s.rd .ADAPT_ENABLE n = 1 && s.rd .AXIS_STATE n ≠ 6 && s.rd .AXIS_STATE n ≠ 7 && !tag.testBit 0
  let s := if ok then s.takeError n ph ref cur else s
  if tag.testBit 2 then s.takeSlope n ph (s.rdN .hdOff c) (s.rdN .hdTime c) cur.natAbs else s

/-- The held result of converter `c` delivered (R200): the value delivered, in the input's unit, and the state. -/
def State.deliver (s : State) (c : Nat) : Int × State :=
  let g := s.rdN .hdGain c
  let input := s.rdN .hdInput c
  let clean := s.rdN .hdFlags c % 8 = 0
  let v := if s.bit .hdFlags c 0 then 16 * s.rd .hdCode c else s.corrected c g (s.rd .hdCode c)
  if input < 8 then
    let cur := roundDiv v (4 * 2 ^ g : Nat)
    (cur, s.takeCurrent c input cur)
  else
    let k := c / 2
    let x := roundDiv v (16 * 2 ^ g : Nat)
    match input with
    | 8 => (x, if clean then (s.wr16 .BUS_TAP k x).takeBus k x else s)
    | 9 => (x, if clean then (s.wr .DIE_TEMP k x).keepMax .DIE_TEMP_MAX k x else s)
    | 11 => (v, if g = 0 then s.groundCheck c v else s)
    | _ => (v, s)

/-- V1 of a harvest program (R252). -/
def State.harvestInfo (s : State) (c : Nat) : Nat :=
  let f := s.rdN .hdFlags c
  s.rdN .hdEntry c + 2 ^ 4 * s.rdN .hdInput c + 2 ^ 8 * s.rdN .hdGain c + 2 ^ 10 * (f % 16)

/-- A run of program `p` for unit key `u` begins in the present cycle (R240): registers 0. -/
def State.startRun (s : State) (u : Nat) (p : Prog) (ctx slot : Nat) (regs : List Word32) : State :=
  let r : Run := {
    prog := p.num, words := p.words, pos := 0, regs := regs ++ List.replicate (16 - regs.length) 0, loops := [], ctx := ctx
    slot := slot, start := s.now, cycles := 0, stores := [], pushes := [], pops := [], read := [], writes := [], called := false }
  { s with runs := tset none s.runs u (some r) }

/-- The harvest unit takes the held result in the present cycle (R198, R200) and starts its program. -/
def State.harvest (s : State) (c : Nat) : State :=
  let input := s.rdN .hdInput c
  let info := s.harvestInfo c
  let ref := if input < 8 then s.rd .hdRef c else 0
  let (v, s) := s.deliver c
  let s := if s.bit .hdFlags c 4 then s.captureHeld c false else s
  let s := (s.wr .hdFull c 0).wr .hvFree c (s.now + 8 : Nat)
  match findProg s.progs (s.rdN .HARVEST_PROG c) with
  | some p => s.startRun (16 + c) p (axisOf c input) 0 [BitVec.ofInt 32 v, BitVec.ofNat 32 info, BitVec.ofInt 32 ref]
  | none => s.keepMax .HARVEST_MAX c 8

/-- Whether the harvest unit of converter `c` is idle (R198). -/
def State.hvIdle (s : State) (c : Nat) : Bool := decide (s.rdN .hvFree c ≤ s.now) && (tget none s.runs (16 + c)).isNone

/-- HARVEST (R198, R200): the first cycle in which the unit is idle and the register holds an untaken result. -/
def execHarvest (t : Nat) (c : Fin 16) (s : State) : Host.Outcome State Fault Refusal :=
  let s := s.at t
  .next (if s.rd .hdFull c = 1 && s.hvIdle c then s.harvest c else s)

-- completion

/-- The chopper of a phase in CKP cycle `c`, as it is in the present cycle or was before its last changes: its state, whether it was in a
reversal, and the cycle in which it went to that state. -/
def State.phaseAt (s : State) (n ph c : Nat) : Nat × Bool × Nat :=
  let p := 2 * n + ph
  if s.rdN .phSince p ≤ c then (s.rdN .phState p, s.rd .phRev p = 1, s.rdN .phSince p)
  else
    let i := ((List.range 4).find? (fun i => decide (s.rdN .phWasAt (4 * p + i) ≤ c))).getD 3
    (s.rdN .phWas (4 * p + i) % 4, s.bit .phWas (4 * p + i) 2, s.rdN .phWasAt (4 * p + i))

/-- What the power die tags a phase-current result with (R107, R118): bit 0 the chopper was OPEN at the end of the window, bit 1 the
phase was in a reversal, bit 2 the flag of a slope pair. -/
def State.phaseTag (s : State) (n ph from' till : Nat) (ref : Int) : Nat :=
  let s := s.settlePhase n ph s.ckp
  let p := 2 * n + ph
  let x := s.phaseAt n ph (s.ckpOf till)
  let a := s.ckpOf from'
  let flag := decide ((s.rd .CMD_VEL n).natAbs < s.rdN .LI_MIN_SPEED n) && x.1 = 2 && decide (x.2.2 ≤ a) &&
    decide (s.rdN .phOffAt p + s.rdN .effBlank n ≤ a) && decide (7 * s.rdN .AMP_CODE n ≤ 8 * ref.natAbs)
  (if x.1 = 0 then 1 else 0) + (if x.2.1 then 2 else 0) + (if flag then 4 else 0)

/-- The untaken result of converter `c` replaced by the one that completes (R198). -/
def State.overrun (s : State) (c : Nat) : State :=
  let s := (s.captureHeld c true).count .OVERRUNS c
  let s := (s.tally (116 + c)).wr .ovrWin c (s.rd .ovrWin c + 1)
  let s := (s.raise .CV_EVENTS c 1).detect (blkCv c) 0x10
  if s.rd .OVERRUN_LIMIT c ≠ 0 && decide (s.rd .OVERRUN_LIMIT c < s.rd .ovrWin c) && s.rd .CV_STATE c ≠ 3 then s.cvContain c 1 4
  else s

/-- A completed conversion of converter `c` enters the result register (R192, R197, R198, R201). -/
def State.complete (s : State) (c : Nat) (code : Int) : State :=
  let urg := s.rd .cvCur c = 2
  let S := s.cvSample c
  let from' := s.rdN .cvFrom c / 2
  let smp := (s.rdN .cvFrom c + cka S) / 2
  let k := s.rdN .cvEnt c
  let e := s.rdN .SEQ_ENTRY (16 * c + k)
  let q := s.rdN .cvUrg c - 1
  let input := if urg then q % 16 else entryInput e
  let gain := if urg then q / 16 % 4 else entryGain e
  let r := clampInt (-8192) 8191 code
  let oor : Bool := r = 8191 || r = -8192
  let susp := s.rd .cvSusp c = 1
  let ref := if input < 8 then s.refIn (axisOf c input) (input % 2) (s.ckpOf smp) else 0
  let tag := if input < 8 then s.phaseTag (axisOf c input) (input % 2) from' smp ref else 0
  let off := s.rd .phOffNum (2 * axisOf c input + input % 2)
  let s := s.iff oor (fun s => ((s.count .OOR_COUNT c).raise .CV_EVENTS c 2).detect (blkCv c) 0x20)
  let s := (s.iff susp (fun s => s.count .SUSPECT_COUNT c)).wr .cvSusp c (ofBool oor)
  let s := s.count .CONVERSIONS c 1 64
  let s := if s.rd .hdFull c = 1 && s.hvIdle c then s.harvest c else s
  let ovr := s.rd .hdFull c = 1
  let s := s.iff ovr (fun s => s.overrun c)
  let fl : Nat := ofBits [oor, susp, ovr]
  let s := if urg then
      (((s.wr .URGENT_RESULT c r).wr .URGENT_FLAGS c fl).count .URGENT_DONE c).wr .cvUrg c 0
    else
      let old := s.rdN .RESULT_FLAGS c
      (s.wr .CV_RESULT (16 * c + k) r).wr .RESULT_FLAGS c (old - bitsOf old (4 * k + 3) (4 * k) * 16 ^ k + (fl + 8) * 16 ^ k : Nat)
  let s := ((s.wr .hdFull c 1).wr .hdCode c r).wr .hdEntry c (if urg then 15 else k)
  let s := ((s.wr .hdInput c input).wr .hdGain c gain).wr .hdFlags c
    (fl + (if urg then 8 else 0) + (if !urg && entryCapture e then 16 else 0) : Nat)
  let s := ((s.wr .hdTime c smp).wr .hdRef c ref).wr .hdTag c tag
  let s := s.wr .hdOff c off
  s.traceIf 6 (fl ≠ 0 && s.bit .tfConvs 0 c) (c + 16 * (if urg then 15 else k) + 2 ^ 8 * fl + (if urg then 2 ^ 12 else 0))

/-- CONVERSION_COMPLETE (R192): `code` is what the converter makes of its input before clamping (R201). The end of the conversion is
the cycle in which its last conversion cycle ends. -/
def execConversionComplete (t : Nat) (c : Fin 16) (code : Int) (s : State) : Host.Outcome State Fault Refusal :=
  let s := (s.at t).seqCatch
  let E := s.rdN .cvFrom c + cka (s.cvSample c + 16)
  .next (
    if s.rd .cvCur c ≠ 0 && s.cvRuns c && decide (E ≤ 2 * s.now + 1) then
      let s := s.complete c code
      s.cvNext c E
    else s)

/-- CV_STATE as read (R209); a contained converter reads 3 whatever its mode (R203). -/
def State.cvStateNow (s : State) (c : Nat) : Nat :=
  let s := s.seqCatch
  if s.rd .CV_STATE c ≠ 0 then s.rdN .CV_STATE c
  else if s.rd .CV_MODE c = 0 then 4
  else if s.rd .cvCur c ≠ 0 && decide (s.rdN .cvFrom c ≤ 2 * s.now + 1) then 1
  else if s.mode = 11 then 2
  else 0

-- self-check

/-- Conversions of converter `c` that are no sequence entries and no urgent ones complete (R201, R209), `l` telling of each in turn whether it is out
of range: each of these counts, and the conversion after it is SUSPECT. One record stands for all of them (log entry 158). -/
def State.countRun (s : State) (c : Nat) (l : List Bool) : State :=
  let n := (l.filter id).length
  let susp := ((decide (s.rd .cvSusp c = 1) :: l.dropLast).filter id).length
  let s := (s.count .CONVERSIONS c l.length 64).count .SUSPECT_COUNT c susp
  let s := s.iff (n ≠ 0) (fun s => ((s.count .OOR_COUNT c n).raise .CV_EVENTS c 2).detect (blkCv c) 0x20)
  s.wr .cvSusp c (ofBool (l.getLastD false))

/-- Whether a raw code is a clamp code (R201). -/
def isOor (code : Int) : Bool := decide (8191 ≤ code) || decide (code ≤ -8192)

/-- CV_RESTART 0x01 on a contained converter (R203). -/
def State.startSelfCheck (s : State) (c : Nat) : State := s.wr .scOn c (s.now + 1 : Nat)

/-- CV_SELF_CHECK_DONE (R203): 8 µs after its start, with eight raw codes of ground and eight of the test DAC at code 512, which are
corrected before they are compared. Each ground result is one of input 11 at gain 1, and is checked as such. -/
def execCvSelfCheckDone (t : Nat) (c : Fin 16) (ground dac : List Int) (s : State) : Host.Outcome State Fault Refusal :=
  let s := s.at t
  .next (
    if s.rd .scOn c ≠ 0 && decide (s.rdN .scOn c + 799 ≤ s.now) && ground.length = 8 && dac.length = 8 then
      let s := (s.wr .scOn c 0).countRun c ((ground ++ dac).map isOor)
      let s := ground.foldl (fun s r => s.groundCheck c (s.corrected c 0 r)) s
      let okG := ground.all (fun r => decide ((s.corrected c 0 r).natAbs ≤ 16 * s.rdN .GND_TOL c))
      let okD := dac.all (fun r => decide ((s.corrected c 0 r - 65536).natAbs ≤ 1024))
      if okG && okD then (((s.endCause (blkCv c) 1).endCause (blkCv c) 2).wr .gndRun c 0).cvRejoin c else s
    else s)

-- calibration

/-- CAL_POINT 1 or 2 (R205): the converter leaves its sequence. A contained converter measures nothing, and the point is void. -/
def State.startPoint (s : State) (k : Nat) : State :=
  let c := s.rdN .CAL_CONV 0
  let g := s.rdN .CAL_GAIN 0
  let s := (((s.wr .calBusy 0 k).wr .calAt 0 s.now).wr .calC 0 c).wr .calG 0 g
  if s.rd .CV_STATE c = 3 then s.voidPoint else (s.wr .CV_STATE c 5).wr .cvCur c 0

/-- CAL_POINT_DONE (R205): 256 conversions at S = 32 after the start, 307.2 µs; `mean` in 1/16 LSB, `oor` the numbers of those that were out of
range. -/
def execCalPointDone (t : Nat) (mean : Int) (oor : List (Fin 256)) (s : State) : Host.Outcome State Fault Refusal :=
  let s := s.at t
  .next (
    if s.rd .calBusy 0 ≠ 0 && decide (s.rdN .calAt 0 + 30720 ≤ s.now) then
      let c := s.rdN .calC 0
      let s := s.countRun c ((List.range 256).map (fun k => oor.any (fun x => x.val = k)))
      if !oor.isEmpty then s.voidPoint.cvRejoin c
      else
        let i := 4 * c + s.rdN .calG 0
        let k := s.rdN .calBusy 0
        let m := signed 32 (unsigned 32 mean)
        let s := ((s.wr (if k = 1 then .calZero else .calFull) i m).wrBit .calHave i (k - 1) true).wr .CAL_MEAN 0 m
        ((s.wr .calBusy 0 0).wr .CAL_STATUS 0 (k + 1)).cvRejoin c
    else s)

/-- CAL_POINT 3 (R205): the coefficients of the selected converter and gain from its two points. -/
def State.calCompute (s : State) : State :=
  let i := 4 * s.rdN .CAL_CONV 0 + s.rdN .CAL_GAIN 0
  let both := s.rd .calHave i = 3
  let s := s.wr .calHave i 0
  let (e0, ef) : Int × Int := if s.rd .CAL_SOURCE 0 = 0 then (0, 114688) else (s.rd .CAL_EXPECT_ZERO 0, s.rd .CAL_EXPECT_FS 0)
  let m0 := s.rd .calZero i
  let d := s.rd .calFull i - m0
  let gain := if d = 0 then 0 else roundDiv (16384 * (ef - e0) * d.sign) d.natAbs
  let ofs := if gain = 0 then 0 else roundDiv ((m0 * gain - e0 * 16384) * gain.sign) gain.natAbs
  if both && 14746 ≤ gain && gain ≤ 18022 && decide (ofs.natAbs ≤ 4096) then
    ((((s.wr .calPend i 1).wr .calOfsNew i ofs).wr .calGainNew i gain).wr .calHas i 1).wr .CAL_STATUS 0 1
  else s.wr .CAL_STATUS 0 5

-- the mark

/-- Coefficients that take effect at a mark (R205). -/
def State.calMark (s : State) : State :=
  s.forAll 64 (fun s i =>
    if s.rd .calPend i = 0 then s
    else ((s.wr .calPend i 0).wr .CAL_OFS i (s.rd .calOfsNew i)).wr .CAL_GAIN_FACTOR i (s.rd .calGainNew i))

/-- Whether converter `c` has no pair for a gain that its sequence uses (R206). -/
def State.calMissing (s : State) (c : Nat) : Bool := (s.entries c).any (fun e => s.rd .calHas (4 * c + entryGain e) = 0)

/-- What a mark does to converter `c`: a new window of R198, CAL_MISSING (R206), the start of continuous mode (R195). -/
def State.converterMark (s : State) (c : Nat) : State :=
  let s := if s.pass % 1000 = 0 then s.wr .ovrWin c 0 else s
  let s := if s.calMissing c then
      (if s.bit .CAUSES_PRESENT (blkCv c) 0x12 then s else (s.raise .CV_EVENTS c 32).detect (blkCv c) 0x12)
    else s.endCause (blkCv c) 0x12
  if s.rd .CV_MODE c = 2 && s.mode ≠ 11 && s.rd .cvCur c = 0 && s.rd .CV_STATE c = 0 then s.cvNext c (2 * s.now) else s

end Sys2Proof.Machine
end

