-- ==== Sys2Proof/Machine/Orwyn.lean ====
section
/-! DEFINITION. Orwyn instruction words (R241, R242): the word of each instruction, the instruction of each word, and the cycles of
each. The fields that an instruction of a format does not use are not tested, except where R242 says so (log entry 16). -/
namespace Sys2Proof.Machine

/-- A word from its OP (bits 31:26) and the rest (R241). -/
def wordOf (op rest : Nat) : Word32 := BitVec.ofNat 32 (op * 2 ^ 26 + rest)

/-- Format R: D[25:22], A[21:18], B[17:14]. -/
def fmtR (op : Nat) (d a b : V) : Word32 := wordOf op (d.val * 2 ^ 22 + a.val * 2 ^ 18 + b.val * 2 ^ 14)
/-- Format I: D[25:22], A[21:18], IMM[17:0]. -/
def fmtI (op : Nat) (d a : V) (imm : BitVec 18) : Word32 := wordOf op (d.val * 2 ^ 22 + a.val * 2 ^ 18 + imm.toNat)
/-- Format B: A[25:22], B[21:18], OFFSET[9:0]. -/
def fmtB (op : Nat) (a b : V) (off : BitVec 10) : Word32 := wordOf op (a.val * 2 ^ 22 + b.val * 2 ^ 18 + off.toNat)
/-- Format L: D[25:22], WORD[21:16], HALF[15], CTX[14], AXIS[13:8], INDEXED[7]. -/
def fmtL (op : Nat) (l : LForm) : Word32 :=
  wordOf op (l.d.val * 2 ^ 22 + l.word.val * 2 ^ 16 + l.half.toNat * 2 ^ 15 + l.ctx.toNat * 2 ^ 14 + l.axis.val * 2 ^ 8 +
    l.indexed.toNat * 2 ^ 7)
/-- Format Q: D[25:22], QUEUE[21:15], E[14]. -/
def fmtQ (op : Nat) (d : V) (q : Fin 128) (e : Bool) : Word32 := wordOf op (d.val * 2 ^ 22 + q.val * 2 ^ 15 + e.toNat * 2 ^ 14)
/-- Format O: D[25:22], ENTRY[21:18], HALF[17]. -/
def fmtO (op : Nat) (d : V) (entry : Fin 16) (half : Bool) : Word32 :=
  wordOf op (d.val * 2 ^ 22 + entry.val * 2 ^ 18 + half.toNat * 2 ^ 17)

/-- The word of an Orwyn instruction (R241, R242); none for the other commands. -/
def orwynEncode : Instr → Option Word32
  | .oNop _ => some (wordOf 0x00 0)
  | .oAdd _ d a b => some (fmtR 0x01 d a b)
  | .oSub _ d a b => some (fmtR 0x02 d a b)
  | .oAnd _ d a b => some (fmtR 0x03 d a b)
  | .oOr _ d a b => some (fmtR 0x04 d a b)
  | .oXor _ d a b => some (fmtR 0x05 d a b)
  | .oShl _ d a b => some (fmtR 0x06 d a b)
  | .oShr _ d a b => some (fmtR 0x07 d a b)
  | .oSra _ d a b => some (fmtR 0x08 d a b)
  | .oMin _ d a b => some (fmtR 0x09 d a b)
  | .oMax _ d a b => some (fmtR 0x0A d a b)
  | .oAddw _ d a b => some (fmtR 0x0B d a b)
  | .oSubw _ d a b => some (fmtR 0x0C d a b)
  | .oCtxn _ d => some (fmtR 0x0D d 0 0)
  | .oArg _ d => some (fmtR 0x0E d 0 0)
  | .oCallp _ d => some (fmtR 0x0F d 0 0)
  | .oAddi _ d a imm => some (fmtI 0x10 d a imm)
  | .oAndi _ d a imm => some (fmtI 0x11 d a imm)
  | .oOri _ d a imm => some (fmtI 0x12 d a imm)
  | .oXori _ d a imm => some (fmtI 0x13 d a imm)
  | .oShli _ d a imm => some (fmtI 0x14 d a imm)
  | .oShri _ d a imm => some (fmtI 0x15 d a imm)
  | .oSrai _ d a imm => some (fmtI 0x16 d a imm)
  | .oMovi _ d imm => some (fmtI 0x17 d 0 imm)
  | .oOrhi _ d a imm => some (fmtI 0x18 d a imm)
  | .oDone _ => some (wordOf 0x19 0)
  | .oMul _ d a b => some (fmtR 0x1A d a b)
  | .oMulu _ d a b => some (fmtR 0x1B d a b)
  | .oEnd _ => some (wordOf 0x1F 0)
  | .oBeq _ a b off => some (fmtB 0x20 a b off)
  | .oBne _ a b off => some (fmtB 0x21 a b off)
  | .oBlt _ a b off => some (fmtB 0x22 a b off)
  | .oBge _ a b off => some (fmtB 0x23 a b off)
  | .oBltu _ a b off => some (fmtB 0x24 a b off)
  | .oBgeu _ a b off => some (fmtB 0x25 a b off)
  | .oBra _ off => some (fmtB 0x26 0 0 off)
  | .oLoop _ count => some (wordOf 0x28 count.toNat)
  | .oEndl _ => some (wordOf 0x29 0)
  | .oLidx _ d => some (fmtR 0x2A d 0 0)
  | .oTime _ d => some (fmtR 0x2B d 0 0)
  | .oRtime _ d => some (fmtR 0x2C d 0 0)
  | .oMode _ d => some (fmtR 0x2D d 0 0)
  | .oLdl _ l _ => some (fmtL 0x30 l)
  | .oLdlw _ l _ => some (fmtL 0x31 l)
  | .oStl _ l => some (fmtL 0x32 l)
  | .oStlw _ l => some (fmtL 0x33 l)
  | .oPush _ d q e => some (fmtQ 0x38 d q e)
  | .oPop _ d q => some (fmtQ 0x39 d q false)
  | .oQdep _ d q => some (fmtQ 0x3A d q false)
  | .oObjr _ d entry half => some (fmtO 0x3C d entry half)
  | .oObjw _ d entry => some (fmtO 0x3D d entry false)
  | _ => none

/-- Fields of a word (R241). -/
def fieldD (w : Nat) : V := Fin.ofNat 16 (bitsOf w 25 22)
def fieldA (w : Nat) : V := Fin.ofNat 16 (bitsOf w 21 18)
def fieldB (w : Nat) : V := Fin.ofNat 16 (bitsOf w 17 14)
def fieldL (w : Nat) : LForm :=
  ⟨fieldD w, Fin.ofNat 64 (bitsOf w 21 16), w.testBit 15, w.testBit 14, Fin.ofNat 64 (bitsOf w 13 8), w.testBit 7⟩

/-- Whether a register names a pair (R242). -/
def pairOk (d : V) : Bool := d.val % 2 = 0

/-- Whether the fields of an Orwyn instruction form a word of R241 and R242: even registers in pair fields, shift distances 0–31,
forward distances 1–1,023, HALF 0 in 64-bit forms. True of the commands that are no instructions. -/
def orwynOk : Instr → Bool
  | .oAddw _ d a b => pairOk d && pairOk a && pairOk b
  | .oSubw _ d a b => pairOk d && pairOk a && pairOk b
  | .oArg _ d => pairOk d
  | .oMul _ d _ _ => pairOk d
  | .oMulu _ d _ _ => pairOk d
  | .oShli _ _ _ imm => imm.toNat < 32
  | .oShri _ _ _ imm => imm.toNat < 32
  | .oSrai _ _ _ imm => imm.toNat < 32
  | .oBeq _ _ _ off => off ≠ 0
  | .oBne _ _ _ off => off ≠ 0
  | .oBlt _ _ _ off => off ≠ 0
  | .oBge _ _ _ off => off ≠ 0
  | .oBltu _ _ _ off => off ≠ 0
  | .oBgeu _ _ _ off => off ≠ 0
  | .oBra _ off => off ≠ 0
  | .oTime _ d => pairOk d
  | .oRtime _ d => pairOk d
  | .oLdlw _ l _ => pairOk l.d && !l.half
  | .oStlw _ l => pairOk l.d && !l.half
  | .oPush _ d _ _ => pairOk d
  | .oPop _ d _ => pairOk d
  | _ => true

/-- The instruction that a word of unit `u` spells, whatever its fields hold (R241, R242). -/
def orwynRead (u : RunUnit) (w : Word32) : Option Instr :=
  let n := w.toNat
  let d := fieldD n
  let a := fieldA n
  let b := fieldB n
  let imm := BitVec.ofNat 18 n
  let off := BitVec.ofNat 10 n
  let zB : Bool := bitsOf n 13 0 = 0        -- the unnamed bits of format R
  let zO : Bool := bitsOf n 17 10 = 0       -- of format B
  let zL : Bool := bitsOf n 6 0 = 0         -- of format L
  let zQ : Bool := bitsOf n 13 0 = 0        -- of format Q
  let zE : Bool := bitsOf n 16 0 = 0        -- of format O
  let zN : Bool := bitsOf n 25 0 = 0        -- of format N without COUNT
  let q : Fin 128 := Fin.ofNat 128 (bitsOf n 21 15)
  let e : Fin 16 := Fin.ofNat 16 (bitsOf n 21 18)
  match n / 2 ^ 26 with
  | 0x00 => if zN then some (.oNop u) else none
  | 0x01 => if zB then some (.oAdd u d a b) else none
  | 0x02 => if zB then some (.oSub u d a b) else none
  | 0x03 => if zB then some (.oAnd u d a b) else none
  | 0x04 => if zB then some (.oOr u d a b) else none
  | 0x05 => if zB then some (.oXor u d a b) else none
  | 0x06 => if zB then some (.oShl u d a b) else none
  | 0x07 => if zB then some (.oShr u d a b) else none
  | 0x08 => if zB then some (.oSra u d a b) else none
  | 0x09 => if zB then some (.oMin u d a b) else none
  | 0x0A => if zB then some (.oMax u d a b) else none
  | 0x0B => if zB then some (.oAddw u d a b) else none
  | 0x0C => if zB then some (.oSubw u d a b) else none
  | 0x0D => if zB then some (.oCtxn u d) else none
  | 0x0E => if zB then some (.oArg u d) else none
  | 0x0F => if zB then some (.oCallp u d) else none
  | 0x10 => some (.oAddi u d a imm)
  | 0x11 => some (.oAndi u d a imm)
  | 0x12 => some (.oOri u d a imm)
  | 0x13 => some (.oXori u d a imm)
  | 0x14 => some (.oShli u d a imm)
  | 0x15 => some (.oShri u d a imm)
  | 0x16 => some (.oSrai u d a imm)
  | 0x17 => some (.oMovi u d imm)
  | 0x18 => some (.oOrhi u d a imm)
  | 0x19 => if zN then some (.oDone u) else none
  | 0x1A => if zB then some (.oMul u d a b) else none
  | 0x1B => if zB then some (.oMulu u d a b) else none
  | 0x1F => if zN then some (.oEnd u) else none
  | 0x20 => if zO then some (.oBeq u d a off) else none
  | 0x21 => if zO then some (.oBne u d a off) else none
  | 0x22 => if zO then some (.oBlt u d a off) else none
  | 0x23 => if zO then some (.oBge u d a off) else none
  | 0x24 => if zO then some (.oBltu u d a off) else none
  | 0x25 => if zO then some (.oBgeu u d a off) else none
  | 0x26 => if zO && d = 0 && a = 0 then some (.oBra u off) else none
  | 0x28 => if bitsOf n 25 8 = 0 then some (.oLoop u (BitVec.ofNat 8 n)) else none
  | 0x29 => if zN then some (.oEndl u) else none
  | 0x2A => if zB then some (.oLidx u d) else none
  | 0x2B => if zB then some (.oTime u d) else none
  | 0x2C => if zB then some (.oRtime u d) else none
  | 0x2D => if zB then some (.oMode u d) else none
  | 0x30 => if zL then some (.oLdl u (fieldL n) .clean) else none
  | 0x31 => if zL then some (.oLdlw u (fieldL n) .clean) else none
  | 0x32 => if zL then some (.oStl u (fieldL n)) else none
  | 0x33 => if zL then some (.oStlw u (fieldL n)) else none
  | 0x38 => if zQ then some (.oPush u d q (n.testBit 14)) else none
  | 0x39 => if zQ then some (.oPop u d q) else none
  | 0x3A => if zQ then some (.oQdep u d q) else none
  | 0x3C => if zE then some (.oObjr u d e (n.testBit 17)) else none
  | 0x3D => if zE then some (.oObjw u d e) else none
  | _ => none

/-- The instruction of a word of unit `u` (R242): none where the word is no defined instruction (R259 ground 9). -/
def orwynDecode (u : RunUnit) (w : Word32) : Option Instr := (orwynRead u w).filter orwynOk

/-- Cycles of a word (R242). -/
def orwynCycles (w : Word32) : Nat :=
  if [0x0E, 0x1A, 0x1B, 0x30, 0x31, 0x39, 0x3C].contains (w.toNat / 2 ^ 26) then 2 else 1

/-- OP of a word. -/
def wordOp (w : Word32) : Nat := w.toNat / 2 ^ 26

/-- Whether a kind of program (1 axis, 2 trip, 3 harvest) may hold the OP (R242, R239). -/
def opAllowed (kind op : Nat) : Bool :=
  if [0x0E, 0x0F, 0x19, 0x39, 0x3A].contains op then kind = 1
  else if op = 0x3D then kind = 1 || kind = 3
  else true

end Sys2Proof.Machine
end

