-- ==== Sys2Proof/Machine/Images.lean ====
section
/-! DEFINITION. Certificates, the worst-case walk and the fifteen grounds on which an image is refused (R239, R243, R244, R253–R260). -/
namespace Sys2Proof.Machine

-- what a program's words say

/-- COUNT of a LOOP word (R241). -/
def loopCount (w : Word32) : Nat := bitsOf w.toNat 7 0

/-- Whether a word is a branch, and its forward distance (R242). -/
def isBranch (w : Word32) : Bool := 0x20 ≤ wordOp w && wordOp w ≤ 0x26
def branchOff (w : Word32) : Nat := bitsOf w.toNat 9 0

/-- The open loops before each word, innermost first, each as (position of its LOOP, COUNT); none where an ENDL closes nothing. -/
def loopStacks : List Word32 → Nat → List (Nat × Nat) → Option (List (List (Nat × Nat)))
  | [], _, st => if st.isEmpty then some [] else none
  | w :: ws, i, st =>
    let next : Option (List (Nat × Nat)) :=
      if wordOp w = 0x28 then some ((i, loopCount w) :: st)
      else if wordOp w = 0x29 then (match st with | [] => none | _ :: r => some r)
      else some st
    match next with
    | none => none
    | some n => (loopStacks ws (i + 1) n).map (st :: ·)

/-- The position of the ENDL that matches a LOOP: `ws` follows the LOOP and begins at position `i` with `d` inner loops open. -/
def matchEndl : List Word32 → Nat → Nat → Nat
  | [], i, _ => i
  | w :: ws, i, d =>
    if wordOp w = 0x28 then matchEndl ws (i + 1) (d + 1)
    else if wordOp w = 0x29 then (if d = 0 then i else matchEndl ws (i + 1) (d - 1))
    else matchEndl ws (i + 1) d

/-- `reach[k]` raised to `c` (R244). -/
def raiseTo (r : Tbl (Option Nat)) (k c : Nat) : Tbl (Option Nat) :=
  tset none r k (some (match tget none r k with | some x => max x c | none => c))

/-- The walk of R244 from word `i` up to `e`: the largest cycle count at an END, and the reach of `e`. -/
def walk (ws : List Word32) : Nat → Nat → Nat → Tbl (Option Nat) → Nat → Nat × Option Nat
  | 0, _, e, r, best => (best, tget none r e)
  | f + 1, i, e, r, best =>
    if e ≤ i then (best, tget none r e)
    else
      match tget none r i with
      | none => walk ws f (i + 1) e r best
      | some c =>
        let w := ws.getD i 0
        if wordOp w = 0x28 then
          let j := matchEndl (ws.drop (i + 1)) (i + 1) 0
          let body := ((walk ws f (i + 1) j [(i + 1, some 0)] 0).2).getD 0
          walk ws f (j + 1) e (raiseTo r (j + 1) (c + 1 + (loopCount w + 1) * (body + 1))) best
        else if wordOp w = 0x1F then walk ws f (i + 1) e r (max best (c + 1))
        else
          let t := c + orwynCycles w
          let r := if isBranch w then raiseTo r (i + branchOff w) t else r
          let r := if wordOp w = 0x26 then r else raiseTo r (i + 1) t
          walk ws f (i + 1) e r best

/-- The whole walk. -/
def walkAll (ws : List Word32) : Nat × Option Nat := walk ws (ws.length + 1) 0 ws.length [(0, some 0)] 0

/-- W of R244. -/
def worstCase (ws : List Word32) : Nat := (walkAll ws).1

/-- Whether control flow obeys R243. -/
def flowOk (ws : List Word32) : Bool :=
  match loopStacks ws 0 [] with
  | none => false
  | some st =>
    let at' (k : Nat) : List (Nat × Nat) := st.getD k []
    (List.range ws.length).all (fun i =>
      let w := ws.getD i 0
      let s := at' i
      (!isBranch w || (decide (i + branchOff w < ws.length ∧ 0 < branchOff w) && at' (i + branchOff w) = s)) &&
      (wordOp w ≠ 0x28 || decide (s.length < 4)) &&
      (wordOp w ≠ 0x1F || s.isEmpty) &&
      (!([0x30, 0x31, 0x32, 0x33].contains (wordOp w) && w.toNat.testBit 7) ||
        (match s with
        | [] => false
        | l :: _ => decide (bitsOf w.toNat 21 16 + l.2 ≤ 63)))) &&
    (walkAll ws).2.isNone

/-- What the words of a program use (R244, R254). -/
structure Uses where
  ctxRead  : Nat
  ctxWrite : Nat
  absAxes  : Nat
  absRead  : Nat
  absWrite : Nat
  pushes   : Nat
  pops     : Nat
  flags    : Nat
  objs     : List (Nat × Bool)   -- entries used, in order of use, each with whether it is written
  deriving DecidableEq, Repr

/-- The ledger words of an access as a mask. -/
def accessMask (w : Word32) (st : List (Nat × Nat)) : Nat :=
  let k := bitsOf w.toNat 21 16
  if w.toNat.testBit 7 then (2 ^ ((st.headD (0, 0)).2 + 1) - 1) * 2 ^ k else 2 ^ k

/-- One word's uses joined to `u`. -/
def Uses.join (u : Uses) (w : Word32) (st : List (Nat × Nat)) : Uses :=
  let op := wordOp w
  let m := accessMask w st
  let ctx := w.toNat.testBit 14
  let ax := 2 ^ bitsOf w.toNat 13 8
  let q := bitsOf w.toNat 21 15
  let e := bitsOf w.toNat 21 18
  if op = 0x30 || op = 0x31 then
    (if ctx then { u with ctxRead := u.ctxRead ||| m } else { u with absAxes := u.absAxes ||| ax, absRead := u.absRead ||| m })
  else if op = 0x32 || op = 0x33 then
    (if ctx then { u with ctxWrite := u.ctxWrite ||| m } else { u with absAxes := u.absAxes ||| ax, absWrite := u.absWrite ||| m })
  else if op = 0x38 then { u with pushes := u.pushes ||| 2 ^ q }
  else if op = 0x39 then { u with pops := u.pops ||| (if 76 ≤ q then 2 ^ (q - 76) else 2 ^ 8) }
  else if op = 0x0E || op = 0x0F || op = 0x19 then { u with flags := 1 }
  else if op = 0x3C then { u with objs := u.objs ++ [(e, false)] }
  else if op = 0x3D then { u with objs := u.objs ++ [(e, true)] }
  else u

/-- What the words use. -/
def usesOf (ws : List Word32) : Uses :=
  let st := (loopStacks ws 0 []).getD []
  (ws.zip st).foldl (fun u p => u.join p.1 p.2) ⟨0, 0, 0, 0, 0, 0, 0, 0, []⟩

/-- Entries of the object list in order of first use. -/
def firstUses : List Nat → List Nat → List Nat
  | [], acc => acc
  | e :: l, acc => firstUses l (if acc.contains e then acc else acc ++ [e])

/-- The access bits of entry `e` that the words use (bit 0 read, bit 1 write). -/
def Uses.access (u : Uses) (e : Nat) : Nat :=
  (if u.objs.contains (e, false) then 1 else 0) + (if u.objs.contains (e, true) then 2 else 0)

/-- Ledger words that a kind may write in its context record, and in named records (R239). -/
def writable (kind : Nat) : Nat := if kind = 2 then 0xFF * 2 ^ 56 + 0xF * 2 ^ 24 else 0xFF * 2 ^ 56

/-- Queues that a kind may push to (R239). -/
def pushable (kind : Nat) : Nat := if kind = 1 then 2 ^ 64 - 1 + 0xF * 2 ^ 76 else 0xF * 2 ^ 76

/-- Accesses (bit 0 read, bit 1 write) that programs of `kind` may make to an object (R248). -/
def progAccess (kind idx sub : Nat) : Nat :=
  if (idx = 0x1010 && sub = 1) || (idx = 0x1078 && sub = 1) || (0x1070 ≤ idx && idx < 0x1078 && (sub = 1 || sub = 4)) ||
     (0x3100 ≤ idx && idx < 0x3110 && ((2 ≤ sub && sub ≤ 0x11) || sub = 0x1D || sub = 0x1F)) ||
     (0x4100 ≤ idx && idx < 0x4110 && 1 ≤ sub && sub ≤ 3) || (idx = 0x4400 && (sub = 1 || sub = 2)) ||
     (0x4800 ≤ idx && idx < 0x4808 && sub = 4) then 1
  else if 0x3100 ≤ idx && idx < 0x3110 && sub = 0x1C then (if kind = 2 then 0 else 2)
  else if idx = 0x3300 && 5 ≤ sub && sub ≤ 0x0C then (if kind = 1 then 2 else 0)
  else 0

-- images

/-- The `n` bytes of `bs` from offset `o`. -/
def slice (bs : List Byte) (o n : Nat) : List Byte := (bs.drop o).take n

/-- The little-endian field of `n` bytes at offset `o`. -/
def field (bs : List Byte) (o n : Nat) : Nat := leNat (slice bs o n)

/-- `n` words of 32 bits from the start of `bs`. -/
def wordsOf : Nat → List Byte → List Word32
  | 0, _ => []
  | n + 1, bs => BitVec.ofNat 32 (leNat (bs.take 4)) :: wordsOf n (bs.drop 4)

/-- A program with its certificate at the start of `bs` (R253), with its VERSION, its OBJ_COUNT and whether bytes 61–63 and the unused
entries are 0. -/
def readProg (bs : List Byte) : Prog × Nat × Nat × Bool :=
  let c := bs.take 160
  let n := field c 4 2
  let cnt := field c 60 1
  let objs := (List.range 16).map (fun k => (field c (64 + 4 * k) 2, field c (66 + 4 * k) 1, field c (67 + 4 * k) 1))
  ({ num := field c 0 2, kind := field c 2 1, words := wordsOf n (bs.drop 160), wcet := field c 6 2, ctxRead := field c 8 8
     ctxWrite := field c 16 8, absAxes := field c 24 8, absRead := field c 32 8, absWrite := field c 40 8
     pushes := field c 48 10, pops := field c 58 1, flags := field c 59 1, objs := objs.take cnt, hash := beNat (slice c 128 32) },
   field c 3 1, cnt, field c 61 3 = 0 && (objs.drop cnt).all (fun o => o = (0, 0, 0)))

/-- Bytes that a program with its certificate takes at the start of `bs`. -/
def progSize (bs : List Byte) : Nat := 160 + 4 * field bs 4 2

/-- The program section: `n` programs from the start of `bs`, with what is left of it; none where the bytes run out. -/
def readProgs : Nat → List Byte → Option (List (Prog × Nat × Nat × Bool))
  | 0, _ => some []
  | n + 1, bs =>
    if bs.length < 160 || decide (bs.length < progSize bs) then none
    else (readProgs n (bs.drop (progSize bs))).map (readProg bs :: ·)

/-- The configuration section: `n` entries (index, subindex, length, value bytes). -/
def readCfg : Nat → List Byte → Option (List (Nat × Nat × List Byte))
  | 0, _ => some []
  | n + 1, bs =>
    let k := field bs 3 1
    if bs.length < 4 + k then none
    else (readCfg n (bs.drop (4 + k))).map ((field bs 0 2, field bs 2 1, slice bs 4 k) :: ·)

/-- LENGTH, BUILD and the sections of an image (R255). -/
def imgLength (bs : List Byte) : Nat := field bs 4 4
def imgBuild (bs : List Byte) : Nat := field bs 8 8
def imgProgs (bs : List Byte) : Option (List (Prog × Nat × Nat × Bool)) :=
  readProgs (field bs 16 2) ((bs.take (imgLength bs - 128)).drop (field bs 20 4))
def imgCfg (bs : List Byte) : Option (List (Nat × Nat × List Byte)) :=
  readCfg (field bs 18 2) ((bs.take (imgLength bs - 128)).drop (field bs 24 4))

/-- The programs of a checked image. -/
def loadedProgs (bs : List Byte) : List Prog := ((imgProgs bs).getD []).map Prod.fst

/-- The value that bytes of type `ty` carry (R2). -/
def Ty.value (ty : Ty) (bs : List Byte) : Int :=
  match ty with
  | .i32 => signed 32 (leNat bs)
  | .i48 => signed 48 (leNat bs)
  | _ => leNat bs

/-- Whether bytes are a value of type `ty`: their number, 0 or 1 for a BOOL, the sign in bytes 6 and 7 of an I48 (R2, R35). -/
def Ty.accepts (ty : Ty) (bs : List Byte) : Bool :=
  bs.length = ty.size && match ty with
    | .bool => decide (leNat bs ≤ 1)
    | .i48 => signed 64 (leNat bs) = signed 48 (leNat bs)
    | _ => true

/-- The configuration entries of a checked image as (register key, value). -/
def cfgValues (bs : List Byte) : List (Nat × Int) :=
  ((imgCfg bs).getD []).filterMap (fun e =>
    (findObj e.1 e.2.1).map (fun o => (o.1.reg.key o.2, o.1.ty.value e.2.2)))

/-- Whether a sequence entry is refused for its fields (R194). -/
def seqEntryOk (v : Int) : Bool :=
  let n := v.toNat
  bitsOf n 3 0 ≤ 11 && !n.testBit 7 && 4 ≤ bitsOf n 15 8 && n < 65536

/-- Whether a value lies in the range of an object, with the ranges that stand in rules and not in the Range column (R194, R265,
R63, R276). -/
def Obj.takes (o : Obj) (v : Int) : Bool :=
  o.inRange v && match o.reg with
    | .SEQ_ENTRY => seqEntryOk v
    | .BASIN_WORDS => v % 16 = 0
    | .CUT_BYTES => 8 ≤ v && v ≤ 128 && v % 8 = 0
    | .LATCH_SENSE => v % 256 < 128
    | .SIG_TABLE => bitsOf v.toNat 61 57 = 0
    | _ => true

/-- Whether a configuration entry names an existing RWC object with a length and a value that its type accepts (R259 ground 5). -/
def cfgOk (e : Nat × Nat × List Byte) : Bool :=
  match findObj e.1 e.2.1 with
  | none => false
  | some o => o.1.acc = .rwc && o.1.ty.accepts e.2.2 && o.1.takes (o.1.ty.value e.2.2)

/-- The first failing ground of a program (7–15), or none (R259). -/
def progGround (x : Prog × Nat × Nat × Bool) : Option Nat :=
  let p := x.1
  let k := p.kind
  let ws := p.words
  let u := usesOf ws
  let used := firstUses (u.objs.map Prod.fst) []
  let limit := if k = 1 then 1024 else if k = 2 then 256 else 32
  if sha256 (ws.flatMap (fun w => leBytes 4 w.toNat)) ≠ p.hash then some 7
  else if !(decide (1 ≤ k ∧ k ≤ 3) && x.2.1 = 1 && decide (1 ≤ ws.length ∧ ws.length ≤ limit)) then some 8
  else if !ws.all (fun w => (orwynDecode .trip w).isSome && opAllowed k (wordOp w)) then some 9
  else if !flowOk ws then some 10
  else if p.wcet ≠ worstCase ws || (k = 1 && decide (8000 < p.wcet)) || (k = 2 && decide (125 < p.wcet)) then some 11
  else if p.ctxRead ≠ u.ctxRead || p.ctxWrite ≠ u.ctxWrite || p.absAxes ≠ u.absAxes || p.absRead ≠ u.absRead ||
      p.absWrite ≠ u.absWrite || (u.ctxWrite ||| writable k) ≠ writable k || (u.absWrite ||| writable 1) ≠ writable 1 ||
      (k ≠ 1 && u.absAxes ≠ 0) then some 12
  else if p.pushes ≠ u.pushes || p.pops ≠ u.pops || (u.pushes ||| pushable k) ≠ pushable k ||
      ws.any (fun w => wordOp w = 0x3A && (bitsOf w.toNat 21 15 < 76 || 80 ≤ bitsOf w.toNat 21 15)) then some 13
  else if !(x.2.2.2 && used = List.range x.2.2.1 && decide (p.objs.length ≤ 16) && decide (x.2.2.1 ≤ 16) &&
      decide ((p.objs.map (fun o => (o.1, o.2.1))).Nodup) &&
      (p.objs.zipIdx).all (fun o => o.1.2.2 = u.access o.2 && (o.1.2.2 ||| progAccess k o.1.1 o.1.2.1) = progAccess k o.1.1 o.1.2.1))
    then some 14
  else if p.flags ≠ u.flags then some 15
  else none

/-- The result code of a ground (R259). -/
def groundCode (g : Nat) : Nat := if g = 2 || g = 3 then 0x0E else if g ≤ 6 then 0x05 else 0x0A

/-- The SHA-256 of a byte string as bytes, least significant first byte of the object first (R256: KEY_HASH). -/
def hashObject (bs : List Byte) : Nat := leNat ((leBytes 32 (sha256 bs)).reverse)

/-- Whether SIGNATURE verifies (R255). -/
def sigOk (bs : List Byte) : Bool :=
  let n := imgLength bs
  ecdsaOk (beNat (slice bs (n - 128) 32)) (beNat (slice bs (n - 96) 32)) (beNat (slice bs (n - 64) 32)) (beNat (slice bs (n - 32) 32))
    (sha256 (bs.take (n - 64)))

/-- Total program words of a kind. -/
def kindWords (l : List (Prog × Nat × Nat × Bool)) (k : Nat) : Nat := ((l.filter (fun p => p.1.kind = k)).map (fun p => p.1.words.length)).sum

/-- The first failing ground of image `num` with the bytes `bs` received for the length `len`, and the program concerned; none where
it passes (R259). -/
def imageGround (num len : Nat) (bs : List Byte) : Option (Nat × Nat) :=
  if imgLength bs ≠ len || bs.length < len || len < 192 then some (1, 0)
  else if hashObject (slice bs (len - 128) 64) ≠ Config.keyHash then some (2, 0)
  else if !sigOk bs then some (3, 0)
  else
    let bs := bs.take len
    let offOk (o : Nat) : Bool := decide (64 ≤ o ∧ o ≤ len - 128)
    match imgProgs bs, imgCfg bs with
    | some ps, some cfg =>
      if field bs 0 2 ≠ 1 || field bs 2 1 ≠ (if num = 8 then 2 else 1) || 256 < ps.length || 4096 < cfg.length ||
          !offOk (field bs 20 4) || !offOk (field bs 24 4) || !decide ((ps.map (fun p => p.1.num)).Nodup) ||
          !ps.all (fun p => decide (1 ≤ p.1.num ∧ p.1.num ≤ 1023)) then some (4, 0)
      else if !cfg.all cfgOk then some (5, 0)
      else if 16384 < kindWords ps 1 || 4096 < kindWords ps 2 then some (6, 0)
      else ps.findSome? (fun p => (progGround p).map (fun g => (g, p.1.num)))
    | _, _ => some (4, 0)

end Sys2Proof.Machine
end

