-- ==== Sys2Proof/Machine/Records.lean ====
section
/-! DEFINITION. The form of a move record (R64, R65, R130), as MOVE_PUSH and the programs' pushes are checked against it (R66, R247). -/
namespace Sys2Proof.Machine

/-- Whether a word is an I48 field (R65). -/
def isI48 (w : Nat) : Bool := signed 64 w = signed 48 w

/-- Word 0 (R64): reserved bits 0, and each flag only with its kinds. -/
def headOk (w : Nat) : Bool :=
  let k := bitsOf w 7 0
  1 ≤ k && k ≤ 9 && bitsOf w 15 12 = 0 && bitsOf w 63 32 = 0 && (!w.testBit 8 || k ≤ 3) && (!w.testBit 9 || k = 3) &&
  (!w.testBit 10 || k = 5) && (!w.testBit 11 || k = 8)

/-- A current of SET_CURRENTS: unchanged, or in the range of its object. -/
def currentOk (v : Nat) : Bool := v = 0xFFFF || v ≤ 3000

/-- Words 1 to 3 of a record of each kind (R65, R130); `loaded` tells which programs are loaded. The speed cap of ABS and REL has no bound of its own
(log entry 166), and the fields that a WAIT source does not use are 0 (log entry 167). -/
def fieldsOk (loaded : Nat → Bool) (w0 w1 w2 w3 : Nat) : Bool :=
  let instant := w0.testBit 8 || w2 = 0
  let low (w : Nat) : Bool := w < 2 ^ 32
  match bitsOf w0 7 0 with
  | 1 | 2 => isI48 w1 && instant && low w3
  | 3 => w1 ≤ 20480000 && instant && w3 = 0
  | 4 => low w1 && w2 = 0 && w3 = 0
  | 5 =>
    let src := bitsOf w1 7 0
    let num := bitsOf w1 15 8
    1 ≤ src && src ≤ 4 && w1 < 2 ^ 18 && (if src = 1 then num < 128 else bitsOf w1 17 16 = 0) &&
    (if src = 4 then num < 4 else src = 1 || num = 0) && (src = 2 || src = 3 || w2 = 0) && low w3
  | 6 => bitsOf w1 31 0 ≤ 20480000 && w3 = 0
  | 7 => currentOk (bitsOf w1 15 0) && currentOk (bitsOf w1 31 16) && currentOk (bitsOf w1 47 32) && bitsOf w1 63 48 = 0 &&
    w2 = 0 && w3 = 0
  | 8 => w1 < 2 ^ 16 && loaded w1 && w3 = 0
  | 9 =>
    let m := bitsOf w2 6 0
    isI48 w1 && m ≤ 4 && (m ≠ 0 || !w2.testBit 7) && w2 < 512 && 1 ≤ w3 && w3 ≤ 20480000
  | _ => false

/-- Whether four words are a record (R64, R65). -/
def State.recordOk (s : State) (ws : List Word64) : Bool :=
  match ws with
  | [a, b, c, d] => headOk a.toNat && fieldsOk (fun p => (findProg s.progs p).isSome) a.toNat b.toNat c.toNat d.toNat
  | _ => false

end Sys2Proof.Machine
end

