-- ==== Sys2Proof/Machine/Programs.lean ====
section
/-! DEFINITION. Runs of Orwyn programs: what each instruction does to the run (R240–R242, R245–R249), and the commit at END (R213,
R247–R252). A command of an instruction acts where the run of its unit has come to exactly that word. -/
namespace Sys2Proof.Machine

/-- The key of a unit among the runs. -/
def unitKey : RunUnit → Nat
  | .engine e => e
  | .trip => 8
  | .harvest c => 16 + c

/-- The run of a unit. -/
def State.run (s : State) (u : RunUnit) : Option Run := tget none s.runs (unitKey u)

/-- The run of a unit replaced. -/
def State.setRun (s : State) (u : RunUnit) (r : Option Run) : State := { s with runs := tset none s.runs (unitKey u) r }

-- registers

/-- Register V`d` of a run. -/
def Run.v (r : Run) (d : V) : Word32 := r.regs.getD d.val 0

/-- V`d` takes `x`, and the run goes on to the next word. -/
def Run.put (r : Run) (d : V) (x : Word32) : Run := { r with regs := r.regs.set d.val x, pos := r.pos + 1 }

/-- The pair of an even register (R240). -/
def Run.pair (r : Run) (d : V) : Word64 := BitVec.ofNat 64 (r.regs.getD d.val 0).toNat ||| BitVec.ofNat 64 (2 ^ 32 * (r.regs.getD (d.val + 1) 0).toNat)

/-- The pair of an even register takes `x`. -/
def Run.putPair (r : Run) (d : V) (x : Word64) : Run :=
  { r with regs := (r.regs.set d.val (BitVec.ofNat 32 x.toNat)).set (d.val + 1) (BitVec.ofNat 32 (x.toNat / 2 ^ 32)), pos := r.pos + 1 }

/-- The run goes on to the next word. -/
def Run.skip (r : Run) : Run := { r with pos := r.pos + 1 }

/-- The run goes forward `off` words where `c` holds (R242). -/
def Run.branch (r : Run) (c : Bool) (off : BitVec 10) : Run := { r with pos := r.pos + (if c then off.toNat else 1) }

/-- The instruction word at which a run stands, as an instruction of its unit and encoded again without its unnamed operands. -/
def Run.here (r : Run) (u : RunUnit) : Option Word32 := ((r.words[r.pos]?).bind (orwynDecode u)).bind orwynEncode

/-- The instruction `c` of unit `u` in the present cycle: `f` gives its effect on a run that has come to it. Fields that form no
instruction word stop the model (R242). -/
def State.orwyn (s : State) (c : Instr) (u : RunUnit) (f : State → Run → State × Run) : Host.Outcome State Fault Refusal :=
  if orwynOk c then
    .next (match s.run u with
      | none => s
      | some r =>
        if r.here u = orwynEncode c then
          let p := f s r
          p.1.setRun u (some { p.2 with cycles := p.2.cycles + orwynCycles ((orwynEncode c).getD 0) })
        else s)
  else .fault .invalidOrwyn

/-- The CKM cycle in which the instruction at which the run `r` of unit `u` stands issues (R213, R242, R250): the cycles it has used count from the
start of the slot or of the trip program in CKE, and in CKM from the start of a harvest program, 8 cycles after its result is taken (R198). -/
def State.issueAt (s : State) (u : RunUnit) (r : Run) : Nat :=
  match u with
  | .engine _ => s.rdN .PASS_MARK_TIME 0 + (Machine.slotStart (s.activeBank.getD r.slot 0) + r.cycles) / 2
  | .trip => s.rdN .PASS_MARK_TIME 0 + (1700 + 125 * r.ctx + r.cycles) / 2
  | .harvest _ => r.start + 8 + r.cycles

/-- The module in the cycle in which the instruction of unit `u` issues, and whether it can still issue: that cycle is not over, and it leaves
an engine's slot its commit cycle within BUDGET (R213). -/
def State.toIssue (s : State) (u : RunUnit) : State × Bool :=
  match s.run u with
  | none => (s, true)
  | some r =>
    let T := s.issueAt u r
    let s := s.at T
    let fits : Bool := match u with
      | .engine _ => decide (r.cycles < slotBudget (s.activeBank.getD r.slot 0))
      | _ => true
    (s, s.now = T && fits)

/-- An instruction whose effect depends on the cycle in which it issues; one given after it has no effect (log entry 118). -/
def State.orwynAt (s : State) (c : Instr) (u : RunUnit) (f : State → Run → State × Run) : Host.Outcome State Fault Refusal :=
  let (s, on) := s.toIssue u
  if on || !orwynOk c then s.orwyn c u f else .next s

/-- An instruction that only changes its run. -/
def State.orwynRun (s : State) (c : Instr) (u : RunUnit) (f : Run → Run) : Host.Outcome State Fault Refusal :=
  s.orwyn c u (fun s r => (s, f r))

-- the ledger as programs see it (R246)

/-- Low `w` bits `v`, and above them bits whose content is not defined (log entry 8). -/
def State.openAbove (s : State) (w : Nat) (v : Nat) : Word64 × State :=
  let (x, s) := s.draw 64
  (BitVec.ofNat 64 (v + x / 2 ^ w * 2 ^ w), s)

/-- The committed value of word `w` in the record of axis `n` (R246). -/
def State.ledRead (s : State) (n w : Nat) : Word64 × State :=
  match w with
  | 0 => s.openAbove 48 (unsigned 48 (s.rd .CMD_POS n))
  | 1 => s.openAbove 32 (unsigned 32 (s.rd .CMD_VEL n))
  | 2 => s.openAbove 48 (unsigned 48 (s.rd .CMD_ACC n))
  | 3 => s.openAbove 48 (unsigned 48 (s.rd .mkTarget n))
  | 24 => if s.mode = 9 then (s.led n 24, s) else s.openAbove 32 (unsigned 32 (s.rd .incShadow n))
  | 25 => if s.mode = 9 then (s.led n 25, s)
    else s.openAbove 17 (s.rdN .ampShadow n % 65536 + (if s.driveOf n = 1 then 65536 else 0))
  | 28 => (BitVec.ofNat 64 (unsigned 32 (s.rd .ADAPT_OFFSET_A n) + 2 ^ 32 * unsigned 32 (s.rd .ADAPT_OFFSET_B n)), s)
  | 40 =>
    let m := s.rdN .mkLoad n
    let (x, s) := s.openAbove 28 m
    let (y, s) := s.draw 6
    (BitVec.ofNat 64 (x.toNat - bitsOf x.toNat 15 10 * 2 ^ 10 + y * 2 ^ 10), s)
  | 48 => s.openAbove 48 (unsigned 48 (s.rd .mkFbPos n))
  | 49 => s.openAbove 48 (unsigned 48 (s.rd .mkDev n))
  | _ => if w = 26 || w = 27 || 56 ≤ w then (s.led n w, s) else s.openAbove 0 0

/-- The axis and the word of an access (R245); none where the run has no context axis (log entry 27). -/
def Run.cell (r : Run) (l : LForm) : Option (Nat × Nat) :=
  let w := l.word.val + (if l.indexed then (match r.loops with | x :: _ => x.index | [] => 0) else 0)
  if l.ctx then (if r.ctx < 64 then some (r.ctx, w % 64) else none) else some (l.axis.val, w % 64)

/-- One half of a 64-bit word. -/
def halfOf (x : Word64) (high : Bool) : Word32 := BitVec.ofNat 32 (if high then x.toNat / 2 ^ 32 else x.toNat)

/-- A 64-bit word of two halves. -/
def joinHalves (lo hi : Word32) : Word64 := BitVec.ofNat 64 (lo.toNat + 2 ^ 32 * hi.toNat)

/-- A 64-bit word with one half replaced. -/
def setHalf (x : Word64) (high : Bool) (h : Word32) : Word64 := if high then joinHalves (halfOf x false) h else joinHalves h (halfOf x true)

/-- A read of word `w` of the record of axis `n` in the present cycle (R215): the value before the writes of the cycle, checked; one that is
found uncorrectable is not used, and the register takes a free value (log entry 8). -/
def State.ledLoad (s : State) (n w : Nat) (ecc : Ecc) : Word64 × State :=
  let (x, b) := s.before.ledRead n w
  let s := { s with freeCtr := b.freeCtr }.ledgerEcc n ecc
  if ecc = .uncorrectable then (BitVec.ofNat 64 (s.draw 64).1, (s.draw 64).2) else (x, s)

/-- The run's own store to a half of ledger word `k`, if it has made one (R213). -/
def Run.own (r : Run) (k : Nat) (high : Bool) : Option Word32 := (r.stores.find? (fun p => p.1 = (k, high))).map Prod.snd

/-- The ledger word of an access as the run sees it: its own stores first (R213). -/
def State.load (s : State) (r : Run) (l : LForm) (ecc : Ecc) : Word64 × State :=
  match r.cell l with
  | none => (BitVec.ofNat 64 (s.draw 64).1, (s.draw 64).2)
  | some (n, w) =>
    let (x, s) := s.ledLoad n w ecc
    (joinHalves ((r.own (64 * n + w) false).getD (halfOf x false)) ((r.own (64 * n + w) true).getD (halfOf x true)), s)

/-- Stores of halves into the commit buffer (R213). -/
def Run.store (r : Run) (l : LForm) (halves : List (Bool × Word32)) : Run :=
  match r.cell l with
  | none => r.skip
  | some (n, w) => { r with stores := halves.map (fun h => ((64 * n + w, h.1), h.2)) ++ r.stores, pos := r.pos + 1 }

-- what a run sees of its start

/-- Words of complete packets of mailbox `m` (R247). -/
def State.mailWords (s : State) (m : Nat) : List Word64 :=
  (s.queue (76 + m)).pkts.flatMap (fun p => match p with | .words ws => ws | _ => [])

/-- What a run of an axis program notes at its start, under numbers past the object entries: the words available in mailbox m at 100 + m
(R247), and the argument of a call that it sees at 200 (R249). -/
def State.runNotes (s : State) (p : Prog) (ctx : Nat) : Tbl (Option Int) :=
  (List.range 4).map (fun m => (100 + m, some ((s.mailWords m).length : Int))) ++
  (match tget none s.calls (1024 * ctx + p.num) with | some a => [(200, some (a : Int))] | none => [])

/-- Words popped of mailbox queue `q` so far, and those still available. -/
def Run.popped (r : Run) (q : Nat) : Nat := tget 0 r.pops q
def Run.avail (r : Run) (q : Nat) : Nat := ((tget none r.read (100 + (q - 76))).getD 0).toNat - r.popped q

-- commit

/-- A committed store to a half of a word (R239, R242, R250): axis and harvest programs write words 56–63, trip programs 24–27 too, 24 and 25 in
SAFE only. -/
def State.commitStore (s : State) (kind n w : Nat) (high : Bool) (x : Word32) : State :=
  if !(writable kind).testBit w || ((w = 24 || w = 25) && s.mode ≠ 9) then s
  else
    let s := s.wrLed n w (setHalf (s.led n w) high x)
    if w = 27 && !high then s.wr .TRIP_STATE n (x.toNat % 256 : Nat) else s

/-- A packet of program `p` offered to queue `q` (R247). -/
def State.offerPacket (s : State) (p q : Nat) (ws : List Word64) : State :=
  let bad := decide (16 < ws.length) || s.rd .HELD q = 1 || (q < 64 && !s.recordOk ws)
  if bad then s.count .PUSH_REFUSED p
  else
    match s.push q (.words ws) with
    | (s, true) => s
    | (s, false) => s.count .PUSH_REFUSED p

/-- The pushes of a run of program `p` committed in program order (R247); `open'` holds the packets begun. -/
def State.commitPushes (s : State) (p : Nat) : List (Nat × Word64 × Bool) → Tbl (List Word64) → State
  | [], open' => s.forList (open'.map Prod.fst) (fun s _ => s.count .PUSH_REFUSED p)
  | (q, x, e) :: l, open' =>
    let ws := tget [] open' q ++ [x]
    if e then State.commitPushes (s.offerPacket p q ws) p l (tset [] open' q [])
    else State.commitPushes s p l (tset [] open' q ws)

/-- Whole packets of queue `q` taken until `n` words have gone. -/
def State.popWords (s : State) (q n : Nat) : Nat → State
  | 0 => s
  | f + 1 =>
    if n = 0 then s
    else
      match s.pop q with
      | (s, some x) => State.popWords s q (n - Pkt.len x) f
      | (s, none) => s

/-- A buffered object write (R248): under the object's own rules, and a harvest program's only for its own converter. -/
def State.commitWrite (s : State) (p : Prog) (own : Option Nat) (entry : Nat) (v : Word32) : State :=
  let o := p.objs.getD entry (0, 0, 0)
  let c := o.1 - 0x3100
  let drop := s.count .OBJW_DROPPED p.num
  if 0x3100 ≤ o.1 && o.1 < 0x3110 && o.2.1 = 0x1C then
    if (match own with | some k => k ≠ c | none => false) || s.urgentCode c v.toNat ≠ 0 then drop else s.askUrgent c v.toNat
  else if o.1 = 0x3300 && 5 ≤ o.2.1 && o.2.1 ≤ 0x0C then
    if 1023 < v.toNat then drop else s.wr .TEST_DAC (o.2.1 - 5) v.toNat
  else drop

/-- The call seen by a run of program `p` with context `n` at its commit (R249). A record it completes is complete from the next mark. -/
def State.commitCall (s : State) (p n : Nat) (called : Bool) : State :=
  let s1 := if called then { s with calls := tset none s.calls (1024 * n + p) none } else s
  match (s.planner n).act with
  | some m =>
    if m.kind = 8 && m.w1 % 65536 = p && (m.nowait || called) then
      (s1.completeAtMark n).wr .readyAt n s.nextMark
    else s1
  | none => s1

/-- The commit of a run at its END (R213, R247–R249, R252): `u` is its unit. -/
def State.commitRun (s : State) (u : RunUnit) (r : Run) : State :=
  let p := findProg s.progs r.prog
  let kind := match u with | .engine _ => 1 | .trip => 2 | .harvest _ => 3
  let s := r.stores.reverse.foldl (fun (s : State) x => s.commitStore kind (x.1.1 / 64) (x.1.1 % 64) x.1.2 x.2) s
  let s := r.pops.foldl (fun (s : State) x => s.popWords x.1 x.2 x.2) s
  let s := s.commitPushes r.prog r.pushes.reverse []
  let own := match u with | .harvest c => some c.val | _ => none
  let s := match p with
    | some p => r.writes.reverse.foldl (fun (s : State) (x : Nat × Word32) => s.commitWrite p own x.1 x.2) s
    | none => s
  let s := s.count .PROG_RUNS r.prog 1 64
  let s := if r.ctx < 64 && kind = 1 && (tget none r.read 200).isSome then s.commitCall r.prog r.ctx r.called else s
  if r.pushes.isEmpty then s else s.pollWaits

-- the instructions

/-- NOP (R242). -/
def execONop (u : RunUnit) (s : State) : Host.Outcome State Fault Refusal := s.orwynRun (.oNop u) u Run.skip

/-- ADD (R242). -/
def execOAdd (u : RunUnit) (d a b : V) (s : State) : Host.Outcome State Fault Refusal :=
  s.orwynRun (.oAdd u d a b) u (fun r => r.put d (r.v a + r.v b))

/-- SUB (R242). -/
def execOSub (u : RunUnit) (d a b : V) (s : State) : Host.Outcome State Fault Refusal :=
  s.orwynRun (.oSub u d a b) u (fun r => r.put d (r.v a - r.v b))

/-- AND (R242). -/
def execOAnd (u : RunUnit) (d a b : V) (s : State) : Host.Outcome State Fault Refusal :=
  s.orwynRun (.oAnd u d a b) u (fun r => r.put d (r.v a &&& r.v b))

/-- OR (R242). -/
def execOOr (u : RunUnit) (d a b : V) (s : State) : Host.Outcome State Fault Refusal :=
  s.orwynRun (.oOr u d a b) u (fun r => r.put d (r.v a ||| r.v b))

/-- XOR (R242). -/
def execOXor (u : RunUnit) (d a b : V) (s : State) : Host.Outcome State Fault Refusal :=
  s.orwynRun (.oXor u d a b) u (fun r => r.put d (r.v a ^^^ r.v b))

/-- The distance of a register shift: B[4:0] (R242). -/
def shiftBy (b : Word32) : Nat := b.toNat % 32

/-- SHL (R242). -/
def execOShl (u : RunUnit) (d a b : V) (s : State) : Host.Outcome State Fault Refusal :=
  s.orwynRun (.oShl u d a b) u (fun r => r.put d (r.v a <<< shiftBy (r.v b)))

/-- SHR (R242). -/
def execOShr (u : RunUnit) (d a b : V) (s : State) : Host.Outcome State Fault Refusal :=
  s.orwynRun (.oShr u d a b) u (fun r => r.put d (r.v a >>> shiftBy (r.v b)))

/-- SRA (R242): signed. -/
def execOSra (u : RunUnit) (d a b : V) (s : State) : Host.Outcome State Fault Refusal :=
  s.orwynRun (.oSra u d a b) u (fun r => r.put d ((r.v a).sshiftRight (shiftBy (r.v b))))

/-- MIN (R242): signed. -/
def execOMin (u : RunUnit) (d a b : V) (s : State) : Host.Outcome State Fault Refusal :=
  s.orwynRun (.oMin u d a b) u (fun r => r.put d (if (r.v a).toInt ≤ (r.v b).toInt then r.v a else r.v b))

/-- MAX (R242): signed. -/
def execOMax (u : RunUnit) (d a b : V) (s : State) : Host.Outcome State Fault Refusal :=
  s.orwynRun (.oMax u d a b) u (fun r => r.put d (if (r.v a).toInt ≤ (r.v b).toInt then r.v b else r.v a))

/-- ADDW (R242). -/
def execOAddw (u : RunUnit) (d a b : V) (s : State) : Host.Outcome State Fault Refusal :=
  s.orwynRun (.oAddw u d a b) u (fun r => r.putPair d (r.pair a + r.pair b))

/-- SUBW (R242). -/
def execOSubw (u : RunUnit) (d a b : V) (s : State) : Host.Outcome State Fault Refusal :=
  s.orwynRun (.oSubw u d a b) u (fun r => r.putPair d (r.pair a - r.pair b))

/-- CTXN (R242). -/
def execOCtxn (u : RunUnit) (d : V) (s : State) : Host.Outcome State Fault Refusal :=
  s.orwynRun (.oCtxn u d) u (fun r => r.put d (BitVec.ofNat 32 r.ctx))

/-- ARG (R242, R249). -/
def execOArg (u : RunUnit) (d : V) (s : State) : Host.Outcome State Fault Refusal :=
  s.orwynRun (.oArg u d) u (fun r => r.putPair d (BitVec.ofInt 64 ((tget none r.read 200).getD 0)))

/-- CALLP (R242, R249). -/
def execOCallp (u : RunUnit) (d : V) (s : State) : Host.Outcome State Fault Refusal :=
  s.orwynRun (.oCallp u d) u (fun r => r.put d (if (tget none r.read 200).isSome then 1 else 0))

/-- ADDI (R242): IMM sign-extended. -/
def execOAddi (u : RunUnit) (d a : V) (imm : BitVec 18) (s : State) : Host.Outcome State Fault Refusal :=
  s.orwynRun (.oAddi u d a imm) u (fun r => r.put d (r.v a + imm.signExtend 32))

/-- ANDI (R242): IMM zero-extended. -/
def execOAndi (u : RunUnit) (d a : V) (imm : BitVec 18) (s : State) : Host.Outcome State Fault Refusal :=
  s.orwynRun (.oAndi u d a imm) u (fun r => r.put d (r.v a &&& imm.setWidth 32))

/-- ORI (R242). -/
def execOOri (u : RunUnit) (d a : V) (imm : BitVec 18) (s : State) : Host.Outcome State Fault Refusal :=
  s.orwynRun (.oOri u d a imm) u (fun r => r.put d (r.v a ||| imm.setWidth 32))

/-- XORI (R242). -/
def execOXori (u : RunUnit) (d a : V) (imm : BitVec 18) (s : State) : Host.Outcome State Fault Refusal :=
  s.orwynRun (.oXori u d a imm) u (fun r => r.put d (r.v a ^^^ imm.setWidth 32))

/-- SHLI (R242). -/
def execOShli (u : RunUnit) (d a : V) (imm : BitVec 18) (s : State) : Host.Outcome State Fault Refusal :=
  s.orwynRun (.oShli u d a imm) u (fun r => r.put d (r.v a <<< imm.toNat))

/-- SHRI (R242). -/
def execOShri (u : RunUnit) (d a : V) (imm : BitVec 18) (s : State) : Host.Outcome State Fault Refusal :=
  s.orwynRun (.oShri u d a imm) u (fun r => r.put d (r.v a >>> imm.toNat))

/-- SRAI (R242). -/
def execOSrai (u : RunUnit) (d a : V) (imm : BitVec 18) (s : State) : Host.Outcome State Fault Refusal :=
  s.orwynRun (.oSrai u d a imm) u (fun r => r.put d ((r.v a).sshiftRight imm.toNat))

/-- MOVI (R242): IMM sign-extended. -/
def execOMovi (u : RunUnit) (d : V) (imm : BitVec 18) (s : State) : Host.Outcome State Fault Refusal :=
  s.orwynRun (.oMovi u d imm) u (fun r => r.put d (imm.signExtend 32))

/-- ORHI (R242): A OR (IMM << 14). -/
def execOOrhi (u : RunUnit) (d a : V) (imm : BitVec 18) (s : State) : Host.Outcome State Fault Refusal :=
  s.orwynRun (.oOrhi u d a imm) u (fun r => r.put d (r.v a ||| (imm.setWidth 32 <<< 14)))

/-- DONE (R242, R249): completes the pending call at commit. -/
def execODone (u : RunUnit) (s : State) : Host.Outcome State Fault Refusal :=
  s.orwynRun (.oDone u) u (fun r => { r.skip with called := true })

/-- MUL (R242): signed. -/
def execOMul (u : RunUnit) (d a b : V) (s : State) : Host.Outcome State Fault Refusal :=
  s.orwynRun (.oMul u d a b) u (fun r => r.putPair d (BitVec.ofInt 64 ((r.v a).toInt * (r.v b).toInt)))

/-- MULU (R242): unsigned. -/
def execOMulu (u : RunUnit) (d a b : V) (s : State) : Host.Outcome State Fault Refusal :=
  s.orwynRun (.oMulu u d a b) u (fun r => r.putPair d (BitVec.ofNat 64 ((r.v a).toNat * (r.v b).toNat)))

/-- The unit is free after END: an engine's slot ends with its record and its cycles (R375, R378), a harvest unit stays occupied for
the cycles of its program (R198). -/
def State.endRun (s : State) (u : RunUnit) (r : Run) : State :=
  let s := s.setRun u none
  let used := r.cycles + 1
  match u with
  | .engine e =>
    let s := s.tally e used
    s.traceIf 2 (s.bit .tfEngines 0 e) (r.slot + 2 ^ 12 * e + 2 ^ 16 * used)
  | .trip => s
  | .harvest c =>
    let busy := 8 + used
    (s.wr .hvFree c (r.start + busy : Nat)).keepMax .HARVEST_MAX c busy

/-- END (R242): ends the run; its cycle is the commit cycle. -/
def execOEnd (u : RunUnit) (s : State) : Host.Outcome State Fault Refusal :=
  let (s, on) := s.toIssue u
  .next (match s.run u with
    | none => s
    | some r => if on && r.here u = orwynEncode (.oEnd u) then (s.endRun u r).commitRun u r else s)

/-- BEQ (R242). -/
def execOBeq (u : RunUnit) (a b : V) (off : BitVec 10) (s : State) : Host.Outcome State Fault Refusal :=
  s.orwynRun (.oBeq u a b off) u (fun r => r.branch (r.v a = r.v b) off)

/-- BNE (R242). -/
def execOBne (u : RunUnit) (a b : V) (off : BitVec 10) (s : State) : Host.Outcome State Fault Refusal :=
  s.orwynRun (.oBne u a b off) u (fun r => r.branch (r.v a ≠ r.v b) off)

/-- BLT (R242): signed. -/
def execOBlt (u : RunUnit) (a b : V) (off : BitVec 10) (s : State) : Host.Outcome State Fault Refusal :=
  s.orwynRun (.oBlt u a b off) u (fun r => r.branch (decide ((r.v a).toInt < (r.v b).toInt)) off)

/-- BGE (R242): signed. -/
def execOBge (u : RunUnit) (a b : V) (off : BitVec 10) (s : State) : Host.Outcome State Fault Refusal :=
  s.orwynRun (.oBge u a b off) u (fun r => r.branch (decide ((r.v b).toInt ≤ (r.v a).toInt)) off)

/-- BLTU (R242): unsigned. -/
def execOBltu (u : RunUnit) (a b : V) (off : BitVec 10) (s : State) : Host.Outcome State Fault Refusal :=
  s.orwynRun (.oBltu u a b off) u (fun r => r.branch (decide ((r.v a).toNat < (r.v b).toNat)) off)

/-- BGEU (R242): unsigned. -/
def execOBgeu (u : RunUnit) (a b : V) (off : BitVec 10) (s : State) : Host.Outcome State Fault Refusal :=
  s.orwynRun (.oBgeu u a b off) u (fun r => r.branch (decide ((r.v b).toNat ≤ (r.v a).toNat)) off)

/-- BRA (R242). -/
def execOBra (u : RunUnit) (off : BitVec 10) (s : State) : Host.Outcome State Fault Refusal :=
  s.orwynRun (.oBra u off) u (fun r => r.branch true off)

/-- LOOP (R242): the body runs COUNT + 1 times. -/
def execOLoop (u : RunUnit) (count : BitVec 8) (s : State) : Host.Outcome State Fault Refusal :=
  s.orwynRun (.oLoop u count) u (fun r => { r with loops := ⟨r.pos + 1, count.toNat, 0⟩ :: r.loops, pos := r.pos + 1 })

/-- ENDL (R242): one pass of the body ends. -/
def execOEndl (u : RunUnit) (s : State) : Host.Outcome State Fault Refusal :=
  s.orwynRun (.oEndl u) u (fun r =>
    match r.loops with
    | [] => r.skip
    | l :: rest => if l.index < l.count then { r with loops := { l with index := l.index + 1 } :: rest, pos := l.body }
      else { r with loops := rest, pos := r.pos + 1 })

/-- LIDX (R242): the index of the innermost loop. -/
def execOLidx (u : RunUnit) (d : V) (s : State) : Host.Outcome State Fault Refusal :=
  s.orwynRun (.oLidx u d) u (fun r => r.put d (match r.loops with | l :: _ => BitVec.ofNat 32 l.index | [] => 0))

/-- TIME (R242): device time in the issuing cycle. -/
def execOTime (u : RunUnit) (d : V) (s : State) : Host.Outcome State Fault Refusal :=
  s.orwynAt (.oTime u d) u (fun s r => (s, r.putPair d (BitVec.ofNat 64 s.now)))

/-- RTIME (R242): ring time in the issuing cycle. -/
def execORtime (u : RunUnit) (d : V) (s : State) : Host.Outcome State Fault Refusal :=
  s.orwynAt (.oRtime u d) u (fun s r => (s, r.putPair d (BitVec.ofNat 64 s.ring)))

/-- MODE (R242). -/
def execOMode (u : RunUnit) (d : V) (s : State) : Host.Outcome State Fault Refusal :=
  s.orwynAt (.oMode u d) u (fun s r => (s, r.put d (BitVec.ofNat 32 s.mode)))

/-- LDL (R242, R245): a half of a ledger word. -/
def execOLdl (u : RunUnit) (l : LForm) (ecc : Ecc) (s : State) : Host.Outcome State Fault Refusal :=
  s.orwynAt (.oLdl u l ecc) u (fun s r =>
    let (x, s) := s.load r l ecc
    (s, r.put l.d (halfOf x l.half)))

/-- LDLW (R242, R245): a ledger word. -/
def execOLdlw (u : RunUnit) (l : LForm) (ecc : Ecc) (s : State) : Host.Outcome State Fault Refusal :=
  s.orwynAt (.oLdlw u l ecc) u (fun s r =>
    let (x, s) := s.load r l ecc
    (s, r.putPair l.d x))

/-- STL (R242, R245): the named half, the other half unchanged. -/
def execOStl (u : RunUnit) (l : LForm) (s : State) : Host.Outcome State Fault Refusal :=
  s.orwynRun (.oStl u l) u (fun r => r.store l [(l.half, r.v l.d)])

/-- STLW (R242, R245). -/
def execOStlw (u : RunUnit) (l : LForm) (s : State) : Host.Outcome State Fault Refusal :=
  s.orwynRun (.oStlw u l) u (fun r => r.store l [(false, halfOf (r.pair l.d) false), (true, halfOf (r.pair l.d) true)])

/-- PUSH (R242, R247): the next word of a packet. -/
def execOPush (u : RunUnit) (d : V) (q : Fin 128) (e : Bool) (s : State) : Host.Outcome State Fault Refusal :=
  s.orwynRun (.oPush u d q e) u (fun r => { r.skip with pushes := (q.val, r.pair d, e) :: r.pushes })

/-- POP (R242, R247): the next word of the mailbox as it stood at the start of the run, or 0. -/
def execOPop (u : RunUnit) (d : V) (q : Fin 128) (s : State) : Host.Outcome State Fault Refusal :=
  s.orwyn (.oPop u d q) u (fun s r =>
    if r.avail q = 0 then (s, r.putPair d 0)
    else
      let k := r.popped q
      (s, { r.putPair d ((s.mailWords (q.val - 76)).getD k 0) with pops := tset 0 r.pops q.val (k + 1) }))

/-- QDEP (R242): words still available to POP. -/
def execOQdep (u : RunUnit) (d : V) (q : Fin 128) (s : State) : Host.Outcome State Fault Refusal :=
  s.orwynRun (.oQdep u d q) u (fun r => r.put d (BitVec.ofNat 32 (r.avail q)))

/-- OBJR (R242, R248): half of a listed object, as it stood in the cycle of the first read. -/
def execOObjr (u : RunUnit) (d : V) (entry : Fin 16) (half : Bool) (s : State) : Host.Outcome State Fault Refusal :=
  s.orwynAt (.oObjr u d entry half) u (fun s r =>
    let o := (match findProg s.progs r.prog with | some p => p.objs.getD entry.val (0, 0, 0) | none => (0, 0, 0))
    let now : Int := (match findObj o.1 o.2.1 with | some x => s.rd x.1.reg x.2 | none => 0)
    let v := (tget none r.read entry.val).getD now
    (s, { r.put d (halfOf (BitVec.ofInt 64 v) half) with read := tset none r.read entry.val (some v) }))

/-- OBJW (R242, R248): buffers D as the value of a listed object. -/
def execOObjw (u : RunUnit) (d : V) (entry : Fin 16) (s : State) : Host.Outcome State Fault Refusal :=
  s.orwynRun (.oObjw u d entry) u (fun r => { r.skip with writes := (entry.val, r.v d) :: r.writes })

end Sys2Proof.Machine
end

