-- ==== Sys2Proof/Machine/Engines.lean ====
section
/-! DEFINITION. Slots with programs, trip-program runs, cut-offs, failing engines, loads, ENGINE_CLEAR and the ledger patrol
(R213–R232, R250). -/
namespace Sys2Proof.Machine

/-- A program run begins on unit `u` with what its loads and pops will see (R245, R247, R249). -/
def State.beginRun (s : State) (u : RunUnit) (p : Prog) (ctx slot : Nat) : State :=
  let s1 := s.startRun (unitKey u) p ctx slot []
  match s1.run u with
  | some r => s1.setRun u (some { r with read := s.runNotes p ctx })
  | none => s1

/-- AXIS_PROGRAM_RUN (R212, R217): the walker issues a slot of KIND 5. -/
def execAxisProgramRun (t : Nat) (slot : Fin 4096) (m : SlotIn) (s : State) : Host.Outcome State Fault Refusal :=
  let s := s.at t
  let w := s.activeBank.getD slot 0
  let e : Fin 8 := Fin.ofNat 8 (slotEngine w)
  .next (
    if s.kindRuns 5 && slotKind w = 5 && s.slotDue slot w && (s.run (.engine e)).isNone then
      match s.issue slot e m with
      | (s, false) => s
      | (s, true) =>
        match findProg s.progs (slotProg w) with
        | some p => s.beginRun (.engine e) p (slotCtx w) slot
        | none => s
    else s)

/-- The built-in hold program (R250, R251): increment 0 and HOLD_CURRENT in SAFE, the enable bit as it stands, and TRIP_STATE bit 0. -/
def State.holdProgram (s : State) (n : Nat) : State :=
  let s := if s.mode = 9 then
      let en := (s.led n 25).toNat / 65536 % 2
      (s.wrLed n 24 0).wrLed n 25 (BitVec.ofNat 64 (s.rdN .HOLD_CURRENT n + 65536 * en))
    else s
  (s.wrLed n 27 (s.led n 27 ||| 1)).wr .TRIP_STATE n (s.rdN .TRIP_STATE n ||| 1 : Nat)

/-- TRIP_PROGRAM_RUN (R250): the trip program of axis `n`, once in every pass in which a plan is placed, 1,700 + 125·n CKE cycles after
the mark: in the CKM cycle in which that start falls. -/
def execTripProgramRun (t : Nat) (n : Fin 64) (s : State) : Host.Outcome State Fault Refusal :=
  let s := s.at t
  .next (
    if s.rd .planPlaced 0 = 1 && 2 ≤ s.mode && s.rdN .tripAt n ≠ s.pass + 1 && (s.run .trip).isNone &&
        decide (s.now = s.rdN .PASS_MARK_TIME 0 + (1700 + 125 * n.val) / 2) then
      let s := s.wr .tripAt n (s.pass + 1)
      match findProg s.progs (s.rdN .TRIP_PROG n) with
      | some p => s.beginRun .trip p n 0
      | none => s.holdProgram n
    else s)

/-- Whether slot `i` with the word `w` still runs: a program in its run, a built-in step that has not committed in this pass. -/
def State.stillRuns (s : State) (i : Nat) (w : Word64) : Bool :=
  if slotKind w = 5 then
    match tget none s.runs (slotEngine w) with
    | some r => r.slot = i
    | none => false
  else s.kindRuns (slotKind w) && s.rdN .slotAt i ≠ s.pass + 1

/-- SLOT_CUT_OFF (R213, R226): the buffer is discarded; the third cut-off within 1,000 passes makes the engine failing. -/
def execSlotCutOff (t : Nat) (slot : Fin 4096) (s : State) : Host.Outcome State Fault Refusal :=
  let s := s.at t
  let w := s.activeBank.getD slot 0
  let e := slotEngine w
  .next (
    if slotRuns w s.pass && s.rd .ENGINE_STATE e < 3 && s.stillRuns slot w &&
        decide (2 * s.rdN .PASS_MARK_TIME 0 + slotStart w + slotBudget w ≤ 2 * s.now) then
      let l := s.pass :: tget [] s.cutoffs e
      let s := if slotKind w = 5 then { s with runs := tset none s.runs e none } else s
      let s := { s.wr .slotAt slot (s.pass + 1) with cutoffs := tset [] s.cutoffs e (l.take 3) }
      let s := ((s.count .ENGINE_OVERRUNS e).tally (8 + e)).tally e (slotBudget w)
      let s := s.traceIf 2 (s.bit .tfEngines 0 e) (slot + 2 ^ 12 * e + 2 ^ 15 + 2 ^ 16 * slotBudget w)
      if 3 ≤ l.length && decide (s.pass < l.getD 2 0 + 1000) then s.failEngine e 1 slot
      else s.detect (blkEngine e) 0x10 (dataOf [(1, 0), (2, slot)])
    else s)

/-- SLOT_UNCORRECTABLE (R217, R232): the word of a valid slot of this pass. -/
def execSlotUncorrectable (t : Nat) (slot : Fin 4096) (s : State) : Host.Outcome State Fault Refusal :=
  let s := s.at t
  .next (if slotRuns (s.activeBank.getD slot 0) s.pass && s.rdN .slotAt slot ≠ s.pass + 1 then s.slotLost slot else s)

/-- Whether a load of kind `k` has ended by the mark of the present cycle (R228). -/
def State.loaded (s : State) (k : Nat) : Bool := s.atMark && s.rdN .loadKind 0 = k && decide (s.rdN .loadEnd 0 ≤ s.now)

/-- BANK_REBUILD_DONE (R232). -/
def execBankRebuildDone (s : State) : Host.Outcome State Fault Refusal :=
  .next (if s.loaded 2 then (s.switchTo (s.loading.getD [])).cfg 3 else s)

/-- ENGINE_FAILING (R227): reasons 2 and 3. -/
def execEngineFailing (t : Nat) (e : Fin 8) (storeError : Bool) (s : State) : Host.Outcome State Fault Refusal :=
  .next ((s.at t).failEngine e (if storeError then 3 else 2) 0)

/-- The fallback plan of engine `e` becomes the running plan at this mark (R228). -/
def State.enterFallback (s : State) (e : Nat) : State :=
  let s := s.switchTo (s.loading.getD [])
  let s := s.iff (carries s.activeBank (s.rdN .EFFECTIVE_SPARE 0)) (fun s => s.wr .EFFECTIVE_SPARE 0 255)
  let s := ((s.wr .FALLBACK_FOR 0 e).count .REPLACE_COUNT 0).wr .REPLACE_MARK 0 s.pass
  let s := ((s.setRed 13 true).cfg 2).endShadow (blkEngine e) 1 (.mark (s.pass + 3))
  let s := match s.openRec (blkEngine e) with
    | some o => if o.cause = 1 then s.closeRec (blkEngine e) else s
    | none => s
  (s.wr .planBuild 0 1).refreshPlan

/-- FALLBACK_LOAD_DONE (R228, R231): the first mark after the load. -/
def execFallbackLoadDone (s : State) : Host.Outcome State Fault Refusal :=
  .next (
    if s.loaded 1 then s.enterFallback (s.rdN .loadFor 0)
    else if s.loaded 3 then
      (((s.switchTo (s.loading.getD [])).wr .FALLBACK_FOR 0 255).cfg 2).wr .planBuild 0 2
    else s)

/-- Engines that are failing (R20). -/
def State.failing (s : State) : Nat := bitsOf (s.rdN .REDUNDANCY 0) 23 16

/-- The fallback plans the placer builds for the running plan (R223, R230, R231): by renaming to the spare where one is held free. -/
def State.buildFallback (s : State) : Tbl (List Word64) :=
  let ws := s.activeBank
  let sp := s.rdN .EFFECTIVE_SPARE 0
  if sp < 8 && s.rd .planBuild 0 = 2 then
    ((List.range 8).filter (carries ws)).map (fun e => (e, ws.map (fun w => if slotEngine w = e then slotToEngine w sp else w)))
  else s.placeFurther s.progs s.failing ws

/-- FALLBACK_PLANS_BUILT (R230, R231): a plan that cannot be made to fit exhausts the module. -/
def execFallbackPlansBuilt (t : Nat) (s : State) : Host.Outcome State Fault Refusal :=
  let s := s.at t
  .next (
    if s.rd .planBuild 0 = 0 || s.rd .loadKind 0 ≠ 0 then s
    else
      let f := s.buildFallback
      let adopted := s.rd .planBuild 0 = 2
      let all := (List.range 8).all (fun e => !carries s.activeBank e || f.any (fun p => p.1 = e))
      let s := (s.setFallback f).wr .planBuild 0 0
      let s := s.iff (adopted && all && s.rd .REDUNDANCY_POLICY 0 = 0) (fun s => s.setRed 13 false)
      if all then s else s.exhausted)

/-- The checks of a write to ENGINE_CLEAR (R231); 0 where it is accepted. -/
def State.engineClearCode (s : State) (v : Nat) : Nat :=
  if !s.inMode [5, 6, 8, 9] then 0x04
  else if s.rd .commitRun 0 = 1 || s.rd .SWAP_STATE 0 ≠ 0 || s.rd .loadKind 0 ≠ 0 || s.rd .selfTest 0 ≠ 0 then 0x07
  else if 7 < v then 0x05 else 0

/-- An accepted write to ENGINE_CLEAR (R231): whether the reply waits for a self-test. -/
def State.engineClear (s : State) (v : Nat) : State × Bool :=
  if s.bit .REDUNDANCY 0 (16 + v) then
    (((s.wr .selfTest 0 (v + 1)).wr .selfTestAt 0 s.now).wr .ENGINE_STATE v 4, true)
  else (s, false)

/-- The self-test of engine `e` has passed (R231): it is cleared, and the plan is adopted or placed afresh. -/
def State.engineCleared (s : State) (e : Nat) : State :=
  let s := ({ s with cutoffs := tset [] s.cutoffs e [] }.endCause (blkEngine e) 1).setRed (16 + e) false
  let s := if s.rd .REDUNDANCY_POLICY 0 = 0 then
      let s := s.iff (!carries s.activeBank e) (fun s => s.wr .EFFECTIVE_SPARE 0 e)
      (s.wr .leaveFallback 0 1).wr .planBuild 0 2
    else
      match s.place s.progs s.failing with
      | .inr (l, _, _) => s.startLoad 3 e (l.map PSlot.word)
      | .inl _ => s.exhausted
  s.wr .ENGINE_STATE e (s.engineState e)

/-- ENGINE_SELF_TEST_DONE (R231): 1 ms after its start. An armed injection on the engine makes it fail (R350). -/
def execEngineSelfTestDone (t : Nat) (e : Fin 8) (pass : Bool) (s : State) : Host.Outcome State Fault Refusal :=
  let s := s.at t
  .next (
    if s.rdN .selfTest 0 ≠ e + 1 || decide (s.now < s.rdN .selfTestAt 0 + 100000) then s
    else
      let s := s.wr .selfTest 0 0
      let fail (s : State) (r : Nat) : State :=
        (((s.wr .ENGINE_STATE e 3).detect (blkEngine e) 1 (dataOf [(1, r), (2, 0)])).endAtMark (blkEngine e)).finish 0x6803 9 0x08
      match s.armed 4 e, s.armed 5 e with
      | some 1, _ =>
        let s := ((s.fire.detect (blkEngine e) 0x20).tally 235).unfire
        if pass then (s.engineCleared e).finish 0x6803 9 0 else fail s 4
      | some _, _ => (fail s.fire 3).unfire
      | none, some _ => (fail s.fire 2).unfire
      | none, none => if pass then (s.engineCleared e).finish 0x6803 9 0 else fail s 4)

/-- LEDGER_SCRUB (R215): the patrol reads one word. -/
def execLedgerScrub (t : Nat) (n : Fin 64) (w : Fin 64) (ecc : Ecc) (s : State) : Host.Outcome State Fault Refusal :=
  let s := s.at t
  .next (match s.armed 1 (64 * n + w) with
    | some b => ((s.fire.ledgerEcc n (if b = 1 then .corrected else .uncorrectable)).unfire)
    | none => s.ledgerEcc n ecc)

end Sys2Proof.Machine
end

