-- ==== Sys2Proof/Machine/Supply.lean ====
section
/-! DEFINITION. The redundant parts (R17–R21): feeds, logic bucks, AUX, steward cores, trip sequencers, flash banks and SDRAM, with what
flash holds (R31, R206, R258). -/
namespace Sys2Proof.Machine

-- feeds and bucks

/-- FEED_LOST (R21): a feed leaves 18–60 V. It is recorded only while the other feed is within range; where that is lost too, its cause
ends. `feed` 2: both leave in one cycle, and the loss is not recorded. -/
def execFeedLost (t : Nat) (feed : Fin 3) (volt : Nat) (s : State) : Host.Outcome State Fault Refusal :=
  let s := s.at t
  .next (
    if feed = 2 then ((s.endCause 0x61 8).setRed 0 false).setRed 1 false
    else if !s.bit .REDUNDANCY 0 feed then s
    else
      let other := s.bit .REDUNDANCY 0 (1 - feed.val)
      let s := if other && s.bit .feedSeen 0 feed then s.detect 0x61 8 (dataOf [(1, feed), (2, volt)]) else s.endCause 0x61 8
      s.setRed feed false)

/-- FEED_RESTORED (R20, R21). -/
def execFeedRestored (t : Nat) (feed : Fin 2) (s : State) : Host.Outcome State Fault Refusal :=
  let s := s.at t
  let s := if s.bit .REDUNDANCY 0 feed then s else s.endCause 0x61 8
  .next ((s.wrBit .feedSeen 0 feed true).setRed feed true)

/-- LOGIC_BUCK_LOST (R17). -/
def execLogicBuckLost (t : Nat) (buck : Fin 2) (volt : Nat) (s : State) : Host.Outcome State Fault Refusal :=
  let s := s.at t
  .next (
    if s.bit .REDUNDANCY 0 (3 + buck) then (s.detect 0x61 9 (dataOf [(1, buck), (2, volt)])).setRed (3 + buck) false else s)

/-- LOGIC_BUCK_RESTORED (R354). -/
def execLogicBuckRestored (t : Nat) (buck : Fin 2) (s : State) : Host.Outcome State Fault Refusal :=
  let s := (s.at t).setRed (3 + buck) true
  .next (if s.bit .REDUNDANCY 0 3 && s.bit .REDUNDANCY 0 4 then s.endCause 0x61 9 else s)

/-- AUX_LOST (R20). -/
def execAuxLost (t : Nat) (s : State) : Host.Outcome State Fault Refusal :=
  let s := s.at t
  .next (if s.bit .REDUNDANCY 0 2 then (s.detect 0x61 0x20).setRed 2 false else s)

/-- AUX_RESTORED (R20). -/
def execAuxRestored (t : Nat) (s : State) : Host.Outcome State Fault Refusal := .next ((s.at t).setRed 2 true)

-- images in flash

/-- The copy of image `n` that is used: that of the bank from which the module booted, else the other (R256, R258). -/
def State.imageOf (s : State) (n : Nat) : List Byte :=
  let b := s.rdN .bootBank 0
  let copy (k : Nat) : List Byte := if s.bit .flashBad 0 k then [] else tget [] s.images (16 * k + n)
  if (copy b).isEmpty then copy (1 - b) else copy b

/-- IMAGE_STATE and IMAGE_BUILD of slot `n` from the copies held; `none'` is the state of an empty slot. -/
def State.showImage (s : State) (n none' : Nat) : State :=
  let x := s.imageOf n
  if x.isEmpty then (s.wr .IMAGE_STATE n none').wr .IMAGE_BUILD n 0 else (s.wr .IMAGE_STATE n 2).wr .IMAGE_BUILD n (imgBuild x)

/-- An IMAGE_CLOSE cut short (R258): the chunks are discarded, and the slot holds one of three things, left open by the time of the
interruption. Nothing had been written where the image would not have passed. -/
def State.interruptClose (s : State) : State :=
  if s.rd .imgBusy 0 = 0 then { s with chunks := [] }
  else
    let n := s.rdN .imgNum 0
    let len := s.rdN .imgLen 0
    let b := s.rdN .bootBank 0
    let (x, s) := s.draw 2
    let put (s : State) (k : Nat) (bs : List Byte) : State := { s with images := tset [] s.images (16 * k + n) bs }
    let s := if (imageGround n len s.chunks).isSome then s
      else if x = 1 then put s (1 - b) []
      else if x = 2 then put (put s (1 - b) (s.chunks.take len)) b []
      else s
    ({ s with chunks := [] }.wr .imgBusy 0 0).showImage n 3

-- steward cores

/-- What a takeover covers (R341). -/
def portCovers : List (Nat × List Nat) := [(0x58, []), (0x59, []), (0x5A, [])]

/-- STEWARD_LOST (R18): the standby takes over. Transactions in progress, a COMMIT, a swap, an image close and a pending mode change are
discarded. Without a standby there is nothing to take over. -/
def execStewardLost (t : Nat) (s : State) : Host.Outcome State Fault Refusal :=
  let s := s.at t
  .next (
    if s.bit .REDUNDANCY 0 8 || s.mode = 0 then s
    else
      let lost := s.blkSteward
      let s := (s.detectShadow lost 1 0 portCovers .waiting).wr .takeover 0 1
      let s := (s.wr .takeoverAt 0 s.now).setRed 8 true
      let s := (s.setRed 7 (!s.bit .REDUNDANCY 0 7)).dropTransactions
      let s := ((s.endSwap 0x07).wr .commitRun 0 0).wr .modeReq 0 0
      { s with newSet := none }.interruptClose)

/-- TAKEOVER_COMPLETE (R18): frames are answered again, and the record of the lost core closes. -/
def execTakeoverComplete (t : Nat) (s : State) : Host.Outcome State Fault Refusal :=
  let s := s.at t
  .next (
    if s.rd .takeover 0 = 0 then s
    else
      let lost := 0x64 + (if s.bit .REDUNDANCY 0 7 then 0 else 1)
      let s := (s.wr .takeover 0 0).cfg 4
      (s.endShadow lost 1 (.time (s.now + 50000000))).closeRec lost)

-- trip sequencers

/-- The store to half `high` of word `w` in the buffer of the trip run of axis `n` takes the value `out`. -/
def State.tripOutput (s : State) (n w : Nat) (high : Bool) (out : Word32) : State :=
  match s.run .trip with
  | some r =>
    if r.ctx = n then
      s.setRun .trip (some { r with stores := r.stores.map (fun p => if p.1 = (64 * n + w, high) then (p.1, out) else p) })
    else s
  | none => s

/-- TS_MISMATCH (R19): only where two sequencers are in service. The sequencers differ in a store of the trip run of axis `n`: the run holds what one
of them has written, and `out` is the value that drives the axis toward the safe position of its program, which the program alone knows. Once the
self-test has found neither faulty, that value is taken; before, either may be (log entry 128). -/
def execTsMismatch (t : Nat) (n w : Fin 64) (high : Bool) (out : Word32) (s : State) : Host.Outcome State Fault Refusal :=
  let s := s.at t
  .next (
    if s.rd .tsOut 0 = 0 && s.rd .planPlaced 0 = 1 then
      let known : Bool := s.bit .REDUNDANCY 0 9 && s.rd .tsTest 0 = 0
      let (x, s) := s.draw 1
      let s := s.iff (known || x = 1) (fun s => s.tripOutput n w high out)
      ((s.detect 0x66 1).wr .tsTest 0 1).setRed 9 true
    else s)

/-- TS_SELF_TEST (R19): a faulty sequencer is contained; where none is found faulty, the mismatch stays unresolved. -/
def execTsSelfTest (t : Nat) (faulty : Option (Fin 2)) (s : State) : Host.Outcome State Fault Refusal :=
  let s := s.at t
  .next (
    if s.rd .tsTest 0 = 0 then s
    else
      let s := s.wr .tsTest 0 0
      match faulty with
      | some k => ((s.endCause 0x66 1).wr .tsOut 0 (k.val + 1 : Nat)).detect (0x66 + k) 2
      | none => s)

-- flash

/-- What flash bank `b` holds beside images. -/
def State.flashOf (s : State) (b : Nat) : FlashSet := tget FlashSet.blank s.flash b

/-- Flash bank `b` takes `x`. -/
def State.wrFlash (s : State) (b : Nat) (x : FlashSet) : State := { s with flash := tset FlashSet.blank s.flash b x }

/-- The flash banks that read and accept writes. -/
def State.goodBanks (s : State) : List Nat := [0, 1].filter (fun b => !s.bit .flashBad 0 b)

/-- FLASH_WRITE_FAIL where one bank refuses a write that the other accepts (R354). -/
def State.flashWarn (s : State) : State := if s.goodBanks.length = 1 then s.detect 0x63 0x10 else s

/-- The committed set written to the bank that does not hold the current one, or to the one that accepts it (R31); none where neither
does. -/
def State.flashConfig (s : State) (cfg : Tbl Int) : Option State :=
  let other := 1 - s.rdN .flashCur 0
  match (if s.goodBanks.contains other then [other] else s.goodBanks) with
  | [] => none
  | b :: _ => some (((s.wrFlash b { s.flashOf b with valid := true, config := cfg }).wr .flashCur 0 b).flashWarn)

/-- The lockout flag written to both banks (R325, R326). -/
def State.flashLockout (s : State) (v : Bool) : State :=
  (s.forList s.goodBanks (fun s b => s.wrFlash b { s.flashOf b with lockout := v })).flashWarn.wr .LOCKOUT_FLAG 0 (ofBool v)

/-- FLASH_BANK_LOST (R17). -/
def execFlashBankLost (t : Nat) (bank : Fin 2) (s : State) : Host.Outcome State Fault Refusal :=
  let s := s.at t
  .next (if s.bit .flashBad 0 bank then s else ((s.wrBit .flashBad 0 bank true).detect 0x63 1).setRed 14 true)

/-- FLASH_BANK_RESTORED (R354). -/
def execFlashBankRestored (t : Nat) (bank : Fin 2) (s : State) : Host.Outcome State Fault Refusal :=
  let s := (s.at t).wrBit .flashBad 0 bank false
  .next (if s.rd .flashBad 0 = 0 then (s.endCause 0x63 1).setRed 14 false else s)

-- SDRAM

/-- SDRAM_CORRECTED (R17). -/
def State.sdramFixed (s : State) : State := (s.tally 233).detect 0x62 0x20

/-- Slot word `i` of a plan made invalid (R232). -/
def voidSlot (ws : List Word64) (i : Nat) : List Word64 := ws.set i (ws.getD i 0 &&& BitVec.ofNat 64 (2 ^ 64 - 9))

/-- The entry that owns a lost word of SDRAM banks 4–7 discarded (R17, R224, R232). Where in the banks each thing lies is not stated, so
which entry goes is free: a log entry, a trace word, a cached reply, a slot of a loading plan, of the plan copy or of a fallback
plan, or nothing. -/
def State.loseEntry (s : State) : State :=
  let (k, s) := s.draw 3
  let (i, s) := s.draw 18
  match k with
  | 0 => { s with log := s.log.eraseIdx (i % max s.log.length 1) }
  | 1 => { s with traceBuf := s.traceBuf.set (i % max s.traceBuf.length 1) 0 }
  | 2 => if (s.tagSt (i % 128)).busy then s else s.wrTag (i % 128) TagSt.free
  | 3 =>
    match s.loading with
    | some ws => ({ s with loading := some (voidSlot ws (i % 4096)) }).slotGone (ws.getD (i % 4096) 0xFFC0000000000000)
    | none => s
  | 4 => { s with planCopy := voidSlot s.planCopy (i % 4096) }
  | 5 => { s with fallback := s.fallback.map (fun p => if p.1 = i % 8 then (p.1, voidSlot p.2 (i / 8 % 4096)) else p) }
  | _ => s

/-- SDRAM_UNCORRECTABLE (R17): outside basins and ledger. -/
def State.sdramLost (s : State) (bank addr : Nat) : State :=
  let s := s.detect 0x62 1 (dataOf [(1, bank), (4, addr)])
  if 4 ≤ bank then s.loseEntry else s

/-- SDRAM_CORRECTED (R17). -/
def execSdramCorrected (t : Nat) (bank : Fin 8) (addr : Nat) (s : State) : Host.Outcome State Fault Refusal :=
  let s := s.at t
  .next (match s.armed 3 bank with
    | some 2 => (s.fire.sdramLost bank addr).unfire
    | some _ => s.fire.sdramFixed.unfire
    | none => s.sdramFixed)

/-- SDRAM_UNCORRECTABLE (R17). -/
def execSdramUncorrectable (t : Nat) (bank : Fin 8) (addr : Nat) (s : State) : Host.Outcome State Fault Refusal :=
  let s := s.at t
  .next (match s.armed 3 bank with
    | some _ => (s.fire.sdramLost bank addr).unfire
    | none => s.sdramLost bank addr)

end Sys2Proof.Machine
end

