-- ==== Sys2Proof/Machine/Objects.lean ====
section
/-! DEFINITION. Which objects exist (R22, R26, R262, R276, R309, R356), what each of them reads as, and READ and READ_BLOCK. -/
namespace Sys2Proof.Machine

-- existence

/-- Whether an index exists (R22, R26): a program's only while it is loaded (R262), a block's only for the ids of R354. -/
def State.indexOk (s : State) (idx : Nat) : Bool :=
  decide (idx < 0xC000) && (maxSub idx).isSome && (idx / 256 ≠ 0x21 || blockIds.contains (idx - 0x2100)) &&
  (!(decide (0x6400 ≤ idx ∧ idx < 0x6800)) || (findProg s.progs (idx - 0x6400)).isSome)

/-- Subindices that a row covers but a unit does not have (R276, R309). -/
def subMissing (idx sub : Nat) : Bool :=
  let q := idx - 0x5000
  if 0x5000 ≤ idx ∧ idx < 0x5050 then
    (sub = 2 && (q < 64 || q = 74)) || (sub = 3 && !(decide (64 ≤ q ∧ q < 72))) ||
      (decide (0x0D ≤ sub) && !(decide (68 ≤ q ∧ q < 72)))
  else idx = 0x22 && [3, 9, 10, 11, 13].contains sub

/-- The highest subindex present at an index that exists. -/
def topSub (idx : Nat) : Nat :=
  if (0x5000 ≤ idx ∧ idx < 0x5050) ∧ ¬(0x5044 ≤ idx ∧ idx < 0x5048) then 0x0C else (maxSub idx).getD 0

/-- What an address names: a result code, subindex 0, or register `i` of a row. -/
inductive Place where
  | bad (code : Nat)
  | top (n : Nat)
  | obj (o : Obj) (i : Nat)
  deriving DecidableEq, Repr

/-- Ranks 3 and 4 of R35. -/
def State.look (s : State) (idx sub : Nat) : Place :=
  if !s.indexOk idx then .bad 1
  else if sub = 0 then .top (topSub idx)
  else if subMissing idx sub then .bad 2
  else match findObj idx sub with
    | none => .bad 2
    | some p => .obj p.1 p.2

/-- The register that an address names, where it names one. -/
def State.objAt (s : State) (idx sub : Nat) : Option (Obj × Nat) :=
  match s.look idx sub with
  | .obj o i => some (o, i)
  | _ => none

-- values

/-- A log entry as the number that its 32 bytes spell (R344). -/
def Rec.entry (r : Rec) : Nat :=
  dataOf [(8, r.time), (1, r.cause), (1, r.block), (1, r.sev),
    (1, (ofBits [r.consequent, r.merged, r.injected, r.head, r.isOpen, r.first])), (2, r.ordinal), (2, r.link), (2, r.merges), (14, r.data)]

/-- LOG_WINDOW: the 32 ordinals from LOG_PROBE on; one that is not held reads 0 (R355). -/
def State.logWindow (s : State) : Nat :=
  dataOf ((List.range 32).map (fun k =>
    (32, match s.log.find? (fun r => r.ordinal = s.rdN .LOG_PROBE 0 + k) with | some r => r.entry | none => 0)))

/-- HISTORY: Q74, oldest first (R355). -/
def State.history (s : State) : Nat :=
  dataOf ((s.queue 74).pkts.flatMap (fun p => match p with | .words ws => ws.map (fun w => (8, w.toNat)) | _ => []))

/-- TRACE_BUF_WINDOW: 128 words from TRACE_BUF_PROBE on; one that is not held reads 0 (R377). -/
def State.traceWindow (s : State) : Nat :=
  let newest := s.rdN .TRACE_BUF_NEWEST 0
  dataOf ((List.range 128).map (fun k =>
    let w := s.rdN .TRACE_BUF_PROBE 0 + k
    (8, if 1 ≤ w ∧ w ≤ newest then (s.traceBuf.getD (newest - w) 0).toNat else 0)))

/-- STAGE_VALUE (R30). -/
def State.stageValue (s : State) : Nat :=
  let g := s.rdN .STAGE_PROBE 0
  match s.objAt (bitsOf g 23 8) (bitsOf g 7 0) with
  | some (o, i) =>
    if o.acc ≠ .rwc then 0
    else
      match tget none s.staged (o.reg.key i) with
      | some v => dataOf [(1, 1), (o.ty.size, unsigned (8 * o.ty.size) v)]
      | none => dataOf [(1, 0), (o.ty.size, unsigned (8 * o.ty.size) (s.rd o.reg i))]
  | none => 0

/-- SHADOW_OF (R340): the ordinal of the earliest first fault whose shadow covers the block; 0 if none. -/
def State.shadowOf (s : State) (b : Nat) : Nat :=
  ((s.shadows.filter (fun x => x.covers.any (fun p => p.1 = b))).map Shadow.first).foldl (fun m o => if m = 0 then o else min m o) 0

/-- The program of index `0x6400 + p`, and a figure of it (R262). -/
def State.progFigure (s : State) (p : Nat) (f : Prog → Nat) : Nat := ((findProg s.progs p).map f).getD 0

/-- Whether image `n` is the one of the loaded programs (R261). -/
def State.imageInUse (s : State) (n : Nat) : Bool := s.rd .IMAGE_STATE n = 2 && s.rdN .PLAN_IMAGE 0 = n

/-- Whether ALIVE toggles (R311, R352). -/
def State.aliveOn (s : State) : Bool :=
  ((decide (2 ≤ s.mode) && decide (s.mode ≤ 8)) || s.mode = 11 || (s.mode = 1 && s.rd .aliveBoot 0 = 1)) && s.rd .aliveStop 0 = 0

/-- What register `i` of an object reads as. -/
def State.value (s : State) (r : Reg) (i : Nat) : Int :=
  match r with
  | .STAGE_COUNT => s.staged.length
  | .STAGE_VALUE => s.stageValue
  | .AXE_MAP => s.axeMap
  | .QLO_MAP => s.qloMap
  | .QUEUE_DEPTH => s.waiting i
  | .SHAPE_ENTRY => tableEntry (s.rd .SHAPE_K3 i) (s.rdN .SHAPE_LIFT i) (s.rdN .SHAPE_PROBE i)
  | .CV_STATE => s.cvStateNow i
  | .VIEW_ACTIVE => (s.activeBank.getD i 0).toNat
  | .VIEW_INACTIVE => (s.otherBank.getD i 0).toNat
  | .IMAGE_STATE => if s.imageInUse i then 4 else s.rd .IMAGE_STATE i
  | .KEY_HASH => (Config.keyHash % 2 ^ 256 : Nat)
  | .PROG_KIND => s.progFigure i Prog.kind
  | .PROG_WORDS => s.progFigure i (fun p => p.words.length)
  | .PROG_WCET => s.progFigure i Prog.wcet
  | .CAPACITY => s.capacity i
  | .DEPTH => (s.queue i).markDepth
  | .BASIN_TOTAL => ((List.range 80).map s.basinSize).sum
  | .BASIN_FREE => 1048576 - ((List.range 80).map s.basinSize).sum
  | .SERIAL => (Config.serial % 2 ^ 64 : Nat)
  | .FW_BUILD => (Config.fwBuild % 2 ^ 64 : Nat)
  | .MAC_ADDRESS => (Config.macAddress % 2 ^ 48 : Nat)
  | .HW_ISSUE => (Config.hwIssue % 2 ^ 16 : Nat)
  | .LOG_OLDEST => (s.log.head?.map Rec.ordinal).getD 0
  | .LOG_COUNT => s.log.length
  | .LOG_WINDOW => s.logWindow
  | .HISTORY => s.history
  | .CAUSES_PRESENT => (s.rdN .CAUSES_PRESENT i ||| s.freshBits .CAUSES_LATCHED i : Nat)
  | .SHADOW_OF => s.shadowOf i
  | .RING_TIME => s.ring
  | .LAST_CONTACT => s.dueContact.rd .LAST_CONTACT 0
  | .ALIVE_STATE => s.rd .alive 0 + 2 * ofBool s.aliveOn
  | .TRACE_BUF_WINDOW => s.traceWindow
  | r => s.rd r i

/-- The bytes of an object's value (R2). -/
def State.bytes (s : State) (o : Obj) (i : Nat) : List Byte :=
  leBytes o.ty.size (unsigned (8 * o.ty.size) (s.value o.reg i))

-- READ and READ_BLOCK

/-- READ (R4, R35): the code, and the bytes where it is 0. -/
def State.readOne (s : State) (idx sub : Nat) : Nat × List Byte :=
  match s.look idx sub with
  | .bad c => (c, [])
  | .top n => (0, leBytes 1 n)
  | .obj o i => if o.acc = .wo then (3, []) else (0, s.bytes o i)

/-- The values of `n` consecutive subindices (R25); the code of the lowest that is refused. -/
def State.readMany (s : State) (idx : Nat) : Nat → Nat → Nat × List Byte
  | 0, _ => (0, [])
  | n + 1, sub =>
    match s.readOne idx sub with
    | (0, bs) =>
      match State.readMany s idx n (sub + 1) with
      | (0, rest) => (0, bs ++ rest)
      | r => r
    | r => r

/-- Bytes that `n` subindices hold, for the length limit of R286. -/
def State.blockSize (s : State) (idx : Nat) : Nat → Nat → Nat
  | 0, _ => 0
  | n + 1, sub => (match s.look idx sub with | .bad _ => 0 | .top _ => 1 | .obj o _ => o.ty.size) + State.blockSize s idx n (sub + 1)

/-- READ_BLOCK (R25, R286). The length limit of R286 concerns the frame as a whole and is tested first. A count of 0 is out of the range of
R286, rank 9 of R35; where the index or the subindex is absent, ranks 3 and 4 come before it. -/
def State.readBlock (s : State) (idx sub count : Nat) : Nat × List Byte :=
  if count = 0 then (match s.look idx sub with | .bad c => (c, []) | _ => (5, []))
  else if 1024 < s.blockSize idx count sub then (6, []) else s.readMany idx count sub

/-- A READ of a host (R286). -/
def State.hostRead (s : State) (h : Hdr) (idx sub : Nat) : State :=
  s.transact h opRead idx sub [] (fun s =>
    let r := s.readOne idx sub
    (s, .done r.1 r.2))

/-- READ (R4). -/
def execRead (h : Hdr) (index sub : Nat) (s : State) : Host.Outcome State Fault Refusal := .next (s.hostRead h index sub)

/-- A READ_BLOCK of a host; its one data byte is the number of subindices, 1–255 (R286). -/
def State.hostReadBlock (s : State) (h : Hdr) (idx sub count : Nat) : State :=
  s.transact h opReadBlock idx sub (leBytes 1 count) (fun s =>
    let r := s.readBlock idx sub (count % 256)
    (s, .done r.1 r.2))

/-- READ_BLOCK (R25). -/
def execReadBlock (h : Hdr) (index sub count : Nat) (s : State) : Host.Outcome State Fault Refusal :=
  .next (s.hostReadBlock h index sub count)

end Sys2Proof.Machine
end

