-- ==== Sys2Proof/Machine/Commit.lean ====
section
/-! DEFINITION. COMMIT (R29–R34), the images (R257–R260) and plan swap (R233, R234): the checks in their order, what takes effect at the
mark, and COMMIT_REPORT. -/
namespace Sys2Proof.Machine

-- the candidate set

/-- OBJECT_A, OBJECT_B: an address as COMMIT_REPORT names it (R33). -/
def objRef (idx sub : Nat) : Nat := 256 * idx + sub

/-- The same of offset `o` of axis `n`. -/
def axisRef (o n sub : Nat) : Nat := objRef (0x8000 + 0x100 * n + o) sub

/-- The registers of `l` take the values beside them, in order. -/
def State.overlay (s : State) (l : List (Nat × Int)) : State :=
  l.foldl (fun (s : State) p => s.wr (keyReg p.1).1 (keyReg p.1).2 p.2) s

/-- The staged values. -/
def State.stagedValues (s : State) : List (Nat × Int) := s.staged.filterMap (fun p => p.2.map (fun v => (p.1, v)))

/-- What a COMMIT would make register `i` of `r`: its staged value, or else its committed one. -/
def State.candidate (s : State) (r : Reg) (i : Nat) : Int := (tget none s.staged (r.key i)).getD (s.rd r i)

/-- PLAN_IMAGE of the candidate set. -/
def State.newImage (s : State) : Nat := (s.candidate .PLAN_IMAGE 0).toNat

/-- What a COMMIT changes: the configuration entries of a newly named image, and over them what the host has staged (R260). -/
def State.changes (s : State) : List (Nat × Int) :=
  (if s.newImage < 8 ∧ s.newImage ≠ s.rdN .PLAN_IMAGE 0 then cfgValues (s.imageOf s.newImage) else []) ++ s.stagedValues

/-- The programs of image `n`. -/
def State.progsOf (s : State) (n : Nat) : List Prog := if n < 8 then loadedProgs (s.imageOf n) else []

/-- The RWC objects with their values, as flash holds them (R31). -/
def State.committed (s : State) : Tbl Int :=
  s.regs.filter (fun (p : Nat × Int) => ((keyReg p.1).1.obj).any (fun o => decide (o.acc = .rwc)))

-- step 7: the constraints, each as the two objects it names

/-- The failing constraints that name one axis (R59, R138). -/
def State.axisFaults (s : State) (n : Nat) : List (Nat × Nat) :=
  (if s.rd .SOFT_MIN n < s.rd .SOFT_MAX n then [] else [(axisRef 0x11 n 1, axisRef 0x11 n 2)]) ++
  (if s.rd .LI_MIN_SPEED n < s.rd .LI_LOW_MIN_SPEED n then [(axisRef 0x61 n 1, axisRef 0x61 n 2)] else [])

/-- R87: the axis that subscribes a 17th stream, and any that names a stream of its own node. -/
def State.streamFaults (s : State) : List (Nat × Nat) :=
  let subs := (List.range 64).filter (fun n => s.rd .FOLLOW_SOURCE n = 4)
  let stream (n : Nat) : Nat × Nat := (s.rdN .SOURCE_NODE n, s.rdN .SOURCE_NUM n)
  let new (n : Nat) : Bool := !subs.any (fun m => m < n && stream m = stream n)
  let bad := ((subs.filter new).drop 16).take 1 ++ subs.filter (fun n => s.rd .SOURCE_NODE n = s.rd .NODE_NUMBER 0)
  bad.map (fun n => (axisRef 0x30 n 2, axisRef 0x30 n 3))

/-- The leaders of axis `n`, itself first, until one does not follow an axis or comes twice. -/
def State.leaders (s : State) : Nat → List Nat → Nat → List Nat
  | 0, acc, _ => acc
  | f + 1, acc, n =>
    if acc.contains n then acc
    else if s.rd .FOLLOW_SOURCE n = 3 then State.leaders s f (acc ++ [n]) (s.rdN .SOURCE_NUM n)
    else acc ++ [n]

/-- R88: a chain that closes on itself or is longer than eight. -/
def State.chainFaults (s : State) : List (Nat × Nat) :=
  (List.range 64).filterMap (fun n =>
    let l := s.leaders 65 [] n
    let closes := l.all (fun m => s.rd .FOLLOW_SOURCE m = 3)
    if closes || decide (8 < l.length) then
      let low := l.foldl min 63
      some (axisRef 0x30 low 2, if s.rd .FOLLOW_SOURCE low = 3 then axisRef 0x30 (s.rdN .SOURCE_NUM low) 2 else 0)
    else none)

/-- The failing constraints of channel `c` (R176, R178). -/
def State.channelFaults (s : State) (c : Nat) : List (Nat × Nat) :=
  (if s.rd .CH_MIN c < s.rd .CH_MAX c then [] else [(objRef (0x4000 + c) 4, objRef (0x4000 + c) 5)]) ++
  (if 5000 * s.rd .ABS_PERIOD c < (s.rd .SSI_BITS c + 1) * s.rd .SSI_DIV c + s.rd .SSI_DELAY c + s.rd .SSI_MONO c then
    [(objRef (0x4000 + c) 0x0F, objRef (0x4000 + c) 0x13)] else [])

/-- R195: the lockstep sequence ends within 2,000 CKA cycles of the mark. -/
def State.sequenceFaults (s : State) : List (Nat × Nat) :=
  let len (c : Nat) : Nat := ((s.entries c).map (fun e => entrySample e + 16)).sum
  match s.lockstep with
  | [] => []
  | c :: l =>
    let long := l.foldl (fun b x => if len b < len x then x else b) c
    if s.rd .LOCK_TRIGGER 0 = 0 && decide (2000 < s.rdN .LOCK_OFFSET 0 + ((List.range 16).map s.entryLen).sum) then
      [(objRef 0x3300 2, objRef (0x3000 + long) 2)] else []

/-- Whether a number names a loaded program of the kind. -/
def isProg (ps : List Prog) (p kind : Nat) : Bool := (findProg ps p).any (fun x => decide (x.kind = kind))

/-- The failing constraints of work item `w` (R238, R260). -/
def State.workFaults (s : State) (ps : List Prog) (w : Nat) : List (Nat × Nat) :=
  let p := s.rdN .WORK_PROG w
  let e := s.rdN .WORK_PIN_ENGINE w
  let ref (k : Nat) : Nat := objRef (0x6900 + w) k
  if p = 0 then []
  else
    (if isProg ps p 1 then [] else [(ref 1, 0)]) ++
    (if s.rd .WORK_CTX w = 255 ∧ s.rd .WORK_AFTER w ≠ 0 then [(ref 2, ref 3)] else []) ++
    (if e < 8 ∧ s.spareOf s.failing = some e then [(objRef 0x6800 2, ref 6)] else []) ++
    (if s.rd .WORK_PIN_START w ≠ 0xFFFF ∧ 9950 < s.rdN .WORK_PIN_START w + ((findProg ps p).map Prog.wcet).getD 0 then [(ref 1, ref 7)] else [])

/-- Whether `v` lies in the range that the Range column of an object gives by the value `w` of another one (R92, R187, R190, R371): SOURCE_NUM by
FOLLOW_SOURCE, not the axis `i` itself for kind 3; EM_NUM_SRC by EM_SOURCE; INDEX_REF below INDEX_PERIOD, where a period is set; SYNC_PHASE
below SYNC_PERIOD (log entry 144). -/
def linkedRange (r : Reg) (i : Nat) (v w : Int) : Bool :=
  match r with
  | .SOURCE_NUM => if w = 1 then v ≤ 7 else if w = 2 then v ≤ 15 else w ≠ 3 || v ≠ i
  | .EM_NUM_SRC => w ≠ 2 || v ≤ 15
  | .INDEX_REF => w = 0 || v < w
  | .SYNC_PHASE => v < w
  | _ => true

/-- The object whose value such a range turns on. -/
def linkedTo (r : Reg) : Reg :=
  match r with
  | .SOURCE_NUM => .FOLLOW_SOURCE
  | .EM_NUM_SRC => .EM_SOURCE
  | .INDEX_REF => .INDEX_PERIOD
  | .SYNC_PHASE => .SYNC_PERIOD
  | r => r

/-- The failing ranges of that kind, each as the two objects it names; an axis that follows itself is a chain that closes (R88). -/
def State.linkedFaults (s : State) : List (Nat × Nat) :=
  let bad (r : Reg) (i : Nat) : Bool := !linkedRange r i (s.rd r i) (s.rd (linkedTo r) i)
  ((List.range 64).filter (fun n => s.rd .FOLLOW_SOURCE n ≠ 3 && bad .SOURCE_NUM n)).map (fun n => (axisRef 0x30 n 1, axisRef 0x30 n 2)) ++
  ((List.range 16).filter (bad .INDEX_REF)).map (fun c => (objRef (0x4000 + c) 9, objRef (0x4000 + c) 0x0A)) ++
  ((List.range 4).filter (bad .EM_NUM_SRC)).map (fun e => (objRef (0x4900 + e) 1, objRef (0x4900 + e) 2)) ++
  (if bad .SYNC_PHASE 0 then [(objRef 0x1052 2, objRef 0x1052 3)] else [])

/-- Every failing constraint of the candidate set (R31 step 7). -/
def State.crossFaults (s : State) (ps : List Prog) : List (Nat × Nat) :=
  (List.range 64).flatMap s.axisFaults ++ s.streamFaults ++ s.chainFaults ++ (List.range 16).flatMap s.channelFaults ++
  s.sequenceFaults ++ (List.range 256).flatMap (s.workFaults ps) ++
  (List.range 16).filterMap (fun c =>
    if s.rd .HARVEST_PROG c = 0 || isProg ps (s.rdN .HARVEST_PROG c) 3 then none else some (objRef (0x3000 + c) 0x14, 0)) ++
  (List.range 64).filterMap (fun n =>
    if s.rd .TRIP_PROG n = 0 || isProg ps (s.rdN .TRIP_PROG n) 2 then none else some (objRef 0x6A00 (n + 1), 0)) ++
  (if s.rd .LOCK_TRIGGER 0 = 1 ∧ s.rd .SYNC_MODE 0 = 0 then [(objRef 0x1052 1, objRef 0x3300 1)] else []) ++
  (if s.rd .SYNC_WIDTH 0 < s.rd .SYNC_PERIOD 0 then [] else [(objRef 0x1052 2, objRef 0x1052 4)]) ++ s.linkedFaults

/-- The order in which a failing constraint is reported (R31 step 7): by its lower-numbered object, then by the other. -/
def faultKey (p : Nat × Nat) : Nat :=
  let lo := if p.2 = 0 then p.1 else min p.1 p.2
  lo * 2 ^ 32 + max p.1 p.2

/-- The failing constraint that is reported. -/
def firstFault : List (Nat × Nat) → Option (Nat × Nat)
  | [] => none
  | p :: l => some (l.foldl (fun b x => if faultKey x < faultKey b then x else b) p)

-- step 8: the claims

/-- Two claimants of one resource among the addresses in ascending order. -/
def twoOf (l : List Nat) : Option (Nat × Nat) :=
  match l with
  | a :: b :: _ => some (a, b)
  | _ => none

/-- The conflict over sense input `i` (R183). -/
def State.limitClaim (s : State) (i : Nat) : Option (Nat × Nat) :=
  twoOf ((List.range 64).flatMap (fun n =>
    (if s.rdN .LIMIT_NEG n = i then [axisRef 0x80 n 1] else []) ++ (if s.rdN .LIMIT_POS n = i then [axisRef 0x80 n 2] else [])))

/-- The conflict over terminal group `c` (R169, R185). -/
def State.groupClaim (s : State) (c : Nat) : Option (Nat × Nat) :=
  let e := c - 12
  if c < 12 || s.rd .EM_SOURCE e = 0 then none
  else if s.rd .CH_MODE c ≠ 0 || (s.rd .EM_SOURCE e = 2 && s.rdN .EM_NUM_SRC e = c) then some (objRef (0x4000 + c) 1, objRef (0x4900 + e) 1)
  else none

/-- The conflict over mailbox `m` (R247, R260). -/
def State.mailClaim (s : State) (ps : List Prog) (m : Nat) : Option (Nat × Nat) :=
  twoOf (((List.range 256).filter (fun w => s.rd .WORK_PROG w ≠ 0 &&
    (findProg ps (s.rdN .WORK_PROG w)).any (fun p => p.pops.testBit m))).map (fun w => objRef (0x6900 + w) 1))

/-- The conflict over engine `e` (R225): two work items pinned to windows that overlap in a pass in which both run. -/
def windowClaim (pinned : List PSlot) (e : Nat) : Option (Nat × Nat) :=
  let l := pinned.filter (fun p => p.engine = e)
  let hits (p : PSlot) : List Nat := (l.filter (fun q => p.item < q.item && p.meet q && p.overlap q)).map PSlot.item
  l.findSome? (fun p => (hits p).head?.map (fun q => (objRef (0x6900 + (p.item - 1)) 1, objRef (0x6900 + (q - 1)) 1)))

/-- The claim that is reported (R225): the lowest class, then the lowest number; `placed` holds the windows of the pinned items. -/
def State.firstClaim (s : State) (ps : List Prog) (placed : List PSlot) : Option Verdict :=
  let v (cls i : Nat) (o : Option (Nat × Nat)) : Option Verdict := o.map (fun p => ⟨9, p.1, p.2, 2 ^ 24 * cls + i, 0⟩)
  let pinned := placed.filter (fun p => p.item ≠ 0)
  let all : List (Option Verdict) :=
    (List.range 128).map (fun i => v 1 i (s.limitClaim i)) ++ (List.range 16).map (fun c => v 2 c (s.groupClaim c)) ++
    (List.range 4).map (fun m => v 5 (76 + m) (s.mailClaim ps m)) ++ (List.range 8).map (fun e => v 7 e (windowClaim pinned e)) ++
    [if s.rd .LOCK_TRIGGER 0 = 1 ∧ s.rd .SYNC_MODE 0 = 1 then v 9 0 (some (objRef 0x1052 1, objRef 0x3300 1)) else none]
  all.findSome? id

-- step 9

/-- R199: the excess of a converter's harvest program over its harvest budget. -/
def State.harvestExcess (s : State) (ps : List Prog) (c : Nat) : Option Verdict :=
  let es := (s.entries c).map entrySample
  let low := es.foldl min (s.rdN .URGENT_SAMPLE c)
  let k := if s.rdN .URGENT_SAMPLE c = low then 0 else (es.findIdx? (· = low)).getD 0
  let budget := 5 * (low + 16) / 2 - 8
  match findProg ps (s.rdN .HARVEST_PROG c) with
  | some p => if budget < p.wcet then some ⟨0x0B, 0, 0, 2 ^ 24 * 4 + 16 * c + k, p.wcet - budget⟩ else none
  | none => none

/-- Steps 5 and 6 for the image that the candidate set names (R259). -/
def State.imageVerdict (s : State) (n : Nat) : Option Verdict :=
  if 8 ≤ n then none
  else
    match imageGround n (imgLength (s.imageOf n)) (s.imageOf n) with
    | none => none
    | some (g, _) => some ⟨if g ≤ 6 then 0x0E else 0x0A, objRef 0x6003 1, 0, 0, 0⟩

/-- Steps 7 to 9 on the candidate set `s`, with the programs `ps`: why it fails, or what it brings. A swap moves no basin (R224). -/
def State.judge (s : State) (ps : List Prog) (swap : Bool) : Verdict ⊕ (List PSlot × Tbl (List Word64) × Option Nat × Tbl Nat) :=
  match firstFault (s.crossFaults ps) with
  | some p => .inl ⟨5, p.1, p.2, 0, 0⟩
  | none =>
    let used := (List.range 8).filter (fun e => !s.failing.testBit e && some e ≠ s.spareOf s.failing)
    match s.firstClaim ps (s.pinnedPlan ps used) with
    | some v => .inl v
    | none =>
      match s.place ps s.failing with
      | .inl x => .inl ⟨0x0B, 0, 0, 2 ^ 24 * x.cls + x.num, x.detail⟩
      | .inr (l, fb, spare) =>
        if swap then .inr (l, fb, spare, [])
        else
          match s.basinBanks ps with
          | .inl q => .inl ⟨0x0B, 0, 0, 2 ^ 24 * 5 + q, 0⟩
          | .inr banks =>
            match (List.range 16).findSome? (s.harvestExcess ps) with
            | some v => .inl v
            | none => .inr (l, fb, spare, banks)

-- what takes effect

/-- A channel whose CH_MODE has changed (R177): mode 1 is valid at once, mode 2 at its first valid frame. -/
def State.modeChannel (s : State) (c : Nat) : State :=
  let s := (((s.wr .edgeN c 0).wr .absHave c 0).wr .absErr c 0).wr .ssiState c 0
  let s := (((s.wr .ssiOld c 0).wr .ssiMono c 0).wr .edgeAt c 0).devOff c
  match s.rdN .CH_MODE c with
  | 1 => if s.bit .CH_FLAGS c 3 then s else s.chValid c
  | 2 => s.chInvalid c
  | _ => (s.wrBit .CH_FLAGS c 0 false).endCause (blkFb c) 0x13

/-- A follower whose source has changed: its reconstruction starts from where the new source stands (log entry). -/
def State.rebase (s : State) (n : Nat) : State :=
  let k := s.rdN .FOLLOW_SOURCE n
  let p := if k = 1 then s.rd .STEP_COUNT (s.rdN .SOURCE_NUM n) else if k = 2 then s.rd .chCount (s.rdN .SOURCE_NUM n) else 0
  let q := p * s.rd .COARSE_SIZE n * 65536
  let s := ((((s.wr .srcGoal n q).wr .srcFrom n q).wr .srcMark n q).wr .srcSpan n 0).wr .srcNew n 0
  { (s.wr .srcOk n 0).wr .srcLost n 0 with streams := tset [] s.streams n [] }

/-- What a change of the committed set does to axis `n` at its mark (R63, R70, R98, R110, R122, R184): `old` is the state before it,
`l` what was staged. -/
def State.adoptAxis (s old : State) (l : List (Nat × Int)) (n : Nat) : State :=
  let ch (r : Reg) : Bool := s.rd r n ≠ old.rd r n
  let s := s.iff (ch .QUEUE_RECORDS) (fun s => s.emptyQueue n)
  let s := s.wr .LOW_MARK n (min (s.rd .LOW_MARK n) (s.rd .QUEUE_RECORDS n))
  let s := s.iff (ch .FOLLOW_SOURCE || ch .SOURCE_NUM || ch .SOURCE_NODE || ch .COARSE_SIZE) (fun s => s.rebase n)
  let s := s.iff (ch .SHAPE_K3 || ch .SHAPE_LIFT) (fun s => s.wr .SHAPE_RMS n (shapeRms (s.rd .SHAPE_K3 n) (s.rdN .SHAPE_LIFT n)))
  let s := s.iff (ch .ADAPT_INIT_A || ch .ADAPT_INIT_B) (fun s => s.resetAdapt n)
  let sig (p : Nat × Int) : Bool := ((keyReg p.1).1 = .SIG_TABLE && (keyReg p.1).2 / 16 = n) || ((keyReg p.1).1 = .SIG_COND && (keyReg p.1).2 = n)
  let s := s.iff (l.any sig) (fun s => s.activateSig n)
  let s := s.iff (s.rd .AXIS_USE n = 0) (fun s => s.dropDiag n)
  s.iff (ch .LIMIT_NEG || ch .LIMIT_POS) (fun s => s.limitInputs n)

/-- SENSE_INVERT of input `i` has changed: its filtered level becomes active or inactive at this mark, which R182 calls an edge (log entry 137). -/
def State.invertSense (s : State) (i : Nat) : State := s.senseChange i (!s.sense i)

/-- The same for the rest of the module (R177, R182, R195, R265, R369). -/
def State.adoptRest (s old : State) : State :=
  let s := s.forAll 128 (fun s i => s.iff (s.rd .SENSE_INVERT i ≠ old.rd .SENSE_INVERT i) (fun s => s.invertSense i))
  let s := s.forAll 16 (fun s c => s.iff (s.rd .CH_MODE c ≠ old.rd .CH_MODE c) (fun s => s.modeChannel c))
  let s := s.forAll 16 (fun s c => s.iff (s.rd .CH_MIN c ≠ old.rd .CH_MIN c || s.rd .CH_MAX c ≠ old.rd .CH_MAX c) (fun s => s.chBounds c))
  let s := s.forAll 16 (fun s c =>
    s.iff (s.rd .CV_MODE c ≠ old.rd .CV_MODE c && s.rd .CV_STATE c = 0) (fun s => (s.wr .cvUrg c 0).cvRejoin c))
  let s := s.forAll 80 (fun s q => s.iff (64 ≤ q && s.rd .BASIN_WORDS q ≠ old.rd .BASIN_WORDS q) (fun s => s.emptyQueue q))
  s.iff (s.rd .SYNC_MODE 0 ≠ old.rd .SYNC_MODE 0) (fun s => (s.wr .syncNext 0 s.ring).wr .syncLevel 0 0)

/-- A new plan with its fallback plans in force from this mark (R31, R234): no fallback plan runs, and one that ran is left (R39). -/
def State.adoptPlan (s : State) (x : NewSet) : State :=
  let s := s.iff (s.rd .FALLBACK_FOR 0 ≠ 255) (fun s => s.cfg 2)
  let s := ({ s with progs := x.progs }.wr .EFFECTIVE_SPARE 0 x.spare).wr .planPlaced 0 1
  let s := x.banks.foldl (fun (s : State) p => s.wr .BASIN_BANK p.1 p.2) s
  let s := (((s.wr .FALLBACK_FOR 0 255).wr .leaveFallback 0 0).wr .planBuild 0 0).setRed 13 (s.rd .REDUNDANCY_POLICY 0 = 1)
  (s.switchTo x.slots).setFallback x.fallback

/-- The new committed set and the new plan take effect together at this mark (R31). -/
def State.adopt (s : State) (x : NewSet) : State :=
  let old := s
  let s := { s.overlay x.config with newSet := none }
  let s := s.forAll 64 (fun s n => s.adoptAxis old x.config n)
  ((s.adoptRest old).adoptPlan x).checkSync

-- COMMIT

/-- Steps 5 to 10 of R31 on the staged set: the verdict, or the state with the new set waiting for its mark. -/
def State.tryCommit (s : State) : Verdict ⊕ State :=
  let c := s.overlay s.changes
  let n := s.newImage
  match s.imageVerdict n with
  | some v => .inl v
  | none =>
    let ps := if n = s.rdN .PLAN_IMAGE 0 then s.progs else s.progsOf n
    match c.judge ps false with
    | .inl v => .inl v
    | .inr (l, fb, spare, banks) =>
      if s.goodBanks.isEmpty then .inl ⟨0x0B, 0, 0, 0, 0xFFFFFFFF⟩
      else
        .inr (({ s with newSet := some ⟨false, s.changes, l.map PSlot.word, fb, ps, banks, spare.getD 255, true⟩ }.wr .commitRun 0 1).wr
          .loadEnd 0 (s.now + 1 : Nat))

/-- A COMMIT taken up (R31, R32). -/
def State.commit (s : State) : State × Answer :=
  let fail (s : State) (v : Verdict) : State × Answer := (s.report v, .done v.code [])
  if s.mode ≠ 2 then fail s ⟨4, 0, 0, 0, 0⟩
  else if s.rd .commitRun 0 = 1 then fail s ⟨7, 0, 0, 0, 0⟩
  else if s.staged.isEmpty then fail s ⟨0, 0, 0, 0, 0⟩
  else
    match s.tryCommit with
    | .inl v => fail s v
    | .inr s => (s, .later)

/-- COMMIT (R31). -/
def execCommit (h : Hdr) (s : State) : Host.Outcome State Fault Refusal :=
  .next (s.transact h opCommit 0 0 [] State.commit)

/-- The committed set in force written to flash, in a bank that still accepts it. -/
def State.saveSet (s : State) : State :=
  match s.flashConfig s.committed with
  | some t => t
  | none => s

/-- COMMIT_TAKES_EFFECT (R31): a mark after the COMMIT, once the new bank is loaded (log entry 66). The write to flash ends here, so that a COMMIT that a
takeover discards leaves the set before it in flash (R18). -/
def execCommitTakesEffect (s : State) : Host.Outcome State Fault Refusal :=
  .next (
    match s.newSet with
    | some x =>
      if s.atMark && s.rd .commitRun 0 = 1 && decide (s.rdN .loadEnd 0 ≤ s.now) then
        let s := { s.adopt x with staged := [] }
        ((((s.saveSet.wr .commitRun 0 0).cfg 0).report ⟨0, 0, 0, 0, 0⟩)).finish 0 0 0
      else s
    | none => s)

-- plan swap

/-- The checks of SWAP_START that are answered at once (R233, steps 1 and 2), and its range. -/
def State.swapCode (s : State) (v : Nat) : Nat :=
  if !s.inMode [5, 6] then 4
  else if s.rd .commitRun 0 = 1 || s.rd .SWAP_STATE 0 ≠ 0 || s.rd .loadKind 0 ≠ 0 || s.rd .selfTest 0 ≠ 0 then 7
  else if 7 < v then 5 else 0

/-- An accepted SWAP_START: the module enters SWAP at the next mark. -/
def State.swapStart (s : State) (v : Nat) : State := (s.wr .SWAP_STATE 0 1).wr .swapImg 0 v

/-- What image `v` brings in a swap: its entries, a value that the host has staged for one of them prevailing (R260). -/
def State.swapChanges (s : State) (v : Nat) : List (Nat × Int) :=
  (cfgValues (s.imageOf v)).map (fun (p : Nat × Int) => (p.1, (tget none s.staged p.1).getD p.2)) ++ [(Reg.key .PLAN_IMAGE 0, (v : Int))]

/-- The first RWC object outside area 0x6 that the entries change (R233, step 5). -/
def State.swapOutside (s : State) (l : List (Nat × Int)) : Option Nat :=
  l.findSome? (fun (p : Nat × Int) =>
    let r := (keyReg p.1).1
    let i := (keyReg p.1).2
    match r.obj with
    | some o => if o.index i / 0x1000 ≠ 6 ∧ s.rd r i ≠ p.2 then some (objRef (o.index i) (o.subindex i)) else none
    | none => none)

/-- Steps 3 to 9 of R233. -/
def State.trySwap (s : State) (v : Nat) : Verdict ⊕ (State × NewSet) :=
  match s.imageVerdict v with
  | some x => .inl { x with a := objRef 0x6003 1 }
  | none =>
    let l := s.swapChanges v
    match s.swapOutside l with
    | some a => .inl ⟨4, a, 0, 0, 0⟩
    | none =>
      let c := s.overlay l
      let ps := s.progsOf v
      match c.judge ps true with
      | .inl x => .inl x
      | .inr (p, fb, spare, _) =>
        match s.flashConfig c.committed with
        | none => .inl ⟨0x0B, 0, 0, 0, 0xFFFFFFFF⟩
        | some s => .inr (s, ⟨true, l, p.map PSlot.word, fb, ps, [], spare.getD 255, true⟩)

-- images

/-- Whether image `n` may not be loaded or erased now (R257). -/
def State.imageBusy (s : State) (n : Nat) : Bool :=
  s.rd .imgBusy 0 = 1 || s.rdN .PLAN_IMAGE 0 = n || (s.rd .commitRun 0 = 1 && s.newImage = n) ||
  (s.rd .SWAP_STATE 0 ≠ 0 && s.rdN .swapImg 0 = n)

/-- Largest image (R255). -/
def imageLimit (n : Nat) : Nat := if n = 8 then 2097152 else 524288

/-- IMAGE_SEL written (R257): a load begins afresh, and the slot whose load it cuts short shows what it holds. -/
def State.imageSelect (s : State) (v : Nat) : State :=
  let s := s.iff (!s.chunks.isEmpty) (fun s => s.showImage (s.rdN .IMAGE_SEL 0) 0)
  { s.wr .IMAGE_SEL 0 v with chunks := [] }

/-- The checks of a chunk (R257). -/
def State.chunkCode (s : State) : Nat :=
  let n := s.rdN .IMAGE_SEL 0
  if s.imageBusy n then 7
  else if s.rdN .IMAGE_OFFSET 0 ≠ s.chunks.length || decide (imageLimit n < s.rdN .IMAGE_OFFSET 0 + 1024) then 5 else 0

/-- A chunk taken (R257). -/
def State.takeChunk (s : State) (bs : List Byte) : State :=
  { s.wr .IMAGE_STATE (s.rdN .IMAGE_SEL 0) 1 with chunks := s.chunks ++ bs }

/-- The checks of a write to IMAGE_CLOSE (R257). -/
def State.closeCode (s : State) (len : Nat) : Nat :=
  let n := s.rdN .IMAGE_SEL 0
  if s.imageBusy n then 7 else if imageLimit n < len then 5 else 0

/-- IMAGE_CLOSE taken up. -/
def State.imageClose (s : State) (len : Nat) : State :=
  ((s.wr .imgBusy 0 1).wr .imgNum 0 (s.rd .IMAGE_SEL 0)).wr .imgLen 0 len

/-- Both flash copies of image `n` replaced, in the banks that accept writes. -/
def State.putImage (s : State) (n : Nat) (bs : List Byte) : State :=
  (s.forList s.goodBanks (fun s b => { s with images := tset [] s.images (16 * b + n) bs })).flashWarn

/-- The verdict of IMAGE_CLOSE left in its objects, and sent (R257, R259). -/
def State.closeResult (s : State) (code prog ground : Nat) : State :=
  (({ s with chunks := [] }.wr .imgBusy 0 0).wr .IMAGE_RESULT 0 code).wr .IMAGE_PROG 0 prog |>.wr .IMAGE_GROUND 0 ground |>.finish 0x6000 4 code

/-- IMAGE_CLOSE_DONE (R257, R259): the image is verified and stands in both banks, or the slot is left empty. -/
def execImageCloseDone (t : Nat) (s : State) : Host.Outcome State Fault Refusal :=
  let s := s.at t
  let n := s.rdN .imgNum 0
  let len := s.rdN .imgLen 0
  .next (
    if s.rd .imgBusy 0 = 0 then s
    else
      match imageGround n len s.chunks with
      | none => ((s.putImage n (s.chunks.take len)).showImage n 3).closeResult 0 0 0
      | some (g, p) => ((s.putImage n []).showImage n 3).closeResult (groundCode g) p g)

/-- IMAGE_ERASE taken (R257). -/
def State.imageErase (s : State) (n : Nat) : State := (s.putImage n []).showImage n 0

end Sys2Proof.Machine
end

