-- ==== Sys2Proof/Machine/Fabric.lean ====
section
/-! DEFINITION. Faults of the queue fabric and the host's accesses to queues (R270–R272, R277). -/
namespace Sys2Proof.Machine

/-- What the reset of a queue covers (R341). -/
def queueCovers (q : Nat) : List (Nat × List Nat) :=
  if q < 64 then [(blkAxis q, [])]
  else if q = 64 || q = 68 then [(0x58, [])]
  else if q = 65 || q = 69 then [(0x59, [])]
  else if q = 66 || q = 70 then [(0x5A, [])]
  else if q = 67 || q = 71 then [(0x58, []), (0x59, []), (0x5A, [])]
  else []

/-- HELD of queue `q`, and its bit among the held queues. -/
def State.setHeld (s : State) (q : Nat) (v : Bool) : State :=
  let s := s.wr .HELD q (ofBool v)
  if q < 64 then s.wrBit .HELD_LO 0 q v else s.wrBit .HELD_HI 0 (q - 64) v

/-- Queue `q` is reset after a fault detected in this cycle (R270, R271): pushes and pops of this cycle and the next are void, the
record is posted, the queue is emptied. The reset cycle ends cause and record. -/
def State.resetQueue (s : State) (q c data : Nat) : State :=
  let s := s.wr .qVoid q (s.now + 2 : Nat)
  let cov := queueCovers q
  let s := if cov.isEmpty then s.detect 0x50 c data
    else s.detectShadow 0x50 c data cov (.mark (s.pass + (if q < 64 then 20 else 10000)))
  let lost := if q = 72 then (s.queue q).pkts.length else 0
  let s := (((s.emptyQueue q).count .RESETS q).count .POST_DROPS 0 lost).tally 222 lost
  let s := s.iff (q < 64 || 76 ≤ q) (fun s => s.setHeld q true)
  (s.endCause 0x50 c).closeRec 0x50

/-- QUEUE_POINTER (R270): the two copies of a pointer differ, or an armed injection makes them seem to (R351). -/
def execQueuePointer (t : Nat) (q : Fin 80) (ptr : Fin 4) (s : State) : Host.Outcome State Fault Refusal :=
  let s := s.at t
  .next (match s.armed 8 q with
    | some b => (s.fire.resetQueue q 1 (dataOf [(1, q), (1, b)])).unfire
    | none => s.resetQueue q 1 (dataOf [(1, q), (1, ptr)]))

/-- BASIN_ECC (R270): an uncorrectable word at offset `off` of the basin of queue `q`. -/
def execBasinEcc (t : Nat) (q : Fin 80) (off : Nat) (s : State) : Host.Outcome State Fault Refusal :=
  let s := s.at t
  .next (
    if s.capacity q ≤ off + 16 || q.val = 74 then s
    else
      let data := dataOf [(1, q), (1, 0), (4, off)]
      match s.armed 3 (s.rdN .BASIN_BANK q) with
      | some 2 => (s.fire.resetQueue q 2 data).unfire
      | _ => s.resetQueue q 2 data)

/-- A write of 0x01 to RELEASE (R272): the hold ends with the next cycle. -/
def State.releaseQueue (s : State) (q : Nat) : State :=
  if s.rd .HELD q = 1 then (s.setHeld q false).wr .qVoid q (max (s.rdN .qVoid q) (s.now + 1) : Nat) else s

/-- The words of a MAIL_PUSH value (R277); none where its form is refused. -/
def mailPacket (bytes : List Byte) : Option (List Word64) :=
  match bytes with
  | [] => none
  | b :: l =>
    let n := b.toNat
    if 1 ≤ n && n ≤ 16 && (l.drop (8 * n)).all (fun x => x = 0) then
      some ((List.range n).map (fun i => BitVec.ofNat 64 (leNat ((l.drop (8 * i)).take 8))))
    else none

/-- A write to MAIL_PUSH of mailbox `m` (R277), in the ranks of R35: the result code and the state after it. -/
def State.mailPush (s : State) (m : Nat) (bytes : List Byte) : Nat × State :=
  if s.rd .HELD (76 + m) = 1 then (0x07, s)
  else
    match mailPacket bytes with
    | none => (0x05, s)
    | some ws =>
      match s.push (76 + m) (.words ws) with
      | (s, true) => (0, s.pollWaits)
      | (s, false) => (0x0D, s)

/-- Up to `n` words popped from Q75, oldest first. -/
def State.fetchWords (s : State) : Nat → List Word64 × State
  | 0 => ([], s)
  | n + 1 =>
    match s.pop 75 with
    | (s, some (.words ws)) =>
      let r := State.fetchWords s n
      (ws ++ r.1, r.2)
    | (s, _) => ([], s)

/-- A write to CAPTURE_FETCH (R277): up to `n` words of Q75 go into CAPTURE_BUF. -/
def State.captureFetch (s : State) (n : Nat) : State :=
  let r := s.fetchWords n
  r.2.wr .CAPTURE_BUF 0 (dataOf ((1, r.1.length) :: r.1.map (fun w => (8, w.toNat))))

end Sys2Proof.Machine
end

