-- ==== Sys2Proof/Machine/Requests.lean ====
section
/-! DEFINITION. What the writes to the mode objects ask for (R314–R316, R324–R326): their checks, and what is then pending until the next
mark. -/
namespace Sys2Proof.Machine

/-- The values of MODE_REQUEST. -/
def modeValues : List Nat := [2, 3, 4, 5, 9, 10, 11]

/-- Whether R315 has a row for a request `v` from mode `m`. -/
def modeRow (m v : Nat) : Bool :=
  match v with
  | 2 => [3, 4, 5, 6, 8, 9, 11].contains m
  | 3 => [2, 4].contains m
  | 4 => [2, 3, 5, 6, 8, 9, 11].contains m
  | 5 => [4, 9].contains m
  | 9 => [4, 5, 6, 7, 8, 11].contains m
  | 10 => 2 ≤ m && m ≠ 10
  | 11 => [4, 5, 6, 8].contains m
  | _ => false

/-- Whether `v` is the present mode (R314). -/
def isPresent (m v : Nat) : Bool := v = m || (v = 5 && m = 6)

/-- Whether a mode change is pending. -/
def State.modePending (s : State) : Bool :=
  s.rd .modeReq 0 ≠ 0 || s.rd .tripPending 0 ≠ 0 || s.rd .lockoutPending 0 ≠ 0 || s.rd .clearPending 0 ≠ 0 || s.rd .resetDue 0 ≠ 0

/-- Whether a TRIP cause keeps the module in SAFE (R324). -/
def State.tripHolds (s : State) : Bool := s.tripPresent || decide (s.rdN .BUS_VM 0 < 1650) || decide (6400 < s.rdN .BUS_VM 0)

/-- Whether an axis in CHOPPING had an increment other than 0 applied at the latest mark (R324). -/
def State.safeMoves (s : State) : Bool :=
  (List.range 64).any (fun n => s.driveOf n = 1 && s.rd .ANGLE_INC n ≠ 0)

/-- The condition in the row of R315 for a request `v`, as its result code. -/
def State.modeCondition (s : State) (v : Nat) : Nat :=
  if v = 4 && s.rd .planPlaced 0 = 0 then 7
  else if v = 11 && (List.range 64).any (fun n => [2, 3, 4].contains (s.rdN .AXIS_STATE n)) then 7
  else if s.mode = 9 && [2, 4, 5].contains v && s.tripHolds then 8
  else if s.mode = 9 && v = 5 && s.safeMoves then 8
  else 0

/-- The checks of a write to MODE_REQUEST (R314, R325). -/
def State.modeCode (s : State) (v : Nat) : Nat :=
  let m := s.mode
  if m ≤ 1 || m = 10 then 4
  else if modeValues.contains v && !isPresent m v && !modeRow m v then 4
  else if s.rd .commitRun 0 = 1 || s.rd .SWAP_STATE 0 ≠ 0 || s.modePending ||
      (m = 4 && s.rd .ARM_STATE 0 = 0 && v ≠ 9 && v ≠ 10) then 7
  else if !modeValues.contains v then 5
  else if isPresent m v then 0
  else s.modeCondition v

/-- An accepted MODE_REQUEST, and whether its reply waits for the mark (R314): 9 posts the TRIP record that leads to SAFE (R323), 10 sets
the lockout flag before its mark (R325). -/
def State.askMode (s : State) (v : Nat) : State × Bool :=
  if isPresent s.mode v then (s, false)
  else
    match v with
    | 9 =>
      let s := s.detect s.blkSteward 3
      (s.iff (s.rd .tripPending 0 = 0) (fun s => ((s.wr .tripPending 0 2).wr .tripFrom 0 s.now).wr .aliveStop 0 1), true)
    | 10 => ((s.flashLockout true).wr .lockoutPending 0 2, true)
    | _ => (s.wr .modeReq 0 v, true)

/-- An accepted RESET_REQUEST (R316). -/
def State.askReset (s : State) : State := (s.wr .resetDue 0 (s.now + 1 : Nat)).wr .resetSent 0 0

/-- LOCKOUT_CLEAR written 0x01 (R326): its check, and its effect in LOCKOUT. -/
def State.clearCode (s : State) : Nat := if s.mode = 10 && s.tripPresent then 8 else 0

/-- An accepted LOCKOUT_CLEAR: outside LOCKOUT it has no effect. -/
def State.askClear (s : State) : State :=
  if s.mode ≠ 10 || s.rd .clearPending 0 = 1 then s
  else ((s.flashLockout false).detect s.blkSteward 0x20).wr .clearPending 0 1

end Sys2Proof.Machine
end

