-- ==== Sys2Proof/Machine/Dictionary.lean ====
section
/-! DEFINITION. Writes to the dictionary (R2, R3, R29, R35): the checks of each object in the order of the ranks, what a write does, and
the host's operations. Every write, whichever row names it, goes through `writeCode` and `applyWrite`. -/
namespace Sys2Proof.Machine

-- W1C objects (R3, R36, R337)

/-- The causes of its block that stand for the bits of BRIDGE_FAULT, CV_EVENTS and CH_EVENTS (R337): (bit, cause). -/
def ownBits (r : Reg) : List (Nat × Nat) :=
  match r with
  | .BRIDGE_FAULT => [(0, 1), (1, 2), (2, 3), (3, 4), (4, 5), (5, 0x10), (6, 0x10), (7, 9), (10, 0x11)]
  | .CV_EVENTS => [(0, 0x10), (1, 0x20), (2, 0x11), (3, 2), (4, 1), (5, 0x12)]
  | .CH_EVENTS => [(0, 0x10), (1, 0x11), (2, 0x20), (3, 0x12), (5, 1)]
  | _ => []

/-- The block whose causes a W1C object of its own shows, and that object of a block. -/
def ownBlock (r : Reg) (i : Nat) : Nat :=
  match r with
  | .BRIDGE_FAULT => blkAxis i
  | .CV_EVENTS => blkCv i
  | _ => blkFb i

/-- The W1C object of its own that block `b` keeps, with its number. -/
def blockOwn (b : Nat) : Option (Reg × Nat) :=
  if 0x80 ≤ b then some (.BRIDGE_FAULT, b - 0x80)
  else if 0x30 ≤ b ∧ b < 0x40 then some (.CV_EVENTS, b - 0x30)
  else if 0x40 ≤ b ∧ b < 0x50 then some (.CH_EVENTS, b - 0x40)
  else none

/-- The causes of the bits of mask `m`, and the bits of the causes of mask `m`. -/
def bitsToCauses (r : Reg) (m : Nat) : Nat := (ownBits r).foldl (fun a p => if m.testBit p.1 then a ||| 2 ^ p.2 else a) 0
def causesToBits (r : Reg) (m : Nat) : Nat := (ownBits r).foldl (fun a p => if m.testBit p.2 then a ||| 2 ^ p.1 else a) 0

/-- Bits of a W1C object whose cause persists (R3). -/
def State.heldBits (s : State) (r : Reg) (i : Nat) : Nat :=
  match r with
  | .AXIS_EVENTS =>
    (if s.rd .DEFERRED i ≠ 0 then 4 else 0) + (if s.rd .AXIS_STATE i = 6 then 128 else 0) +
      (if s.rd .END_CAUSE i = 4 ∨ s.rd .END_CAUSE i = 5 then 256 else 0)
  | .BRIDGE_FAULT => s.bridgeHeld i
  | .CV_EVENTS => causesToBits .CV_EVENTS (s.rdN .CAUSES_PRESENT (blkCv i))
  | .CH_EVENTS => causesToBits .CH_EVENTS (s.rdN .CAUSES_PRESENT (blkFb i))
  | .CAUSES_LATCHED => s.rdN .CAUSES_PRESENT i
  | _ => 0

/-- What follows the clearing of LINE_FAULT (R170) and of DUAL_RAIL (R348). -/
def State.afterClear (s : State) (r : Reg) (i m : Nat) : State :=
  if r = .CH_EVENTS then (if m.testBit 5 && s.bit .CH_FLAGS i 3 then s.wr .chFreePend i 1 else s)
  else if r = .CAUSES_LATCHED then
    if 0x20 ≤ i ∧ i < 0x28 ∧ m.testBit 8 then
      let k := i - 0x20
      let s := s.wr .RAIL_STATE 0 (s.rdN .RAIL_STATE 0 - bitsOf (s.rdN .RAIL_STATE 0) (4 * k + 3) (4 * k) * 2 ^ (4 * k) : Nat)
      if (List.range 8).any (fun j => s.bit .CAUSES_LATCHED (blkDie j) 8) then s else s.setRed 15 false
    else s
  else s

/-- A W1C write of mask `m` that is not refused (R3, R36, R337). -/
def State.clearBits (s : State) (r : Reg) (i m : Nat) : State :=
  let s := s.lower r i m
  if r = .BRIDGE_FAULT ∨ r = .CV_EVENTS ∨ r = .CH_EVENTS then
    (s.lower .CAUSES_LATCHED (ownBlock r i) (bitsToCauses r m)).afterClear r i m
  else if r = .CAUSES_LATCHED then
    let s := s.afterClear .CAUSES_LATCHED i m
    match blockOwn i with
    | some (o, j) => (s.lower o j (causesToBits o m)).afterClear o j (causesToBits o m)
    | none => s
  else s

-- rank 7: the mode

/-- Modes in which diagnostics are accepted (R159). -/
def diagModes : List Nat := [2, 3, 4, 5, 6, 7, 8, 9, 11]

/-- The mode restrictions in the objects' own tables, for a write of `v` to register `i` (rank 7 of R35). -/
def State.modeRefused (s : State) (r : Reg) (i : Nat) (v : Int) : Bool :=
  match r with
  | .TARGET => !s.motionMode
  | .SET_POSITION => s.mode = 9
  | .FOLLOW_CTRL => v = 1 && !s.motionMode
  | .LEARN_START => v = 1 && !s.inMode [5, 6]
  | .DRIVE_CTRL => v = 1 && !s.motionMode
  | .REARM => !s.bridgeMode
  | .DIAG_START | .DIAG_ALL => !s.inMode diagModes
  | .DIRECT_MODE => v = 1 && s.mode ≠ 3
  | .DIRECT_FIRE => s.rd .DRIVE_STATE i ≠ 4
  | .CAL_CONV | .CAL_GAIN | .CAL_SOURCE | .CAL_INPUT | .CAL_EXPECT_ZERO | .CAL_EXPECT_FS | .CAL_POINT | .CAL_STORE => s.mode ≠ 3
  | .URGENT_REQ => s.rd .CV_MODE i = 0
  | .MODE_REQUEST => s.modeCode v.toNat = 4
  | .ENGINE_CLEAR => s.engineClearCode v.toNat = 4
  | .SWAP_START => s.swapCode v.toNat = 4
  | _ => false

-- rank 8: busy

/-- Whether the active record of axis `n` is one of `l`. -/
def State.activeIn (s : State) (n : Nat) (l : List Nat) : Bool :=
  match (s.planner n).act with
  | some m => l.contains m.kind
  | none => false

/-- Whether a write is refused because its object is busy (rank 8 of R35). -/
def State.busy (s : State) (o : Obj) (i : Nat) (v : Int) : Bool :=
  (0x8070 ≤ o.base && o.base ≤ 0x807F && o.reg ≠ .DIAG_START && s.rd .DRIVE_STATE (i / o.nsub) = 5) ||
  match o.reg with
  | .STAGE_DISCARD => s.rd .commitRun 0 = 1
  | .TARGET => [3, 4, 5, 6, 7].contains (s.rdN .AXIS_STATE i) || s.activeIn i [4, 5, 8, 9]
  | .SET_POSITION => [2, 3, 4].contains (s.rdN .AXIS_STATE i) || (s.planner i).act.isSome || s.rd .relWait i ≠ 0
  | .MOVE_PUSH | .MAIL_PUSH => s.rd .HELD (if o.reg = .MOVE_PUSH then i else 76 + i) = 1
  | .FOLLOW_CTRL => v = 1 && [4, 5, 6, 7].contains (s.rdN .AXIS_STATE i)
  | .LEARN_START =>
    v = 1 && (s.rd .lnOn i ≠ 0 || !([0, 1].contains (s.rdN .AXIS_STATE i)) || (s.planner i).act.isSome || s.rd .relWait i ≠ 0 ||
      s.rd .ADAPT_SETTLED i = 0)
  | .DRIVE_CTRL => v = 1 && (s.rd .AXIS_STATE i = 6 || s.driveOf i = 4 || s.driveOf i = 5 || s.diagBusy i)
  | .REARM => s.driveOf i = 5 || s.diagBusy i
  | .DIAG_START => !s.diagBusy i && [1, 2, 3, 4].contains (s.rdN .DRIVE_STATE i)
  | .DIRECT_MODE => v = 1 && (s.rd .AXIS_STATE i ≠ 7 || s.rd .DRIVE_STATE i ≠ 0)
  | .DIRECT_FIRE => s.rd .pulseEnd i ≠ 0 || s.rd .firePend i = 1
  | .CV_RESTART => s.rd .CV_STATE i ≠ 3
  | .CAL_POINT | .CAL_STORE => s.rd .calBusy 0 ≠ 0
  | .URGENT_REQ => s.urgentCode i v.toNat = 7
  | .INJECT_ARM => s.injectCode = 7
  | .IMAGE_SEL => s.imageBusy v.toNat
  | .IMAGE_OFFSET => s.imageBusy (s.rdN .IMAGE_SEL 0)
  | .IMAGE_CHUNK => s.chunkCode = 7
  | .IMAGE_CLOSE => s.closeCode v.toNat = 7
  | .IMAGE_ERASE => s.imageBusy v.toNat
  | .MODE_REQUEST => s.modeCode v.toNat = 7
  | .ENGINE_CLEAR => s.engineClearCode v.toNat = 7
  | .SWAP_START => s.swapCode v.toNat = 7
  | _ => false

-- rank 9: range

/-- The records of a MOVE_PUSH (R66): 32-byte places, with zeros after the last record. -/
def pushWords (bs : List Byte) : List (List Word64) :=
  (List.range 4).map (fun k => (List.range 4).map (fun j => BitVec.ofNat 64 (leNat (slice bs (32 * k + 8 * j) 8))))

/-- The records of a MOVE_PUSH before its filler. -/
def pushRecords (bs : List Byte) : List (List Word64) := (pushWords bs).takeWhile (fun ws => !ws.all (fun w => w = 0))

/-- Whether the places of a MOVE_PUSH are one to four records followed by filler (R66). -/
def State.pushOk (s : State) (bs : List Byte) : Bool :=
  let rs := pushRecords bs
  !rs.isEmpty && rs.all s.recordOk && ((pushWords bs).drop rs.length).all (fun ws => ws.all (fun w => w = 0))

/-- Whether CMD_POS and LEARN_EXCURSION stay within the soft limits, and the learning speeds in their range (R123). -/
def State.learnOk (s : State) (n : Nat) : Bool :=
  let vs := (s.learnPoints n).map (fun k => s.rdN .LEARN_SPEED (8 * n + k))
  let d : Int := (if s.rd .LEARN_FIRST n = 0 then 1 else -1) * s.excursion n
  let x := s.rd .CMD_POS n + d
  !vs.isEmpty && vs.all (fun v => decide (s.rdN .LI_LOW_MIN_SPEED n ≤ v ∧ v ≤ s.rdN .VMAX n)) &&
  decide (s.rd .SOFT_MIN n ≤ x ∧ x ≤ s.rd .SOFT_MAX n)

/-- Whether a write is refused with 0x05 (rank 9 of R35): the type, the Range column, and what the object's rule adds. -/
def State.outOfRange (s : State) (o : Obj) (i : Nat) (bs : List Byte) : Bool :=
  let v := o.ty.value bs
  !o.ty.accepts bs || !o.takes v ||
  match o.reg with
  | .ACK_ORDINAL | .LOG_SEEN => decide (v < s.rd o.reg 0 ∨ s.rd .NEWEST_ORDINAL 0 < v)
  | .LOW_MARK => decide (s.rd .QUEUE_RECORDS i < v)
  | .SOURCE_NUM | .EM_NUM_SRC | .INDEX_REF | .SYNC_PHASE => !linkedRange o.reg i v (s.candidate (linkedTo o.reg) i)
  | .LEARN_SPEED => v ≠ 0 && !decide (s.rd .LI_LOW_MIN_SPEED (i / 8) ≤ v ∧ v ≤ s.rd .VMAX (i / 8))
  | .MOVE_PUSH => !s.pushOk bs
  | .MAIL_PUSH => (mailPacket bs).isNone
  | .FOLLOW_CTRL => v = 1 && s.rd .FOLLOW_SOURCE i = 0
  | .LEARN_START => v = 1 && !s.learnOk i
  | .DRIVE_CTRL => v = 1 && s.rd .AXIS_USE i = 0
  | .DIAG_START => s.rd .AXIS_USE i = 0
  | .URGENT_REQ => s.urgentCode i v.toNat = 5
  | .INJECT_ARM => s.injectCode = 5
  | .IMAGE_OFFSET => v % 1024 ≠ 0
  | .IMAGE_CHUNK => s.chunkCode = 5
  | .IMAGE_CLOSE => s.closeCode v.toNat = 5
  | .MODE_REQUEST => s.modeCode v.toNat = 5
  | .ENGINE_CLEAR => s.engineClearCode v.toNat = 5
  | .SWAP_START => s.swapCode v.toNat = 5
  | _ => false

-- ranks 10 and 11

/-- Whether a write is refused with 0x08 (rank 10 of R35, and the rows of R145, R156, R314 and R326 that give it). -/
def State.causeHolds (s : State) (r : Reg) (i : Nat) (v : Int) : Bool :=
  match r with
  | .AXIS_EVENTS | .BRIDGE_FAULT | .CV_EVENTS | .CH_EVENTS | .CAUSES_LATCHED => (v.toNat &&& s.heldBits r i) ≠ 0
  | .DRIVE_CTRL => v = 1 && s.driveBlock i ≠ 0
  | .REARM => s.rd .AXIS_STATE i = 6 && s.rearmBlock i
  | .MODE_REQUEST => s.modeCode v.toNat = 8
  | .LOCKOUT_CLEAR => s.clearCode = 8
  | _ => false

/-- Whether a push does not fit its queue (rank 11 of R35). -/
def State.queueFull (s : State) (r : Reg) (i : Nat) (bs : List Byte) : Bool :=
  match r with
  | .MOVE_PUSH => s.qVoided i || decide (s.capacity i < (s.queue i).depth + 4 * (pushRecords bs).length)
  | .MAIL_PUSH => (s.mailPush i bs).1 = 0x0D
  | _ => false

/-- The result code of a write of `bs` to an address (R35, ranks 3 to 11); 0 where it is accepted. -/
def State.writeCode (s : State) (idx sub : Nat) (bs : List Byte) : Nat :=
  match s.look idx sub with
  | .bad c => c
  | .top _ => 3
  | .obj o i =>
    let v := o.ty.value bs
    if o.acc = .ro then 3
    else if bs.length ≠ o.ty.size then 6
    else if (o.acc = .rwc && s.mode ≠ 2) || s.modeRefused o.reg i v then 4
    else if (o.acc = .rwc && (s.rd .commitRun 0 = 1 ||
        (decide (8192 ≤ s.staged.length) && (tget none s.staged (o.reg.key i)).isNone))) || s.busy o i v then 7
    else if s.outOfRange o i bs then 5
    else if s.causeHolds o.reg i v then 8
    else if s.queueFull o.reg i bs then 0x0D
    else 0

-- what a write does

/-- A limit object written: the next profile step sees it (R52, R53). -/
def State.limitWrite (s : State) (r : Reg) (n b : Nat) (v : Int) : State :=
  ((s.wr r n v).wrBit .limNew n b true).wr .limAt (4 * n + b) s.now

/-- QUEUE_FLUSH (R62, R75): in the profile step in which a record may be taken, else at once. -/
def State.askFlush (s : State) (n : Nat) : State :=
  if s.motionMode && decide (s.rd .AXIS_STATE n ≤ 2) then (s.wr .flushPend n 1).wr .flushAt n s.now else s.flushQueue n

/-- Records pushed through MOVE_PUSH (R66). -/
def State.pushMoves (s : State) (n : Nat) (rs : List (List Word64)) : State :=
  (rs.foldl (fun (s : State) ws => (s.push n (.words ws)).1) s).pollWaits

/-- FOLLOW_CTRL written (R81, R89, R90). A write of 0x00 to an axis that is not yet in FOLLOW drops an engagement that waits for its mark (log
entry 159). -/
def State.followWrite (s : State) (n : Nat) (v : Int) : State :=
  if v = 1 then (if s.rd .AXIS_STATE n = 3 then s else s.wr .followPend n 1)
  else if s.rd .FOLLOW_STATE n = 0 then (s.wr .END_CAUSE n 0).wr .followPend n 0
  else (s.wr .discPend n 1).wr .discAt n s.now

/-- DIRECT_MODE written (R164): a write of 0x00 ends a pulse at once. -/
def State.directWrite (s : State) (n : Nat) (v : Int) : State :=
  let s := s.wr .DIRECT_MODE n v
  if v = 1 then s.wr .directPend n 1 else (((s.wr .directPend n 2).wr .pulseEnd n 0).wr .firePend n 0).switchAt n s.ckp

/-- CAL_STORE (R206): all 64 pairs written to both banks, which from then on are stored pairs. -/
def State.calStore (s : State) : State :=
  let s := s.forAll 64 (fun s i => s.wr .calHas i 1)
  let cal : Tbl Int := s.regs.filter (fun (p : Nat × Int) =>
    decide ((keyReg p.1).1 = .CAL_OFS ∨ (keyReg p.1).1 = .CAL_GAIN_FACTOR ∨ (keyReg p.1).1 = .calHas))
  (s.forList s.goodBanks (fun s b => s.wrFlash b { s.flashOf b with cal := cal })).flashWarn

/-- The trace begins with a TIME record (R375). -/
def State.traceTime (s : State) : State := s.trace 0 (s.now / 2 ^ 28)

/-- What an accepted write of `bs` to register `i` of `o` does; true where its reply waits for the operation to end. -/
def State.applyWrite (s : State) (o : Obj) (i : Nat) (bs : List Byte) : State × Bool :=
  let v := o.ty.value bs
  if o.acc = .rwc then ({ s with staged := tset none s.staged (o.reg.key i) (some v) }, false)
  else if o.acc = .w1c then (s.clearBits o.reg i v.toNat, false)
  else
    if o.reg = .STAGE_DISCARD then ({ s with staged := [] }, false)
    else if o.reg = .ACK_ORDINAL then ((s.wr .ACK_ORDINAL 0 v).releaseHead, false)
    else if o.reg = .VMAX then (s.limitWrite .VMAX i 0 v, false)
    else if o.reg = .AMAX then (s.limitWrite .AMAX i 1 v, false)
    else if o.reg = .DMAX then (s.limitWrite .DMAX i 2 v, false)
    else if o.reg = .JMAX then (s.limitWrite .JMAX i 3 v, false)
    else if o.reg = .TARGET then (((s.wr .tgtPend i 1).wr .tgtVal i v).wr .tgtAt i s.now, false)
    else if o.reg = .STOP then ((s.wr .stopPend i v).wr .stopAt i s.now, false)
    else if o.reg = .SET_POSITION then ((s.wr .setPend i 1).wr .setVal i v, false)
    else if o.reg = .MOVE_PUSH then (s.pushMoves i (pushRecords bs), false)
    else if o.reg = .QUEUE_FLUSH then (s.askFlush i, false)
    else if o.reg = .FOLLOW_CTRL then (s.followWrite i v, false)
    else if o.reg = .ADAPT_ENABLE then
      ((s.iff (s.rd .ADAPT_ENABLE i = 0 && v = 1) (fun s => s.wr .adReset i 1)).wr .ADAPT_ENABLE i v, false)
    else if o.reg = .ADAPT_RESET then (s.wr .adReset i 1, false)
    else if o.reg = .LEARN_START then (if v = 1 then s.learnAsk i else if s.rd .lnOn i = 0 then s else s.learnEnd i 3, false)
    else if o.reg = .STALL_RELEASE then (if s.rd .AXIS_STATE i = 5 then s.wr .stallRel i 1 else s, false)
    else if o.reg = .DRIVE_CTRL then (if v = 1 then s.askDrive i else s.askDisable i, false)
    else if o.reg = .REARM then (if s.rd .AXIS_STATE i = 6 then s.wr .rearmPend i 1 else s, false)
    else if o.reg = .DIAG_START then (s.queueDiag i, false)
    else if o.reg = .DIAG_ALL then (s.forAll 64 State.queueDiag, false)
    else if o.reg = .DIRECT_MODE then (s.directWrite i v, false)
    else if o.reg = .DIRECT_FIRE then (s.wr .firePend i 1, false)
    else if o.reg = .CH_PRESET then ((s.wr .prePend i 1).wr .preVal i v, false)
    else if o.reg = .LATCH_SRC then (((s.wr .LATCH_SRC i v).armLatch i).checkSync, false)
    else if o.reg = .LATCH_AT then ((s.wr .LATCH_AT i v).latchTime i, false)
    else if o.reg = .DIRECT_PATTERN then ((s.wr .DIRECT_PATTERN i v).interlock i, false)
    else if o.reg = .FB_ALIGN then (s.wr .fbAlignPend i 1, false)
    else if o.reg = .URGENT_REQ then (s.askUrgent i v.toNat, false)
    else if o.reg = .CV_RESTART then (s.startSelfCheck i, false)
    else if o.reg = .CAL_POINT then (if v = 3 then s.calCompute else s.startPoint v.toNat, false)
    else if o.reg = .CAL_STORE then (s.calStore, false)
    else if o.reg = .TRACE_DEST then ((s.wr .TRACE_DEST 0 v).iff (s.rd .TRACE_DEST 0 = 0) State.traceTime, false)
    else if o.reg = .COUNTER_FREEZE then (s.forAll 256 (fun s k => s.wr .COUNTER_FROZEN k (s.rd .COUNTER k)), false)
    else if o.reg = .RELEASE then (s.releaseQueue i, false)
    else if o.reg = .MAIL_PUSH then ((s.mailPush i bs).2, false)
    else if o.reg = .CAPTURE_FETCH then (s.captureFetch v.toNat, false)
    else if o.reg = .INJECT_ARM then (s.injectArm, false)
    else if o.reg = .IMAGE_SEL then (s.imageSelect v.toNat, false)
    else if o.reg = .IMAGE_CHUNK then (s.takeChunk bs, false)
    else if o.reg = .IMAGE_CLOSE then (s.imageClose v.toNat, true)
    else if o.reg = .IMAGE_ERASE then (s.imageErase v.toNat, false)
    else if o.reg = .SWAP_START then (s.swapStart v.toNat, true)
    else if o.reg = .ENGINE_CLEAR then s.engineClear v.toNat
    else if o.reg = .MODE_REQUEST then s.askMode v.toNat
    else if o.reg = .RESET_REQUEST then (s.askReset, false)
    else if o.reg = .LOCKOUT_CLEAR then (s.askClear, false)
    else (s.wr o.reg i v, false)

/-- A push refused for want of room still counts in its queue (R266). -/
def State.noteFull (s : State) (o : Obj) (i : Nat) (code : Nat) : State :=
  if code ≠ 0x0D then s
  else if o.reg = .MOVE_PUSH then s.count .REFUSED i
  else if o.reg = .MAIL_PUSH then s.count .REFUSED (76 + i)
  else s

/-- One object written (R35): the code, whether the reply waits, and the state. -/
def State.writeOne (s : State) (idx sub : Nat) (bs : List Byte) : State × Answer :=
  match s.writeCode idx sub bs, s.objAt idx sub with
  | 0, some (o, i) =>
    match s.applyWrite o i bs with
    | (s, true) => (s, .later)
    | (s, false) => (s, .done 0 [])
  | c, some (o, i) => (s.noteFull o i c, .done c [])
  | c, none => (s, .done c [])

/-- The values of a WRITE_BLOCK (R25), one for each consecutive subindex, each in the size of its type; the last takes what is left, so that
a block that does not end on a value boundary fails there with its length. -/
def State.cut (s : State) (idx : Nat) : Nat → Nat → List Byte → List (Nat × List Byte)
  | 0, _, _ => []
  | _ + 1, _, [] => []
  | f + 1, sub, bs =>
    match s.look idx sub with
    | .obj o _ => (sub, bs.take o.ty.size) :: State.cut s idx f (sub + 1) (bs.drop o.ty.size)
    | _ => [(sub, bs)]

/-- The values of a block written in turn, each on the state that those before it leave. `s0` is the state before the block, to which the first
refused one returns: nothing of the block is applied then (R25), and a push refused for want of room still counts. -/
def State.writeAll (s0 : State) (idx : Nat) : List (Nat × List Byte) → State → State × Answer
  | [], s => (s, .done 0 [])
  | p :: l, s =>
    match s.writeOne idx p.1 p.2 with
    | (s1, .done 0 _) => State.writeAll s0 idx l s1
    | (s1, .later) =>
      match State.writeAll s0 idx l s1 with
      | (s2, .done 0 _) => (s2, .later)
      | r => r
    | (_, .done c _) => (match s0.objAt idx p.1 with | some (o, i) => s0.noteFull o i c | none => s0, .done c [])

/-- A WRITE_BLOCK: all of it or nothing (R5, R25). The length limit of R286 concerns the frame as a whole and is tested first. -/
def State.writeMany (s : State) (idx sub : Nat) (bs : List Byte) : State × Answer :=
  if bs.isEmpty || decide (1024 < bs.length) then (s, .done 6 [])
  else s.writeAll idx (s.cut idx (bs.length + 1) sub bs) s

-- the host's operations

/-- A WRITE of a host (R286). -/
def State.hostWrite (s : State) (h : Hdr) (idx sub : Nat) (bs : List Byte) : State :=
  s.transact h opWrite idx sub bs (fun s => s.writeOne idx sub bs)

/-- A WRITE of one byte. -/
def State.hostByte (s : State) (h : Hdr) (idx sub v : Nat) : State := s.hostWrite h idx sub (leBytes 1 v)

/-- The index of offset `o` of axis `n` (R27). -/
def axisIdx (o n : Nat) : Nat := 0x8000 + 0x100 * n + o

/-- WRITE_BLOCK (R25). -/
def execWriteBlock (h : Hdr) (index sub : Nat) (data : List Byte) (s : State) : Host.Outcome State Fault Refusal :=
  .next (s.transact h opWriteBlock index sub data (fun s => s.writeMany index sub data))

/-- REGISTER_WRITE (R3): a WRITE, whatever the object. -/
def execRegisterWrite (h : Hdr) (index sub : Nat) (data : List Byte) (s : State) : Host.Outcome State Fault Refusal :=
  .next (s.hostWrite h index sub data)

/-- RWC_WRITE (R29). -/
def execRwcWrite (h : Hdr) (index sub : Nat) (data : List Byte) (s : State) : Host.Outcome State Fault Refusal :=
  .next (s.hostWrite h index sub data)

/-- W1C_WRITE (R3, R36). -/
def execW1cWrite (h : Hdr) (index sub : Nat) (data : List Byte) (s : State) : Host.Outcome State Fault Refusal :=
  .next (s.hostWrite h index sub data)

/-- STAGE_DISCARD (R30). -/
def execStageDiscard (h : Hdr) (v : Nat) (s : State) : Host.Outcome State Fault Refusal := .next (s.hostByte h 0x1030 4 v)

/-- ACK_ORDINAL (R39). -/
def execAckOrdinal (h : Hdr) (v : Nat) (s : State) : Host.Outcome State Fault Refusal := .next (s.hostWrite h 0x2001 1 (leBytes 4 v))

/-- LOG_SEEN (R39). -/
def execLogSeen (h : Hdr) (v : Nat) (s : State) : Host.Outcome State Fault Refusal := .next (s.hostWrite h 0x2001 2 (leBytes 4 v))

/-- TARGET (R51). -/
def execTarget (h : Hdr) (n : Fin 64) (v : Int) (s : State) : Host.Outcome State Fault Refusal :=
  .next (s.hostWrite h (axisIdx 0x14 n) 1 (leBytes 8 (unsigned 64 v)))

/-- STOP (R60). -/
def execStop (h : Hdr) (n : Fin 64) (s : State) : Host.Outcome State Fault Refusal := .next (s.hostByte h (axisIdx 0x15 n) 1 1)

/-- STOP_FLUSH (R60). -/
def execStopFlush (h : Hdr) (n : Fin 64) (s : State) : Host.Outcome State Fault Refusal := .next (s.hostByte h (axisIdx 0x15 n) 1 2)

/-- SET_POSITION (R61). -/
def execSetPosition (h : Hdr) (n : Fin 64) (v : Int) (s : State) : Host.Outcome State Fault Refusal :=
  .next (s.hostWrite h (axisIdx 0x1C n) 1 (leBytes 8 (unsigned 64 v)))

/-- MOVE_PUSH (R66): the words of one to four records, and zeros after them. -/
def execMovePush (h : Hdr) (n : Fin 64) (ws : List Word64) (s : State) : Host.Outcome State Fault Refusal :=
  .next (s.hostWrite h (axisIdx 0x13 n) 1
    ((ws ++ List.replicate (16 - ws.length) 0).flatMap (fun (w : Word64) => leBytes 8 w.toNat)))

/-- QUEUE_FLUSH (R62, R75). -/
def execQueueFlush (h : Hdr) (n : Fin 64) (s : State) : Host.Outcome State Fault Refusal := .next (s.hostByte h (axisIdx 0x13 n) 2 1)

/-- LIMIT_CHANGE (R52, R53): VMAX, AMAX, DMAX or JMAX. -/
def execLimitChange (h : Hdr) (n : Fin 64) (which : Fin 4) (v : Nat) (s : State) : Host.Outcome State Fault Refusal :=
  .next (s.hostWrite h (axisIdx 0x10 n) (which + 1) (leBytes 4 v))

/-- LOW_MARK (R70). -/
def execLowMark (h : Hdr) (n : Fin 64) (v : Nat) (s : State) : Host.Outcome State Fault Refusal :=
  .next (s.hostWrite h (axisIdx 0x12 n) 2 (leBytes 2 v))

/-- FOLLOW_ENGAGE (R81). -/
def execFollowEngage (h : Hdr) (n : Fin 64) (s : State) : Host.Outcome State Fault Refusal := .next (s.hostByte h (axisIdx 0x32 n) 2 1)

/-- FOLLOW_DISENGAGE (R89). -/
def execFollowDisengage (h : Hdr) (n : Fin 64) (s : State) : Host.Outcome State Fault Refusal := .next (s.hostByte h (axisIdx 0x32 n) 2 0)

/-- RATIO_CHANGE (R80): RATIO_NUM, or RATIO_DEN. -/
def execRatioChange (h : Hdr) (n : Fin 64) (den : Bool) (v : Int) (s : State) : Host.Outcome State Fault Refusal :=
  .next (s.hostWrite h (axisIdx 0x31 n) (if den then 2 else 1) (leBytes 4 (unsigned 32 v)))

/-- ADAPT_RESET (R110). -/
def execAdaptReset (h : Hdr) (n : Fin 64) (s : State) : Host.Outcome State Fault Refusal := .next (s.hostByte h (axisIdx 0x47 n) 5 1)

/-- ADAPT_ENABLE (R110). -/
def execAdaptEnable (h : Hdr) (n : Fin 64) (v : Nat) (s : State) : Host.Outcome State Fault Refusal :=
  .next (s.hostByte h (axisIdx 0x47 n) 1 v)

/-- LEARN_START (R123). -/
def execLearnStart (h : Hdr) (n : Fin 64) (s : State) : Host.Outcome State Fault Refusal := .next (s.hostByte h (axisIdx 0x62 n) 12 1)

/-- LEARN_ABORT (R123, R124). -/
def execLearnAbort (h : Hdr) (n : Fin 64) (s : State) : Host.Outcome State Fault Refusal := .next (s.hostByte h (axisIdx 0x62 n) 12 0)

/-- STALL_RELEASE (R129). -/
def execStallRelease (h : Hdr) (n : Fin 64) (s : State) : Host.Outcome State Fault Refusal := .next (s.hostByte h (axisIdx 0x65 n) 6 1)

/-- DRIVE_ENABLE (R145). -/
def execDriveEnable (h : Hdr) (n : Fin 64) (s : State) : Host.Outcome State Fault Refusal := .next (s.hostByte h (axisIdx 0x70 n) 2 1)

/-- DRIVE_DISABLE (R146). -/
def execDriveDisable (h : Hdr) (n : Fin 64) (s : State) : Host.Outcome State Fault Refusal := .next (s.hostByte h (axisIdx 0x70 n) 2 0)

/-- REARM (R156). -/
def execRearm (h : Hdr) (n : Fin 64) (s : State) : Host.Outcome State Fault Refusal := .next (s.hostByte h (axisIdx 0x76 n) 1 1)

/-- DIAG_START (R159). -/
def execDiagStart (h : Hdr) (n : Fin 64) (s : State) : Host.Outcome State Fault Refusal := .next (s.hostByte h (axisIdx 0x74 n) 1 1)

/-- DIAG_ALL (R159). -/
def execDiagAll (h : Hdr) (s : State) : Host.Outcome State Fault Refusal := .next (s.hostByte h 0x1078 2 1)

/-- DIRECT_MODE_ENTER (R164). -/
def execDirectModeEnter (h : Hdr) (n : Fin 64) (s : State) : Host.Outcome State Fault Refusal := .next (s.hostByte h (axisIdx 0x75 n) 1 1)

/-- DIRECT_MODE_EXIT (R164). -/
def execDirectModeExit (h : Hdr) (n : Fin 64) (s : State) : Host.Outcome State Fault Refusal := .next (s.hostByte h (axisIdx 0x75 n) 1 0)

/-- DIRECT_FIRE (R164). -/
def execDirectFire (h : Hdr) (n : Fin 64) (s : State) : Host.Outcome State Fault Refusal := .next (s.hostByte h (axisIdx 0x75 n) 4 1)

/-- CH_PRESET (R177). -/
def execChPreset (h : Hdr) (c : Fin 16) (v : Int) (s : State) : Host.Outcome State Fault Refusal :=
  .next (s.hostWrite h (0x4000 + c) 0x1B (leBytes 8 (unsigned 64 v)))

/-- FB_ALIGN (R180). -/
def execFbAlign (h : Hdr) (n : Fin 64) (s : State) : Host.Outcome State Fault Refusal := .next (s.hostByte h (axisIdx 0x81 n) 6 1)

/-- LATCH_SRC (R179). -/
def execLatchSrc (h : Hdr) (c : Fin 16) (v : Nat) (s : State) : Host.Outcome State Fault Refusal := .next (s.hostByte h (0x4000 + c) 0x17 v)

/-- URGENT_REQ (R197). -/
def execUrgentReq (h : Hdr) (c : Fin 16) (v : Nat) (s : State) : Host.Outcome State Fault Refusal := .next (s.hostByte h (0x3100 + c) 0x1C v)

/-- CV_RESTART (R203). -/
def execCvRestart (h : Hdr) (c : Fin 16) (s : State) : Host.Outcome State Fault Refusal := .next (s.hostByte h (0x3100 + c) 0x20 1)

/-- CAL_ZERO_POINT (R205). -/
def execCalZeroPoint (h : Hdr) (s : State) : Host.Outcome State Fault Refusal := .next (s.hostByte h 0x3400 7 1)

/-- CAL_FULL_POINT (R205). -/
def execCalFullPoint (h : Hdr) (s : State) : Host.Outcome State Fault Refusal := .next (s.hostByte h 0x3400 7 2)

/-- CAL_COMPUTE (R205). -/
def execCalCompute (h : Hdr) (s : State) : Host.Outcome State Fault Refusal := .next (s.hostByte h 0x3400 7 3)

/-- CAL_STORE (R206). -/
def execCalStore (h : Hdr) (s : State) : Host.Outcome State Fault Refusal := .next (s.hostByte h 0x3400 0x0A 1)

/-- IMAGE_SEL (R257). -/
def execImageSel (h : Hdr) (v : Nat) (s : State) : Host.Outcome State Fault Refusal := .next (s.hostByte h 0x6000 1 v)

/-- IMAGE_OFFSET (R257). -/
def execImageOffset (h : Hdr) (v : Nat) (s : State) : Host.Outcome State Fault Refusal := .next (s.hostWrite h 0x6000 2 (leBytes 4 v))

/-- IMAGE_CHUNK (R257). -/
def execImageChunk (h : Hdr) (bytes : List Byte) (s : State) : Host.Outcome State Fault Refusal := .next (s.hostWrite h 0x6000 3 bytes)

/-- IMAGE_CLOSE (R257). -/
def execImageClose (h : Hdr) (len : Nat) (s : State) : Host.Outcome State Fault Refusal := .next (s.hostWrite h 0x6000 4 (leBytes 4 len))

/-- IMAGE_ERASE (R257). -/
def execImageErase (h : Hdr) (v : Nat) (s : State) : Host.Outcome State Fault Refusal := .next (s.hostByte h 0x6000 8 v)

/-- SWAP_START (R233). -/
def execSwapStart (h : Hdr) (v : Nat) (s : State) : Host.Outcome State Fault Refusal := .next (s.hostByte h 0x6808 1 v)

/-- ENGINE_CLEAR (R231). -/
def execEngineClear (h : Hdr) (v : Nat) (s : State) : Host.Outcome State Fault Refusal := .next (s.hostByte h 0x6803 9 v)

/-- RELEASE (R272). -/
def execRelease (h : Hdr) (q : Fin 80) (s : State) : Host.Outcome State Fault Refusal := .next (s.hostByte h (0x5000 + q) 0x0C 1)

/-- MAIL_PUSH (R277). -/
def execMailPush (h : Hdr) (m : Fin 4) (bytes : List Byte) (s : State) : Host.Outcome State Fault Refusal :=
  .next (s.hostWrite h (0x5200 + m) 1 bytes)

/-- CAPTURE_FETCH (R277). -/
def execCaptureFetch (h : Hdr) (v : Nat) (s : State) : Host.Outcome State Fault Refusal := .next (s.hostByte h 0x5300 1 v)

/-- INJECT_ARM (R350). -/
def execInjectArm (h : Hdr) (v : Nat) (s : State) : Host.Outcome State Fault Refusal := .next (s.hostByte h 0x2005 3 v)

/-- COUNTER_FREEZE (R378). -/
def execCounterFreeze (h : Hdr) (s : State) : Host.Outcome State Fault Refusal := .next (s.hostByte h 0x7300 1 1)

/-- LOCKOUT_CLEAR (R326). -/
def execLockoutClear (h : Hdr) (v : Nat) (s : State) : Host.Outcome State Fault Refusal := .next (s.hostByte h 0x1004 4 v)

/-- RESET_REQUEST (R316). -/
def execResetRequest (h : Hdr) (v : Nat) (s : State) : Host.Outcome State Fault Refusal := .next (s.hostByte h 0x1001 6 v)

/-- MODE_REQUEST of a host (R314). -/
def State.hostMode (s : State) (h : Hdr) (v : Nat) : State := s.hostByte h 0x1001 2 v

/-- MODE_REQUEST 2 (R315). -/
def execModeRequestConfigure (h : Hdr) (s : State) : Host.Outcome State Fault Refusal := .next (s.hostMode h 2)

/-- MODE_REQUEST 3 (R315). -/
def execModeRequestCalibrate (h : Hdr) (s : State) : Host.Outcome State Fault Refusal := .next (s.hostMode h 3)

/-- MODE_REQUEST 4 (R315, R319). -/
def execModeRequestArmed (h : Hdr) (s : State) : Host.Outcome State Fault Refusal := .next (s.hostMode h 4)

/-- MODE_REQUEST 5 (R315, R320). -/
def execModeRequestRun (h : Hdr) (s : State) : Host.Outcome State Fault Refusal := .next (s.hostMode h 5)

/-- MODE_REQUEST 9 (R315, R323). -/
def execModeRequestSafe (h : Hdr) (s : State) : Host.Outcome State Fault Refusal := .next (s.hostMode h 9)

/-- MODE_REQUEST 10 (R315, R325). -/
def execModeRequestLockout (h : Hdr) (s : State) : Host.Outcome State Fault Refusal := .next (s.hostMode h 10)

/-- MODE_REQUEST 11 (R315, R327). -/
def execModeRequestStandby (h : Hdr) (s : State) : Host.Outcome State Fault Refusal := .next (s.hostMode h 11)

end Sys2Proof.Machine
end

