-- ==== Sys2Proof/Machine/Modes.lean ====
section
/-! DEFINITION. The modes (R311–R331): reset and boot, what entering and leaving a mode does, arming, RUN, ISLAND, SAFE, LOCKOUT and STANDBY,
and the mark at which a plan swap completes (R234). -/
namespace Sys2Proof.Machine

-- entering a mode

/-- Whether bridges may be enabled in mode `m` (R144). -/
def isBridgeMode (m : Nat) : Bool := [5, 6, 7, 8, 9].contains m

/-- CALIBRATE is left: a point being measured is void, and its converter rejoins its mode (R205). -/
def State.leaveCalibrate (s : State) : State :=
  if s.rd .calBusy 0 = 0 then s else s.voidPoint.cvRejoin (s.rdN .calC 0)

/-- An axis that has just left OPEN at the present mark: its references, its choppers and its alignment (R104, R180). -/
def State.energise (s : State) (n : Nat) : State :=
  if s.rd .DRIVE_STATE n ≠ 1 then s
  else
    let s := (s.refMark n).startPhases n
    s.iff (s.rd .fbAlignPend n = 1) (fun s => s.alignFb n)

/-- RUN or RUN-DEGRADED entered from ARMED (R320). -/
def State.runFromArmed (s : State) : State :=
  let s := s.wr .islandFrom 0 s.now
  s.iff (s.rd .RUN_ENABLE 0 = 1) (fun s =>
    s.forAll 64 (fun s n => if s.rd .AXIS_USE n = 1 then (s.enableNow n).energise n else s))

/-- RUN or RUN-DEGRADED entered from SAFE (R324). -/
def State.runFromSafe (s : State) : State :=
  let s := s.wr .islandFrom 0 s.now
  s.forAll 64 (fun s n =>
    if s.driveOf n ≠ 1 then s
    else ((s.halt n).setAxis n 1).wr .STILL_PASSES n (min (s.rd .HOLD_DELAY n + s.rd .HOLD_RAMP n) (2 ^ 32 - 1)))

/-- Arming begins (R319). `auto` is set for ARMED entered by automatic wake. -/
def State.arm (s : State) (auto : Bool) : State :=
  let s := (s.wr .ARM_STATE 0 0).wr .armAuto 0 (ofBool auto)
  s.forAll 64 (fun s n => if s.rd .AXIS_STATE n = 6 then s else s.queueDiag n)

/-- SAFE is left at the present mark: the words of the trip programs no longer apply, and every angle holds (R251, R324). -/
def State.leaveSafe (s : State) : State :=
  s.forAll 64 (fun s n =>
    ((s.wr .ANGLE_INC n 0).wr .incShadow n 0).wrPlanner n { s.planner n with nxt := ⟨s.rd .posQ n, 0, 0, 0, 0⟩ })

/-- The module enters mode `m` at the present mark for cause `c` (R312, R313, R315): what every change does, then what the mode entered
asks for. SAFE has more to do in `safeEntry`. -/
def State.enter (s : State) (m c : Nat) : State :=
  let old := s.mode
  let s := ((s.setMode m c).wr .modeMark 0 (s.pass + 1)).wr .islandExp 0 0
  let s := (s.wr .contactPending 0 0).iff (m ≠ 9) (fun s => s.wr .islandInSwap 0 0)
  let s := (s.iff (old = 3) State.leaveCalibrate).iff (old = 9 && m ≠ 9) State.leaveSafe
  let s := s.iff (m ≠ 9 && m ≠ 10) (fun s => s.wr .aliveStop 0 0)
  let s := s.iff (!([5, 6, 7, 8].contains m)) (fun s => s.forAll 64 (fun s n => s.iff (s.following n) (fun s => s.wr .END_CAUSE n 6)))
  let s := s.iff (!isBridgeMode m) State.bridgesOff
  let s := s.iff (isBridgeMode m && !isBridgeMode old) State.busAtEntry
  match m with
  | 4 => s.arm (c = 11)
  | 5 | 6 => if old = 4 then s.runFromArmed else if old = 9 then s.runFromSafe else s
  | 10 => s.detect s.blkSteward 0x13
  | 11 => ((s.wr .STANDBY_ORIGIN 0 (if c = 10 then 2 else 1)).wr .wakeSince 0 0).detect s.blkSteward 0x21
  | _ => s

-- ISLAND

/-- ISLAND entered at the present mark (R321, R322); under ISLAND_ACTION 2 its TRIP is posted first (R338). -/
def State.enterIsland (s : State) : State :=
  let s := (s.enter 8 6).iff (s.rd .ISLAND_ACTION 0 = 2) (fun s => s.detect s.blkSteward 2)
  let s := ((s.detect s.blkSteward 0x12).count .ISLAND_COUNT 0).wr .islandMark 0 s.now
  s.iff (s.rd .ISLAND_ACTION 0 = 1) (fun s => s.forAll 64 (fun s n =>
    if [2, 3, 4].contains (s.rdN .AXIS_STATE n) then (s.wr .stopPend n 1).wr .stopAt n s.now else s))

/-- Whether the island timer has expired (R321): a contact in the cycle of expiry comes before it (R16), so that cycle must be over (log entry
147). -/
def State.islandDue (s : State) : Bool :=
  s.inMode [5, 6, 7] && s.rd .ISLAND_TIMEOUT 0 ≠ 0 &&
  (s.rd .islandExp 0 = 1 || decide (s.rdN .islandFrom 0 + 100000 * s.rdN .ISLAND_TIMEOUT 0 < s.now))

/-- ISLAND_TIMEOUT (R321): in SWAP the swap runs on. -/
def execIslandTimeout (s : State) : Host.Outcome State Fault Refusal :=
  .next (
    if s.modeFree && s.islandDue then
      (if s.mode = 7 then s.wr .islandInSwap 0 1 else s.enterIsland)
    else s)

/-- ISLAND_HOLD (R322): ISLAND_ACTION 3, and no contact within ISLAND_HOLD of the entry mark. -/
def execIslandHold (s : State) : Host.Outcome State Fault Refusal :=
  .next (
    if s.atMark && s.mode = 8 && s.rd .ISLAND_ACTION 0 = 3 && s.rd .contactPending 0 = 0 && s.rd .tripPending 0 = 0 &&
        decide (s.rdN .islandMark 0 + 100000 * s.rdN .ISLAND_HOLD 0 ≤ s.now) then
      s.detect s.blkSteward 2
    else s)

/-- SWAP_COMPLETE (R234): the mark at which the new plan becomes active, or at which a check has failed. Where the island timer expired
during the swap, ISLAND follows (R321). -/
def execSwapComplete (s : State) : Host.Outcome State Fault Refusal :=
  let island (s : State) : State := s.iff (s.rd .islandInSwap 0 = 1 && s.inMode [5, 6]) State.enterIsland
  .next (
    if s.atMark && s.rd .SWAP_STATE 0 ≠ 0 && (s.mode = 9 || (s.mode = 7 && decide (s.rdN .MODE_TIME 0 < s.now))) then
      match s.trySwap (s.rdN .swapImg 0) with
      | .inl x => island ((s.report x).endSwap x.code)
      | .inr (s, x) => island ((((s.adopt x).cfg 1).wr .SWAP_MARK 0 s.pass |>.report ⟨0, 0, 0, 0, 0⟩).endSwap 0)
    else s)

-- SAFE and LOCKOUT

/-- What the entry to SAFE does to axis `n` (R323): its record, its following and its motion end, and in the pass that begins it runs on
what was written before. -/
def State.safeAxis (s : State) (n : Nat) : State :=
  let x := s.rd .ANGLE_INC n
  let st := s.rdN .AXIS_STATE n
  let s := s.iff (s.rd .lnOn n ≠ 0) (fun s => s.learnEnd n 3)
  let s := s.iff (s.rd .FOLLOW_STATE n ≠ 0) (fun s => s.wr .END_CAUSE n 6)
  let s := if st < 5 then s.stopAxis n 1 else s
  (s.wr .ANGLE_INC n x).wr .incShadow n x

/-- The ledger words 24 and 25 of axis `n` hold the shadow values as SAFE begins, so that a word that its trip program does not write
stays in effect (R12, R251). -/
def State.safeWords (s : State) (n : Nat) : State :=
  let (x, s) := s.ledRead n 24
  let (y, s) := s.ledRead n 25
  (s.wrLed n 24 x).wrLed n 25 y

/-- The SAFE entries whose marks lie within TRIP_WINDOW of the present one (R325). -/
def State.recentSafes (s : State) : List Nat := s.safes.filter (fun t => decide (s.now < t + second * s.rdN .TRIP_WINDOW 0))

/-- SAFE entered at the present mark (R323). -/
def State.enterSafe (s : State) : State :=
  let s := s.forAll 64 State.safeWords
  let s := (s.enter 9 (s.rdN .tripPending 0)).forAll 64 State.safeAxis
  let s := (s.count .SAFE_COUNT 0).wr .tripPending 0 0
  { s with safes := s.now :: s.recentSafes }.finish 0x1001 2 0

/-- A SAFE entry that reaches TRIP_LIMIT leads to LOCKOUT at the mark after it (R325). -/
def State.tripLimit (s : State) : State :=
  if s.rdN .TRIP_LIMIT 0 ≠ 0 ∧ s.rdN .TRIP_LIMIT 0 ≤ s.safes.length then (s.flashLockout true).wr .lockoutPending 0 9 else s

/-- SAFE_ENTRY (R323): the first mark after the cycle of a TRIP record. -/
def execSafeEntry (s : State) : Host.Outcome State Fault Refusal :=
  .next (
    if s.atMark && !s.modeTaken && s.rd .lockoutPending 0 = 0 && s.rd .tripPending 0 ≠ 0 && decide (s.rdN .tripFrom 0 < s.now) &&
        tripModes.contains s.mode then s.enterSafe.tripLimit
    else s)

-- arming and running

/-- Whether automatic standby is due at the present mark (R327). -/
def State.standbyDue (s : State) : Bool :=
  s.rd .STANDBY_AUTO 0 = 1 && s.inMode [4, 9] && s.rd .standbySince 0 ≠ 0 &&
  decide (s.rdN .standbySince 0 + 100000 * s.rdN .STANDBY_DELAY 0 ≤ s.now + 1)

/-- ARMING_COMPLETE (R319): the first mark after the last arming diagnostic has ended. -/
def execArmingComplete (s : State) : Host.Outcome State Fault Refusal :=
  .next (
    if s.atMark && s.mode = 4 && s.rd .ARM_STATE 0 = 0 && decide (s.rdN .MODE_TIME 0 < s.now) &&
        (List.range 64).all (fun n => !s.diagBusy n && (s.rd .DIAG_TIME n = 0 || decide (s.rdN .DIAG_TIME n < s.now))) then
      (s.wr .ARM_STATE 0 1).wr .armAt 0 s.now
    else s)

/-- AUTO_RUN (R320): the first mark after ARM_STATE is 1, in ARMED entered from BOOT or by automatic wake; a timer that is due goes before it
(R313). -/
def execAutoRun (s : State) : Host.Outcome State Fault Refusal :=
  .next (
    if s.modeFree && s.mode = 4 && s.rd .AUTO_RUN 0 = 1 && s.rd .armAuto 0 = 1 && s.rd .ARM_STATE 0 = 1 &&
        decide (s.rdN .armAt 0 < s.now) && !s.standbyDue then
      s.enter s.runMode 3
    else s)

-- STANDBY

/-- STANDBY_ENTERED (R327). -/
def execStandbyEntered (s : State) : Host.Outcome State Fault Refusal :=
  .next (if s.modeFree && s.standbyDue then s.enter 11 10 else s)

/-- WAKE (R329). -/
def execWake (s : State) : Host.Outcome State Fault Refusal :=
  .next (
    if s.modeFree && s.mode = 11 && s.rd .STANDBY_ORIGIN 0 = 2 && s.rd .wakeSince 0 ≠ 0 &&
        decide (s.rdN .wakeSince 0 + 100000 * s.rdN .WAKE_DELAY 0 ≤ s.now + 1) then
      let s := s.enter 4 11
      s.detect s.blkSteward 0x22
    else s)

-- RESET

/-- The module in RESET (R316): what flash holds stays, everything else is as after power-up. An IMAGE_CLOSE is cut short (R258). -/
def State.toReset (s : State) : State :=
  let s := s.interruptClose
  let r := { State.reset with flash := s.flash, images := s.images, freeCtr := s.freeCtr, pending := s.pending }
  (r.wr .flashBad 0 (s.rd .flashBad 0)).wr .flashCur 0 (s.rd .flashCur 0)

/-- RESET_N_LOW (R316): RESET_N has stayed low for 1 µs. -/
def execResetNLow (s : State) : Host.Outcome State Fault Refusal := .next s.toReset

/-- LOGIC_SUPPLY_LOST (R391). -/
def execLogicSupplyLost (s : State) : Host.Outcome State Fault Refusal := .next s.toReset

/-- BOTH_PLLS_LOSE_LOCK (R362): PLL1 after PLL0. -/
def execBothPllsLoseLock (s : State) : Host.Outcome State Fault Refusal :=
  .next (if s.rd .PLL_IN_USE 0 = 1 then s.toReset else s)

/-- REQUESTED_RESET_ENTRY (R316): the cycle after the last bit of the reply, or 3.0 ms after the request. -/
def execRequestedResetEntry (t : Nat) (s : State) : Host.Outcome State Fault Refusal :=
  let s := s.at t
  .next (
    if s.rd .resetDue 0 ≠ 0 && ((s.rd .resetSent 0 ≠ 0 && decide (s.rdN .resetSent 0 ≤ s.now)) ||
        decide (s.rdN .resetDue 0 + 300000 ≤ s.now + 1)) then s.toReset
    else s)

-- BOOT

/-- The flash bank whose committed set is used: the current one, else the other (R17, R23). -/
def State.bootSet (s : State) : Option FlashSet :=
  let c := s.rdN .flashCur 0
  let ok (b : Nat) : Bool := !s.bit .flashBad 0 b && (s.flashOf b).valid
  if ok c then some (s.flashOf c) else if ok (1 - c) then some (s.flashOf (1 - c)) else none

/-- The bank whose firmware runs (R256). -/
def State.firmwareBank (s : State) : Nat :=
  let has (b : Nat) : Bool := !s.bit .flashBad 0 b && !(tget [] s.images (16 * b + 8)).isEmpty
  if has 0 then 0 else if has 1 then 1 else if s.bit .flashBad 0 0 then 1 else 0

/-- SPARE_ENGAGED while the all-in policy is selected and no plan runs (R20). -/
def State.showPolicy (s : State) : State := s.setRed 13 (s.rd .REDUNDANCY_POLICY 0 = 1)

/-- The committed values taken from flash, with all that follows from them (R23, R122). -/
def State.takeCommitted (s : State) (l : List (Nat × Int)) : State :=
  let old := s
  let s := (s.overlay l).forAll 64 (fun s n => (s.adoptAxis old [] n).activateSig n)
  (s.adoptRest old).showPolicy

/-- RWC objects at their defaults again (R318), with all that follows from them. -/
def State.dropCommitted (s : State) : State :=
  let old := s
  let keep (p : Nat × Int) : Bool := !((keyReg p.1).1.obj).any (fun o => decide (o.acc = .rwc))
  let s := { s with regs := s.regs.filter keep }
  ((s.forAll 64 (fun s n => (s.adoptAxis old [] n).setTable n 0 0 (fun _ => 0))).adoptRest old).showPolicy

/-- Step 3 of BOOT (R317): the committed set, the calibration and the lockout flag are read from flash, and a fixed node number is taken
(R282). -/
def State.readFlash (s : State) : State :=
  let s := s.wr .bootBank 0 s.firmwareBank
  let s := match s.bootSet with
    | some x => s.takeCommitted x.config
    | none => s
  let s := match s.goodBanks with
    | [] => s
    | b :: _ => s.overlay (s.flashOf b).cal
  let locked := s.goodBanks.any (fun b => (s.flashOf b).lockout)
  let s := (s.wr .LOCKOUT_FLAG 0 (ofBool locked)).forAll 9 (fun s n => s.showImage n 0)
  let s := s.iff (s.rd .NODE_MODE 0 = 1) (fun s => s.wr .NODE_NUMBER 0 (s.rd .NODE_FIXED 0))
  let s := s.iff (s.rd .flashBad 0 ≠ 0) (fun s => (s.detect 0x63 1).setRed 14 true)
  s.wr .flashRead 0 1

/-- RESET_RELEASE (R317): the root is selected (R357), device time and the marks start with first PLL lock, whose cycle is the mark of pass
0, the parts at the terminals are looked at, steps 1 to 3 are done, and the diagnostics of step 6 are queued unless the lockout flag is
set. -/
def execResetRelease (w : ReleaseIn) (s : State) : Host.Outcome State Fault Refusal :=
  .next (
    if s.mode ≠ 0 || s.rd .pllLocked 0 = 1 then s
    else
      let root : Nat := if w.refin then 1 else if w.crystal then 0 else 2
      let s := ((s.setMode 1 0).wr .pllLocked 0 1).wr .lockDelay 0 w.lock
      let s := ((s.wr .rootKind 0 root).wr .CLK_SOURCE 0 root).iff (root = 2) (fun s =>
        ((s.wr .pllTrim 0 Config.factoryTrim).wr .pllTrimAt 0 s.now).setRed 5 true)
      let ena := (if w.ena1 then 1 else 0) + (if w.ena2 then 2 else 0) + (if w.ena1 && w.ena2 then 4 else 0)
      let s := (s.wr .ENA_STATE 0 (ena : Nat)).iff (w.ena1 != w.ena2) (fun s => s.wr .enaDiffFrom 0 (s.now + 1 : Nat))
      let s := (s.wrBit .feedSeen 0 0 w.vmaOk).wrBit .feedSeen 0 1 w.vmbOk
      let s := ((s.setRed 0 w.vmaOk).setRed 1 w.vmbOk).setRed 2 w.auxOk
      let s := s.wr .aliveBoot 0 1
      let s := s.readFlash
      if s.rd .LOCKOUT_FLAG 0 = 1 then s else s.forAll 64 State.queueDiag)

/-- A redundant part that has failed step 2 is marked as at run time (R318). -/
def State.failedParts (s : State) (w : BootIn) : State :=
  let s := s.forAll 8 (fun s e =>
    if w.deadEngine.toNat.testBit e then
      (((s.setRed (16 + e) true).wr .ENGINE_STATE e 3).detect (blkEngine e) 1 (dataOf [(1, 4), (2, 0)])).endAtMark (blkEngine e)
    else s)
  let s := match w.stFaulty with
    | some k => ((((s.setRed 8 true).setRed 7 (k.val = 0)).wr .takeover 0 0).detect (0x64 + k) 1).endAtMark (0x64 + k)
    | none => s
  match w.tsFaulty with
  | some k => ((s.setRed 9 true).wr .tsOut 0 (k.val + 1 : Nat)).detect (0x66 + k) 2
  | none => s

/-- A power die that has failed its handshake (R318): it is held off, its axes are CONTAINED and OPEN and have no diagnostic. -/
def State.failedDie (s : State) (k : Nat) : State :=
  let s := ((s.detectShadow (blkDie k) 2 0 (dieCovers k) .reset).wr .dieOff k 1).setDiag k []
  (s.wr .DIAG_AXIS k 255).forList (axesOf k) (fun s n =>
    let s := (s.wr .DIAG_RESULT n 0).iff (s.rd .DRIVE_STATE n = 5) (fun s => s.wr .DRIVE_STATE n 0)
    (s.contain n true).wr .DISABLE_CAUSE n 0)

/-- Steps 4 and 7 of BOOT (R318): the plan of the committed set placed, or why not, with the BOOT_RESULT. -/
def State.bootPlan (s : State) : State × Nat :=
  let s := s.wr .planPlaced 0 0
  let n := s.rdN .PLAN_IMAGE 0
  if s.bootSet.isNone || (s.imageVerdict n).isSome then ((s.dropCommitted).detect s.blkSteward 0x10, 2)
  else
    let ps := s.progsOf n
    match s.judge ps false with
    | .inl v => ((s.report v).detect s.blkSteward 0x11, 3)
    | .inr (l, fb, spare, banks) =>
      ((s.wr .ACTIVE_BANK 0 1).adoptPlan ⟨false, [], l.map PSlot.word, fb, ps, banks, spare.getD 255, true⟩, 1)

/-- Whether the diagnostics of step 6 have ended on every die that has passed its handshake. -/
def State.bootDiagDone (s : State) (dead : Nat) : Bool :=
  (List.range 64).all (fun n => dead.testBit (dieOf n) || !s.diagBusy n)

/-- BOOT_END (R318): what the steps have found takes effect; a fatal finding keeps the module in BOOT, anything else ends it at this mark. A
port or feed that has never come up reads 0 from here on (R20). -/
def execBootEnd (w : BootIn) (s : State) : Host.Outcome State Fault Refusal :=
  .next (
    if s.mode ≠ 1 || !s.atMark || s.rd .bootStuck 0 = 1 || s.rd .flashRead 0 = 0 then s
    else if w.fatal then ((s.wr .bootStuck 0 1).wr .BOOT_RESULT 0 5).wr .aliveBoot 0 0
    else if !s.bootDiagDone w.deadDie.toNat then s
    else
      let s := s.failedParts w
      let s := s.forAll 8 (fun s k => if w.deadDie.toNat.testBit k then s.failedDie k else s)
      let (s, r) := s.bootPlan
      let locked := s.rd .LOCKOUT_FLAG 0 = 1
      let s := s.forAll 3 (fun s p => if s.rd .LINK p = 0 then s.setRed (10 + p) false else s)
      let s := s.wr .BOOT_RESULT 0 (if locked then 4 else r : Nat)
      let s := s.wr .BOOT_DURATION 0 (s.rd .lockDelay 0 + s.now / 100)
      let s := s.setMode (if locked then 10 else if r = 1 then 4 else 2) 1
      let s := s.wr .modeMark 0 (s.pass + 1)
      if locked || r ≠ 1 then s else ((s.wr .ARM_STATE 0 1).wr .armAuto 0 1).wr .armAt 0 s.now)

end Sys2Proof.Machine
end

