-- ==== Sys2Proof/Machine/Observe.lean ====
section
/-! DEFINITION. The trace unit: words popped from Q73, and DROP records (R372–R377). -/
namespace Sys2Proof.Machine

/-- Words the trace buffer holds (R377). -/
def traceWords : Nat := 262144

/-- A word popped from Q73 goes to the port, to the buffer, or to both (R372, R377). -/
def State.traceWord (s : State) (w : Word64) : State :=
  let d := s.rdN .TRACE_DEST 0
  let s := if d % 2 = 1 then { s with traceOut := some w } else s
  let s := if 2 ≤ d then { s with traceBuf := (w :: s.traceBuf).take traceWords }.count .TRACE_BUF_NEWEST 0 else s
  s.wr .traceNext 0 (s.now + (if d % 2 = 1 then 18 else 8) : Nat)

/-- TRACE_WORD_OUT (R372): one word per 180 ns while the port is a destination, one per 80 ns for the buffer alone; none in STANDBY. -/
def execTraceWordOut (t : Nat) (s : State) : Host.Outcome State Fault Refusal :=
  let s := s.at t
  .next (
    if s.rd .TRACE_DEST 0 = 0 || s.inMode [0, 11] || decide (s.now < s.rdN .traceNext 0) then s
    else
      match s.pop 73 with
      | (s, some (.words [w])) => s.traceWord w
      | _ => s)

/-- DROP_RECORD (R375): drops are pending, no source pushes in this cycle, and Q73 has room. -/
def execDropRecord (t : Nat) (s : State) : Host.Outcome State Fault Refusal :=
  let s := s.at t
  let q := s.queue 73
  .next (
    if s.rd .dropPending 0 = 0 || s.rd .TRACE_DEST 0 = 0 || (q.pushAt = s.now && q.fresh ≠ 0) || s.qVoided 73 ||
        decide (s.capacity 73 ≤ q.depth) then s
    else
      let w : Word64 := BitVec.ofNat 64 (7 + 16 * (s.now % 2 ^ 28) + 2 ^ 32 * s.rdN .dropPending 0)
      ((s.push 73 (.words [w])).1.wr .dropPending 0 0).tally 202)

end Sys2Proof.Machine
end

