-- ==== Sys2Proof/Machine/Pass.lean ====
section
/-! DEFINITION. The pass mark (R10–R16): what takes effect in its cycle, for the module and for every axis, and the axis whose increment is
stale (R14). -/
namespace Sys2Proof.Machine

-- the module

/-- Time and the pass counter at a mark (R10, R363). -/
def State.tick (s : State) : State :=
  let m := s.nextMark
  ((s.goOn m).wr .PASS_COUNT 0 (s.rd .PASS_COUNT 0 + 1)).wr .PASS_MARK_TIME 0 m

/-- The trace filters taken at a mark (R376), and the TIME record of every 20,000th one (R375). -/
def State.traceMark (s : State) : State :=
  let s := ((s.wr .tfEngines 0 (s.rd .TRACE_ENGINES 0)).wr .tfAxes 0 (s.rd .TRACE_AXES 0)).wr .tfPorts 0 (s.rd .TRACE_PORTS 0)
  let s := (s.wr .tfMinSev 0 (s.rd .TRACE_MIN_SEV 0)).wr .tfConvs 0 (s.rd .TRACE_CONVS 0)
  s.iff (s.pass % 20000 = 0) State.traceTime

/-- The supply objects at a mark (R398), and the bus as its comparators see it (R149). -/
def State.supplyMark (s : State) (w : MarkIn) : State :=
  let put (s : State) (r : Reg) (v : Nat) : State := s.wr r 0 (min v 65535 : Nat)
  let s := put (put (put s .VMA_VOLTAGE w.vma) .VMB_VOLTAGE w.vmb) .VMA_CURRENT w.ima
  let s := put (put (put s .VMB_CURRENT w.imb) .AUX_VOLTAGE w.aux) .LOGIC_POWER w.power
  (s.wr .HUB_TEMP 0 (clampInt (-2 ^ 31) (2 ^ 31 - 1) w.hubTemp)).seeBus (min w.bus 65535)

/-- Runs that would go past the mark are cut off: no slot of a pass runs at the next mark (R11). -/
def State.cutLate (s : State) : State :=
  let late := ((List.range 8).filter (fun e => (tget none s.runs e).isSome)).length
  let s := { s with runs := s.runs.filter (fun (p : Nat × Option Run) => !decide (p.1 ≤ 8)) }
  if late = 0 then s else (s.count .PASS_LATE 0 late).tally 228 late

/-- Queue depths as of the mark (R276). -/
def State.depthMark (s : State) : State :=
  { s with queues := tmap Queue.empty (fun _ x => { x with markDepth := x.depth }) s.queues }

/-- The fallback state is left at the first mark after the self-test (R231). -/
def State.fallbackMark (s : State) : State :=
  if s.rd .leaveFallback 0 = 1 then ((s.wr .leaveFallback 0 0).wr .FALLBACK_FOR 0 255).cfg 2 else s

/-- Passes of a die in a warning state or in short-brake (R378). -/
def State.dieMark (s : State) (k : Nat) : State :=
  (s.iff (1 ≤ s.rd .DIE_STATE k) (fun s => s.tally (204 + k))).iff (s.rd .brakeOn k = 1) (fun s => s.tally (212 + k))

-- the axis: the planned state of the mark

/-- The position, velocity and acceleration commanded at the mark (R41). The values of the pass that ends are kept for what still refers
to it. -/
def State.takePlanned (s : State) (n : Nat) : State :=
  let k := (s.planner n).nxt
  let s := ((s.wr .angleOld n (s.rd .angleQ n)).wr .incOld n (s.rd .ANGLE_INC n)).wr .ampOld n (s.rd .AMP_CODE n)
  let s := s.wr .relWas n (s.rd .relFrom n)
  let s := (s.wr .posQ n k.x).wr48 .CMD_POS n (fdiv k.x 65536)
  ((s.wr .CMD_VEL n (velOf k.v)).wr .CMD_ACC n (accOf k.a)).wr .SEGMENT n k.seg

/-- Whether the plan has a saddle that lies at or past the present mark: one planned since the crossing (R50). -/
def Planner.saddleAhead (p : Planner) : Bool :=
  match p.plan with
  | some pl =>
    match pl.saddle with
    | some (q, _) => decide (p.age - passQ < q)
    | none => false
  | none => false

/-- A saddle that the pass has crossed (R50). -/
def State.saddleMark (s : State) (n : Nat) : State :=
  if s.rd .sadDue n = 0 then s
  else
    let s := (s.wr .SADDLE_TIME n (s.rd .sadDue n - 1)).wr .SADDLE_PENDING n (ofBool (s.planner n).saddleAhead)
    (s.wr .sadDue n 0).event n 1

/-- Whether the plan of an axis ends at the present mark, although its profile step was yet to see it (R46). -/
def Planner.endsNow (p : Planner) : Bool :=
  match p.plan with
  | some pl => decide ((pl.len : Int) ≤ (if p.aft.isSome then p.age - passQ else p.age))
  | none => false

/-- A plan made and ended within one pass: its move ends at the present mark (R46). -/
def State.lateEnd (s : State) (n : Nat) : State :=
  let p := s.planner n
  let st := s.rdN .AXIS_STATE n
  if !p.endsNow then s
  else if st = 4 then s.iff (s.rd .incHeld n = 0) (fun s => s.homeMark n)
  else if s.rd .goalKind n ≠ 0 && st ≤ 2 && s.rd .relWait n ≠ 1 && p.aft.isSome then s.arrive n
  else s

/-- What the profile step has found complete for this mark (R46, R58, R69, R75, R132). -/
def State.finishMark (s : State) (n : Nat) : State :=
  let b := s.rdN .finPend n
  let h := s.rdN .finHome n
  let s := s.iff (b.testBit 0) (fun s => s.event n 0)
  let s := s.iff (b.testBit 2 && [2, 4].contains (s.rdN .AXIS_STATE n) && (s.rd .goalKind n = 0 || s.rd .relWait n ≠ 0) &&
    s.rd .lnOn n ≠ 3) (fun s => s.setAxis n 1)
  let s := (s.iff (b.testBit 3) (fun s => s.event n 3)).finRec n
  let s := s.iff (h ≠ 0) (fun s => s.homeResult n (h / 16) (h % 16))
  let s := s.iff (b.testBit 0 || b.testBit 3 || h ≠ 0) (fun s => s.endDeferral n)
  (s.wr .finPend n 0).wr .finHome n 0

/-- A STALL_RELEASE at its mark (R129). -/
def State.stallMark (s : State) (n : Nat) : State :=
  if s.rd .stallRel n = 0 then s
  else (s.wr .stallRel n 0).iff (s.rd .AXIS_STATE n = 5) (fun s => (s.setAxis n 1).wr .STALL_RUN n 0)

/-- An engagement at its mark (R81). An axis that has begun to home since the write was accepted engages all the same: its record is
abandoned. -/
def State.engageMark (s : State) (n : Nat) : State :=
  if s.rd .followPend n = 0 then s
  else if [0, 1, 2, 4].contains (s.rdN .AXIS_STATE n) && s.motionMode then s.engage n (s.rd .posQ n)
  else s.wr .followPend n 0

-- the axis: the increment of the pass that begins

/-- The increment of a pass outside SAFE (R12, R14): the one written in the pass that ends, else the one last in effect. An axis in
STALLED, CONTAINED or DISABLED stands. Passes missed in IDLE or HOLD do not count toward the three of R14 (log entry 148). -/
def State.incMark (s : State) (n : Nat) : State :=
  let p := s.planner n
  if 5 ≤ s.rd .AXIS_STATE n then
    ((s.wr .ANGLE_INC n 0).wr .incMissed n 0).wrPlanner n { p with nxt := ⟨p.nxt.x, 0, 0, 0, 0⟩, aft := none }
  else if s.rdN .stampInterp n = s.pass then
    let d := s.rd .incShadow n
    (((s.wr .ANGLE_INC n d).wr .incMissed n 0).wr .incHeld n 0).wrPlanner n
      { p with nxt := p.aft.getD { p.nxt with x := p.nxt.x + d }, aft := none }
  else
    let s := (s.wr .incHeld n 1).wr .incMissed n
      (if [2, 3, 4].contains (s.rdN .AXIS_STATE n) then min (s.rd .incMissed n + 1) 7 else 0)
    s.wrPlanner n { p with nxt := { p.nxt with x := p.nxt.x + s.rd .ANGLE_INC n }, aft := none }

/-- STALE_INCREMENT ends once interpolation set-up has committed in two consecutive passes (R354). -/
def State.staleMark (s : State) (n : Nat) : State :=
  let ok := if s.rdN .stampInterp n = s.pass then min (s.rd .incOk n + 1) 2 else 0
  (s.wr .incOk n ok).iff (ok = 2 && s.bit .CAUSES_PRESENT (blkAxis n) 6) (fun s => s.endCause (blkAxis n) 6)

/-- The increment of word 24 as an axis takes it in SAFE (R251). -/
def State.safeInc (s : State) (n : Nat) : Int :=
  let d := clampInt (-1024 * 65536) (1024 * 65536) (signed 32 (s.led n 24).toNat)
  let stop := (s.bit .LIMIT_STATE n 0 && decide (d < 0)) || (s.bit .LIMIT_STATE n 1 && decide (0 < d))
  if stop || s.driveOf n = 2 then 0 else d

/-- DRIVE of word 25 in SAFE (R251): an enable of a DISABLED axis under R145, or a disable. -/
def State.safeDrive (s : State) (n : Nat) : State :=
  let on := (s.led n 25).toNat.testBit 16
  if on && s.rd .AXIS_STATE n = 7 && (s.driveOf n = 0 || s.driveOf n = 5) then
    (if s.driveBlock n ≠ 0 then s.wr .DISABLE_CAUSE n (s.driveBlock n)
    else ((s.preset n).setAxis n 1).wr .DISABLE_CAUSE n 0)
  else if !on && s.driveOf n = 1 then s.disable n 7
  else s

/-- What an axis takes from its trip program at a mark in SAFE (R251). -/
def State.safeTake (s : State) (n : Nat) : State :=
  let s := s.safeDrive n
  let d := s.safeInc n
  let s := (s.wr .ANGLE_INC n d).wr .incMissed n 0
  let s := s.wrPlanner n { s.planner n with nxt := ⟨s.rd .posQ n + d, 0, 0, 0, 0⟩, aft := none }
  s.iff (s.driveOf n = 1) (fun s => s.setAmp n (min ((s.led n 25).toNat % 65536) 3000) 5)

/-- Increment and amplitude of the pass that begins (R12, R97, R251). -/
def State.valuesMark (s : State) (n : Nat) : State :=
  let s := s.staleMark n
  if s.mode = 9 then s.safeTake n
  else
    let s := s.incMark n
    s.iff (s.driveOf n = 1) (fun s => s.setAmp n (s.rdN .ampShadow n) (s.rdN .ampSrcShadow n))

/-- The angle at the mark (R95). -/
def State.angleMark (s : State) (n : Nat) : State := s.wr .angleQ n (unsigned 28 (s.rd .posQ n + s.rd .ANGLE_ORIGIN n * 65536))

/-- The chopper's side of the mark: offsets, signatures, widening, chopper values, references, the full step, the phases (R103–R117). -/
def State.chopperMark (s : State) (n : Nat) : State :=
  let s := s.adaptMark n
  let s := [Reg.adSum, .adMag, .adCnt].foldl (fun s r => (s.wr r (2 * n) 0).wr r (2 * n + 1) 0) s
  let s := (((s.signatureMark n).widenMark n 0).widenMark n 1).takeChopper n
  (((s.refMark n).settledMark n).stepMark n (s.rd .incOld n)).startPhases n

/-- A released record planned from an instant of the pass that begins (R72): the power die holds the angle until RELEASE_START. -/
def State.releaseMark (s : State) (n : Nat) : State :=
  if s.rd .relWait n = 2 then (s.wr .relWait n 3).wr .relFrom n 1 else s.wr .relFrom n 0

/-- What programs read as committed at the latest mark (R246). -/
def State.ledgerMark (s : State) (n : Nat) : State :=
  let s := (s.wr .mkTarget n (s.rd .TARGET n)).wr .mkFbPos n (s.rd .FB_POS n)
  let s := s.wr .mkLoad n (s.rd .LOAD_INDEX n + s.rd .LI_STATE n * 2 ^ 16 + s.rd .STALL_RUN n * 2 ^ 20)
  s.wr .mkDev n (s.rd .DEVIATION n)

/-- The mark of axis `n`. -/
def State.axisMark (s : State) (n : Nat) : State :=
  let s := ((((s.openMark n 0).openMark n 1).seenPass n 0).seenPass n 1).pollInstant n
  let s := ((s.takePlanned n).saddleMark n).lateEnd n
  let s := ((s.finishMark n).reassignMark n).driveMark n
  let s := (((s.stallMark n).engageMark n).learnMark n).valuesMark n
  let s := (((s.angleMark n).chopperMark n).releaseMark n).ranks n
  let s := (s.followMark n).loadCauses n
  let s := s.iff (s.rd .fbAlignPend n = 1) (fun s => s.alignFb n)
  s.ledgerMark n

-- after the axes

/-- The stream sample of axis `n` (R84). -/
def State.sampleData (s : State) (n seq : Nat) : List Byte :=
  [BitVec.ofNat 8 n, BitVec.ofNat 8 seq, 0, 0] ++ leBytes 8 s.ring ++ leBytes 8 (unsigned 64 (s.rd .CMD_POS n)) ++
    leBytes 4 (unsigned 32 (s.rd .CMD_VEL n))

/-- The NOTE frame of a stream sample (R306). -/
def State.noteFrame (s : State) (n seq : Nat) : Frame :=
  { ether := true, version := 1, kind := 2, op := opNote, dest := 0xFFFF, src := s.rdN .NODE_NUMBER 0, tag := 0, retry := false, wraps := 0
    gateway := false, enum := false, index := 1, sub := 0, result := 0, status := 0, data := s.sampleData n seq, reserved := false
    carried := true }

/-- A stream sample published at every PUBLISH_PERIOD-th mark (R306), by a module with a node number in a mode that plans or may plan
(R328). -/
def State.publish (s : State) (n : Nat) : State :=
  let T := s.rdN .PUBLISH_PERIOD n
  if T = 0 || s.pass % T ≠ 0 || s.mode < 2 || s.mode = 11 || 0x3FF < s.rdN .NODE_NUMBER 0 then s
  else
    let seq := (s.rdN .PUBLISH_SEQ n + 1) % 256
    ((s.wr .PUBLISH_SEQ n seq).sendOwn (s.noteFrame n seq)).count .NOTES_SENT 0 1 64

/-- Phase RMS currents of the axes `l` (R395). -/
def State.rmsOf (s : State) (l : List Nat) : Int :=
  fdiv (((l.filter (fun n => [1, 2, 4].contains (s.driveOf n))).map (fun n => 2 * s.rd .AMPLITUDE n * s.rd .SHAPE_RMS n)).sum) 65536

/-- The current sums at a mark (R398). -/
def State.rmsMark (s : State) : State :=
  (s.forAll 8 (fun s k => s.wr .IRMS_DIE k (s.rmsOf (axesOf k)))).wr .IRMS_MODULE 0 (s.rmsOf (List.range 64))

/-- The conditions of automatic standby and wake at a mark (R327, R329). -/
def State.standbyMark (s : State) : State :=
  let hold (s : State) (r : Reg) (c : Bool) : State :=
    if !c then s.wr r 0 0 else if s.rd r 0 = 0 then s.wr r 0 (s.now + 1) else s
  let lost := s.bit .CAUSES_PRESENT 0x61 1 && !s.bit .CAUSES_PRESENT 0x61 2 && !s.bit .CAUSES_PRESENT 0x61 3
  let s := hold s .standbySince ((s.mode = 4 && decide (s.rd .BUS_VM 0 < 1600)) || (s.mode = 9 && lost))
  hold s .wakeSince (s.mode = 11 && decide (1650 < s.rd .BUS_VM 0))

/-- ALIVE changes level at every 20th mark where it toggled before the mark and still does (R352). -/
def State.aliveMark (s : State) (was : Bool) : State :=
  if was && s.aliveOn && s.pass % 20 = 0 then (s.wr .alive 0 (1 - s.rd .alive 0)).tally 229 else s

/-- An accepted MODE_REQUEST dropped by a change of higher rank (R313). -/
def State.dropRequest (s : State) : State :=
  if s.rd .modeReq 0 = 0 then s else (s.wr .modeReq 0 0).finish 0x1001 2 7

/-- LOCKOUT entered at its mark (R325). -/
def State.lockoutMark (s : State) : State :=
  let c := s.rdN .lockoutPending 0
  let s := ((s.dropRequest.wr .lockoutPending 0 0).wr .tripPending 0 0).enter 10 c
  s.finish 0x1001 2 (if c = 2 then 0 else 7)

/-- The requests and other asked-for changes that this mark takes, the first of R313; entry to SAFE and the timers have commands of their
own. -/
def State.modeAtMark (s : State) : State :=
  let s := s.iff (!tripModes.contains s.mode) (fun s => s.wr .tripPending 0 0)
  if s.rd .lockoutPending 0 ≠ 0 then s.lockoutMark
  else if s.rd .tripPending 0 ≠ 0 && decide (s.rdN .tripFrom 0 < s.now) then s.dropRequest
  else if s.rd .modeReq 0 ≠ 0 then
    let m := s.rdN .modeReq 0
    ((s.wr .modeReq 0 0).enter (if m = 5 then s.runMode else m) 2).finish 0x1001 2 0
  else if s.rd .contactPending 0 = 1 && s.mode = 8 then s.enter s.runMode 7
  else if s.rd .clearPending 0 = 1 && s.mode = 10 then (s.wr .clearPending 0 0).enter (if s.rd .planPlaced 0 = 1 then 4 else 2) 12
  else if s.rd .SWAP_STATE 0 ≠ 0 && s.inMode [5, 6] then s.enter 7 5
  else if s.rd .islandInSwap 0 = 1 && s.inMode [5, 6] then s.enterIsland
  else s

/-- What the choppers, refreshes and pulses have done by themselves up to the last cycle before the mark. -/
def State.settleAll (s : State) : State :=
  (s.goOn (s.nextMark - 1)).forAll 64 (fun s n => (s.pulseDone n).settleAxis n)

/-- What the module's blocks do at a mark before the axes. -/
def State.blocksMark (s : State) (w : MarkIn) : State :=
  let s := ((s.settleAll.tick.traceMark.supplyMark w).cutLate).closeAtMark
  let s := (s.forAll 16 State.channelMark).calMark
  let s := s.iff (2 ≤ s.mode) (fun s => s.forAll 16 State.converterMark)
  let s := (s.forAll 8 State.busMark).forAll 4 State.emulate
  ((s.depthMark.fallbackMark).forAll 8 State.dieMark)

/-- PASS_MARK (R10): the mark falls 5,000 cycles after the one before it. Before first PLL lock there is none. -/
def execPassMark (w : MarkIn) (s : State) : Host.Outcome State Fault Refusal :=
  .next (
    if s.rd .pllLocked 0 = 0 || s.mode = 0 then s
    else
      let was := s.aliveOn
      let s := ((s.blocksMark w).dueContact.forAll 64 State.axisMark).wr .enaPend 0 0
      let s := (s.forAll 64 State.publish).rmsMark.standbyMark
      (s.modeAtMark).aliveMark was)

/-- STALE_INCREMENT (R14): the third pass in a row without a written increment has ended at this mark. The power die holds the angle, inside
a shadow too (R340). -/
def execStaleIncrement (n : Fin 64) (s : State) : Host.Outcome State Fault Refusal :=
  .next (
    if s.atMark && 3 ≤ s.rd .incMissed n && [2, 3, 4].contains (s.rdN .AXIS_STATE n) then
      let s := (s.wr .ANGLE_INC n 0).wr .incMissed n 0
      let s := s.wrPlanner n { s.planner n with nxt := ⟨s.rd .posQ n, 0, 0, 0, 0⟩ }
      (s.detect (blkAxis n) 6 (dataOf [(6, unsigned 48 (s.rd .CMD_POS n))])).contain n false
    else s)

end Sys2Proof.Machine
end

