-- ==== Sys2Proof/Machine/Ring.lean ====
section
/-! DEFINITION. The Yorun ring (R278–R308): the gorge, the gateway, own frames, sweeps, link healing, link delays, and the TIME frames that
steer ring time (R365–R367). -/
namespace Sys2Proof.Machine

-- frames

/-- Trace record of source 4 (R375): `act` is 0 received, 1 delivered, 2 sent, 3 discarded; `addr` the SRC of a received frame, the DEST
of a sent one. -/
def State.traceFrame (s : State) (p act addr : Nat) (f : Frame) (bad : Bool) : State :=
  s.traceIf 4 (s.bit .tfPorts 0 p)
    (f.op % 256 + 256 * p + 1024 * act + 2 ^ 12 * (f.tag % 128) + 2 ^ 19 * (addr % 2048) + (if bad then 2 ^ 31 else 0))

/-- Words that a ring port has reserved beyond those of the frame `f` it receives into queue `q` (R269): 16 in all. -/
def reserved (q : Nat) (f : Frame) : Nat := if 64 ≤ q && q ≤ 66 then 16 - Pkt.len (.frame f) else 0

/-- A frame that passes queue `q` without rest: pushed, and popped by the queue's cut-through consumer (R266, R269); whether it got
through. The words that a ring port has reserved and the frame does not use are given back with its last word. -/
def State.through (s : State) (q : Nat) (f : Frame) : State × Bool :=
  match (s.wrQueue q { s.queue q with resv := reserved q f }).push q (.frame f) with
  | (s, false) => (s.wrQueue q { s.queue q with resv := 0 }, false)
  | (s, true) =>
    let x := s.queue q
    let s := s.wrQueue q { x with
      resv := 0
      pkts := x.pkts.dropLast
      rdPtr := (x.rdPtr + Pkt.len (.frame f)) % s.capacity q
      fresh := x.fresh - 1
      rewind := some (.frame f)
      rewindPtr := (x.wrPtr + s.capacity q - Pkt.len (.frame f)) % s.capacity q }
    (s.count .POPPED q 1 64, true)

/-- Port `p` begins to send `f`; `bad`: with a wrong FCS (R288). -/
def State.onWire (s : State) (p : Nat) (f : Frame) (bad : Bool) : State :=
  let s := ({ s with wire := tset none s.wire p (some f) }.wr .wireBad p (ofBool bad)).count .FRAMES_OUT p 1 64
  s.traceFrame p 2 f.dest f bad

/-- A frame sent on port `p` through its transmit queue, Q68–Q70, whose rewind mark it takes (R273). -/
def State.transmit (s : State) (p : Nat) (f : Frame) (bad : Bool) : State :=
  match s.through (68 + p) f with
  | (s, true) => ((s.wr .REWIND_VALID (68 + p) 1).wr .lastTx p (68 + p : Nat)).onWire p f bad
  | (s, false) => s

/-- Whether ring port `p` takes no frame to send (R301, R302). -/
def State.portDown (s : State) (p : Nat) : Bool := s.rd .LINK p = 0 || s.rd .WRAPPED p = 1

/-- A received frame discarded at port `p`. -/
def State.discardFrame (s : State) (p : Nat) (f : Frame) (bad : Bool) : State := s.traceFrame p 3 f.src f bad

/-- Whether an address is one of R281. -/
def validAddr (a : Nat) : Bool := a ≤ 0x403 || a = 0xFFFE || a = 0xFFFF

/-- The address of the head this module serves on LP (R284); none where it serves none. -/
def State.served (s : State) : Option Nat := if s.rdN .GATEWAY_HEAD 0 ≤ 3 then some (0x400 + s.rdN .GATEWAY_HEAD 0) else none

/-- Whether `a` is the address of this node. -/
def State.isOwn (s : State) (a : Nat) : Bool := a ≤ 0x3FF && s.rdN .NODE_NUMBER 0 = a

/-- Whether a KIND fits its OP (R286). -/
def kindFits (f : Frame) : Bool :=
  match f.kind with
  | 0 | 1 => [1, 2, 3, 4, 5].contains f.op || (f.op = opTime && f.dest = 0xFFFE)
  | 2 => [6, 7, 8].contains f.op
  | _ => false

-- delivery

/-- A request delivered to the module (R286, R293). -/
def State.request (s : State) (h : Hdr) (f : Frame) : State :=
  let wrongLength (op idx sub : Nat) : State :=
    s.transact h op idx sub f.data (fun s => (s.refuse op 0x06, .done 0x06 []))
  match f.op with
  | 1 => if f.data.isEmpty then s.hostRead h f.index f.sub else wrongLength opRead f.index f.sub
  | 2 => s.hostWrite h f.index f.sub f.data
  | 3 =>
    match f.data with
    | [b] => s.hostReadBlock h f.index f.sub b.toNat
    | _ => wrongLength opReadBlock f.index f.sub
  | 4 => s.transact h opWriteBlock f.index f.sub f.data (fun s => s.writeMany f.index f.sub f.data)
  | 5 => if f.data.isEmpty then s.transact h opCommit 0 0 [] State.commit else wrongLength opCommit 0 0
  | _ => s

/-- A frame delivered to Q67 and taken up by the steward: acted on only with a correct FCS (R288); a defective one gets no reply
(R286). An unnumbered module answers no request (R282). -/
def State.deliverFrame (s : State) (p : Fin 3) (f : Frame) (fcsOk : Bool) : State :=
  match s.through 67 f with
  | (s, false) => s
  | (s, true) =>
    let s := s.traceFrame p 1 f.src f (!fcsOk)
    if !fcsOk then s
    else
      let s := s.iff (f.kind = 0 && isHead f.src) State.contact
      if f.reserved || !f.carried || !kindFits f then s.count .NO_REPLY 0
      else if f.kind = 0 && decide (s.rdN .NODE_NUMBER 0 ≤ 0x3FF) then s.request ⟨s.now, p, f.src, Fin.ofNat 128 f.tag, f.retry⟩ f
      else s

/-- A frame for the head that this module serves (R284, R297): the first reply ends the wait on its tag, a later one is discarded. -/
def State.toHead (s : State) (p : Nat) (f : Frame) (bad : Bool) : State :=
  let waited := (tget none s.gateway f.tag).isSome
  if f.kind = 1 && !waited then (s.count .GW_DUPLICATES 0).discardFrame p f bad
  else
    let s := if f.kind = 1 && !bad then { s with gateway := tset none s.gateway f.tag none } else s
    if s.rd .LINK 2 = 0 then (s.push 70 (.frame f)).1 else s.transmit 2 f bad

-- SWEEP

/-- Byte `i` of a list of bytes. -/
def byteAt (l : List Byte) (i : Nat) : Nat := (l.getD i 0).toNat

/-- Bytes `v`, least significant first, put at place `i` of a list. -/
def putBytes (l : List Byte) (i : Nat) (v : List Byte) : List Byte := l.take i ++ v ++ l.drop (i + v.length)

/-- Bit `k` of the bytes from `i` on set. -/
def putBit (l : List Byte) (i k : Nat) : List Byte :=
  putBytes l (i + k / 8) [BitVec.ofNat 8 (byteAt l (i + k / 8) ||| 2 ^ (k % 8))]

/-- Bit `k` of the bytes from `i` on. -/
def bitAt (l : List Byte) (i k : Nat) : Bool := (byteAt l (i + k / 8)).testBit (k % 8)

/-- Whether a frame is a SWEEP as R298 has it. -/
def isSweep (f : Frame) : Bool := f.op = opSweep && f.kind = 2 && f.data.length = 1160

/-- An enumeration sweep numbers this module (R300). -/
def State.enumerate (s : State) (f : Frame) : State × Frame :=
  let n := byteAt f.data 2 + 256 * byteAt f.data 3
  if f.enum && s.rd .NODE_MODE 0 = 0 && s.rdN .NODE_NUMBER 0 = 0xFFFF && decide (n < 1024) then
    (s.wr .NODE_NUMBER 0 n, { f with data := putBytes f.data 2 (leBytes 2 (n + 1)) })
  else (s, f)

/-- Ticks from the cycle in which slot `k` of a SWEEP enters a ring port's gorge to the one in which the frame's last bit has been received: the
slots after it, the bits of PRESENT and SLOW, and the FCS (R278, R298). -/
def sweepRest (k : Nat) : Nat := 80 * (1156 - 2 * k)

/-- The module's own slot written on the forward pass of its half in the cycle in which it enters the gorge (R299, R37), or found written
already. A sweep from a head in which the slot is written is head contact in the cycle of its last bit (R321), which lies ahead while the
frame is still arriving. -/
def State.writeSlot (s : State) (f : Frame) (arriving : Bool) : State × Frame :=
  let n := s.rdN .NODE_NUMBER 0
  let k := n % 512
  if 1024 ≤ n || n / 512 ≠ byteAt f.data 0 then (s, f)
  else if bitAt f.data 1032 k then (s.detect 0x58 0x12, f)
  else
    let d := putBit (putBytes f.data (8 + 2 * k) (leBytes 2 s.statusWord)) 1032 k
    let d := if s.rd .hopSlow 0 = 1 then putBit d 1096 k else d
    let s := ((s.wr .hopSlow 0 0).count .SWEEPS 0 1 64).tally 227
    let s := s.wr .SWEEP_TIME 0 s.now
    let meet (s : State) : State := if arriving then s.dueContact.wr .sweepEnd 0 (s.now + sweepRest k + 1 : Nat) else s.contact
    (s.iff (isHead f.src) meet, { f with data := d })

/-- What a SWEEP takes along on the module's forward pass of it. -/
def State.sweepPass (s : State) (f : Frame) (arriving : Bool) : State × Frame :=
  if isSweep f then
    let r := s.enumerate f
    r.1.writeSlot r.2 arriving
  else (s, f)

-- stream notices

/-- The sample a NOTE carries (R84). -/
def noteSample (f : Frame) : Sample :=
  let at' (i n : Nat) : Nat := leNat ((f.data.drop i).take n)
  ⟨at' 1 1, at' 4 8, signed 48 (at' 12 8), signed 32 (at' 20 4)⟩

/-- The axes that follow the stream of a NOTE (R306). -/
def State.noteFollowers (s : State) (f : Frame) : List Nat :=
  if f.op = opNote && f.kind = 2 && f.index = 1 && f.data.length = 24 then
    (List.range 64).filter (fun n =>
      s.rd .FOLLOW_SOURCE n = 4 && s.rdN .SOURCE_NODE n = f.src && s.rdN .SOURCE_NUM n = byteAt f.data 0)
  else []

/-- A subscribed NOTE delivered to its followers (R306). -/
def State.takeNote (s : State) (p : Nat) (f : Frame) (fcsOk : Bool) : State :=
  let l := s.noteFollowers f
  if l.isEmpty then s
  else
    match s.through 67 f with
    | (s, false) => s
    | (s, true) =>
      let s := s.traceFrame p 1 f.src f (!fcsOk)
      if fcsOk then (s.forList l (fun s n => s.takeSample n (noteSample f))).count .NOTES_TAKEN 0 1 64 else s

-- the gorge

/-- The hop latency of a frame that found its sending port idle, in 10 ns, at its receiving port (R292); 0 where it did not. -/
def State.measureHop (s : State) (p hop : Nat) : State :=
  if hop = 0 then s
  else
    let s := ((s.keepMax .HOP_MAX p hop).tally (96 + p) hop).tally (98 + p)
    if hop ≤ s.rdN .HOP_BUDGET 0 then s
    else ((s.count .PORT_HOP_SLOW p).detect (0x58 + p) 0x10).wr .hopSlow 0 1

/-- The other ring port. -/
def otherPort (p : Nat) : Nat := 1 - p

/-- A frame received on ring port `p` passed on to the other port, or wrapped (R288). -/
def State.forward (s : State) (p : Nat) (f : Frame) (bad : Bool) (hop : Nat) : State :=
  let s := s.iff (f.kind = 0 && f.dest = 0xFFFF) (fun s => s.count .NO_REPLY 0)
  if !s.portDown (otherPort p) then (s.measureHop p hop).transmit (otherPort p) f bad
  else if f.wraps = 2 then ((s.count .CIRCLED p).detect (0x58 + p) 0x11).discardFrame p f bad
  else (s.measureHop p hop).transmit p { f with wraps := f.wraps + 1 } bad

/-- What a frame meets before the gorge decides: its receive queue and the counters of its port (R280, R281, R285). The answer is none where
the frame goes no further, or the state and whether it is of a VERSION that is forwarded unchanged. -/
def State.receive (s : State) (p : Nat) (f : Frame) (fcsOk : Bool) : State × Option Bool :=
  if !f.ether then ((s.count .DROPPED p).discardFrame p f (!fcsOk), none)
  else
    match s.through (64 + p) f with
    | (s, false) => (s, none)
    | (s, true) =>
      let s := (s.count .FRAMES_IN p 1 64).traceFrame p 0 f.src f (!fcsOk)
      let s := s.iff (!fcsOk) (fun s => s.count .FCS_ERRORS p)
      if f.version ≠ 1 then (s.count .DROPPED p, some true)
      else if !validAddr f.dest || !validAddr f.src then ((s.count .DROPPED p).discardFrame p f (!fcsOk), none)
      else (s, some false)

/-- Whether a forward arrival ends the lap of a frame: it is this node's, or the served head's (R288, R289). -/
def State.lapEnds (s : State) (p : Nat) (f : Frame) : Bool := p = 0 && (s.isOwn f.src || s.served = some f.src)

/-- A frame received on ring port `p` (R288). -/
def State.gorge (s : State) (port : Fin 2) (f : Frame) (fcsOk : Bool) (hop : Nat) : State :=
  let p := port.val
  let bad := !fcsOk
  if s.mode = 0 || s.rd .LINK p = 0 then s
  else
    match s.receive p f fcsOk with
    | (s, none) => s
    | (s, some true) => s.forward p f bad hop
    | (s, some false) =>
      if s.lapEnds p f then s.discardFrame p f bad
      else if s.isOwn f.dest || f.dest = 0xFFFE then s.deliverFrame (Fin.ofNat 3 p) f fcsOk
      else if s.served = some f.dest then s.toHead p f bad
      else
        let r := if p = 0 then s.sweepPass f true else (s, f)
        (r.1.takeNote p f fcsOk).forward p r.2 bad hop

/-- Whether a frame is a TIME distribution frame, or of a link probe: TIME_DISTRIBUTION and the probe commands carry those. -/
def isTimeFrame (f : Frame) : Bool := f.op = opTime && f.version = 1 && (f.kind = 2 || f.dest = 0xFFFE)

/-- FRAME_ARRIVAL (R288): every frame but sweeps, TIME broadcasts and link probes, which have rows of their own. -/
def execFrameArrival (t : Nat) (port : Fin 2) (f : Frame) (fcsOk : Bool) (hop : Nat) (s : State) : Host.Outcome State Fault Refusal :=
  let s := s.at t
  .next (if isTimeFrame f || isSweep f then s else s.gorge port f fcsOk hop)

/-- SWEEP (R298–R300): `t` is the cycle in which the module's slot enters its gorge (R37). -/
def execSweep (t : Nat) (port : Fin 2) (f : Frame) (fcsOk : Bool) (hop : Nat) (s : State) : Host.Outcome State Fault Refusal :=
  let s := s.at t
  .next (if isSweep f then s.gorge port f fcsOk hop else s)

/-- NOTE (R306). -/
def execNote (t : Nat) (port : Fin 2) (f : Frame) (fcsOk : Bool) (hop : Nat) (s : State) : Host.Outcome State Fault Refusal :=
  let s := s.at t
  .next (if f.op = opNote && f.kind = 2 then s.gorge port f fcsOk hop else s)

-- the gateway

/-- Bit times of a frame with its preamble on a port: 80 ticks a byte at 10 Mb/s, 8 at 100 Mb/s (R278, R279). -/
def wireTicks (p : Nat) (f : Frame) : Nat := (if p = 2 then 8 else 80) * (8 + Frame.bytes f)

/-- Bit times of a frame from the start of its Yorun header, behind the preamble and the Ethernet header, to its last bit. -/
def headerTicks (p : Nat) (f : Frame) : Nat := (if p = 2 then 8 else 80) * (Frame.bytes f - 14)

/-- A frame of the served head taken from LP goes to the ring as an own frame; a request waits for its reply (R284, R297). -/
def State.insertFrame (s : State) (f : Frame) : State :=
  let f := { f with gateway := true }
  let s := s.iff (f.kind = 0 && f.dest = 0xFFFF) (fun s => s.count .NO_REPLY 0)
  if f.kind = 0 && (tget none s.gateway f.tag).isSome then s
  else
    match s.push 71 (.frame f) with
    | (s, true) => if f.kind = 0 then { s with gateway := tset none s.gateway f.tag (some ⟨f, 0, 0⟩) } else s
    | (s, false) => s

/-- Whether a frame received on LP comes from the head served there (R284); any other is discarded. -/
def State.fromServed (s : State) (f : Frame) : Bool := f.ether && f.version = 1 && validAddr f.dest && s.served = some f.src

/-- The counters and the receive queue of LP; whether the frame is taken further (R280, R284, R288). -/
def State.receiveLp (s : State) (f : Frame) (fcsOk : Bool) : State × Bool :=
  if !f.ether then ((s.count .DROPPED 2).discardFrame 2 f (!fcsOk), false)
  else
    match s.through 66 f with
    | (s, false) => (s, false)
    | (s, true) =>
      let s := (s.count .FRAMES_IN 2 1 64).traceFrame 2 0 f.src f (!fcsOk)
      if !fcsOk then ((s.count .FCS_ERRORS 2).discardFrame 2 f true, false)
      else if !s.fromServed f then ((s.count .DROPPED 2).discardFrame 2 f false, false)
      else (s, true)

/-- GATEWAY_FRAME_IN (R284): a request to the gateway itself is delivered at once, its reply returns on LP. -/
def execGatewayFrameIn (t : Nat) (f : Frame) (fcsOk : Bool) (s : State) : Host.Outcome State Fault Refusal :=
  let s := s.at t
  .next (
    if s.mode = 0 || s.rd .LINK 2 = 0 || isTimeFrame f then s
    else
      match s.receiveLp f fcsOk with
      | (s, false) => s
      | (s, true) => if s.isOwn f.dest || f.dest = 0xFFFE then s.deliverFrame 2 f true else s.insertFrame f)

/-- GW_TIMEOUT (R297): the wait on a tag has expired. Whether a reply arrives in the cycle of expiry is known once that cycle is over (R16, log
entry 147). -/
def execGwTimeout (t : Nat) (tag : Fin 128) (s : State) : Host.Outcome State Fault Refusal :=
  let s := s.at t
  .next (
    match tget none s.gateway tag with
    | none => s
    | some w =>
      if w.expires = 0 || decide (s.now ≤ w.expires) then s
      else if w.tries < s.rdN .GW_RETRIES 0 then
        match s.push 71 (.frame { w.frame with retry := true }) with
        | (s, true) =>
          { s with gateway := tset none s.gateway tag (some { w with expires := 0, tries := w.tries + 1 }) }.count .GW_RETRIES_SENT 0
        | (s, false) => s
      else
        ({ s with gateway := tset none s.gateway tag none }.count .GW_GIVEN_UP 0).detect 0x5A 0x13)

-- own frames

/-- The frame at the head of Q71, if this cycle may pop it. -/
def State.headFrame (s : State) : Option Frame :=
  if s.poppable 71 = 0 then none
  else
    match (s.queue 71).pkts.head? with
    | some (.frame f) => some f
    | _ => none

/-- The last bit of an own frame whose Yorun header starts on port `p` now leaves: GW_TIMEOUT of a head's request starts (R297), a reset may
follow the reply to its request (R316). -/
def State.afterSend (s : State) (p : Nat) (f : Frame) : State :=
  let e := s.now + headerTicks p f
  let s := s.iff (f.kind = 1 && f.index = 0x1001 && f.sub = 6 && f.result = 0 && s.rd .resetDue 0 ≠ 0) (fun s => s.wr .resetSent 0 (e + 1 : Nat))
  match tget none s.gateway f.tag with
  | some w =>
    if f.kind = 0 && s.served = some f.src then
      { s with gateway := tset none s.gateway f.tag (some { w with expires := e + s.rdN .GW_TIMEOUT 0 }) }
    else s
  | none => s

/-- A frame of Q71 starts on ring port `p` (R273, R290); a head's SWEEP passes its gateway here (R299, R300). -/
def State.sendRing (s : State) (p waited : Nat) (f : Frame) : State :=
  let r := s.sweepPass (if p = 0 then { f with wraps := 1 } else f) false
  let s := (r.1.keepMax .INSERT_WAIT_MAX p waited).wr .lastTx p 71
  (s.onWire p r.2 false).afterSend p r.2

/-- A frame as it starts to leave: a reply carries the status word of the present cycle (R37). -/
def State.sampled (s : State) (f : Frame) : Frame := if f.kind = 1 && s.isOwn f.src then { f with status := s.statusWord } else f

/-- A frame of Q71 goes to the port it takes: LP for the served head, else RB, or RA while RB is down (R290). The status word of a reply is
sampled now (R37). -/
def State.sendOwnFrame (s : State) (waited : Nat) (f : Frame) : State :=
  let f := s.sampled f
  if s.served = some f.dest then
    if s.rd .LINK 2 = 0 then s else ((s.pop 71).1.transmit 2 f false).afterSend 2 f
  else if !s.portDown 1 then (s.popSend 71).1.sendRing 1 waited f
  else if !s.portDown 0 then (s.popSend 71).1.sendRing 0 waited f
  else s

/-- OWN_FRAME_SEND (R290): the oldest frame of Q71 is sent, after a wait of `waited` × 10 ns. `t` is the cycle in which its Yorun header starts
(R37); for a SWEEP of the served head, the one in which this module's slot enters the gorge. -/
def execOwnFrameSend (t : Nat) (waited : Nat) (s : State) : Host.Outcome State Fault Refusal :=
  let s := s.at t
  .next (
    match s.headFrame with
    | some f => if s.mode = 0 then s else s.sendOwnFrame waited f
    | none => s)

-- links

/-- The frame under the rewind mark of queue `q`. -/
def State.rewound (s : State) (q : Nat) : Option Frame :=
  if s.rd .REWIND_VALID q = 1 then
    match (s.queue q).rewind with
    | some (.frame f) => some f
    | _ => none
  else none

/-- The packet that lost port `p` was sending, or last sent, is sent again on the other port, or dropped (R274, R301). -/
def State.resend (s : State) (p : Nat) : State :=
  let q := s.rdN .lastTx p
  if q = 0 then s
  else
    let s := s.wr .lastTx p 0
    match s.rewound q with
    | some f =>
      let o := otherPort p
      let s := s.count .RESENDS q
      let f := if q = 71 then s.sampled f else f
      if s.portDown o then s else (s.wr .lastTx o q).onWire o { f with wraps := f.wraps + 1 } false
    | none => (s.count .REWIND_LOST q).detect 0x50 0x10 q

/-- LINK_LOST (R301): a ring port wraps. `partly`: a frame was being received on it. -/
def execLinkLost (t : Nat) (port : Fin 2) (partly : Bool) (s : State) : Host.Outcome State Fault Refusal :=
  let s := s.at t
  let p := port.val
  .next (
    if s.mode = 0 || s.rd .LINK p = 0 then s
    else
      let s := ((s.wr .LINK p 0).wr .PORT_AMPLITUDE p 0).wr .WRAPPED p 1
      let s := s.iff partly (fun s => s.count .ABANDONED p)
      let s := s.detectShadow (0x58 + p) 1 0 [(0x58 + otherPort p, []), (0x5A, []), (0x50, [0x10])] (.time (s.now + 50000000))
      ((s.count .LINK_LOSSES p).setRed (10 + p) false).resend p)

/-- LP_LINK_LOST (R307). -/
def execLpLinkLost (t : Nat) (s : State) : Host.Outcome State Fault Refusal :=
  let s := s.at t
  .next (
    if s.mode = 0 || s.rd .LINK 2 = 0 then s
    else ((((s.wr .LINK 2 0).wr .PORT_AMPLITUDE 2 0).count .LINK_LOSSES 2).detect 0x5A 1).setRed 12 false)

/-- Frames that waited in Q70 for LP to come up are sent. -/
def State.drainLp (s : State) : Nat → State
  | 0 => s
  | k + 1 =>
    match s.popSend 70 with
    | (s, some (.frame f)) => ((s.wr .lastTx 2 70).onWire 2 f false).drainLp k
    | (s, _) => s

/-- The amplitude a port runs at (R278, R279): 2.4 Vpp only where this end permits what the neighbour offers. -/
def State.agreed (s : State) (p offered : Nat) : Nat :=
  if p = 2 then 3
  else if offered = 2 && s.rd (if p = 0 then .AMPLITUDE_PERMIT_RA else .AMPLITUDE_PERMIT_RB) 0 = 1 then 2 else 1

/-- LINK_UP (R302): a link comes up. A port that is not wrapped carries frames at once. -/
def execLinkUp (t : Nat) (port : Fin 3) (amplitude : Fin 4) (s : State) : Host.Outcome State Fault Refusal :=
  let s := s.at t
  let p := port.val
  .next (
    if s.mode = 0 || s.rd .LINK p ≠ 0 then s
    else
      let s := (s.wr .LINK p 1).wr .PORT_AMPLITUDE p (s.agreed p amplitude)
      let s := ((s.wr .linkAt p (s.now + 1 : Nat)).wrBit .portSeen 0 p true).wr .probeAt p 0
      if p = 2 then ((s.endCause 0x5A 1).setRed 12 true).drainLp (s.queue 70).pkts.length
      else s.iff (s.rd .WRAPPED p = 0) (fun s => s.setRed (10 + p) true))

/-- LINK_HELD (R302): the link has stayed up for LINK_HOLD, and a wrapped port unwraps. -/
def execLinkHeld (t : Nat) (port : Fin 3) (s : State) : Host.Outcome State Fault Refusal :=
  let s := s.at t
  let p := port.val
  .next (
    if s.rd .LINK p = 1 && decide (s.rdN .linkAt p + 100000 * s.rdN .LINK_HOLD 0 ≤ s.now + 1) then
      let s := s.wr .LINK p 2
      if s.rd .WRAPPED p = 1 then (((s.wr .WRAPPED p 0).endCause (0x58 + p) 1).setRed (10 + p) true).detect (0x58 + p) 0x20
      else s
    else s)

-- link probes

/-- A frame of a link probe with its time stamps (R305). -/
def State.probeFrame (s : State) (kind : Nat) (stamps : List Nat) : Frame :=
  { ether := true, version := 1, kind := kind, op := opTime, dest := 0xFFFE, src := s.rdN .NODE_NUMBER 0, tag := 0, retry := false, wraps := 0
    gateway := false, enum := false, index := 0, sub := 0, result := 0, status := 0, data := stamps.flatMap (leBytes 8), reserved := false
    carried := true }

/-- A time stamp of the present cycle in 1/16 ns. -/
def State.stamp (s : State) (phase : Nat) : Nat := 160 * s.now + phase % 160

/-- LINK_PROBE_SEND (R305): due at link-up and every second after. -/
def execLinkProbeSend (t : Nat) (port : Fin 3) (phase : Nat) (s : State) : Host.Outcome State Fault Refusal :=
  let s := s.at t
  .next (
    if s.mode = 0 || s.rd .LINK port = 0 || (s.rd .probeAt port ≠ 0 && decide (s.now + 1 < s.rdN .probeAt port + second)) then s
    else (s.wr .probeAt port (s.now + 1 : Nat)).transmit port (s.probeFrame 0 [s.stamp phase, 0, 0]) false)

/-- A probe frame received on port `p` and delivered (R287). -/
def State.probeIn (s : State) (p : Nat) (f : Frame) : State × Bool :=
  match s.through (64 + p) f with
  | (s, false) => (s, false)
  | (s, true) => ((s.count .FRAMES_IN p 1 64).traceFrame p 0 f.src f false).through 67 f

/-- LINK_PROBE (R305): the neighbour's probe is answered; `t1` is its T1, `t2` the stamp of its arrival, the answer's start-of-frame
delimiter lies in the cycle `t`. -/
def execLinkProbe (t : Nat) (port : Fin 3) (t1 t2 phase : Nat) (s : State) : Host.Outcome State Fault Refusal :=
  let s := s.at t
  .next (
    if s.mode = 0 || s.rd .LINK port = 0 || s.rd .takeover 0 = 1 || s.rd .bootStuck 0 = 1 then s
    else
      match s.probeIn port (s.probeFrame 0 [t1, 0, 0]) with
      | (s, false) => s
      | (s, true) => s.transmit port (s.probeFrame 1 [t1, t2, s.stamp phase]) false)

/-- LINK_DELAY as the mean of the delays held, rounded down; a mean outside its type is free (log entry 2). -/
def State.meanDelay (s : State) (p : Nat) (l : List Int) : State :=
  let m := fdiv l.sum l.length
  if 0 ≤ m && m < 2 ^ 32 then s.wr .LINK_DELAY p m else (s.draw 32).2.wr .LINK_DELAY p (s.draw 32).1

/-- LINK_PROBE_ANSWER (R305): the link delay it yields joins the last eight. -/
def execLinkProbeAnswer (t : Nat) (port : Fin 3) (t1 t2 t3 : Nat) (phase : Nat) (s : State) : Host.Outcome State Fault Refusal :=
  let s := s.at t
  .next (
    if s.mode = 0 || s.rd .LINK port = 0 || s.rd .probeAt port = 0 then s
    else
      match s.probeIn port (s.probeFrame 1 [t1, t2, t3]) with
      | (s, false) => s
      | (s, true) =>
        let d := fdiv (((s.stamp phase : Nat) - t1 : Int) - ((t3 : Int) - t2)) 2
        let l := (d :: tget [] s.delays port).take 8
        { s with delays := tset [] s.delays port l }.meanDelay port l)

-- ring time

/-- TIME_HEAD: the lowest head from which a TIME distribution frame has come within the last second (R303). -/
def State.findHead (s : State) : State :=
  match (List.range 4).find? (fun h => s.rd .headAt h ≠ 0 && decide (s.now + 1 < s.rdN .headAt h + second)) with
  | some h => s.wr .TIME_HEAD 0 h
  | none => s.wr .TIME_HEAD 0 0xFF

/-- ACTIVE_HEAD_LAPSE (R303). -/
def execActiveHeadLapse (t : Nat) (s : State) : Host.Outcome State Fault Refusal := .next (s.at t).findHead

/-- The estimate of ring time at a time stamp in 1/16 ns, in 2^-32 tick. -/
def State.ringAtStamp (s : State) (x : Nat) : Int :=
  s.ringAt (x / 160) + fdiv ((2 ^ 32 + s.rd .rtRateFine 0) * (x % 160 : Nat)) 160

/-- The ring time that a TIME frame gives at the time stamp of its arrival on port `p`, in 2^-32 tick (R304). -/
def State.frameTime (s : State) (p : Nat) (f : Frame) : Int :=
  let origin := leNat (f.data.take 8)
  let corr := leNat ((f.data.drop 8).take 4)
  (origin : Int) * 2 ^ 32 + fdiv ((corr + s.rdN .LINK_DELAY p : Nat) * 2 ^ 32) 160

/-- The estimate brought up to the present cycle, with no slew left. -/
def State.rebaseRing (s : State) : State :=
  let r := s.ringAt s.now
  (((s.wr .rtOffset 0 (r - (s.now : Int) * 2 ^ 32)).wr .rtAt 0 s.now).wr .rtSlewLeft 0 0).wr .rtSlewEnd 0 s.now

/-- What a forward step of the estimate from `a` to `b` (ticks) carries past (R367, R369): waiting releases start late, latches fire, SYNC
instants are passed over. -/
def State.stepPast (s : State) (a b : Nat) : State :=
  let s := s.forAll 64 (fun s n => s.iff (s.rd .relWait n = 1 && decide (s.rdN .RELEASE_PENDING n ≤ b)) (fun s => s.wr .relLate n 1))
  let s := s.forAll 16 (fun s c => s.iff (s.rd .LATCH_SRC c = 3 && s.latchDue c) (fun s => s.capture c))
  if s.rd .SYNC_MODE 0 ≠ 1 then s
  else
    let from' := max a (s.rdN .syncNext 0)
    let s := if from' < b then s.count .SYNC_SKIPPED 0 (syncCount from' b (s.rdN .SYNC_PERIOD 0) (s.rdN .SYNC_PHASE 0)) else s
    match syncInstant b (s.rdN .SYNC_PERIOD 0) (s.rdN .SYNC_PHASE 0) with
    | some i => s.wr .syncNext 0 (max i (s.rdN .syncNext 0) : Nat)
    | none => s

/-- The estimate stepped by `e` (R365). -/
def State.stepRing (s : State) (e : Int) : State :=
  let s := s.rebaseRing
  let a := s.ring
  let s := (s.wr .rtOffset 0 (s.rd .rtOffset 0 + e)).count .RT_STEPS 0
  let s := ((s.wr .SYNC_STATE 0 1).wr .rtGood 0 0).wr .rtBad 0 0
  s.iff (0 < e) (fun s => s.stepPast a s.ring)

/-- A microsecond in 2^-32 tick. -/
def microsecond : Int := 100 * 2 ^ 32

/-- The estimate slewed by a frame with error `e` that comes `dt` ticks after the one before (R365): e / 4 over the next 100 ms, and the rate
by e / 8 per second. -/
def State.slewRing (s : State) (e : Int) (dt : Nat) : State :=
  let s := s.rebaseRing
  let s := (s.wr .rtSlewLeft 0 (fdiv e 4)).wr .rtSlewEnd 0 (s.now + 10000000 : Nat)
  if dt = 0 then s
  else
    let r := s.rd .rtRateFine 0 + fdiv e (8 * dt)
    (s.wr .rtRateFine 0 r).wr .RT_RATE 0 (clampInt (-2 ^ 31) (2 ^ 31 - 1) (fdiv (r * 10 ^ 9) (2 ^ 32)))

/-- The changes of SYNC_STATE that a slewed frame brings (R366). -/
def State.slewState (s : State) (e : Int) : State :=
  let good := decide (4 * e.natAbs ≤ microsecond.natAbs)
  let bad := decide (microsecond.natAbs < e.natAbs)
  match s.rdN .SYNC_STATE 0 with
  | 1 =>
    let k := if good then s.rdN .rtGood 0 + 1 else 0
    if 8 ≤ k then ((s.wr .SYNC_STATE 0 2).wr .rtBad 0 0).wr .rtOnce 0 1 else s.wr .rtGood 0 k
  | 2 =>
    let k := if bad then s.rdN .rtBad 0 + 1 else 0
    if 3 ≤ k then (s.wr .SYNC_STATE 0 1).wr .rtGood 0 0 else s.wr .rtBad 0 k
  | _ => s.wr .holdoverFrom 0 s.now

/-- The trim of the backup oscillator follows RT_RATE, by at most 10 ppm per second (R364). -/
def State.followTrim (s : State) : State :=
  if s.rd .CLK_SOURCE 0 ≠ 2 || s.rd .SYNC_STATE 0 ≠ 2 then s
  else
    let lim := fdiv (10000 * ((s.now - s.rdN .pllTrimAt 0 : Nat) : Int)) second
    let d := s.backupStart + s.rd .RT_RATE 0 - s.rd .pllTrim 0
    (s.wr .pllTrim 0 (s.rd .pllTrim 0 + clampInt (-lim) lim d)).wr .pllTrimAt 0 s.now

/-- A usable TIME frame of the active head, which reached port `p` at the time stamp `x` (R304, R365, R366). -/
def State.useTime (s : State) (p : Nat) (f : Frame) (x : Nat) : State :=
  let e := s.frameTime p f - s.ringAtStamp x
  let ns := fdiv (e * 10) (2 ^ 32)
  let s := s.count .TIME_FRAMES 0 1 64
  let s := if -2 ^ 31 ≤ ns && ns < 2 ^ 31 then s.wr .RT_ERROR 0 ns else (s.draw 32).2.wr .RT_ERROR 0 (signed 32 (s.draw 32).1)
  let dt := s.now - s.rdN .LAST_TIME_FRAME 0
  let s := s.wr .LAST_TIME_FRAME 0 s.now
  let s := if s.rd .SYNC_STATE 0 = 0 || decide (10 * microsecond.natAbs < e.natAbs) then s.stepRing e
    else (s.slewRing e dt).slewState e
  s.followTrim.checkSync.pollWaits

/-- A TIME distribution frame received with a correct FCS: its head is heard, and the active head's is used (R303). -/
def State.hearTime (s : State) (p : Nat) (f : Frame) (x : Nat) : State :=
  if !isHead f.src || f.data.length ≠ 16 then s
  else
    let h := f.src - 0x400
    let s := (s.wr .headAt h (s.now + 1 : Nat)).findHead
    if s.rdN .TIME_HEAD 0 = h then s.useTime p f (min x (160 * s.now)) else s

/-- CORR with this module's delay added: the hop latency and the link delay of the receiving port, in 1/16 ns (R304). -/
def State.addDelay (s : State) (p hop : Nat) (f : Frame) : Frame :=
  if f.data.length ≠ 16 then f
  else
    let c := leNat ((f.data.drop 8).take 4)
    { f with data := putBytes f.data 8 (leBytes 4 (c + hop + s.rdN .LINK_DELAY p)) }

/-- A TIME distribution frame on ring port `p` (R288): passed on with its delay, and delivered. -/
def State.timeOnRing (s : State) (p : Nat) (f : Frame) (fcsOk : Bool) (hop : Nat) (idle : Bool) (x : Nat) : State :=
  match s.receive p f fcsOk with
  | (s, none) => s
  | (s, some _) =>
    if s.lapEnds p f then s.discardFrame p f (!fcsOk)
    else
      let g := s.addDelay p hop f
      let r := s.through 67 f
      let s := if r.2 then
          let s := r.1.traceFrame p 1 f.src f (!fcsOk)
          if fcsOk then s.hearTime p f x else s
        else r.1
      s.forward p g (!fcsOk) (if idle then hop / 160 else 0)

/-- A TIME distribution frame of the served head on LP (R284, R304): used, and sent onto the ring at once. -/
def State.timeOnLp (s : State) (f : Frame) (fcsOk : Bool) (hop x : Nat) : State :=
  match s.receiveLp f fcsOk with
  | (s, false) => s
  | (s, true) =>
    let s := s.hearTime 2 f x
    let g := { s.addDelay 2 hop f with gateway := true }
    let p := if s.portDown 1 then 0 else 1
    match s.through 71 g with
    | (s, true) => if s.portDown p then s else (s.wr .REWIND_VALID 71 1).sendRing p 0 g
    | (s, false) => s

/-- TIME_DISTRIBUTION (R365): `hop` is the frame's hop latency and `stamp` the device time at its start-of-frame delimiter. -/
def execTimeDistribution (t : Nat) (port : Fin 3) (f : Frame) (fcsOk : Bool) (hop : Nat) (idle : Bool) (stamp : Nat) (s : State) :
    Host.Outcome State Fault Refusal :=
  let s := s.at t
  .next (
    if s.mode = 0 || s.rd .LINK port = 0 || !isTimeFrame f || f.kind ≠ 2 then s
    else if port.val = 2 then s.timeOnLp f fcsOk hop stamp
    else s.timeOnRing port f fcsOk hop idle stamp)

end Sys2Proof.Machine
end

