-- ==== Sys2Proof/Machine/Dispatch.lean ====
section
/-! DEFINITION. The meaning of every command, by name: one arm for each row of the opcode table, in its order. -/
namespace Sys2Proof.Machine

/-- The effect of a command on everything but the queue of waiting commands. -/
def exec (i : Instr) (s : State) : Host.Outcome State Fault Refusal :=
  match i with
  | .passMark w => Sys2Proof.Machine.execPassMark w s
  | .staleIncrement n => Sys2Proof.Machine.execStaleIncrement n s
  | .feedbackFoldIn t n m => Sys2Proof.Machine.execFeedbackFoldIn t n m s
  | .profileStep t n m => Sys2Proof.Machine.execProfileStep t n m s
  | .interpolationSetUp t n m => Sys2Proof.Machine.execInterpolationSetUp t n m s
  | .loadIndexStep t n m => Sys2Proof.Machine.execLoadIndexStep t n m s
  | .axisProgramRun t slot m => Sys2Proof.Machine.execAxisProgramRun t slot m s
  | .tripProgramRun t n => Sys2Proof.Machine.execTripProgramRun t n s
  | .slotCutOff t slot => Sys2Proof.Machine.execSlotCutOff t slot s
  | .slotUncorrectable t slot => Sys2Proof.Machine.execSlotUncorrectable t slot s
  | .bankRebuildDone => Sys2Proof.Machine.execBankRebuildDone s
  | .engineFailing t e storeError => Sys2Proof.Machine.execEngineFailing t e storeError s
  | .fallbackLoadDone => Sys2Proof.Machine.execFallbackLoadDone s
  | .fallbackPlansBuilt t => Sys2Proof.Machine.execFallbackPlansBuilt t s
  | .engineClear h v => Sys2Proof.Machine.execEngineClear h v s
  | .engineSelfTestDone t e pass => Sys2Proof.Machine.execEngineSelfTestDone t e pass s
  | .ledgerScrub t n w ecc => Sys2Proof.Machine.execLedgerScrub t n w ecc s
  | .feedLost t feed volt => Sys2Proof.Machine.execFeedLost t feed volt s
  | .logicBuckLost t buck volt => Sys2Proof.Machine.execLogicBuckLost t buck volt s
  | .auxLost t => Sys2Proof.Machine.execAuxLost t s
  | .stewardLost t => Sys2Proof.Machine.execStewardLost t s
  | .tsMismatch t n w high out => Sys2Proof.Machine.execTsMismatch t n w high out s
  | .tsSelfTest t faulty => Sys2Proof.Machine.execTsSelfTest t faulty s
  | .flashBankLost t bank => Sys2Proof.Machine.execFlashBankLost t bank s
  | .sdramCorrected t bank addr => Sys2Proof.Machine.execSdramCorrected t bank addr s
  | .sdramUncorrectable t bank addr => Sys2Proof.Machine.execSdramUncorrectable t bank addr s
  | .read h index sub => Sys2Proof.Machine.execRead h index sub s
  | .readBlock h index sub count => Sys2Proof.Machine.execReadBlock h index sub count s
  | .writeBlock h index sub data => Sys2Proof.Machine.execWriteBlock h index sub data s
  | .registerWrite h index sub data => Sys2Proof.Machine.execRegisterWrite h index sub data s
  | .rwcWrite h index sub data => Sys2Proof.Machine.execRwcWrite h index sub data s
  | .w1cWrite h index sub data => Sys2Proof.Machine.execW1cWrite h index sub data s
  | .stageDiscard h v => Sys2Proof.Machine.execStageDiscard h v s
  | .commit h => Sys2Proof.Machine.execCommit h s
  | .commitTakesEffect => Sys2Proof.Machine.execCommitTakesEffect s
  | .ackOrdinal h v => Sys2Proof.Machine.execAckOrdinal h v s
  | .logSeen h v => Sys2Proof.Machine.execLogSeen h v s
  | .target h n v => Sys2Proof.Machine.execTarget h n v s
  | .stop h n => Sys2Proof.Machine.execStop h n s
  | .stopFlush h n => Sys2Proof.Machine.execStopFlush h n s
  | .setPosition h n v => Sys2Proof.Machine.execSetPosition h n v s
  | .movePush h n ws => Sys2Proof.Machine.execMovePush h n ws s
  | .queueFlush h n => Sys2Proof.Machine.execQueueFlush h n s
  | .limitChange h n which v => Sys2Proof.Machine.execLimitChange h n which v s
  | .lowMark h n v => Sys2Proof.Machine.execLowMark h n v s
  | .abs t n => Sys2Proof.Machine.execAbs t n s
  | .rel t n => Sys2Proof.Machine.execRel t n s
  | .vel t n => Sys2Proof.Machine.execVel t n s
  | .dwell t n => Sys2Proof.Machine.execDwell t n s
  | .wait t n => Sys2Proof.Machine.execWait t n s
  | .waitTimeout t n => Sys2Proof.Machine.execWaitTimeout t n s
  | .setLimits t n => Sys2Proof.Machine.execSetLimits t n s
  | .setCurrents t n => Sys2Proof.Machine.execSetCurrents t n s
  | .call t n => Sys2Proof.Machine.execCall t n s
  | .homeHere t n => Sys2Proof.Machine.execHomeHere t n s
  | .homeEndStop t n => Sys2Proof.Machine.execHomeEndStop t n s
  | .homeLimitInput t n => Sys2Proof.Machine.execHomeLimitInput t n s
  | .homeLimitOrEndStop t n => Sys2Proof.Machine.execHomeLimitOrEndStop t n s
  | .homeExerciseRun t n => Sys2Proof.Machine.execHomeExerciseRun t n s
  | .releaseStart t n => Sys2Proof.Machine.execReleaseStart t n s
  | .followEngage h n => Sys2Proof.Machine.execFollowEngage h n s
  | .followDisengage h n => Sys2Proof.Machine.execFollowDisengage h n s
  | .ratioChange h n den v => Sys2Proof.Machine.execRatioChange h n den v s
  | .stepEdge t pair dirHigh dirAge => Sys2Proof.Machine.execStepEdge t pair dirHigh dirAge s
  | .pairFault t pair on => Sys2Proof.Machine.execPairFault t pair on s
  | .streamTimeout t n => Sys2Proof.Machine.execStreamTimeout t n s
  | .chopperPeak t n ph => Sys2Proof.Machine.execChopperPeak t n ph s
  | .chopperValley t n ph => Sys2Proof.Machine.execChopperValley t n ph s
  | .offTimeMax t n ph => Sys2Proof.Machine.execOffTimeMax t n ph s
  | .refSignChange t n ph => Sys2Proof.Machine.execRefSignChange t n ph s
  | .fastBelowTwoCodes t n ph => Sys2Proof.Machine.execFastBelowTwoCodes t n ph s
  | .adaptReset h n => Sys2Proof.Machine.execAdaptReset h n s
  | .adaptEnable h n v => Sys2Proof.Machine.execAdaptEnable h n v s
  | .learnStart h n => Sys2Proof.Machine.execLearnStart h n s
  | .learnAbort h n => Sys2Proof.Machine.execLearnAbort h n s
  | .learnLegEnd t n => Sys2Proof.Machine.execLearnLegEnd t n s
  | .stallRelease h n => Sys2Proof.Machine.execStallRelease h n s
  | .driveEnable h n => Sys2Proof.Machine.execDriveEnable h n s
  | .driveDisable h n => Sys2Proof.Machine.execDriveDisable h n s
  | .rearm h n => Sys2Proof.Machine.execRearm h n s
  | .diagStart h n => Sys2Proof.Machine.execDiagStart h n s
  | .diagAll h => Sys2Proof.Machine.execDiagAll h s
  | .diagTestStart t k => Sys2Proof.Machine.execDiagTestStart t k s
  | .diagEnd t k volts busLow => Sys2Proof.Machine.execDiagEnd t k volts busLow s
  | .ocRetry n => Sys2Proof.Machine.execOcRetry n s
  | .retryCountReset n => Sys2Proof.Machine.execRetryCountReset n s
  | .directModeEnter h n => Sys2Proof.Machine.execDirectModeEnter h n s
  | .directModeExit h n => Sys2Proof.Machine.execDirectModeExit h n s
  | .directFire h n => Sys2Proof.Machine.execDirectFire h n s
  | .directPulseEnd t n => Sys2Proof.Machine.execDirectPulseEnd t n s
  | .overcurrent t n switches => Sys2Proof.Machine.execOvercurrent t n switches s
  | .bootstrapRefresh t n hs vbs => Sys2Proof.Machine.execBootstrapRefresh t n hs vbs s
  | .bootstrapRefreshEnd t n hs vbs => Sys2Proof.Machine.execBootstrapRefreshEnd t n hs vbs s
  | .bootstrapLow t n hs vbs => Sys2Proof.Machine.execBootstrapLow t n hs vbs s
  | .pumpFail t k => Sys2Proof.Machine.execPumpFail t k s
  | .openPhase n ph => Sys2Proof.Machine.execOpenPhase n ph s
  | .dieHot t k => Sys2Proof.Machine.execDieHot t k s
  | .dieShutdown t k => Sys2Proof.Machine.execDieShutdown t k s
  | .dieCooled t k => Sys2Proof.Machine.execDieCooled t k s
  | .busLow t v => Sys2Proof.Machine.execBusLow t v s
  | .busUndervoltage t v => Sys2Proof.Machine.execBusUndervoltage t v s
  | .busRecovered t v => Sys2Proof.Machine.execBusRecovered t v s
  | .busHigh t v => Sys2Proof.Machine.execBusHigh t v s
  | .busOvervoltage t dies v => Sys2Proof.Machine.execBusOvervoltage t dies v s
  | .shortBrakeEnd t dies v => Sys2Proof.Machine.execShortBrakeEnd t dies v s
  | .enaRemoved t input => Sys2Proof.Machine.execEnaRemoved t input s
  | .enaRestored t input => Sys2Proof.Machine.execEnaRestored t input s
  | .enaDiscrepancy t => Sys2Proof.Machine.execEnaDiscrepancy t s
  | .quadratureEdge t c a b => Sys2Proof.Machine.execQuadratureEdge t c a b s
  | .index t c => Sys2Proof.Machine.execIndex t c s
  | .speedTimeout t c => Sys2Proof.Machine.execSpeedTimeout t c s
  | .ssiFrameStart t c dataHigh => Sys2Proof.Machine.execSsiFrameStart t c dataHigh s
  | .ssiFrameArrival t c word mono => Sys2Proof.Machine.execSsiFrameArrival t c word mono s
  | .ssiMonoTimeout t c => Sys2Proof.Machine.execSsiMonoTimeout t c s
  | .ssiDeadline t c => Sys2Proof.Machine.execSsiDeadline t c s
  | .lineFault t c pair => Sys2Proof.Machine.execLineFault t c pair s
  | .chPreset h c v => Sys2Proof.Machine.execChPreset h c v s
  | .fbAlign h n => Sys2Proof.Machine.execFbAlign h n s
  | .latchSrc h c v => Sys2Proof.Machine.execLatchSrc h c v s
  | .latchCapture t c => Sys2Proof.Machine.execLatchCapture t c s
  | .senseEdge t i0 high => Sys2Proof.Machine.execSenseEdge t i0 high s
  | .conversionTrigger t => Sys2Proof.Machine.execConversionTrigger t s
  | .conversionComplete t c code => Sys2Proof.Machine.execConversionComplete t c code s
  | .harvest t c => Sys2Proof.Machine.execHarvest t c s
  | .urgentReq h c v => Sys2Proof.Machine.execUrgentReq h c v s
  | .cvRestart h c => Sys2Proof.Machine.execCvRestart h c s
  | .cvSelfCheckDone t c ground dac => Sys2Proof.Machine.execCvSelfCheckDone t c ground dac s
  | .calZeroPoint h => Sys2Proof.Machine.execCalZeroPoint h s
  | .calFullPoint h => Sys2Proof.Machine.execCalFullPoint h s
  | .calCompute h => Sys2Proof.Machine.execCalCompute h s
  | .calPointDone t mean oor => Sys2Proof.Machine.execCalPointDone t mean oor s
  | .calStore h => Sys2Proof.Machine.execCalStore h s
  | .oNop u => Sys2Proof.Machine.execONop u s
  | .oAdd u d a b => Sys2Proof.Machine.execOAdd u d a b s
  | .oSub u d a b => Sys2Proof.Machine.execOSub u d a b s
  | .oAnd u d a b => Sys2Proof.Machine.execOAnd u d a b s
  | .oOr u d a b => Sys2Proof.Machine.execOOr u d a b s
  | .oXor u d a b => Sys2Proof.Machine.execOXor u d a b s
  | .oShl u d a b => Sys2Proof.Machine.execOShl u d a b s
  | .oShr u d a b => Sys2Proof.Machine.execOShr u d a b s
  | .oSra u d a b => Sys2Proof.Machine.execOSra u d a b s
  | .oMin u d a b => Sys2Proof.Machine.execOMin u d a b s
  | .oMax u d a b => Sys2Proof.Machine.execOMax u d a b s
  | .oAddw u d a b => Sys2Proof.Machine.execOAddw u d a b s
  | .oSubw u d a b => Sys2Proof.Machine.execOSubw u d a b s
  | .oCtxn u d => Sys2Proof.Machine.execOCtxn u d s
  | .oArg u d => Sys2Proof.Machine.execOArg u d s
  | .oCallp u d => Sys2Proof.Machine.execOCallp u d s
  | .oAddi u d a imm => Sys2Proof.Machine.execOAddi u d a imm s
  | .oAndi u d a imm => Sys2Proof.Machine.execOAndi u d a imm s
  | .oOri u d a imm => Sys2Proof.Machine.execOOri u d a imm s
  | .oXori u d a imm => Sys2Proof.Machine.execOXori u d a imm s
  | .oShli u d a imm => Sys2Proof.Machine.execOShli u d a imm s
  | .oShri u d a imm => Sys2Proof.Machine.execOShri u d a imm s
  | .oSrai u d a imm => Sys2Proof.Machine.execOSrai u d a imm s
  | .oMovi u d imm => Sys2Proof.Machine.execOMovi u d imm s
  | .oOrhi u d a imm => Sys2Proof.Machine.execOOrhi u d a imm s
  | .oDone u => Sys2Proof.Machine.execODone u s
  | .oMul u d a b => Sys2Proof.Machine.execOMul u d a b s
  | .oMulu u d a b => Sys2Proof.Machine.execOMulu u d a b s
  | .oEnd u => Sys2Proof.Machine.execOEnd u s
  | .oBeq u a b off => Sys2Proof.Machine.execOBeq u a b off s
  | .oBne u a b off => Sys2Proof.Machine.execOBne u a b off s
  | .oBlt u a b off => Sys2Proof.Machine.execOBlt u a b off s
  | .oBge u a b off => Sys2Proof.Machine.execOBge u a b off s
  | .oBltu u a b off => Sys2Proof.Machine.execOBltu u a b off s
  | .oBgeu u a b off => Sys2Proof.Machine.execOBgeu u a b off s
  | .oBra u off => Sys2Proof.Machine.execOBra u off s
  | .oLoop u count => Sys2Proof.Machine.execOLoop u count s
  | .oEndl u => Sys2Proof.Machine.execOEndl u s
  | .oLidx u d => Sys2Proof.Machine.execOLidx u d s
  | .oTime u d => Sys2Proof.Machine.execOTime u d s
  | .oRtime u d => Sys2Proof.Machine.execORtime u d s
  | .oMode u d => Sys2Proof.Machine.execOMode u d s
  | .oLdl u l ecc => Sys2Proof.Machine.execOLdl u l ecc s
  | .oLdlw u l ecc => Sys2Proof.Machine.execOLdlw u l ecc s
  | .oStl u l => Sys2Proof.Machine.execOStl u l s
  | .oStlw u l => Sys2Proof.Machine.execOStlw u l s
  | .oPush u d q e => Sys2Proof.Machine.execOPush u d q e s
  | .oPop u d q => Sys2Proof.Machine.execOPop u d q s
  | .oQdep u d q => Sys2Proof.Machine.execOQdep u d q s
  | .oObjr u d entry half => Sys2Proof.Machine.execOObjr u d entry half s
  | .oObjw u d entry => Sys2Proof.Machine.execOObjw u d entry s
  | .imageSel h v => Sys2Proof.Machine.execImageSel h v s
  | .imageOffset h v => Sys2Proof.Machine.execImageOffset h v s
  | .imageChunk h bytes => Sys2Proof.Machine.execImageChunk h bytes s
  | .imageClose h len => Sys2Proof.Machine.execImageClose h len s
  | .imageCloseDone t => Sys2Proof.Machine.execImageCloseDone t s
  | .imageErase h v => Sys2Proof.Machine.execImageErase h v s
  | .swapStart h v => Sys2Proof.Machine.execSwapStart h v s
  | .swapComplete => Sys2Proof.Machine.execSwapComplete s
  | .queuePointer t q ptr => Sys2Proof.Machine.execQueuePointer t q ptr s
  | .basinEcc t q off => Sys2Proof.Machine.execBasinEcc t q off s
  | .release h q => Sys2Proof.Machine.execRelease h q s
  | .mailPush h m bytes => Sys2Proof.Machine.execMailPush h m bytes s
  | .captureFetch h v => Sys2Proof.Machine.execCaptureFetch h v s
  | .frameArrival t port f fcsOk hop => Sys2Proof.Machine.execFrameArrival t port f fcsOk hop s
  | .gatewayFrameIn t f fcsOk => Sys2Proof.Machine.execGatewayFrameIn t f fcsOk s
  | .ownFrameSend t waited => Sys2Proof.Machine.execOwnFrameSend t waited s
  | .sweep t port f fcsOk hop => Sys2Proof.Machine.execSweep t port f fcsOk hop s
  | .timeDistribution t port f fcsOk hop idle stamp => Sys2Proof.Machine.execTimeDistribution t port f fcsOk hop idle stamp s
  | .linkProbeSend t port phase => Sys2Proof.Machine.execLinkProbeSend t port phase s
  | .linkProbe t port t1 t2 phase => Sys2Proof.Machine.execLinkProbe t port t1 t2 phase s
  | .linkProbeAnswer t port t1 t2 t3 phase => Sys2Proof.Machine.execLinkProbeAnswer t port t1 t2 t3 phase s
  | .note t port f fcsOk hop => Sys2Proof.Machine.execNote t port f fcsOk hop s
  | .gwTimeout t tag => Sys2Proof.Machine.execGwTimeout t tag s
  | .linkLost t port partly => Sys2Proof.Machine.execLinkLost t port partly s
  | .linkUp t port amplitude => Sys2Proof.Machine.execLinkUp t port amplitude s
  | .linkHeld t port => Sys2Proof.Machine.execLinkHeld t port s
  | .resetNLow => Sys2Proof.Machine.execResetNLow s
  | .logicSupplyLost => Sys2Proof.Machine.execLogicSupplyLost s
  | .resetRequest h v => Sys2Proof.Machine.execResetRequest h v s
  | .resetRelease w => Sys2Proof.Machine.execResetRelease w s
  | .bootEnd w => Sys2Proof.Machine.execBootEnd w s
  | .armingComplete => Sys2Proof.Machine.execArmingComplete s
  | .autoRun => Sys2Proof.Machine.execAutoRun s
  | .modeRequestConfigure h => Sys2Proof.Machine.execModeRequestConfigure h s
  | .modeRequestCalibrate h => Sys2Proof.Machine.execModeRequestCalibrate h s
  | .modeRequestArmed h => Sys2Proof.Machine.execModeRequestArmed h s
  | .modeRequestRun h => Sys2Proof.Machine.execModeRequestRun h s
  | .modeRequestSafe h => Sys2Proof.Machine.execModeRequestSafe h s
  | .modeRequestLockout h => Sys2Proof.Machine.execModeRequestLockout h s
  | .modeRequestStandby h => Sys2Proof.Machine.execModeRequestStandby h s
  | .islandTimeout => Sys2Proof.Machine.execIslandTimeout s
  | .islandHold => Sys2Proof.Machine.execIslandHold s
  | .safeEntry => Sys2Proof.Machine.execSafeEntry s
  | .lockoutClear h v => Sys2Proof.Machine.execLockoutClear h v s
  | .standbyEntered => Sys2Proof.Machine.execStandbyEntered s
  | .wake => Sys2Proof.Machine.execWake s
  | .logWrite t => Sys2Proof.Machine.execLogWrite t s
  | .incidentClose => Sys2Proof.Machine.execIncidentClose s
  | .shadowEnd t first => Sys2Proof.Machine.execShadowEnd t first s
  | .dualRail t k tripPath => Sys2Proof.Machine.execDualRail t k tripPath s
  | .railTestEnd t k tripPath followsP followsN => Sys2Proof.Machine.execRailTestEnd t k tripPath followsP followsN s
  | .linkParity t k secondFails => Sys2Proof.Machine.execLinkParity t k secondFails s
  | .injectArm h v => Sys2Proof.Machine.execInjectArm h v s
  | .injectionLapse t => Sys2Proof.Machine.execInjectionLapse t s
  | .tripiRise t => Sys2Proof.Machine.execTripiRise t s
  | .tripiFall t => Sys2Proof.Machine.execTripiFall t s
  | .rootLost t => Sys2Proof.Machine.execRootLost t s
  | .rootRestored t => Sys2Proof.Machine.execRootRestored t s
  | .backupTrim t ppb => Sys2Proof.Machine.execBackupTrim t ppb s
  | .pllSwitch t => Sys2Proof.Machine.execPllSwitch t s
  | .holdoverEntry t => Sys2Proof.Machine.execHoldoverEntry t s
  | .holdoverLimit t => Sys2Proof.Machine.execHoldoverLimit t s
  | .syncOutputPulse t => Sys2Proof.Machine.execSyncOutputPulse t s
  | .syncPulseEnd t => Sys2Proof.Machine.execSyncPulseEnd t s
  | .syncInputEdge t => Sys2Proof.Machine.execSyncInputEdge t s
  | .traceWordOut t => Sys2Proof.Machine.execTraceWordOut t s
  | .dropRecord t => Sys2Proof.Machine.execDropRecord t s
  | .counterFreeze h => Sys2Proof.Machine.execCounterFreeze h s
  | .feedRestored t feed => Sys2Proof.Machine.execFeedRestored t feed s
  | .logicBuckRestored t buck => Sys2Proof.Machine.execLogicBuckRestored t buck s
  | .auxRestored t => Sys2Proof.Machine.execAuxRestored t s
  | .flashBankRestored t bank => Sys2Proof.Machine.execFlashBankRestored t bank s
  | .takeoverComplete t => Sys2Proof.Machine.execTakeoverComplete t s
  | .bothPllsLoseLock => Sys2Proof.Machine.execBothPllsLoseLock s
  | .activeHeadLapse t => Sys2Proof.Machine.execActiveHeadLapse t s
  | .lpLinkLost t => Sys2Proof.Machine.execLpLinkLost t s
  | .requestedResetEntry t => Sys2Proof.Machine.execRequestedResetEntry t s
  | .lineFaultEnd t c => Sys2Proof.Machine.execLineFaultEnd t c s
  | .dieHotEnd t k => Sys2Proof.Machine.execDieHotEnd t k s
  | .busHighEnd t v => Sys2Proof.Machine.execBusHighEnd t v s

end Sys2Proof.Machine
end

