-- ==== Sys2Proof/WellFormed.lean ====
section
/-! DEFINITION. Which commands are well formed. -/
namespace Sys2Proof

/-- A command is well formed when its operands describe an event that its row can mean. An Orwyn command: its fields form an instruction
word of R241 and R242 (even registers in pair fields, shift distances 0–31, forward distances 1–1,023, HALF 0 in 64-bit forms). The rows
of received frames: SWEEP carries a sweep frame (R288), NOTE a stream notice (R306), TIME_DISTRIBUTION a TIME broadcast (R304), and
FRAME_ARRIVAL and GATEWAY_FRAME_IN no TIME broadcast and no link probe, which have rows of their own, and FRAME_ARRIVAL no sweep. Everything
else is well formed. -/
def Instr.wf (c : Instr) : Bool :=
  match c with
  | .frameArrival _ _ f _ _ => !Machine.isTimeFrame f && !Machine.isSweep f
  | .gatewayFrameIn _ f _ => !Machine.isTimeFrame f
  | .sweep _ _ f _ _ => Machine.isSweep f
  | .note _ _ f _ _ => f.op = Machine.opNote && f.kind = 2
  | .timeDistribution _ _ f _ _ _ _ => Machine.isTimeFrame f && f.kind = 2
  | c => Machine.orwynOk c

end Sys2Proof
end

