-- ==== Sys2Proof/Safety.lean ====
section
/-! DEFINITION. What counts as a safe run: no command stops the machine, commands run in the order in which they wait, and every state is
canonical: its sparse tables say each thing once, and its buffers keep the capacities the spec gives them. -/
namespace Sys2Proof.Machine

/-- The register file in canonical form: keys rising, and no register listed at its own default. -/
def regsWf (l : Tbl Int) : Bool :=
  decide (l.Pairwise (fun p q => p.1 < q.1)) && l.all (fun p => decide (p.2 ≠ (keyReg p.1).1.dflt (keyReg p.1).2))

/-- Every table of the state but the fallback plans' is canonical, the log holds at most 4,096 records (R343), the trace buffer at most its capacity (R377), and
each port keeps at most eight delays (R305). -/
structure State.Canonical (s : State) : Prop where
  regs     : regsWf s.regs = true
  ledger   : Tbl.wf 0 s.ledger = true
  staged   : Tbl.wf none s.staged = true
  queues   : Tbl.wf Queue.empty s.queues = true
  opens    : Tbl.wf none s.opens = true
  fresh    : Tbl.wf 0 s.fresh = true
  planners : Tbl.wf Planner.rest s.planners = true
  streams  : Tbl.wf [] s.streams = true
  slopes   : Tbl.wf [] s.slopes = true
  runs     : Tbl.wf none s.runs = true
  cutoffs  : Tbl.wf [] s.cutoffs = true
  calls    : Tbl.wf none s.calls = true
  diag     : Tbl.wf [] s.diag = true
  images   : Tbl.wf [] s.images = true
  flash    : Tbl.wf FlashSet.blank s.flash = true
  tags     : Tbl.wf TagSt.free s.tags = true
  gateway  : Tbl.wf none s.gateway = true
  wire     : Tbl.wf none s.wire = true
  delays   : Tbl.wf [] s.delays = true
  log      : s.log.length ≤ 4096
  traceBuf : s.traceBuf.length ≤ traceWords
  each     : ∀ p ∈ s.delays, p.2.length ≤ 8
  wasRegs  : regsWf s.was.regs = true
  wasLedger : Tbl.wf 0 s.was.ledger = true

/-- A run of `k` steps from `s` is safe: it ends in a canonical state, with the first `k` waiting commands gone and the others still waiting
in their order. -/
def SafeRun (k : Nat) (s : State) : Prop :=
  ∃ t : State, core.run k s = .next t ∧ t.Canonical ∧ t.pending = s.pending.drop k

end Sys2Proof.Machine
end

