-- ==== Sys2Proof/Terms.lean ====
section
/-! DEFINITION. The words in which the statements speak: what a command leaves alone, a program run that has come to a word, and a request
that is taken and answered. -/
namespace Sys2Proof.Machine

-- frames

/-- Between `s` and `t` no register but those of `l` has changed. -/
def State.OnlyRegs (s t : State) (l : List Reg) : Prop := ∀ r i, r ∉ l → t.rd r i = s.rd r i

/-- Between `s` and `t` no register has changed but those of `free`, and number `n` of those of `own`. -/
def State.OnlyAt (s t : State) (n : Nat) (own free : List Reg) : Prop :=
  ∀ r i, r ∉ free → ¬ (r ∈ own ∧ i = n) → t.rd r i = s.rd r i

/-- The registers in which a detection is recorded (R334–R346): the causes and counts of the block, the ordinals, the incident, the counters
of the queues of the log, the counter bank, and what a TRIP record asks for. -/
def faultRegs : List Reg :=
  [.CAUSES_LATCHED, .CAUSES_PRESENT, .COUNTER, .HEAD_FIRST, .HEAD_LAST, .HIGH_WATER, .INCIDENTS, .INCIDENT_OPEN, .LAST_ORDINAL, .MERGES,
   .NEWEST_ORDINAL, .NEWEST_SEVERE, .NEWEST_WARN, .OPEN_CAUSES, .OPEN_ORDINAL, .PACKETS, .POST_DROPS, .PUSHED, .RECORDS, .REFUSED,
   .REWIND_VALID, .TRACE_DROPS, .aliveStop, .dropPending, .headDone, .incidentFirst, .incidentPass, .tripFrom, .tripPending]

/-- Between `s` and `t` no table has changed but those of the fault log: the log, open records and shadows, the queues (Q72 and Q74 carry
records), the fresh W1C bits and the count of free values. -/
def State.LogOnly (s t : State) : Prop :=
  { t with regs := s.regs, queues := s.queues, log := s.log, opens := s.opens, shadows := s.shadows, fresh := s.fresh
           freshAt := s.freshAt, freeCtr := s.freeCtr, was := s.was } = s

/-- The registers of a phase of a bridge, of number 2n + ph: its chopper and what it remembers of the chopper cycle (R102–R113). -/
def phaseRegs : List Reg :=
  [.phState, .phSign, .phRev, .phOnAt, .phOffAt, .phOnRef, .phTon, .phFlags, .phPeak, .phW, .phShort, .phRec, .phRecOn, .phRecOff, .phOffNum,
   .phSince, .phMixEnd, .phCmd, .phPend, .phOnPrev, .phOffEnd, .phLook]

/-- The registers of a half-bridge, of number 4n + hb: its switches and its refresh (R141, R148). -/
def switchRegs : List Reg := [.swCmd, .swAt, .swHighOff, .swLowOff, .refreshAt, .refreshOn, .refreshWait]

/-- Between `s` and `t` the choppers and switches of no other axis than `n` have changed. -/
def State.BridgeOf (s t : State) (n : Nat) : Prop :=
  (∀ r i, r ∈ phaseRegs → i / 2 ≠ n → t.rd r i = s.rd r i) ∧ (∀ r i, r ∈ [Reg.phWas, .phWasAt] → i / 8 ≠ n → t.rd r i = s.rd r i) ∧
    ∀ r i, r ∈ switchRegs → i / 4 ≠ n → t.rd r i = s.rd r i

/-- The chopper of phase `ph` of axis `n` has nothing to do by itself up to the present CKP cycle (R104–R106, R148): REF is not 0, no on time waits for its
switches or for its frequency limit, no FAST part of a mixed off time and no off time has run out, and no refresh of the axis waits for its time. -/
structure State.ChopperReady (s : State) (n ph : Nat) : Prop where
  ref  : s.refNow n ph ≠ 0
  pend : s.rd .phPend (2 * n + ph) = 0
  cmd  : s.rd .phCmd (2 * n + ph) = 0
  mix  : s.rd .phMixEnd (2 * n + ph) = 0 ∨ s.ckp + 1 < s.rdN .phMixEnd (2 * n + ph)
  toff : s.ckp ≤ s.rdN .phOffAt (2 * n + ph) + s.rdN .effToff n
  wait : ∀ hb, hb < 4 → s.rd .refreshWait (4 * n + hb) = 0

-- runs of programs

/-- The run of unit `u` is `r`, its registers V0–V15 are sixteen, and the next word of its program is the instruction `c`. -/
structure State.ComesTo (s : State) (u : RunUnit) (r : Run) (c : Instr) : Prop where
  run  : s.run u = some r
  here : r.here u = orwynEncode c
  ok   : orwynOk c = true
  regs : r.regs.length = 16

/-- The instruction at which the run `r` of unit `u` stands can issue: its cycle is not over (R242), and an engine's slot has its commit cycle left (R213). -/
structure State.Issues (s : State) (u : RunUnit) (r : Run) : Prop where
  time : (s.at (s.issueAt u r)).now = s.issueAt u r
  room : ∀ e, u = .engine e → r.cycles < slotBudget (s.activeBank.getD r.slot 0)

/-- From `r` to `r'` register V`d` has taken `x` in `k` cycles, the run stands at the next word, and nothing else of it has changed. -/
def Run.Wrote (r r' : Run) (d : V) (x : Word32) (k : Nat) : Prop :=
  r'.v d = x ∧ (∀ e, e ≠ d → r'.v e = r.v e) ∧ r' = { r with regs := r'.regs, pos := r.pos + 1, cycles := r.cycles + k }

/-- The same of the pair of the even register V`d`. -/
def Run.WrotePair (r r' : Run) (d : V) (x : Word64) (k : Nat) : Prop :=
  r'.pair d = x ∧ (∀ e : V, e ≠ d → e.val ≠ d.val + 1 → r'.v e = r.v e) ∧
    r' = { r with regs := r'.regs, pos := r.pos + 1, cycles := r.cycles + k }

/-- Where the run of `u` has come to `c`, exec answers the state in which it has written V`d` with `x`, `x` of the run before, in `k`
cycles; nothing else of the state has changed. -/
def Writes (c : Instr) (u : RunUnit) (d : V) (k : Nat) (x : Run → Word32) : Prop :=
  ∀ s r, s.ComesTo u r c → ∃ r', exec c s = .next (s.setRun u (some r')) ∧ r.Wrote r' d (x r) k

/-- The same of a pair. -/
def WritesPair (c : Instr) (u : RunUnit) (d : V) (k : Nat) (x : Run → Word64) : Prop :=
  ∀ s r, s.ComesTo u r c → ∃ r', exec c s = .next (s.setRun u (some r')) ∧ r.WrotePair r' d (x r) k

/-- Where the run of `u` has come to `c`, exec answers the state in which the run is `f` of the run before, one cycle later. -/
def Goes (c : Instr) (u : RunUnit) (f : Run → Run) : Prop :=
  ∀ s r, s.ComesTo u r c → exec c s = .next (s.setRun u (some { f r with cycles := r.cycles + 1 }))

/-- What the ledger word `w` of axis `n` reads as (R246): the fields that every release keeps, as the latest mark left them, words 24–27 and
56–63 as they were last committed; the other bits are not defined, and `x` may hold anything there. -/
def State.ShowsLedger (s : State) (n w : Nat) (x : Word64) : Prop :=
  (w = 0 → x.toNat % 2 ^ 48 = unsigned 48 (s.rd .CMD_POS n)) ∧
  (w = 1 → x.toNat % 2 ^ 32 = unsigned 32 (s.rd .CMD_VEL n)) ∧
  (w = 2 → x.toNat % 2 ^ 48 = unsigned 48 (s.rd .CMD_ACC n)) ∧
  (w = 3 → x.toNat % 2 ^ 48 = unsigned 48 (s.rd .mkTarget n)) ∧
  (w = 24 → s.mode ≠ 9 → x.toNat % 2 ^ 32 = unsigned 32 (s.rd .incShadow n)) ∧
  (w = 25 → s.mode ≠ 9 → x.toNat % 2 ^ 16 = s.rdN .ampShadow n % 2 ^ 16 ∧ x.toNat.testBit 16 = (s.driveOf n = 1)) ∧
  (w = 24 ∨ w = 25 → s.mode = 9 → x = s.led n w) ∧
  (w = 28 → x.toNat % 2 ^ 32 = unsigned 32 (s.rd .ADAPT_OFFSET_A n) ∧ x.toNat / 2 ^ 32 = unsigned 32 (s.rd .ADAPT_OFFSET_B n)) ∧
  (w = 48 → x.toNat % 2 ^ 48 = unsigned 48 (s.rd .mkFbPos n)) ∧
  (w = 49 → x.toNat % 2 ^ 48 = unsigned 48 (s.rd .mkDev n)) ∧
  (w = 26 ∨ w = 27 ∨ 56 ≤ w → x = s.led n w)


-- slots and records

/-- The built-in slot of KIND `k` of axis `n` is due in this cycle (R217), and no armed injection strikes it or its engine (R350). -/
def State.SlotComes (s : State) (k n : Nat) : Prop :=
  ∃ i w, s.builtinSlot k n = some (i, w) ∧ s.armed 2 i = none ∧ s.armed 4 (slotEngine w) = none ∧ s.armed 5 (slotEngine w) = none

/-- Axis `n` stands in IDLE or HOLD in RUN or RUN-DEGRADED, its planner plans nothing, no record is active, nothing but records asks anything
of it, no host has written in this cycle what its step reads (R45), and no limit input is active (R62, R67). -/
structure State.AtRest (s : State) (n : Nat) : Prop where
  mode  : s.mode = 5 ∨ s.mode = 6
  axis  : s.rd .AXIS_STATE n = 0 ∨ s.rd .AXIS_STATE n = 1
  plan  : (s.planner n).plan = none
  still : (s.planner n).nxt.v = 0 ∧ (s.planner n).nxt.a = 0
  act   : (s.planner n).act = none
  goal  : s.rd .goalKind n = 0
  ready : s.rd .readyAt n = 0
  rel   : s.rd .relWait n = 0 ∧ s.rd .relLate n = 0
  learn : s.rd .lnOn n = 0
  asked : s.rd .stopPend n = 0 ∧ s.rd .tgtPend n = 0 ∧ s.rd .flushPend n = 0 ∧ s.rd .limNew n = 0 ∧ s.rd .disPend n = 0
  early : s.late n = [] ∧ s.lateLimits n = []
  input : s.limitSeen n 0 = false ∧ s.limitSeen n 1 = false ∧ s.rd .LIMIT_STATE n = 0

/-- Nothing is due for axis `n` at the next mark: no result of the ending pass, no reassignment, no containment, enable, disable or alignment of its
drive, no engagement, no change of mode that a host or a LOCKOUT has asked for. -/
structure State.NothingDue (s : State) (n : Nat) : Prop where
  found  : s.rd .finPend n = 0 ∧ s.rd .finHome n = 0
  assign : s.rd .asgPend n = 0 ∧ s.rd .setPend n = 0
  cont   : s.rd .contPend n = 0 ∧ s.rd .diePend n = 0 ∧ s.rd .enaPend 0 = 0
  drive  : s.rd .rearmPend n = 0 ∧ s.rd .drivePend n = 0 ∧ s.rd .directPend n = 0 ∧ s.rd .firePend n = 0
  engage : s.rd .followPend n = 0 ∧ s.rd .stallRel n = 0
  mode   : s.rd .lockoutPending 0 = 0 ∧ s.rd .modeReq 0 = 0
  room   : -2 ^ 63 ≤ (s.planner n).nxt.x ∧ (s.planner n).nxt.x < 2 ^ 63

-- requests

/-- The request `h` of operation `op` on `index`:`sub` with `data` is taken up (R18, R35 ranks 1 and 2, R293–R295, R317): the module answers, its tag
carries no other transaction and did not carry this one before, and an operation that changes something comes neither in BOOT nor, over the ring,
in LOCKOUT. -/
structure State.Takes (s : State) (h : Hdr) (op index sub : Nat) (data : List Byte) : Prop where
  answers : s.answering = true
  free    : (s.tagSt h.tag).busy = false
  fresh   : (s.tagSt h.tag).digest ≠ some (s.digest h op index sub data)
  modes   : isWriteOp op = true → s.mode ≠ 1 ∧ (s.mode = 10 → h.port = 2)

/-- The module as the operation of a taken request finds it: in the cycle in which the request is taken up (R24), with the contact of a head noted (R321), the request counted
(R291) and its tag busy. -/
def State.taken (s : State) (h : Hdr) (op index sub : Nat) (data : List Byte) : State :=
  let s := (s.takeUp h).iff (isHead h.src && s.mode ≠ 0) State.contact
  ((s.count .REQUESTS 0 1 64).tally 224).wrTag h.tag ⟨some (s.digest h op index sub data), true, none⟩

/-- The WRITE of `bs` to `index`:`sub` is taken up, and ranks 3 to 11 of R35 find nothing against it. -/
structure State.Accepts (s : State) (h : Hdr) (index sub : Nat) (bs : List Byte) : Prop where
  takes : s.Takes h opWrite index sub bs
  code  : (s.taken h opWrite index sub bs).writeCode index sub bs = 0

/-- The transaction of `h` is complete: its tag is free again, and the reply that it caches goes to the sender with the result code `code` and `data`. -/
def State.Answers (s : State) (h : Hdr) (code : Nat) (data : List Byte) : Prop :=
  (s.tagSt h.tag).busy = false ∧
    ∃ f, (s.tagSt h.tag).reply = some f ∧ f.kind = 1 ∧ f.result = code ∧ f.data = data ∧ f.dest = h.src ∧ f.tag = h.tag.val

/-- The transaction of `h` waits for its operation to end. -/
def State.Waits (s : State) (h : Hdr) (index : Nat) : Prop :=
  (s.tagSt h.tag).busy = true ∧ ∃ d ∈ s.deferred, d.hdr = h ∧ d.index = index

/-- The registers that any request may change (R266, R291–R295, R321, R363): the counters of its queue and of its port's transactions, the contact of a
head, device time. -/
def requestRegs : List Reg :=
  [.PACKETS, .HIGH_WATER, .PUSHED, .REFUSED, .REWIND_VALID, .IN_PROGRESS, .REQUESTS, .RETRIES_ANSWERED, .TAG_CONFLICTS, .LAST_CONTACT, .DEVICE_TIME,
   .COUNTER, .islandFrom, .contactPending, .islandExp, .sweepEnd, .reqAt, .reqPort]

/-- From `s` to `u` the request `h` has been taken and answered with code 0, and no register but number `n` of `own`, `free` and those of requests has
changed, no queue but Q71, and no table but the tags. -/
structure State.Did (s u : State) (h : Hdr) (n : Nat) (own free : List Reg) : Prop where
  answer : u.Answers h 0 []
  regs   : s.OnlyAt u n own (free ++ requestRegs)
  queue  : ∀ q, q ≠ 71 → u.queue q = s.queue q
  rest   : { u with regs := s.regs, queues := s.queues, tags := s.tags, freeCtr := s.freeCtr, was := s.was } = s

/-- Queue `q` takes a packet of the length of `p` in this cycle (R266, R270); a receive queue reserves 16 words for one (R269). -/
def State.Room (s : State) (q : Nat) (p : Pkt) : Prop :=
  s.qVoided q = false ∧ (s.queue q).depth + (if 64 ≤ q ∧ q ≤ 66 then max p.len 16 else p.len) ≤ s.capacity q

-- flash

/-- Flash holds in its committed sets nothing but objects of RWC access, and as calibration nothing but the 64 pairs (R31, R206). -/
def State.FlashHoldsSets (s : State) : Prop :=
  ∀ p ∈ s.flash, (∀ q ∈ p.2.config, ((keyReg q.1).1.obj).any (fun o => decide (o.acc = .rwc)) = true) ∧
    (∀ q ∈ p.2.cal, (keyReg q.1).1 ∈ [Reg.CAL_OFS, .CAL_GAIN_FACTOR, .calHas])

end Sys2Proof.Machine
end

