-- ==== Sys2Proof/Certificates/Slice0/Obligations.lean ====
section
/-! DEFINITION. The statements for the provers. Each docstring names the rules of the spec that the statement formalises; a clause that
rests on a choice of the model names its log entry. -/
section
open Sys2Proof Sys2Proof.Machine

-- the machine as a whole

/-- The command at the front of the queue runs on the state with the rest of the queue (the form of a block; log entry 9). On an empty queue the
block idles (the model's choice, log entry 1). -/
def Obligations.StepRunsTheFrontCommand : Prop :=
  (∀ (s : State) (c : Instr) (rest : List Instr), s.pending = c :: rest → step s = exec c { s with pending := rest }) ∧
  (∀ s : State, s.pending = [] → step s = .next s)

/-- The state after reset is canonical. -/
def Obligations.ResetIsCanonical : Prop := State.reset.Canonical

/-- Every step from a canonical state that answers a state answers a canonical one: no command lists a register at its own default, breaks
the order of a table, or lets the log, the trace buffer or a port's delays outgrow what the spec gives them (R305, R343, R377). -/
def Obligations.StepKeepsCanonical : Prop :=
  ∀ s t : State, s.Canonical → step s = .next t → t.Canonical

/-- Every well-formed command answers a state, and leaves the queue of waiting commands alone. -/
def Obligations.WellFormedCommandsAnswer : Prop :=
  ∀ (c : Instr) (s : State), c.wf = true → ∃ t, exec c s = .next t ∧ t.pending = s.pending

/-- From a canonical state in which only well-formed commands wait, every run is safe: no command stops the machine, and after `k` steps
the first `k` commands have gone and the others still wait in their order. -/
def Obligations.WellFormedQueuesRunSafely : Prop :=
  ∀ (s : State) (k : Nat), s.Canonical → (∀ c ∈ s.pending, c.wf = true) → SafeRun k s

-- Orwyn instruction words

/-- Decoding the word of a well-formed Orwyn instruction gives that instruction back, whatever its registers, immediate, distance, count, ledger
word, queue or object entry (R241, R242); what the read of a load meets is no part of its word, which decodes to the clean read. A word decodes to
nothing but a well-formed instruction of which it is the word, with the fields that the instruction does not use left aside (R241, R242, R259
ground 9). No other OP value exists (R242). -/
def Obligations.OrwynEncodingsAgree : Prop :=
  (∀ (c : Instr) (w : Word32), orwynOk c = true → orwynEncode c = some w →
     ∃ u c', orwynDecode u w = some c' ∧ orwynEncode c' = some w ∧
       (c' = c ∨ ∃ l e, (c = .oLdl u l e ∧ c' = .oLdl u l .clean) ∨ (c = .oLdlw u l e ∧ c' = .oLdlw u l .clean))) ∧
  (∀ (u : RunUnit) (w : Word32) (c : Instr), orwynDecode u w = some c →
     orwynOk c = true ∧ ∃ w', orwynEncode c = some w' ∧ wordOp w' = wordOp w ∧ orwynDecode u w' = some c) ∧
  (∀ (u : RunUnit) (w : Word32),
     wordOp w ∈ [0x1C, 0x1D, 0x1E, 0x27, 0x2E, 0x2F, 0x34, 0x35, 0x36, 0x37, 0x3B, 0x3E, 0x3F] → orwynDecode u w = none)

/-- Fields that form no instruction word stop the model: an odd register in a pair field, a shift distance above 31, a forward distance of
0, HALF set in a 64-bit form (R241, R242). -/
def Obligations.IllFormedOrwynStops : Prop :=
  ∀ (c : Instr) (s : State), orwynOk c = false → exec c s = .fault .invalidOrwyn

/-- Words written out from the encodings of R241 and R242 are the words of the instructions they stand for. -/
def Obligations.OrwynWordsOfTheTable : Prop :=
  (∀ u, orwynEncode (.oNop u) = some 0x00000000#32) ∧
  (∀ u, orwynEncode (.oAdd u 1 2 3) = some 0b00000100010010001100000000000000#32) ∧
  (∀ u, orwynEncode (.oMovi u 15 0x3FFFF) = some 0b01011111110000111111111111111111#32) ∧
  (∀ u, orwynEncode (.oBge u 4 5 0x3FF) = some 0b10001101000101000000001111111111#32) ∧
  (∀ u, orwynEncode (.oLoop u 0xA5) = some 0b10100000000000000000000010100101#32) ∧
  (∀ u e, orwynEncode (.oLdl u ⟨7, 56, true, true, 0, true⟩ e) = some 0b11000001111110001100000010000000#32) ∧
  (∀ u, orwynEncode (.oPush u 6 79 true) = some 0b11100001101001111100000000000000#32) ∧
  (∀ u, orwynEncode (.oObjr u 3 9 true) = some 0b11110000111001100000000000000000#32) ∧
  (∀ u, orwynEncode (.oEnd u) = some 0b01111100000000000000000000000000#32)

-- Orwyn instructions

/-- The three-register instructions (R242): D takes A op B, shifts by B[4:0], SRA, MIN and MAX signed; one cycle each. Nothing else of the run or
of the state changes. The immediate instructions (R242): ADDI and MOVI sign-extend IMM, ANDI, ORI and XORI zero-extend it, the shifts take it as
their distance, ORHI shifts it by 14; one cycle each. -/
def Obligations.OrwynRegisterAndImmediateResults : Prop :=
  (∀ (u : RunUnit) (d a b : V),
     Writes (.oAdd u d a b) u d 1 (fun r => r.v a + r.v b) ∧
     Writes (.oSub u d a b) u d 1 (fun r => r.v a - r.v b) ∧
     Writes (.oAnd u d a b) u d 1 (fun r => r.v a &&& r.v b) ∧
     Writes (.oOr u d a b) u d 1 (fun r => r.v a ||| r.v b) ∧
     Writes (.oXor u d a b) u d 1 (fun r => r.v a ^^^ r.v b) ∧
     Writes (.oShl u d a b) u d 1 (fun r => BitVec.ofNat 32 ((r.v a).toNat * 2 ^ ((r.v b).toNat % 32))) ∧
     Writes (.oShr u d a b) u d 1 (fun r => BitVec.ofNat 32 ((r.v a).toNat / 2 ^ ((r.v b).toNat % 32))) ∧
     Writes (.oSra u d a b) u d 1 (fun r => BitVec.ofInt 32 ((r.v a).toInt / 2 ^ ((r.v b).toNat % 32))) ∧
     Writes (.oMin u d a b) u d 1 (fun r => BitVec.ofInt 32 (min (r.v a).toInt (r.v b).toInt)) ∧
     Writes (.oMax u d a b) u d 1 (fun r => BitVec.ofInt 32 (max (r.v a).toInt (r.v b).toInt))) ∧
  (∀ (u : RunUnit) (d a : V) (imm : BitVec 18),
     Writes (.oAddi u d a imm) u d 1 (fun r => r.v a + BitVec.ofInt 32 imm.toInt) ∧
     Writes (.oAndi u d a imm) u d 1 (fun r => r.v a &&& BitVec.ofNat 32 imm.toNat) ∧
     Writes (.oOri u d a imm) u d 1 (fun r => r.v a ||| BitVec.ofNat 32 imm.toNat) ∧
     Writes (.oXori u d a imm) u d 1 (fun r => r.v a ^^^ BitVec.ofNat 32 imm.toNat) ∧
     Writes (.oShli u d a imm) u d 1 (fun r => BitVec.ofNat 32 ((r.v a).toNat * 2 ^ imm.toNat)) ∧
     Writes (.oShri u d a imm) u d 1 (fun r => BitVec.ofNat 32 ((r.v a).toNat / 2 ^ imm.toNat)) ∧
     Writes (.oSrai u d a imm) u d 1 (fun r => BitVec.ofInt 32 ((r.v a).toInt / 2 ^ imm.toNat)) ∧
     Writes (.oMovi u d imm) u d 1 (fun _ => BitVec.ofInt 32 imm.toInt) ∧
     Writes (.oOrhi u d a imm) u d 1 (fun r => r.v a ||| BitVec.ofNat 32 (imm.toNat * 2 ^ 14)))

/-- The pair instructions (R240, R242): ADDW and SUBW wrap modulo 2^64 and take one cycle, MUL and MULU give the whole product, signed and
unsigned, in two. What a run knows of itself and of the module (R240, R242, R247, R249): CTXN its context axis, ARG and CALLP the call it saw at
its start, LIDX the index of the innermost loop, MODE the mode number, QDEP the words that POP still gives. -/
def Obligations.OrwynPairAndContextResults : Prop :=
  (∀ (u : RunUnit) (d a b : V),
     WritesPair (.oAddw u d a b) u d 1 (fun r => r.pair a + r.pair b) ∧
     WritesPair (.oSubw u d a b) u d 1 (fun r => r.pair a - r.pair b) ∧
     WritesPair (.oMul u d a b) u d 2 (fun r => BitVec.ofInt 64 ((r.v a).toInt * (r.v b).toInt)) ∧
     WritesPair (.oMulu u d a b) u d 2 (fun r => BitVec.ofNat 64 ((r.v a).toNat * (r.v b).toNat))) ∧
  (∀ (u : RunUnit) (d : V) (q : Fin 128),
     Writes (.oCtxn u d) u d 1 (fun r => BitVec.ofNat 32 r.ctx) ∧
     WritesPair (.oArg u d) u d 2 (fun r => match tget none r.read 200 with | some a => BitVec.ofInt 64 a | none => 0) ∧
     Writes (.oCallp u d) u d 1 (fun r => match tget none r.read 200 with | some _ => 1 | none => 0) ∧
     (∀ s r l ls, s.ComesTo u r (.oLidx u d) → r.loops = l :: ls →
       ∃ r', exec (.oLidx u d) s = .next (s.setRun u (some r')) ∧ r.Wrote r' d (BitVec.ofNat 32 l.index) 1) ∧
     (∀ s r, s.ComesTo u r (.oMode u d) → s.Issues u r →
       ∃ r', exec (.oMode u d) s = .next ((s.at (s.issueAt u r)).setRun u (some r')) ∧ r.Wrote r' d (BitVec.ofNat 32 s.mode) 1) ∧
     Writes (.oQdep u d q) u d 1
       (fun r => BitVec.ofNat 32 (((tget none r.read (100 + (q.val - 76))).getD 0).toNat - tget 0 r.pops q.val)))

/-- TIME and RTIME give the device time and the ring time of the cycle in which the instruction issues (R242, R363, R365), which the start of the
run and the cycles it has used give (R213, R242, R250); one given after that cycle does nothing (the model's choice, log entry 118). NOP and DONE
go on; a branch goes forward OFFSET words where its comparison holds, signed or unsigned, and to the next word where it does not; LOOP opens a
loop of COUNT + 1 passes, ENDL goes back to its body while a pass remains and leaves it after the last; PUSH and OBJW add to the commit buffer
(R213, R242, R247, R248). One cycle each. -/
def Obligations.OrwynTimeControlAndBuffers : Prop :=
  (∀ (u : RunUnit) (d : V) (s : State) (r : Run), let T := s.issueAt u r;
     (s.ComesTo u r (.oTime u d) → s.Issues u r → ∃ r', exec (.oTime u d) s = .next ((s.at T).setRun u (some r')) ∧
       r.WrotePair r' d (BitVec.ofNat 64 T) 1) ∧
     (s.ComesTo u r (.oRtime u d) → s.Issues u r → ∃ r', exec (.oRtime u d) s = .next ((s.at T).setRun u (some r')) ∧
       r.WrotePair r' d (BitVec.ofNat 64 (s.at T).ring) 1) ∧
     (s.ComesTo u r (.oTime u d) → T < s.now → exec (.oTime u d) s = .next (s.at T))) ∧
  (∀ (u : RunUnit) (a b d : V) (off : BitVec 10) (n : BitVec 8) (q : Fin 128) (e : Bool) (x : Fin 16),
     Goes (.oNop u) u (fun r => { r with pos := r.pos + 1 }) ∧
     Goes (.oDone u) u (fun r => { r with pos := r.pos + 1, called := true }) ∧
     Goes (.oBeq u a b off) u (fun r => { r with pos := r.pos + if r.v a = r.v b then off.toNat else 1 }) ∧
     Goes (.oBne u a b off) u (fun r => { r with pos := r.pos + if r.v a = r.v b then 1 else off.toNat }) ∧
     Goes (.oBlt u a b off) u (fun r => { r with pos := r.pos + if (r.v a).toInt < (r.v b).toInt then off.toNat else 1 }) ∧
     Goes (.oBge u a b off) u (fun r => { r with pos := r.pos + if (r.v a).toInt < (r.v b).toInt then 1 else off.toNat }) ∧
     Goes (.oBltu u a b off) u (fun r => { r with pos := r.pos + if (r.v a).toNat < (r.v b).toNat then off.toNat else 1 }) ∧
     Goes (.oBgeu u a b off) u (fun r => { r with pos := r.pos + if (r.v a).toNat < (r.v b).toNat then 1 else off.toNat }) ∧
     Goes (.oBra u off) u (fun r => { r with pos := r.pos + off.toNat }) ∧
     Goes (.oLoop u n) u (fun r => { r with pos := r.pos + 1, loops := ⟨r.pos + 1, n.toNat, 0⟩ :: r.loops }) ∧
     (∀ s r l ls, s.ComesTo u r (.oEndl u) → r.loops = l :: ls →
       exec (.oEndl u) s = .next (s.setRun u (some { r with
         loops := if l.index < l.count then { l with index := l.index + 1 } :: ls else ls
         pos := if l.index < l.count then l.body else r.pos + 1
         cycles := r.cycles + 1 }))) ∧
     Goes (.oPush u d q e) u (fun r => { r with pos := r.pos + 1, pushes := (q.val, r.pair d, e) :: r.pushes }) ∧
     Goes (.oObjw u d x) u (fun r => { r with pos := r.pos + 1, writes := (x.val, r.v d) :: r.writes }))

/-- LDL and LDLW give half of a ledger word and a ledger word in two cycles (R242, R245, R246): of each half, the last store of the run to it
where there is one (R213), else what the ledger showed at the start of the cycle (R215), unless that read is uncorrectable. A clean read changes
nothing else but the count of free values, a corrected one and an uncorrectable one are recorded (R215). STLW puts pair D into the commit buffer
as both halves of a ledger word, STL puts D there as its named half (R213, R242, R245). One cycle each; the ledger itself does not change. -/
def Obligations.OrwynLedgerAccesses : Prop :=
  (∀ (u : RunUnit) (l : LForm) (e : Ecc) (s : State) (r : Run) (n w : Nat), r.cell l = some (n, w) → s.Issues u r →
     let t := s.at (s.issueAt u r);
     let gives (x : Word64) : Prop := ∃ y : Word64, (e ≠ .uncorrectable → t.before.ShowsLedger n w y) ∧
       ∀ high, halfOf x high = (r.own (64 * n + w) high).getD (halfOf y high);
     let leaves (v : State) : Prop := (e = .clean → v = { t with freeCtr := v.freeCtr }) ∧
       (e = .corrected → v.bit .CAUSES_LATCHED 0x70 0x21 = true ∧ v.ledger = t.ledger) ∧
       (e = .uncorrectable → v.bit .CAUSES_LATCHED (blkAxis n) 7 = true);
     (s.ComesTo u r (.oLdlw u l e) → ∃ r' x v, exec (.oLdlw u l e) s = .next (v.setRun u (some r')) ∧ r.WrotePair r' l.d x 2 ∧ gives x ∧ leaves v) ∧
     (s.ComesTo u r (.oLdl u l e) → ∃ r' x v, exec (.oLdl u l e) s = .next (v.setRun u (some r')) ∧ r.Wrote r' l.d (halfOf x l.half) 2 ∧ gives x ∧
       leaves v)) ∧
  (∀ (u : RunUnit) (l : LForm) (n w : Nat) (s : State) (r : Run), r.cell l = some (n, w) → let k := 64 * n + w;
     (s.ComesTo u r (.oStlw u l) → exec (.oStlw u l) s = .next (s.setRun u (some { r with
       stores := ((k, false), halfOf (r.pair l.d) false) :: ((k, true), halfOf (r.pair l.d) true) :: r.stores
       pos := r.pos + 1, cycles := r.cycles + 1 }))) ∧
     (s.ComesTo u r (.oStl u l) → exec (.oStl u l) s = .next (s.setRun u (some { r with
       stores := ((k, l.half), r.v l.d) :: r.stores, pos := r.pos + 1, cycles := r.cycles + 1 }))))

/-- POP gives the next word of the mailbox in two cycles, or 0 once none remains, and takes nothing from the queue before the commit (R247). OBJR
gives half of the listed object in two cycles: the value noted at the first read of the run, which on that first read is the value of the present
cycle (R248). END ends the run and commits it (R213, R242, R250): the unit is free; the program's runs count up; of each half of a ledger word
that the run stored, the newest store is now in the ledger where the kind of program may write it — words 56–63 always, words 26 and 27 for a trip
program, words 24 and 25 for a trip program in SAFE — and every other half is as before. A trip program's word 27 shows in TRIP_STATE (R263).
Nothing but a push, a pop or an object write of the run touches a queue, beside the trace. -/
def Obligations.OrwynReadsAndTheCommit : Prop :=
  (∀ (u : RunUnit) (d : V) (q : Fin 128) (e : Fin 16) (half : Bool) (s : State) (r : Run), let t := s.at (s.issueAt u r);
     (s.ComesTo u r (.oPop u d q) → r.avail q = 0 →
       ∃ r', exec (.oPop u d q) s = .next (s.setRun u (some r')) ∧ r.WrotePair r' d 0 2) ∧
     (s.ComesTo u r (.oPop u d q) → r.avail q ≠ 0 →
       ∃ r' : Run, exec (.oPop u d q) s = .next (s.setRun u (some { r' with pops := tset 0 r.pops q.val (r.popped q + 1) })) ∧
         r.WrotePair r' d ((s.mailWords (q.val - 76)).getD (r.popped q) 0) 2) ∧
     (s.ComesTo u r (.oObjr u d e half) → s.Issues u r → ∀ (p : Prog) (index sub x : Nat) (o : Obj) (i : Nat),
       findProg s.progs r.prog = some p → p.objs[e.val]? = some (index, sub, x) → findObj index sub = some (o, i) →
       ∃ (r' : Run) (v : Int), exec (.oObjr u d e half) s =
           .next (t.setRun u (some { r' with read := tset none r.read e.val (some v) })) ∧
         (∀ y, tget none r.read e.val = some y → v = y) ∧ (tget none r.read e.val = none → v = t.rd o.reg i) ∧
         r.Wrote r' d (halfOf (BitVec.ofInt 64 v) half) 2)) ∧
  (∀ (u : RunUnit) (s : State) (r : Run), s.ComesTo u r (.oEnd u) → s.Issues u r → s.rd .PROG_RUNS r.prog + 1 < 2 ^ 64 →
     let mine (w : Nat) : Prop := match u with
       | .trip => 56 ≤ w ∨ w = 26 ∨ w = 27 ∨ ((w = 24 ∨ w = 25) ∧ s.mode = 9)
       | _ => 56 ≤ w
     ∃ s', exec (.oEnd u) s = .next s' ∧ s'.run u = none ∧ s'.rd .PROG_RUNS r.prog = s.rd .PROG_RUNS r.prog + 1 ∧
       (∀ n w high x, w < 64 → r.own (64 * n + w) high = some x → mine w → halfOf (s'.led n w) high = x ∧
         (w = 27 → high = false → s'.rd .TRIP_STATE n = (x.toNat % 256 : Nat))) ∧
       (∀ n w high, w < 64 → r.own (64 * n + w) high = none ∨ ¬ mine w → halfOf (s'.led n w) high = halfOf (s.led n w) high) ∧
       (r.pushes = [] → r.pops = [] → r.writes = [] → ∀ q, q ≠ 73 → s'.queue q = s.queue q))

-- feedback channels, latches and sense inputs

/-- QUADRATURE_EDGE (R171, R172, R178): the new levels of A and B become the decoder's reference, each line's if CH_FILTER samples have passed
since it last changed (the model's choice, log entry 163). On a channel that counts, a step in quadrature order changes the count by one, upward
where A leads B, reversed by CH_INVERT, and held within CH_MIN to CH_MAX; a change of both lines leaves the count, sets ILLEGAL_EDGE and counts in
ILLEGAL_COUNT; equal levels change nothing of either. INDEX (R173): on a channel that counts, Z_POS and Z_TIME take the count and the device time
of the cycle. INDEX_MODE 1 learns its reference at the first index; a deviation other than 0 from the reference is shown in LAST_DEV and counts;
outside INDEX_WINDOW it counts in OUT_WINDOW_COUNT, and within it INDEX_CORR takes it off the count. In the cycle of an illegal change only
SKIPPED_INDEX counts (R172). An index sooner than the filter can let one through is none (the model's choice, log entry 163). -/
def Obligations.QuadratureAndIndexEdges : Prop :=
  (∀ (t : Nat) (c : Fin 16) (a b : Bool) (s0 : State), let s := s0.at t;
     let a0 := s.bit .qState c 0;
     let b0 := s.bit .qState c 1;
     let a' := if s.rd .lineAtA c = 0 ∨ s.rdN .lineAtA c + s.rdN .CH_FILTER c ≤ s.now + 1 then a else a0;
     let b' := if s.rd .lineAtB c = 0 ∨ s.rdN .lineAtB c + s.rdN .CH_FILTER c ≤ s.now + 1 then b else b0;
     let way : Int := if s.rd .CH_INVERT c = 1 then -1 else 1;
     let held (v : Int) : Int := min (max v (s.rd .CH_MIN c)) (s.rd .CH_MAX c);
     ∃ u, exec (.quadratureEdge t c a b) s0 = .next u ∧ u.bit .qState c 0 = a' ∧ u.bit .qState c 1 = b' ∧
     (s.rd .CH_MODE c = 1 → s.bit .CH_FLAGS c 3 = false →
       (a' = !b0 → b' = a0 → u.rd .chCount c = held (s.rd .chCount c + way)) ∧
       (a' = b0 → b' = !a0 → u.rd .chCount c = held (s.rd .chCount c - way)) ∧
       (a' = !a0 → b' = !b0 → u.rd .chCount c = s.rd .chCount c ∧ u.bit .CH_EVENTS c 0 = true ∧
         (s.rd .ILLEGAL_COUNT c + 1 < 2 ^ 32 → u.rd .ILLEGAL_COUNT c = s.rd .ILLEGAL_COUNT c + 1))) ∧
     ((s.rd .CH_MODE c ≠ 1 ∨ s.bit .CH_FLAGS c 3 = true ∨ (a' = a0 ∧ b' = b0)) →
       u.rd .chCount c = s.rd .chCount c ∧ u.rd .ILLEGAL_COUNT c = s.rd .ILLEGAL_COUNT c)) ∧
  (∀ (t : Nat) (c : Fin 16) (s0 : State), let s := s0.at t;
     s.rd .CH_MODE c = 1 → s.bit .CH_FLAGS c 3 = false → s.rd .lineAtZ c = 0 ∨ s.rdN .lineAtZ c + s.rdN .CH_FILTER c ≤ s.now →
     ∃ u, exec (.index t c) s0 = .next u ∧
       u.rd .Z_POS c = s.rd .chCount c ∧ u.rd .Z_TIME c = (s.now : Int) ∧
       (s.rd .INDEX_MODE c = 0 → u.rd .chCount c = s.rd .chCount c) ∧
       (s.rdN .illegalAt c = s.now + 1 → s.rd .SKIPPED_INDEX c + 1 < 2 ^ 32 →
         u.rd .SKIPPED_INDEX c = s.rd .SKIPPED_INDEX c + 1 ∧ u.rd .chCount c = s.rd .chCount c) ∧
       (s.rdN .illegalAt c ≠ s.now + 1 → 0 < s.rdN .INDEX_PERIOD c →
         (s.rd .INDEX_MODE c = 1 → s.bit .CH_FLAGS c 5 = false →
           u.rd .idxRef c = s.rd .chCount c % (s.rdN .INDEX_PERIOD c : Int) ∧ u.bit .CH_FLAGS c 5 = true ∧ u.rd .chCount c = s.rd .chCount c) ∧
         (∀ ref : Int, (s.rd .INDEX_MODE c = 1 ∧ s.bit .CH_FLAGS c 5 = true ∧ ref = s.rd .idxRef c) ∨
             (s.rd .INDEX_MODE c = 2 ∧ ref = s.rd .INDEX_REF c) →
           let dev := indexDev (s.rd .chCount c) ref (s.rdN .INDEX_PERIOD c);
           (dev = 0 → u.rd .chCount c = s.rd .chCount c ∧ u.rd .LAST_DEV c = s.rd .LAST_DEV c) ∧
           (dev ≠ 0 → u.rd .LAST_DEV c = dev ∧
             (s.rd .INDEX_DEV_COUNT c + 1 < 2 ^ 32 → u.rd .INDEX_DEV_COUNT c = s.rd .INDEX_DEV_COUNT c + 1) ∧
             (dev.natAbs ≤ s.rdN .INDEX_WINDOW c → u.rd .OUT_WINDOW_COUNT c = s.rd .OUT_WINDOW_COUNT c ∧
               u.rd .chCount c = if s.rd .INDEX_CORR c = 1 then min (max (s.rd .chCount c - dev) (s.rd .CH_MIN c)) (s.rd .CH_MAX c)
                 else s.rd .chCount c) ∧
             (s.rdN .INDEX_WINDOW c < dev.natAbs → u.rd .chCount c = s.rd .chCount c ∧
               (s.rd .OUT_WINDOW_COUNT c + 1 < 2 ^ 32 → u.rd .OUT_WINDOW_COUNT c = s.rd .OUT_WINDOW_COUNT c + 1))))))

/-- SPEED_TIMEOUT (R175): once SPEED_TIMEOUT has passed since the last counted edge, the speed goes to 0, SPEED_ZERO is set and the interval
history is emptied. Nothing else changes. That the cycle of expiry must be over is R16 (log entry 147). The frames of a synchronous serial channel
(R16, R176, R177): SSI_FRAME_START at a mark that is due starts the frame and stamps it where the data line is high, and waits where it is low;
SSI_FRAME_ARRIVAL, in the time in which the clock line can sample the last bit, takes the word, converted from Gray where SSI_GRAY asks for it,
into ABS_RAW and the count where the line goes high in time, and waits for the timeout where it does not; SSI_MONO_TIMEOUT makes an invalid frame,
and SSI_DEADLINE counts a frame that has not arrived by its deadline. -/
def Obligations.SpeedTimeoutsAndSerialFrames : Prop :=
  (∀ (t : Nat) (c : Fin 16) (s0 : State), let s := s0.at t;
     s.rd .CH_MODE c = 1 → s.bit .CH_FLAGS c 3 = false → s.rd .edgeAt c ≠ 0 → s.bit .CH_FLAGS c 4 = false →
     s.rdN .edgeAt c + s.rdN .SPEED_TIMEOUT c ≤ s.now →
     ∃ u, exec (.speedTimeout t c) s0 = .next u ∧ u.rd .CH_SPEED c = 0 ∧ u.bit .CH_FLAGS c 4 = true ∧ u.rd .edgeN c = 0 ∧
       (∀ b, b ≠ 4 → u.bit .CH_FLAGS c b = s.bit .CH_FLAGS c b) ∧
       s.OnlyAt u c [.CH_SPEED, .CH_FLAGS, .edgeN] [] ∧ { u with regs := s.regs } = s) ∧
  (∀ (t : Nat) (c : Fin 16) (s0 : State), let s := s0.at t;
     (s.rd .CH_MODE c = 2 → s.bit .CH_FLAGS c 3 = false → s.mode ≠ 11 →
       ((s.atMark = true ∧ s.pass % s.rdN .ABS_PERIOD c = 0 ∧ s.rd .ssiState c = 0) ∨ s.rd .ssiState c = 1 →
         (∃ u, exec (.ssiFrameStart t c true) s0 = .next u ∧ u.rd .ssiState c = 2 ∧ u.rd .ssiStamp c = (s.now : Int)) ∧
         (∃ u, exec (.ssiFrameStart t c false) s0 = .next u ∧ u.rd .ssiState c = 1 ∧ u.rd .ssiStamp c = s.rd .ssiStamp c)) ∧
       (s.rd .ssiState c = 2 → s.rd .ssiOld c = 0 →
         (s.rdN .SSI_BITS c - 1) * s.rdN .SSI_DIV c + s.rdN .SSI_DELAY c ≤ s.now - s.rdN .ssiStamp c →
         s.now - s.rdN .ssiStamp c ≤ (s.rdN .SSI_BITS c + 1) * s.rdN .SSI_DIV c + s.rdN .SSI_DELAY c → ∀ word : Nat,
         (s.rd .ABS_JUMP_MAX c = 0 ∨ s.rd .absHave c = 0 →
           let w := word % 2 ^ s.rdN .SSI_BITS c;
           let v := if s.rd .SSI_GRAY c = 1 then grayToBin w (s.rdN .SSI_BITS c) else w;
           let moved := s.rd .chCount c + signed (s.rdN .SSI_BITS c) (unsigned (s.rdN .SSI_BITS c) ((v : Int) - s.rd .absPrev c));
           ∃ u, exec (.ssiFrameArrival t c word true) s0 = .next u ∧ u.rd .ssiState c = 0 ∧ u.rd .ABS_RAW c = v ∧ u.rd .absErr c = 0 ∧
             u.rd .chCount c = min (max (if s.rd .ABS_UNWRAP c = 1 ∧ s.rd .absHave c = 1 then moved else v) (s.rd .CH_MIN c)) (s.rd .CH_MAX c)) ∧
         (∃ u, exec (.ssiFrameArrival t c word false) s0 = .next u ∧ u.rd .ssiState c = 0 ∧ u.rd .ssiMono c = (s.now : Int) + 1 ∧
           u.rd .ABS_RAW c = s.rd .ABS_RAW c))) ∧
     (s.rd .ssiMono c ≠ 0 → s.rdN .ssiMono c + s.rdN .SSI_MONO c ≤ s.now → s.rd .FRAME_ERRORS c + 1 < 2 ^ 32 →
       ∃ u, exec (.ssiMonoTimeout t c) s0 = .next u ∧ u.rd .ssiMono c = 0 ∧ u.rd .FRAME_ERRORS c = s.rd .FRAME_ERRORS c + 1 ∧
         u.bit .CH_EVENTS c 3 = true ∧ u.rd .absErr c = min (s.rd .absErr c + 1) 255) ∧
     (s.atMark = false → s.rd .ssiOld c ≠ 0 → s.rd .FRAME_ERRORS c + 1 < 2 ^ 32 →
       ∃ u, exec (.ssiDeadline t c) s0 = .next u ∧ u.rd .ssiOld c = 0 ∧ u.rd .FRAME_ERRORS c = s.rd .FRAME_ERRORS c + 1 ∧
         u.rd .absErr c = s.rd .absErr c))

/-- LINE_FAULT on a used pair contains the channel: CONTAINED is set, POS_VALID cleared, the cause is latched and present; on a pair that is not
used it does nothing. LINE_FAULT_END ends the cause, and the channel stays contained until its mark (R169, R170, R177, R336). SENSE_EDGE (R182): a
filtered edge of terminal `i`, in a cycle that can decide it (the model's choice, log entry 163), sets its bit of SENSE_LO or SENSE_HI to the
active level, latches it as risen or fallen and counts; the levels of the other terminals stay. LATCH_CAPTURE (R172, R179): in the cycle of the
armed latch's event — an index, the named edge of its sense input, ring time reaching LATCH_AT — LATCH_POS takes the count, or in mode 2 the
position that the speed gives for the cycle, LATCH_TIME the device time and LATCH_SPEED the speed, that before an edge of the same cycle; the
latch disarms unless LATCH_REPEAT. -/
def Obligations.LineFaultsSenseEdgesAndLatches : Prop :=
  (∀ (t : Nat) (c : Fin 16) (p : Fin 3) (s : State),
     let used := (s.rd .CH_MODE c = 1 ∧ (p ≠ 2 ∨ s.rd .INDEX_MODE c ≠ 0 ∨ s.rd .LATCH_SRC c = 1)) ∨ (s.rd .CH_MODE c = 2 ∧ p = 1);
     (used → s.bit .CAUSES_PRESENT (blkFb c) 1 = false →
       ∃ u, exec (.lineFault t c p) s = .next u ∧ u.bit .CH_FLAGS c 3 = true ∧ u.bit .CH_FLAGS c 0 = false ∧ u.bit .CH_EVENTS c 5 = true ∧
         u.bit .CAUSES_LATCHED (blkFb c) 1 = true ∧ u.bit .CAUSES_PRESENT (blkFb c) 1 = true) ∧
     (¬ used → exec (.lineFault t c p) s = .next (s.at t)) ∧
     (s.bit .CAUSES_PRESENT (blkFb c) 1 = true →
       ∃ u, exec (.lineFaultEnd t c) s = .next u ∧ u.bit .CAUSES_PRESENT (blkFb c) 1 = false ∧ u.rd .CH_FLAGS c = s.rd .CH_FLAGS c ∧
         u.rd .CAUSES_LATCHED (blkFb c) = s.rd .CAUSES_LATCHED (blkFb c))) ∧
  (∀ (t : Nat) (i : Fin 128) (high : Bool) (s0 : State), let s := s0.at t;
     let act : Bool := high ≠ (s.rd .SENSE_INVERT i = 1);
     s.sense i ≠ act → s.now % 100 = 0 → s.rd .senseChg i = 0 ∨ s.rdN .senseChg i + 100 * s.rdN .SENSE_FILTER i ≤ s.now + 1 →
     s.rd .SENSE_EDGES i + 1 < 2 ^ 32 →
     ∃ u, exec (.senseEdge t i high) s0 = .next u ∧ u.sense i = act ∧ (∀ j : Fin 128, j ≠ i → u.sense j = s.sense j) ∧
       u.rd .SENSE_EDGES i = s.rd .SENSE_EDGES i + 1 ∧
       (act = true → (if i.val < 64 then u.bit .SENSE_RISE_LO 0 i.val else u.bit .SENSE_RISE_HI 0 (i.val - 64)) = true) ∧
       (act = false → (if i.val < 64 then u.bit .SENSE_FALL_LO 0 i.val else u.bit .SENSE_FALL_HI 0 (i.val - 64)) = true)) ∧
  (∀ (t : Nat) (c : Fin 16) (s0 : State), let s := s0.at t;
     let v := if s.rd .CH_MODE c = 1 ∧ s.rdN .edgeAt c = s.now + 1 then s.rdWas .CH_SPEED c else s.rd .CH_SPEED c;
     let p := if s.rd .CH_MODE c = 2 then s.rd .chCount c + fdiv (v * ((s.now : Int) - s.rd .ssiLast c)) (10 ^ 8) else s.rd .chCount c;
     s.rd .latchArmed c = 1 → -2 ^ 47 ≤ p → p < 2 ^ 47 → s.rd .LATCH_COUNT c + 1 < 2 ^ 32 →
     (s.rdN .LATCH_SRC c = 1 ∧ s.rdN .lineAtZ c = s.now + 1 ∧ s.rd .CH_MODE c = 1 ∧ s.bit .CH_FLAGS c 3 = false) ∨
     (s.rdN .LATCH_SRC c = 2 ∧ s.rdN .senseAt (s.rdN .LATCH_SENSE c % 128) = s.now + 1 ∧
       s.sense (s.rdN .LATCH_SENSE c % 128) ≠ s.bit .LATCH_SENSE c 8) ∨
     (s.rdN .LATCH_SRC c = 3 ∧ s.rd .latchDone c = 0 ∧ s.rdN .LATCH_AT c ≤ s.ring) →
     ∃ u, exec (.latchCapture t c) s0 = .next u ∧ u.rd .LATCH_POS c = p ∧ u.rd .LATCH_TIME c = (s.now : Int) ∧
       u.rd .LATCH_SPEED c = v ∧ u.rd .LATCH_COUNT c = s.rd .LATCH_COUNT c + 1 ∧ u.bit .CH_EVENTS c 4 = true ∧
       u.rd .latchArmed c = (if s.rd .LATCH_REPEAT c = 1 then 1 else 0) ∧ u.rd .chCount c = s.rd .chCount c)

/-- What the events of a feedback channel leave alone (R169–R179): of the channels' own registers they change only those of their channel, they
change no register of an axis but the sources that follow the channel, its pending alignment and whether its deviation is valid, and no table but those of the fault log. -/
def Obligations.FeedbackFrame : Prop :=
  ∀ (t : Nat) (c : Fin 16) (e : Instr) (s u : State),
    (e ∈ [.index t c, .speedTimeout t c, .ssiMonoTimeout t c, .ssiDeadline t c, .latchCapture t c] ∨ (∃ a b, e = .quadratureEdge t c a b) ∨
      (∃ h, e = .ssiFrameStart t c h) ∨ ∃ w m, e = .ssiFrameArrival t c w m) →
    exec e s = .next u →
    s.OnlyAt u c [.CH_POS, .CH_SPEED, .CH_FLAGS, .CH_EVENTS, .ILLEGAL_COUNT, .INDEX_DEV_COUNT, .CORR_COUNT, .OUT_WINDOW_COUNT, .SKIPPED_INDEX,
      .LAST_DEV, .Z_POS, .Z_TIME, .LATCH_POS, .LATCH_TIME, .LATCH_SPEED, .LATCH_COUNT, .FRAME_ERRORS, .ABS_RAW, .SAT_EDGES, .chCount, .qState,
      .edgeT1, .edgeT2, .edgeT3, .edgeT4, .edgeT5, .edgeN, .edgeDir, .edgeDt, .illegalAt, .illegalWin, .idxRef, .ssiState, .ssiStamp, .ssiLast,
      .absPrev, .absHave, .absErr, .latchArmed, .latchDone, .edgeAt, .lineAtA, .lineAtB, .lineAtZ, .ssiOld, .ssiMono]
      (faultRegs ++ [.DEVICE_TIME, .DEV_VALID, .srcGoal, .srcFrom, .srcAt, .srcSpan, .srcNew, .fbAlignPend]) ∧
    s.LogOnly u

-- the built-in slots

/-- The built-in slots commit their step (R44, R180, R213, R217): the fold-in of an axis on a channel forms FB_POS and DEVIATION (fold-ins run in
every mode from CONFIGURE on, R311); the profile step of a resting axis without a record leaves it where it is, that of a moving axis with nothing
asked of it evaluates its plan one pass on and writes the increment; the interpolation set-up hands the increment to the shadow that the next mark
takes, but in SAFE (R251). Each step needs the stamp of the step before it, and a ledger read that is not uncorrectable (R215). LOAD_INDEX_STEP
evaluates a closed step (R115–R117): LI_SPEED takes its mean speed, and a step in which the axis accelerated or that was too slow forms no index
and counts in LI_VOID. LEARN_LEG_END (R124, R125): a leg with too few values fails the run with result 5; after an outward leg within its spread
the return leg begins. -/
def Obligations.BuiltInSlotsAndLoadSteps : Prop :=
  (∀ (t : Nat) (n : Fin 64) (m : SlotIn) (s0 : State), let s := s0.at t;
     s.rd .ledBad n = 0 → m.ledger ≠ .uncorrectable →
     (s.SlotComes 1 n → s.rdN .FB_CHANNEL n < 16 →
       let p := s.rd .fbCmd n + fdiv ((s.rd .CH_POS (s.rdN .FB_CHANNEL n) - s.rd .fbCh n) * s.rd .FB_NUM n) (s.rd .FB_DEN n);
       -2 ^ 47 ≤ p → p < 2 ^ 47 → -2 ^ 47 ≤ p - s.rd .CMD_POS n → p - s.rd .CMD_POS n < 2 ^ 47 →
       ∃ u, exec (.feedbackFoldIn t n m) s0 = .next u ∧ u.rd .FB_POS n = p ∧ u.rd .DEVIATION n = p - s.rd .CMD_POS n ∧
         u.rdN .stampFold n = s.pass + 1) ∧
     (s.SlotComes 2 n → s.rdN .stampFold n = s.pass + 1 → s.AtRest n → s.headRec n = none →
       ∃ u, exec (.profileStep t n m) s0 = .next u ∧ u.rdN .stampProfile n = s.pass + 1 ∧ u.rd .incPlan n = 0 ∧
         (u.planner n).aft = some ⟨(s.planner n).nxt.x, 0, 0, 0, 0⟩ ∧ (u.planner n).plan = none ∧ u.rd .AXIS_STATE n = s.rd .AXIS_STATE n) ∧
     (∀ pl, s.SlotComes 2 n → s.rdN .stampFold n = s.pass + 1 → s.mode = 5 ∨ s.mode = 6 → s.rd .AXIS_STATE n = 2 →
       (s.planner n).plan = some pl → (s.planner n).act = none → s.headRec n = none → 0 ≤ (s.planner n).age → (s.planner n).age < pl.len →
       s.rd .stopPend n = 0 → s.rd .tgtPend n = 0 → s.rd .limNew n = 0 → s.rd .relWait n = 0 → s.rd .lnOn n = 0 → s.rd .incHeld n = 0 →
       s.rd .flushPend n = 0 → s.limitSeen n 0 = false → s.limitSeen n 1 = false → s.late n = [] → s.lateLimits n = [] →
       let next := pl.at ((s.planner n).age + passQ).toNat;
       ∃ u, exec (.profileStep t n m) s0 = .next u ∧ (u.planner n).aft = some next ∧ u.rd .incPlan n = next.x - (s.planner n).nxt.x ∧
         (u.planner n).plan = some pl ∧ u.rd .TARGET n = s.rd .TARGET n) ∧
     (s.SlotComes 3 n → s.rdN .stampProfile n = s.pass + 1 →
       ∃ u, exec (.interpolationSetUp t n m) s0 = .next u ∧ u.rdN .stampInterp n = s.pass + 1 ∧
         u.rd .incShadow n = if s.mode = 9 then s.rd .incShadow n else s.rd .incPlan n)) ∧
  (∀ (t : Nat) (n : Fin 64) (m : SlotIn) (s0 : State), let s := s0.at t;
     (s.rd .ledBad n = 0 → m.ledger ≠ .uncorrectable → s.SlotComes 4 n → s.rdN .stampInterp n = s.pass + 1 → s.rd .clReady n = 1 → s.rd .devStop n = 0 →
       let v : Nat := (s.rd .clSum n).natAbs * 20000 / (65536 * s.rdN .clPasses n);
       ∃ u, exec (.loadIndexStep t n m) s0 = .next u ∧ u.rdN .stampLoad n = s.pass + 1 ∧ u.rd .clReady n = 0 ∧ u.rd .LI_SPEED n = v ∧
         (s.rd .LI_VOID n + 1 < 2 ^ 32 →
           (s.rd .clAcc n = 1 → u.rd .LI_STATE n = 8 ∧ u.rd .LI_VOID n = s.rd .LI_VOID n + 1) ∧
           (s.rd .clAcc n ≠ 1 → v < s.rdN .LI_LOW_MIN_SPEED n → u.rd .LI_STATE n = 2 ∧ u.rd .LI_VOID n = s.rd .LI_VOID n + 1))) ∧
     (s.rd .lnOn n = 3 →
       ∃ u, exec (.learnLegEnd t n) s0 = .next u ∧
         (s.rdN .lnCnt n < s.rdN .LEARN_STEPS n → u.rd .LEARN_RESULT n = 5 ∧ u.rd .lnOn n = 0) ∧
         (s.rdN .LEARN_STEPS n ≤ s.rdN .lnCnt n → spreads (s.rd .lnCnt n) (s.rd .lnR1 n) (s.rd .lnR2 n) (s.rd .LEARN_SPREAD n) = true →
           u.rd .LEARN_RESULT n = 4 ∧ u.rd .LEARN_FAIL_POINT n = s.rd .lnPoint n + 1 ∧ u.rd .lnOn n = 0) ∧
         (s.rdN .LEARN_STEPS n ≤ s.rdN .lnCnt n → spreads (s.rd .lnCnt n) (s.rd .lnR1 n) (s.rd .lnR2 n) (s.rd .LEARN_SPREAD n) = false →
           s.rd .lnLeg n = 0 → u.rd .lnLeg n = 1 ∧ u.rd .lnOn n = 2 ∧ u.rd .lnGo n = 1 ∧ u.rd .lnCnt n = 0)))

-- move records

/-- The profile step of a resting axis takes the record at the head of its queue (R62, R65, R67): ACTIVE_TAG shows it and it leaves the queue.
ABS and REL aim at their position where it lies within the soft limits, VEL runs at its signed speed; a released one waits for its instant (R72);
DWELL and WAIT stay active, unless their end has come; SET_LIMITS and SET_CURRENTS write their objects, CALL makes its call pending where a work
item runs the program, and these complete at once. -/
def Obligations.MoveRecordsAreTaken : Prop :=
  ∀ (t : Nat) (n : Fin 64) (s0 : State) (m : Move) (e : Instr), let s := s0.at t;
    s.rd .ledBad n = 0 → s.SlotComes 2 n → s.rdN .stampFold n = s.pass + 1 → s.AtRest n → s.headRec n = some m →
    (e, m.kind) ∈ [(Instr.abs t n, 1), (.rel t n, 2), (.vel t n, 3), (.dwell t n, 4), (.wait t n, 5), (.setLimits t n, 6),
      (.setCurrents t n, 7), (.call t n, 8)] →
    ∃ u, exec e s0 = .next u ∧ u.rd .ACTIVE_TAG n = m.tag ∧ u.waiting n + 1 = s.waiting n ∧
      (m.kind ≤ 3 → m.release = false → u.rd .ACTIVE_KIND n = m.kind ∧ (u.planner n).act = some m) ∧
      (∀ T : Int, m.release = false → s.rd .SOFT_MIN n ≤ T → T ≤ s.rd .SOFT_MAX n → -2 ^ 47 ≤ T → T < 2 ^ 47 →
        (m.kind = 1 ∧ T = signed 48 m.w1 ∨ m.kind = 2 ∧ T = fdiv (s.planner n).nxt.x 65536 + signed 48 m.w1) →
        u.rd .TARGET n = T ∧ u.rd .goalQ n = T * 65536 ∧ u.rd .goalKind n = 1) ∧
      (m.kind = 3 → m.release = false → u.rd .goalKind n = 2 ∧
        u.rd .velGoal n = if m.dirNeg then -((m.w1 % 2 ^ 32 : Nat) : Int) else ((m.w1 % 2 ^ 32 : Nat) : Int)) ∧
      (m.kind ≤ 3 → m.release = true → s.nextMark + 5000 ≤ s.ringToDevice m.w2 →
        u.rd .RELEASE_PENDING n = m.w2 ∧ u.rd .relWait n = 1 ∧ u.rd .AXIS_STATE n = 1) ∧
      (m.kind = 4 → m.w1 ≠ 0 → u.rd .ACTIVE_KIND n = 4 ∧ (u.planner n).act = some m) ∧
      (m.kind = 5 → s.waitMet m = false → u.rd .ACTIVE_KIND n = 5 ∧ (u.planner n).act = some m) ∧
      (m.kind = 4 ∧ m.w1 = 0 ∨ m.kind = 5 ∧ s.waitMet m = true ∨ m.kind = 6 ∨ m.kind = 7 →
        u.rd .LAST_DONE_TAG n = m.tag ∧ u.rd .ACTIVE_KIND n = 0 ∧ (u.planner n).act = none) ∧
      (m.kind = 6 → ∀ p : Reg × Nat, p ∈ [(Reg.VMAX, m.w1 % 2 ^ 32), (.AMAX, m.w1 / 2 ^ 32), (.DMAX, m.w2 % 2 ^ 32), (.JMAX, m.w2 / 2 ^ 32)] →
        u.rd p.1 n = if p.2 = 0 then s.rd p.1 n else (p.2 : Int)) ∧
      (m.kind = 7 → ∀ p : Reg × Nat, p ∈ [(Reg.RUN_CURRENT, bitsOf m.w1 15 0), (.HOLD_CURRENT, bitsOf m.w1 31 16), (.BOOST_CURRENT, bitsOf m.w1 47 32)] →
        u.rd p.1 n = if p.2 = 0xFFFF then s.rd p.1 n else (p.2 : Int)) ∧
      (m.kind = 8 → (findProg s.progs (bitsOf m.w1 15 0)).isSome = true → bitsOf m.w1 15 0 < 1024 →
        (∃ w, w < 256 ∧ s.rdN .WORK_PROG w = bitsOf m.w1 15 0 ∧ s.rdN .WORK_CTX w = n.val) →
        tget none u.calls (1024 * n + bitsOf m.w1 15 0) = some m.w2 ∧ (u.planner n).act = some m) ∧
      (m.kind = 8 → (findProg s.progs (bitsOf m.w1 15 0)).isSome = false → u.rd .LAST_DONE_TAG n = m.tag ∧ (u.planner n).act = none ∧
        u.bit .CAUSES_LATCHED (blkAxis n) 0x1E = true)

/-- The profile step of a resting axis takes a HOME record (R130, R131, R134): HERE assigns its value at the next mark, where it
completes with result 1; the searches by stall, by limit input and the exercise run set out at the record's speed over HOME_SEARCH_DIST, the axis in HOMING, where
their references, their input and their travel are there and the input is not active. -/
def Obligations.HomeRecordsAreTaken : Prop :=
  ∀ (t : Nat) (n : Fin 64) (s0 : State) (m : Move) (e : Instr), let s := s0.at t;
    s.rd .ledBad n = 0 → s.SlotComes 2 n → s.rdN .stampFold n = s.pass + 1 → s.AtRest n → s.headRec n = some m → m.kind = 9 →
    (e, m.method) ∈ [(Instr.homeHere t n, 0), (.homeEndStop t n, 1), (.homeLimitInput t n, 2), (.homeLimitOrEndStop t n, 3),
      (.homeExerciseRun t n, 4)] →
    ∃ u, exec e s0 = .next u ∧ u.rd .ACTIVE_TAG n = m.tag ∧ u.waiting n + 1 = s.waiting n ∧
      (m.method = 0 → s.rd .HOME_COUNT n + 1 < 2 ^ 32 → u.rd .finHome n = 1 ∧ u.rd .HOME_COUNT n = s.rd .HOME_COUNT n + 1 ∧
        u.rd .finTag n = m.tag ∧ (u.planner n).act = none ∧ u.rd .asgPend n = 1 ∧ u.rd .asgVal n = m.homeVal ∧ u.rd .AXIS_STATE n = 4 ∧
        u.rd .TARGET n = s.rd .TARGET n) ∧
      (m.method ≠ 0 → (m.method ≠ 2 → (s.refFor n (decide (m.homeDir < 0)) m.speed).isSome = true) →
        (m.method = 4 → (s.refFor n (decide (-m.homeDir < 0)) m.speed).isSome = true ∧ s.rd .EX_TRAVEL n ≠ 0) →
        (m.method = 2 → s.rdN (if m.homeDir < 0 then .LIMIT_NEG else .LIMIT_POS) n < 128) →
        u.rd .AXIS_STATE n = 4 ∧ u.rd .hmPhase n = 1 ∧ u.rd .ACTIVE_KIND n = 9 ∧ (u.planner n).act = some m ∧
        (∀ T : Int, m.preset = false → T = fdiv (s.planner n).nxt.x 65536 + m.homeDir * s.rd .HOME_SEARCH_DIST n →
          s.rd .SOFT_MIN n ≤ T → T ≤ s.rd .SOFT_MAX n → (s.planner n).nxt.x % 65536 = 0 → u.rd .TARGET n = T))

/-- What the events of axis `n` and its fold-in and interpolation slots leave alone: every register of another axis and every register that is not
the step's own, the planners and move queues of the other axes, and every table but those of the fault log (R213). An armed injection, which may
fail an engine, is left out for the slots (R350). -/
def Obligations.AxisEventsFrame : Prop :=
  ∀ (t : Nat) (n : Fin 64) (m : SlotIn) (e : Instr) (s u : State),
    e ∈ [.waitTimeout t n, .releaseStart t n, .learnLegEnd t n] ∨
      (e ∈ [.feedbackFoldIn t n m, .interpolationSetUp t n m] ∧ s.rd .INJECT_STATE 0 ≠ 1) →
    exec e s = .next u →
    s.OnlyAt u n [.AXIS_STATE, .AXIS_EVENTS, .LAST_DONE_TAG, .ACTIVE_KIND, .WAIT_TIMEOUTS, .RELEASE_PENDING, .RELEASE_UNSYNC, .LEARN_RESULT,
      .LEARN_FAIL_POINT, .FB_POS, .DEVIATION, .DEV_PEAK, .DEV_VALID, .readyAt, .relWait, .relLate, .relFrom, .stopPend, .stopAt, .lnOn, .lnGo,
      .lnPoint, .lnLeg, .lnCnt, .lnSamp, .lnOff, .lnR1, .lnR2, .lnMeth, .devStop, .stampFold, .stampInterp, .incShadow, .contPend, .ledBad]
      (faultRegs ++ [.DEVICE_TIME, .slotAt, .lnEntry]) ∧
    (∀ j, j / 16 ≠ n → u.rd .lnEntry j = s.rd .lnEntry j) ∧
    (∀ k, k ≠ n → u.planner k = s.planner k ∧ (k < 64 → (u.queue k).pkts = (s.queue k).pkts)) ∧
    { u with regs := s.regs, queues := s.queues, log := s.log, opens := s.opens, shadows := s.shadows, fresh := s.fresh
             freshAt := s.freshAt, planners := s.planners, freeCtr := s.freeCtr, was := s.was } = s

/-- RELEASE_START (R72): in the CKP cycle that contains the instant, a planned release begins: nothing of it waits any more, and the angle's first
increment starts with the next CKP cycle. WAIT_TIMEOUT (R68): at the mark that completes the count of passes, a WAIT that nothing has satisfied
completes with the event and the count of timeouts, and with ON_TIMEOUT every waiting record goes. STEP_EDGE (R76, R78, R93): the pair's count
moves by one with the level of DIR, a DIR change less than 100 ns before counts in DIR_SETUP_VIOL, an edge less than 450 ns after the last one in
OVERRATE; every follower of the pair takes the new goal, and its reconstruction goes on from where it stands. PAIR_FAULT (R90, R93) shows whether
the detector finds the pair faulty, and notes when it began to. STREAM_TIMEOUT (R90) loses the source of a stream follower whose samples have run
out. -/
def Obligations.ReleasesTimeoutsAndSources : Prop :=
  (∀ (t : Nat) (n : Fin 64) (s0 : State), let s := s0.at t;
     (s.rd .relWait n = 3 → s.rdN .RELEASE_PENDING n ≤ s.ring + 1 →
       ∃ u, exec (.releaseStart t n) s0 = .next u ∧ u.rd .relWait n = 0 ∧ u.rd .RELEASE_PENDING n = 0 ∧
         u.rd .relFrom n = (if s.rd .relFrom n = 1 then (((s.now - s.rdN .PASS_MARK_TIME 0) / 2 + 2 : Nat) : Int) else s.rd .relFrom n) ∧
         u.planner n = s.planner n) ∧
     (∀ m, s.waitRec n = some m → s.waitMet m = false → s.atMark = true → m.timeout ≠ 0 → m.mark + m.timeout ≤ s.pass →
       s.rd .WAIT_TIMEOUTS n + 1 < 2 ^ 32 →
       ∃ u, exec (.waitTimeout t n) s0 = .next u ∧ u.rd .WAIT_TIMEOUTS n = s.rd .WAIT_TIMEOUTS n + 1 ∧ u.bit .AXIS_EVENTS n 9 = true ∧
         u.rd .LAST_DONE_TAG n = m.tag ∧ (u.planner n).act = none ∧ (m.onTimeout = true → u.waiting n = 0) ∧
         (m.onTimeout = false → u.waiting n = s.waiting n))) ∧
  (∀ (t : Nat) (s0 : State), let s := s0.at t;
     (∀ (p : Fin 8) (dir : Bool) (age : Nat), let c := s.rd .STEP_COUNT p + if dir = decide (s.rd .DIR_POLARITY p = 1) then -1 else 1;
       -2 ^ 47 ≤ c → c < 2 ^ 47 → s.rd .DIR_SETUP_VIOL p + 1 < 2 ^ 32 → s.rd .OVERRATE p + 1 < 2 ^ 32 →
       ∃ u, exec (.stepEdge t p dir age) s0 = .next u ∧ u.rd .STEP_COUNT p = c ∧
         u.rd .DIR_SETUP_VIOL p = s.rd .DIR_SETUP_VIOL p + (if age < 10 then 1 else 0) ∧
         u.rd .OVERRATE p = s.rd .OVERRATE p + (if s.rdN .stepAt p ≠ 0 ∧ s.now + 1 < s.rdN .stepAt p + 45 then 1 else 0) ∧
         (∀ n, n < 64 → s.rdN .FOLLOW_SOURCE n = 1 → s.rdN .SOURCE_NUM n = p.val →
           u.rd .srcGoal n = c * s.rd .COARSE_SIZE n * 65536 ∧
           (s.rd .srcNew n ≠ 1 ∨ s.rdN .srcAt n ≠ s.now → u.rd .srcFrom n = s.srcPos n s.now ∧ u.rd .srcAt n = (s.now : Int))) ∧
         (∀ n, s.rdN .FOLLOW_SOURCE n ≠ 1 ∨ s.rdN .SOURCE_NUM n ≠ p.val →
           u.rd .srcGoal n = s.rd .srcGoal n ∧ u.rd .srcFrom n = s.rd .srcFrom n) ∧
         s.OnlyAt u p [.STEP_COUNT, .DIR_SETUP_VIOL, .OVERRATE, .stepAt] [.srcGoal, .srcFrom, .srcAt, .srcSpan, .srcNew] ∧
         { u with regs := s.regs } = s) ∧
     (∀ (p : Fin 8) (on : Bool), ∃ u, exec (.pairFault t p on) s0 = .next u ∧ u.rd .PAIR_FAULT p = (if on then 1 else 0) ∧
       u.rd .pairAt p = (if on = true ∧ s.rd .PAIR_FAULT p = 0 then (s.now : Int) else s.rd .pairAt p) ∧
       s.OnlyAt u p [.PAIR_FAULT, .pairAt] [] ∧ { u with regs := s.regs } = s) ∧
     (∀ n : Fin 64, s.rd .FOLLOW_SOURCE n = 4 → s.streamOver n = true → exec (.streamTimeout t n) s0 = .next (s.wr .srcLost n 1)))

-- clocks, holdover and SYNC

/-- The clock events (R20, R312, R360–R362): the loss of the root moves the clocks to the backup oscillator and its trim, the loss of PLL0 to
PLL1, each with its cause, its REDUNDANCY bit and, from RUN, the change to RUN-DEGRADED in the same cycle; a root valid for ROOT_RETURN_DELAY
takes the clocks back and ends the cause; the backup oscillator is trimmed while the root is present. Holdover and the SYNC terminal (R366, R367,
R369): a second without a usable TIME frame enters holdover, its limit, once its cycle is over (R16, log entry 147), leaves the module
unsynchronized and holds SYNC_LOST while ring time is in use; the output rises at its ring-time instant, or skips it while ring time is not held
and SYNC_FREE is 0, and falls after SYNC_WIDTH; an input edge is stamped in device time and ring time. -/
def Obligations.ClocksHoldoverAndSync : Prop :=
  (∀ (t : Nat) (s0 : State), let s := s0.at t;
     (s.rd .CLK_SOURCE 0 ≠ 2 → s.rd .ROOT_LOSSES 0 + 1 < 2 ^ 32 →
       ∃ u, exec (.rootLost t) s0 = .next u ∧ u.rd .CLK_SOURCE 0 = 2 ∧ u.rd .ROOT_LOSSES 0 = s.rd .ROOT_LOSSES 0 + 1 ∧
         u.rd .pllTrim 0 = (if s.rd .trimKnown 0 = 1 then s.rd .BACKUP_TRIM 0 else Config.factoryTrim) ∧
         u.rd .rootLostAt 0 = (s.now : Int) ∧ u.bit .REDUNDANCY 0 5 = true ∧ u.bit .CAUSES_PRESENT 0x60 1 = true ∧
         (s.mode = 5 → u.mode = 6 ∧ u.rd .MODE_PREV 0 = 5 ∧ u.rd .MODE_CAUSE 0 = 4 ∧ u.rd .MODE_TIME 0 = (s.now : Int))) ∧
     (s.rd .CLK_SOURCE 0 = 2 → s.rd .rootKind 0 ≠ 2 → s.rdN .rootLostAt 0 + 100000 * s.rdN .ROOT_RETURN_DELAY 0 ≤ s.now →
       ∃ u, exec (.rootRestored t) s0 = .next u ∧ u.rd .CLK_SOURCE 0 = s.rd .rootKind 0 ∧ u.rd .pllTrim 0 = 0 ∧
         u.bit .REDUNDANCY 0 5 = false ∧ u.bit .CAUSES_PRESENT 0x60 1 = false ∧ u.bit .CAUSES_LATCHED 0x60 0x20 = true) ∧
     (s.rd .PLL_IN_USE 0 ≠ 1 →
       ∃ u, exec (.pllSwitch t) s0 = .next u ∧ u.rd .PLL_IN_USE 0 = 1 ∧ u.bit .REDUNDANCY 0 6 = true ∧
         u.bit .CAUSES_PRESENT 0x60 2 = true ∧ (s.mode = 5 → u.mode = 6)) ∧
     (∀ ppb : Int, s.rd .CLK_SOURCE 0 ≠ 2 → -2 ^ 31 ≤ ppb → ppb < 2 ^ 31 →
       exec (.backupTrim t ppb) s0 = .next ((s.wr .BACKUP_TRIM 0 ppb).wr .trimKnown 0 1))) ∧
  (∀ (t : Nat) (s0 : State), let s := s0.at t;
     (s.rd .SYNC_STATE 0 = 1 ∨ s.rd .SYNC_STATE 0 = 2 → s.rdN .LAST_TIME_FRAME 0 + 100000000 ≤ s.now →
       exec (.holdoverEntry t) s0 = .next ((((s.wr .SYNC_STATE 0 3).wr .holdoverFrom 0 s.now).wr .rtGood 0 0).wr .rtBad 0 0)) ∧
     (s.rd .SYNC_STATE 0 = 3 → s.rdN .holdoverFrom 0 + 100000 * s.rdN .HOLDOVER_LIMIT 0 < s.now →
       ∃ u, exec (.holdoverLimit t) s0 = .next u ∧ u.rd .SYNC_STATE 0 = 0 ∧
         u.bit .CAUSES_PRESENT 0x60 0x10 = (decide (s.rd .rtOnce 0 = 1) && s.ringUsed)) ∧
     (∀ i, s.rd .SYNC_MODE 0 = 1 → syncInstant s.ring (s.rdN .SYNC_PERIOD 0) (s.rdN .SYNC_PHASE 0) = some i → s.ring < i + 2 →
       s.rdN .syncNext 0 < i → s.rd .SYNC_SKIPPED 0 + 1 < 2 ^ 32 →
       ∃ u, exec (.syncOutputPulse t) s0 = .next u ∧ u.rd .syncNext 0 = i ∧
         (s.tsy = false ∨ s.rd .SYNC_FREE 0 ≠ 0 →
           u.rd .syncLevel 0 = 1 ∧ u.rd .syncHighFrom 0 = (s.now : Int) ∧ u.rd .SYNC_SKIPPED 0 = s.rd .SYNC_SKIPPED 0) ∧
         (s.tsy = true → s.rd .SYNC_FREE 0 = 0 →
           u.rd .syncLevel 0 = s.rd .syncLevel 0 ∧ u.rd .SYNC_SKIPPED 0 = s.rd .SYNC_SKIPPED 0 + 1)) ∧
     (s.rd .syncLevel 0 = 1 → s.rdN .syncHighFrom 0 + s.rdN .SYNC_WIDTH 0 ≤ s.now →
       exec (.syncPulseEnd t) s0 = .next (s.wr .syncLevel 0 0)) ∧
     (s.rd .SYNC_MODE 0 = 2 → s.rd .SYNC_EDGES 0 + 1 < 2 ^ 32 →
       ∃ u, exec (.syncInputEdge t) s0 = .next u ∧ u.rd .SYNC_IN_DEVICE 0 = (s.now : Int) ∧ u.rd .SYNC_IN_RING 0 = (s.ring : Int) ∧
         u.rd .SYNC_EDGES 0 = s.rd .SYNC_EDGES 0 + 1))

/-- What the clock and holdover events leave alone: every register that is not of the clocks, of ring time's state, of the mode (R312), of
REDUNDANCY or of the fault log, and every table but the fault log's. -/
def Obligations.ClockEventsFrame : Prop :=
  ∀ (t : Nat) (e : Instr) (s u : State),
    (e ∈ [.rootLost t, .rootRestored t, .pllSwitch t, .holdoverEntry t, .holdoverLimit t, .syncOutputPulse t, .syncPulseEnd t] ∨
      ∃ ppb, e = .backupTrim t ppb) → exec e s = .next u →
    s.OnlyAt u 0 [.CLK_SOURCE, .ROOT_LOSSES, .PLL_IN_USE, .REDUNDANCY, .MODE, .MODE_PREV, .MODE_TIME, .MODE_CAUSE, .BACKUP_TRIM, .SYNC_STATE,
      .SYNC_SKIPPED, .DEVICE_TIME, .pllTrim, .pllTrimAt, .rootLostAt, .trimKnown, .holdoverFrom, .rtGood, .rtBad, .syncNext, .syncLevel,
      .syncHighFrom] faultRegs ∧ s.LogOnly u

-- converters

/-- CONVERSION_TRIGGER (R195, R196): where no sequence runs on past it, the trigger starts the group's sequence at its CKA boundary and every
member begins anew; during a sequence it is latched for every member, and a further one is lost and set in CV_EVENTS. CONVERSION_COMPLETE (R192,
R197, R198, R201): the code, clamped to 14 bits, enters the result register and the object of its entry or, for an urgent request, URGENT_RESULT,
which ends the request; a result that no idle harvest unit has taken is replaced, and that counts. -/
def Obligations.SequencesAndConversions : Prop :=
  (∀ (t : Nat) (s0 : State), let s := s0.at t;
     s.markTrigger = true → s.seqMembers ≠ [] →
       (s.rd .trigHeld 0 = 0 → s.rdN .seqEnd 0 < s.ckaNow + 5 →
         ∃ u, exec (.conversionTrigger t) s0 = .next u ∧ u.rd .seqStart 0 = (max s.ckaNow (s.rdN .seqEnd 0) : Nat) ∧ u.rd .trigHeld 0 = 0 ∧
           (∀ c ∈ s.seqMembers, s.rd .cvCur c ≠ 0 → u.rd .cvPos c = 1) ∧
           (∀ c ∈ s.seqMembers, s.rd .cvCur c = 0 → s.cvRuns c = true → s.rd .cvUrg c = 0 → 0 < s.rdN .SEQ_LEN c →
             u.rd .cvCur c = 1 ∧ u.rd .cvEnt c = 0 ∧ u.rd .cvPos c = if 1 < s.rdN .SEQ_LEN c then 2 else 0)) ∧
       (s.rd .trigHeld 0 = 0 → s.ckaNow + 5 ≤ s.rdN .seqEnd 0 →
         ∃ u, exec (.conversionTrigger t) s0 = .next u ∧ u.rd .trigHeld 0 = 1 ∧ u.rd .seqStart 0 = s.rd .seqStart 0 ∧
           ∀ c ∈ s.seqMembers, s.rd .TRIG_LATCHED c + 1 < 2 ^ 32 → u.rd .TRIG_LATCHED c = s.rd .TRIG_LATCHED c + 1) ∧
       (s.rd .trigHeld 0 = 1 → s.ckaNow + 5 ≤ s.rdN .seqEnd 0 →
         ∃ u, exec (.conversionTrigger t) s0 = .next u ∧ u.rd .trigHeld 0 = 1 ∧ u.rd .seqStart 0 = s.rd .seqStart 0 ∧
           ∀ c ∈ s.seqMembers, u.bit .CV_EVENTS c 2 = true ∧
             (s.rd .TRIG_LOST c + 1 < 2 ^ 32 → u.rd .TRIG_LOST c = s.rd .TRIG_LOST c + 1))) ∧
  (∀ (t : Nat) (c : Fin 16) (code : Int) (s0 : State), let s := s0.at t;
     s.rd .trigHeld 0 = 0 → s.cvRuns c = true → s.rdN .cvFrom c + 5 * (s.cvSample c + 16) ≤ 2 * s.now + 1 →
     s.rd .cvCur c = 1 ∨ s.rd .cvCur c = 2 → s.rd .CONVERSIONS c + 1 < 2 ^ 64 →
     let r := min (max code (-8192)) 8191;
     ∃ u, exec (.conversionComplete t c code) s0 = .next u ∧ u.rd .hdFull c = 1 ∧ u.rd .hdCode c = r ∧
       u.rd .CONVERSIONS c = s.rd .CONVERSIONS c + 1 ∧
       (s.rd .cvCur c = 1 → u.rd .CV_RESULT (16 * c + s.rdN .cvEnt c) = r ∧ u.rd .hdEntry c = s.rdN .cvEnt c ∧ u.rd .URGENT_RESULT c = s.rd .URGENT_RESULT c) ∧
       (s.rd .cvCur c = 2 → s.rd .URGENT_DONE c + 1 < 2 ^ 32 → u.rd .URGENT_RESULT c = r ∧ u.rd .cvUrg c = 0 ∧
         u.rd .URGENT_DONE c = s.rd .URGENT_DONE c + 1 ∧ ∀ k, u.rd .CV_RESULT k = s.rd .CV_RESULT k) ∧
       (s.rd .hdFull c = 0 → u.rd .OVERRUNS c = s.rd .OVERRUNS c) ∧
       (s.rd .hdFull c = 1 → s.hvIdle c = false → s.rd .OVERRUNS c + 1 < 2 ^ 32 →
         u.rd .OVERRUNS c = s.rd .OVERRUNS c + 1 ∧ u.bit .CV_EVENTS c 0 = true))

/-- HARVEST (R198, R200, R252): the idle harvest unit takes the result, is busy for eight cycles and starts the converter's program; a clean die
temperature goes to DIE_TEMP and raises its maximum. CV_SELF_CHECK_DONE (R201, R203, R209): a self-check that finds ground and the test DAC within
their tolerance returns the converter to its mode and ends its causes; one that does not leaves it contained. Its conversions count, those out of
range and the ground results that fail too. CAL_POINT_DONE (R201, R205): the mean of a point is kept for its converter and gain, unless a result
was out of range, which voids the point; the converter is free again. Nothing else than these units' own registers changes. -/
def Obligations.HarvestAndCalibration : Prop :=
  (∀ (t : Nat) (c : Fin 16) (s0 : State), let s := s0.at t;
     s.rd .hdFull c = 1 → s.hvIdle c = true →
     ∃ u, exec (.harvest t c) s0 = .next u ∧ u.rd .hdFull c = 0 ∧ u.rd .hvFree c = (s.now + 8 : Nat) ∧
       (∀ p, findProg s.progs (s.rdN .HARVEST_PROG c) = some p → ∃ r, u.run (.harvest c) = some r ∧ r.prog = p.num ∧ r.words = p.words ∧
         r.pos = 0 ∧ r.regs.length = 16 ∧ r.start = s.now ∧ r.v 1 = BitVec.ofNat 32 (s.harvestInfo c)) ∧
       (findProg s.progs (s.rdN .HARVEST_PROG c) = none → u.runs = s.runs) ∧
       (s.rdN .hdInput c = 9 → s.rdN .hdFlags c % 8 = 0 →
         let x := roundDiv (s.corrected c (s.rdN .hdGain c) (s.rd .hdCode c)) (16 * 2 ^ s.rdN .hdGain c : Nat);
         u.rd .DIE_TEMP (c / 2 : Nat) = x ∧ u.rd .DIE_TEMP_MAX (c / 2 : Nat) = max (s.rd .DIE_TEMP_MAX (c / 2 : Nat)) x)) ∧
  (∀ (t : Nat) (s0 : State), let s := s0.at t;
     (∀ (c : Fin 16) (ground dac : List Int), s.rd .scOn c ≠ 0 → s.rdN .scOn c + 799 ≤ s.now → ground.length = 8 → dac.length = 8 →
       s.rd .CONVERSIONS c + 16 < 2 ^ 64 → s.rd .OOR_COUNT c + 16 < 2 ^ 32 → s.rd .GROUND_FAILS c + 8 < 2 ^ 32 →
       let good := (∀ r ∈ ground, (s.corrected c 0 r).natAbs ≤ 16 * s.rdN .GND_TOL c) ∧ ∀ r ∈ dac, (s.corrected c 0 r - 65536).natAbs ≤ 1024;
       ∃ u, exec (.cvSelfCheckDone t c ground dac) s0 = .next u ∧ u.rd .scOn c = 0 ∧ u.rd .CONVERSIONS c = s.rd .CONVERSIONS c + 16 ∧
         u.rd .OOR_COUNT c = s.rd .OOR_COUNT c + ((ground ++ dac).filter (fun r => decide (r ≤ -8192 ∨ 8191 ≤ r))).length ∧
         u.rd .GROUND_FAILS c = s.rd .GROUND_FAILS c + (ground.filter (fun r => decide (16 * s.rdN .GND_TOL c < (s.corrected c 0 r).natAbs))).length ∧
         (good → u.rd .CV_STATE c = 0 ∧ u.bit .CAUSES_PRESENT (blkCv c) 1 = false ∧ u.bit .CAUSES_PRESENT (blkCv c) 2 = false) ∧
         (¬ good → s.rd .CV_STATE c = 3 → u.rd .CV_STATE c = 3) ∧
         s.OnlyAt u c [.CV_STATE, .CONVERSIONS, .OOR_COUNT, .SUSPECT_COUNT, .GROUND_FAILS, .CV_EVENTS, .cvPos, .cvCur, .cvFrom, .cvUrg, .cvSusp, .gndRun,
           .scOn, .cvEnt] (faultRegs ++ [.CAL_STATUS, .calBusy, .calHave]) ∧ s.LogOnly u) ∧
     (∀ (mean : Int) (oor : List (Fin 256)), s.rd .calBusy 0 = 1 ∨ s.rd .calBusy 0 = 2 → s.rdN .calAt 0 + 30720 ≤ s.now → -2 ^ 31 ≤ mean →
       mean < 2 ^ 31 →
       let c := s.rdN .calC 0;
       let i := 4 * c + s.rdN .calG 0;
       s.rd .CONVERSIONS c + 256 < 2 ^ 64 →
       ∃ u, exec (.calPointDone t mean oor) s0 = .next u ∧ u.rd .calBusy 0 = 0 ∧ u.rd .CV_STATE c = 0 ∧ u.rd .CONVERSIONS c = s.rd .CONVERSIONS c + 256 ∧
         (oor ≠ [] → u.rd .CAL_STATUS 0 = 4 ∧ u.bit .calHave i (s.rdN .calBusy 0 - 1) = false ∧ u.rd .CAL_MEAN 0 = s.rd .CAL_MEAN 0 ∧
           u.bit .CV_EVENTS c 1 = true) ∧
         (oor = [] → u.rd .CAL_STATUS 0 = s.rd .calBusy 0 + 1 ∧ u.rd .CAL_MEAN 0 = mean ∧
           u.rd (if s.rd .calBusy 0 = 1 then .calZero else .calFull) i = mean ∧ u.bit .calHave i (s.rdN .calBusy 0 - 1) = true) ∧
         s.OnlyAt u c [.CV_STATE, .CONVERSIONS, .OOR_COUNT, .SUSPECT_COUNT, .CV_EVENTS, .cvPos, .cvCur, .cvFrom, .cvSusp, .cvEnt]
           (faultRegs ++ [.CAL_MEAN, .CAL_STATUS, .calBusy, .calZero, .calFull, .calHave]) ∧ s.LogOnly u))

-- choppers

/-- The chopper of a phase that conducts (R104, R105): a peak past blanking ends the on time and starts an off time, fast or slow as DECAY_MODE
says — mode 0 by the fall of |REF| since the last on time, mode 3 fast for MIX_TIME — and one in the cycle in which blanking ends is counted as
early; a peak before that is ignored. A sign change of REF starts a reversal in FAST, whatever else the cycle brings. The ends of an off time
(R102, R104, R106): at a valley no sooner than 1 µs after its start, and outside a reversal, or once TOFF_MAX has run out, which counts, the phase
turns on with the sign of REF, its blanking from the cycle in which its switches are on; with W at 63 the turn-on waits until 625 cycles have
passed since the last on time began. A fast off time below two codes goes on slow, and in a reversal turns on in the new sign once 1 µs has
passed. -/
def Obligations.ChoppersRunTheirPhases : Prop :=
  (∀ (t : Nat) (n : Fin 64) (ph : Fin 2) (s0 : State), let s := s0.at t;
     let p := 2 * n.val + ph.val;
     let ref := (s.refNow n ph).natAbs;
     s.ChopperReady n ph →
     (s.signChanged n ph = false → s.rd .phState p = 1 →
       ∃ u, exec (.chopperPeak t n ph) s0 = .next u ∧
         (s.rdN .phOnAt p + s.rdN .effBlank n ≤ s.ckp →
           u.rd .phState p = (if s.rd .effDecay n = 2 ∨ (s.rd .effDecay n = 3 ∧ s.rd .effMix n ≠ 0) ∨
             (s.rd .effDecay n = 0 ∧ ref < s.rdN .phOnRef p) then 3 else 2) ∧
           u.rd .phMixEnd p = (if s.rd .effDecay n = 3 ∧ s.rd .effMix n ≠ 0 then (s.ckp + s.rdN .effMix n + 1 : Nat) else 0) ∧
           u.rd .phOffAt p = (s.ckp : Int) ∧ u.rd .phTon p = (s.ckp - s.rdN .phOnAt p : Nat) ∧ u.rd .phPeak p = 1 ∧
           (s.rd .EARLY_TRIPS n + 1 < 2 ^ 32 → u.rd .EARLY_TRIPS n =
             s.rd .EARLY_TRIPS n + (if s.ckp = s.rdN .phOnAt p + s.rdN .effBlank n then 1 else 0))) ∧
         (s.ckp < s.rdN .phOnAt p + s.rdN .effBlank n →
           u.rd .phState p = 1 ∧ u.rd .phOffAt p = s.rd .phOffAt p ∧ u.rd .phOnAt p = s.rd .phOnAt p)) ∧
     (s.signChanged n ph = true → ∀ e ∈ [Instr.chopperPeak t n ph, .chopperValley t n ph, .offTimeMax t n ph, .refSignChange t n ph,
       .fastBelowTwoCodes t n ph], ∃ u, exec e s0 = .next u ∧ u.rd .phState p = 3 ∧ u.rd .phRev p = 1)) ∧
  (∀ (t : Nat) (n : Fin 64) (ph : Fin 2) (s0 : State), let s := s0.at t;
     let p := 2 * n.val + ph.val;
     (s.ChopperReady n ph → s.signChanged n ph = false →
       (s.rd .phState p = 2 ∨ s.rd .phState p = 3 → s.rd .phRev p = 0 →
         ∃ u, exec (.chopperValley t n ph) s0 = .next u ∧
           (s.rdN .phOffAt p + 50 ≤ s.ckp → s.rd .phW p ≠ 63 →
             u.rd .phState p = 1 ∧ u.rd .phSign p = (s.refNow n ph).sign ∧ u.rd .phOnPrev p = s.rd .phOnAt p ∧
             (s.rd .phState p = 2 → s.forcedOff n = false → s.rd .brakeOn (dieOf n) = 0 → s.driveOf n = 1 ∨ s.driveOf n = 2 →
               (∀ hb : Fin 2, let k := 4 * n.val + 2 * ph.val + hb.val;
                 s.rd .refreshOn k = 0 ∧ s.rd .swCmd k = 2 ∧ s.onFrom n (2 * ph.val + hb.val) ≤ s.ckp) →
               u.rd .phOnAt p = (s.ckp + s.rdN .DEAD_TIME n : Nat))) ∧
           (s.rdN .phOffAt p + 50 ≤ s.ckp → s.rd .phState p = 2 → s.rd .phW p = 63 → s.bit .phFlags p 5 = true →
             s.ckp + s.rdN .DEAD_TIME n < s.rdN .phOnAt p + 625 → s.rd .FREQ_CAPS n + 1 < 2 ^ 32 →
             u.rd .phState p = 2 ∧ u.rd .phCmd p = (s.rdN .phOnAt p + 626 - s.rdN .DEAD_TIME n : Nat) ∧
               u.rd .FREQ_CAPS n = s.rd .FREQ_CAPS n + 1) ∧
           (s.ckp < s.rdN .phOffAt p + 50 → u.rd .phState p = s.rd .phState p ∧ u.rd .phOnAt p = s.rd .phOnAt p)) ∧
       (s.rd .phState p = 3 →
         ∃ u, exec (.fastBelowTwoCodes t n ph) s0 = .next u ∧
           (s.rd .phRev p = 0 → u.rd .phState p = 2) ∧
           (s.rd .phRev p ≠ 0 → s.rd .phW p ≠ 63 → s.rdN .phOffAt p + 50 ≤ s.ckp → u.rd .phState p = 1 ∧ u.rd .phSign p = (s.refNow n ph).sign) ∧
           (s.rd .phRev p ≠ 0 → s.ckp < s.rdN .phOffAt p + 50 → u.rd .phState p = 3))) ∧
     (let x := s.rdN .phOffAt p + s.rdN .effToff n;
       s.rd .phState p = 2 ∨ s.rd .phState p = 3 → s.rd .phPend p = 0 → s.rd .phCmd p = 0 → s.rd .phMixEnd p = 0 → s.rd .phW p ≠ 63 → x < s.ckp →
       s.refIn n ph x ≠ 0 → s.refNow n ph ≠ 0 → (s.refNow n ph).sign = (s.refIn n ph x).sign →
       s.rd .phRev p ≠ 0 ∨ s.rd .phSign p = 0 ∨ (s.refIn n ph x).sign = s.rd .phSign p → (∀ hb, hb < 4 → s.rd .refreshWait (4 * n.val + hb) = 0) →
       ∃ u, exec (.offTimeMax t n ph) s0 = .next u ∧ u.rd .phState p = 1 ∧ u.rd .phSign p = (s.refIn n ph x).sign ∧
         (s.rd .OFF_TIMEOUTS n + 1 < 2 ^ 32 →
           u.rd .OFF_TIMEOUTS n = s.rd .OFF_TIMEOUTS n + (if s.rd .phRev p = 0 then 1 else 0))))

/-- What the chopper events of a phase leave alone: every register of another axis, of the other phase and outside the chopper and its switches,
and every table. What these protections leave alone: every register of another axis and of its bridge, every module register but the fault log's,
and every table but the log's. -/
def Obligations.ChopperAndProtectionFrame : Prop :=
  (∀ (t : Nat) (n : Fin 64) (ph : Fin 2) (e : Instr) (s u : State),
     e ∈ [.chopperPeak t n ph, .chopperValley t n ph, .offTimeMax t n ph, .refSignChange t n ph, .fastBelowTwoCodes t n ph] → exec e s = .next u →
     (∀ r i, r ≠ .DEVICE_TIME → ¬ (r = .COUNTER ∧ i = 132 + n.val) →
       ¬ (i = n ∧ r ∈ [.EARLY_TRIPS, .THRESH_CLAMPS, .WIDEN_EVENTS, .FREQ_CAPS, .OFF_TIMEOUTS, .BOOT_REFRESHES]) →
       ¬ (i = 2 * n.val + ph.val ∧ r ∈ phaseRegs) → ¬ (i / 4 = 2 * n.val + ph.val ∧ r ∈ [.phWas, .phWasAt]) →
       ¬ (i / 4 = n.val ∧ r ∈ switchRegs) → u.rd r i = s.rd r i) ∧
     { u with regs := s.regs, freeCtr := s.freeCtr, was := s.was } = s) ∧
  (∀ (t : Nat) (n : Fin 64) (hs : Fin 4) (v : Nat) (w : Byte) (e : Instr) (s u : State),
     e ∈ [.overcurrent t n w, .bootstrapRefresh t n hs v, .bootstrapRefreshEnd t n hs v, .bootstrapLow t n hs v] → exec e s = .next u →
     s.OnlyAt u n [.BRIDGE_FAULT, .FAULT_SWITCHES, .OC_COUNT, .BOOT_REFRESHES, .BOOT_MIN, .DRIVE_STATE, .DEV_VALID, .WIDEN_EVENTS, .FREQ_CAPS,
       .OFF_TIMEOUTS, .THRESH_CLAMPS, .faultLatch, .latchAt, .contPend, .prevDrive, .brPersist, .retryAt, .chopFrom, .pulseEnd]
       (faultRegs ++ [.DEVICE_TIME] ++ phaseRegs ++ [.phWas, .phWasAt] ++ switchRegs) ∧
     s.BridgeOf u n ∧ s.LogOnly u)

-- protections of the bridges

/-- The fault latch (R140, R148, R150, R155), where the choppers have done what they do by themselves: an overcurrent latches the switches that have been on
for their blanking, and which side they are on selects the bit; a bootstrap below 7.5 V, or below 9.5 V after a refresh, latches too. Both choppers go open
and every switch of the axis is commanded off, the bit and its cause are set, and containment is due at the next mark. A refresh is asked for below
8.5 V; one that comes too soon waits. -/
def Obligations.ProtectionsLatch : Prop :=
  ∀ (t : Nat) (n : Fin 64) (s0 : State), let s := (s0.at t).settleAxis n;
    let off (u : State) (b : Nat) : Prop := u.rd .faultLatch n = 1 ∧ u.rd .phState (2 * n.val) = 0 ∧ u.rd .phState (2 * n.val + 1) = 0 ∧
      (∀ hb, hb < 4 → u.rd .swCmd (4 * n.val + hb) = 0) ∧ u.rd .pulseEnd n = 0 ∧ u.rd .contPend n = 1 ∧ u.bit .BRIDGE_FAULT n b = true ∧
      u.bit .CAUSES_PRESENT (blkAxis n) (b + 1) = true;
    (∀ w : Byte, s.latchedNow n = false → s.onSince n w.toNat 25 ≠ 0 → s.rd .faultLatch n ≠ 1 → s.rd .OC_COUNT n + 1 < 2 ^ 32 →
      let f := s.onSince n w.toNat 20;
      ∃ u, exec (.overcurrent t n w) s0 = .next u ∧ u.rd .FAULT_SWITCHES n = f ∧ u.rd .OC_COUNT n = s.rd .OC_COUNT n + 1 ∧
        u.rd .retryAt n = s.pass + 2 + s.rd .OC_RETRY_DELAY n ∧ off u (if f &&& 0xAA = 0 then 2 else if f &&& 0x55 = 0 then 3 else 1)) ∧
    (∀ (hs : Fin 4) (vbs : Nat), let k := 4 * n.val + hs.val;
      (vbs < 7500 → s.switchOn n hs true s.ckp = true →
        ∃ u, exec (.bootstrapLow t n hs vbs) s0 = .next u ∧ u.rd .BOOT_MIN n = min (s.rd .BOOT_MIN n) vbs ∧ off u 4) ∧
      (vbs < 8500 → s.rd .swCmd k = 1 → s.rd .BOOT_REFRESHES n + 1 < 2 ^ 32 →
        ∃ u, exec (.bootstrapRefresh t n hs vbs) s0 = .next u ∧ u.rd .BOOT_MIN n = min (s.rd .BOOT_MIN n) vbs ∧
          (s.rd .refreshAt k = 0 ∨ s.rdN .refreshAt k + 1999 ≤ s.now →
            u.rd .refreshOn k = 1 ∧ u.rd .refreshAt k = (s.now : Int) + 1 ∧ u.rd .BOOT_REFRESHES n = s.rd .BOOT_REFRESHES n + 1) ∧
          (s.rd .refreshAt k ≠ 0 → s.now < s.rdN .refreshAt k + 1999 →
            u.rd .refreshWait k = 1 ∧ u.rd .refreshOn k = s.rd .refreshOn k ∧ u.rd .BOOT_REFRESHES n = s.rd .BOOT_REFRESHES n)) ∧
      (s.rd .refreshOn k = 1 → s.rdN .refreshAt k + 99 ≤ s.now + 1 →
        ∃ u, exec (.bootstrapRefreshEnd t n hs vbs) s0 = .next u ∧ u.rd .refreshOn k = 0 ∧
          (vbs < 9500 → off u 4) ∧ (9500 ≤ vbs → u.rd .faultLatch n = s.rd .faultLatch n)))

/-- Off-state diagnostics and retries (R157, R159–R161, R163, R164): a free die takes its lowest waiting axis in OPEN into DIAGNOSING; 2.0 ms later its
readings give DIAG_FLAGS and DIAG_RESULT, and the axis is OPEN again; a die that is shut down or braked aborts it. A retry that is due queues a
diagnostic and counts; a pulse of direct switch mode, with its switches, and the retry count end when their time has come. OPEN_PHASE (R151) sets its
bit and holds its cause. -/
def Obligations.DiagnosticsRun : Prop :=
  ∀ (t : Nat) (s0 : State), let s := s0.at t;
    (∀ (k : Fin 8) (n : Nat) (l : List Nat), s.diagQueue k = n :: l → s.driveOf n = 0 → s.rd .DIAG_AXIS k = 255 →
      (s.dieDown n = false → s.rd .brakeOn k ≠ 1 →
        ∃ u, exec (.diagTestStart t k) s0 = .next u ∧ u.rd .DIAG_AXIS k = (n % 8 : Nat) ∧ u.rd .DRIVE_STATE n = 5 ∧
          u.diagQueue k = l.filter (· ≠ n) ∧ u.rd .diagFrom k = (s.now : Int)) ∧
      (s.dieDown n = true ∨ s.rd .brakeOn k = 1 →
        ∃ u, exec (.diagTestStart t k) s0 = .next u ∧ u.rd .DIAG_RESULT n = 3 ∧ u.rd .DIAG_AXIS k = 255 ∧ u.diagQueue k = l.filter (· ≠ n))) ∧
    (∀ (k : Fin 8) (volts : List Nat) (low : Bool), s.rdN .DIAG_AXIS k < 8 → s.rdN .diagFrom k + 200000 ≤ s.now →
      let n := 8 * k.val + s.rdN .DIAG_AXIS k;
      let f := diagFlags (diagLevels volts) low;
      ∃ u, exec (.diagEnd t k volts low) s0 = .next u ∧ u.rd .DIAG_AXIS k = 255 ∧ u.rd .DRIVE_STATE n = 0 ∧ u.rd .DIAG_FLAGS n = f ∧
        u.rd .DIAG_LEVELS n = diagLevels volts ∧ u.rd .DIAG_TIME n = (s.now : Int) ∧
        u.rd .DIAG_RESULT n = (if f % 256 ≠ 0 then 2 else if f ≠ 0 then 4 else 1)) ∧
    (∀ n : Fin 64, s.rd .pulseEnd n ≠ 0 → s.rdN .pulseEnd n ≤ s.now →
      ∃ u, exec (.directPulseEnd t n) s0 = .next u ∧ u.rd .pulseEnd n = 0 ∧
        (s.driveOf n = 4 → s.rd .brakeOn (dieOf n) = 0 → ∀ hb, hb < 4 → s.rd .refreshOn (4 * n.val + hb) = 0 → u.rd .swCmd (4 * n.val + hb) = 0) ∧
        s.OnlyAt u n [.pulseEnd] switchRegs ∧ s.BridgeOf u n ∧ { u with regs := s.regs } = s) ∧
    (∀ n : Fin 64, s0.atMark = true →
      (s0.rd .retryAt n ≠ 0 → s0.rdN .retryAt n ≤ s0.pass + 1 → s0.rd .AXIS_STATE n = 6 → s0.rd .RETRY_COUNT n < s0.rd .OC_RETRIES n →
        ∃ u, exec (.ocRetry n) s0 = .next u ∧ u.rd .retryAt n = 0 ∧ u.rd .RETRY_COUNT n = s0.rd .RETRY_COUNT n + 1 ∧
          (s0.rd .AXIS_USE n ≠ 0 → s0.rd .DRIVE_STATE n = 0 → s0.rd .dieOff (n / 8 : Nat) ≠ 1 →
            u.rd .DIAG_RESULT n = 5 ∧ u.rd .retryDiag n = 1 ∧
              (s0.rd .DIAG_RESULT n ≠ 5 → u.diagQueue (n / 8 : Nat) = insertAsc n (s0.diagQueue (n / 8 : Nat))))) ∧
      (s0.rd .DRIVE_STATE n = 1 → s0.rdN .chopFrom n + 1200000 ≤ s0.pass →
        exec (.retryCountReset n) s0 = .next (s0.wr .RETRY_COUNT n 0)) ∧
      (∀ ph : Fin 2, s0.rd .OPEN_DETECT_PASSES n ≠ 0 → s0.rd .OPEN_DETECT_PASSES n ≤ s0.rd .openRun (2 * n.val + ph.val) →
        ∃ u, exec (.openPhase n ph) s0 = .next u ∧ u.bit .BRIDGE_FAULT n (5 + ph.val) = true ∧
          u.bit .CAUSES_PRESENT (blkAxis n) 0x10 = true))

/-- The dies (R148, R149, R152): PUMP_FAIL shows in PUMP_OK and holds its cause; a hot die shows it until it has cooled; a die shut down opens the
choppers of its eight axes in this cycle and commands their switches off, they are contained at the next mark, and its diagnostics are aborted; a
cooled one is no longer shut down. The bus and the gate supply (R140, R145, R149, R153, R154, R158): what the bus reads is shown, and beyond its
thresholds its conditions hold their causes in the modes of the bridges; an undervoltage disables every chopping axis at once; an overvoltage
brakes the axes of the dies that see it, but for those that a higher rank holds off; once such a die has seen the bus below 64.0 V for 1 ms its
brake ends and gives them their drive state back; ENA1 or ENA2 removed drops the gate supply and is pending for the mark, and both restored give
it back. -/
def Obligations.DieBusAndEnableEvents : Prop :=
  (∀ (t : Nat) (k : Fin 8) (s0 : State), let s := s0.at t;
     (∃ u, exec (.pumpFail t k) s0 = .next u ∧ u.rd .PUMP_OK k = 0 ∧ u.bit .CAUSES_PRESENT (blkDie k) 0x11 = true) ∧
     (∃ u, exec (.dieHot t k) s0 = .next u ∧ u.rd .DIE_STATE k = (if s.rd .DIE_STATE k = 0 then 1 else s.rd .DIE_STATE k) ∧
       u.bit .CAUSES_PRESENT (blkDie k) 0x10 = true) ∧
     (∃ u, exec (.dieHotEnd t k) s0 = .next u ∧ u.rd .DIE_STATE k = (if s.rd .DIE_STATE k = 1 then 0 else s.rd .DIE_STATE k) ∧
       u.bit .CAUSES_PRESENT (blkDie k) 0x10 = false) ∧
     (s.rd .DIE_STATE k ≠ 2 → ∃ u, exec (.dieShutdown t k) s0 = .next u ∧ u.rd .DIE_STATE k = 2 ∧ u.bit .CAUSES_PRESENT (blkDie k) 1 = true ∧
       u.rd .DIAG_AXIS k = 255 ∧ u.diagQueue k = [] ∧
       ∀ j : Fin 8, let n := 8 * k.val + j.val;
         u.rd .phState (2 * n) = 0 ∧ u.rd .phState (2 * n + 1) = 0 ∧ u.rd .contPend n = 1 ∧ u.bit .BRIDGE_FAULT n 7 = true ∧
         ∀ hb, hb < 4 → u.rd .swCmd (4 * n + hb) = 0) ∧
     (s.rd .DIE_STATE k = 2 → ∃ u, exec (.dieCooled t k) s0 = .next u ∧
       u.rd .DIE_STATE k = (if s.bit .CAUSES_PRESENT (blkDie k) 0x10 then 1 else 0) ∧ u.bit .CAUSES_PRESENT (blkDie k) 1 = false)) ∧
  (∀ (t v : Nat) (s0 : State), let s := s0.at t;
     (∃ u, exec (.busLow t v) s0 = .next u ∧ u.rd .BUS_VM 0 = v ∧ u.rd .busLowOn 0 = (if v ≤ 1632 then 1 else s.rd .busLowOn 0) ∧
       (v ≤ 1632 → s.bridgeMode = true → u.bit .CAUSES_PRESENT 0x61 0x10 = true)) ∧
     (∃ u, exec (.busHigh t v) s0 = .next u ∧ u.rd .BUS_VM 0 = v ∧ u.rd .busHighOn 0 = (if 6272 ≤ v then 1 else s.rd .busHighOn 0) ∧
       (6272 ≤ v → s.bridgeMode = true → u.bit .CAUSES_PRESENT 0x61 0x11 = true)) ∧
     (v < 6300 → ∃ u, exec (.busHighEnd t v) s0 = .next u ∧ u.rd .BUS_VM 0 = v ∧ u.rd .busHighOn 0 = 0 ∧ u.bit .CAUSES_PRESENT 0x61 0x11 = false) ∧
     (v ≤ 1530 → ∃ u, exec (.busUndervoltage t v) s0 = .next u ∧ u.rd .BUS_VM 0 = v ∧ u.rd .busUvOn 0 = 1 ∧
       (s.bridgeMode = true → s.rd .uvOn 0 = 0 → u.rd .uvOn 0 = 1 ∧ u.bit .CAUSES_PRESENT 0x61 1 = true ∧
         ∀ n : Fin 64, s.driveOf n = 1 → u.rd .DRIVE_STATE n = 0 ∧ u.rd .AXIS_STATE n = 7 ∧ u.rd .DISABLE_CAUSE n = 4)) ∧
     (1650 < v → ∃ u, exec (.busRecovered t v) s0 = .next u ∧ u.rd .BUS_VM 0 = v ∧ u.rd .busLowOn 0 = 0 ∧ u.rd .busUvOn 0 = 0 ∧
       u.bit .CAUSES_PRESENT 0x61 0x10 = false ∧ (s.rd .uvOn 0 = 1 → u.rd .uvOn 0 = 0 ∧ u.bit .CAUSES_PRESENT 0x61 1 = false)) ∧
     (∀ (dies : Byte) (k : Fin 8), 6664 ≤ v → dies.toNat.testBit k = true → s.rd .brakeOn k = 0 → s.rd .BRAKE_COUNT k + 1 < 2 ^ 32 →
       ∃ u, exec (.busOvervoltage t dies v) s0 = .next u ∧ u.rd .BUS_VM 0 = v ∧ u.rd .brakeOn k = 1 ∧ u.rd .brakeFrom k = (s.now : Int) ∧
         u.rd .BRAKE_COUNT k = s.rd .BRAKE_COUNT k + 1 ∧ ((∀ j : Fin 8, s.rd .brakeOn j ≠ 1) → u.bit .CAUSES_PRESENT 0x61 2 = true) ∧
         (∀ j : Fin 8, dies.toNat.testBit j = false → u.rd .brakeOn j = s.rd .brakeOn j) ∧
         ∀ j : Fin 8, let n := 8 * k.val + j.val;
           (s.forcedOff n = false → s.rd .DRIVE_STATE n ≠ 3 → u.rd .DRIVE_STATE n = 3 ∧ u.bit .BRIDGE_FAULT n 9 = true ∧
             (s.rd .DRIVE_STATE n ≠ 5 → u.rd .prevDrive n = s.rd .DRIVE_STATE n)) ∧
           (s.forcedOff n = true → s.rd .DRIVE_STATE n ≠ 3 → s.rd .DRIVE_STATE n ≠ 5 → u.rd .DRIVE_STATE n = s.rd .DRIVE_STATE n)) ∧
     (∀ (dies : Byte) (k : Fin 8), v < 6400 → dies.toNat.testBit k = true → s.rd .brakeOn k = 1 → s.rdN .brakeFrom k + 100000 ≤ s.now →
       ∃ u, exec (.shortBrakeEnd t dies v) s0 = .next u ∧ u.rd .BUS_VM 0 = v ∧ u.rd .brakeOn k = 0 ∧
         ((∀ j : Fin 8, s.rd .brakeOn j = 1 → dies.toNat.testBit j = true ∧ s.rdN .brakeFrom j + 100000 ≤ s.now) →
           u.bit .CAUSES_PRESENT 0x61 2 = false) ∧
         ∀ j : Fin 8, let n := 8 * k.val + j.val;
           u.rd .DRIVE_STATE n = if s.rd .DRIVE_STATE n = 3 then (s.rdN .prevDrive n : Int) else s.rd .DRIVE_STATE n) ∧
     (∀ i : Fin 2, s.bit .ENA_STATE 0 i = true → ∃ u, exec (.enaRemoved t i) s0 = .next u ∧ u.bit .ENA_STATE 0 i = false ∧
       u.bit .ENA_STATE 0 2 = false ∧ u.rd .enaPend 0 = 1 ∧
       (2 ≤ s.mode → s.rd .ENA_REMOVALS 0 + 1 < 2 ^ 32 → u.rd .ENA_REMOVALS 0 = s.rd .ENA_REMOVALS 0 + 1 ∧
         u.bit .CAUSES_LATCHED 0x61 0x12 = true)) ∧
     (∀ i : Fin 2, s.bit .ENA_STATE 0 i = false → ∃ u, exec (.enaRestored t i) s0 = .next u ∧ u.bit .ENA_STATE 0 i = true ∧
       (s.bit .ENA_STATE 0 (1 - i.val) = true → u.bit .ENA_STATE 0 2 = true ∧ u.rd .enaDiffFrom 0 = 0 ∧ u.bit .CAUSES_PRESENT 0x61 0x13 = false) ∧
       (s.bit .ENA_STATE 0 (1 - i.val) = false → u.bit .ENA_STATE 0 2 = s.bit .ENA_STATE 0 2 ∧ u.rd .enaDiffFrom 0 = (s.now : Int) + 1)) ∧
     (s.rd .enaDiffFrom 0 ≠ 0 → s.rdN .enaDiffFrom 0 + 10000000 ≤ s.now + 1 →
       ∃ u, exec (.enaDiscrepancy t) s0 = .next u ∧ u.bit .CAUSES_PRESENT 0x61 0x13 = true))

/-- What the readings of the bus and of a die's temperature leave alone where they disable and brake nothing: every drive state and every register
but those of the supply and the fault log, and every table but the log's. What diagnostics, retries, the gate supply, a die's shutdown and the
short-brake leave alone: motion — no planner, position, increment or amplitude changes with them —, the mode, the configuration, and every table
but the fault log's and the list of waiting diagnostics. -/
def Obligations.BridgeAndSupplyFrame : Prop :=
  (∀ (t v : Nat) (k : Fin 8) (e : Instr) (s u : State),
     e ∈ [.busLow t v, .busHigh t v, .busHighEnd t v, .enaDiscrepancy t, .pumpFail t k, .dieHot t k, .dieHotEnd t k] → exec e s = .next u →
     s.OnlyAt u k [.DIE_STATE, .PUMP_OK] (faultRegs ++ [.DEVICE_TIME, .BUS_VM, .busLowOn, .busHighOn, .brakeFrom]) ∧ s.LogOnly u) ∧
  (∀ (t v : Nat) (n : Fin 64) (k : Fin 8) (ph i : Fin 2) (d : Byte) (w : List Nat) (b : Bool) (e : Instr) (s u : State),
     e ∈ [.openPhase n ph, .diagTestStart t k, .diagEnd t k w b, .ocRetry n, .retryCountReset n, .directPulseEnd t n, .dieShutdown t k, .dieCooled t k,
       .busRecovered t v, .busOvervoltage t d v, .shortBrakeEnd t d v, .enaRemoved t i, .enaRestored t i] → exec e s = .next u →
     s.OnlyRegs u (faultRegs ++ [.DEVICE_TIME, .DRIVE_STATE, .BRIDGE_FAULT, .SHOOT_COUNT, .DIAG_RESULT, .DIAG_FLAGS, .DIAG_LEVELS, .DIAG_TIME, .DIAG_AXIS,
       .DIE_STATE, .RETRY_COUNT, .BUS_VM, .BRAKE_COUNT, .ENA_STATE, .ENA_REMOVALS, .DEV_VALID, .WIDEN_EVENTS, .FREQ_CAPS, .THRESH_CLAMPS, .rearmPend,
       .brPersist, .retryAt, .retryDiag, .diagFrom, .contPend, .diePend, .enaPend, .enaDiffFrom, .uvOn, .busUvOn, .busLowOn, .brakeOn, .brakeFrom, .prevDrive,
       .chopFrom, .pulseEnd, .faultLatch, .latchAt] ++ phaseRegs ++ [.phWas, .phWasAt] ++ switchRegs) ∧
     { u with diag := s.diag, regs := s.regs, queues := s.queues, log := s.log, opens := s.opens, shadows := s.shadows, fresh := s.fresh
              freshAt := s.freshAt, freeCtr := s.freeCtr, was := s.was } = s)

-- the pass mark, slots and programs

/-- PASS_MARK (R10, R41, R95, R363, R398): once the PLLs are locked a mark falls 5,000 cycles after the one before it, and starts the next pass.
The supply objects take what is read at it, held within their types. An axis at rest, of which nothing is due, shows the position planned for the
mark, and steps by the increment written in the pass that ends, or again by the last one where none was written. STALE_INCREMENT (R14): the axis
stands from this mark, CONTAINED, with cause 6 of its block. -/
def Obligations.PassMarkAndStaleIncrement : Prop :=
  (∀ (w : MarkIn) (s : State), s.rd .pllLocked 0 ≠ 0 → s.mode ≠ 0 →
     ∃ u, exec (.passMark w) s = .next u ∧ u.rd .PASS_COUNT 0 = s.rd .PASS_COUNT 0 + 1 ∧
       u.rd .PASS_MARK_TIME 0 = (s.rdN .PASS_MARK_TIME 0 + 5000 : Nat) ∧ u.rd .DEVICE_TIME 0 = u.rd .PASS_MARK_TIME 0 ∧
       u.rd .BUS_VM 0 = (min w.bus 65535 : Nat) ∧ u.rd .VMA_VOLTAGE 0 = (min w.vma 65535 : Nat) ∧
       u.rd .AUX_VOLTAGE 0 = (min w.aux 65535 : Nat) ∧ u.rd .LOGIC_POWER 0 = (min w.power 65535 : Nat) ∧
       u.rd .tfAxes 0 = s.rd .TRACE_AXES 0 ∧ u.rd .enaPend 0 = 0 ∧
       (s.Canonical → ∀ q, q < 64 → (u.queue q).markDepth = (s.queue q).depth) ∧
       ∀ n : Fin 64, s.AtRest n → s.NothingDue n →
         u.rd .CMD_POS n = fdiv (s.planner n).nxt.x 65536 ∧ u.rd .posQ n = (s.planner n).nxt.x ∧
         u.rd .angleQ n = unsigned 28 (u.rd .posQ n + s.rd .ANGLE_ORIGIN n * 65536) ∧
         u.rd .ANGLE_INC n = (if s.rdN .stampInterp n = u.pass then s.rd .incShadow n else s.rd .ANGLE_INC n)) ∧
  (∀ (n : Fin 64) (s : State), s.atMark = true → 3 ≤ s.rd .incMissed n →
     s.rd .AXIS_STATE n = 2 ∨ s.rd .AXIS_STATE n = 3 ∨ s.rd .AXIS_STATE n = 4 →
     ∃ u, exec (.staleIncrement n) s = .next u ∧ u.rd .ANGLE_INC n = 0 ∧ u.rd .AXIS_STATE n = 6 ∧ u.rd .incMissed n = 0 ∧
       u.bit .CAUSES_PRESENT (blkAxis n) 6 = true ∧ u.bit .AXIS_EVENTS n 7 = true ∧ (s.rd .DRIVE_STATE n = 1 → u.rd .DRIVE_STATE n = 2))

/-- Programs on engines and trip sequencers (R11, R212, R217, R240, R245, R250): a slot of KIND 5 that is due starts its program in the cycle of its START
with every register 0 and an empty commit buffer; the trip program of an axis starts once in its pass, 1,700 + 125·n CKE cycles after the mark, and an axis without one runs the hold program, which sets TRIP_STATE
bit 0 and, in SAFE, asks for increment 0 and HOLD_CURRENT. -/
def Obligations.ProgramsStart : Prop :=
  ∀ (t : Nat) (m : SlotIn) (s0 : State), let s := s0.at t;
    let fresh (r : Run) (p : Prog) (c : Nat) : Prop := r.prog = p.num ∧ r.words = p.words ∧ r.pos = 0 ∧ r.regs = List.replicate 16 0 ∧ r.ctx = c ∧
      r.stores = [] ∧ r.pushes = [] ∧ r.pops = [] ∧ r.writes = [] ∧ r.loops = [] ∧ r.called = false ∧ r.start = s.now;
    (∀ (i : Fin 4096) (p : Prog), let w := s.activeBank.getD i 0;
      let e : Fin 8 := Fin.ofNat 8 (slotEngine w);
      s.kindRuns 5 = true → slotKind w = 5 → s.slotDue i w = true → s.run (.engine e) = none → findProg s.progs (slotProg w) = some p →
      s.armed 2 i = none → s.armed 4 e = none → s.armed 5 e = none →
      ∃ u r, exec (.axisProgramRun t i m) s0 = .next u ∧ u.run (.engine e) = some r ∧ fresh r p (slotCtx w) ∧ r.slot = i ∧
        u.rd .slotAt i = (s.pass + 1 : Nat)) ∧
    (∀ n : Fin 64, s.rd .planPlaced 0 = 1 → 2 ≤ s.mode → s.rdN .tripAt n ≠ s.pass + 1 → s.run .trip = none →
      s.now = s.rdN .PASS_MARK_TIME 0 + (1700 + 125 * n.val) / 2 →
      (∀ p, findProg s.progs (s.rdN .TRIP_PROG n) = some p →
        ∃ u r, exec (.tripProgramRun t n) s0 = .next u ∧ u.rd .tripAt n = (s.pass + 1 : Nat) ∧ u.run .trip = some r ∧ fresh r p n) ∧
      (findProg s.progs (s.rdN .TRIP_PROG n) = none →
        ∃ u, exec (.tripProgramRun t n) s0 = .next u ∧ u.rd .tripAt n = (s.pass + 1 : Nat) ∧ u.bit .TRIP_STATE n 0 = true ∧
          u.led n 27 = s.led n 27 ||| 1 ∧
          (s.mode = 9 → u.led n 24 = 0 ∧
            u.led n 25 = BitVec.ofNat 64 (s.rdN .HOLD_CURRENT n + 65536 * ((s.led n 25).toNat / 65536 % 2))) ∧
          (s.mode ≠ 9 → u.led n 24 = s.led n 24 ∧ u.led n 25 = s.led n 25)))

-- engines

/-- A slot that reaches its budget is cut off (R213, R226): its buffer goes, the overrun counts, and the third within 1,000 passes makes its engine
failing. A slot word that reads uncorrectable is not issued in this pass, and the bank is rebuilt from the plan copy where no load runs (R217,
R232); the rebuilt bank is active from the mark at which the load has ended. -/
def Obligations.SlotsAreCutOffAndRebuilt : Prop :=
  ∀ (t : Nat) (i : Fin 4096) (s0 : State), let s := s0.at t;
    let w := s.activeBank.getD i 0;
    let e := slotEngine w;
    (slotRuns w s.pass = true → s.rd .ENGINE_STATE e < 3 → s.stillRuns i w = true →
      2 * s.rdN .PASS_MARK_TIME 0 + slotStart w + slotBudget w ≤ 2 * s.now → s.rd .ENGINE_OVERRUNS e + 1 < 2 ^ 32 →
      ∃ u, exec (.slotCutOff t i) s0 = .next u ∧ u.rd .ENGINE_OVERRUNS e = s.rd .ENGINE_OVERRUNS e + 1 ∧ u.rd .slotAt i = (s.pass + 1 : Nat) ∧
        (slotKind w = 5 → tget none u.runs e = none) ∧ tget [] u.cutoffs e = (s.pass :: tget [] s.cutoffs e).take 3 ∧
        (if 2 ≤ (tget [] s.cutoffs e).length ∧ s.pass < (tget [] s.cutoffs e).getD 1 0 + 1000 then u.bit .REDUNDANCY 0 (16 + e) = true
          else u.bit .CAUSES_LATCHED (blkEngine e) 0x10 = true)) ∧
    (slotRuns w s.pass = true → s.rdN .slotAt i ≠ s.pass + 1 →
      ∃ u, exec (.slotUncorrectable t i) s0 = .next u ∧ u.rd .slotAt i = (s.pass + 1 : Nat) ∧ u.bit .CAUSES_LATCHED 0x70 2 = true ∧
        (s.rd .loadKind 0 = 0 → u.rd .loadKind 0 = 2 ∧ u.loading = some s.planCopy ∧ u.rd .loadEnd 0 = (s.now + 4097 : Nat)) ∧
        (s.rd .loadKind 0 ≠ 0 → u.rd .loadKind 0 = s.rd .loadKind 0 ∧ u.loading = s.loading)) ∧
    (∀ ws, s0.loaded 2 = true → s0.loading = some ws →
      ∃ u, exec .bankRebuildDone s0 = .next u ∧ u.activeBank = ws ∧ u.planCopy = ws ∧ u.rd .loadKind 0 = 0 ∧
        u.rd .ACTIVE_BANK 0 = (if s0.rd .ACTIVE_BANK 0 = 0 then 1 else 0) ∧ u.bit .CFG_CHANGED 0 3 = true)

/-- An engine that fails is fenced at once, and its finished fallback plan begins to load (R227, R228); at the first mark after the load the
fallback plan runs, and the plans for the next failure are built (R230, R231); a carrying engine left without one exhausts the module. A plan
placed afresh after a clearing runs from its mark in place of the fallback plan. The self-test that ENGINE_CLEAR starts ends 1 ms later (R231): an
engine that passes is no longer failing, and its cut-offs are forgotten; one that fails it stays failing. The ledger patrol (R215) finds a word
clean, or corrects it, or holds its axis. -/
def Obligations.EnginesFailAndReturn : Prop :=
  (∀ (t : Nat) (s0 : State), let s := s0.at t;
     (∀ (e : Fin 8) (b : Bool), s.bit .REDUNDANCY 0 (16 + e) = false →
       ∃ u, exec (.engineFailing t e b) s0 = .next u ∧ u.bit .REDUNDANCY 0 (16 + e) = true ∧ u.rd .ENGINE_STATE e = 3 ∧
         tget none u.runs e.val = none ∧ u.bit .CAUSES_PRESENT (blkEngine e) 1 = true ∧ u.rd .SWAP_STATE 0 = 0 ∧
         (∀ ws, s.rd .loadKind 0 ≠ 1 → carries s.activeBank e = true → s.fallback.find? (fun p => p.1 = e.val) = some (e.val, ws) →
           u.rd .loadKind 0 = 1 ∧ u.rd .loadFor 0 = e.val ∧ u.loading = some ws ∧ u.rd .loadEnd 0 = (s.now + 4097 : Nat) ∧ u.fallback = []) ∧
         (carries s.activeBank e = true → s.fallback.find? (fun p => p.1 = e.val) = none → u.bit .CAUSES_LATCHED 0x70 1 = true)) ∧
     (∀ ws, s0.loading = some ws →
       (s0.loaded 1 = true → s0.rd .REPLACE_COUNT 0 + 1 < 2 ^ 32 →
         ∃ u, exec .fallbackLoadDone s0 = .next u ∧ u.activeBank = ws ∧ u.rd .FALLBACK_FOR 0 = s0.rdN .loadFor 0 ∧
           u.rd .REPLACE_COUNT 0 = s0.rd .REPLACE_COUNT 0 + 1 ∧ u.rd .REPLACE_MARK 0 = s0.pass ∧ u.bit .REDUNDANCY 0 13 = true ∧
           u.bit .CFG_CHANGED 0 2 = true ∧ u.rd .loadKind 0 = 0 ∧ u.rd .planBuild 0 = 1) ∧
       (s0.loaded 3 = true →
         ∃ u, exec .fallbackLoadDone s0 = .next u ∧ u.activeBank = ws ∧ u.rd .FALLBACK_FOR 0 = 255 ∧ u.bit .CFG_CHANGED 0 2 = true ∧
           u.rd .loadKind 0 = 0 ∧ u.rd .planBuild 0 = 2)) ∧
     (s.rd .planBuild 0 ≠ 0 → s.rd .loadKind 0 = 0 →
       ∃ u, exec (.fallbackPlansBuilt t) s0 = .next u ∧ u.rd .planBuild 0 = 0 ∧ u.fallback = s.buildFallback ∧ u.activeBank = s.activeBank ∧
         (∀ e : Fin 8, carries s.activeBank e = true → s.buildFallback.any (fun p => p.1 = e.val) = false →
           u.bit .CAUSES_LATCHED 0x70 1 = true))) ∧
  (∀ (t : Nat) (s0 : State), let s := s0.at t;
     (∀ e : Fin 8, s.rdN .selfTest 0 = e + 1 → s.rdN .selfTestAt 0 + 100000 ≤ s.now → s.armed 4 e = none → s.armed 5 e = none →
       (∃ u, exec (.engineSelfTestDone t e true) s0 = .next u ∧ u.rd .selfTest 0 = 0 ∧ u.bit .REDUNDANCY 0 (16 + e) = false ∧
         u.bit .CAUSES_PRESENT (blkEngine e) 1 = false ∧ tget [] u.cutoffs e.val = [] ∧
         (s.rd .REDUNDANCY_POLICY 0 = 0 → u.rd .leaveFallback 0 = 1 ∧ u.rd .planBuild 0 = 2)) ∧
       (∃ u, exec (.engineSelfTestDone t e false) s0 = .next u ∧ u.rd .selfTest 0 = 0 ∧ u.rd .ENGINE_STATE e = 3 ∧
         u.bit .CAUSES_LATCHED (blkEngine e) 1 = true ∧ u.bit .REDUNDANCY 0 (16 + e) = s.bit .REDUNDANCY 0 (16 + e))) ∧
     (∀ n w : Fin 64, s.armed 1 (64 * n + w) = none →
       exec (.ledgerScrub t n w .clean) s0 = .next s ∧
       (∃ u, exec (.ledgerScrub t n w .corrected) s0 = .next u ∧ u.bit .CAUSES_LATCHED 0x70 0x21 = true ∧ u.ledger = s.ledger) ∧
       (∃ u, exec (.ledgerScrub t n w .uncorrectable) s0 = .next u ∧ u.bit .CAUSES_LATCHED (blkAxis n) 7 = true ∧
         (s.covered (blkAxis n) 7 = false → u.rd .ledBad n = 1 ∧ u.rd .contPend n ≠ 0))))

-- redundant parts

/-- The redundant parts (R17–R21): each loss shows in its bit of REDUNDANCY and holds its cause, each return ends both. Where neither trip
sequencer has been found faulty, a store in which they differ takes the value that drives its axis toward its safe position. The loss of the
active steward core (R18): the standby takes over, what was in progress is discarded, and no frame is answered until the takeover is complete. -/
def Obligations.PartsAndStewardTakeover : Prop :=
  (∀ (t v : Nat) (i : Fin 2) (n w : Fin 64) (high : Bool) (out : Word32) (s0 : State), let s := s0.at t;
     (s.bit .REDUNDANCY 0 i = true → ∃ u, exec (.feedLost t i.castSucc v) s0 = .next u ∧ u.bit .REDUNDANCY 0 i = false ∧
       u.bit .CAUSES_PRESENT 0x61 8 = (s.bit .REDUNDANCY 0 (1 - i) && s.bit .feedSeen 0 i)) ∧
     (∃ u, exec (.feedLost t 2 v) s0 = .next u ∧ u.bit .REDUNDANCY 0 0 = false ∧ u.bit .REDUNDANCY 0 1 = false ∧
       u.bit .CAUSES_PRESENT 0x61 8 = false) ∧
     (∃ u, exec (.feedRestored t i) s0 = .next u ∧ u.bit .REDUNDANCY 0 i = true ∧ u.bit .feedSeen 0 i = true ∧
       (s.bit .REDUNDANCY 0 i = false → u.bit .CAUSES_PRESENT 0x61 8 = false)) ∧
     (s.bit .REDUNDANCY 0 (3 + i) = true → ∃ u, exec (.logicBuckLost t i v) s0 = .next u ∧ u.bit .REDUNDANCY 0 (3 + i) = false ∧
       u.bit .CAUSES_PRESENT 0x61 9 = true) ∧
     (∃ u, exec (.logicBuckRestored t i) s0 = .next u ∧ u.bit .REDUNDANCY 0 (3 + i) = true ∧
       (s.bit .REDUNDANCY 0 (3 + (1 - i)) = true → u.bit .CAUSES_PRESENT 0x61 9 = false)) ∧
     (s.bit .REDUNDANCY 0 2 = true → ∃ u, exec (.auxLost t) s0 = .next u ∧ u.bit .REDUNDANCY 0 2 = false ∧ u.bit .CAUSES_LATCHED 0x61 0x20 = true) ∧
     (∃ u, exec (.auxRestored t) s0 = .next u ∧ u.bit .REDUNDANCY 0 2 = true) ∧
     (s.rd .tsOut 0 = 0 → s.rd .planPlaced 0 = 1 →
       ∃ u, exec (.tsMismatch t n w high out) s0 = .next u ∧ u.rd .tsTest 0 = 1 ∧ u.bit .REDUNDANCY 0 9 = true ∧ u.bit .CAUSES_PRESENT 0x66 1 = true ∧
         (s.bit .REDUNDANCY 0 9 = true → s.rd .tsTest 0 = 0 → ∀ r, s.run .trip = some r → r.ctx = n →
           u.run .trip = some { r with stores := r.stores.map (fun p => if p.1 = (64 * n.val + w.val, high) then (p.1, out) else p) })) ∧
     (s.rd .tsTest 0 ≠ 0 →
       (∃ u, exec (.tsSelfTest t (some i)) s0 = .next u ∧ u.rd .tsTest 0 = 0 ∧ u.rd .tsOut 0 = (i.val + 1 : Nat) ∧
         u.bit .CAUSES_PRESENT 0x66 1 = false ∧ u.bit .CAUSES_PRESENT (0x66 + i) 2 = true) ∧
       exec (.tsSelfTest t none) s0 = .next (s.wr .tsTest 0 0)) ∧
     (s.bit .flashBad 0 i = false → ∃ u, exec (.flashBankLost t i) s0 = .next u ∧ u.bit .flashBad 0 i = true ∧ u.bit .REDUNDANCY 0 14 = true ∧
       u.bit .CAUSES_PRESENT 0x63 1 = true) ∧
     (∃ u, exec (.flashBankRestored t i) s0 = .next u ∧ u.bit .flashBad 0 i = false ∧
       (u.rd .flashBad 0 = 0 → u.bit .REDUNDANCY 0 14 = false ∧ u.bit .CAUSES_PRESENT 0x63 1 = false)) ∧
     (∀ (b : Fin 8) (a : Nat), s.armed 3 b = none →
       (∃ u, exec (.sdramCorrected t b a) s0 = .next u ∧ u.bit .CAUSES_LATCHED 0x62 0x20 = true ∧ s.LogOnly u) ∧
       (∃ u, exec (.sdramUncorrectable t b a) s0 = .next u ∧ u.bit .CAUSES_LATCHED 0x62 1 = true ∧ (b.val < 4 → s.LogOnly u)))) ∧
  (∀ (t : Nat) (s0 : State), let s := s0.at t;
     (s.bit .REDUNDANCY 0 8 = false → s.mode ≠ 0 →
       ∃ u, exec (.stewardLost t) s0 = .next u ∧ u.rd .takeover 0 = 1 ∧ u.answering = false ∧ u.bit .REDUNDANCY 0 8 = true ∧
         u.bit .REDUNDANCY 0 7 = !s.bit .REDUNDANCY 0 7 ∧ u.bit .CAUSES_PRESENT s.blkSteward 1 = true ∧ u.deferred = [] ∧ u.newSet = none ∧
         u.chunks = [] ∧ u.rd .commitRun 0 = 0 ∧ u.rd .modeReq 0 = 0 ∧ u.rd .SWAP_STATE 0 = 0 ∧
         (∀ d ∈ s.deferred, u.tagSt d.hdr.tag = TagSt.free) ∧ u.staged = s.staged ∧ u.flash = s.flash) ∧
     (s.rd .takeover 0 ≠ 0 →
       ∃ u, exec (.takeoverComplete t) s0 = .next u ∧ u.rd .takeover 0 = 0 ∧ u.bit .CFG_CHANGED 0 4 = true ∧
         u.openRec (0x64 + (if s.bit .REDUNDANCY 0 7 then 0 else 1)) = none ∧ (∀ n, u.tagSt n = s.tagSt n) ∧ u.deferred = s.deferred))

/-- What the loss and the return of a part leave alone: every register but those of the parts, of the mode that follows DEG and of the fault log,
and every table but the log's — and, for an uncorrectable SDRAM word, the one table whose entry it discards, for a mismatch the trip run. What
links, probes and the gateway leave alone: every register but those of the ports, of the mode that follows DEG and of the fault log; no ledger
word, planner, stream, program, tag or image changes. -/
def Obligations.PartsAndLinksFrame : Prop :=
  (∀ (t v : Nat) (i : Fin 2) (n w : Fin 64) (o : Option (Fin 2)) (b : Fin 8) (x : Ecc) (s u : State), let free := faultRegs ++
       [.DEVICE_TIME, .REDUNDANCY, .MODE, .MODE_PREV, .MODE_TIME, .MODE_CAUSE, .feedSeen, .tsOut, .tsTest, .flashBad, .contPend, .ledBad, .IN_PROGRESS,
         .INJECT_STATE, .INJECTIONS, .injecting];
     (∀ e ∈ [Instr.feedLost t i.castSucc v, .feedLost t 2 v, .feedRestored t i, .logicBuckLost t i v, .logicBuckRestored t i, .auxLost t, .auxRestored t,
         .tsSelfTest t o, .flashBankLost t i, .flashBankRestored t i, .ledgerScrub t n w x], exec e s = .next u → s.OnlyRegs u free ∧ s.LogOnly u) ∧
     (∀ high out, exec (.tsMismatch t n w high out) s = .next u → s.OnlyRegs u free ∧ s.LogOnly { u with runs := s.runs } ∧
       ∀ e, u.run (.engine e) = s.run (.engine e)) ∧
     (∀ e ∈ [Instr.sdramCorrected t b v, .sdramUncorrectable t b v], exec e s = .next u →
       s.OnlyRegs u free ∧ u.ledger = s.ledger ∧ u.planners = s.planners ∧ u.staged = s.staged ∧ u.flash = s.flash ∧ u.images = s.images ∧
         u.bankA = s.bankA ∧ u.bankB = s.bankB ∧ u.progs = s.progs ∧ u.runs = s.runs ∧ u.pending = s.pending)) ∧
  (∀ (t x y z k : Nat) (p : Fin 2) (q : Fin 3) (a : Fin 4) (b : Bool) (g : Fin 128) (e : Instr) (s u : State),
     e ∈ [.linkLost t p b, .lpLinkLost t, .linkUp t q a, .linkHeld t q, .linkProbeSend t q k, .linkProbe t q x y k, .linkProbeAnswer t q x y z k,
       .gwTimeout t g] → exec e s = .next u →
     s.OnlyRegs u (faultRegs ++ [.DEVICE_TIME, .REWIND_LOST, .RESENDS, .LINK, .PORT_AMPLITUDE, .WRAPPED, .FRAMES_IN, .FRAMES_OUT, .ABANDONED,
       .LINK_LOSSES, .MODE, .MODE_PREV, .MODE_TIME, .MODE_CAUSE, .REDUNDANCY, .POPPED, .LINK_DELAY, .GW_RETRIES_SENT, .GW_GIVEN_UP, .portSeen, .linkAt,
       .probeAt, .lastTx, .wireBad]) ∧
     { u with wire := s.wire, delays := s.delays, gateway := s.gateway, regs := s.regs, queues := s.queues, log := s.log, opens := s.opens
              shadows := s.shadows, fresh := s.fresh, freshAt := s.freshAt, freeCtr := s.freeCtr, was := s.was } = s)

-- queues

/-- A fault of a queue (R270, R271): the queue is emptied with its pointers 0, the reset counts, a move queue, a call queue or a mailbox is held, the
pushes and pops of this cycle and the next are void, and the cause has ended with its record. -/
def Obligations.QueueFaultsResetTheQueue : Prop :=
  ∀ (t : Nat) (q : Fin 80) (p : Fin 4) (off : Nat) (s0 : State), let s := s0.at t;
    let reset (u : State) (c : Nat) : Prop := (u.queue q).pkts = [] ∧ (u.queue q).rdPtr = 0 ∧ (u.queue q).wrPtr = 0 ∧ u.rd .REWIND_VALID q = 0 ∧
      u.rd .RESETS q = s.rd .RESETS q + 1 ∧ u.rd .qVoid q = (s.now + 2 : Nat) ∧ u.bit .CAUSES_LATCHED 0x50 c = true ∧
      u.bit .CAUSES_PRESENT 0x50 c = false ∧ u.openRec 0x50 = none ∧ (q.val < 64 ∨ 76 ≤ q.val → u.rd .HELD q = 1) ∧
      (∀ k, k ≠ q.val → k ≠ 72 → k ≠ 73 → k ≠ 74 → u.queue k = s.queue k);
    s.rd .RESETS q + 1 < 2 ^ 32 →
    (s.armed 8 q = none → ∃ u, exec (.queuePointer t q p) s0 = .next u ∧ reset u 1) ∧
    (off + 16 < s.capacity q → q.val ≠ 74 → s.armed 3 (s.rdN .BASIN_BANK q) = none → ∃ u, exec (.basinEcc t q off) s0 = .next u ∧ reset u 2)

-- the ring

/-- A frame received on a ring port (R280, R285, R288–R290): one for no node here goes out of the other port, or, while that port takes none, back out
of its own with its wrap count up; one that has been wrapped twice, or whose lap ends here, goes no further, a SWEEP too. A READ request for this node, with a
correct FCS, is answered. Frames that pass change nothing but the queues, the ports and the fault log. -/
def Obligations.FramesArePassedOrDelivered : Prop :=
  ∀ (t hop : Nat) (p : Fin 2) (f : Frame) (ok : Bool) (s0 : State), let s := s0.at t;
    let o := otherPort p;
    isTimeFrame f = false → s.mode ≠ 0 → s.rd .LINK p ≠ 0 → f.ether = true → f.version = 1 → validAddr f.dest = true → validAddr f.src = true →
    s.Room (64 + p) (.frame f) → s.rd .FRAMES_IN p + 1 < 2 ^ 64 →
    (s.lapEnds p f = true → ∃ u, exec (if isSweep f then .sweep t p f ok hop else .frameArrival t p f ok hop) s0 = .next u ∧ u.wire = s.wire ∧
      u.rd .FRAMES_IN p = s.rd .FRAMES_IN p + 1) ∧
    (s.lapEnds p f = false → s.isOwn f.dest = false → f.dest ≠ 0xFFFE → s.served ≠ some f.dest → isSweep f = false → s.noteFollowers f = [] →
      ∃ u, exec (.frameArrival t p f ok hop) s0 = .next u ∧ u.rd .FRAMES_IN p = s.rd .FRAMES_IN p + 1 ∧
        (s.portDown o = false → s.Room (68 + o) (.frame f) → tget none u.wire o = some f ∧ u.rd .wireBad o = ofBool !ok) ∧
        (s.portDown o = true → f.wraps ≠ 2 → s.Room (68 + p) (.frame f) →
          tget none u.wire p = some { f with wraps := f.wraps + 1 } ∧ u.rd .wireBad p = ofBool !ok) ∧
        (s.portDown o = true → f.wraps = 2 → u.wire = s.wire ∧ u.bit .CAUSES_LATCHED (0x58 + p) 0x11 = true) ∧
        s.OnlyRegs u (faultRegs ++ [.DEVICE_TIME, .FRAMES_IN, .FRAMES_OUT, .FCS_ERRORS, .HOP_MAX, .PORT_HOP_SLOW, .CIRCLED, .NO_REPLY, .POPPED,
          .hopSlow, .wireBad, .lastTx]) ∧
        { u with wire := s.wire, regs := s.regs, queues := s.queues, log := s.log, opens := s.opens, fresh := s.fresh, freshAt := s.freshAt
                 freeCtr := s.freeCtr } = s) ∧
    (s.lapEnds p f = false → s.isOwn f.dest = true → ok = true → s.Room 67 (.frame f) → f.kind = 0 → f.op = opRead → f.data = [] →
      f.reserved = false → f.carried = true → s.Takes ⟨s.now, Fin.ofNat 3 p, f.src, Fin.ofNat 128 f.tag, f.retry⟩ opRead f.index f.sub [] →
      ∃ u c d, exec (.frameArrival t p f ok hop) s0 = .next u ∧ u.Answers ⟨s.now, Fin.ofNat 3 p, f.src, Fin.ofNat 128 f.tag, f.retry⟩ c d)

/-- SWEEP, NOTE and TIME frames (R84, R298–R300, R303–R306, R365): a sweep of this node's half leaves with the status word in the node's slot and the
slot's bit set, an enumeration sweep numbers an unnumbered module and leaves with the next number; a subscribed sample joins those its follower holds;
the TIME frame of the lowest head heard within a second is used, and leaves with the delay of this module added. -/
def Obligations.SweepsNotesAndTimeAreTaken : Prop :=
  ∀ (t hop : Nat) (p : Fin 2) (f : Frame) (s0 : State), let s := s0.at t;
    let o := otherPort p;
    s.mode ≠ 0 → s.rd .LINK p ≠ 0 → f.ether = true → f.version = 1 → validAddr f.dest = true → validAddr f.src = true →
    s.Room (64 + p) (.frame f) → s.lapEnds p f = false → s.isOwn f.dest = false →
    (isSweep f = true → f.dest ≠ 0xFFFE → s.served ≠ some f.dest → p = 0 → s.portDown 1 = false → s.Room 69 (.frame f) →
      (∀ n : Nat, s.rd .NODE_NUMBER 0 = n → n < 1024 → n / 512 = byteAt f.data 0 → bitAt f.data 1032 (n % 512) = false →
        s.rd .SWEEPS 0 + 1 < 2 ^ 64 → s.rd .hopSlow 0 = 0 →
        ∃ u, exec (.sweep t p f true hop) s0 = .next u ∧ u.rd .SWEEPS 0 = s.rd .SWEEPS 0 + 1 ∧ u.rd .SWEEP_TIME 0 = s.now ∧
          tget none u.wire 1 = some { f with
            data := putBit (putBytes f.data (8 + 2 * (n % 512)) (leBytes 2 s.statusWord)) 1032 (n % 512) }) ∧
      (f.enum = true → s.rd .NODE_MODE 0 = 0 → s.rd .NODE_NUMBER 0 = 0xFFFF → byteAt f.data 2 + 256 * byteAt f.data 3 < 1024 →
        ∃ u g, exec (.sweep t p f true hop) s0 = .next u ∧ u.rd .NODE_NUMBER 0 = (byteAt f.data 2 + 256 * byteAt f.data 3 : Nat) ∧
          tget none u.wire 1 = some g ∧ byteAt g.data 2 + 256 * byteAt g.data 3 = byteAt f.data 2 + 256 * byteAt f.data 3 + 1)) ∧
    (f.op = opNote → f.kind = 2 → f.dest ≠ 0xFFFE → s.served ≠ some f.dest → s.Room 67 (.frame f) → s.rd .NOTES_TAKEN 0 + 1 < 2 ^ 64 →
      s.noteFollowers f ≠ [] → ∃ u, exec (.note t p f true hop) s0 = .next u ∧ u.rd .NOTES_TAKEN 0 = s.rd .NOTES_TAKEN 0 + 1 ∧
        ∀ n ∈ s.noteFollowers f, (∀ y ∈ s.samples n, y.t < (noteSample f).t) → s.playAt n s.now ≤ ((noteSample f).t : Int) * 2 ^ 32 →
          noteSample f ∈ u.samples n ∧ u.rd .srcLost n = 0) ∧
    (∀ (h stamp : Nat) (idle : Bool), isTimeFrame f = true → f.kind = 2 → f.src = 0x400 + h → h < 4 → f.data.length = 16 → s.Room 67 (.frame f) →
      s.rd .TIME_FRAMES 0 + 1 < 2 ^ 64 → (∀ k, k < h → s.rd .headAt k = 0 ∨ s.rdN .headAt k + second ≤ s.now + 1) →
      ∃ u, exec (.timeDistribution t (p.castLE (by decide)) f true hop idle stamp) s0 = .next u ∧ u.rd .TIME_HEAD 0 = h ∧
        u.rd .headAt h = (s.now : Int) + 1 ∧ u.rd .LAST_TIME_FRAME 0 = s.now ∧ u.rd .TIME_FRAMES 0 = s.rd .TIME_FRAMES 0 + 1 ∧
        (s.rd .SYNC_STATE 0 = 0 → u.rd .SYNC_STATE 0 = 1) ∧
        (s.portDown o = false → s.Room (68 + o) (.frame f) → tget none u.wire o = some (s.addDelay p hop f)))

/-- Own frames and the gateway (R273, R284, R290, R297): the oldest frame of Q71 goes out on RB, on RA while RB takes none, or on LP to the head served
there, a reply of this module with the status word of that cycle (R37). A request of that head goes to Q71 and waits for its reply; when the wait has expired it is sent again
as a retry, and after the last retry given up. -/
def Obligations.OwnFramesAndGateway : Prop :=
  ∀ (t w : Nat) (f : Frame) (s0 : State), let s := s0.at t;
    let g : Frame := if f.kind = 1 ∧ s.isOwn f.src = true then { f with status := s.statusWord } else f;
    (s.headFrame = some f → s.mode ≠ 0 → isSweep f = false → ∃ u, exec (.ownFrameSend t w) s0 = .next u ∧
      (s.served ≠ some f.dest → s.portDown 1 = false → tget none u.wire 1 = some g ∧ u.rd .lastTx 1 = 71 ∧ u.rd .REWIND_VALID 71 = 1 ∧
        (u.queue 71).pkts = (s.queue 71).pkts.tail ∧ (u.queue 71).rewind = some (.frame f)) ∧
      (s.served ≠ some f.dest → s.portDown 1 = true → s.portDown 0 = false → tget none u.wire 0 = some { g with wraps := 1 } ∧
        (u.queue 71).pkts = (s.queue 71).pkts.tail) ∧
      (s.served = some f.dest → s.rd .LINK 2 ≠ 0 → s.Room 70 (.frame g) → tget none u.wire 2 = some g ∧
        (u.queue 71).pkts = (s.queue 71).pkts.tail)) ∧
    (s.mode ≠ 0 → s.rd .LINK 2 ≠ 0 → isTimeFrame f = false → s.fromServed f = true → s.Room 66 (.frame f) → s.rd .FRAMES_IN 2 + 1 < 2 ^ 64 →
      s.isOwn f.dest = false → f.dest ≠ 0xFFFE →
      ∃ u, exec (.gatewayFrameIn t f true) s0 = .next u ∧ u.rd .FRAMES_IN 2 = s.rd .FRAMES_IN 2 + 1 ∧
        (f.kind = 0 → tget none s.gateway f.tag = none → s.Room 71 (.frame f) →
          (u.queue 71).pkts = (s.queue 71).pkts ++ [.frame { f with gateway := true }] ∧
          tget none u.gateway f.tag = some ⟨{ f with gateway := true }, 0, 0⟩)) ∧
    (∀ (k : Fin 128) (x : GwWait), tget none s.gateway k = some x → x.expires ≠ 0 → x.expires < s.now →
      (x.tries < s.rdN .GW_RETRIES 0 → s.Room 71 (.frame x.frame) → s.rd .GW_RETRIES_SENT 0 + 1 < 2 ^ 32 →
        ∃ u, exec (.gwTimeout t k) s0 = .next u ∧ u.rd .GW_RETRIES_SENT 0 = s.rd .GW_RETRIES_SENT 0 + 1 ∧
          (u.queue 71).pkts = (s.queue 71).pkts ++ [.frame { x.frame with retry := true }] ∧
          tget none u.gateway k = some { x with expires := 0, tries := x.tries + 1 }) ∧
      (s.rdN .GW_RETRIES 0 ≤ x.tries → s.rd .GW_GIVEN_UP 0 + 1 < 2 ^ 32 →
        ∃ u, exec (.gwTimeout t k) s0 = .next u ∧ u.rd .GW_GIVEN_UP 0 = s.rd .GW_GIVEN_UP 0 + 1 ∧ tget none u.gateway k = none ∧
          u.bit .CAUSES_LATCHED 0x5A 0x13 = true))

/-- Links (R301–R303, R305, R307): a ring port whose link is lost wraps, and its loss is held; a link that comes up runs at the amplitude both ends
allow, and a wrapped port unwraps once it has held. A probe goes out at link-up and every second, the neighbour's is answered with its stamps, and
LINK_DELAY is the mean of the last eight delays. The active head is the lowest that has been heard within a second. -/
def Obligations.LinksHealAndAreMeasured : Prop :=
  ∀ (t x y z : Nat) (s0 : State), let s := s0.at t;
    (∀ (p : Fin 2) (b : Bool), s.mode ≠ 0 → s.rd .LINK p ≠ 0 → s.rd .LINK_LOSSES p + 1 < 2 ^ 32 →
      ∃ u, exec (.linkLost t p b) s0 = .next u ∧ u.rd .LINK p = 0 ∧ u.rd .WRAPPED p = 1 ∧ u.rd .PORT_AMPLITUDE p = 0 ∧
        u.rd .LINK_LOSSES p = s.rd .LINK_LOSSES p + 1 ∧ u.bit .REDUNDANCY 0 (10 + p) = false ∧ u.bit .CAUSES_PRESENT (0x58 + p) 1 = true ∧
        (s.rd .ABANDONED p + 1 < 2 ^ 32 → u.rd .ABANDONED p = s.rd .ABANDONED p + (if b then 1 else 0))) ∧
    (s.mode ≠ 0 → s.rd .LINK 2 ≠ 0 → ∃ u, exec (.lpLinkLost t) s0 = .next u ∧ u.rd .LINK 2 = 0 ∧ u.rd .PORT_AMPLITUDE 2 = 0 ∧
      u.bit .REDUNDANCY 0 12 = false ∧ u.bit .CAUSES_LATCHED 0x5A 1 = true) ∧
    (∀ (p : Fin 3) (a : Fin 4), s.mode ≠ 0 → s.rd .LINK p = 0 →
      ∃ u, exec (.linkUp t p a) s0 = .next u ∧ u.rd .LINK p = 1 ∧ u.rd .PORT_AMPLITUDE p = s.agreed p a ∧ u.rd .linkAt p = (s.now : Int) + 1 ∧
        u.bit .portSeen 0 p = true ∧ (p = 2 ∨ s.rd .WRAPPED p = 0 → u.bit .REDUNDANCY 0 (10 + p) = true)) ∧
    (∀ p : Fin 3, s.rd .LINK p = 1 → s.rdN .linkAt p + 100000 * s.rdN .LINK_HOLD 0 ≤ s.now + 1 →
      ∃ u, exec (.linkHeld t p) s0 = .next u ∧ u.rd .LINK p = 2 ∧
        (s.rd .WRAPPED p = 1 → u.rd .WRAPPED p = 0 ∧ u.bit .REDUNDANCY 0 (10 + p) = true ∧ u.bit .CAUSES_PRESENT (0x58 + p) 1 = false)) ∧
    (∀ (p : Fin 3) (k : Nat), s.mode ≠ 0 → s.rd .LINK p ≠ 0 →
      (s.rd .probeAt p = 0 ∨ s.rdN .probeAt p + second ≤ s.now + 1 → s.Room (68 + p) (.frame (s.probeFrame 0 [s.stamp k, 0, 0])) →
        ∃ u, exec (.linkProbeSend t p k) s0 = .next u ∧ tget none u.wire p = some (s.probeFrame 0 [s.stamp k, 0, 0]) ∧
          u.rd .probeAt p = (s.now : Int) + 1) ∧
      (s.rd .takeover 0 ≠ 1 → s.rd .bootStuck 0 ≠ 1 → s.Room (64 + p) (.frame (s.probeFrame 0 [x, 0, 0])) →
        s.Room 67 (.frame (s.probeFrame 0 [x, 0, 0])) → s.Room (68 + p) (.frame (s.probeFrame 1 [x, y, s.stamp k])) →
        ∃ u, exec (.linkProbe t p x y k) s0 = .next u ∧ tget none u.wire p = some (s.probeFrame 1 [x, y, s.stamp k])) ∧
      (let l := (fdiv (((s.stamp k : Int) - x) - ((z : Int) - y)) 2 :: tget [] s.delays p).take 8;
        s.rd .probeAt p ≠ 0 → s.Room (64 + p) (.frame (s.probeFrame 1 [x, y, z])) → s.Room 67 (.frame (s.probeFrame 1 [x, y, z])) →
        ∃ u, exec (.linkProbeAnswer t p x y z k) s0 = .next u ∧ tget [] u.delays p = l ∧
          (0 ≤ fdiv l.sum l.length → fdiv l.sum l.length < 2 ^ 32 → u.rd .LINK_DELAY p = fdiv l.sum l.length))) ∧
    (let heard (h : Nat) : Prop := s.rd .headAt h ≠ 0 ∧ s.now + 1 < s.rdN .headAt h + second;
      ∃ u, exec (.activeHeadLapse t) s0 = .next u ∧ (∀ h, h < 4 → heard h → (∀ k, k < h → ¬ heard k) → u.rd .TIME_HEAD 0 = h) ∧
        ((∀ h, h < 4 → ¬ heard h) → u.rd .TIME_HEAD 0 = 0xFF) ∧ s.OnlyRegs u [.TIME_HEAD])

-- modes

/-- Reset (R23, R258, R316, R362, R391): a low RESET_N, the loss of the logic supply, the second loss of lock and a requested reset whose reply has gone
put every object at its default, empty every queue, log and cache, and keep what flash holds. Which of its values a hidden register takes is the
model's choice (log entry 4). -/
def Obligations.ResetsClearEverythingButFlash : Prop :=
  ∀ (t : Nat) (s0 : State), let s := s0.at t;
    let clear (u : State) : Prop := u = { State.reset with regs := u.regs, flash := s0.flash, images := u.images, freeCtr := u.freeCtr
                                                           pending := s0.pending } ∧
      (∀ r i, ¬ (r ∈ [Reg.flashBad, .flashCur] ∧ i = 0) → u.rd r i = r.dflt i) ∧ u.rd .flashBad 0 = s0.rd .flashBad 0 ∧
      u.rd .flashCur 0 = s0.rd .flashCur 0 ∧ (s0.rd .imgBusy 0 = 0 → u.images = s0.images);
    (∃ u, exec .resetNLow s0 = .next u ∧ clear u) ∧ (∃ u, exec .logicSupplyLost s0 = .next u ∧ clear u) ∧
    (s0.rd .PLL_IN_USE 0 = 1 → ∃ u, exec .bothPllsLoseLock s0 = .next u ∧ clear u) ∧
    (s.rd .resetDue 0 ≠ 0 → (s.rd .resetSent 0 ≠ 0 ∧ s.rdN .resetSent 0 ≤ s.now) ∨ s.rdN .resetDue 0 + 300000 ≤ s.now + 1 →
      ∃ u, exec (.requestedResetEntry t) s0 = .next u ∧ clear u)

/-- The start (R317–R319, R357): with the release of reset the module is in BOOT, its root is selected, flash has been read, and the diagnostics of the
used axes wait. BOOT ends at a mark: in LOCKOUT where the lockout flag stands, in ARMED with the plan placed, else in CONFIGURE; a fatal finding
keeps the module in BOOT. -/
def Obligations.BootRunsToItsEnd : Prop :=
  (∀ (w : ReleaseIn) (s : State), s.FlashHoldsSets → s.mode = 0 → s.rd .pllLocked 0 ≠ 1 →
    ∃ u, exec (.resetRelease w) s = .next u ∧ u.mode = 1 ∧ u.rd .MODE_CAUSE 0 = 0 ∧ u.rd .pllLocked 0 = 1 ∧ u.rd .flashRead 0 = 1 ∧
      u.rd .CLK_SOURCE 0 = (if w.refin then 1 else if w.crystal then 0 else 2) ∧ u.bit .REDUNDANCY 0 0 = w.vmaOk ∧
      u.bit .REDUNDANCY 0 1 = w.vmbOk ∧ u.bit .REDUNDANCY 0 2 = w.auxOk ∧
      u.rd .ENA_STATE 0 = (if w.ena1 then 1 else 0) + (if w.ena2 then 2 else 0) + (if w.ena1 && w.ena2 then 4 else 0) ∧
      u.rd .LOCKOUT_FLAG 0 = ofBool (s.goodBanks.any (fun b => (s.flashOf b).lockout)) ∧
      (u.rd .LOCKOUT_FLAG 0 = 0 → ∀ n : Fin 64, u.rd .AXIS_USE n ≠ 0 → u.rd .DRIVE_STATE n = 0 → u.rd .dieOff (n / 8 : Nat) ≠ 1 →
        u.rd .DIAG_RESULT n = 5) ∧ u.flash = s.flash ∧ u.images = s.images) ∧
  (∀ (w : BootIn) (s : State), s.mode = 1 → s.atMark = true → s.rd .bootStuck 0 ≠ 1 → s.rd .flashRead 0 ≠ 0 →
    (w.fatal = true → ∃ u, exec (.bootEnd w) s = .next u ∧ u.rd .bootStuck 0 = 1 ∧ u.rd .BOOT_RESULT 0 = 5 ∧ u.mode = 1 ∧ u.answering = false) ∧
    (w.fatal = false → s.bootDiagDone w.deadDie.toNat = true →
      ∃ u, exec (.bootEnd w) s = .next u ∧ u.rd .MODE_CAUSE 0 = 1 ∧ u.rd .BOOT_DURATION 0 = s.rd .lockDelay 0 + s.now / 100 ∧
        (s.rd .LOCKOUT_FLAG 0 = 1 → u.mode = 10 ∧ u.rd .BOOT_RESULT 0 = 4) ∧
        (s.rd .LOCKOUT_FLAG 0 ≠ 1 →
          u.mode = (if u.rd .BOOT_RESULT 0 = 1 then 4 else 2) ∧ (u.rd .BOOT_RESULT 0 = 1 ∨ u.rd .BOOT_RESULT 0 = 2 ∨ u.rd .BOOT_RESULT 0 = 3) ∧
          (u.rd .BOOT_RESULT 0 = 2 ↔ s.bootSet = none ∨ (s.imageVerdict (s.rdN .PLAN_IMAGE 0)).isSome = true) ∧
          (u.rd .BOOT_RESULT 0 = 1 → u.rd .ARM_STATE 0 = 1 ∧ u.rd .planPlaced 0 = 1 ∧ u.progs = s.progsOf (s.rdN .PLAN_IMAGE 0)) ∧
          (u.rd .BOOT_RESULT 0 ≠ 1 → u.rd .planPlaced 0 = 0))))

/-- Flash holds only committed sets and calibration, whatever a step does (R31, R206). -/
def Obligations.StepKeepsFlashSets : Prop := ∀ s u : State, s.FlashHoldsSets → step s = .next u → u.FlashHoldsSets

/-- Changes of mode that no request asks for (R313, R319–R323, R325, R327, R329), each at the mark at which it is due: the end of arming, automatic
run, the island timer, ISLAND_HOLD, SAFE after a TRIP record, LOCKOUT pending with the TRIP_LIMIT-th entry, automatic standby and wake. -/
def Obligations.ModesChangeAtTheirMarks : Prop :=
  ∀ s : State,
    (s.atMark = true → s.mode = 4 → s.rd .ARM_STATE 0 = 0 → s.rdN .MODE_TIME 0 < s.now →
      (∀ n, n < 64 → s.diagBusy n = false ∧ (s.rd .DIAG_TIME n = 0 ∨ s.rdN .DIAG_TIME n < s.now)) →
      exec .armingComplete s = .next ((s.wr .ARM_STATE 0 1).wr .armAt 0 s.now)) ∧
    (s.modeFree = true → s.mode = 4 → s.rd .AUTO_RUN 0 = 1 → s.rd .armAuto 0 = 1 → s.rd .ARM_STATE 0 = 1 → s.rdN .armAt 0 < s.now →
      s.standbyDue = false →
      ∃ u, exec .autoRun s = .next u ∧ u.mode = s.runMode ∧ u.rd .MODE_PREV 0 = 4 ∧ u.rd .MODE_CAUSE 0 = 3 ∧ u.rd .MODE_TIME 0 = s.now ∧
        ∀ n : Fin 64, s.rd .busUvOn 0 ≠ 1 → s.rd .RUN_ENABLE 0 = 1 → s.rd .AXIS_USE n = 1 → s.rd .AXIS_STATE n = 7 → s.rd .DRIVE_STATE n = 0 →
          s.driveBlock n = 0 → u.rd .DRIVE_STATE n = 1 ∧ u.rd .AXIS_STATE n = 0) ∧
    (s.modeFree = true → s.islandDue = true →
      (s.mode = 7 → exec .islandTimeout s = .next (s.wr .islandInSwap 0 1)) ∧
      (s.mode ≠ 7 → s.rd .ISLAND_COUNT 0 + 1 < 2 ^ 32 →
        ∃ u, exec .islandTimeout s = .next u ∧ u.mode = 8 ∧ u.rd .MODE_CAUSE 0 = 6 ∧ u.rd .ISLAND_COUNT 0 = s.rd .ISLAND_COUNT 0 + 1 ∧
          u.rd .islandMark 0 = s.now ∧ u.bit .CAUSES_LATCHED s.blkSteward 0x12 = true ∧
          (s.rd .ISLAND_ACTION 0 = 1 → ∀ n : Fin 64, s.rd .AXIS_STATE n = 2 ∨ s.rd .AXIS_STATE n = 3 ∨ s.rd .AXIS_STATE n = 4 →
            u.rd .stopPend n = 1) ∧
          (s.rd .ISLAND_ACTION 0 = 2 → u.bit .CAUSES_LATCHED s.blkSteward 2 = true))) ∧
    (s.atMark = true → s.mode = 8 → s.rd .ISLAND_ACTION 0 = 3 → s.rd .contactPending 0 = 0 → s.rd .tripPending 0 = 0 →
      s.rdN .islandMark 0 + 100000 * s.rdN .ISLAND_HOLD 0 ≤ s.now →
      ∃ u, exec .islandHold s = .next u ∧ u.bit .CAUSES_LATCHED s.blkSteward 2 = true ∧ u.mode = 8) ∧
    (s.atMark = true → s.modeTaken = false → s.rd .lockoutPending 0 = 0 → s.rd .tripPending 0 ≠ 0 → s.rdN .tripFrom 0 < s.now →
      s.mode ∈ tripModes → s.rd .SAFE_COUNT 0 + 1 < 2 ^ 32 →
      ∃ u, exec .safeEntry s = .next u ∧ u.mode = 9 ∧ u.rd .MODE_CAUSE 0 = (s.rdN .tripPending 0 : Nat) ∧ u.rd .MODE_PREV 0 = s.mode ∧
        u.rd .SAFE_COUNT 0 = s.rd .SAFE_COUNT 0 + 1 ∧ u.rd .tripPending 0 = 0 ∧ u.safes = s.now :: s.recentSafes ∧
        (s.mode ∈ [5, 6, 7, 8] → ∀ n : Fin 64, u.rd .ANGLE_INC n = s.rd .ANGLE_INC n ∧
          (s.rd .AXIS_STATE n < 5 → u.rd .AXIS_STATE n = 1 ∧ u.rd .FOLLOW_STATE n = 0)) ∧
        (s.rdN .TRIP_LIMIT 0 ≠ 0 → s.rdN .TRIP_LIMIT 0 ≤ s.recentSafes.length + 1 → u.rd .lockoutPending 0 = 9 ∧ u.rd .LOCKOUT_FLAG 0 = 1) ∧
        (s.rdN .TRIP_LIMIT 0 = 0 ∨ s.recentSafes.length + 1 < s.rdN .TRIP_LIMIT 0 → u.rd .lockoutPending 0 = 0)) ∧
    (s.modeFree = true → s.standbyDue = true →
      ∃ u, exec .standbyEntered s = .next u ∧ u.mode = 11 ∧ u.rd .MODE_CAUSE 0 = 10 ∧ u.rd .STANDBY_ORIGIN 0 = 2 ∧
        ∀ n : Fin 64, s.rd .DRIVE_STATE n = 1 → u.rd .DRIVE_STATE n = 0 ∧ u.rd .AXIS_STATE n = 7) ∧
    (s.modeFree = true → s.mode = 11 → s.rd .STANDBY_ORIGIN 0 = 2 → s.rd .wakeSince 0 ≠ 0 →
      s.rdN .wakeSince 0 + 100000 * s.rdN .WAKE_DELAY 0 ≤ s.now + 1 →
      ∃ u, exec .wake s = .next u ∧ u.mode = 4 ∧ u.rd .MODE_CAUSE 0 = 11 ∧ u.rd .ARM_STATE 0 = 0 ∧ u.rd .armAuto 0 = 1 ∧
        u.bit .CAUSES_LATCHED s.blkSteward 0x22 = true)

-- faults, the log and the trace

/-- The log (R338–R343): the writer pops one record and stores it last, in place of an unprotected one where the log is full; an incident closes
once it has been quiet; a shadow that has come to its end is gone. The trace (R372, R375, R377): a word popped from Q73 goes to the port, to the
buffer, or to both; dropped records are told by one DROP record, once Q73 has room and no source pushes. -/
def Obligations.TheLogAndTheTrace : Prop :=
  (∀ (t k : Nat) (s0 : State), let s := s0.at t;
     (∀ r l, s.rd .takeover 0 ≠ 1 → s.rd .bootStuck 0 ≠ 1 → s.mode ≠ 0 → s.poppable 72 ≠ 0 → (s.queue 72).pkts = .record r :: l →
       ∃ u, exec (.logWrite t) s0 = .next u ∧ (u.queue 72).pkts = l ∧
         (s.log.length < 4096 → u.log = s.log ++ [r]) ∧
         (4096 ≤ s.log.length → u.log.length = s.log.length ∧ u.log.getLast? = some r ∧
           (s.rd .LOG_WRAPPED 0 + 1 < 2 ^ 32 → u.rd .LOG_WRAPPED 0 = s.rd .LOG_WRAPPED 0 + 1)) ∧
         s.OnlyRegs u [.POPPED, .LOG_WRAPPED]) ∧
     (s0.atMark = true → s0.rd .INCIDENT_OPEN 0 = 1 → s0.rdN .incidentPass 0 + s0.rdN .INCIDENT_QUIET 0 ≤ s0.pass →
       ∃ u, exec .incidentClose s0 = .next u ∧ u.rd .INCIDENT_OPEN 0 = 0 ∧
         (s0.rd .HEAD_FIRST 0 ≠ 0 → s0.rd .HEAD_LAST 0 ≤ s0.rd .ACK_ORDINAL 0 → u.rd .HEAD_FIRST 0 = 0 ∧ u.rd .HEAD_LAST 0 = 0) ∧
         (s0.rd .HEAD_FIRST 0 ≠ 0 → s0.rd .ACK_ORDINAL 0 < s0.rd .HEAD_LAST 0 → u.rd .HEAD_FIRST 0 = s0.rd .HEAD_FIRST 0 ∧ u.rd .headDone 0 = 1) ∧
         s0.OnlyRegs u [.INCIDENT_OPEN, .HEAD_FIRST, .HEAD_LAST, .headDone]) ∧
     (∀ x, s.shadows.find? (fun y => y.first = k) = some x → s.shadowDue x = true →
       ∃ u, exec (.shadowEnd t k) s0 = .next u ∧ u.shadows = s.shadows.filter (fun y => y.first ≠ k) ∧ s.OnlyRegs u [.OPEN_ORDINAL])) ∧
  (∀ (t : Nat) (s0 : State), let s := s0.at t;
     s.rd .TRACE_DEST 0 ≠ 0 →
     (∀ w l, s.mode ≠ 0 → s.mode ≠ 11 → s.rdN .traceNext 0 ≤ s.now → s.poppable 73 ≠ 0 → (s.queue 73).pkts = .words [w] :: l →
       ∃ u, exec (.traceWordOut t) s0 = .next u ∧ (u.queue 73).pkts = l ∧
         u.traceOut = (if s.rdN .TRACE_DEST 0 % 2 = 1 then some w else s.traceOut) ∧
         u.traceBuf = (if 2 ≤ s.rdN .TRACE_DEST 0 then (w :: s.traceBuf).take traceWords else s.traceBuf) ∧
         s.OnlyRegs u [.POPPED, .TRACE_BUF_NEWEST, .traceNext] ∧ u.log = s.log ∧ ∀ k, k ≠ 73 → u.queue k = s.queue k) ∧
     (s.rd .dropPending 0 ≠ 0 → ¬ ((s.queue 73).pushAt = s.now ∧ (s.queue 73).fresh ≠ 0) → s.Room 73 (.words [0]) →
       ∃ u, exec (.dropRecord t) s0 = .next u ∧ u.rd .dropPending 0 = 0 ∧
         (u.queue 73).pkts = (s.queue 73).pkts ++ [.words [BitVec.ofNat 64 (7 + 16 * (s.now % 2 ^ 28) + 2 ^ 32 * s.rdN .dropPending 0)]] ∧
         ∀ k, k ≠ 73 → u.queue k = s.queue k))

/-- Checks of the links to the dies, injections and TRIPI (R347–R353): two equal levels on a path start its rail test, whose end tells which rail is
stuck; a word that fails parity twice leaves its value as it was; an injection lapses after a second; TRIPI trips where TRIPI_MODE says so. -/
def Obligations.ChecksAreRecorded : Prop :=
  ∀ (t : Nat) (k : Fin 8) (b p q : Bool) (s0 : State), let s := s0.at t;
    let r := railOf k b;
    (s.rd .railOn r = 0 → s.stuck k b = false → s.armed 7 k = none → s.covered (blkDie k) 8 = false →
      ∃ u, exec (.dualRail t k b) s0 = .next u ∧ u.rd .railOn r = (s.now : Int) + 1 ∧ u.bit .REDUNDANCY 0 15 = true ∧
        u.bit .CAUSES_PRESENT (blkDie k) 8 = true) ∧
    (s.rd .railOn r ≠ 0 → s.rdN .railOn r + 400 ≤ s.now + 1 →
      ∃ u, exec (.railTestEnd t k b p q) s0 = .next u ∧ u.rd .railOn r = 0 ∧
        u.rd .RAIL_STATE 0 = (s.rdN .RAIL_STATE 0 ||| max ((if p then 0 else 1) + (if q then 0 else 2)) 1 * 2 ^ (2 * r) : Nat) ∧
        (p = true → q = true → s.rd .railStuck k = 0 → u.bit .CAUSES_PRESENT (blkDie k) 8 = false) ∧
        (p = false → q = false → u.bit .CAUSES_LATCHED (blkDie k) 3 = true ∧ (s.covered (blkDie k) 3 = false → u.rd .dieOff k = 1))) ∧
    (s.armed 6 k = none →
      (∃ u, exec (.linkParity t k false) s0 = .next u ∧ u.bit .CAUSES_LATCHED (blkDie k) 0x12 = true ∧ s.OnlyRegs u faultRegs) ∧
      (∃ u, exec (.linkParity t k true) s0 = .next u ∧ u.bit .CAUSES_LATCHED (blkDie k) 0x12 = true ∧
        s.OnlyRegs u (faultRegs ++ [.incShadow, .ampShadow, .ampSrcShadow]) ∧
        ∀ n, (u.rd .incShadow n = s.rd .incShadow n ∨ (n / 8 = k ∧ u.rd .incShadow n = s.rd .ANGLE_INC n)) ∧
          (u.rd .ampShadow n = s.rd .ampShadow n ∨ (n / 8 = k ∧ u.rd .ampShadow n = s.rd .AMPLITUDE n)))) ∧
    (s.rd .INJECT_STATE 0 = 1 → s.rdN .injectAt 0 + second ≤ s.now → exec (.injectionLapse t) s0 = .next (s.wr .INJECT_STATE 0 3)) ∧
    (s.rd .TRIPI_LEVEL 0 ≠ 1 → s.mode ≠ 0 → s.rd .TRIPI_COUNT 0 + 1 < 2 ^ 32 →
      ∃ u, exec (.tripiRise t) s0 = .next u ∧ u.rd .TRIPI_LEVEL 0 = 1 ∧ u.rd .TRIPI_COUNT 0 = s.rd .TRIPI_COUNT 0 + 1 ∧
        (s.rd .TRIPI_MODE 0 = 1 → u.bit .CAUSES_PRESENT 0x61 3 = true) ∧ s.OnlyRegs u (faultRegs ++ [.TRIPI_LEVEL, .TRIPI_COUNT])) ∧
    (∃ u, exec (.tripiFall t) s0 = .next u ∧ u.rd .TRIPI_LEVEL 0 = 0 ∧ u.bit .CAUSES_PRESENT 0x61 3 = false ∧
      s.OnlyRegs u [.TRIPI_LEVEL, .CAUSES_PRESENT, .OPEN_ORDINAL])

-- the host

/-- Transactions (R18, R35, R286, R293–R295, R317, R325), shown on a WRITE: a request that is not new is not carried out again — a completed one is
answered from the cache, one in progress is left alone —, another request on a busy tag is refused with 0x0C, a write over the ring in LOCKOUT with
0x0F and a write in BOOT with 0x04; none of these changes any object, queue or table but those of transactions. A module that does not answer takes
up nothing. -/
def Obligations.RequestsAreTakenOnce : Prop :=
  ∀ (h : Hdr) (idx sub : Nat) (bs : List Byte) (s : State), let x := s.tagSt h.tag;
    let mine := x.digest = some (s.digest h opWrite idx sub bs);
    let same (u : State) : Prop := s.OnlyRegs u requestRegs ∧ (∀ q, q ≠ 71 → u.queue q = s.queue q) ∧
      { u with regs := s.regs, queues := s.queues, tags := s.tags, freeCtr := s.freeCtr, was := s.was } = s;
    ∃ u, exec (.registerWrite h idx sub bs) s = .next u ∧
      (s.answering = false → same u ∧ u.tags = s.tags ∧ u.queues = s.queues) ∧
      (s.answering = true →
        (∀ f, mine → x.busy = false → x.reply = some f → same u ∧ u.tags = s.tags ∧
          ((s.takeUp h).Room 71 (.frame f) → (u.queue 71).pkts = (s.queue 71).pkts ++ [.frame f])) ∧
        (mine → x.busy = true → idx ≠ 0x6808 → idx ≠ 0x6000 → same u ∧ u.tags = s.tags ∧ u.queues = s.queues) ∧
        (¬ mine → x.busy = true → (s.mode = 10 → h.port = 2) → same u ∧ u.tags = s.tags ∧
          (s.rd .TAG_CONFLICTS 0 + 1 < 2 ^ 32 → u.rd .TAG_CONFLICTS 0 = s.rd .TAG_CONFLICTS 0 + 1)) ∧
        (¬ mine → x.busy = false → s.mode = 10 → h.port ≠ 2 → same u ∧ u.Answers h 0x0F []) ∧
        (¬ mine → x.busy = false → s.mode = 1 → same u ∧ u.Answers h 0x04 []))

/-- READ, READ_BLOCK and the WRITEs (R2–R4, R25, R29, R35): a read answers what the object reads as, or its code, and changes nothing; a WRITE that a rank
refuses answers the code of that rank and changes nothing but the count of refused pushes; an accepted one of RWC access is staged, and one of W1C
access clears the bits written 1 that have not been set in this cycle. A WRITE_BLOCK is judged value by value, each on what those before it leave: one
that is refused refuses the block, and nothing of it is applied; an empty or too long one has the wrong length. -/
def Obligations.ReadsAndWritesAnswer : Prop :=
  ∀ (h : Hdr) (idx sub : Nat) (s : State),
    (s.Takes h opRead idx sub [] → ∃ u, exec (.read h idx sub) s = .next u ∧
      u.Answers h ((s.taken h opRead idx sub []).readOne idx sub).1 ((s.taken h opRead idx sub []).readOne idx sub).2 ∧
      s.OnlyRegs u requestRegs ∧ { u with regs := s.regs, queues := s.queues, tags := s.tags, freeCtr := s.freeCtr, was := s.was } = s) ∧
    (∀ k, k ≤ 255 → s.Takes h opReadBlock idx sub (leBytes 1 k) → ∃ u, exec (.readBlock h idx sub k) s = .next u ∧
      u.Answers h ((s.taken h opReadBlock idx sub (leBytes 1 k)).readBlock idx sub k).1
        ((s.taken h opReadBlock idx sub (leBytes 1 k)).readBlock idx sub k).2 ∧
      (k = 0 → ∀ p, s.objAt idx sub = some p → u.Answers h 5 []) ∧
      s.OnlyRegs u requestRegs ∧ { u with regs := s.regs, queues := s.queues, tags := s.tags, freeCtr := s.freeCtr, was := s.was } = s) ∧
    (∀ (bs : List Byte) (c : Instr), c ∈ [Instr.registerWrite h idx sub bs, .rwcWrite h idx sub bs, .w1cWrite h idx sub bs] →
      let w := s.taken h opWrite idx sub bs;
      s.Takes h opWrite idx sub bs → ∃ u, exec c s = .next u ∧
        (w.writeCode idx sub bs ≠ 0 → u.Answers h (w.writeCode idx sub bs) [] ∧ s.OnlyRegs u requestRegs ∧
          { u with regs := s.regs, queues := s.queues, tags := s.tags, freeCtr := s.freeCtr, was := s.was } = s) ∧
        (∀ o i, w.writeCode idx sub bs = 0 → s.objAt idx sub = some (o, i) →
          (o.acc = .rwc → u.Answers h 0 [] ∧ tget none u.staged (o.reg.key i) = some (o.ty.value bs) ∧
            (∀ k, k ≠ o.reg.key i → tget none u.staged k = tget none s.staged k) ∧ s.OnlyRegs u requestRegs) ∧
          (o.acc = .w1c → u.Answers h 0 [] ∧ ∀ b, u.bit o.reg i b = (s.bit o.reg i b &&
            !((o.ty.value bs).toNat.testBit b && !((s.takeUp h).freshBits o.reg i).testBit b))))) ∧
    (∀ bs, s.Takes h opWriteBlock idx sub bs → ∃ u, exec (.writeBlock h idx sub bs) s = .next u ∧
      (let w := s.taken h opWriteBlock idx sub bs;
        let l := w.cut idx (bs.length + 1) sub bs;
        let refused (c : Nat) : Prop := u.Answers h c [] ∧ s.OnlyRegs u requestRegs ∧
          { u with regs := s.regs, queues := s.queues, tags := s.tags, freeCtr := s.freeCtr, was := s.was } = s;
        (bs = [] ∨ 1024 < bs.length → refused 6) ∧
        (bs ≠ [] → bs.length ≤ 1024 →
          (∀ l1 p l2 w', l = l1 ++ p :: l2 → w.writeAll idx l1 w = (w', .done 0 []) → w'.writeCode idx p.1 p.2 ≠ 0 →
            refused (w'.writeCode idx p.1 p.2)) ∧
          ((w.writeAll idx l w).2 = .done 0 [] → u.Answers h 0 [] ∧
            ((∀ p ∈ l, ∃ o i, s.objAt idx p.1 = some (o, i) ∧ o.acc = .rwc) → s.OnlyRegs u requestRegs ∧
              ∀ p ∈ l, ∀ o i, s.objAt idx p.1 = some (o, i) → tget none u.staged (o.reg.key i) = some (o.ty.value p.2))))))

/-- What the accepted writes to the motion objects of an axis ask for (R51–R53, R60–R62, R66, R70, R75, R80, R81, R89, R90), and that they change
nothing else. -/
def Obligations.MotionRequests : Prop :=
  ∀ (h : Hdr) (n : Fin 64) (s : State), let now := (s.takeUp h).now;
    (∀ v : Int, -2 ^ 47 ≤ v → v < 2 ^ 47 →
      (s.Accepts h (axisIdx 0x14 n) 1 (leBytes 8 (unsigned 64 v)) → ∃ u, exec (.target h n v) s = .next u ∧
        s.Did u h n [.tgtPend, .tgtVal, .tgtAt] [] ∧ u.rd .tgtPend n = 1 ∧ u.rd .tgtVal n = v ∧ u.rd .tgtAt n = now) ∧
      (s.Accepts h (axisIdx 0x1C n) 1 (leBytes 8 (unsigned 64 v)) → ∃ u, exec (.setPosition h n v) s = .next u ∧
        s.Did u h n [.setPend, .setVal] [] ∧ u.rd .setPend n = 1 ∧ u.rd .setVal n = v)) ∧
    (s.Accepts h (axisIdx 0x15 n) 1 [1] → ∃ u, exec (.stop h n) s = .next u ∧ s.Did u h n [.stopPend, .stopAt] [] ∧ u.rd .stopPend n = 1 ∧
      u.rd .stopAt n = now) ∧
    (s.Accepts h (axisIdx 0x15 n) 1 [2] → ∃ u, exec (.stopFlush h n) s = .next u ∧ s.Did u h n [.stopPend, .stopAt] [] ∧ u.rd .stopPend n = 2 ∧
      u.rd .stopAt n = now) ∧
    (∀ ws : List Word64, let bs := (ws ++ List.replicate (16 - ws.length) 0).flatMap (fun (w : Word64) => leBytes 8 w.toNat);
      s.Accepts h (axisIdx 0x13 n) 1 bs → ∃ u, exec (.movePush h n ws) s = .next u ∧ u.Answers h 0 [] ∧
        (u.queue n).pkts = (s.queue n).pkts ++ (pushRecords bs).map .words ∧ (∀ q, q ≠ n.val → q ≠ 71 → q ≠ 73 → u.queue q = s.queue q) ∧
        s.OnlyRegs u ([.AXIS_EVENTS, .LAST_DONE_TAG, .ACTIVE_KIND, .TRACE_DROPS, .dropPending, .readyAt] ++ requestRegs) ∧
        { u with regs := s.regs, queues := s.queues, tags := s.tags, planners := s.planners, fresh := s.fresh, freshAt := s.freshAt
                 freeCtr := s.freeCtr, was := s.was } = s ∧
        ((∀ k, k < 64 → s.waitRec k = none) → s.OnlyRegs u requestRegs ∧ u.planners = s.planners ∧ u.fresh = s.fresh)) ∧
    (s.Accepts h (axisIdx 0x13 n) 2 [1] → ∃ u, exec (.queueFlush h n) s = .next u ∧ u.Answers h 0 [] ∧
      (s.motionMode = true → s.rd .AXIS_STATE n ≤ 2 → u.rd .flushPend n = 1 ∧ u.rd .flushAt n = now ∧ u.queue n = s.queue n) ∧
      (s.motionMode = false ∨ 2 < s.rd .AXIS_STATE n → (u.queue n).pkts = []) ∧ s.OnlyAt u n [.flushPend, .flushAt] requestRegs ∧
      (∀ q, q ≠ n.val → q ≠ 71 → u.queue q = s.queue q) ∧
      { u with regs := s.regs, queues := s.queues, tags := s.tags, freeCtr := s.freeCtr, was := s.was } = s) ∧
    (∀ (k : Fin 4) (v : Nat), v < 2 ^ 32 → s.Accepts h (axisIdx 0x10 n) (k + 1) (leBytes 4 v) →
      ∃ u, exec (.limitChange h n k v) s = .next u ∧ s.Did u h n [[.VMAX, .AMAX, .DMAX, .JMAX][k], .limNew] [.limAt] ∧ u.rd [Reg.VMAX, .AMAX, .DMAX, .JMAX][k] n = v ∧
        (∀ b, u.bit .limNew n b = (s.bit .limNew n b || decide (b = k.val))) ∧
        ∀ j, u.rd .limAt j = (if j = 4 * n.val + k.val then (now : Int) else s.rd .limAt j)) ∧
    (∀ v, v < 2 ^ 16 → s.Accepts h (axisIdx 0x12 n) 2 (leBytes 2 v) →
      ∃ u, exec (.lowMark h n v) s = .next u ∧ s.Did u h n [.LOW_MARK] [] ∧ u.rd .LOW_MARK n = v) ∧
    (s.Accepts h (axisIdx 0x32 n) 2 [1] → ∃ u, exec (.followEngage h n) s = .next u ∧ s.Did u h n [.followPend] [] ∧
      (s.rd .AXIS_STATE n ≠ 3 → u.rd .followPend n = 1)) ∧
    (s.Accepts h (axisIdx 0x32 n) 2 [0] → ∃ u, exec (.followDisengage h n) s = .next u ∧
      s.Did u h n [.END_CAUSE, .followPend, .discPend, .discAt] [] ∧
      (s.rd .FOLLOW_STATE n = 0 → u.rd .END_CAUSE n = 0 ∧ u.rd .followPend n = 0) ∧ (s.rd .FOLLOW_STATE n ≠ 0 → u.rd .discPend n = 1)) ∧
    (∀ v : Int, -2 ^ 31 ≤ v → v < 2 ^ 31 → s.Accepts h (axisIdx 0x31 n) 1 (leBytes 4 (unsigned 32 v)) →
      ∃ u, exec (.ratioChange h n false v) s = .next u ∧ s.Did u h n [.RATIO_NUM] [] ∧ u.rd .RATIO_NUM n = v) ∧
    (∀ v : Int, 0 ≤ v → v < 2 ^ 32 → s.Accepts h (axisIdx 0x31 n) 2 (leBytes 4 (unsigned 32 v)) →
      ∃ u, exec (.ratioChange h n true v) s = .next u ∧ s.Did u h n [.RATIO_DEN] [] ∧ u.rd .RATIO_DEN n = v)

/-- What the accepted writes to the current, load and bridge objects ask for (R110, R123, R124, R129, R145, R146, R156, R159, R164). -/
def Obligations.DriveRequests : Prop :=
  ∀ (h : Hdr) (n : Fin 64) (s : State),
    (s.Accepts h (axisIdx 0x47 n) 5 [1] → ∃ u, exec (.adaptReset h n) s = .next u ∧ s.Did u h n [.adReset] [] ∧ u.rd .adReset n = 1) ∧
    (∀ v, v < 256 → s.Accepts h (axisIdx 0x47 n) 1 (leBytes 1 v) →
      ∃ u, exec (.adaptEnable h n v) s = .next u ∧ s.Did u h n [.adReset, .ADAPT_ENABLE] [] ∧ u.rd .ADAPT_ENABLE n = v ∧
        (s.rd .ADAPT_ENABLE n = 0 → v = 1 → u.rd .adReset n = 1)) ∧
    (s.Accepts h (axisIdx 0x62 n) 12 [1] → ∃ u, exec (.learnStart h n) s = .next u ∧
      s.Did u h n [.LEARN_RESULT, .LEARN_EXCURSION, .lnCond, .lnOn] [.lnEntry] ∧ u.rd .lnOn n = 1 ∧ u.rd .LEARN_RESULT n = 1) ∧
    (s.Accepts h (axisIdx 0x62 n) 12 [0] → ∃ u, exec (.learnAbort h n) s = .next u ∧ u.Answers h 0 [] ∧
      (s.rd .lnOn n ≠ 0 → u.rd .lnOn n = 0 ∧ u.rd .LEARN_RESULT n = 3 ∧ u.bit .CAUSES_LATCHED (blkAxis n) 0x17 = true) ∧
      (s.rd .lnOn n = 0 → s.Did u h n [] [])) ∧
    (s.Accepts h (axisIdx 0x65 n) 6 [1] → ∃ u, exec (.stallRelease h n) s = .next u ∧ s.Did u h n [.stallRel] [] ∧
      (s.rd .AXIS_STATE n = 5 → u.rd .stallRel n = 1)) ∧
    (s.Accepts h (axisIdx 0x70 n) 2 [1] → ∃ u, exec (.driveEnable h n) s = .next u ∧ s.Did u h n [.drivePend] [] ∧
      (s.rd .AXIS_STATE n = 7 → u.rd .drivePend n = 1)) ∧
    (s.Accepts h (axisIdx 0x70 n) 2 [0] → ∃ u, exec (.driveDisable h n) s = .next u ∧ s.Did u h n [.disPend, .stopPend, .stopAt] [] ∧
      (s.rd .AXIS_STATE n = 0 ∨ s.rd .AXIS_STATE n = 1 ∨ s.rd .AXIS_STATE n = 5 → u.rd .disPend n = 1 ∧ u.rd .stopPend n = s.rd .stopPend n) ∧
      (s.rd .AXIS_STATE n = 2 ∨ s.rd .AXIS_STATE n = 3 ∨ s.rd .AXIS_STATE n = 4 → u.rd .disPend n = 2 ∧ u.rd .stopPend n = 1) ∧
      (s.rd .AXIS_STATE n = 6 → s.driveOf n = 2 → u.rd .disPend n = 3)) ∧
    (s.Accepts h (axisIdx 0x76 n) 1 [1] → ∃ u, exec (.rearm h n) s = .next u ∧ s.Did u h n [.rearmPend] [] ∧
      (s.rd .AXIS_STATE n = 6 → u.rd .rearmPend n = 1)) ∧
    (s.Accepts h (axisIdx 0x74 n) 1 [1] → ∃ u, exec (.diagStart h n) s = .next u ∧ u.Answers h 0 [] ∧ s.OnlyAt u n [.DIAG_RESULT] requestRegs ∧
      (s.rd .DIAG_RESULT n ≠ 5 → s.rd .AXIS_USE n ≠ 0 → s.rd .DRIVE_STATE n = 0 → s.rd .dieOff (n / 8 : Nat) ≠ 1 →
        u.rd .DIAG_RESULT n = 5 ∧ u.diagQueue (n / 8 : Nat) = insertAsc n (s.diagQueue (n / 8 : Nat)))) ∧
    (s.Accepts h 0x1078 2 [1] → ∃ u, exec (.diagAll h) s = .next u ∧ u.Answers h 0 [] ∧ s.OnlyRegs u (.DIAG_RESULT :: requestRegs) ∧
      (s.rd .AXIS_USE n ≠ 0 → s.rd .DRIVE_STATE n = 0 → s.rd .dieOff (n / 8 : Nat) ≠ 1 → u.rd .DIAG_RESULT n = 5)) ∧
    (s.Accepts h (axisIdx 0x75 n) 1 [1] → ∃ u, exec (.directModeEnter h n) s = .next u ∧ s.Did u h n [.DIRECT_MODE, .directPend] [] ∧
      u.rd .DIRECT_MODE n = 1 ∧ u.rd .directPend n = 1) ∧
    (s.Accepts h (axisIdx 0x75 n) 1 [0] → ∃ u, exec (.directModeExit h n) s = .next u ∧
      s.Did u h n [.DIRECT_MODE, .directPend, .pulseEnd, .firePend] switchRegs ∧ s.BridgeOf u n ∧ u.rd .DIRECT_MODE n = 0 ∧
      u.rd .directPend n = 2 ∧ u.rd .pulseEnd n = 0) ∧
    (s.Accepts h (axisIdx 0x75 n) 4 [1] → ∃ u, exec (.directFire h n) s = .next u ∧ s.Did u h n [.firePend] [] ∧ u.rd .firePend n = 1)

/-- What the accepted writes to the sense, converter, calibration, queue, log, injection and counter objects do (R39, R177, R179, R180, R197, R203, R205,
R206, R272, R277, R350, R378). -/
def Obligations.UnitRequests : Prop :=
  ∀ (h : Hdr) (n : Fin 64) (c : Fin 16) (s : State), let now := (s.takeUp h).now;
    (∀ v : Int, -2 ^ 47 ≤ v → v < 2 ^ 47 → s.Accepts h (0x4000 + c) 0x1B (leBytes 8 (unsigned 64 v)) →
      ∃ u, exec (.chPreset h c v) s = .next u ∧ s.Did u h c [.prePend, .preVal] [] ∧ u.rd .prePend c = 1 ∧ u.rd .preVal c = v) ∧
    (s.Accepts h (axisIdx 0x81 n) 6 [1] → ∃ u, exec (.fbAlign h n) s = .next u ∧ s.Did u h n [.fbAlignPend] [] ∧ u.rd .fbAlignPend n = 1) ∧
    (∀ v, v < 256 → s.Accepts h (0x4000 + c) 0x17 (leBytes 1 v) → ∃ u, exec (.latchSrc h c v) s = .next u ∧ u.Answers h 0 [] ∧
      u.rd .LATCH_SRC c = v ∧ u.rd .latchArmed c = (if v = 0 then 0 else 1) ∧
      s.OnlyAt u c [.LATCH_SRC, .latchArmed, .latchDone] (faultRegs ++ requestRegs)) ∧
    (∀ v, v < 256 → s.Accepts h (0x3100 + c) 0x1C (leBytes 1 v) → ∃ u, exec (.urgentReq h c v) s = .next u ∧
      u.Answers h 0 [] ∧ u.rd .cvUrg c = (v : Int) + 1 ∧ (s.rd .trigHeld 0 ≠ 1 →
        let waits := s.rd .cvCur c = 1 ∧ 2 * now + cka s.powerUp < s.rdN .cvFrom c;
        s.Did u h c [.cvUrg, .cvCur, .cvEnt, .cvFrom, .cvPos] [] ∧ (s.cvRuns c = true → s.rd .cvCur c = 0 ∨ waits → u.rd .cvCur c = 2) ∧
          (s.rd .cvCur c ≠ 0 → ¬ waits → u.rd .cvCur c = s.rd .cvCur c ∧ u.rd .cvFrom c = s.rd .cvFrom c))) ∧
    (s.Accepts h (0x3100 + c) 0x20 [1] → ∃ u, exec (.cvRestart h c) s = .next u ∧ s.Did u h c [.scOn] [] ∧ u.rd .scOn c = (now : Int) + 1) ∧
    (∀ k, k = 1 ∨ k = 2 → s.Accepts h 0x3400 7 [BitVec.ofNat 8 k] →
      ∃ u, exec (if k = 1 then .calZeroPoint h else .calFullPoint h) s = .next u ∧ u.Answers h 0 [] ∧ u.rd .calAt 0 = now ∧
        u.rd .calC 0 = s.rdN .CAL_CONV 0 ∧ u.rd .calG 0 = s.rdN .CAL_GAIN 0 ∧
        (s.rd .CV_STATE (s.rdN .CAL_CONV 0) ≠ 3 → u.rd .calBusy 0 = k ∧ u.rd .CV_STATE (s.rdN .CAL_CONV 0) = 5)) ∧
    (s.Accepts h 0x3400 7 [3] → let i := 4 * s.rdN .CAL_CONV 0 + s.rdN .CAL_GAIN 0;
      ∃ u, exec (.calCompute h) s = .next u ∧ s.Did u h i [.calHave, .calPend, .calOfsNew, .calGainNew, .calHas] [.CAL_STATUS] ∧
        u.rd .calHave i = 0 ∧ (u.rd .CAL_STATUS 0 = 1 ∨ u.rd .CAL_STATUS 0 = 5) ∧ (s.rd .calHave i ≠ 3 → u.rd .CAL_STATUS 0 = 5) ∧
        (u.rd .CAL_STATUS 0 = 1 → u.rd .calPend i = 1 ∧ u.rd .calHas i = 1 ∧ 14746 ≤ u.rd .calGainNew i ∧ u.rd .calGainNew i ≤ 18022 ∧
          (u.rd .calOfsNew i).natAbs ≤ 4096)) ∧
    (s.Accepts h 0x3400 0x0A [1] → ∃ u, exec (.calStore h) s = .next u ∧ u.Answers h 0 [] ∧
      (∀ b ∈ s.goodBanks, (u.flashOf b).config = (s.flashOf b).config ∧
        (∀ r i, r ∈ [Reg.CAL_OFS, .CAL_GAIN_FACTOR] → tget (r.dflt i) (u.flashOf b).cal (r.key i) = s.rd r i) ∧
        ∀ i, i < 64 → tget (Reg.calHas.dflt i) (u.flashOf b).cal (Reg.calHas.key i) = 1) ∧
      s.OnlyRegs u (.calHas :: faultRegs ++ requestRegs)) ∧
    (s.Accepts h 0x1030 4 [1] → ∃ u, exec (.stageDiscard h 1) s = .next u ∧ u.Answers h 0 [] ∧ u.staged = [] ∧ s.OnlyRegs u requestRegs) ∧
    (∀ v, v < 2 ^ 32 → s.Accepts h 0x2001 1 (leBytes 4 v) → ∃ u, exec (.ackOrdinal h v) s = .next u ∧
      s.Did u h 0 [.ACK_ORDINAL, .HEAD_FIRST, .HEAD_LAST, .headDone] [] ∧ u.rd .ACK_ORDINAL 0 = v ∧
      (s.rd .HEAD_FIRST 0 ≠ 0 → s.rd .headDone 0 = 1 → s.rd .HEAD_LAST 0 ≤ v → u.rd .HEAD_FIRST 0 = 0 ∧ u.rd .HEAD_LAST 0 = 0)) ∧
    (∀ v, v < 2 ^ 32 → s.Accepts h 0x2001 2 (leBytes 4 v) → ∃ u, exec (.logSeen h v) s = .next u ∧ s.Did u h 0 [.LOG_SEEN] [] ∧
      u.rd .LOG_SEEN 0 = v) ∧
    (∀ q : Fin 80, s.Accepts h (0x5000 + q) 0x0C [1] → ∃ u, exec (.release h q) s = .next u ∧ s.Did u h q [.HELD, .qVoid] [.HELD_LO, .HELD_HI] ∧
      (s.rd .HELD q = 1 → u.rd .HELD q = 0 ∧ u.rd .qVoid q = (max (s.rdN .qVoid q) (now + 1) : Nat))) ∧
    (∀ (m : Fin 4) (bs : List Byte), s.Accepts h (0x5200 + m) 1 bs → ∃ u ws, exec (.mailPush h m bs) s = .next u ∧ u.Answers h 0 [] ∧
      mailPacket bs = some ws ∧ (u.queue (76 + m)).pkts = (s.queue (76 + m)).pkts ++ [.words ws]) ∧
    (∀ v, v < 256 → s.Accepts h 0x5300 1 (leBytes 1 v) → ∃ u, exec (.captureFetch h v) s = .next u ∧ u.Answers h 0 [] ∧
      let l := ((s.takeUp h).fetchWords v).1;
      u.rd .CAPTURE_BUF 0 = (dataOf ((1, l.length) :: l.map (fun w => (8, w.toNat))) : Nat) ∧ s.OnlyRegs u ([.CAPTURE_BUF, .POPPED] ++ requestRegs)) ∧
    (∀ v, v < 256 → s.Accepts h 0x2005 3 (leBytes 1 v) → ∃ u, exec (.injectArm h v) s = .next u ∧ s.Did u h 0 [.INJECT_STATE, .injectAt] [] ∧
      u.rd .INJECT_STATE 0 = 1 ∧ u.rd .injectAt 0 = now) ∧
    (s.Accepts h 0x7300 1 [1] → ∃ u, exec (.counterFreeze h) s = .next u ∧ s.Did u h 0 [] [.COUNTER_FROZEN] ∧
      ∀ k, k < 256 → u.rd .COUNTER_FROZEN k = (s.taken h opWrite 0x7300 1 [1]).rd .COUNTER k)

/-- What the accepted writes to the image, plan and mode objects do (R231, R233, R257, R314–R316, R323, R325, R326); a request whose change comes with a
mark, a load or a self-test is answered when that has ended. -/
def Obligations.ModeAndImageRequests : Prop :=
  ∀ (h : Hdr) (v : Nat) (s : State), v < 256 → let now := (s.takeUp h).now;
    (s.Accepts h 0x6000 1 (leBytes 1 v) → ∃ u, exec (.imageSel h v) s = .next u ∧ u.Answers h 0 [] ∧ u.rd .IMAGE_SEL 0 = v ∧ u.chunks = []) ∧
    (∀ x, x < 2 ^ 32 → s.Accepts h 0x6000 2 (leBytes 4 x) → ∃ u, exec (.imageOffset h x) s = .next u ∧ s.Did u h 0 [.IMAGE_OFFSET] [] ∧
      u.rd .IMAGE_OFFSET 0 = x) ∧
    (∀ bs, s.Accepts h 0x6000 3 bs → ∃ u, exec (.imageChunk h bs) s = .next u ∧ u.Answers h 0 [] ∧ u.chunks = s.chunks ++ bs ∧
      u.rd .IMAGE_STATE (s.rdN .IMAGE_SEL 0) = 1 ∧ s.OnlyRegs u (.IMAGE_STATE :: requestRegs)) ∧
    (∀ x, x < 2 ^ 32 → s.Accepts h 0x6000 4 (leBytes 4 x) → ∃ u, exec (.imageClose h x) s = .next u ∧ u.Waits h 0x6000 ∧ u.rd .imgBusy 0 = 1 ∧
      u.rd .imgNum 0 = s.rd .IMAGE_SEL 0 ∧ u.rd .imgLen 0 = x ∧ s.OnlyRegs u ([.imgBusy, .imgNum, .imgLen] ++ requestRegs)) ∧
    (s.Accepts h 0x6000 8 (leBytes 1 v) → ∃ u, exec (.imageErase h v) s = .next u ∧ u.Answers h 0 [] ∧ u.rd .IMAGE_STATE v = 0 ∧
      ∀ b ∈ s.goodBanks, tget [] u.images (16 * b + v) = []) ∧
    (s.Accepts h 0x6808 1 (leBytes 1 v) → ∃ u, exec (.swapStart h v) s = .next u ∧ u.Waits h 0x6808 ∧ u.rd .SWAP_STATE 0 = 1 ∧
      u.rd .swapImg 0 = v ∧ s.OnlyRegs u ([.SWAP_STATE, .swapImg] ++ requestRegs)) ∧
    (s.Accepts h 0x6803 9 (leBytes 1 v) → ∃ u, exec (.engineClear h v) s = .next u ∧
      (s.bit .REDUNDANCY 0 (16 + v) = true → u.Waits h 0x6803 ∧ u.rd .selfTest 0 = (v : Int) + 1 ∧ u.rd .selfTestAt 0 = now ∧
        u.rd .ENGINE_STATE v = 4) ∧
      (s.bit .REDUNDANCY 0 (16 + v) = false → s.Did u h 0 [] [])) ∧
    (s.Accepts h 0x1001 6 (leBytes 1 v) → ∃ u, exec (.resetRequest h v) s = .next u ∧ s.Did u h 0 [.resetDue, .resetSent] [] ∧
      u.rd .resetDue 0 = (now : Int) + 1 ∧ u.rd .resetSent 0 = 0) ∧
    (s.Accepts h 0x1004 4 (leBytes 1 v) → ∃ u, exec (.lockoutClear h v) s = .next u ∧ u.Answers h 0 [] ∧
      (s.mode = 10 → s.rd .clearPending 0 ≠ 1 → u.rd .clearPending 0 = 1 ∧ u.rd .LOCKOUT_FLAG 0 = 0 ∧
        u.bit .CAUSES_LATCHED s.blkSteward 0x20 = true ∧ ∀ b ∈ s.goodBanks, (u.flashOf b).lockout = false) ∧
      (s.mode ≠ 10 → s.Did u h 0 [] [])) ∧
    (∀ c : Instr, (c, v) ∈ [(Instr.modeRequestConfigure h, 2), (.modeRequestCalibrate h, 3), (.modeRequestArmed h, 4), (.modeRequestRun h, 5),
        (.modeRequestSafe h, 9), (.modeRequestLockout h, 10), (.modeRequestStandby h, 11)] →
      s.Accepts h 0x1001 2 (leBytes 1 v) → ∃ u, exec c s = .next u ∧ u.mode = s.mode ∧
        (isPresent s.mode v = true → s.Did u h 0 [] []) ∧
        (isPresent s.mode v = false → u.Waits h 0x1001 ∧ (v ≠ 9 → v ≠ 10 → u.rd .modeReq 0 = v) ∧
          (v = 9 → u.bit .CAUSES_LATCHED s.blkSteward 3 = true ∧ u.rd .tripPending 0 ≠ 0) ∧
          (v = 10 → u.rd .lockoutPending 0 = 2 ∧ u.rd .LOCKOUT_FLAG 0 = 1 ∧ ∀ b ∈ s.goodBanks, (u.flashOf b).lockout = true)))

/-- COMMIT, the close of an image and the plan swap (R29–R34, R233, R234, R257, R259): a COMMIT that a check stops answers its code and reports it, and
the staging store is as before; one that passes waits for its mark, at which the new values and the new plan are in force together and the staging
store is empty, and the set stands in a flash bank that reads. An image that passes stands in both banks; one that does not leaves the slot empty. A swap completes at a mark, with the new
plan or with the code of its failed check. -/
def Obligations.CommitAndSwapTakeEffect : Prop :=
  (∀ (h : Hdr) (s : State), s.Takes h opCommit 0 0 [] → let w := s.taken h opCommit 0 0 [];
    ∃ u, exec (.commit h) s = .next u ∧
      (let failed (c : Nat) : Prop := u.Answers h c [] ∧ u.rd .RESULT 0 = c ∧ u.staged = s.staged ∧ u.newSet = s.newSet ∧
          s.OnlyRegs u ([.RESULT, .OBJECT_A, .OBJECT_B, .RESOURCE, .DETAIL] ++ requestRegs);
        (s.mode ≠ 2 → failed 4) ∧ (s.mode = 2 → s.rd .commitRun 0 = 1 → failed 7) ∧
        (s.mode = 2 → s.rd .commitRun 0 ≠ 1 → s.staged = [] → failed 0) ∧
        (s.mode = 2 → s.rd .commitRun 0 ≠ 1 → s.staged ≠ [] →
          (∀ x, w.tryCommit = .inl x → failed x.code ∧ u.rd .OBJECT_A 0 = x.a ∧ u.rd .OBJECT_B 0 = x.b ∧ u.rd .RESOURCE 0 = x.res ∧
            u.rd .DETAIL 0 = x.detail) ∧
          (∀ w', w.tryCommit = .inr w' → u.Waits h 0 ∧ u.rd .commitRun 0 = 1 ∧ u.rd .loadEnd 0 = ((s.takeUp h).now + 1 : Nat) ∧
            u.staged = s.staged ∧ ∃ x, u.newSet = some x ∧ x.config = w.changes ∧ x.placed = true)))) ∧
  (∀ (s : State) (x : NewSet), s.newSet = some x → s.atMark = true → s.rd .commitRun 0 = 1 → s.rdN .loadEnd 0 ≤ s.now →
    ∃ u, exec .commitTakesEffect s = .next u ∧ u.staged = [] ∧ u.newSet = none ∧ u.rd .commitRun 0 = 0 ∧ u.activeBank = x.slots ∧
      u.progs = x.progs ∧ u.fallback = x.fallback ∧ u.rd .RESULT 0 = 0 ∧ u.bit .CFG_CHANGED 0 0 = true ∧
      (∀ d ∈ s.deferred, d.index = 0 → d.sub = 0 → (u.tagSt d.hdr.tag).busy = false) ∧
      (s.goodBanks ≠ [] → ∃ b ∈ s.goodBanks, u.rd .flashCur 0 = b ∧ (u.flashOf b).valid = true ∧ (u.flashOf b).config = u.committed) ∧
      ∀ r i, (r.obj).any (fun o => decide (o.acc = .rwc)) = true →
        ∀ p, x.config.reverse.find? (fun p => keyReg p.1 = (r, i)) = some p → u.rd r i = p.2) ∧
  (∀ (t : Nat) (s0 : State), let s := s0.at t;
    let n := s.rdN .imgNum 0;
    s.rd .imgBusy 0 ≠ 0 → ∃ u, exec (.imageCloseDone t) s0 = .next u ∧ u.rd .imgBusy 0 = 0 ∧ u.chunks = [] ∧
      (imageGround n (s.rdN .imgLen 0) s.chunks = none → u.rd .IMAGE_RESULT 0 = 0 ∧ u.rd .IMAGE_GROUND 0 = 0 ∧
        ∀ b ∈ s.goodBanks, tget [] u.images (16 * b + n) = s.chunks.take (s.rdN .imgLen 0)) ∧
      (∀ g p, imageGround n (s.rdN .imgLen 0) s.chunks = some (g, p) → u.rd .IMAGE_RESULT 0 = groundCode g ∧ u.rd .IMAGE_GROUND 0 = g ∧
        u.rd .IMAGE_PROG 0 = p ∧ ∀ b ∈ s.goodBanks, tget [] u.images (16 * b + n) = [])) ∧
  (∀ s : State, s.atMark = true → s.rd .SWAP_STATE 0 ≠ 0 → s.mode = 9 ∨ (s.mode = 7 ∧ s.rdN .MODE_TIME 0 < s.now) →
    ∃ u, exec .swapComplete s = .next u ∧ u.rd .SWAP_STATE 0 = 0 ∧
      (∀ x, s.trySwap (s.rdN .swapImg 0) = .inl x → u.rd .RESULT 0 = x.code ∧ u.rd .SWAP_RESULT 0 = x.code ∧ u.activeBank = s.activeBank ∧
        u.progs = s.progs ∧ (s.mode = 7 → s.rd .islandInSwap 0 ≠ 1 → u.mode = s.runMode)) ∧
      (∀ s' x, s.trySwap (s.rdN .swapImg 0) = .inr (s', x) → u.rd .RESULT 0 = 0 ∧ u.activeBank = x.slots ∧ u.progs = x.progs ∧
        u.rd .SWAP_MARK 0 = (s.pass : Int) ∧ u.bit .CFG_CHANGED 0 1 = true))

-- rules, whole

/-- R10: every pass mark falls 5,000 CKM cycles after the one before it, and its cycle is the first of the pass that begins there; the pass
counter, which a read of 0x1010:01 gives, goes up by one at it. -/
def Obligations.PassesLastFiveThousandCycles : Prop :=
  (∀ (w : MarkIn) (s : State), s.rd .pllLocked 0 ≠ 0 → s.mode ≠ 0 → ∃ u, exec (.passMark w) s = .next u ∧
    u.rd .PASS_COUNT 0 = s.rd .PASS_COUNT 0 + 1 ∧ u.rd .PASS_MARK_TIME 0 = (s.rdN .PASS_MARK_TIME 0 + 5000 : Nat) ∧
    u.rd .DEVICE_TIME 0 = u.rd .PASS_MARK_TIME 0) ∧
  (∀ s : State, s.readOne 0x1010 1 = (0, leBytes 8 (unsigned 64 (s.rd .PASS_COUNT 0))))

/-- The model's choice (log entry 10; R10): the cycle that a command names never carries the module to the next mark, nor changes the pass count;
it never goes back, and is taken as it stands where it lies ahead within the pass. -/
def Obligations.CommandTimesStayWithinThePass : Prop :=
  ∀ (s : State) (t : Nat), s.now < s.rdN .PASS_MARK_TIME 0 + 5000 →
    (s.at t).now < (s.at t).rdN .PASS_MARK_TIME 0 + 5000 ∧ s.now ≤ (s.at t).now ∧
    (s.rd .pllLocked 0 = 1 → s.now ≤ t → t < s.rdN .PASS_MARK_TIME 0 + 5000 → (s.at t).now = t) ∧
    (s.at t).rd .PASS_COUNT 0 = s.rd .PASS_COUNT 0 ∧ (s.at t).rd .PASS_MARK_TIME 0 = s.rd .PASS_MARK_TIME 0

/-- R36: a W1C write in the CKM cycle in which an event sets bits of the same object leaves those bits set; it clears the bits it names whose set
condition is absent in that cycle, and no other. -/
def Obligations.W1cBitsOfTheCycleStaySet : Prop :=
  ∀ (h : Hdr) (idx sub m i : Nat) (bs : List Byte) (o : Obj) (s0 : State), let s := s0.raise o.reg i m;
    let v := (o.ty.value bs).toNat;
    o.acc = .w1c → s.objAt idx sub = some (o, i) → (s.takeUp h).now = s.now → s.Accepts h idx sub bs →
    ∃ u, exec (.w1cWrite h idx sub bs) s = .next u ∧ (∀ b, m.testBit b = true → u.bit o.reg i b = true) ∧
      (∀ b, u.bit o.reg i b = (s.bit o.reg i b && !(v.testBit b && !(s.freshBits o.reg i).testBit b))) ∧
      (∀ b, s.bit o.reg i b = true → u.bit o.reg i b = false →
        v.testBit b = true ∧ (s.freshBits o.reg i).testBit b = false ∧ (s.heldBits o.reg i).testBit b = false)

/-- R22: an operation on an index that does not exist is refused with 0x01. Every index that exists has subindex 0, one byte that is read and not
written, and that holds the highest subindex present there; an operation on any other subindex that is not present is refused with 0x02. Shown on a
READ, a WRITE, a WRITE_BLOCK and a READ_BLOCK of one subindex; the length limits of R286 on an empty or longer block come before these checks (R25). -/
def Obligations.EveryIndexTellsItsSubindices : Prop :=
  ∀ (h : Hdr) (idx sub : Nat) (bs : List Byte) (s : State),
    let refused (c : Nat) : Prop :=
      (s.Takes h opRead idx sub [] → ∃ u, exec (.read h idx sub) s = .next u ∧ u.Answers h c []) ∧
      (s.Takes h opWrite idx sub bs → ∃ u, exec (.registerWrite h idx sub bs) s = .next u ∧ u.Answers h c []) ∧
      (s.Takes h opReadBlock idx sub [1] → ∃ u, exec (.readBlock h idx sub 1) s = .next u ∧ u.Answers h c []) ∧
      (bs ≠ [] → bs.length ≤ 1024 → s.Takes h opWriteBlock idx sub bs → ∃ u, exec (.writeBlock h idx sub bs) s = .next u ∧ u.Answers h c []);
    (s.indexOk idx = false → refused 1) ∧
    (s.indexOk idx = true →
      (s.Takes h opRead idx 0 [] → ∃ u, exec (.read h idx 0) s = .next u ∧ u.Answers h 0 [BitVec.ofNat 8 (topSub idx)]) ∧
      (s.Takes h opWrite idx 0 bs → ∃ u, exec (.registerWrite h idx 0 bs) s = .next u ∧ u.Answers h 3 []) ∧
      1 ≤ topSub idx ∧ topSub idx ≤ 255 ∧ (s.objAt idx (topSub idx)).isSome = true ∧ (∀ k, topSub idx < k → s.objAt idx k = none) ∧
      (sub ≠ 0 → s.objAt idx sub = none → refused 2))

end
end

