-- ==== Sys2Proof/Laws/State.lean ====
section
/-! SUPPORT. What each plain update of the state leaves: every field but its own, by computation. -/
namespace Sys2Proof.Machine

/-- `wr` changes `regs` alone. -/
@[simp] theorem State.wr_fields (s : State) (r : Reg) (i : Nat) (v : Int) :
    (s.wr r i v).ledger = s.ledger ∧ (s.wr r i v).staged = s.staged ∧ (s.wr r i v).queues = s.queues ∧ (s.wr r i v).log = s.log ∧
    (s.wr r i v).opens = s.opens ∧ (s.wr r i v).shadows = s.shadows ∧ (s.wr r i v).fresh = s.fresh ∧ (s.wr r i v).freshAt = s.freshAt ∧
    (s.wr r i v).planners = s.planners ∧ (s.wr r i v).streams = s.streams ∧ (s.wr r i v).slopes = s.slopes ∧
    (s.wr r i v).bankA = s.bankA ∧ (s.wr r i v).bankB = s.bankB ∧ (s.wr r i v).planCopy = s.planCopy ∧
    (s.wr r i v).fallback = s.fallback ∧ (s.wr r i v).loading = s.loading ∧ (s.wr r i v).progs = s.progs ∧ (s.wr r i v).runs = s.runs ∧
    (s.wr r i v).cutoffs = s.cutoffs ∧ (s.wr r i v).safes = s.safes ∧ (s.wr r i v).calls = s.calls ∧ (s.wr r i v).diag = s.diag ∧
    (s.wr r i v).images = s.images ∧ (s.wr r i v).chunks = s.chunks ∧ (s.wr r i v).flash = s.flash ∧ (s.wr r i v).newSet = s.newSet ∧
    (s.wr r i v).tags = s.tags ∧ (s.wr r i v).deferred = s.deferred ∧ (s.wr r i v).gateway = s.gateway ∧ (s.wr r i v).wire = s.wire ∧
    (s.wr r i v).delays = s.delays ∧ (s.wr r i v).traceBuf = s.traceBuf ∧ (s.wr r i v).traceOut = s.traceOut ∧
    (s.wr r i v).freeCtr = s.freeCtr ∧ (s.wr r i v).was = s.was ∧ (s.wr r i v).pending = s.pending :=
  by repeat' constructor

/-- `wrLed` changes `ledger` alone. -/
@[simp] theorem State.wrLed_fields (s : State) (n w : Nat) (v : Word64) :
    (s.wrLed n w v).regs = s.regs ∧ (s.wrLed n w v).staged = s.staged ∧ (s.wrLed n w v).queues = s.queues ∧ (s.wrLed n w v).log = s.log ∧
    (s.wrLed n w v).opens = s.opens ∧ (s.wrLed n w v).shadows = s.shadows ∧ (s.wrLed n w v).fresh = s.fresh ∧
    (s.wrLed n w v).freshAt = s.freshAt ∧ (s.wrLed n w v).planners = s.planners ∧ (s.wrLed n w v).streams = s.streams ∧
    (s.wrLed n w v).slopes = s.slopes ∧ (s.wrLed n w v).bankA = s.bankA ∧ (s.wrLed n w v).bankB = s.bankB ∧
    (s.wrLed n w v).planCopy = s.planCopy ∧ (s.wrLed n w v).fallback = s.fallback ∧ (s.wrLed n w v).loading = s.loading ∧
    (s.wrLed n w v).progs = s.progs ∧ (s.wrLed n w v).runs = s.runs ∧ (s.wrLed n w v).cutoffs = s.cutoffs ∧
    (s.wrLed n w v).safes = s.safes ∧ (s.wrLed n w v).calls = s.calls ∧ (s.wrLed n w v).diag = s.diag ∧
    (s.wrLed n w v).images = s.images ∧ (s.wrLed n w v).chunks = s.chunks ∧ (s.wrLed n w v).flash = s.flash ∧
    (s.wrLed n w v).newSet = s.newSet ∧ (s.wrLed n w v).tags = s.tags ∧ (s.wrLed n w v).deferred = s.deferred ∧
    (s.wrLed n w v).gateway = s.gateway ∧ (s.wrLed n w v).wire = s.wire ∧ (s.wrLed n w v).delays = s.delays ∧
    (s.wrLed n w v).traceBuf = s.traceBuf ∧ (s.wrLed n w v).traceOut = s.traceOut ∧ (s.wrLed n w v).freeCtr = s.freeCtr ∧ (s.wrLed n w v).was = s.was ∧
    (s.wrLed n w v).pending = s.pending :=
  by repeat' constructor

/-- `wrQueue` changes `queues` alone. -/
@[simp] theorem State.wrQueue_fields (s : State) (q : Nat) (x : Queue) :
    (s.wrQueue q x).regs = s.regs ∧ (s.wrQueue q x).ledger = s.ledger ∧ (s.wrQueue q x).staged = s.staged ∧ (s.wrQueue q x).log = s.log ∧
    (s.wrQueue q x).opens = s.opens ∧ (s.wrQueue q x).shadows = s.shadows ∧ (s.wrQueue q x).fresh = s.fresh ∧
    (s.wrQueue q x).freshAt = s.freshAt ∧ (s.wrQueue q x).planners = s.planners ∧ (s.wrQueue q x).streams = s.streams ∧
    (s.wrQueue q x).slopes = s.slopes ∧ (s.wrQueue q x).bankA = s.bankA ∧ (s.wrQueue q x).bankB = s.bankB ∧
    (s.wrQueue q x).planCopy = s.planCopy ∧ (s.wrQueue q x).fallback = s.fallback ∧ (s.wrQueue q x).loading = s.loading ∧
    (s.wrQueue q x).progs = s.progs ∧ (s.wrQueue q x).runs = s.runs ∧ (s.wrQueue q x).cutoffs = s.cutoffs ∧
    (s.wrQueue q x).safes = s.safes ∧ (s.wrQueue q x).calls = s.calls ∧ (s.wrQueue q x).diag = s.diag ∧
    (s.wrQueue q x).images = s.images ∧ (s.wrQueue q x).chunks = s.chunks ∧ (s.wrQueue q x).flash = s.flash ∧
    (s.wrQueue q x).newSet = s.newSet ∧ (s.wrQueue q x).tags = s.tags ∧ (s.wrQueue q x).deferred = s.deferred ∧
    (s.wrQueue q x).gateway = s.gateway ∧ (s.wrQueue q x).wire = s.wire ∧ (s.wrQueue q x).delays = s.delays ∧
    (s.wrQueue q x).traceBuf = s.traceBuf ∧ (s.wrQueue q x).traceOut = s.traceOut ∧ (s.wrQueue q x).freeCtr = s.freeCtr ∧ (s.wrQueue q x).was = s.was ∧
    (s.wrQueue q x).pending = s.pending :=
  by repeat' constructor

/-- `wrPlanner` changes `planners` alone. -/
@[simp] theorem State.wrPlanner_fields (s : State) (n : Nat) (p : Planner) :
    (s.wrPlanner n p).regs = s.regs ∧ (s.wrPlanner n p).ledger = s.ledger ∧ (s.wrPlanner n p).staged = s.staged ∧
    (s.wrPlanner n p).queues = s.queues ∧ (s.wrPlanner n p).log = s.log ∧ (s.wrPlanner n p).opens = s.opens ∧
    (s.wrPlanner n p).shadows = s.shadows ∧ (s.wrPlanner n p).fresh = s.fresh ∧ (s.wrPlanner n p).freshAt = s.freshAt ∧
    (s.wrPlanner n p).streams = s.streams ∧ (s.wrPlanner n p).slopes = s.slopes ∧ (s.wrPlanner n p).bankA = s.bankA ∧
    (s.wrPlanner n p).bankB = s.bankB ∧ (s.wrPlanner n p).planCopy = s.planCopy ∧ (s.wrPlanner n p).fallback = s.fallback ∧
    (s.wrPlanner n p).loading = s.loading ∧ (s.wrPlanner n p).progs = s.progs ∧ (s.wrPlanner n p).runs = s.runs ∧
    (s.wrPlanner n p).cutoffs = s.cutoffs ∧ (s.wrPlanner n p).safes = s.safes ∧ (s.wrPlanner n p).calls = s.calls ∧
    (s.wrPlanner n p).diag = s.diag ∧ (s.wrPlanner n p).images = s.images ∧ (s.wrPlanner n p).chunks = s.chunks ∧
    (s.wrPlanner n p).flash = s.flash ∧ (s.wrPlanner n p).newSet = s.newSet ∧ (s.wrPlanner n p).tags = s.tags ∧
    (s.wrPlanner n p).deferred = s.deferred ∧ (s.wrPlanner n p).gateway = s.gateway ∧ (s.wrPlanner n p).wire = s.wire ∧
    (s.wrPlanner n p).delays = s.delays ∧ (s.wrPlanner n p).traceBuf = s.traceBuf ∧ (s.wrPlanner n p).traceOut = s.traceOut ∧
    (s.wrPlanner n p).freeCtr = s.freeCtr ∧ (s.wrPlanner n p).was = s.was ∧ (s.wrPlanner n p).pending = s.pending :=
  by repeat' constructor

/-- `setOpen` changes `opens` alone. -/
@[simp] theorem State.setOpen_fields (s : State) (b : Nat) (o : Option OpenRec) :
    (s.setOpen b o).regs = s.regs ∧ (s.setOpen b o).ledger = s.ledger ∧ (s.setOpen b o).staged = s.staged ∧
    (s.setOpen b o).queues = s.queues ∧ (s.setOpen b o).log = s.log ∧ (s.setOpen b o).shadows = s.shadows ∧
    (s.setOpen b o).fresh = s.fresh ∧ (s.setOpen b o).freshAt = s.freshAt ∧ (s.setOpen b o).planners = s.planners ∧
    (s.setOpen b o).streams = s.streams ∧ (s.setOpen b o).slopes = s.slopes ∧ (s.setOpen b o).bankA = s.bankA ∧
    (s.setOpen b o).bankB = s.bankB ∧ (s.setOpen b o).planCopy = s.planCopy ∧ (s.setOpen b o).fallback = s.fallback ∧
    (s.setOpen b o).loading = s.loading ∧ (s.setOpen b o).progs = s.progs ∧ (s.setOpen b o).runs = s.runs ∧
    (s.setOpen b o).cutoffs = s.cutoffs ∧ (s.setOpen b o).safes = s.safes ∧ (s.setOpen b o).calls = s.calls ∧
    (s.setOpen b o).diag = s.diag ∧ (s.setOpen b o).images = s.images ∧ (s.setOpen b o).chunks = s.chunks ∧
    (s.setOpen b o).flash = s.flash ∧ (s.setOpen b o).newSet = s.newSet ∧ (s.setOpen b o).tags = s.tags ∧
    (s.setOpen b o).deferred = s.deferred ∧ (s.setOpen b o).gateway = s.gateway ∧ (s.setOpen b o).wire = s.wire ∧
    (s.setOpen b o).delays = s.delays ∧ (s.setOpen b o).traceBuf = s.traceBuf ∧ (s.setOpen b o).traceOut = s.traceOut ∧
    (s.setOpen b o).freeCtr = s.freeCtr ∧ (s.setOpen b o).was = s.was ∧ (s.setOpen b o).pending = s.pending :=
  by repeat' constructor

/-- `setDiag` changes `diag` alone. -/
@[simp] theorem State.setDiag_fields (s : State) (k : Nat) (l : List Nat) :
    (s.setDiag k l).regs = s.regs ∧ (s.setDiag k l).ledger = s.ledger ∧ (s.setDiag k l).staged = s.staged ∧
    (s.setDiag k l).queues = s.queues ∧ (s.setDiag k l).log = s.log ∧ (s.setDiag k l).opens = s.opens ∧
    (s.setDiag k l).shadows = s.shadows ∧ (s.setDiag k l).fresh = s.fresh ∧ (s.setDiag k l).freshAt = s.freshAt ∧
    (s.setDiag k l).planners = s.planners ∧ (s.setDiag k l).streams = s.streams ∧ (s.setDiag k l).slopes = s.slopes ∧
    (s.setDiag k l).bankA = s.bankA ∧ (s.setDiag k l).bankB = s.bankB ∧ (s.setDiag k l).planCopy = s.planCopy ∧
    (s.setDiag k l).fallback = s.fallback ∧ (s.setDiag k l).loading = s.loading ∧ (s.setDiag k l).progs = s.progs ∧
    (s.setDiag k l).runs = s.runs ∧ (s.setDiag k l).cutoffs = s.cutoffs ∧ (s.setDiag k l).safes = s.safes ∧
    (s.setDiag k l).calls = s.calls ∧ (s.setDiag k l).images = s.images ∧ (s.setDiag k l).chunks = s.chunks ∧
    (s.setDiag k l).flash = s.flash ∧ (s.setDiag k l).newSet = s.newSet ∧ (s.setDiag k l).tags = s.tags ∧
    (s.setDiag k l).deferred = s.deferred ∧ (s.setDiag k l).gateway = s.gateway ∧ (s.setDiag k l).wire = s.wire ∧
    (s.setDiag k l).delays = s.delays ∧ (s.setDiag k l).traceBuf = s.traceBuf ∧ (s.setDiag k l).traceOut = s.traceOut ∧
    (s.setDiag k l).freeCtr = s.freeCtr ∧ (s.setDiag k l).was = s.was ∧ (s.setDiag k l).pending = s.pending :=
  by repeat' constructor

/-- `setRun` changes `runs` alone. -/
@[simp] theorem State.setRun_fields (s : State) (u : RunUnit) (r : Option Run) :
    (s.setRun u r).regs = s.regs ∧ (s.setRun u r).ledger = s.ledger ∧ (s.setRun u r).staged = s.staged ∧
    (s.setRun u r).queues = s.queues ∧ (s.setRun u r).log = s.log ∧ (s.setRun u r).opens = s.opens ∧ (s.setRun u r).shadows = s.shadows ∧
    (s.setRun u r).fresh = s.fresh ∧ (s.setRun u r).freshAt = s.freshAt ∧ (s.setRun u r).planners = s.planners ∧
    (s.setRun u r).streams = s.streams ∧ (s.setRun u r).slopes = s.slopes ∧ (s.setRun u r).bankA = s.bankA ∧
    (s.setRun u r).bankB = s.bankB ∧ (s.setRun u r).planCopy = s.planCopy ∧ (s.setRun u r).fallback = s.fallback ∧
    (s.setRun u r).loading = s.loading ∧ (s.setRun u r).progs = s.progs ∧ (s.setRun u r).cutoffs = s.cutoffs ∧
    (s.setRun u r).safes = s.safes ∧ (s.setRun u r).calls = s.calls ∧ (s.setRun u r).diag = s.diag ∧ (s.setRun u r).images = s.images ∧
    (s.setRun u r).chunks = s.chunks ∧ (s.setRun u r).flash = s.flash ∧ (s.setRun u r).newSet = s.newSet ∧ (s.setRun u r).tags = s.tags ∧
    (s.setRun u r).deferred = s.deferred ∧ (s.setRun u r).gateway = s.gateway ∧ (s.setRun u r).wire = s.wire ∧
    (s.setRun u r).delays = s.delays ∧ (s.setRun u r).traceBuf = s.traceBuf ∧ (s.setRun u r).traceOut = s.traceOut ∧
    (s.setRun u r).freeCtr = s.freeCtr ∧ (s.setRun u r).was = s.was ∧ (s.setRun u r).pending = s.pending :=
  by repeat' constructor

/-- `wrFlash` changes `flash` alone. -/
@[simp] theorem State.wrFlash_fields (s : State) (b : Nat) (x : FlashSet) :
    (s.wrFlash b x).regs = s.regs ∧ (s.wrFlash b x).ledger = s.ledger ∧ (s.wrFlash b x).staged = s.staged ∧
    (s.wrFlash b x).queues = s.queues ∧ (s.wrFlash b x).log = s.log ∧ (s.wrFlash b x).opens = s.opens ∧
    (s.wrFlash b x).shadows = s.shadows ∧ (s.wrFlash b x).fresh = s.fresh ∧ (s.wrFlash b x).freshAt = s.freshAt ∧
    (s.wrFlash b x).planners = s.planners ∧ (s.wrFlash b x).streams = s.streams ∧ (s.wrFlash b x).slopes = s.slopes ∧
    (s.wrFlash b x).bankA = s.bankA ∧ (s.wrFlash b x).bankB = s.bankB ∧ (s.wrFlash b x).planCopy = s.planCopy ∧
    (s.wrFlash b x).fallback = s.fallback ∧ (s.wrFlash b x).loading = s.loading ∧ (s.wrFlash b x).progs = s.progs ∧
    (s.wrFlash b x).runs = s.runs ∧ (s.wrFlash b x).cutoffs = s.cutoffs ∧ (s.wrFlash b x).safes = s.safes ∧
    (s.wrFlash b x).calls = s.calls ∧ (s.wrFlash b x).diag = s.diag ∧ (s.wrFlash b x).images = s.images ∧
    (s.wrFlash b x).chunks = s.chunks ∧ (s.wrFlash b x).newSet = s.newSet ∧ (s.wrFlash b x).tags = s.tags ∧
    (s.wrFlash b x).deferred = s.deferred ∧ (s.wrFlash b x).gateway = s.gateway ∧ (s.wrFlash b x).wire = s.wire ∧
    (s.wrFlash b x).delays = s.delays ∧ (s.wrFlash b x).traceBuf = s.traceBuf ∧ (s.wrFlash b x).traceOut = s.traceOut ∧
    (s.wrFlash b x).freeCtr = s.freeCtr ∧ (s.wrFlash b x).was = s.was ∧ (s.wrFlash b x).pending = s.pending :=
  by repeat' constructor

/-- `draw` changes `freeCtr` alone. -/
@[simp] theorem State.draw_fields (s : State) (w : Nat) :
    ((s.draw w).2).regs = s.regs ∧ ((s.draw w).2).ledger = s.ledger ∧ ((s.draw w).2).staged = s.staged ∧
    ((s.draw w).2).queues = s.queues ∧ ((s.draw w).2).log = s.log ∧ ((s.draw w).2).opens = s.opens ∧ ((s.draw w).2).shadows = s.shadows ∧
    ((s.draw w).2).fresh = s.fresh ∧ ((s.draw w).2).freshAt = s.freshAt ∧ ((s.draw w).2).planners = s.planners ∧
    ((s.draw w).2).streams = s.streams ∧ ((s.draw w).2).slopes = s.slopes ∧ ((s.draw w).2).bankA = s.bankA ∧
    ((s.draw w).2).bankB = s.bankB ∧ ((s.draw w).2).planCopy = s.planCopy ∧ ((s.draw w).2).fallback = s.fallback ∧
    ((s.draw w).2).loading = s.loading ∧ ((s.draw w).2).progs = s.progs ∧ ((s.draw w).2).runs = s.runs ∧
    ((s.draw w).2).cutoffs = s.cutoffs ∧ ((s.draw w).2).safes = s.safes ∧ ((s.draw w).2).calls = s.calls ∧ ((s.draw w).2).diag = s.diag ∧
    ((s.draw w).2).images = s.images ∧ ((s.draw w).2).chunks = s.chunks ∧ ((s.draw w).2).flash = s.flash ∧
    ((s.draw w).2).newSet = s.newSet ∧ ((s.draw w).2).tags = s.tags ∧ ((s.draw w).2).deferred = s.deferred ∧
    ((s.draw w).2).gateway = s.gateway ∧ ((s.draw w).2).wire = s.wire ∧ ((s.draw w).2).delays = s.delays ∧
    ((s.draw w).2).traceBuf = s.traceBuf ∧ ((s.draw w).2).traceOut = s.traceOut ∧ ((s.draw w).2).pending = s.pending :=
  by repeat' constructor

end Sys2Proof.Machine
end

