-- ==== Sys2Proof/Laws/Tables.lean ====
section
/-! SUPPORT. Laws of the sparse tables: a read after a write, and the canonical form that every table operation keeps. -/
namespace Sys2Proof.Machine

-- reading

theorem tget_filter {α : Type} (d : α) (l : Tbl α) (k j : Nat) :
    tget d (l.filter (fun p => p.1 ≠ k)) j = if j = k then d else tget d l j := by
  induction l with
  | nil => simp [tget]
  | cons p l ih =>
    by_cases h : p.1 = k
    · by_cases hj : j = k <;> simp_all [tget]
      intro h2; exact absurd h2.symm hj
    · by_cases hj : j = k <;> simp_all [tget]

theorem tget_tins {α : Type} (d : α) (l : Tbl α) (k : Nat) (v : α) (h : ∀ p ∈ l, p.1 ≠ k) (j : Nat) :
    tget d (tins k v l) j = if j = k then v else tget d l j := by
  induction l with
  | nil => simp [tget, tins, eq_comm]
  | cons p l ih =>
    have hp := h p (by simp)
    have ih := ih (fun q hq => h q (by simp [hq]))
    unfold tins
    split
    · simp only [tget, eq_comm]
    · by_cases h1 : p.1 = j
      · subst h1; simp [tget, hp]
      · simp [tget, h1, ih]

/-- A table read after a write: the value written at its key, every other key as before. -/
theorem tget_tset {α : Type} [DecidableEq α] (d : α) (l : Tbl α) (k : Nat) (v : α) (j : Nat) :
    tget d (tset d l k v) j = if j = k then v else tget d l j := by
  have hf : ∀ p ∈ l.filter (fun p => decide (p.1 ≠ k)), p.1 ≠ k := fun p hp => by simpa using (List.mem_filter.mp hp).2
  unfold tset
  split
  · rw [tget_filter]; split <;> simp_all
  · rw [tget_tins d _ k v hf, tget_filter]; split <;> simp_all

/-- Another key read after a write, whatever the reader's default. -/
theorem tget_tset_ne {α : Type} [DecidableEq α] (d e : α) (l : Tbl α) (k : Nat) (v : α) (j : Nat) (h : j ≠ k) :
    tget e (tset d l k v) j = tget e l j := by
  have hf : ∀ p ∈ l.filter (fun p => decide (p.1 ≠ k)), p.1 ≠ k := fun p hp => by simpa using (List.mem_filter.mp hp).2
  unfold tset
  split
  · rw [tget_filter, if_neg h]
  · rw [tget_tins e _ k v hf, tget_filter, if_neg h, if_neg h]

-- the canonical form

/-- Keys strictly rising. -/
abbrev Rising {α : Type} (l : Tbl α) : Prop := l.Pairwise (fun p q => p.1 < q.1)

theorem Rising.filter {α : Type} {l : Tbl α} (h : Rising l) (f : Nat × α → Bool) : Rising (l.filter f) := List.Pairwise.filter f h

theorem mem_tins {α : Type} {k : Nat} {v : α} {l : Tbl α} {q : Nat × α} (h : q ∈ tins k v l) : q = (k, v) ∨ q ∈ l := by
  induction l with
  | nil => simpa [tins] using h
  | cons p l ih =>
    unfold tins at h
    split at h
    · simpa using h
    · rcases List.mem_cons.mp h with rfl | h
      · simp
      · rcases ih h with h | h <;> simp [h]

theorem Rising.tins {α : Type} {l : Tbl α} {k : Nat} {v : α} (h : Rising l) (hk : ∀ p ∈ l, p.1 ≠ k) : Rising (tins k v l) := by
  induction l with
  | nil => simp [Machine.tins, Rising]
  | cons p l ih =>
    have hp := List.pairwise_cons.mp h
    unfold Machine.tins
    split
    · refine List.pairwise_cons.mpr ⟨fun q hq => ?_, h⟩
      rcases List.mem_cons.mp hq with rfl | hq
      · assumption
      · exact Nat.lt_trans ‹_› (hp.1 q hq)
    · refine List.pairwise_cons.mpr ⟨fun q hq => ?_, ih hp.2 (fun q hq => hk q (by simp [hq]))⟩
      have hpk := hk p (by simp)
      rcases mem_tins hq with rfl | hq
      · show p.1 < k; omega
      · exact hp.1 q hq

/-- A write keeps the keys of a table rising. -/
theorem Rising.tset {α : Type} [DecidableEq α] {d : α} {l : Tbl α} {k : Nat} {v : α} (h : Rising l) : Rising (tset d l k v) := by
  unfold Machine.tset
  split
  · exact h.filter _
  · exact (h.filter _).tins (fun p hp => by simpa using (List.mem_filter.mp hp).2)

theorem Rising.tmap {α : Type} [DecidableEq α] {d : α} {f : Nat → α → α} {l : Tbl α} (h : Rising l) : Rising (tmap d f l) := by
  unfold Machine.tmap
  exact List.Pairwise.filter _ (List.pairwise_map.mpr h)

/-- No entry equal to what an unlisted key reads. -/
theorem noDflt_tset {α : Type} [DecidableEq α] {d : α} {l : Tbl α} {k : Nat} {v : α} (h : ∀ p ∈ l, p.2 ≠ d) :
    ∀ p ∈ tset d l k v, p.2 ≠ d := by
  intro p hp
  unfold tset at hp
  split at hp
  · exact h p (List.mem_filter.mp hp).1
  · rcases mem_tins hp with rfl | hp
    · assumption
    · exact h p (List.mem_filter.mp hp).1

/-- Writing a table keeps it canonical. -/
theorem Tbl.wf_tset {α : Type} [DecidableEq α] {d : α} {l : Tbl α} {k : Nat} {v : α} (h : Tbl.wf d l = true) :
    Tbl.wf d (tset d l k v) = true := by
  simp only [Tbl.wf, Bool.and_eq_true, decide_eq_true_eq, List.all_eq_true] at h ⊢
  exact ⟨Rising.tset h.1, noDflt_tset h.2⟩

theorem Tbl.wf_filter {α : Type} [DecidableEq α] {d : α} {l : Tbl α} {f : Nat × α → Bool} (h : Tbl.wf d l = true) :
    Tbl.wf d (l.filter f) = true := by
  simp only [Tbl.wf, Bool.and_eq_true, decide_eq_true_eq, List.all_eq_true] at h ⊢
  exact ⟨Rising.filter h.1 f, fun p hp => h.2 p (List.mem_filter.mp hp).1⟩

theorem Tbl.wf_tmap {α : Type} [DecidableEq α] {d : α} {f : Nat → α → α} {l : Tbl α} (h : Tbl.wf d l = true) :
    Tbl.wf d (tmap d f l) = true := by
  simp only [Tbl.wf, Bool.and_eq_true, decide_eq_true_eq, List.all_eq_true] at h ⊢
  refine ⟨Rising.tmap h.1, fun p hp => ?_⟩
  have := (List.mem_filter.mp hp).2
  simpa using this

theorem Tbl.wf_nil {α : Type} [DecidableEq α] {d : α} : Tbl.wf d ([] : Tbl α) = true := rfl

end Sys2Proof.Machine
end

