-- ==== Sys2Proof/Laws/Ops.lean ====
section
/-! SUPPORT. Laws of the register file and of the ledger: a read after a write, and what a change of another field leaves. -/
namespace Sys2Proof.Machine

theorem Reg.ctorIdx_lt (r : Reg) : r.ctorIdx < 2048 := by cases r <;> decide

theorem Reg.ctorIdx_inj {r q : Reg} (h : r.ctorIdx = q.ctorIdx) : r = q := by
  rw [← Reg.ofNat_ctorIdx r, h, Reg.ofNat_ctorIdx]

/-- Two registers with one key are the same register. -/
theorem Reg.key_inj {r q : Reg} {i j : Nat} : r.key i = q.key j ↔ r = q ∧ i = j := by
  constructor
  · intro h
    have h1 := r.ctorIdx_lt
    have h2 := q.ctorIdx_lt
    unfold Reg.key at h
    exact ⟨Reg.ctorIdx_inj (by omega), by omega⟩
  · rintro ⟨rfl, rfl⟩; rfl

/-- A register read after a register is written. -/
theorem State.rd_wr (s : State) (r : Reg) (i : Nat) (v : Int) (q : Reg) (j : Nat) :
    (s.wr r i v).rd q j = if q = r ∧ j = i then v else s.rd q j := by
  unfold State.rd State.wr
  split
  · rename_i h; obtain ⟨rfl, rfl⟩ := h; simp [tget_tset]
  · rename_i h; exact tget_tset_ne _ _ _ _ _ _ (fun e => h (Reg.key_inj.mp e))

/-- Every register holds its reset value after reset. -/
@[simp] theorem State.rd_reset (r : Reg) (i : Nat) : State.reset.rd r i = r.dflt i := rfl

/-- A register read where only other fields have changed. -/
@[simp] theorem State.rd_regs (s : State) (ledger staged queues log opens shadows fresh freshAt planners streams slopes bankA bankB planCopy
    fallback loading progs runs cutoffs safes calls diag images chunks flash newSet tags deferred gateway wire delays traceBuf traceOut
    freeCtr was pending) (r : Reg) (i : Nat) :
    State.rd ⟨s.regs, ledger, staged, queues, log, opens, shadows, fresh, freshAt, planners, streams, slopes, bankA, bankB, planCopy,
      fallback, loading, progs, runs, cutoffs, safes, calls, diag, images, chunks, flash, newSet, tags, deferred, gateway, wire, delays,
      traceBuf, traceOut, freeCtr, was, pending⟩ r i = s.rd r i := rfl

theorem State.rd_congr {s t : State} (h : s.regs = t.regs) (r : Reg) (i : Nat) : s.rd r i = t.rd r i := by simp [State.rd, h]

@[simp] theorem State.rd_draw (s : State) (w : Nat) (r : Reg) (i : Nat) : (s.draw w).2.rd r i = s.rd r i := rfl
@[simp] theorem State.rd_wrLed (s : State) (n w : Nat) (v : Word64) (r : Reg) (i : Nat) : (s.wrLed n w v).rd r i = s.rd r i := rfl
@[simp] theorem State.rd_wrQueue (s : State) (q : Nat) (x : Queue) (r : Reg) (i : Nat) : (s.wrQueue q x).rd r i = s.rd r i := rfl
@[simp] theorem State.rd_wrPlanner (s : State) (n : Nat) (p : Planner) (r : Reg) (i : Nat) : (s.wrPlanner n p).rd r i = s.rd r i := rfl
@[simp] theorem State.rd_setOpen (s : State) (b : Nat) (o : Option OpenRec) (r : Reg) (i : Nat) : (s.setOpen b o).rd r i = s.rd r i := rfl
@[simp] theorem State.rd_setRun (s : State) (u : RunUnit) (x : Option Run) (r : Reg) (i : Nat) : (s.setRun u x).rd r i = s.rd r i := rfl

theorem State.rdN_eq (s : State) (r : Reg) (i : Nat) : s.rdN r i = (s.rd r i).toNat := rfl

/-- A ledger word read after a ledger word is written. -/
theorem State.led_wrLed (s : State) (n w m x : Nat) (v : Word64) (hw : w < 64) (hx : x < 64) :
    (s.wrLed n w v).led m x = if m = n ∧ x = w then v else s.led m x := by
  have h : 64 * m + x = 64 * n + w ↔ m = n ∧ x = w := by constructor <;> intro h <;> omega
  simp only [State.led, State.wrLed, tget_tset, h]

theorem State.queue_wrQueue (s : State) (q p : Nat) (x : Queue) : (s.wrQueue q x).queue p = if p = q then x else s.queue p := by
  simp [State.queue, State.wrQueue, tget_tset]

theorem State.planner_wrPlanner (s : State) (n m : Nat) (x : Planner) :
    (s.wrPlanner n x).planner m = if m = n then x else s.planner m := by
  simp [State.planner, State.wrPlanner, tget_tset]

end Sys2Proof.Machine
end

