-- ==== Sys2Proof/Laws/Keeps.lean ====
section
/-! SUPPORT. What an operation leaves: `Keeps m s t` says that between `s` and `t` only what the mask `m` allows has changed, that the same
commands wait, and that the canonical form is kept. One lemma per elementary update here; one per operation in the Keeps files that follow,
each with the mask of what that operation may change. Bit `ctorIdx r` of a mask stands for the register `r`, bit 2001 + k for field k. -/
namespace Sys2Proof.Machine

/-- The mask of one register. -/
def may (r : Reg) : Nat := 2 ^ r.ctorIdx

theorem keyReg_key (r : Reg) (i : Nat) : keyReg (r.key i) = (r, i) := by
  have h := r.ctorIdx_lt
  unfold keyReg Reg.key
  rw [show (i * 2048 + r.ctorIdx) % 2048 = r.ctorIdx by omega, show (i * 2048 + r.ctorIdx) / 2048 = i by omega, Reg.ofNat_ctorIdx]

theorem regsWf_filter {l : Tbl Int} {f : Nat × Int → Bool} (h : regsWf l = true) : regsWf (l.filter f) = true := by
  simp only [regsWf, Bool.and_eq_true, decide_eq_true_eq, List.all_eq_true] at h ⊢
  exact ⟨Rising.filter h.1 f, fun p hp => h.2 p (List.mem_filter.mp hp).1⟩

theorem regsWf_tset {l : Tbl Int} {r : Reg} {i : Nat} {v : Int} (h : regsWf l = true) :
    regsWf (tset (r.dflt i) l (r.key i) v) = true := by
  simp only [regsWf, Bool.and_eq_true, decide_eq_true_eq, List.all_eq_true] at h ⊢
  refine ⟨Rising.tset h.1, fun p hp => ?_⟩
  unfold tset at hp
  split at hp
  · exact h.2 p (List.mem_filter.mp hp).1
  · rcases mem_tins hp with rfl | hp
    · simpa [keyReg_key] using ‹¬ v = r.dflt i›
    · exact h.2 p (List.mem_filter.mp hp).1

abbrev may_ledger : Nat := 2 ^ 2001
abbrev may_staged : Nat := 2 ^ 2002
abbrev may_queues : Nat := 2 ^ 2003
abbrev may_log : Nat := 2 ^ 2004
abbrev may_opens : Nat := 2 ^ 2005
abbrev may_shadows : Nat := 2 ^ 2006
abbrev may_fresh : Nat := 2 ^ 2007
abbrev may_freshAt : Nat := 2 ^ 2008
abbrev may_planners : Nat := 2 ^ 2009
abbrev may_streams : Nat := 2 ^ 2010
abbrev may_slopes : Nat := 2 ^ 2011
abbrev may_bankA : Nat := 2 ^ 2012
abbrev may_bankB : Nat := 2 ^ 2013
abbrev may_planCopy : Nat := 2 ^ 2014
abbrev may_fallback : Nat := 2 ^ 2015
abbrev may_loading : Nat := 2 ^ 2016
abbrev may_progs : Nat := 2 ^ 2017
abbrev may_runs : Nat := 2 ^ 2018
abbrev may_cutoffs : Nat := 2 ^ 2019
abbrev may_safes : Nat := 2 ^ 2020
abbrev may_calls : Nat := 2 ^ 2021
abbrev may_diag : Nat := 2 ^ 2022
abbrev may_images : Nat := 2 ^ 2023
abbrev may_chunks : Nat := 2 ^ 2024
abbrev may_flash : Nat := 2 ^ 2025
abbrev may_newSet : Nat := 2 ^ 2026
abbrev may_tags : Nat := 2 ^ 2027
abbrev may_deferred : Nat := 2 ^ 2028
abbrev may_gateway : Nat := 2 ^ 2029
abbrev may_wire : Nat := 2 ^ 2030
abbrev may_delays : Nat := 2 ^ 2031
abbrev may_traceBuf : Nat := 2 ^ 2032
abbrev may_traceOut : Nat := 2 ^ 2033
abbrev may_freeCtr : Nat := 2 ^ 2034
abbrev may_was : Nat := 2 ^ 2035

/-- Only what `m` allows differs between `s` and `t`. -/
structure Keeps (m : Nat) (s t : State) : Prop where
  pend : t.pending = s.pending
  can : s.Canonical → t.Canonical
  rd : ∀ r i, m.testBit r.ctorIdx = false → t.rd r i = s.rd r i
  ledger : m.testBit 2001 = false → t.ledger = s.ledger
  staged : m.testBit 2002 = false → t.staged = s.staged
  queues : m.testBit 2003 = false → t.queues = s.queues
  log : m.testBit 2004 = false → t.log = s.log
  opens : m.testBit 2005 = false → t.opens = s.opens
  shadows : m.testBit 2006 = false → t.shadows = s.shadows
  fresh : m.testBit 2007 = false → t.fresh = s.fresh
  freshAt : m.testBit 2008 = false → t.freshAt = s.freshAt
  planners : m.testBit 2009 = false → t.planners = s.planners
  streams : m.testBit 2010 = false → t.streams = s.streams
  slopes : m.testBit 2011 = false → t.slopes = s.slopes
  bankA : m.testBit 2012 = false → t.bankA = s.bankA
  bankB : m.testBit 2013 = false → t.bankB = s.bankB
  planCopy : m.testBit 2014 = false → t.planCopy = s.planCopy
  fallback : m.testBit 2015 = false → t.fallback = s.fallback
  loading : m.testBit 2016 = false → t.loading = s.loading
  progs : m.testBit 2017 = false → t.progs = s.progs
  runs : m.testBit 2018 = false → t.runs = s.runs
  cutoffs : m.testBit 2019 = false → t.cutoffs = s.cutoffs
  safes : m.testBit 2020 = false → t.safes = s.safes
  calls : m.testBit 2021 = false → t.calls = s.calls
  diag : m.testBit 2022 = false → t.diag = s.diag
  images : m.testBit 2023 = false → t.images = s.images
  chunks : m.testBit 2024 = false → t.chunks = s.chunks
  flash : m.testBit 2025 = false → t.flash = s.flash
  newSet : m.testBit 2026 = false → t.newSet = s.newSet
  tags : m.testBit 2027 = false → t.tags = s.tags
  deferred : m.testBit 2028 = false → t.deferred = s.deferred
  gateway : m.testBit 2029 = false → t.gateway = s.gateway
  wire : m.testBit 2030 = false → t.wire = s.wire
  delays : m.testBit 2031 = false → t.delays = s.delays
  traceBuf : m.testBit 2032 = false → t.traceBuf = s.traceBuf
  traceOut : m.testBit 2033 = false → t.traceOut = s.traceOut
  freeCtr : m.testBit 2034 = false → t.freeCtr = s.freeCtr
  was : m.testBit 2035 = false → t.was = s.was

/-- The same of a command: of its next state. -/
structure KeepsO (m : Nat) (s : State) (o : Host.Outcome State Fault Refusal) : Prop where
  next : ∀ t, o = .next t → Keeps m s t

-- masks

theorem may_trans {a b m : Nat} (h : b &&& m = b) (e : a &&& b = a) : a &&& m = a := by rw [← e, Nat.and_assoc, h]
/-- Every register. -/
def mayAll : Nat := 2 ^ 2001 - 1
theorem may_reg (r : Reg) : may r &&& mayAll = may r := by
  have h : r.ctorIdx < 2001 := Nat.lt_trans (m := 1500) (by cases r <;> decide) (by decide)
  rw [mayAll, Nat.and_two_pow_sub_one_eq_mod, may]
  exact Nat.mod_eq_of_lt (Nat.pow_lt_pow_right (by decide) h)
theorem may_self {a : Nat} : a &&& a = a := Nat.and_self a
theorem may_bit {m k : Nat} (h : 2 ^ k &&& m = 2 ^ k) : m.testBit k = true := by
  have := congrArg (fun x => x.testBit k) h
  simpa using this

-- how a goal is taken apart

theorem keepsO_next {m : Nat} {s0 : State} {s : State} (h : Keeps m s0 s) : KeepsO m s0 (.next s) := ⟨by intro t e; cases e; exact h⟩
theorem keepsO_fault {m : Nat} {s0 : State} {f : Fault} : KeepsO m s0 (.fault f) := ⟨by intro t e; cases e⟩
theorem keepsO_ite {m : Nat} {s0 : State} {c : Prop} [Decidable c] {a b : Host.Outcome State Fault Refusal} (ha : KeepsO m s0 a) (hb : KeepsO m s0 b) :
    KeepsO m s0 (if c then a else b) := by split <;> assumption
/-- A state on the way is good, and what follows may use it. -/
theorem keeps_cut {m : Nat} {s0 : State} {x : State} {G : Prop} (h : Keeps m s0 x) (g : Keeps m s0 x → G) : G := g h

theorem keeps_ite {m : Nat} {s0 : State} {c : Prop} [Decidable c] {a b : State} (ha : Keeps m s0 a) (hb : Keeps m s0 b) :
    Keeps m s0 (if c then a else b) := by split <;> assumption
theorem keeps_ite1 {α : Type} {m : Nat} {s0 : State} {c : Prop} [Decidable c] {a b : State × α} (ha : Keeps m s0 a.1) (hb : Keeps m s0 b.1) :
    Keeps m s0 (if c then a else b).1 := by split <;> assumption
theorem keeps_ite2 {α : Type} {m : Nat} {s0 : State} {c : Prop} [Decidable c] {a b : α × State} (ha : Keeps m s0 a.2) (hb : Keeps m s0 b.2) :
    Keeps m s0 (if c then a else b).2 := by split <;> assumption
theorem keeps_iff {m : Nat} {s0 : State} {s : State} {c : Bool} {f : State → State} (h : Keeps m s0 s) (hf : ∀ s, Keeps m s0 s → Keeps m s0 (f s)) :
    Keeps m s0 (s.iff c f) := by unfold State.iff; split <;> simp [*]
theorem keeps_foldl {α : Type} {m : Nat} {s0 : State} {l : List α} {f : State → α → State} {s : State} (h : Keeps m s0 s)
    (hf : ∀ s a, Keeps m s0 s → Keeps m s0 (f s a)) : Keeps m s0 (l.foldl f s) := by
  induction l generalizing s with
  | nil => exact h
  | cons a l ih => exact ih (hf s a h)
theorem keeps_forList {m : Nat} {s0 : State} {l : List Nat} {f : State → Nat → State} {s : State} (h : Keeps m s0 s)
    (hf : ∀ s a, Keeps m s0 s → Keeps m s0 (f s a)) : Keeps m s0 (s.forList l f) := keeps_foldl h hf
theorem keeps_forAll {m : Nat} {s0 : State} {n : Nat} {f : State → Nat → State} {s : State} (h : Keeps m s0 s)
    (hf : ∀ s a, Keeps m s0 s → Keeps m s0 (f s a)) : Keeps m s0 (s.forAll n f) := keeps_foldl h hf
/-- The state of a pair that a match has taken apart. -/
theorem keeps_fst {α : Type} {m : Nat} {s0 : State} {x : State × α} {s : State} {a : α} (e : x = (s, a)) (h : Keeps m s0 x.1) : Keeps m s0 s := by
  subst e; exact h
theorem keeps_snd {α : Type} {m : Nat} {s0 : State} {x : α × State} {s : State} {a : α} (e : x = (a, s)) (h : Keeps m s0 x.2) : Keeps m s0 s := by
  subst e; exact h

theorem reset_canonical : State.reset.Canonical := by
  constructor <;> first | rfl | exact Nat.zero_le _ | (intro p hp; cases hp)

theorem keeps_refl (m : Nat) (s : State) : Keeps m s s := by constructor <;> intros <;> first | rfl | assumption

-- elementary updates

theorem keeps_ledger {m : Nat} {s0 s : State} (h : Keeps m s0 s) {x} (hm : may_ledger &&& m = may_ledger) (hx : s0.Canonical → Tbl.wf 0
    x = true) :
    Keeps m s0 { s with ledger := x } :=
  ⟨h.pend, fun c0 => let c := h.can c0; ⟨c.regs, hx c0, c.staged, c.queues, c.opens, c.fresh, c.planners, c.streams, c.slopes, c.runs,
    c.cutoffs, c.calls, c.diag, c.images, c.flash, c.tags, c.gateway, c.wire, c.delays, c.log, c.traceBuf, c.each, c.wasRegs,
    c.wasLedger⟩, h.rd, fun e => absurd ((may_bit hm).symm.trans e) Bool.noConfusion, h.staged, h.queues, h.log, h.opens, h.shadows,
    h.fresh, h.freshAt, h.planners, h.streams, h.slopes, h.bankA, h.bankB, h.planCopy, h.fallback, h.loading, h.progs, h.runs, h.cutoffs,
    h.safes, h.calls, h.diag, h.images, h.chunks, h.flash, h.newSet, h.tags, h.deferred, h.gateway, h.wire, h.delays, h.traceBuf,
    h.traceOut, h.freeCtr, h.was⟩
theorem keeps_staged {m : Nat} {s0 s : State} (h : Keeps m s0 s) {x} (hm : may_staged &&& m = may_staged) (hx : s0.Canonical → Tbl.wf
    none x = true) :
    Keeps m s0 { s with staged := x } :=
  ⟨h.pend, fun c0 => let c := h.can c0; ⟨c.regs, c.ledger, hx c0, c.queues, c.opens, c.fresh, c.planners, c.streams, c.slopes, c.runs,
    c.cutoffs, c.calls, c.diag, c.images, c.flash, c.tags, c.gateway, c.wire, c.delays, c.log, c.traceBuf, c.each, c.wasRegs,
    c.wasLedger⟩, h.rd, h.ledger, fun e => absurd ((may_bit hm).symm.trans e) Bool.noConfusion, h.queues, h.log, h.opens, h.shadows,
    h.fresh, h.freshAt, h.planners, h.streams, h.slopes, h.bankA, h.bankB, h.planCopy, h.fallback, h.loading, h.progs, h.runs, h.cutoffs,
    h.safes, h.calls, h.diag, h.images, h.chunks, h.flash, h.newSet, h.tags, h.deferred, h.gateway, h.wire, h.delays, h.traceBuf,
    h.traceOut, h.freeCtr, h.was⟩
theorem keeps_queues {m : Nat} {s0 s : State} (h : Keeps m s0 s) {x} (hm : may_queues &&& m = may_queues) (hx : s0.Canonical → Tbl.wf
    Queue.empty x = true) :
    Keeps m s0 { s with queues := x } :=
  ⟨h.pend, fun c0 => let c := h.can c0; ⟨c.regs, c.ledger, c.staged, hx c0, c.opens, c.fresh, c.planners, c.streams, c.slopes, c.runs,
    c.cutoffs, c.calls, c.diag, c.images, c.flash, c.tags, c.gateway, c.wire, c.delays, c.log, c.traceBuf, c.each, c.wasRegs,
    c.wasLedger⟩, h.rd, h.ledger, h.staged, fun e => absurd ((may_bit hm).symm.trans e) Bool.noConfusion, h.log, h.opens, h.shadows,
    h.fresh, h.freshAt, h.planners, h.streams, h.slopes, h.bankA, h.bankB, h.planCopy, h.fallback, h.loading, h.progs, h.runs, h.cutoffs,
    h.safes, h.calls, h.diag, h.images, h.chunks, h.flash, h.newSet, h.tags, h.deferred, h.gateway, h.wire, h.delays, h.traceBuf,
    h.traceOut, h.freeCtr, h.was⟩
theorem keeps_log {m : Nat} {s0 s : State} (h : Keeps m s0 s) {x} (hm : may_log &&& m = may_log) (hx : s0.Canonical → x.length ≤ 4096) :
    Keeps m s0 { s with log := x } :=
  ⟨h.pend, fun c0 => let c := h.can c0; ⟨c.regs, c.ledger, c.staged, c.queues, c.opens, c.fresh, c.planners, c.streams, c.slopes,
    c.runs, c.cutoffs, c.calls, c.diag, c.images, c.flash, c.tags, c.gateway, c.wire, c.delays, hx c0, c.traceBuf, c.each, c.wasRegs,
    c.wasLedger⟩, h.rd, h.ledger, h.staged, h.queues, fun e => absurd ((may_bit hm).symm.trans e) Bool.noConfusion, h.opens, h.shadows,
    h.fresh, h.freshAt, h.planners, h.streams, h.slopes, h.bankA, h.bankB, h.planCopy, h.fallback, h.loading, h.progs, h.runs, h.cutoffs,
    h.safes, h.calls, h.diag, h.images, h.chunks, h.flash, h.newSet, h.tags, h.deferred, h.gateway, h.wire, h.delays, h.traceBuf,
    h.traceOut, h.freeCtr, h.was⟩
theorem keeps_opens {m : Nat} {s0 s : State} (h : Keeps m s0 s) {x} (hm : may_opens &&& m = may_opens) (hx : s0.Canonical → Tbl.wf none
    x = true) :
    Keeps m s0 { s with opens := x } :=
  ⟨h.pend, fun c0 => let c := h.can c0; ⟨c.regs, c.ledger, c.staged, c.queues, hx c0, c.fresh, c.planners, c.streams, c.slopes, c.runs,
    c.cutoffs, c.calls, c.diag, c.images, c.flash, c.tags, c.gateway, c.wire, c.delays, c.log, c.traceBuf, c.each, c.wasRegs,
    c.wasLedger⟩, h.rd, h.ledger, h.staged, h.queues, h.log, fun e => absurd ((may_bit hm).symm.trans e) Bool.noConfusion, h.shadows,
    h.fresh, h.freshAt, h.planners, h.streams, h.slopes, h.bankA, h.bankB, h.planCopy, h.fallback, h.loading, h.progs, h.runs, h.cutoffs,
    h.safes, h.calls, h.diag, h.images, h.chunks, h.flash, h.newSet, h.tags, h.deferred, h.gateway, h.wire, h.delays, h.traceBuf,
    h.traceOut, h.freeCtr, h.was⟩
theorem keeps_shadows {m : Nat} {s0 s : State} (h : Keeps m s0 s) {x} (hm : may_shadows &&& m = may_shadows) :
    Keeps m s0 { s with shadows := x } :=
  ⟨h.pend, fun c0 => let c := h.can c0; ⟨c.regs, c.ledger, c.staged, c.queues, c.opens, c.fresh, c.planners, c.streams, c.slopes,
    c.runs, c.cutoffs, c.calls, c.diag, c.images, c.flash, c.tags, c.gateway, c.wire, c.delays, c.log, c.traceBuf, c.each, c.wasRegs,
    c.wasLedger⟩, h.rd, h.ledger, h.staged, h.queues, h.log, h.opens, fun e => absurd ((may_bit hm).symm.trans e) Bool.noConfusion,
    h.fresh, h.freshAt, h.planners, h.streams, h.slopes, h.bankA, h.bankB, h.planCopy, h.fallback, h.loading, h.progs, h.runs, h.cutoffs,
    h.safes, h.calls, h.diag, h.images, h.chunks, h.flash, h.newSet, h.tags, h.deferred, h.gateway, h.wire, h.delays, h.traceBuf,
    h.traceOut, h.freeCtr, h.was⟩
theorem keeps_fresh {m : Nat} {s0 s : State} (h : Keeps m s0 s) {x} (hm : may_fresh &&& m = may_fresh) (hx : s0.Canonical → Tbl.wf 0 x =
    true) :
    Keeps m s0 { s with fresh := x } :=
  ⟨h.pend, fun c0 => let c := h.can c0; ⟨c.regs, c.ledger, c.staged, c.queues, c.opens, hx c0, c.planners, c.streams, c.slopes, c.runs,
    c.cutoffs, c.calls, c.diag, c.images, c.flash, c.tags, c.gateway, c.wire, c.delays, c.log, c.traceBuf, c.each, c.wasRegs,
    c.wasLedger⟩, h.rd, h.ledger, h.staged, h.queues, h.log, h.opens, h.shadows, fun e => absurd ((may_bit hm).symm.trans e)
    Bool.noConfusion, h.freshAt, h.planners, h.streams, h.slopes, h.bankA, h.bankB, h.planCopy, h.fallback, h.loading, h.progs, h.runs,
    h.cutoffs, h.safes, h.calls, h.diag, h.images, h.chunks, h.flash, h.newSet, h.tags, h.deferred, h.gateway, h.wire, h.delays,
    h.traceBuf, h.traceOut, h.freeCtr, h.was⟩
theorem keeps_freshAt {m : Nat} {s0 s : State} (h : Keeps m s0 s) {x} (hm : may_freshAt &&& m = may_freshAt) :
    Keeps m s0 { s with freshAt := x } :=
  ⟨h.pend, fun c0 => let c := h.can c0; ⟨c.regs, c.ledger, c.staged, c.queues, c.opens, c.fresh, c.planners, c.streams, c.slopes,
    c.runs, c.cutoffs, c.calls, c.diag, c.images, c.flash, c.tags, c.gateway, c.wire, c.delays, c.log, c.traceBuf, c.each, c.wasRegs,
    c.wasLedger⟩, h.rd, h.ledger, h.staged, h.queues, h.log, h.opens, h.shadows, h.fresh, fun e => absurd ((may_bit hm).symm.trans e)
    Bool.noConfusion, h.planners, h.streams, h.slopes, h.bankA, h.bankB, h.planCopy, h.fallback, h.loading, h.progs, h.runs, h.cutoffs,
    h.safes, h.calls, h.diag, h.images, h.chunks, h.flash, h.newSet, h.tags, h.deferred, h.gateway, h.wire, h.delays, h.traceBuf,
    h.traceOut, h.freeCtr, h.was⟩
theorem keeps_planners {m : Nat} {s0 s : State} (h : Keeps m s0 s) {x} (hm : may_planners &&& m = may_planners) (hx : s0.Canonical →
    Tbl.wf Planner.rest x = true) :
    Keeps m s0 { s with planners := x } :=
  ⟨h.pend, fun c0 => let c := h.can c0; ⟨c.regs, c.ledger, c.staged, c.queues, c.opens, c.fresh, hx c0, c.streams, c.slopes, c.runs,
    c.cutoffs, c.calls, c.diag, c.images, c.flash, c.tags, c.gateway, c.wire, c.delays, c.log, c.traceBuf, c.each, c.wasRegs,
    c.wasLedger⟩, h.rd, h.ledger, h.staged, h.queues, h.log, h.opens, h.shadows, h.fresh, h.freshAt, fun e => absurd ((may_bit
    hm).symm.trans e) Bool.noConfusion, h.streams, h.slopes, h.bankA, h.bankB, h.planCopy, h.fallback, h.loading, h.progs, h.runs,
    h.cutoffs, h.safes, h.calls, h.diag, h.images, h.chunks, h.flash, h.newSet, h.tags, h.deferred, h.gateway, h.wire, h.delays,
    h.traceBuf, h.traceOut, h.freeCtr, h.was⟩
theorem keeps_streams {m : Nat} {s0 s : State} (h : Keeps m s0 s) {x} (hm : may_streams &&& m = may_streams) (hx : s0.Canonical → Tbl.wf
    [] x = true) :
    Keeps m s0 { s with streams := x } :=
  ⟨h.pend, fun c0 => let c := h.can c0; ⟨c.regs, c.ledger, c.staged, c.queues, c.opens, c.fresh, c.planners, hx c0, c.slopes, c.runs,
    c.cutoffs, c.calls, c.diag, c.images, c.flash, c.tags, c.gateway, c.wire, c.delays, c.log, c.traceBuf, c.each, c.wasRegs,
    c.wasLedger⟩, h.rd, h.ledger, h.staged, h.queues, h.log, h.opens, h.shadows, h.fresh, h.freshAt, h.planners, fun e => absurd ((may_bit
    hm).symm.trans e) Bool.noConfusion, h.slopes, h.bankA, h.bankB, h.planCopy, h.fallback, h.loading, h.progs, h.runs, h.cutoffs,
    h.safes, h.calls, h.diag, h.images, h.chunks, h.flash, h.newSet, h.tags, h.deferred, h.gateway, h.wire, h.delays, h.traceBuf,
    h.traceOut, h.freeCtr, h.was⟩
theorem keeps_slopes {m : Nat} {s0 s : State} (h : Keeps m s0 s) {x} (hm : may_slopes &&& m = may_slopes) (hx : s0.Canonical → Tbl.wf []
    x = true) :
    Keeps m s0 { s with slopes := x } :=
  ⟨h.pend, fun c0 => let c := h.can c0; ⟨c.regs, c.ledger, c.staged, c.queues, c.opens, c.fresh, c.planners, c.streams, hx c0, c.runs,
    c.cutoffs, c.calls, c.diag, c.images, c.flash, c.tags, c.gateway, c.wire, c.delays, c.log, c.traceBuf, c.each, c.wasRegs,
    c.wasLedger⟩, h.rd, h.ledger, h.staged, h.queues, h.log, h.opens, h.shadows, h.fresh, h.freshAt, h.planners, h.streams, fun e =>
    absurd ((may_bit hm).symm.trans e) Bool.noConfusion, h.bankA, h.bankB, h.planCopy, h.fallback, h.loading, h.progs, h.runs, h.cutoffs,
    h.safes, h.calls, h.diag, h.images, h.chunks, h.flash, h.newSet, h.tags, h.deferred, h.gateway, h.wire, h.delays, h.traceBuf,
    h.traceOut, h.freeCtr, h.was⟩
theorem keeps_bankA {m : Nat} {s0 s : State} (h : Keeps m s0 s) {x} (hm : may_bankA &&& m = may_bankA) :
    Keeps m s0 { s with bankA := x } :=
  ⟨h.pend, fun c0 => let c := h.can c0; ⟨c.regs, c.ledger, c.staged, c.queues, c.opens, c.fresh, c.planners, c.streams, c.slopes,
    c.runs, c.cutoffs, c.calls, c.diag, c.images, c.flash, c.tags, c.gateway, c.wire, c.delays, c.log, c.traceBuf, c.each, c.wasRegs,
    c.wasLedger⟩, h.rd, h.ledger, h.staged, h.queues, h.log, h.opens, h.shadows, h.fresh, h.freshAt, h.planners, h.streams, h.slopes, fun
    e => absurd ((may_bit hm).symm.trans e) Bool.noConfusion, h.bankB, h.planCopy, h.fallback, h.loading, h.progs, h.runs, h.cutoffs,
    h.safes, h.calls, h.diag, h.images, h.chunks, h.flash, h.newSet, h.tags, h.deferred, h.gateway, h.wire, h.delays, h.traceBuf,
    h.traceOut, h.freeCtr, h.was⟩
theorem keeps_bankB {m : Nat} {s0 s : State} (h : Keeps m s0 s) {x} (hm : may_bankB &&& m = may_bankB) :
    Keeps m s0 { s with bankB := x } :=
  ⟨h.pend, fun c0 => let c := h.can c0; ⟨c.regs, c.ledger, c.staged, c.queues, c.opens, c.fresh, c.planners, c.streams, c.slopes,
    c.runs, c.cutoffs, c.calls, c.diag, c.images, c.flash, c.tags, c.gateway, c.wire, c.delays, c.log, c.traceBuf, c.each, c.wasRegs,
    c.wasLedger⟩, h.rd, h.ledger, h.staged, h.queues, h.log, h.opens, h.shadows, h.fresh, h.freshAt, h.planners, h.streams, h.slopes,
    h.bankA, fun e => absurd ((may_bit hm).symm.trans e) Bool.noConfusion, h.planCopy, h.fallback, h.loading, h.progs, h.runs, h.cutoffs,
    h.safes, h.calls, h.diag, h.images, h.chunks, h.flash, h.newSet, h.tags, h.deferred, h.gateway, h.wire, h.delays, h.traceBuf,
    h.traceOut, h.freeCtr, h.was⟩
theorem keeps_planCopy {m : Nat} {s0 s : State} (h : Keeps m s0 s) {x} (hm : may_planCopy &&& m = may_planCopy) :
    Keeps m s0 { s with planCopy := x } :=
  ⟨h.pend, fun c0 => let c := h.can c0; ⟨c.regs, c.ledger, c.staged, c.queues, c.opens, c.fresh, c.planners, c.streams, c.slopes,
    c.runs, c.cutoffs, c.calls, c.diag, c.images, c.flash, c.tags, c.gateway, c.wire, c.delays, c.log, c.traceBuf, c.each, c.wasRegs,
    c.wasLedger⟩, h.rd, h.ledger, h.staged, h.queues, h.log, h.opens, h.shadows, h.fresh, h.freshAt, h.planners, h.streams, h.slopes,
    h.bankA, h.bankB, fun e => absurd ((may_bit hm).symm.trans e) Bool.noConfusion, h.fallback, h.loading, h.progs, h.runs, h.cutoffs,
    h.safes, h.calls, h.diag, h.images, h.chunks, h.flash, h.newSet, h.tags, h.deferred, h.gateway, h.wire, h.delays, h.traceBuf,
    h.traceOut, h.freeCtr, h.was⟩
theorem keeps_fallback {m : Nat} {s0 s : State} (h : Keeps m s0 s) {x} (hm : may_fallback &&& m = may_fallback) :
    Keeps m s0 { s with fallback := x } :=
  ⟨h.pend, fun c0 => let c := h.can c0; ⟨c.regs, c.ledger, c.staged, c.queues, c.opens, c.fresh, c.planners, c.streams, c.slopes,
    c.runs, c.cutoffs, c.calls, c.diag, c.images, c.flash, c.tags, c.gateway, c.wire, c.delays, c.log, c.traceBuf, c.each, c.wasRegs,
    c.wasLedger⟩, h.rd, h.ledger, h.staged, h.queues, h.log, h.opens, h.shadows, h.fresh, h.freshAt, h.planners, h.streams, h.slopes,
    h.bankA, h.bankB, h.planCopy, fun e => absurd ((may_bit hm).symm.trans e) Bool.noConfusion, h.loading, h.progs, h.runs, h.cutoffs,
    h.safes, h.calls, h.diag, h.images, h.chunks, h.flash, h.newSet, h.tags, h.deferred, h.gateway, h.wire, h.delays, h.traceBuf,
    h.traceOut, h.freeCtr, h.was⟩
theorem keeps_loading {m : Nat} {s0 s : State} (h : Keeps m s0 s) {x} (hm : may_loading &&& m = may_loading) :
    Keeps m s0 { s with loading := x } :=
  ⟨h.pend, fun c0 => let c := h.can c0; ⟨c.regs, c.ledger, c.staged, c.queues, c.opens, c.fresh, c.planners, c.streams, c.slopes,
    c.runs, c.cutoffs, c.calls, c.diag, c.images, c.flash, c.tags, c.gateway, c.wire, c.delays, c.log, c.traceBuf, c.each, c.wasRegs,
    c.wasLedger⟩, h.rd, h.ledger, h.staged, h.queues, h.log, h.opens, h.shadows, h.fresh, h.freshAt, h.planners, h.streams, h.slopes,
    h.bankA, h.bankB, h.planCopy, h.fallback, fun e => absurd ((may_bit hm).symm.trans e) Bool.noConfusion, h.progs, h.runs, h.cutoffs,
    h.safes, h.calls, h.diag, h.images, h.chunks, h.flash, h.newSet, h.tags, h.deferred, h.gateway, h.wire, h.delays, h.traceBuf,
    h.traceOut, h.freeCtr, h.was⟩
theorem keeps_progs {m : Nat} {s0 s : State} (h : Keeps m s0 s) {x} (hm : may_progs &&& m = may_progs) :
    Keeps m s0 { s with progs := x } :=
  ⟨h.pend, fun c0 => let c := h.can c0; ⟨c.regs, c.ledger, c.staged, c.queues, c.opens, c.fresh, c.planners, c.streams, c.slopes,
    c.runs, c.cutoffs, c.calls, c.diag, c.images, c.flash, c.tags, c.gateway, c.wire, c.delays, c.log, c.traceBuf, c.each, c.wasRegs,
    c.wasLedger⟩, h.rd, h.ledger, h.staged, h.queues, h.log, h.opens, h.shadows, h.fresh, h.freshAt, h.planners, h.streams, h.slopes,
    h.bankA, h.bankB, h.planCopy, h.fallback, h.loading, fun e => absurd ((may_bit hm).symm.trans e) Bool.noConfusion, h.runs, h.cutoffs,
    h.safes, h.calls, h.diag, h.images, h.chunks, h.flash, h.newSet, h.tags, h.deferred, h.gateway, h.wire, h.delays, h.traceBuf,
    h.traceOut, h.freeCtr, h.was⟩
theorem keeps_runs {m : Nat} {s0 s : State} (h : Keeps m s0 s) {x} (hm : may_runs &&& m = may_runs) (hx : s0.Canonical → Tbl.wf none x =
    true) :
    Keeps m s0 { s with runs := x } :=
  ⟨h.pend, fun c0 => let c := h.can c0; ⟨c.regs, c.ledger, c.staged, c.queues, c.opens, c.fresh, c.planners, c.streams, c.slopes, hx c0,
    c.cutoffs, c.calls, c.diag, c.images, c.flash, c.tags, c.gateway, c.wire, c.delays, c.log, c.traceBuf, c.each, c.wasRegs,
    c.wasLedger⟩, h.rd, h.ledger, h.staged, h.queues, h.log, h.opens, h.shadows, h.fresh, h.freshAt, h.planners, h.streams, h.slopes,
    h.bankA, h.bankB, h.planCopy, h.fallback, h.loading, h.progs, fun e => absurd ((may_bit hm).symm.trans e) Bool.noConfusion, h.cutoffs,
    h.safes, h.calls, h.diag, h.images, h.chunks, h.flash, h.newSet, h.tags, h.deferred, h.gateway, h.wire, h.delays, h.traceBuf,
    h.traceOut, h.freeCtr, h.was⟩
theorem keeps_cutoffs {m : Nat} {s0 s : State} (h : Keeps m s0 s) {x} (hm : may_cutoffs &&& m = may_cutoffs) (hx : s0.Canonical → Tbl.wf
    [] x = true) :
    Keeps m s0 { s with cutoffs := x } :=
  ⟨h.pend, fun c0 => let c := h.can c0; ⟨c.regs, c.ledger, c.staged, c.queues, c.opens, c.fresh, c.planners, c.streams, c.slopes,
    c.runs, hx c0, c.calls, c.diag, c.images, c.flash, c.tags, c.gateway, c.wire, c.delays, c.log, c.traceBuf, c.each, c.wasRegs,
    c.wasLedger⟩, h.rd, h.ledger, h.staged, h.queues, h.log, h.opens, h.shadows, h.fresh, h.freshAt, h.planners, h.streams, h.slopes,
    h.bankA, h.bankB, h.planCopy, h.fallback, h.loading, h.progs, h.runs, fun e => absurd ((may_bit hm).symm.trans e) Bool.noConfusion,
    h.safes, h.calls, h.diag, h.images, h.chunks, h.flash, h.newSet, h.tags, h.deferred, h.gateway, h.wire, h.delays, h.traceBuf,
    h.traceOut, h.freeCtr, h.was⟩
theorem keeps_safes {m : Nat} {s0 s : State} (h : Keeps m s0 s) {x} (hm : may_safes &&& m = may_safes) :
    Keeps m s0 { s with safes := x } :=
  ⟨h.pend, fun c0 => let c := h.can c0; ⟨c.regs, c.ledger, c.staged, c.queues, c.opens, c.fresh, c.planners, c.streams, c.slopes,
    c.runs, c.cutoffs, c.calls, c.diag, c.images, c.flash, c.tags, c.gateway, c.wire, c.delays, c.log, c.traceBuf, c.each, c.wasRegs,
    c.wasLedger⟩, h.rd, h.ledger, h.staged, h.queues, h.log, h.opens, h.shadows, h.fresh, h.freshAt, h.planners, h.streams, h.slopes,
    h.bankA, h.bankB, h.planCopy, h.fallback, h.loading, h.progs, h.runs, h.cutoffs, fun e => absurd ((may_bit hm).symm.trans e)
    Bool.noConfusion, h.calls, h.diag, h.images, h.chunks, h.flash, h.newSet, h.tags, h.deferred, h.gateway, h.wire, h.delays, h.traceBuf,
    h.traceOut, h.freeCtr, h.was⟩
theorem keeps_calls {m : Nat} {s0 s : State} (h : Keeps m s0 s) {x} (hm : may_calls &&& m = may_calls) (hx : s0.Canonical → Tbl.wf none
    x = true) :
    Keeps m s0 { s with calls := x } :=
  ⟨h.pend, fun c0 => let c := h.can c0; ⟨c.regs, c.ledger, c.staged, c.queues, c.opens, c.fresh, c.planners, c.streams, c.slopes,
    c.runs, c.cutoffs, hx c0, c.diag, c.images, c.flash, c.tags, c.gateway, c.wire, c.delays, c.log, c.traceBuf, c.each, c.wasRegs,
    c.wasLedger⟩, h.rd, h.ledger, h.staged, h.queues, h.log, h.opens, h.shadows, h.fresh, h.freshAt, h.planners, h.streams, h.slopes,
    h.bankA, h.bankB, h.planCopy, h.fallback, h.loading, h.progs, h.runs, h.cutoffs, h.safes, fun e => absurd ((may_bit hm).symm.trans e)
    Bool.noConfusion, h.diag, h.images, h.chunks, h.flash, h.newSet, h.tags, h.deferred, h.gateway, h.wire, h.delays, h.traceBuf,
    h.traceOut, h.freeCtr, h.was⟩
theorem keeps_diag {m : Nat} {s0 s : State} (h : Keeps m s0 s) {x} (hm : may_diag &&& m = may_diag) (hx : s0.Canonical → Tbl.wf [] x =
    true) :
    Keeps m s0 { s with diag := x } :=
  ⟨h.pend, fun c0 => let c := h.can c0; ⟨c.regs, c.ledger, c.staged, c.queues, c.opens, c.fresh, c.planners, c.streams, c.slopes,
    c.runs, c.cutoffs, c.calls, hx c0, c.images, c.flash, c.tags, c.gateway, c.wire, c.delays, c.log, c.traceBuf, c.each, c.wasRegs,
    c.wasLedger⟩, h.rd, h.ledger, h.staged, h.queues, h.log, h.opens, h.shadows, h.fresh, h.freshAt, h.planners, h.streams, h.slopes,
    h.bankA, h.bankB, h.planCopy, h.fallback, h.loading, h.progs, h.runs, h.cutoffs, h.safes, h.calls, fun e => absurd ((may_bit
    hm).symm.trans e) Bool.noConfusion, h.images, h.chunks, h.flash, h.newSet, h.tags, h.deferred, h.gateway, h.wire, h.delays,
    h.traceBuf, h.traceOut, h.freeCtr, h.was⟩
theorem keeps_images {m : Nat} {s0 s : State} (h : Keeps m s0 s) {x} (hm : may_images &&& m = may_images) (hx : s0.Canonical → Tbl.wf []
    x = true) :
    Keeps m s0 { s with images := x } :=
  ⟨h.pend, fun c0 => let c := h.can c0; ⟨c.regs, c.ledger, c.staged, c.queues, c.opens, c.fresh, c.planners, c.streams, c.slopes,
    c.runs, c.cutoffs, c.calls, c.diag, hx c0, c.flash, c.tags, c.gateway, c.wire, c.delays, c.log, c.traceBuf, c.each, c.wasRegs,
    c.wasLedger⟩, h.rd, h.ledger, h.staged, h.queues, h.log, h.opens, h.shadows, h.fresh, h.freshAt, h.planners, h.streams, h.slopes,
    h.bankA, h.bankB, h.planCopy, h.fallback, h.loading, h.progs, h.runs, h.cutoffs, h.safes, h.calls, h.diag, fun e => absurd ((may_bit
    hm).symm.trans e) Bool.noConfusion, h.chunks, h.flash, h.newSet, h.tags, h.deferred, h.gateway, h.wire, h.delays, h.traceBuf,
    h.traceOut, h.freeCtr, h.was⟩
theorem keeps_chunks {m : Nat} {s0 s : State} (h : Keeps m s0 s) {x} (hm : may_chunks &&& m = may_chunks) :
    Keeps m s0 { s with chunks := x } :=
  ⟨h.pend, fun c0 => let c := h.can c0; ⟨c.regs, c.ledger, c.staged, c.queues, c.opens, c.fresh, c.planners, c.streams, c.slopes,
    c.runs, c.cutoffs, c.calls, c.diag, c.images, c.flash, c.tags, c.gateway, c.wire, c.delays, c.log, c.traceBuf, c.each, c.wasRegs,
    c.wasLedger⟩, h.rd, h.ledger, h.staged, h.queues, h.log, h.opens, h.shadows, h.fresh, h.freshAt, h.planners, h.streams, h.slopes,
    h.bankA, h.bankB, h.planCopy, h.fallback, h.loading, h.progs, h.runs, h.cutoffs, h.safes, h.calls, h.diag, h.images, fun e => absurd
    ((may_bit hm).symm.trans e) Bool.noConfusion, h.flash, h.newSet, h.tags, h.deferred, h.gateway, h.wire, h.delays, h.traceBuf,
    h.traceOut, h.freeCtr, h.was⟩
theorem keeps_flash {m : Nat} {s0 s : State} (h : Keeps m s0 s) {x} (hm : may_flash &&& m = may_flash) (hx : s0.Canonical → Tbl.wf
    FlashSet.blank x = true) :
    Keeps m s0 { s with flash := x } :=
  ⟨h.pend, fun c0 => let c := h.can c0; ⟨c.regs, c.ledger, c.staged, c.queues, c.opens, c.fresh, c.planners, c.streams, c.slopes,
    c.runs, c.cutoffs, c.calls, c.diag, c.images, hx c0, c.tags, c.gateway, c.wire, c.delays, c.log, c.traceBuf, c.each, c.wasRegs,
    c.wasLedger⟩, h.rd, h.ledger, h.staged, h.queues, h.log, h.opens, h.shadows, h.fresh, h.freshAt, h.planners, h.streams, h.slopes,
    h.bankA, h.bankB, h.planCopy, h.fallback, h.loading, h.progs, h.runs, h.cutoffs, h.safes, h.calls, h.diag, h.images, h.chunks, fun e
    => absurd ((may_bit hm).symm.trans e) Bool.noConfusion, h.newSet, h.tags, h.deferred, h.gateway, h.wire, h.delays, h.traceBuf,
    h.traceOut, h.freeCtr, h.was⟩
theorem keeps_newSet {m : Nat} {s0 s : State} (h : Keeps m s0 s) {x} (hm : may_newSet &&& m = may_newSet) :
    Keeps m s0 { s with newSet := x } :=
  ⟨h.pend, fun c0 => let c := h.can c0; ⟨c.regs, c.ledger, c.staged, c.queues, c.opens, c.fresh, c.planners, c.streams, c.slopes,
    c.runs, c.cutoffs, c.calls, c.diag, c.images, c.flash, c.tags, c.gateway, c.wire, c.delays, c.log, c.traceBuf, c.each, c.wasRegs,
    c.wasLedger⟩, h.rd, h.ledger, h.staged, h.queues, h.log, h.opens, h.shadows, h.fresh, h.freshAt, h.planners, h.streams, h.slopes,
    h.bankA, h.bankB, h.planCopy, h.fallback, h.loading, h.progs, h.runs, h.cutoffs, h.safes, h.calls, h.diag, h.images, h.chunks,
    h.flash, fun e => absurd ((may_bit hm).symm.trans e) Bool.noConfusion, h.tags, h.deferred, h.gateway, h.wire, h.delays, h.traceBuf,
    h.traceOut, h.freeCtr, h.was⟩
theorem keeps_tags {m : Nat} {s0 s : State} (h : Keeps m s0 s) {x} (hm : may_tags &&& m = may_tags) (hx : s0.Canonical → Tbl.wf
    TagSt.free x = true) :
    Keeps m s0 { s with tags := x } :=
  ⟨h.pend, fun c0 => let c := h.can c0; ⟨c.regs, c.ledger, c.staged, c.queues, c.opens, c.fresh, c.planners, c.streams, c.slopes,
    c.runs, c.cutoffs, c.calls, c.diag, c.images, c.flash, hx c0, c.gateway, c.wire, c.delays, c.log, c.traceBuf, c.each, c.wasRegs,
    c.wasLedger⟩, h.rd, h.ledger, h.staged, h.queues, h.log, h.opens, h.shadows, h.fresh, h.freshAt, h.planners, h.streams, h.slopes,
    h.bankA, h.bankB, h.planCopy, h.fallback, h.loading, h.progs, h.runs, h.cutoffs, h.safes, h.calls, h.diag, h.images, h.chunks,
    h.flash, h.newSet, fun e => absurd ((may_bit hm).symm.trans e) Bool.noConfusion, h.deferred, h.gateway, h.wire, h.delays, h.traceBuf,
    h.traceOut, h.freeCtr, h.was⟩
theorem keeps_deferred {m : Nat} {s0 s : State} (h : Keeps m s0 s) {x} (hm : may_deferred &&& m = may_deferred) :
    Keeps m s0 { s with deferred := x } :=
  ⟨h.pend, fun c0 => let c := h.can c0; ⟨c.regs, c.ledger, c.staged, c.queues, c.opens, c.fresh, c.planners, c.streams, c.slopes,
    c.runs, c.cutoffs, c.calls, c.diag, c.images, c.flash, c.tags, c.gateway, c.wire, c.delays, c.log, c.traceBuf, c.each, c.wasRegs,
    c.wasLedger⟩, h.rd, h.ledger, h.staged, h.queues, h.log, h.opens, h.shadows, h.fresh, h.freshAt, h.planners, h.streams, h.slopes,
    h.bankA, h.bankB, h.planCopy, h.fallback, h.loading, h.progs, h.runs, h.cutoffs, h.safes, h.calls, h.diag, h.images, h.chunks,
    h.flash, h.newSet, h.tags, fun e => absurd ((may_bit hm).symm.trans e) Bool.noConfusion, h.gateway, h.wire, h.delays, h.traceBuf,
    h.traceOut, h.freeCtr, h.was⟩
theorem keeps_gateway {m : Nat} {s0 s : State} (h : Keeps m s0 s) {x} (hm : may_gateway &&& m = may_gateway) (hx : s0.Canonical → Tbl.wf
    none x = true) :
    Keeps m s0 { s with gateway := x } :=
  ⟨h.pend, fun c0 => let c := h.can c0; ⟨c.regs, c.ledger, c.staged, c.queues, c.opens, c.fresh, c.planners, c.streams, c.slopes,
    c.runs, c.cutoffs, c.calls, c.diag, c.images, c.flash, c.tags, hx c0, c.wire, c.delays, c.log, c.traceBuf, c.each, c.wasRegs,
    c.wasLedger⟩, h.rd, h.ledger, h.staged, h.queues, h.log, h.opens, h.shadows, h.fresh, h.freshAt, h.planners, h.streams, h.slopes,
    h.bankA, h.bankB, h.planCopy, h.fallback, h.loading, h.progs, h.runs, h.cutoffs, h.safes, h.calls, h.diag, h.images, h.chunks,
    h.flash, h.newSet, h.tags, h.deferred, fun e => absurd ((may_bit hm).symm.trans e) Bool.noConfusion, h.wire, h.delays, h.traceBuf,
    h.traceOut, h.freeCtr, h.was⟩
theorem keeps_wire {m : Nat} {s0 s : State} (h : Keeps m s0 s) {x} (hm : may_wire &&& m = may_wire) (hx : s0.Canonical → Tbl.wf none x =
    true) :
    Keeps m s0 { s with wire := x } :=
  ⟨h.pend, fun c0 => let c := h.can c0; ⟨c.regs, c.ledger, c.staged, c.queues, c.opens, c.fresh, c.planners, c.streams, c.slopes,
    c.runs, c.cutoffs, c.calls, c.diag, c.images, c.flash, c.tags, c.gateway, hx c0, c.delays, c.log, c.traceBuf, c.each, c.wasRegs,
    c.wasLedger⟩, h.rd, h.ledger, h.staged, h.queues, h.log, h.opens, h.shadows, h.fresh, h.freshAt, h.planners, h.streams, h.slopes,
    h.bankA, h.bankB, h.planCopy, h.fallback, h.loading, h.progs, h.runs, h.cutoffs, h.safes, h.calls, h.diag, h.images, h.chunks,
    h.flash, h.newSet, h.tags, h.deferred, h.gateway, fun e => absurd ((may_bit hm).symm.trans e) Bool.noConfusion, h.delays, h.traceBuf,
    h.traceOut, h.freeCtr, h.was⟩
theorem keeps_delays {m : Nat} {s0 s : State} (h : Keeps m s0 s) {x} (hm : may_delays &&& m = may_delays) (hx : s0.Canonical → Tbl.wf []
    x = true) (hy : s0.Canonical → ∀ p ∈ x, p.2.length ≤ 8) :
    Keeps m s0 { s with delays := x } :=
  ⟨h.pend, fun c0 => let c := h.can c0; ⟨c.regs, c.ledger, c.staged, c.queues, c.opens, c.fresh, c.planners, c.streams, c.slopes,
    c.runs, c.cutoffs, c.calls, c.diag, c.images, c.flash, c.tags, c.gateway, c.wire, hx c0, c.log, c.traceBuf, hy c0, c.wasRegs,
    c.wasLedger⟩, h.rd, h.ledger, h.staged, h.queues, h.log, h.opens, h.shadows, h.fresh, h.freshAt, h.planners, h.streams, h.slopes,
    h.bankA, h.bankB, h.planCopy, h.fallback, h.loading, h.progs, h.runs, h.cutoffs, h.safes, h.calls, h.diag, h.images, h.chunks,
    h.flash, h.newSet, h.tags, h.deferred, h.gateway, h.wire, fun e => absurd ((may_bit hm).symm.trans e) Bool.noConfusion, h.traceBuf,
    h.traceOut, h.freeCtr, h.was⟩
theorem keeps_traceBuf {m : Nat} {s0 s : State} (h : Keeps m s0 s) {x} (hm : may_traceBuf &&& m = may_traceBuf) (hx : s0.Canonical →
    x.length ≤ traceWords) :
    Keeps m s0 { s with traceBuf := x } :=
  ⟨h.pend, fun c0 => let c := h.can c0; ⟨c.regs, c.ledger, c.staged, c.queues, c.opens, c.fresh, c.planners, c.streams, c.slopes,
    c.runs, c.cutoffs, c.calls, c.diag, c.images, c.flash, c.tags, c.gateway, c.wire, c.delays, c.log, hx c0, c.each, c.wasRegs,
    c.wasLedger⟩, h.rd, h.ledger, h.staged, h.queues, h.log, h.opens, h.shadows, h.fresh, h.freshAt, h.planners, h.streams, h.slopes,
    h.bankA, h.bankB, h.planCopy, h.fallback, h.loading, h.progs, h.runs, h.cutoffs, h.safes, h.calls, h.diag, h.images, h.chunks,
    h.flash, h.newSet, h.tags, h.deferred, h.gateway, h.wire, h.delays, fun e => absurd ((may_bit hm).symm.trans e) Bool.noConfusion,
    h.traceOut, h.freeCtr, h.was⟩
theorem keeps_traceOut {m : Nat} {s0 s : State} (h : Keeps m s0 s) {x} (hm : may_traceOut &&& m = may_traceOut) :
    Keeps m s0 { s with traceOut := x } :=
  ⟨h.pend, fun c0 => let c := h.can c0; ⟨c.regs, c.ledger, c.staged, c.queues, c.opens, c.fresh, c.planners, c.streams, c.slopes,
    c.runs, c.cutoffs, c.calls, c.diag, c.images, c.flash, c.tags, c.gateway, c.wire, c.delays, c.log, c.traceBuf, c.each, c.wasRegs,
    c.wasLedger⟩, h.rd, h.ledger, h.staged, h.queues, h.log, h.opens, h.shadows, h.fresh, h.freshAt, h.planners, h.streams, h.slopes,
    h.bankA, h.bankB, h.planCopy, h.fallback, h.loading, h.progs, h.runs, h.cutoffs, h.safes, h.calls, h.diag, h.images, h.chunks,
    h.flash, h.newSet, h.tags, h.deferred, h.gateway, h.wire, h.delays, h.traceBuf, fun e => absurd ((may_bit hm).symm.trans e)
    Bool.noConfusion, h.freeCtr, h.was⟩
theorem keeps_freeCtr {m : Nat} {s0 s : State} (h : Keeps m s0 s) {x} (hm : may_freeCtr &&& m = may_freeCtr) :
    Keeps m s0 { s with freeCtr := x } :=
  ⟨h.pend, fun c0 => let c := h.can c0; ⟨c.regs, c.ledger, c.staged, c.queues, c.opens, c.fresh, c.planners, c.streams, c.slopes,
    c.runs, c.cutoffs, c.calls, c.diag, c.images, c.flash, c.tags, c.gateway, c.wire, c.delays, c.log, c.traceBuf, c.each, c.wasRegs,
    c.wasLedger⟩, h.rd, h.ledger, h.staged, h.queues, h.log, h.opens, h.shadows, h.fresh, h.freshAt, h.planners, h.streams, h.slopes,
    h.bankA, h.bankB, h.planCopy, h.fallback, h.loading, h.progs, h.runs, h.cutoffs, h.safes, h.calls, h.diag, h.images, h.chunks,
    h.flash, h.newSet, h.tags, h.deferred, h.gateway, h.wire, h.delays, h.traceBuf, h.traceOut, fun e => absurd ((may_bit hm).symm.trans
    e) Bool.noConfusion, h.was⟩
theorem keeps_was {m : Nat} {s0 s : State} (h : Keeps m s0 s) {x} (hm : may_was &&& m = may_was) (hx : s0.Canonical → regsWf x.regs =
    true) (hy : s0.Canonical → Tbl.wf 0 x.ledger = true) :
    Keeps m s0 { s with was := x } :=
  ⟨h.pend, fun c0 => let c := h.can c0; ⟨c.regs, c.ledger, c.staged, c.queues, c.opens, c.fresh, c.planners, c.streams, c.slopes,
    c.runs, c.cutoffs, c.calls, c.diag, c.images, c.flash, c.tags, c.gateway, c.wire, c.delays, c.log, c.traceBuf, c.each, hx c0, hy c0⟩,
    h.rd, h.ledger, h.staged, h.queues, h.log, h.opens, h.shadows, h.fresh, h.freshAt, h.planners, h.streams, h.slopes, h.bankA, h.bankB,
    h.planCopy, h.fallback, h.loading, h.progs, h.runs, h.cutoffs, h.safes, h.calls, h.diag, h.images, h.chunks, h.flash, h.newSet,
    h.tags, h.deferred, h.gateway, h.wire, h.delays, h.traceBuf, h.traceOut, h.freeCtr, fun e => absurd ((may_bit hm).symm.trans e)
    Bool.noConfusion⟩

theorem keeps_wr_rd {m : Nat} {s0 s : State} (h : Keeps m s0 s) {r : Reg} {i : Nat} {v : Int} (hm : may r &&& m = may r) :
    ∀ q j, m.testBit q.ctorIdx = false → (s.wr r i v).rd q j = s0.rd q j := by
  intro q j e
  rw [State.rd_wr]
  split
  · next e1 =>
    obtain ⟨rfl, _⟩ := e1
    exact absurd ((may_bit hm).symm.trans e) Bool.noConfusion
  · exact h.rd q j e

/-- A register written. -/
theorem keeps_wr {m : Nat} {s0 s : State} (h : Keeps m s0 s) (r : Reg) (i : Nat) (v : Int) (hm : may r &&& m = may r) :
    Keeps m s0 (s.wr r i v) :=
  ⟨h.pend, fun c0 => let c := h.can c0; ⟨regsWf_tset c.regs, c.ledger, c.staged, c.queues, c.opens, c.fresh, c.planners, c.streams,
    c.slopes, c.runs, c.cutoffs, c.calls, c.diag, c.images, c.flash, c.tags, c.gateway, c.wire, c.delays, c.log, c.traceBuf, c.each,
    c.wasRegs, c.wasLedger⟩, keeps_wr_rd h hm, h.ledger, h.staged, h.queues, h.log, h.opens, h.shadows, h.fresh, h.freshAt, h.planners,
    h.streams, h.slopes, h.bankA, h.bankB, h.planCopy, h.fallback, h.loading, h.progs, h.runs, h.cutoffs, h.safes, h.calls, h.diag,
    h.images, h.chunks, h.flash, h.newSet, h.tags, h.deferred, h.gateway, h.wire, h.delays, h.traceBuf, h.traceOut, h.freeCtr, h.was⟩

/-- The whole register file replaced. -/
theorem keeps_regs {m : Nat} {s0 s : State} (h : Keeps m s0 s) {x} (hm : mayAll &&& m = mayAll) (hx : s0.Canonical → regsWf x = true) :
    Keeps m s0 { s with regs := x } :=
  ⟨h.pend, fun c0 => let c := h.can c0; ⟨hx c0, c.ledger, c.staged, c.queues, c.opens, c.fresh, c.planners, c.streams, c.slopes, c.runs,
    c.cutoffs, c.calls, c.diag, c.images, c.flash, c.tags, c.gateway, c.wire, c.delays, c.log, c.traceBuf, c.each, c.wasRegs,
    c.wasLedger⟩, fun q _ e => absurd ((may_bit (may_trans hm (may_reg q))).symm.trans e) Bool.noConfusion, h.ledger, h.staged, h.queues,
    h.log, h.opens, h.shadows, h.fresh, h.freshAt, h.planners, h.streams, h.slopes, h.bankA, h.bankB, h.planCopy, h.fallback, h.loading,
    h.progs, h.runs, h.cutoffs, h.safes, h.calls, h.diag, h.images, h.chunks, h.flash, h.newSet, h.tags, h.deferred, h.gateway, h.wire,
    h.delays, h.traceBuf, h.traceOut, h.freeCtr, h.was⟩

/-- A larger mask allows more. -/
theorem Keeps.mono {m m' : Nat} {s t : State} (h : Keeps m s t) (e : m &&& m' = m) : Keeps m' s t := by
  have b : ∀ k, m'.testBit k = false → m.testBit k = false := fun k hk => by
    rw [← e, Nat.testBit_and, hk, Bool.and_false]
  exact ⟨h.pend, h.can, fun r i k => h.rd r i (b _ k), fun k => h.ledger (b _ k), fun k => h.staged (b _ k), fun k => h.queues (b _ k), fun k
    => h.log (b _ k), fun k => h.opens (b _ k), fun k => h.shadows (b _ k), fun k => h.fresh (b _ k), fun k => h.freshAt (b _ k), fun k =>
    h.planners (b _ k), fun k => h.streams (b _ k), fun k => h.slopes (b _ k), fun k => h.bankA (b _ k), fun k => h.bankB (b _ k), fun k
    => h.planCopy (b _ k), fun k => h.fallback (b _ k), fun k => h.loading (b _ k), fun k => h.progs (b _ k), fun k => h.runs (b _ k), fun
    k => h.cutoffs (b _ k), fun k => h.safes (b _ k), fun k => h.calls (b _ k), fun k => h.diag (b _ k), fun k => h.images (b _ k), fun k
    => h.chunks (b _ k), fun k => h.flash (b _ k), fun k => h.newSet (b _ k), fun k => h.tags (b _ k), fun k => h.deferred (b _ k), fun k
    => h.gateway (b _ k), fun k => h.wire (b _ k), fun k => h.delays (b _ k), fun k => h.traceBuf (b _ k), fun k => h.traceOut (b _ k),
    fun k => h.freeCtr (b _ k), fun k => h.was (b _ k)⟩

/-- Two operations in turn. -/
theorem Keeps.trans {m : Nat} {s t u : State} (h : Keeps m s t) (g : Keeps m t u) : Keeps m s u :=
  ⟨g.pend.trans h.pend, fun c => g.can (h.can c), fun r i e => (g.rd r i e).trans (h.rd r i e), fun e => (g.ledger e).trans (h.ledger
    e), fun e => (g.staged e).trans (h.staged e), fun e => (g.queues e).trans (h.queues e), fun e => (g.log e).trans (h.log e), fun e =>
    (g.opens e).trans (h.opens e), fun e => (g.shadows e).trans (h.shadows e), fun e => (g.fresh e).trans (h.fresh e), fun e => (g.freshAt
    e).trans (h.freshAt e), fun e => (g.planners e).trans (h.planners e), fun e => (g.streams e).trans (h.streams e), fun e => (g.slopes
    e).trans (h.slopes e), fun e => (g.bankA e).trans (h.bankA e), fun e => (g.bankB e).trans (h.bankB e), fun e => (g.planCopy e).trans
    (h.planCopy e), fun e => (g.fallback e).trans (h.fallback e), fun e => (g.loading e).trans (h.loading e), fun e => (g.progs e).trans
    (h.progs e), fun e => (g.runs e).trans (h.runs e), fun e => (g.cutoffs e).trans (h.cutoffs e), fun e => (g.safes e).trans (h.safes e),
    fun e => (g.calls e).trans (h.calls e), fun e => (g.diag e).trans (h.diag e), fun e => (g.images e).trans (h.images e), fun e =>
    (g.chunks e).trans (h.chunks e), fun e => (g.flash e).trans (h.flash e), fun e => (g.newSet e).trans (h.newSet e), fun e => (g.tags
    e).trans (h.tags e), fun e => (g.deferred e).trans (h.deferred e), fun e => (g.gateway e).trans (h.gateway e), fun e => (g.wire
    e).trans (h.wire e), fun e => (g.delays e).trans (h.delays e), fun e => (g.traceBuf e).trans (h.traceBuf e), fun e => (g.traceOut
    e).trans (h.traceOut e), fun e => (g.freeCtr e).trans (h.freeCtr e), fun e => (g.was e).trans (h.was e)⟩

end Sys2Proof.Machine
end

