-- ==== Sys2Proof/Laws/KeepsOps.lean ====
section
/-! SUPPORT. One lemma per operation: all that it may change, that the waiting commands stay, and that the canonical form is kept. Here:
tables, queues, the fault log, the planners, transactions' status, following and waits. `X_may` is the mask of what the operation `X` may change. -/
namespace Sys2Proof.Machine

set_option Elab.async false
set_option linter.unusedTactic false
set_option linter.unreachableTactic false

-- Ops.lean

theorem wrBit_keeps {M : Nat} {S0 : State} {s : State} (r : Reg) (i b : Nat) (v : Bool) (gs : Keeps M S0 s) (gr : may r &&& M = may r := by decide +kernel) :
    Keeps M S0 (State.wrBit s r i b v) := by
  unfold State.wrBit
  repeat' first
    | with_reducible assumption | intro _ | with_reducible apply keeps_ite | with_reducible apply keeps_wr | dsimp -zeta -zetaHave only
    | split

def State.draw_may : Nat :=
  may_freeCtr
theorem draw_keeps {M : Nat} {S0 : State} {s : State} (w : Nat) (gs : Keeps M S0 s) (gm : State.draw_may &&& M = State.draw_may := by decide +kernel) :
    Keeps M S0 (State.draw s w).2 := by
  unfold State.draw
  repeat' first
    | with_reducible assumption
    | (intro x; refine keeps_cut (m := M) (s0 := S0) (x := x) ?_ ?_; all_goals first | (intro hx; clear_value x) | subst x)
    | (intro x; clear_value x)
    | intro _
    | with_reducible exact may_trans gm (by decide +kernel)
    | with_reducible apply keeps_ite | with_reducible apply keeps_ite1 | with_reducible apply keeps_ite2 | dsimp -zeta -zetaHave only
    | lift_lets -underBinder | with_reducible apply keeps_freeCtr

def State.count_may : Nat :=
  State.draw_may
theorem count_keeps {M : Nat} {S0 : State} {s : State} (r : Reg) (i : Nat) (n : Nat) (w : Nat) (gs : Keeps M S0 s) (gm : State.count_may &&& M = State.count_may := by decide +kernel) (gr : may r &&& M = may r := by decide +kernel) :
    Keeps M S0 (State.count s r i n w) := by
  unfold State.count
  repeat' first
    | with_reducible assumption
    | refine keeps_fst (by with_reducible assumption) ?_
    | refine keeps_snd (by with_reducible assumption) ?_
    | intro _
    | with_reducible exact may_trans gm (by decide +kernel)
    | with_reducible apply keeps_ite | with_reducible apply draw_keeps | with_reducible apply keeps_wr | dsimp -zeta -zetaHave only
    | split

def State.tally_may : Nat :=
  may .COUNTER
theorem tally_keeps {M : Nat} {S0 : State} {s : State} (k : Nat) (n : Nat) (gs : Keeps M S0 s) (gm : State.tally_may &&& M = State.tally_may := by decide +kernel) :
    Keeps M S0 (State.tally s k n) := by
  unfold State.tally
  repeat' first
    | with_reducible assumption | intro _
    | with_reducible exact may_trans gm (by decide +kernel)
    | with_reducible apply keeps_ite | with_reducible apply keeps_wr | dsimp -zeta -zetaHave only

def State.wr48_may : Nat :=
  State.draw_may
theorem wr48_keeps {M : Nat} {S0 : State} {s : State} (r : Reg) (i : Nat) (v : Int) (gs : Keeps M S0 s) (gm : State.wr48_may &&& M = State.wr48_may := by decide +kernel) (gr : may r &&& M = may r := by decide +kernel) :
    Keeps M S0 (State.wr48 s r i v) := by
  unfold State.wr48
  repeat' first
    | with_reducible assumption
    | refine keeps_fst (by with_reducible assumption) ?_
    | refine keeps_snd (by with_reducible assumption) ?_
    | intro _
    | with_reducible exact may_trans gm (by decide +kernel)
    | with_reducible apply keeps_ite | with_reducible apply draw_keeps | with_reducible apply keeps_wr | dsimp -zeta -zetaHave only
    | split

theorem keepMax_keeps {M : Nat} {S0 : State} {s : State} (r : Reg) (i : Nat) (v : Int) (gs : Keeps M S0 s) (gr : may r &&& M = may r := by decide +kernel) :
    Keeps M S0 (State.keepMax s r i v) := by
  unfold State.keepMax
  repeat' first
    | with_reducible assumption
    | (intro x; refine keeps_cut (m := M) (s0 := S0) (x := x) ?_ ?_; all_goals first | (intro hx; clear_value x) | subst x)
    | (intro x; clear_value x)
    | intro _ | with_reducible apply keeps_ite | with_reducible apply keeps_wr | dsimp -zeta -zetaHave only | lift_lets -underBinder

def State.goOn_may : Nat :=
  may_was ||| may .DEVICE_TIME
theorem goOn_keeps {M : Nat} {S0 : State} {s : State} (t : Nat) (gs : Keeps M S0 s)
    (gm : State.goOn_may &&& M = State.goOn_may := by decide +kernel) : Keeps M S0 (State.goOn s t) :=
  keeps_wr (keeps_ite gs (keeps_was gs (may_trans gm (by decide +kernel)) (fun c => (gs.can c).regs) (fun c => (gs.can c).ledger))) _ _ _
    (may_trans gm (by decide +kernel))

def State.at_may : Nat :=
  State.goOn_may
theorem at_keeps {M : Nat} {S0 : State} {s : State} (t : Nat) (gs : Keeps M S0 s) (gm : State.at_may &&& M = State.at_may := by decide +kernel) :
    Keeps M S0 (State.at s t) := by
  unfold State.at
  repeat' first
    | with_reducible assumption | intro _
    | with_reducible exact may_trans gm (by decide +kernel)
    | with_reducible apply keeps_ite | with_reducible apply goOn_keeps | dsimp -zeta -zetaHave only | split

def State.raise_may : Nat :=
  may_fresh ||| may_freshAt
theorem raise_keeps {M : Nat} {S0 : State} {s : State} (r : Reg) (i m : Nat) (gs : Keeps M S0 s)
    (gm : State.raise_may &&& M = State.raise_may := by decide +kernel) (gr : may r &&& M = may r := by decide +kernel) :
    Keeps M S0 (State.raise s r i m) := by
  have h : S0.Canonical → Tbl.wf 0 (if s.freshAt = s.now then s.fresh else []) = true := by
    intro c0
    split
    · exact (gs.can c0).fresh
    · rfl
  exact keeps_freshAt (keeps_fresh (keeps_wr gs r i _ gr) (may_trans gm (by decide +kernel)) (fun c0 => Tbl.wf_tset (h c0)))
    (may_trans gm (by decide +kernel))

theorem lower_keeps {M : Nat} {S0 : State} {s : State} (r : Reg) (i m : Nat) (gs : Keeps M S0 s) (gr : may r &&& M = may r := by decide +kernel) :
    Keeps M S0 (State.lower s r i m) := by
  unfold State.lower
  repeat' first
    | with_reducible assumption | intro _ | with_reducible apply keeps_ite | with_reducible apply keeps_wr | dsimp -zeta -zetaHave only

def State.wrLed_may : Nat :=
  may_ledger
theorem wrLed_keeps {M : Nat} {S0 : State} {s : State} (n w : Nat) (v : Word64) (gs : Keeps M S0 s) (gm : State.wrLed_may &&& M = State.wrLed_may := by decide +kernel) :
    Keeps M S0 (State.wrLed s n w v) := by
  unfold State.wrLed
  repeat' first
    | with_reducible assumption
    | (intro x; refine keeps_cut (m := M) (s0 := S0) (x := x) ?_ ?_; all_goals first | (intro hx; clear_value x) | subst x)
    | (intro x; clear_value x)
    | intro _
    | with_reducible exact may_trans gm (by decide +kernel)
    | with_reducible apply keeps_ite
    | with_reducible exact Tbl.wf_nil
    | with_reducible apply Tbl.wf_tset | with_reducible apply Tbl.wf_filter | with_reducible apply Tbl.wf_tmap
    | with_reducible refine (Keeps.can (m := M) (s := S0) ?_ (by assumption)).ledger | dsimp -zeta -zetaHave only
    | lift_lets -underBinder | with_reducible apply keeps_ledger

-- Queues.lean

def State.wrQueue_may : Nat :=
  may_queues
theorem wrQueue_keeps {M : Nat} {S0 : State} {s : State} (q : Nat) (x : Queue) (gs : Keeps M S0 s) (gm : State.wrQueue_may &&& M = State.wrQueue_may := by decide +kernel) :
    Keeps M S0 (State.wrQueue s q x) := by
  unfold State.wrQueue
  repeat' first
    | with_reducible assumption
    | (intro x; refine keeps_cut (m := M) (s0 := S0) (x := x) ?_ ?_; all_goals first | (intro hx; clear_value x) | subst x)
    | (intro x; clear_value x)
    | intro _
    | with_reducible exact may_trans gm (by decide +kernel)
    | with_reducible apply keeps_ite
    | with_reducible exact Tbl.wf_nil
    | with_reducible apply Tbl.wf_tset | with_reducible apply Tbl.wf_filter | with_reducible apply Tbl.wf_tmap
    | with_reducible refine (Keeps.can (m := M) (s := S0) ?_ (by assumption)).queues | dsimp -zeta -zetaHave only
    | lift_lets -underBinder | with_reducible apply keeps_queues

def State.push_may : Nat :=
  may_fresh ||| may .COUNTER ||| may .HIGH_WATER ||| may .PACKETS ||| may .PUSHED ||| may .REFUSED ||| may .REWIND_VALID |||
  State.count_may ||| State.wrQueue_may
theorem push_keeps {M : Nat} {S0 : State} {s : State} (q : Nat) (p : Pkt) (gs : Keeps M S0 s) (gm : State.push_may &&& M = State.push_may := by decide +kernel) :
    Keeps M S0 (State.push s q p).1 := by
  unfold State.push
  repeat' first
    | with_reducible assumption
    | (intro x; refine keeps_cut (m := M) (s0 := S0) (x := x) ?_ ?_; all_goals first | (intro hx; clear_value x) | subst x)
    | (intro x; clear_value x)
    | intro _
    | with_reducible exact may_trans gm (by decide +kernel)
    | with_reducible apply keeps_ite | with_reducible apply keeps_ite1 | with_reducible apply keeps_ite2
    | with_reducible apply count_keeps | with_reducible apply keepMax_keeps | with_reducible apply wrQueue_keeps
    | with_reducible apply keeps_wr
    | with_reducible exact Tbl.wf_nil
    | with_reducible apply Tbl.wf_tset | with_reducible apply Tbl.wf_filter | with_reducible apply Tbl.wf_tmap
    | with_reducible refine (Keeps.can (m := M) (s := S0) ?_ (by assumption)).fresh | dsimp -zeta -zetaHave only | lift_lets -underBinder
    | split | with_reducible apply keeps_fresh

def State.pop_may : Nat :=
  may .POPPED ||| State.count_may ||| State.wrQueue_may
theorem pop_keeps {M : Nat} {S0 : State} {s : State} (q : Nat) (gs : Keeps M S0 s) (gm : State.pop_may &&& M = State.pop_may := by decide +kernel) :
    Keeps M S0 (State.pop s q).1 := by
  unfold State.pop
  repeat' first
    | with_reducible assumption
    | (intro x; refine keeps_cut (m := M) (s0 := S0) (x := x) ?_ ?_; all_goals first | (intro hx; clear_value x) | subst x)
    | (intro x; clear_value x)
    | intro _
    | with_reducible exact may_trans gm (by decide +kernel)
    | with_reducible apply keeps_ite | with_reducible apply keeps_ite1 | with_reducible apply keeps_ite2
    | with_reducible apply count_keeps | with_reducible apply wrQueue_keeps | dsimp -zeta -zetaHave only | lift_lets -underBinder | split

def State.unpop_may : Nat :=
  may .POPPED ||| State.wrQueue_may
theorem unpop_keeps {M : Nat} {S0 : State} {s : State} (q : Nat) (p : Pkt) (gs : Keeps M S0 s) (gm : State.unpop_may &&& M = State.unpop_may := by decide +kernel) :
    Keeps M S0 (State.unpop s q p) := by
  unfold State.unpop
  repeat' first
    | with_reducible assumption
    | (intro x; refine keeps_cut (m := M) (s0 := S0) (x := x) ?_ ?_; all_goals first | (intro hx; clear_value x) | subst x)
    | (intro x; clear_value x)
    | intro _
    | with_reducible exact may_trans gm (by decide +kernel)
    | with_reducible apply keeps_ite | with_reducible apply wrQueue_keeps | with_reducible apply keeps_wr | dsimp -zeta -zetaHave only
    | lift_lets -underBinder

def State.popSend_may : Nat :=
  may .REWIND_VALID ||| State.wrQueue_may ||| State.pop_may
theorem popSend_keeps {M : Nat} {S0 : State} {s : State} (q : Nat) (gs : Keeps M S0 s) (gm : State.popSend_may &&& M = State.popSend_may := by decide +kernel) :
    Keeps M S0 (State.popSend s q).1 := by
  unfold State.popSend
  repeat' first
    | with_reducible assumption
    | refine keeps_fst (by with_reducible assumption) ?_
    | refine keeps_snd (by with_reducible assumption) ?_
    | (intro x; refine keeps_cut (m := M) (s0 := S0) (x := x) ?_ ?_; all_goals first | (intro hx; clear_value x) | subst x)
    | (intro x; clear_value x)
    | intro _
    | with_reducible exact may_trans gm (by decide +kernel)
    | with_reducible apply keeps_ite | with_reducible apply keeps_ite1 | with_reducible apply keeps_ite2
    | with_reducible apply wrQueue_keeps | with_reducible apply pop_keeps | with_reducible apply keeps_wr | dsimp -zeta -zetaHave only
    | lift_lets -underBinder | split

def State.emptyQueue_may : Nat :=
  may .REWIND_VALID ||| State.wrQueue_may
theorem emptyQueue_keeps {M : Nat} {S0 : State} {s : State} (q : Nat) (gs : Keeps M S0 s) (gm : State.emptyQueue_may &&& M = State.emptyQueue_may := by decide +kernel) :
    Keeps M S0 (State.emptyQueue s q) := by
  unfold State.emptyQueue
  repeat' first
    | with_reducible assumption
    | (intro x; refine keeps_cut (m := M) (s0 := S0) (x := x) ?_ ?_; all_goals first | (intro hx; clear_value x) | subst x)
    | (intro x; clear_value x)
    | intro _
    | with_reducible exact may_trans gm (by decide +kernel)
    | with_reducible apply keeps_ite | with_reducible apply wrQueue_keeps | with_reducible apply keeps_wr | dsimp -zeta -zetaHave only
    | lift_lets -underBinder

def State.flushQueue_may : Nat :=
  may_fresh ||| State.wrQueue_may
theorem flushQueue_keeps {M : Nat} {S0 : State} {s : State} (n : Nat) (gs : Keeps M S0 s) (gm : State.flushQueue_may &&& M = State.flushQueue_may := by decide +kernel) :
    Keeps M S0 (State.flushQueue s n) := by
  unfold State.flushQueue
  repeat' first
    | with_reducible assumption
    | (intro x; refine keeps_cut (m := M) (s0 := S0) (x := x) ?_ ?_; all_goals first | (intro hx; clear_value x) | subst x)
    | (intro x; clear_value x)
    | intro _
    | with_reducible exact may_trans gm (by decide +kernel)
    | with_reducible apply keeps_ite | with_reducible apply wrQueue_keeps
    | with_reducible exact Tbl.wf_nil
    | with_reducible apply Tbl.wf_tset | with_reducible apply Tbl.wf_filter | with_reducible apply Tbl.wf_tmap
    | with_reducible refine (Keeps.can (m := M) (s := S0) ?_ (by assumption)).fresh | dsimp -zeta -zetaHave only | lift_lets -underBinder
    | with_reducible apply keeps_fresh

def State.trace_may : Nat :=
  may .TRACE_DROPS ||| may .dropPending ||| State.count_may ||| State.tally_may ||| State.push_may
theorem trace_keeps {M : Nat} {S0 : State} {s : State} (src v : Nat) (gs : Keeps M S0 s) (gm : State.trace_may &&& M = State.trace_may := by decide +kernel) :
    Keeps M S0 (State.trace s src v) := by
  unfold State.trace
  repeat' first
    | with_reducible assumption
    | refine keeps_fst (by with_reducible assumption) ?_
    | refine keeps_snd (by with_reducible assumption) ?_
    | (intro x; refine keeps_cut (m := M) (s0 := S0) (x := x) ?_ ?_; all_goals first | (intro hx; clear_value x) | subst x)
    | (intro x; clear_value x)
    | intro _
    | with_reducible exact may_trans gm (by decide +kernel)
    | with_reducible apply keeps_ite | with_reducible apply keeps_iff | with_reducible apply count_keeps
    | with_reducible apply tally_keeps | with_reducible apply push_keeps | with_reducible apply keeps_wr | dsimp -zeta -zetaHave only
    | lift_lets -underBinder | split

def State.traceIf_may : Nat :=
  State.trace_may
theorem traceIf_keeps {M : Nat} {S0 : State} {s : State} (src : Nat) (pass : Bool) (v : Nat) (gs : Keeps M S0 s) (gm : State.traceIf_may &&& M = State.traceIf_may := by decide +kernel) :
    Keeps M S0 (State.traceIf s src pass v) := by
  unfold State.traceIf
  repeat' first
    | with_reducible assumption | intro _
    | with_reducible exact may_trans gm (by decide +kernel)
    | with_reducible apply keeps_ite | with_reducible apply trace_keeps | dsimp -zeta -zetaHave only | split

def State.traceAxis_may : Nat :=
  State.traceIf_may
theorem traceAxis_keeps {M : Nat} {S0 : State} {s : State} (n b : Nat) (gs : Keeps M S0 s) (gm : State.traceAxis_may &&& M = State.traceAxis_may := by decide +kernel) :
    Keeps M S0 (State.traceAxis s n b) := by
  unfold State.traceAxis
  repeat' first
    | with_reducible assumption | intro _
    | with_reducible exact may_trans gm (by decide +kernel)
    | with_reducible apply keeps_ite | with_reducible apply traceIf_keeps | dsimp -zeta -zetaHave only

def State.event_may : Nat :=
  may .AXIS_EVENTS ||| State.raise_may ||| State.traceAxis_may
theorem event_keeps {M : Nat} {S0 : State} {s : State} (n b : Nat) (gs : Keeps M S0 s) (gm : State.event_may &&& M = State.event_may := by decide +kernel) :
    Keeps M S0 (State.event s n b) := by
  unfold State.event
  repeat' first
    | with_reducible assumption | intro _
    | with_reducible exact may_trans gm (by decide +kernel)
    | with_reducible apply keeps_ite | with_reducible apply raise_keeps | with_reducible apply traceAxis_keeps
    | dsimp -zeta -zetaHave only

def State.setAxis_may : Nat :=
  may .AXIS_STATE ||| State.traceAxis_may
theorem setAxis_keeps {M : Nat} {S0 : State} {s : State} (n : Nat) (v : Int) (gs : Keeps M S0 s) (gm : State.setAxis_may &&& M = State.setAxis_may := by decide +kernel) :
    Keeps M S0 (State.setAxis s n v) := by
  unfold State.setAxis
  repeat' first
    | with_reducible assumption | intro _
    | with_reducible exact may_trans gm (by decide +kernel)
    | with_reducible apply keeps_ite | with_reducible apply traceAxis_keeps | with_reducible apply keeps_wr | dsimp -zeta -zetaHave only
    | split

-- FaultLog.lean

def State.onRecord_may : Nat :=
  may_log ||| State.wrQueue_may
theorem onRecord_keeps {M : Nat} {S0 : State} {s : State} (o : Nat) (f : Rec → Rec) (gs : Keeps M S0 s)
    (gm : State.onRecord_may &&& M = State.onRecord_may := by decide +kernel) : Keeps M S0 (State.onRecord s o f) :=
  keeps_log (wrQueue_keeps 72 _ gs (may_trans gm (by decide +kernel))) (may_trans gm (by decide +kernel))
    (fun c0 => by rw [List.length_map]; exact (gs.can c0).log)

def State.setOpen_may : Nat :=
  may_opens
theorem setOpen_keeps {M : Nat} {S0 : State} {s : State} (b : Nat) (o : Option OpenRec) (gs : Keeps M S0 s) (gm : State.setOpen_may &&& M = State.setOpen_may := by decide +kernel) :
    Keeps M S0 (State.setOpen s b o) := by
  unfold State.setOpen
  repeat' first
    | with_reducible assumption
    | (intro x; refine keeps_cut (m := M) (s0 := S0) (x := x) ?_ ?_; all_goals first | (intro hx; clear_value x) | subst x)
    | (intro x; clear_value x)
    | intro _
    | with_reducible exact may_trans gm (by decide +kernel)
    | with_reducible apply keeps_ite
    | with_reducible exact Tbl.wf_nil
    | with_reducible apply Tbl.wf_tset | with_reducible apply Tbl.wf_filter | with_reducible apply Tbl.wf_tmap
    | with_reducible refine (Keeps.can (m := M) (s := S0) ?_ (by assumption)).opens | dsimp -zeta -zetaHave only | lift_lets -underBinder
    | with_reducible apply keeps_opens

def State.closeRec_may : Nat :=
  may .OPEN_ORDINAL ||| State.onRecord_may ||| State.setOpen_may
theorem closeRec_keeps {M : Nat} {S0 : State} {s : State} (b : Nat) (gs : Keeps M S0 s) (gm : State.closeRec_may &&& M = State.closeRec_may := by decide +kernel) :
    Keeps M S0 (State.closeRec s b) := by
  unfold State.closeRec
  repeat' first
    | with_reducible assumption
    | (intro x; refine keeps_cut (m := M) (s0 := S0) (x := x) ?_ ?_; all_goals first | (intro hx; clear_value x) | subst x)
    | (intro x; clear_value x)
    | intro _
    | with_reducible exact may_trans gm (by decide +kernel)
    | with_reducible apply keeps_ite | with_reducible apply onRecord_keeps | with_reducible apply setOpen_keeps
    | with_reducible apply keeps_wr | dsimp -zeta -zetaHave only | lift_lets -underBinder | split

def State.endCause_may : Nat :=
  may .CAUSES_PRESENT ||| State.closeRec_may
theorem endCause_keeps {M : Nat} {S0 : State} {s : State} (b c : Nat) (gs : Keeps M S0 s) (gm : State.endCause_may &&& M = State.endCause_may := by decide +kernel) :
    Keeps M S0 (State.endCause s b c) := by
  unfold State.endCause
  repeat' first
    | with_reducible assumption
    | (intro x; refine keeps_cut (m := M) (s0 := S0) (x := x) ?_ ?_; all_goals first | (intro hx; clear_value x) | subst x)
    | (intro x; clear_value x)
    | intro _
    | with_reducible exact may_trans gm (by decide +kernel)
    | with_reducible apply keeps_ite | with_reducible apply wrBit_keeps | with_reducible apply closeRec_keeps
    | dsimp -zeta -zetaHave only | lift_lets -underBinder | split

def State.mergeInto_may : Nat :=
  may .MERGES ||| may .OPEN_CAUSES ||| State.count_may ||| State.tally_may ||| State.onRecord_may
theorem mergeInto_keeps {M : Nat} {S0 : State} {s : State} (b c : Nat) (o : OpenRec) (gs : Keeps M S0 s) (gm : State.mergeInto_may &&& M = State.mergeInto_may := by decide +kernel) :
    Keeps M S0 (State.mergeInto s b c o) := by
  unfold State.mergeInto
  repeat' first
    | with_reducible assumption
    | (intro x; refine keeps_cut (m := M) (s0 := S0) (x := x) ?_ ?_; all_goals first | (intro hx; clear_value x) | subst x)
    | (intro x; clear_value x)
    | intro _
    | with_reducible exact may_trans gm (by decide +kernel)
    | with_reducible apply keeps_ite | with_reducible apply wrBit_keeps | with_reducible apply count_keeps
    | with_reducible apply tally_keeps | with_reducible apply onRecord_keeps | dsimp -zeta -zetaHave only | lift_lets -underBinder
    | split

def State.post_may : Nat :=
  may .HEAD_FIRST ||| may .HEAD_LAST ||| may .INCIDENTS ||| may .INCIDENT_OPEN ||| may .LAST_ORDINAL ||| may .NEWEST_ORDINAL ||| may
  .NEWEST_SEVERE ||| may .NEWEST_WARN ||| may .OPEN_CAUSES ||| may .OPEN_ORDINAL ||| may .POST_DROPS ||| may .RECORDS ||| may
  .aliveStop ||| may .headDone ||| may .incidentFirst ||| may .incidentPass ||| may .tripFrom ||| may .tripPending |||
  State.count_may ||| State.tally_may ||| State.push_may ||| State.traceIf_may ||| State.setOpen_may ||| State.closeRec_may
theorem post_keeps {M : Nat} {S0 : State} {s : State} (b c data : Nat) (opens : Bool) (gs : Keeps M S0 s) (gm : State.post_may &&& M = State.post_may := by decide +kernel) :
    Keeps M S0 (State.post s b c data opens) := by
  unfold State.post
  repeat' first
    | with_reducible assumption
    | refine keeps_fst (by with_reducible assumption) ?_
    | refine keeps_snd (by with_reducible assumption) ?_
    | (intro x; refine keeps_cut (m := M) (s0 := S0) (x := x) ?_ ?_; all_goals first | (intro hx; clear_value x) | subst x)
    | (intro x; clear_value x)
    | intro _
    | with_reducible exact may_trans gm (by decide +kernel)
    | with_reducible apply keeps_ite | with_reducible apply count_keeps | with_reducible apply tally_keeps
    | with_reducible apply push_keeps | with_reducible apply traceIf_keeps | with_reducible apply setOpen_keeps
    | with_reducible apply closeRec_keeps | with_reducible apply keeps_wr | dsimp -zeta -zetaHave only | lift_lets -underBinder | split

def State.detect_may : Nat :=
  may .CAUSES_LATCHED ||| may .CAUSES_PRESENT ||| State.raise_may ||| State.mergeInto_may ||| State.post_may
theorem detect_keeps {M : Nat} {S0 : State} {s : State} (b c : Nat) (data : Nat) (opens : Bool) (gs : Keeps M S0 s) (gm : State.detect_may &&& M = State.detect_may := by decide +kernel) :
    Keeps M S0 (State.detect s b c data opens) := by
  unfold State.detect
  repeat' first
    | with_reducible assumption
    | (intro x; refine keeps_cut (m := M) (s0 := S0) (x := x) ?_ ?_; all_goals first | (intro hx; clear_value x) | subst x)
    | (intro x; clear_value x)
    | intro _
    | with_reducible exact may_trans gm (by decide +kernel)
    | with_reducible apply keeps_ite | with_reducible apply wrBit_keeps | with_reducible apply raise_keeps
    | with_reducible apply mergeInto_keeps | with_reducible apply post_keeps | dsimp -zeta -zetaHave only | lift_lets -underBinder
    | split

def State.detectHeld_may : Nat :=
  State.detect_may
theorem detectHeld_keeps {M : Nat} {S0 : State} {s : State} (b c : Nat) (data : Nat) (gs : Keeps M S0 s) (gm : State.detectHeld_may &&& M = State.detectHeld_may := by decide +kernel) :
    Keeps M S0 (State.detectHeld s b c data) := by
  unfold State.detectHeld
  repeat' first
    | with_reducible assumption | intro _
    | with_reducible exact may_trans gm (by decide +kernel)
    | with_reducible apply keeps_ite | with_reducible apply detect_keeps | dsimp -zeta -zetaHave only | split

def State.detectAll_may : Nat :=
  State.detect_may
theorem detectAll_keeps {M : Nat} {S0 : State} {s : State} (l : List (Nat × Nat × Nat)) (gs : Keeps M S0 s) (gm : State.detectAll_may &&& M = State.detectAll_may := by decide +kernel) :
    Keeps M S0 (State.detectAll s l) := by
  unfold State.detectAll
  repeat' first
    | with_reducible assumption | intro _
    | with_reducible exact may_trans gm (by decide +kernel)
    | with_reducible apply keeps_ite | with_reducible apply keeps_foldl | with_reducible apply detect_keeps | dsimp -zeta -zetaHave only
    | split

def State.openShadow_may : Nat :=
  may_shadows
theorem openShadow_keeps {M : Nat} {S0 : State} {s : State} (b c : Nat) (covers : List (Nat × List Nat)) (ends : ShadowEnd) (gs : Keeps M S0 s) (gm : State.openShadow_may &&& M = State.openShadow_may := by decide +kernel) :
    Keeps M S0 (State.openShadow s b c covers ends) := by
  unfold State.openShadow
  repeat' first
    | with_reducible assumption
    | (intro x; refine keeps_cut (m := M) (s0 := S0) (x := x) ?_ ?_; all_goals first | (intro hx; clear_value x) | subst x)
    | (intro x; clear_value x)
    | intro _
    | with_reducible exact may_trans gm (by decide +kernel)
    | with_reducible apply keeps_ite | dsimp -zeta -zetaHave only | lift_lets -underBinder | with_reducible apply keeps_shadows

def State.endShadow_may : Nat :=
  may_shadows
theorem endShadow_keeps {M : Nat} {S0 : State} {s : State} (b c : Nat) (e : ShadowEnd) (gs : Keeps M S0 s) (gm : State.endShadow_may &&& M = State.endShadow_may := by decide +kernel) :
    Keeps M S0 (State.endShadow s b c e) := by
  unfold State.endShadow
  repeat' first
    | with_reducible assumption
    | (intro x; refine keeps_cut (m := M) (s0 := S0) (x := x) ?_ ?_; all_goals first | (intro hx; clear_value x) | subst x)
    | (intro x; clear_value x)
    | intro _
    | with_reducible exact may_trans gm (by decide +kernel)
    | with_reducible apply keeps_ite | dsimp -zeta -zetaHave only | lift_lets -underBinder | split | with_reducible apply keeps_shadows

def State.detectShadow_may : Nat :=
  State.detect_may ||| State.openShadow_may
theorem detectShadow_keeps {M : Nat} {S0 : State} {s : State} (b c data : Nat) (covers : List (Nat × List Nat)) (ends : ShadowEnd) (gs : Keeps M S0 s) (gm : State.detectShadow_may &&& M = State.detectShadow_may := by decide +kernel) :
    Keeps M S0 (State.detectShadow s b c data covers ends) := by
  unfold State.detectShadow
  repeat' first
    | with_reducible assumption
    | (intro x; refine keeps_cut (m := M) (s0 := S0) (x := x) ?_ ?_; all_goals first | (intro hx; clear_value x) | subst x)
    | (intro x; clear_value x)
    | intro _
    | with_reducible exact may_trans gm (by decide +kernel)
    | with_reducible apply keeps_ite | with_reducible apply detect_keeps | with_reducible apply openShadow_keeps
    | dsimp -zeta -zetaHave only | lift_lets -underBinder | split

def State.closeAtMark_may : Nat :=
  State.setOpen_may ||| State.closeRec_may
theorem closeAtMark_keeps {M : Nat} {S0 : State} {s : State} (gs : Keeps M S0 s) (gm : State.closeAtMark_may &&& M = State.closeAtMark_may := by decide +kernel) :
    Keeps M S0 (State.closeAtMark s) := by
  unfold State.closeAtMark
  repeat' first
    | with_reducible assumption
    | (intro x; refine keeps_cut (m := M) (s0 := S0) (x := x) ?_ ?_; all_goals first | (intro hx; clear_value x) | subst x)
    | (intro x; clear_value x)
    | intro _
    | with_reducible exact may_trans gm (by decide +kernel)
    | with_reducible apply keeps_ite | with_reducible apply keeps_foldl | with_reducible apply setOpen_keeps
    | with_reducible apply closeRec_keeps | dsimp -zeta -zetaHave only | lift_lets -underBinder | split

-- Moves.lean

def State.wrPlanner_may : Nat :=
  may_planners
theorem wrPlanner_keeps {M : Nat} {S0 : State} {s : State} (n : Nat) (p : Planner) (gs : Keeps M S0 s) (gm : State.wrPlanner_may &&& M = State.wrPlanner_may := by decide +kernel) :
    Keeps M S0 (State.wrPlanner s n p) := by
  unfold State.wrPlanner
  repeat' first
    | with_reducible assumption
    | (intro x; refine keeps_cut (m := M) (s0 := S0) (x := x) ?_ ?_; all_goals first | (intro hx; clear_value x) | subst x)
    | (intro x; clear_value x)
    | intro _
    | with_reducible exact may_trans gm (by decide +kernel)
    | with_reducible apply keeps_ite
    | with_reducible exact Tbl.wf_nil
    | with_reducible apply Tbl.wf_tset | with_reducible apply Tbl.wf_filter | with_reducible apply Tbl.wf_tmap
    | with_reducible refine (Keeps.can (m := M) (s := S0) ?_ (by assumption)).planners | dsimp -zeta -zetaHave only
    | lift_lets -underBinder | with_reducible apply keeps_planners

def State.takeLimits_may : Nat :=
  may .deferMove ||| may .effA ||| may .effD ||| may .effJ ||| may .effV ||| may .limNew
theorem takeLimits_keeps {M : Nat} {S0 : State} {s : State} (n : Nat) (gs : Keeps M S0 s) (gm : State.takeLimits_may &&& M = State.takeLimits_may := by decide +kernel) :
    Keeps M S0 (State.takeLimits s n) := by
  unfold State.takeLimits
  repeat' first
    | with_reducible assumption
    | (intro x; refine keeps_cut (m := M) (s0 := S0) (x := x) ?_ ?_; all_goals first | (intro hx; clear_value x) | subst x)
    | (intro x; clear_value x)
    | intro _
    | with_reducible exact may_trans gm (by decide +kernel)
    | with_reducible apply keeps_ite | with_reducible apply keeps_wr | dsimp -zeta -zetaHave only | lift_lets -underBinder

def State.endDeferral_may : Nat :=
  may .DEFERRED
theorem endDeferral_keeps {M : Nat} {S0 : State} {s : State} (n : Nat) (gs : Keeps M S0 s) (gm : State.endDeferral_may &&& M = State.endDeferral_may := by decide +kernel) :
    Keeps M S0 (State.endDeferral s n) := by
  unfold State.endDeferral
  repeat' first
    | with_reducible assumption
    | (intro x; refine keeps_cut (m := M) (s0 := S0) (x := x) ?_ ?_; all_goals first | (intro hx; clear_value x) | subst x)
    | (intro x; clear_value x)
    | intro _
    | with_reducible exact may_trans gm (by decide +kernel)
    | with_reducible apply keeps_ite | with_reducible apply keeps_wr | dsimp -zeta -zetaHave only | lift_lets -underBinder

def State.completeRec_may : Nat :=
  may .ACTIVE_KIND ||| may .LAST_DONE_TAG ||| may .readyAt ||| State.event_may ||| State.wrPlanner_may
theorem completeRec_keeps {M : Nat} {S0 : State} {s : State} (n : Nat) (gs : Keeps M S0 s) (gm : State.completeRec_may &&& M = State.completeRec_may := by decide +kernel) :
    Keeps M S0 (State.completeRec s n) := by
  unfold State.completeRec
  repeat' first
    | with_reducible assumption
    | (intro x; refine keeps_cut (m := M) (s0 := S0) (x := x) ?_ ?_; all_goals first | (intro hx; clear_value x) | subst x)
    | (intro x; clear_value x)
    | intro _
    | with_reducible exact may_trans gm (by decide +kernel)
    | with_reducible apply keeps_ite | with_reducible apply event_keeps | with_reducible apply wrPlanner_keeps
    | with_reducible apply keeps_wr | dsimp -zeta -zetaHave only | lift_lets -underBinder | split

def State.completeAtMark_may : Nat :=
  may .finPend ||| may .finTag ||| State.wrPlanner_may
theorem completeAtMark_keeps {M : Nat} {S0 : State} {s : State} (n : Nat) (gs : Keeps M S0 s) (gm : State.completeAtMark_may &&& M = State.completeAtMark_may := by decide +kernel) :
    Keeps M S0 (State.completeAtMark s n) := by
  unfold State.completeAtMark
  repeat' first
    | with_reducible assumption
    | (intro x; refine keeps_cut (m := M) (s0 := S0) (x := x) ?_ ?_; all_goals first | (intro hx; clear_value x) | subst x)
    | (intro x; clear_value x)
    | intro _
    | with_reducible exact may_trans gm (by decide +kernel)
    | with_reducible apply keeps_ite | with_reducible apply wrPlanner_keeps | with_reducible apply keeps_wr | dsimp -zeta -zetaHave only
    | lift_lets -underBinder | split

def State.dropRelease_may : Nat :=
  may .RELEASE_PENDING ||| may .relLate ||| may .relWait
theorem dropRelease_keeps {M : Nat} {S0 : State} {s : State} (n : Nat) (gs : Keeps M S0 s) (gm : State.dropRelease_may &&& M = State.dropRelease_may := by decide +kernel) :
    Keeps M S0 (State.dropRelease s n) := by
  unfold State.dropRelease
  repeat' first
    | with_reducible assumption | intro _
    | with_reducible exact may_trans gm (by decide +kernel)
    | with_reducible apply keeps_ite | with_reducible apply keeps_wr | dsimp -zeta -zetaHave only

def State.dropCall_may : Nat :=
  may_calls
theorem dropCall_keeps {M : Nat} {S0 : State} {s : State} (n : Nat) (gs : Keeps M S0 s) (gm : State.dropCall_may &&& M = State.dropCall_may := by decide +kernel) :
    Keeps M S0 (State.dropCall s n) := by
  unfold State.dropCall
  repeat' first
    | with_reducible assumption
    | (intro x; refine keeps_cut (m := M) (s0 := S0) (x := x) ?_ ?_; all_goals first | (intro hx; clear_value x) | subst x)
    | (intro x; clear_value x)
    | intro _
    | with_reducible exact may_trans gm (by decide +kernel)
    | with_reducible apply keeps_ite
    | with_reducible exact Tbl.wf_nil
    | with_reducible apply Tbl.wf_tset | with_reducible apply Tbl.wf_filter | with_reducible apply Tbl.wf_tmap
    | with_reducible refine (Keeps.can (m := M) (s := S0) ?_ (by assumption)).calls | dsimp -zeta -zetaHave only | lift_lets -underBinder
    | split | with_reducible apply keeps_calls

def State.mergePend_may : Nat :=
  may .EX_MIN_INDEX ||| may .exPend
theorem mergePend_keeps {M : Nat} {S0 : State} {s : State} (n : Nat) (gs : Keeps M S0 s) (gm : State.mergePend_may &&& M = State.mergePend_may := by decide +kernel) :
    Keeps M S0 (State.mergePend s n) := by
  unfold State.mergePend
  repeat' first
    | with_reducible assumption | intro _
    | with_reducible exact may_trans gm (by decide +kernel)
    | with_reducible apply keeps_ite | with_reducible apply keeps_wr | dsimp -zeta -zetaHave only

def State.dropAssign_may : Nat :=
  may .asgPend ||| may .asgStall
theorem dropAssign_keeps {M : Nat} {S0 : State} {s : State} (n : Nat) (gs : Keeps M S0 s) (gm : State.dropAssign_may &&& M = State.dropAssign_may := by decide +kernel) :
    Keeps M S0 (State.dropAssign s n) := by
  unfold State.dropAssign
  repeat' first
    | with_reducible assumption | intro _
    | with_reducible exact may_trans gm (by decide +kernel)
    | with_reducible apply keeps_ite | with_reducible apply keeps_wr | dsimp -zeta -zetaHave only

def State.exerciseEnd_may : Nat :=
  may .EX_COUNT ||| may .EX_FAILS ||| may .EX_RESULT ||| may .EX_TIME ||| State.count_may ||| State.event_may ||| State.detect_may
  ||| State.mergePend_may
theorem exerciseEnd_keeps {M : Nat} {S0 : State} {s : State} (n r : Nat) (gs : Keeps M S0 s) (gm : State.exerciseEnd_may &&& M = State.exerciseEnd_may := by decide +kernel) :
    Keeps M S0 (State.exerciseEnd s n r) := by
  unfold State.exerciseEnd
  repeat' first
    | with_reducible assumption
    | (intro x; refine keeps_cut (m := M) (s0 := S0) (x := x) ?_ ?_; all_goals first | (intro hx; clear_value x) | subst x)
    | (intro x; clear_value x)
    | intro _
    | with_reducible exact may_trans gm (by decide +kernel)
    | with_reducible apply keeps_ite | with_reducible apply keeps_iff | with_reducible apply count_keeps
    | with_reducible apply event_keeps | with_reducible apply detect_keeps | with_reducible apply mergePend_keeps
    | with_reducible apply keeps_wr | dsimp -zeta -zetaHave only | lift_lets -underBinder | split

def State.homeResult_may : Nat :=
  may .HOME_RESULT ||| may .brPersist ||| may .hmFoundAt ||| may .hmPhase ||| State.event_may ||| State.detect_may |||
  State.exerciseEnd_may
theorem homeResult_keeps {M : Nat} {S0 : State} {s : State} (n m r : Nat) (gs : Keeps M S0 s) (gm : State.homeResult_may &&& M = State.homeResult_may := by decide +kernel) :
    Keeps M S0 (State.homeResult s n m r) := by
  unfold State.homeResult
  repeat' first
    | with_reducible assumption
    | (intro x; refine keeps_cut (m := M) (s0 := S0) (x := x) ?_ ?_; all_goals first | (intro hx; clear_value x) | subst x)
    | (intro x; clear_value x)
    | intro _
    | with_reducible exact may_trans gm (by decide +kernel)
    | with_reducible apply keeps_ite | with_reducible apply wrBit_keeps | with_reducible apply event_keeps
    | with_reducible apply detect_keeps | with_reducible apply exerciseEnd_keeps | with_reducible apply keeps_wr
    | dsimp -zeta -zetaHave only | lift_lets -underBinder | split

def State.dropHome_may : Nat :=
  State.dropAssign_may ||| State.homeResult_may
theorem dropHome_keeps {M : Nat} {S0 : State} {s : State} (n : Nat) (gs : Keeps M S0 s) (gm : State.dropHome_may &&& M = State.dropHome_may := by decide +kernel) :
    Keeps M S0 (State.dropHome s n) := by
  unfold State.dropHome
  repeat' first
    | with_reducible assumption | intro _
    | with_reducible exact may_trans gm (by decide +kernel)
    | with_reducible apply keeps_ite | with_reducible apply dropAssign_keeps | with_reducible apply homeResult_keeps
    | dsimp -zeta -zetaHave only | split

def State.abandon_may : Nat :=
  State.completeRec_may ||| State.dropRelease_may ||| State.dropCall_may ||| State.dropHome_may
theorem abandon_keeps {M : Nat} {S0 : State} {s : State} (n : Nat) (gs : Keeps M S0 s) (gm : State.abandon_may &&& M = State.abandon_may := by decide +kernel) :
    Keeps M S0 (State.abandon s n) := by
  unfold State.abandon
  repeat' first
    | with_reducible assumption | intro _
    | with_reducible exact may_trans gm (by decide +kernel)
    | with_reducible apply keeps_ite | with_reducible apply completeRec_keeps | with_reducible apply dropRelease_keeps
    | with_reducible apply dropCall_keeps | with_reducible apply dropHome_keeps | dsimp -zeta -zetaHave only

def State.halt_may : Nat :=
  may .SADDLE_PENDING ||| may .TARGET ||| may .goalKind ||| may .goalQ ||| may .incHeld ||| may .incPlan ||| may .incShadow |||
  State.wrPlanner_may ||| State.endDeferral_may
theorem halt_keeps {M : Nat} {S0 : State} {s : State} (n : Nat) (gs : Keeps M S0 s) (gm : State.halt_may &&& M = State.halt_may := by decide +kernel) :
    Keeps M S0 (State.halt s n) := by
  unfold State.halt
  repeat' first
    | with_reducible assumption
    | (intro x; refine keeps_cut (m := M) (s0 := S0) (x := x) ?_ ?_; all_goals first | (intro hx; clear_value x) | subst x)
    | (intro x; clear_value x)
    | intro _
    | with_reducible exact may_trans gm (by decide +kernel)
    | with_reducible apply keeps_ite | with_reducible apply wrPlanner_keeps | with_reducible apply endDeferral_keeps
    | with_reducible apply keeps_wr | dsimp -zeta -zetaHave only | lift_lets -underBinder

def State.clampTarget_may : Nat :=
  may .CLAMP_COUNT ||| may .CLAMP_REQUEST ||| State.count_may ||| State.wr48_may ||| State.event_may
theorem clampTarget_keeps {M : Nat} {S0 : State} {s : State} (n : Nat) (k : Kin) (T : Int) (shift : Int) (gs : Keeps M S0 s) (gm : State.clampTarget_may &&& M = State.clampTarget_may := by decide +kernel) :
    Keeps M S0 (State.clampTarget s n k T shift).1 := by
  unfold State.clampTarget
  repeat' first
    | with_reducible assumption
    | (intro x; refine keeps_cut (m := M) (s0 := S0) (x := x) ?_ ?_; all_goals first | (intro hx; clear_value x) | subst x)
    | (intro x; clear_value x)
    | intro _
    | with_reducible exact may_trans gm (by decide +kernel)
    | with_reducible apply keeps_ite | with_reducible apply keeps_ite1 | with_reducible apply keeps_ite2
    | with_reducible apply count_keeps | with_reducible apply wr48_keeps | with_reducible apply event_keeps | dsimp -zeta -zetaHave only
    | lift_lets -underBinder | split

def State.setPlan_may : Nat :=
  may .SADDLE_PENDING ||| may .SADDLE_POS ||| State.wrPlanner_may
theorem setPlan_keeps {M : Nat} {S0 : State} {s : State} (n : Nat) (p : Plan) (gs : Keeps M S0 s) (gm : State.setPlan_may &&& M = State.setPlan_may := by decide +kernel) :
    Keeps M S0 (State.setPlan s n p) := by
  unfold State.setPlan
  repeat' first
    | with_reducible assumption
    | (intro x; refine keeps_cut (m := M) (s0 := S0) (x := x) ?_ ?_; all_goals first | (intro hx; clear_value x) | subst x)
    | (intro x; clear_value x)
    | intro _
    | with_reducible exact may_trans gm (by decide +kernel)
    | with_reducible apply keeps_ite | with_reducible apply wrPlanner_keeps | with_reducible apply keeps_wr | dsimp -zeta -zetaHave only
    | lift_lets -underBinder | split

def State.replan_may : Nat :=
  State.setPlan_may
theorem replan_keeps {M : Nat} {S0 : State} {s : State} (n : Nat) (gs : Keeps M S0 s) (gm : State.replan_may &&& M = State.replan_may := by decide +kernel) :
    Keeps M S0 (State.replan s n) := by
  unfold State.replan
  repeat' first
    | with_reducible assumption
    | (intro x; refine keeps_cut (m := M) (s0 := S0) (x := x) ?_ ?_; all_goals first | (intro hx; clear_value x) | subst x)
    | (intro x; clear_value x)
    | intro _
    | with_reducible exact may_trans gm (by decide +kernel)
    | with_reducible apply keeps_ite | with_reducible apply setPlan_keeps | dsimp -zeta -zetaHave only | lift_lets -underBinder | split

def State.newMove_may : Nat :=
  may .TARGET ||| may .goalCap ||| may .goalKind ||| may .goalQ ||| State.takeLimits_may ||| State.endDeferral_may |||
  State.clampTarget_may ||| State.replan_may
theorem newMove_keeps {M : Nat} {S0 : State} {s : State} (n : Nat) (T : Int) (cap : Nat) (shift : Int) (gs : Keeps M S0 s) (gm : State.newMove_may &&& M = State.newMove_may := by decide +kernel) :
    Keeps M S0 (State.newMove s n T cap shift) := by
  unfold State.newMove
  repeat' first
    | with_reducible assumption
    | refine keeps_fst (by with_reducible assumption) ?_
    | refine keeps_snd (by with_reducible assumption) ?_
    | (intro x; refine keeps_cut (m := M) (s0 := S0) (x := x) ?_ ?_; all_goals first | (intro hx; clear_value x) | subst x)
    | (intro x; clear_value x)
    | intro _
    | with_reducible exact may_trans gm (by decide +kernel)
    | with_reducible apply keeps_ite | with_reducible apply takeLimits_keeps | with_reducible apply endDeferral_keeps
    | with_reducible apply clampTarget_keeps | with_reducible apply replan_keeps | with_reducible apply keeps_wr
    | dsimp -zeta -zetaHave only | lift_lets -underBinder | split

def State.velMove_may : Nat :=
  may .TARGET ||| may .goalCap ||| may .goalKind ||| may .goalQ ||| may .velGoal ||| State.takeLimits_may ||| State.endDeferral_may
  ||| State.clampTarget_may ||| State.replan_may
theorem velMove_keeps {M : Nat} {S0 : State} {s : State} (n : Nat) (v : Int) (neg : Bool) (gs : Keeps M S0 s) (gm : State.velMove_may &&& M = State.velMove_may := by decide +kernel) :
    Keeps M S0 (State.velMove s n v neg) := by
  unfold State.velMove
  repeat' first
    | with_reducible assumption
    | refine keeps_fst (by with_reducible assumption) ?_
    | refine keeps_snd (by with_reducible assumption) ?_
    | (intro x; refine keeps_cut (m := M) (s0 := S0) (x := x) ?_ ?_; all_goals first | (intro hx; clear_value x) | subst x)
    | (intro x; clear_value x)
    | intro _
    | with_reducible exact may_trans gm (by decide +kernel)
    | with_reducible apply keeps_ite | with_reducible apply takeLimits_keeps | with_reducible apply endDeferral_keeps
    | with_reducible apply clampTarget_keeps | with_reducible apply replan_keeps | with_reducible apply keeps_wr
    | dsimp -zeta -zetaHave only | lift_lets -underBinder | split

def State.stopMove_may : Nat :=
  may .TARGET ||| may .goalKind ||| may .goalQ ||| State.endDeferral_may ||| State.clampTarget_may ||| State.setPlan_may
theorem stopMove_keeps {M : Nat} {S0 : State} {s : State} (n : Nat) (gs : Keeps M S0 s) (gm : State.stopMove_may &&& M = State.stopMove_may := by decide +kernel) :
    Keeps M S0 (State.stopMove s n) := by
  unfold State.stopMove
  repeat' first
    | with_reducible assumption
    | refine keeps_fst (by with_reducible assumption) ?_
    | refine keeps_snd (by with_reducible assumption) ?_
    | (intro x; refine keeps_cut (m := M) (s0 := S0) (x := x) ?_ ?_; all_goals first | (intro hx; clear_value x) | subst x)
    | (intro x; clear_value x)
    | intro _
    | with_reducible exact may_trans gm (by decide +kernel)
    | with_reducible apply keeps_ite | with_reducible apply endDeferral_keeps | with_reducible apply clampTarget_keeps
    | with_reducible apply setPlan_keeps | with_reducible apply keeps_wr | dsimp -zeta -zetaHave only | lift_lets -underBinder | split

def State.applyLimits_may : Nat :=
  may .DEFERRED ||| may .REQUIRED_DECEL ||| may .REQUIRED_JERK ||| may .deferMove ||| may .effA ||| may .effD ||| may .effJ ||| may
  .effV ||| may .limNew ||| State.event_may ||| State.replan_may
theorem applyLimits_keeps {M : Nat} {S0 : State} {s : State} (n : Nat) (gs : Keeps M S0 s) (gm : State.applyLimits_may &&& M = State.applyLimits_may := by decide +kernel) :
    Keeps M S0 (State.applyLimits s n) := by
  unfold State.applyLimits
  repeat' first
    | with_reducible assumption
    | (intro x; refine keeps_cut (m := M) (s0 := S0) (x := x) ?_ ?_; all_goals first | (intro hx; clear_value x) | subst x)
    | (intro x; clear_value x)
    | intro _
    | with_reducible exact may_trans gm (by decide +kernel)
    | with_reducible apply keeps_ite | with_reducible apply wrBit_keeps | with_reducible apply event_keeps
    | with_reducible apply replan_keeps | with_reducible apply keeps_wr | dsimp -zeta -zetaHave only | lift_lets -underBinder | split

def State.noteSaddle_may : Nat :=
  may .sadDue
theorem noteSaddle_keeps {M : Nat} {S0 : State} {s : State} (n : Nat) (gs : Keeps M S0 s) (gm : State.noteSaddle_may &&& M = State.noteSaddle_may := by decide +kernel) :
    Keeps M S0 (State.noteSaddle s n) := by
  unfold State.noteSaddle
  repeat' first
    | with_reducible assumption
    | (intro x; refine keeps_cut (m := M) (s0 := S0) (x := x) ?_ ?_; all_goals first | (intro hx; clear_value x) | subst x)
    | (intro x; clear_value x)
    | intro _
    | with_reducible exact may_trans gm (by decide +kernel)
    | with_reducible apply keeps_ite | with_reducible apply keeps_wr | dsimp -zeta -zetaHave only | lift_lets -underBinder | split

def State.advance_may : Nat :=
  may .incPlan ||| State.at_may ||| State.wrPlanner_may
theorem advance_keeps {M : Nat} {S0 : State} {s : State} (n : Nat) (gs : Keeps M S0 s) (gm : State.advance_may &&& M = State.advance_may := by decide +kernel) :
    Keeps M S0 (State.advance s n) := by
  unfold State.advance
  repeat' first
    | with_reducible assumption
    | (intro x; refine keeps_cut (m := M) (s0 := S0) (x := x) ?_ ?_; all_goals first | (intro hx; clear_value x) | subst x)
    | (intro x; clear_value x)
    | intro _
    | with_reducible exact may_trans gm (by decide +kernel)
    | with_reducible apply keeps_ite | with_reducible apply at_keeps | with_reducible apply wrPlanner_keeps
    | with_reducible apply keeps_wr | dsimp -zeta -zetaHave only | lift_lets -underBinder | split

def State.finRec_may : Nat :=
  may .ACTIVE_KIND ||| may .LAST_DONE_TAG ||| State.event_may
theorem finRec_keeps {M : Nat} {S0 : State} {s : State} (n : Nat) (gs : Keeps M S0 s) (gm : State.finRec_may &&& M = State.finRec_may := by decide +kernel) :
    Keeps M S0 (State.finRec s n) := by
  unfold State.finRec
  repeat' first
    | with_reducible assumption
    | (intro x; refine keeps_cut (m := M) (s0 := S0) (x := x) ?_ ?_; all_goals first | (intro hx; clear_value x) | subst x)
    | (intro x; clear_value x)
    | intro _
    | with_reducible exact may_trans gm (by decide +kernel)
    | with_reducible apply keeps_ite | with_reducible apply keeps_iff | with_reducible apply event_keeps | with_reducible apply keeps_wr
    | dsimp -zeta -zetaHave only | lift_lets -underBinder | split

def State.dropFin_may : Nat :=
  may .finHome ||| may .finPend ||| State.homeResult_may ||| State.finRec_may
theorem dropFin_keeps {M : Nat} {S0 : State} {s : State} (n : Nat) (gs : Keeps M S0 s) (gm : State.dropFin_may &&& M = State.dropFin_may := by decide +kernel) :
    Keeps M S0 (State.dropFin s n) := by
  unfold State.dropFin
  repeat' first
    | with_reducible assumption
    | (intro x; refine keeps_cut (m := M) (s0 := S0) (x := x) ?_ ?_; all_goals first | (intro hx; clear_value x) | subst x)
    | (intro x; clear_value x)
    | intro _
    | with_reducible exact may_trans gm (by decide +kernel)
    | with_reducible apply keeps_ite | with_reducible apply homeResult_keeps | with_reducible apply finRec_keeps
    | with_reducible apply keeps_wr | dsimp -zeta -zetaHave only | lift_lets -underBinder | split

def State.stopAxis_may : Nat :=
  may .FOLLOW_STATE ||| may .discPend ||| may .followPend ||| may .stopPend ||| may .tgtPend ||| State.setAxis_may |||
  State.abandon_may ||| State.halt_may ||| State.dropFin_may
theorem stopAxis_keeps {M : Nat} {S0 : State} {s : State} (n : Nat) (state : Int) (gs : Keeps M S0 s) (gm : State.stopAxis_may &&& M = State.stopAxis_may := by decide +kernel) :
    Keeps M S0 (State.stopAxis s n state) := by
  unfold State.stopAxis
  repeat' first
    | with_reducible assumption
    | (intro x; refine keeps_cut (m := M) (s0 := S0) (x := x) ?_ ?_; all_goals first | (intro hx; clear_value x) | subst x)
    | (intro x; clear_value x)
    | intro _
    | with_reducible exact may_trans gm (by decide +kernel)
    | with_reducible apply keeps_ite | with_reducible apply setAxis_keeps | with_reducible apply abandon_keeps
    | with_reducible apply halt_keeps | with_reducible apply dropFin_keeps | with_reducible apply keeps_wr | dsimp -zeta -zetaHave only
    | lift_lets -underBinder | split

-- Status.lean

def State.setMode_may : Nat :=
  may .MODE ||| may .MODE_CAUSE ||| may .MODE_PREV ||| may .MODE_TIME ||| State.tally_may
theorem setMode_keeps {M : Nat} {S0 : State} {s : State} (m c : Nat) (gs : Keeps M S0 s) (gm : State.setMode_may &&& M = State.setMode_may := by decide +kernel) :
    Keeps M S0 (State.setMode s m c) := by
  unfold State.setMode
  repeat' first
    | with_reducible assumption
    | (intro x; refine keeps_cut (m := M) (s0 := S0) (x := x) ?_ ?_; all_goals first | (intro hx; clear_value x) | subst x)
    | (intro x; clear_value x)
    | intro _
    | with_reducible exact may_trans gm (by decide +kernel)
    | with_reducible apply keeps_ite | with_reducible apply keeps_iff | with_reducible apply tally_keeps | with_reducible apply keeps_wr
    | dsimp -zeta -zetaHave only | lift_lets -underBinder | split

def State.followDeg_may : Nat :=
  State.setMode_may
theorem followDeg_keeps {M : Nat} {S0 : State} {s : State} (gs : Keeps M S0 s) (gm : State.followDeg_may &&& M = State.followDeg_may := by decide +kernel) :
    Keeps M S0 (State.followDeg s) := by
  unfold State.followDeg
  repeat' first
    | with_reducible assumption | intro _
    | with_reducible exact may_trans gm (by decide +kernel)
    | with_reducible apply keeps_ite | with_reducible apply setMode_keeps | dsimp -zeta -zetaHave only | split

def State.setRed_may : Nat :=
  may .REDUNDANCY ||| State.followDeg_may
theorem setRed_keeps {M : Nat} {S0 : State} {s : State} (b : Nat) (v : Bool) (gs : Keeps M S0 s) (gm : State.setRed_may &&& M = State.setRed_may := by decide +kernel) :
    Keeps M S0 (State.setRed s b v) := by
  unfold State.setRed
  repeat' first
    | with_reducible assumption | intro _
    | with_reducible exact may_trans gm (by decide +kernel)
    | with_reducible apply keeps_ite | with_reducible apply wrBit_keeps | with_reducible apply followDeg_keeps
    | dsimp -zeta -zetaHave only

def State.cfg_may : Nat :=
  may .CFG_CHANGED ||| State.raise_may
theorem cfg_keeps {M : Nat} {S0 : State} {s : State} (b : Nat) (gs : Keeps M S0 s) (gm : State.cfg_may &&& M = State.cfg_may := by decide +kernel) :
    Keeps M S0 (State.cfg s b) := by
  unfold State.cfg
  repeat' first
    | with_reducible assumption
    | (intro x; refine keeps_cut (m := M) (s0 := S0) (x := x) ?_ ?_; all_goals first | (intro hx; clear_value x) | subst x)
    | (intro x; clear_value x)
    | intro _
    | with_reducible exact may_trans gm (by decide +kernel)
    | with_reducible apply keeps_ite | with_reducible apply raise_keeps | dsimp -zeta -zetaHave only | lift_lets -underBinder

def State.checkSync_may : Nat :=
  State.endCause_may ||| State.detectHeld_may
theorem checkSync_keeps {M : Nat} {S0 : State} {s : State} (gs : Keeps M S0 s) (gm : State.checkSync_may &&& M = State.checkSync_may := by decide +kernel) :
    Keeps M S0 (State.checkSync s) := by
  unfold State.checkSync
  repeat' first
    | with_reducible assumption | intro _
    | with_reducible exact may_trans gm (by decide +kernel)
    | with_reducible apply keeps_ite | with_reducible apply endCause_keeps | with_reducible apply detectHeld_keeps
    | dsimp -zeta -zetaHave only | split

def State.fire_may : Nat :=
  may .INJECTIONS ||| may .INJECT_STATE ||| may .injecting ||| State.count_may
theorem fire_keeps {M : Nat} {S0 : State} {s : State} (gs : Keeps M S0 s) (gm : State.fire_may &&& M = State.fire_may := by decide +kernel) :
    Keeps M S0 (State.fire s) := by
  unfold State.fire
  repeat' first
    | with_reducible assumption | intro _
    | with_reducible exact may_trans gm (by decide +kernel)
    | with_reducible apply keeps_ite | with_reducible apply count_keeps | with_reducible apply keeps_wr | dsimp -zeta -zetaHave only

def State.unfire_may : Nat :=
  may .injecting
theorem unfire_keeps {M : Nat} {S0 : State} {s : State} (gs : Keeps M S0 s) (gm : State.unfire_may &&& M = State.unfire_may := by decide +kernel) :
    Keeps M S0 (State.unfire s) := by
  unfold State.unfire
  repeat' first
    | with_reducible assumption
    | (intro x; refine keeps_cut (m := M) (s0 := S0) (x := x) ?_ ?_; all_goals first | (intro hx; clear_value x) | subst x)
    | (intro x; clear_value x)
    | intro _
    | with_reducible exact may_trans gm (by decide +kernel)
    | with_reducible apply keeps_ite | with_reducible apply keeps_wr | dsimp -zeta -zetaHave only | lift_lets -underBinder

def State.check_may : Nat :=
  State.fire_may ||| State.unfire_may
theorem check_keeps {M : Nat} {S0 : State} {s : State} (c k : Nat) (f : State → Option Nat → State) (gs : Keeps M S0 s)
    (gm : State.check_may &&& M = State.check_may := by decide +kernel) (hf : ∀ s o, Keeps M S0 s → Keeps M S0 (f s o)) :
    Keeps M S0 (State.check s c k f) := by
  unfold State.check
  split
  · exact unfire_keeps (hf _ _ (fire_keeps gs (may_trans gm (by decide +kernel)))) (may_trans gm (by decide +kernel))
  · exact hf _ _ gs

-- Follow.lean

def State.srcUpdate_may : Nat :=
  may .srcAt ||| may .srcFrom ||| may .srcGoal ||| may .srcNew ||| may .srcSpan
theorem srcUpdate_keeps {M : Nat} {S0 : State} {s : State} (n : Nat) (P : Int) (gs : Keeps M S0 s) (gm : State.srcUpdate_may &&& M = State.srcUpdate_may := by decide +kernel) :
    Keeps M S0 (State.srcUpdate s n P) := by
  unfold State.srcUpdate
  repeat' first
    | with_reducible assumption
    | (intro x; refine keeps_cut (m := M) (s0 := S0) (x := x) ?_ ?_; all_goals first | (intro hx; clear_value x) | subst x)
    | (intro x; clear_value x)
    | intro _
    | with_reducible exact may_trans gm (by decide +kernel)
    | with_reducible apply keeps_ite | with_reducible apply keeps_wr | dsimp -zeta -zetaHave only | lift_lets -underBinder | split

def State.updateFollowers_may : Nat :=
  State.srcUpdate_may
theorem updateFollowers_keeps {M : Nat} {S0 : State} {s : State} (k num : Nat) (p : Int) (gs : Keeps M S0 s) (gm : State.updateFollowers_may &&& M = State.updateFollowers_may := by decide +kernel) :
    Keeps M S0 (State.updateFollowers s k num p) := by
  unfold State.updateFollowers
  repeat' first
    | with_reducible assumption | intro _
    | with_reducible exact may_trans gm (by decide +kernel)
    | with_reducible apply keeps_ite | with_reducible apply keeps_forList | with_reducible apply srcUpdate_keeps
    | dsimp -zeta -zetaHave only | split

def State.shiftSource_may : Nat :=
  may .soOrg ||| may .srcFrom ||| may .srcGoal ||| may .srcMark ||| may .srcPrev ||| may .srcQ
theorem shiftSource_keeps {M : Nat} {S0 : State} {s : State} (n : Nat) (d : Int) (gs : Keeps M S0 s) (gm : State.shiftSource_may &&& M = State.shiftSource_may := by decide +kernel) :
    Keeps M S0 (State.shiftSource s n d) := by
  unfold State.shiftSource
  repeat' first
    | with_reducible assumption
    | (intro x; refine keeps_cut (m := M) (s0 := S0) (x := x) ?_ ?_; all_goals first | (intro hx; clear_value x) | subst x)
    | (intro x; clear_value x)
    | intro _
    | with_reducible exact may_trans gm (by decide +kernel)
    | with_reducible apply keeps_ite | with_reducible apply keeps_wr | dsimp -zeta -zetaHave only | lift_lets -underBinder | split

def State.takeSample_may : Nat :=
  may_streams ||| may .STREAM_GAPS ||| may .STREAM_LATE ||| may .srcLost ||| may .streamSeq ||| State.count_may
theorem takeSample_keeps {M : Nat} {S0 : State} {s : State} (n : Nat) (x : Sample) (gs : Keeps M S0 s) (gm : State.takeSample_may &&& M = State.takeSample_may := by decide +kernel) :
    Keeps M S0 (State.takeSample s n x) := by
  unfold State.takeSample
  repeat' first
    | with_reducible assumption
    | (intro x; refine keeps_cut (m := M) (s0 := S0) (x := x) ?_ ?_; all_goals first | (intro hx; clear_value x) | subst x)
    | (intro x; clear_value x)
    | intro _
    | with_reducible exact may_trans gm (by decide +kernel)
    | with_reducible apply keeps_ite | with_reducible apply keeps_iff | with_reducible apply count_keeps | with_reducible apply keeps_wr
    | with_reducible exact Tbl.wf_nil
    | with_reducible apply Tbl.wf_tset | with_reducible apply Tbl.wf_filter | with_reducible apply Tbl.wf_tmap
    | with_reducible refine (Keeps.can (m := M) (s := S0) ?_ (by assumption)).streams | dsimp -zeta -zetaHave only
    | lift_lets -underBinder | split | with_reducible apply keeps_streams

def State.followMark_may : Nat :=
  may .markDen ||| may .markNum ||| may .srcMark
theorem followMark_keeps {M : Nat} {S0 : State} {s : State} (n : Nat) (gs : Keeps M S0 s) (gm : State.followMark_may &&& M = State.followMark_may := by decide +kernel) :
    Keeps M S0 (State.followMark s n) := by
  unfold State.followMark
  repeat' first
    | with_reducible assumption
    | (intro x; refine keeps_cut (m := M) (s0 := S0) (x := x) ?_ ?_; all_goals first | (intro hx; clear_value x) | subst x)
    | (intro x; clear_value x)
    | intro _
    | with_reducible exact may_trans gm (by decide +kernel)
    | with_reducible apply keeps_ite | with_reducible apply keeps_wr | dsimp -zeta -zetaHave only | lift_lets -underBinder | split

def State.takeRatio_may : Nat :=
  may .effDen ||| may .effNum ||| may .foOrg ||| may .soOrg
theorem takeRatio_keeps {M : Nat} {S0 : State} {s : State} (n : Nat) (gs : Keeps M S0 s) (gm : State.takeRatio_may &&& M = State.takeRatio_may := by decide +kernel) :
    Keeps M S0 (State.takeRatio s n) := by
  unfold State.takeRatio
  repeat' first
    | with_reducible assumption
    | (intro x; refine keeps_cut (m := M) (s0 := S0) (x := x) ?_ ?_; all_goals first | (intro hx; clear_value x) | subst x)
    | (intro x; clear_value x)
    | intro _
    | with_reducible exact may_trans gm (by decide +kernel)
    | with_reducible apply keeps_ite | with_reducible apply keeps_wr | dsimp -zeta -zetaHave only | lift_lets -underBinder | split

def State.formGear_may : Nat :=
  may_fresh ||| may .GEARED_VEL ||| may .SOURCE_POS ||| may .foOrg ||| may .gearPrev ||| may .gearQ ||| may .origWait ||| may .soOrg
  ||| may .srcOk ||| may .srcPrev ||| may .srcQ ||| State.takeRatio_may
theorem formGear_keeps {M : Nat} {S0 : State} {s : State} (n t : Nat) (gs : Keeps M S0 s) (gm : State.formGear_may &&& M = State.formGear_may := by decide +kernel) :
    Keeps M S0 (State.formGear s n t) := by
  unfold State.formGear
  repeat' first
    | with_reducible assumption
    | (intro x; refine keeps_cut (m := M) (s0 := S0) (x := x) ?_ ?_; all_goals first | (intro hx; clear_value x) | subst x)
    | (intro x; clear_value x)
    | intro _
    | with_reducible exact may_trans gm (by decide +kernel)
    | with_reducible apply keeps_ite | with_reducible apply takeRatio_keeps | with_reducible apply keeps_wr | dsimp -zeta -zetaHave only
    | lift_lets -underBinder | split

def State.engage_may : Nat :=
  may .END_CAUSE ||| may .FOLLOW_LAG ||| may .FOLLOW_STATE ||| may .effDen ||| may .effNum ||| may .engagedAt ||| may .foOrg ||| may
  .followPend ||| may .origWait ||| may .srcNew ||| State.setAxis_may ||| State.abandon_may
theorem engage_keeps {M : Nat} {S0 : State} {s : State} (n : Nat) (x : Int) (gs : Keeps M S0 s) (gm : State.engage_may &&& M = State.engage_may := by decide +kernel) :
    Keeps M S0 (State.engage s n x) := by
  unfold State.engage
  repeat' first
    | with_reducible assumption
    | (intro x; refine keeps_cut (m := M) (s0 := S0) (x := x) ?_ ?_; all_goals first | (intro hx; clear_value x) | subst x)
    | (intro x; clear_value x)
    | intro _
    | with_reducible exact may_trans gm (by decide +kernel)
    | with_reducible apply keeps_ite | with_reducible apply setAxis_keeps | with_reducible apply abandon_keeps
    | with_reducible apply keeps_wr | dsimp -zeta -zetaHave only | lift_lets -underBinder

def execStreamTimeout_may : Nat :=
  may .srcLost ||| State.at_may
theorem execStreamTimeout_keeps {M : Nat} {S0 : State} (t : Nat) (n : Fin 64) {s : State} (gs : Keeps M S0 s) (gm : execStreamTimeout_may &&& M = execStreamTimeout_may := by decide +kernel) :
    KeepsO M S0 (execStreamTimeout t n s) := by
  unfold execStreamTimeout
  repeat' first
    | with_reducible assumption
    | (intro x; refine keeps_cut (m := M) (s0 := S0) (x := x) ?_ ?_; all_goals first | (intro hx; clear_value x) | subst x)
    | (intro x; clear_value x)
    | intro _
    | with_reducible exact may_trans gm (by decide +kernel)
    | with_reducible apply keeps_ite | with_reducible apply at_keeps | with_reducible apply keeps_wr | with_reducible apply keepsO_next
    | with_reducible apply keepsO_ite
    | exact keepsO_fault
    | dsimp -zeta -zetaHave only | lift_lets -underBinder | split

def execStepEdge_may : Nat :=
  may .DIR_SETUP_VIOL ||| may .OVERRATE ||| may .STEP_COUNT ||| may .stepAt ||| State.count_may ||| State.wr48_may ||| State.at_may
  ||| State.updateFollowers_may
theorem execStepEdge_keeps {M : Nat} {S0 : State} (t : Nat) (pair : Fin 8) (dirHigh : Bool) (dirAge : Nat) {s : State} (gs : Keeps M S0 s) (gm : execStepEdge_may &&& M = execStepEdge_may := by decide +kernel) :
    KeepsO M S0 (execStepEdge t pair dirHigh dirAge s) := by
  unfold execStepEdge
  repeat' first
    | with_reducible assumption
    | (intro x; refine keeps_cut (m := M) (s0 := S0) (x := x) ?_ ?_; all_goals first | (intro hx; clear_value x) | subst x)
    | (intro x; clear_value x)
    | intro _
    | with_reducible exact may_trans gm (by decide +kernel)
    | with_reducible apply keeps_ite | with_reducible apply keeps_iff | with_reducible apply count_keeps
    | with_reducible apply wr48_keeps | with_reducible apply at_keeps | with_reducible apply updateFollowers_keeps
    | with_reducible apply keeps_wr | with_reducible apply keepsO_next | with_reducible apply keepsO_ite
    | exact keepsO_fault
    | dsimp -zeta -zetaHave only | lift_lets -underBinder | split

def execPairFault_may : Nat :=
  may .PAIR_FAULT ||| may .pairAt ||| State.at_may
theorem execPairFault_keeps {M : Nat} {S0 : State} (t : Nat) (pair : Fin 8) (on : Bool) {s : State} (gs : Keeps M S0 s) (gm : execPairFault_may &&& M = execPairFault_may := by decide +kernel) :
    KeepsO M S0 (execPairFault t pair on s) := by
  unfold execPairFault
  repeat' first
    | with_reducible assumption
    | (intro x; refine keeps_cut (m := M) (s0 := S0) (x := x) ?_ ?_; all_goals first | (intro hx; clear_value x) | subst x)
    | (intro x; clear_value x)
    | intro _
    | with_reducible exact may_trans gm (by decide +kernel)
    | with_reducible apply keeps_ite | with_reducible apply keeps_iff | with_reducible apply at_keeps | with_reducible apply keeps_wr
    | with_reducible apply keepsO_next | with_reducible apply keepsO_ite
    | exact keepsO_fault
    | dsimp -zeta -zetaHave only | lift_lets -underBinder | split

-- Waits.lean

def State.pollWait_may : Nat :=
  State.completeRec_may
theorem pollWait_keeps {M : Nat} {S0 : State} {s : State} (n : Nat) (gs : Keeps M S0 s) (gm : State.pollWait_may &&& M = State.pollWait_may := by decide +kernel) :
    Keeps M S0 (State.pollWait s n) := by
  unfold State.pollWait
  repeat' first
    | with_reducible assumption | intro _
    | with_reducible exact may_trans gm (by decide +kernel)
    | with_reducible apply keeps_ite | with_reducible apply completeRec_keeps | dsimp -zeta -zetaHave only | split

def State.pollInstant_may : Nat :=
  may .readyAt ||| State.completeRec_may
theorem pollInstant_keeps {M : Nat} {S0 : State} {s : State} (n : Nat) (gs : Keeps M S0 s) (gm : State.pollInstant_may &&& M = State.pollInstant_may := by decide +kernel) :
    Keeps M S0 (State.pollInstant s n) := by
  unfold State.pollInstant
  repeat' first
    | with_reducible assumption
    | (intro x; refine keeps_cut (m := M) (s0 := S0) (x := x) ?_ ?_; all_goals first | (intro hx; clear_value x) | subst x)
    | (intro x; clear_value x)
    | intro _
    | with_reducible exact may_trans gm (by decide +kernel)
    | with_reducible apply keeps_ite | with_reducible apply keeps_iff | with_reducible apply completeRec_keeps
    | with_reducible apply keeps_wr | dsimp -zeta -zetaHave only | lift_lets -underBinder | split

def State.pollWaits_may : Nat :=
  State.pollWait_may
theorem pollWaits_keeps {M : Nat} {S0 : State} {s : State} (gs : Keeps M S0 s) (gm : State.pollWaits_may &&& M = State.pollWaits_may := by decide +kernel) :
    Keeps M S0 (State.pollWaits s) := by
  unfold State.pollWaits
  repeat' first
    | with_reducible assumption
    | (intro x; refine keeps_cut (m := M) (s0 := S0) (x := x) ?_ ?_; all_goals first | (intro hx; clear_value x) | subst x)
    | (intro x; clear_value x)
    | intro _
    | with_reducible exact may_trans gm (by decide +kernel)
    | with_reducible apply keeps_ite | with_reducible apply keeps_forAll | with_reducible apply pollWait_keeps
    | dsimp -zeta -zetaHave only | lift_lets -underBinder

def State.senseWait_may : Nat :=
  State.completeRec_may ||| State.pollWait_may
theorem senseWait_keeps {M : Nat} {S0 : State} {s : State} (i : Nat) (rise : Bool) (n : Nat) (gs : Keeps M S0 s) (gm : State.senseWait_may &&& M = State.senseWait_may := by decide +kernel) :
    Keeps M S0 (State.senseWait s i rise n) := by
  unfold State.senseWait
  repeat' first
    | with_reducible assumption | intro _
    | with_reducible exact may_trans gm (by decide +kernel)
    | with_reducible apply keeps_ite | with_reducible apply completeRec_keeps | with_reducible apply pollWait_keeps
    | dsimp -zeta -zetaHave only | split

def State.timeOut_may : Nat :=
  may .WAIT_TIMEOUTS ||| State.count_may ||| State.flushQueue_may ||| State.event_may ||| State.completeRec_may
theorem timeOut_keeps {M : Nat} {S0 : State} {s : State} (n : Nat) (gs : Keeps M S0 s) (gm : State.timeOut_may &&& M = State.timeOut_may := by decide +kernel) :
    Keeps M S0 (State.timeOut s n) := by
  unfold State.timeOut
  repeat' first
    | with_reducible assumption
    | (intro x; refine keeps_cut (m := M) (s0 := S0) (x := x) ?_ ?_; all_goals first | (intro hx; clear_value x) | subst x)
    | (intro x; clear_value x)
    | intro _
    | with_reducible exact may_trans gm (by decide +kernel)
    | with_reducible apply keeps_ite | with_reducible apply count_keeps | with_reducible apply flushQueue_keeps
    | with_reducible apply event_keeps | with_reducible apply completeRec_keeps | dsimp -zeta -zetaHave only | lift_lets -underBinder
    | split

def execWaitTimeout_may : Nat :=
  State.at_may ||| State.pollWait_may ||| State.timeOut_may
theorem execWaitTimeout_keeps {M : Nat} {S0 : State} (t : Nat) (n : Fin 64) {s : State} (gs : Keeps M S0 s) (gm : execWaitTimeout_may &&& M = execWaitTimeout_may := by decide +kernel) :
    KeepsO M S0 (execWaitTimeout t n s) := by
  unfold execWaitTimeout
  repeat' first
    | with_reducible assumption
    | (intro x; refine keeps_cut (m := M) (s0 := S0) (x := x) ?_ ?_; all_goals first | (intro hx; clear_value x) | subst x)
    | (intro x; clear_value x)
    | intro _
    | with_reducible exact may_trans gm (by decide +kernel)
    | with_reducible apply keeps_ite | with_reducible apply at_keeps | with_reducible apply pollWait_keeps
    | with_reducible apply timeOut_keeps | with_reducible apply keepsO_next | with_reducible apply keepsO_ite
    | exact keepsO_fault
    | dsimp -zeta -zetaHave only | lift_lets -underBinder | split

end Sys2Proof.Machine
end

