-- ==== Sys2Proof/Laws/KeepsAxes.lean ====
section
/-! SUPPORT. One lemma per operation: all that it may change, that the waiting commands stay, and that the canonical form is kept. Here:
feedback channels, clocks, currents and bridges. `X_may` is the mask of what the operation `X` may change. -/
namespace Sys2Proof.Machine

set_option Elab.async false
set_option linter.unusedTactic false
set_option linter.unreachableTactic false

-- Feedback.lean

def State.chEvent_may : Nat :=
  may .CH_EVENTS ||| State.raise_may
theorem chEvent_keeps {M : Nat} {S0 : State} {s : State} (c b : Nat) (gs : Keeps M S0 s) (gm : State.chEvent_may &&& M = State.chEvent_may := by decide +kernel) :
    Keeps M S0 (State.chEvent s c b) := by
  unfold State.chEvent
  repeat' first
    | with_reducible assumption
    | (intro x; refine keeps_cut (m := M) (s0 := S0) (x := x) ?_ ?_; all_goals first | (intro hx; clear_value x) | subst x)
    | (intro x; clear_value x)
    | intro _
    | with_reducible exact may_trans gm (by decide +kernel)
    | with_reducible apply keeps_ite | with_reducible apply raise_keeps | dsimp -zeta -zetaHave only | lift_lets -underBinder

def State.devOff_may : Nat :=
  may .DEV_VALID
theorem devOff_keeps {M : Nat} {S0 : State} {s : State} (c : Nat) (gs : Keeps M S0 s) (gm : State.devOff_may &&& M = State.devOff_may := by decide +kernel) :
    Keeps M S0 (State.devOff s c) := by
  unfold State.devOff
  repeat' first
    | with_reducible assumption
    | (intro x; refine keeps_cut (m := M) (s0 := S0) (x := x) ?_ ?_; all_goals first | (intro hx; clear_value x) | subst x)
    | (intro x; clear_value x)
    | intro _
    | with_reducible exact may_trans gm (by decide +kernel)
    | with_reducible apply keeps_ite | with_reducible apply keeps_forList | with_reducible apply keeps_wr | dsimp -zeta -zetaHave only
    | lift_lets -underBinder | split

def State.chInvalid_may : Nat :=
  may .CH_FLAGS ||| State.detectHeld_may ||| State.devOff_may
theorem chInvalid_keeps {M : Nat} {S0 : State} {s : State} (c : Nat) (gs : Keeps M S0 s) (gm : State.chInvalid_may &&& M = State.chInvalid_may := by decide +kernel) :
    Keeps M S0 (State.chInvalid s c) := by
  unfold State.chInvalid
  repeat' first
    | with_reducible assumption | intro _
    | with_reducible exact may_trans gm (by decide +kernel)
    | with_reducible apply keeps_ite | with_reducible apply wrBit_keeps | with_reducible apply detectHeld_keeps
    | with_reducible apply devOff_keeps | dsimp -zeta -zetaHave only

def State.chValid_may : Nat :=
  may .CH_FLAGS ||| may .fbAlignPend ||| State.endCause_may
theorem chValid_keeps {M : Nat} {S0 : State} {s : State} (c : Nat) (gs : Keeps M S0 s) (gm : State.chValid_may &&& M = State.chValid_may := by decide +kernel) :
    Keeps M S0 (State.chValid s c) := by
  unfold State.chValid
  repeat' first
    | with_reducible assumption
    | (intro x; refine keeps_cut (m := M) (s0 := S0) (x := x) ?_ ?_; all_goals first | (intro hx; clear_value x) | subst x)
    | (intro x; clear_value x)
    | intro _
    | with_reducible exact may_trans gm (by decide +kernel)
    | with_reducible apply keeps_ite | with_reducible apply keeps_forList | with_reducible apply wrBit_keeps
    | with_reducible apply endCause_keeps | with_reducible apply keeps_wr | dsimp -zeta -zetaHave only | lift_lets -underBinder | split

def State.chUpdate_may : Nat :=
  State.updateFollowers_may
theorem chUpdate_keeps {M : Nat} {S0 : State} {s : State} (c : Nat) (gs : Keeps M S0 s) (gm : State.chUpdate_may &&& M = State.chUpdate_may := by decide +kernel) :
    Keeps M S0 (State.chUpdate s c) := by
  unfold State.chUpdate
  repeat' first
    | with_reducible assumption | intro _
    | with_reducible exact may_trans gm (by decide +kernel)
    | with_reducible apply keeps_ite | with_reducible apply updateFollowers_keeps | dsimp -zeta -zetaHave only | split

def State.chSet_may : Nat :=
  may .CH_FLAGS ||| may .SAT_EDGES ||| may .chCount ||| State.count_may ||| State.endCause_may ||| State.detectHeld_may
theorem chSet_keeps {M : Nat} {S0 : State} {s : State} (c : Nat) (v : Int) (gs : Keeps M S0 s) (gm : State.chSet_may &&& M = State.chSet_may := by decide +kernel) :
    Keeps M S0 (State.chSet s c v) := by
  unfold State.chSet
  repeat' first
    | with_reducible assumption
    | (intro x; refine keeps_cut (m := M) (s0 := S0) (x := x) ?_ ?_; all_goals first | (intro hx; clear_value x) | subst x)
    | (intro x; clear_value x)
    | intro _
    | with_reducible exact may_trans gm (by decide +kernel)
    | with_reducible apply keeps_ite | with_reducible apply wrBit_keeps | with_reducible apply count_keeps
    | with_reducible apply endCause_keeps | with_reducible apply detectHeld_keeps | with_reducible apply keeps_wr
    | dsimp -zeta -zetaHave only | lift_lets -underBinder | split

def State.chBounds_may : Nat :=
  may .CH_FLAGS ||| may .CH_POS ||| may .chCount ||| State.endCause_may
theorem chBounds_keeps {M : Nat} {S0 : State} {s : State} (c : Nat) (gs : Keeps M S0 s) (gm : State.chBounds_may &&& M = State.chBounds_may := by decide +kernel) :
    Keeps M S0 (State.chBounds s c) := by
  unfold State.chBounds
  repeat' first
    | with_reducible assumption
    | (intro x; refine keeps_cut (m := M) (s0 := S0) (x := x) ?_ ?_; all_goals first | (intro hx; clear_value x) | subst x)
    | (intro x; clear_value x)
    | intro _
    | with_reducible exact may_trans gm (by decide +kernel)
    | with_reducible apply keeps_ite | with_reducible apply keeps_iff | with_reducible apply wrBit_keeps
    | with_reducible apply endCause_keeps | with_reducible apply keeps_wr | dsimp -zeta -zetaHave only | lift_lets -underBinder | split

def State.pushEdge_may : Nat :=
  may .edgeT1 ||| may .edgeT2 ||| may .edgeT3 ||| may .edgeT4 ||| may .edgeT5
theorem pushEdge_keeps {M : Nat} {S0 : State} {s : State} (c : Nat) (gs : Keeps M S0 s) (gm : State.pushEdge_may &&& M = State.pushEdge_may := by decide +kernel) :
    Keeps M S0 (State.pushEdge s c) := by
  unfold State.pushEdge
  repeat' first
    | with_reducible assumption
    | (intro x; refine keeps_cut (m := M) (s0 := S0) (x := x) ?_ ?_; all_goals first | (intro hx; clear_value x) | subst x)
    | (intro x; clear_value x)
    | intro _
    | with_reducible exact may_trans gm (by decide +kernel)
    | with_reducible apply keeps_ite | with_reducible apply keeps_wr | dsimp -zeta -zetaHave only | lift_lets -underBinder

def State.speedEdge_may : Nat :=
  may .CH_FLAGS ||| may .CH_SPEED ||| may .edgeAt ||| may .edgeDir ||| may .edgeDt ||| may .edgeN ||| State.pushEdge_may
theorem speedEdge_keeps {M : Nat} {S0 : State} {s : State} (c : Nat) (d : Int) (gs : Keeps M S0 s) (gm : State.speedEdge_may &&& M = State.speedEdge_may := by decide +kernel) :
    Keeps M S0 (State.speedEdge s c d) := by
  unfold State.speedEdge
  repeat' first
    | with_reducible assumption
    | (intro x; refine keeps_cut (m := M) (s0 := S0) (x := x) ?_ ?_; all_goals first | (intro hx; clear_value x) | subst x)
    | (intro x; clear_value x)
    | intro _
    | with_reducible exact may_trans gm (by decide +kernel)
    | with_reducible apply keeps_ite | with_reducible apply wrBit_keeps | with_reducible apply pushEdge_keeps
    | with_reducible apply keeps_wr | dsimp -zeta -zetaHave only | lift_lets -underBinder | split

def State.illegalEdge_may : Nat :=
  may .CH_FLAGS ||| may .ILLEGAL_COUNT ||| may .edgeN ||| may .illegalAt ||| may .illegalWin ||| State.count_may ||| State.tally_may
  ||| State.detect_may ||| State.chEvent_may ||| State.chInvalid_may ||| State.pushEdge_may
theorem illegalEdge_keeps {M : Nat} {S0 : State} {s : State} (c : Nat) (gs : Keeps M S0 s) (gm : State.illegalEdge_may &&& M = State.illegalEdge_may := by decide +kernel) :
    Keeps M S0 (State.illegalEdge s c) := by
  unfold State.illegalEdge
  repeat' first
    | with_reducible assumption
    | (intro x; refine keeps_cut (m := M) (s0 := S0) (x := x) ?_ ?_; all_goals first | (intro hx; clear_value x) | subst x)
    | (intro x; clear_value x)
    | intro _
    | with_reducible exact may_trans gm (by decide +kernel)
    | with_reducible apply keeps_ite | with_reducible apply wrBit_keeps | with_reducible apply count_keeps
    | with_reducible apply tally_keeps | with_reducible apply detect_keeps | with_reducible apply chEvent_keeps
    | with_reducible apply chInvalid_keeps | with_reducible apply pushEdge_keeps | with_reducible apply keeps_wr
    | dsimp -zeta -zetaHave only | lift_lets -underBinder | split

def execQuadratureEdge_may : Nat :=
  may .lineAtA ||| may .lineAtB ||| may .qState ||| State.at_may ||| State.chUpdate_may ||| State.chSet_may ||| State.speedEdge_may
  ||| State.illegalEdge_may
theorem execQuadratureEdge_keeps {M : Nat} {S0 : State} (t : Nat) (c : Fin 16) (a b : Bool) {s : State} (gs : Keeps M S0 s) (gm : execQuadratureEdge_may &&& M = execQuadratureEdge_may := by decide +kernel) :
    KeepsO M S0 (execQuadratureEdge t c a b s) := by
  unfold execQuadratureEdge
  repeat' first
    | with_reducible assumption
    | (intro x; refine keeps_cut (m := M) (s0 := S0) (x := x) ?_ ?_; all_goals first | (intro hx; clear_value x) | subst x)
    | (intro x; clear_value x)
    | intro _
    | with_reducible exact may_trans gm (by decide +kernel)
    | with_reducible apply keeps_ite | with_reducible apply keeps_iff | with_reducible apply at_keeps
    | with_reducible apply chUpdate_keeps | with_reducible apply chSet_keeps | with_reducible apply speedEdge_keeps
    | with_reducible apply illegalEdge_keeps | with_reducible apply keeps_wr | with_reducible apply keepsO_next
    | with_reducible apply keepsO_ite
    | exact keepsO_fault
    | dsimp -zeta -zetaHave only | lift_lets -underBinder | split

def State.indexDeviates_may : Nat :=
  may .CORR_COUNT ||| may .INDEX_DEV_COUNT ||| may .LAST_DEV ||| may .OUT_WINDOW_COUNT ||| State.count_may ||| State.detect_may |||
  State.chEvent_may ||| State.chUpdate_may ||| State.chSet_may
theorem indexDeviates_keeps {M : Nat} {S0 : State} {s : State} (c : Nat) (dev : Int) (gs : Keeps M S0 s) (gm : State.indexDeviates_may &&& M = State.indexDeviates_may := by decide +kernel) :
    Keeps M S0 (State.indexDeviates s c dev) := by
  unfold State.indexDeviates
  repeat' first
    | with_reducible assumption
    | (intro x; refine keeps_cut (m := M) (s0 := S0) (x := x) ?_ ?_; all_goals first | (intro hx; clear_value x) | subst x)
    | (intro x; clear_value x)
    | intro _
    | with_reducible exact may_trans gm (by decide +kernel)
    | with_reducible apply keeps_ite | with_reducible apply count_keeps | with_reducible apply detect_keeps
    | with_reducible apply chEvent_keeps | with_reducible apply chUpdate_keeps | with_reducible apply chSet_keeps
    | with_reducible apply keeps_wr | dsimp -zeta -zetaHave only | lift_lets -underBinder | split

def execIndex_may : Nat :=
  may .CH_FLAGS ||| may .SKIPPED_INDEX ||| may .Z_POS ||| may .Z_TIME ||| may .idxRef ||| may .lineAtZ ||| State.count_may |||
  State.at_may ||| State.indexDeviates_may
theorem execIndex_keeps {M : Nat} {S0 : State} (t : Nat) (c : Fin 16) {s : State} (gs : Keeps M S0 s) (gm : execIndex_may &&& M = execIndex_may := by decide +kernel) :
    KeepsO M S0 (execIndex t c s) := by
  unfold execIndex
  repeat' first
    | with_reducible assumption
    | (intro x; refine keeps_cut (m := M) (s0 := S0) (x := x) ?_ ?_; all_goals first | (intro hx; clear_value x) | subst x)
    | (intro x; clear_value x)
    | intro _
    | with_reducible exact may_trans gm (by decide +kernel)
    | with_reducible apply keeps_ite | with_reducible apply wrBit_keeps | with_reducible apply count_keeps
    | with_reducible apply at_keeps | with_reducible apply indexDeviates_keeps | with_reducible apply keeps_wr
    | with_reducible apply keepsO_next | with_reducible apply keepsO_ite
    | exact keepsO_fault
    | dsimp -zeta -zetaHave only | lift_lets -underBinder | split

def execSpeedTimeout_may : Nat :=
  may .CH_FLAGS ||| may .CH_SPEED ||| may .edgeN ||| State.at_may
theorem execSpeedTimeout_keeps {M : Nat} {S0 : State} (t : Nat) (c : Fin 16) {s : State} (gs : Keeps M S0 s) (gm : execSpeedTimeout_may &&& M = execSpeedTimeout_may := by decide +kernel) :
    KeepsO M S0 (execSpeedTimeout t c s) := by
  unfold execSpeedTimeout
  repeat' first
    | with_reducible assumption
    | (intro x; refine keeps_cut (m := M) (s0 := S0) (x := x) ?_ ?_; all_goals first | (intro hx; clear_value x) | subst x)
    | (intro x; clear_value x)
    | intro _
    | with_reducible exact may_trans gm (by decide +kernel)
    | with_reducible apply keeps_ite | with_reducible apply wrBit_keeps | with_reducible apply at_keeps | with_reducible apply keeps_wr
    | with_reducible apply keepsO_next | with_reducible apply keepsO_ite
    | exact keepsO_fault
    | dsimp -zeta -zetaHave only | lift_lets -underBinder | split

def State.speedAtMark_may : Nat :=
  may .CH_SPEED
theorem speedAtMark_keeps {M : Nat} {S0 : State} {s : State} (c : Nat) (gs : Keeps M S0 s) (gm : State.speedAtMark_may &&& M = State.speedAtMark_may := by decide +kernel) :
    Keeps M S0 (State.speedAtMark s c) := by
  unfold State.speedAtMark
  repeat' first
    | with_reducible assumption
    | (intro x; refine keeps_cut (m := M) (s0 := S0) (x := x) ?_ ?_; all_goals first | (intro hx; clear_value x) | subst x)
    | (intro x; clear_value x)
    | intro _
    | with_reducible exact may_trans gm (by decide +kernel)
    | with_reducible apply keeps_ite | with_reducible apply keeps_wr | dsimp -zeta -zetaHave only | lift_lets -underBinder | split

def State.badFrame_may : Nat :=
  may .FRAME_ERRORS ||| may .absErr ||| State.count_may ||| State.detect_may ||| State.chEvent_may ||| State.chInvalid_may
theorem badFrame_keeps {M : Nat} {S0 : State} {s : State} (c : Nat) (gs : Keeps M S0 s) (gm : State.badFrame_may &&& M = State.badFrame_may := by decide +kernel) :
    Keeps M S0 (State.badFrame s c) := by
  unfold State.badFrame
  repeat' first
    | with_reducible assumption
    | (intro x; refine keeps_cut (m := M) (s0 := S0) (x := x) ?_ ?_; all_goals first | (intro hx; clear_value x) | subst x)
    | (intro x; clear_value x)
    | intro _
    | with_reducible exact may_trans gm (by decide +kernel)
    | with_reducible apply keeps_ite | with_reducible apply count_keeps | with_reducible apply detect_keeps
    | with_reducible apply chEvent_keeps | with_reducible apply chInvalid_keeps | with_reducible apply keeps_wr
    | dsimp -zeta -zetaHave only | lift_lets -underBinder | split

def State.ssiLate_may : Nat :=
  may .FRAME_ERRORS ||| may .ssiOld ||| State.count_may
theorem ssiLate_keeps {M : Nat} {S0 : State} {s : State} (c : Nat) (gs : Keeps M S0 s) (gm : State.ssiLate_may &&& M = State.ssiLate_may := by decide +kernel) :
    Keeps M S0 (State.ssiLate s c) := by
  unfold State.ssiLate
  repeat' first
    | with_reducible assumption | intro _
    | with_reducible exact may_trans gm (by decide +kernel)
    | with_reducible apply keeps_ite | with_reducible apply keeps_iff | with_reducible apply count_keeps | with_reducible apply keeps_wr
    | dsimp -zeta -zetaHave only | split

def State.ssiMark_may : Nat :=
  may .ssiOld ||| may .ssiState ||| State.badFrame_may ||| State.ssiLate_may
theorem ssiMark_keeps {M : Nat} {S0 : State} {s : State} (c : Nat) (gs : Keeps M S0 s) (gm : State.ssiMark_may &&& M = State.ssiMark_may := by decide +kernel) :
    Keeps M S0 (State.ssiMark s c) := by
  unfold State.ssiMark
  repeat' first
    | with_reducible assumption
    | (intro x; refine keeps_cut (m := M) (s0 := S0) (x := x) ?_ ?_; all_goals first | (intro hx; clear_value x) | subst x)
    | (intro x; clear_value x)
    | intro _
    | with_reducible exact may_trans gm (by decide +kernel)
    | with_reducible apply keeps_ite | with_reducible apply badFrame_keeps | with_reducible apply ssiLate_keeps
    | with_reducible apply keeps_wr | dsimp -zeta -zetaHave only | lift_lets -underBinder | split

def execSsiFrameStart_may : Nat :=
  may .ssiStamp ||| may .ssiState ||| State.at_may
theorem execSsiFrameStart_keeps {M : Nat} {S0 : State} (t : Nat) (c : Fin 16) (dataHigh : Bool) {s : State} (gs : Keeps M S0 s) (gm : execSsiFrameStart_may &&& M = execSsiFrameStart_may := by decide +kernel) :
    KeepsO M S0 (execSsiFrameStart t c dataHigh s) := by
  unfold execSsiFrameStart
  repeat' first
    | with_reducible assumption
    | (intro x; refine keeps_cut (m := M) (s0 := S0) (x := x) ?_ ?_; all_goals first | (intro hx; clear_value x) | subst x)
    | (intro x; clear_value x)
    | intro _
    | with_reducible exact may_trans gm (by decide +kernel)
    | with_reducible apply keeps_ite | with_reducible apply at_keeps | with_reducible apply keeps_wr | with_reducible apply keepsO_next
    | with_reducible apply keepsO_ite
    | exact keepsO_fault
    | dsimp -zeta -zetaHave only | lift_lets -underBinder | split

def State.takeRaw_may : Nat :=
  may .ABS_RAW ||| may .CH_FLAGS ||| may .CH_SPEED ||| may .absErr ||| may .absHave ||| may .absPrev ||| may .ssiLast |||
  State.chEvent_may ||| State.chValid_may ||| State.chUpdate_may ||| State.chSet_may ||| State.badFrame_may
theorem takeRaw_keeps {M : Nat} {S0 : State} {s : State} (c v stamp : Nat) (gs : Keeps M S0 s) (gm : State.takeRaw_may &&& M = State.takeRaw_may := by decide +kernel) :
    Keeps M S0 (State.takeRaw s c v stamp) := by
  unfold State.takeRaw
  repeat' first
    | with_reducible assumption
    | (intro x; refine keeps_cut (m := M) (s0 := S0) (x := x) ?_ ?_; all_goals first | (intro hx; clear_value x) | subst x)
    | (intro x; clear_value x)
    | intro _
    | with_reducible exact may_trans gm (by decide +kernel)
    | with_reducible apply keeps_ite | with_reducible apply wrBit_keeps | with_reducible apply chEvent_keeps
    | with_reducible apply chValid_keeps | with_reducible apply chUpdate_keeps | with_reducible apply chSet_keeps
    | with_reducible apply badFrame_keeps | with_reducible apply keeps_wr | dsimp -zeta -zetaHave only | lift_lets -underBinder | split

def execSsiFrameArrival_may : Nat :=
  may .ssiMono ||| may .ssiOld ||| may .ssiState ||| State.at_may ||| State.takeRaw_may
theorem execSsiFrameArrival_keeps {M : Nat} {S0 : State} (t : Nat) (c : Fin 16) (word : Nat) (mono : Bool) {s : State} (gs : Keeps M S0 s) (gm : execSsiFrameArrival_may &&& M = execSsiFrameArrival_may := by decide +kernel) :
    KeepsO M S0 (execSsiFrameArrival t c word mono s) := by
  unfold execSsiFrameArrival
  repeat' first
    | with_reducible assumption
    | (intro x; refine keeps_cut (m := M) (s0 := S0) (x := x) ?_ ?_; all_goals first | (intro hx; clear_value x) | subst x)
    | (intro x; clear_value x)
    | intro _
    | with_reducible exact may_trans gm (by decide +kernel)
    | with_reducible apply keeps_ite | with_reducible apply at_keeps | with_reducible apply takeRaw_keeps | with_reducible apply keeps_wr
    | with_reducible apply keepsO_next | with_reducible apply keepsO_ite
    | exact keepsO_fault
    | dsimp -zeta -zetaHave only | lift_lets -underBinder | split

def execSsiMonoTimeout_may : Nat :=
  may .ssiMono ||| State.at_may ||| State.badFrame_may
theorem execSsiMonoTimeout_keeps {M : Nat} {S0 : State} (t : Nat) (c : Fin 16) {s : State} (gs : Keeps M S0 s) (gm : execSsiMonoTimeout_may &&& M = execSsiMonoTimeout_may := by decide +kernel) :
    KeepsO M S0 (execSsiMonoTimeout t c s) := by
  unfold execSsiMonoTimeout
  repeat' first
    | with_reducible assumption
    | (intro x; refine keeps_cut (m := M) (s0 := S0) (x := x) ?_ ?_; all_goals first | (intro hx; clear_value x) | subst x)
    | (intro x; clear_value x)
    | intro _
    | with_reducible exact may_trans gm (by decide +kernel)
    | with_reducible apply keeps_ite | with_reducible apply at_keeps | with_reducible apply badFrame_keeps
    | with_reducible apply keeps_wr | with_reducible apply keepsO_next | with_reducible apply keepsO_ite
    | exact keepsO_fault
    | dsimp -zeta -zetaHave only | lift_lets -underBinder | split

def execSsiDeadline_may : Nat :=
  State.at_may ||| State.ssiLate_may
theorem execSsiDeadline_keeps {M : Nat} {S0 : State} (t : Nat) (c : Fin 16) {s : State} (gs : Keeps M S0 s) (gm : execSsiDeadline_may &&& M = execSsiDeadline_may := by decide +kernel) :
    KeepsO M S0 (execSsiDeadline t c s) := by
  unfold execSsiDeadline
  repeat' first
    | with_reducible assumption
    | (intro x; refine keeps_cut (m := M) (s0 := S0) (x := x) ?_ ?_; all_goals first | (intro hx; clear_value x) | subst x)
    | (intro x; clear_value x)
    | intro _
    | with_reducible exact may_trans gm (by decide +kernel)
    | with_reducible apply keeps_ite | with_reducible apply at_keeps | with_reducible apply ssiLate_keeps
    | with_reducible apply keepsO_next | with_reducible apply keepsO_ite
    | exact keepsO_fault
    | dsimp -zeta -zetaHave only | lift_lets -underBinder | split

def execLineFault_may : Nat :=
  may .CH_FLAGS ||| may .chFreePend ||| may .ssiMono ||| may .ssiOld ||| may .ssiState ||| State.at_may ||| State.detectShadow_may
  ||| State.chEvent_may ||| State.chInvalid_may
theorem execLineFault_keeps {M : Nat} {S0 : State} (t : Nat) (c : Fin 16) (p : Fin 3) {s : State} (gs : Keeps M S0 s) (gm : execLineFault_may &&& M = execLineFault_may := by decide +kernel) :
    KeepsO M S0 (execLineFault t c p s) := by
  unfold execLineFault
  repeat' first
    | with_reducible assumption
    | (intro x; refine keeps_cut (m := M) (s0 := S0) (x := x) ?_ ?_; all_goals first | (intro hx; clear_value x) | subst x)
    | (intro x; clear_value x)
    | intro _
    | with_reducible exact may_trans gm (by decide +kernel)
    | with_reducible apply keeps_ite | with_reducible apply wrBit_keeps | with_reducible apply at_keeps
    | with_reducible apply detectShadow_keeps | with_reducible apply chEvent_keeps | with_reducible apply chInvalid_keeps
    | with_reducible apply keeps_wr | with_reducible apply keepsO_next | with_reducible apply keepsO_ite
    | exact keepsO_fault
    | dsimp -zeta -zetaHave only | lift_lets -underBinder | split

def execLineFaultEnd_may : Nat :=
  State.at_may ||| State.endCause_may ||| State.endShadow_may
theorem execLineFaultEnd_keeps {M : Nat} {S0 : State} (t : Nat) (c : Fin 16) {s : State} (gs : Keeps M S0 s) (gm : execLineFaultEnd_may &&& M = execLineFaultEnd_may := by decide +kernel) :
    KeepsO M S0 (execLineFaultEnd t c s) := by
  unfold execLineFaultEnd
  repeat' first
    | with_reducible assumption
    | (intro x; refine keeps_cut (m := M) (s0 := S0) (x := x) ?_ ?_; all_goals first | (intro hx; clear_value x) | subst x)
    | (intro x; clear_value x)
    | intro _
    | with_reducible exact may_trans gm (by decide +kernel)
    | with_reducible apply keeps_ite | with_reducible apply at_keeps | with_reducible apply endCause_keeps
    | with_reducible apply endShadow_keeps | with_reducible apply keepsO_next | with_reducible apply keepsO_ite
    | exact keepsO_fault
    | dsimp -zeta -zetaHave only | lift_lets -underBinder | split

def State.channelMark_may : Nat :=
  may_was ||| may .CH_FLAGS ||| may .CH_POS ||| may .chFreePend ||| may .illegalWin ||| may .prePend ||| State.shiftSource_may |||
  State.chValid_may ||| State.chSet_may ||| State.speedAtMark_may ||| State.ssiMark_may
theorem channelMark_keeps {M : Nat} {S0 : State} {s : State} (c : Nat) (gs : Keeps M S0 s) (gm : State.channelMark_may &&& M = State.channelMark_may := by decide +kernel) :
    Keeps M S0 (State.channelMark s c) := by
  unfold State.channelMark
  repeat' first
    | with_reducible assumption
    | (intro x; refine keeps_cut (m := M) (s0 := S0) (x := x) ?_ ?_; all_goals first | (intro hx; clear_value x) | subst x)
    | (intro x; clear_value x)
    | intro _
    | with_reducible exact may_trans gm (by decide +kernel)
    | with_reducible apply keeps_ite | with_reducible apply keeps_forList | with_reducible apply keeps_iff
    | with_reducible apply wrBit_keeps | with_reducible apply shiftSource_keeps | with_reducible apply chValid_keeps
    | with_reducible apply chSet_keeps | with_reducible apply speedAtMark_keeps | with_reducible apply ssiMark_keeps
    | with_reducible apply keeps_wr | dsimp -zeta -zetaHave only | lift_lets -underBinder | split

def State.alignFb_may : Nat :=
  may .DEV_PEAK ||| may .fbAlignPend ||| may .fbAligned ||| may .fbCh ||| may .fbCmd
theorem alignFb_keeps {M : Nat} {S0 : State} {s : State} (n : Nat) (gs : Keeps M S0 s) (gm : State.alignFb_may &&& M = State.alignFb_may := by decide +kernel) :
    Keeps M S0 (State.alignFb s n) := by
  unfold State.alignFb
  repeat' first
    | with_reducible assumption
    | (intro x; refine keeps_cut (m := M) (s0 := S0) (x := x) ?_ ?_; all_goals first | (intro hx; clear_value x) | subst x)
    | (intro x; clear_value x)
    | intro _
    | with_reducible exact may_trans gm (by decide +kernel)
    | with_reducible apply keeps_ite | with_reducible apply keeps_wr | dsimp -zeta -zetaHave only | lift_lets -underBinder

def State.foldIn_may : Nat :=
  may .DEVIATION ||| may .DEV_PEAK ||| may .DEV_VALID ||| may .FB_POS ||| may .devStop ||| State.wr48_may ||| State.detect_may
theorem foldIn_keeps {M : Nat} {S0 : State} {s : State} (n : Nat) (gs : Keeps M S0 s) (gm : State.foldIn_may &&& M = State.foldIn_may := by decide +kernel) :
    Keeps M S0 (State.foldIn s n) := by
  unfold State.foldIn
  repeat' first
    | with_reducible assumption
    | (intro x; refine keeps_cut (m := M) (s0 := S0) (x := x) ?_ ?_; all_goals first | (intro hx; clear_value x) | subst x)
    | (intro x; clear_value x)
    | intro _
    | with_reducible exact may_trans gm (by decide +kernel)
    | with_reducible apply keeps_ite | with_reducible apply wr48_keeps | with_reducible apply keepMax_keeps
    | with_reducible apply detect_keeps | with_reducible apply keeps_wr | dsimp -zeta -zetaHave only | lift_lets -underBinder | split

def State.capture_may : Nat :=
  may .LATCH_COUNT ||| may .LATCH_POS ||| may .LATCH_SPEED ||| may .LATCH_TIME ||| may .latchArmed ||| may .latchDone |||
  State.count_may ||| State.wr48_may ||| State.chEvent_may
theorem capture_keeps {M : Nat} {S0 : State} {s : State} (c : Nat) (gs : Keeps M S0 s) (gm : State.capture_may &&& M = State.capture_may := by decide +kernel) :
    Keeps M S0 (State.capture s c) := by
  unfold State.capture
  repeat' first
    | with_reducible assumption
    | (intro x; refine keeps_cut (m := M) (s0 := S0) (x := x) ?_ ?_; all_goals first | (intro hx; clear_value x) | subst x)
    | (intro x; clear_value x)
    | intro _
    | with_reducible exact may_trans gm (by decide +kernel)
    | with_reducible apply keeps_ite | with_reducible apply count_keeps | with_reducible apply wr48_keeps
    | with_reducible apply chEvent_keeps | with_reducible apply keeps_wr | dsimp -zeta -zetaHave only | lift_lets -underBinder | split

def execLatchCapture_may : Nat :=
  State.at_may ||| State.capture_may
theorem execLatchCapture_keeps {M : Nat} {S0 : State} (t : Nat) (c : Fin 16) {s : State} (gs : Keeps M S0 s) (gm : execLatchCapture_may &&& M = execLatchCapture_may := by decide +kernel) :
    KeepsO M S0 (execLatchCapture t c s) := by
  unfold execLatchCapture
  repeat' first
    | with_reducible assumption
    | (intro x; refine keeps_cut (m := M) (s0 := S0) (x := x) ?_ ?_; all_goals first | (intro hx; clear_value x) | subst x)
    | (intro x; clear_value x)
    | intro _
    | with_reducible exact may_trans gm (by decide +kernel)
    | with_reducible apply keeps_ite | with_reducible apply at_keeps | with_reducible apply capture_keeps
    | with_reducible apply keepsO_next | with_reducible apply keepsO_ite
    | exact keepsO_fault
    | dsimp -zeta -zetaHave only | lift_lets -underBinder | split

def State.latchTime_may : Nat :=
  may .latchDone
theorem latchTime_keeps {M : Nat} {S0 : State} {s : State} (c : Nat) (gs : Keeps M S0 s) (gm : State.latchTime_may &&& M = State.latchTime_may := by decide +kernel) :
    Keeps M S0 (State.latchTime s c) := by
  unfold State.latchTime
  repeat' first
    | with_reducible assumption
    | (intro x; refine keeps_cut (m := M) (s0 := S0) (x := x) ?_ ?_; all_goals first | (intro hx; clear_value x) | subst x)
    | (intro x; clear_value x)
    | intro _
    | with_reducible exact may_trans gm (by decide +kernel)
    | with_reducible apply keeps_ite | with_reducible apply keeps_wr | dsimp -zeta -zetaHave only | lift_lets -underBinder

def State.armLatch_may : Nat :=
  may .latchArmed ||| State.latchTime_may
theorem armLatch_keeps {M : Nat} {S0 : State} {s : State} (c : Nat) (gs : Keeps M S0 s) (gm : State.armLatch_may &&& M = State.armLatch_may := by decide +kernel) :
    Keeps M S0 (State.armLatch s c) := by
  unfold State.armLatch
  repeat' first
    | with_reducible assumption | intro _
    | with_reducible exact may_trans gm (by decide +kernel)
    | with_reducible apply keeps_ite | with_reducible apply latchTime_keeps | with_reducible apply keeps_wr | dsimp -zeta -zetaHave only

def State.limitInputs_may : Nat :=
  may .LIMIT_STATE ||| State.endCause_may ||| State.detectHeld_may
theorem limitInputs_keeps {M : Nat} {S0 : State} {s : State} (n : Nat) (gs : Keeps M S0 s) (gm : State.limitInputs_may &&& M = State.limitInputs_may := by decide +kernel) :
    Keeps M S0 (State.limitInputs s n) := by
  unfold State.limitInputs
  repeat' first
    | with_reducible assumption
    | (intro x; refine keeps_cut (m := M) (s0 := S0) (x := x) ?_ ?_; all_goals first | (intro hx; clear_value x) | subst x)
    | (intro x; clear_value x)
    | intro _
    | with_reducible exact may_trans gm (by decide +kernel)
    | with_reducible apply keeps_ite | with_reducible apply endCause_keeps | with_reducible apply detectHeld_keeps
    | with_reducible apply keeps_wr | dsimp -zeta -zetaHave only | lift_lets -underBinder | split

def State.limitFind_may : Nat :=
  may .HOME_COUNT ||| may .asgPend ||| may .asgStall ||| may .asgVal ||| may .hmFoundAt ||| may .hmPass ||| State.count_may
theorem limitFind_keeps {M : Nat} {S0 : State} {s : State} (i n : Nat) (gs : Keeps M S0 s) (gm : State.limitFind_may &&& M = State.limitFind_may := by decide +kernel) :
    Keeps M S0 (State.limitFind s i n) := by
  unfold State.limitFind
  repeat' first
    | with_reducible assumption
    | (intro x; refine keeps_cut (m := M) (s0 := S0) (x := x) ?_ ?_; all_goals first | (intro hx; clear_value x) | subst x)
    | (intro x; clear_value x)
    | intro _
    | with_reducible exact may_trans gm (by decide +kernel)
    | with_reducible apply keeps_ite | with_reducible apply keeps_iff | with_reducible apply count_keeps | with_reducible apply keeps_wr
    | dsimp -zeta -zetaHave only | lift_lets -underBinder | split

def State.senseChange_may : Nat :=
  may .SENSE_EDGES ||| may .SENSE_FALL_HI ||| may .SENSE_FALL_LO ||| may .SENSE_HI ||| may .SENSE_LO ||| may .SENSE_RISE_HI ||| may
  .SENSE_RISE_LO ||| may .senseAt ||| State.count_may ||| State.raise_may ||| State.senseWait_may ||| State.limitInputs_may |||
  State.limitFind_may
theorem senseChange_keeps {M : Nat} {S0 : State} {s : State} (i : Nat) (act : Bool) (gs : Keeps M S0 s) (gm : State.senseChange_may &&& M = State.senseChange_may := by decide +kernel) :
    Keeps M S0 (State.senseChange s i act) := by
  unfold State.senseChange
  repeat' first
    | with_reducible assumption
    | (intro x; refine keeps_cut (m := M) (s0 := S0) (x := x) ?_ ?_; all_goals first | (intro hx; clear_value x) | subst x)
    | (intro x; clear_value x)
    | intro _
    | with_reducible exact may_trans gm (by decide +kernel)
    | with_reducible apply keeps_ite | with_reducible apply keeps_forList | with_reducible apply keeps_forAll
    | with_reducible apply wrBit_keeps | with_reducible apply count_keeps | with_reducible apply raise_keeps
    | with_reducible apply senseWait_keeps | with_reducible apply limitInputs_keeps | with_reducible apply limitFind_keeps
    | with_reducible apply keeps_wr | dsimp -zeta -zetaHave only | lift_lets -underBinder | split

def execSenseEdge_may : Nat :=
  may .senseChg ||| State.at_may ||| State.senseChange_may
theorem execSenseEdge_keeps {M : Nat} {S0 : State} (t : Nat) (i : Fin 128) (high : Bool) {s : State} (gs : Keeps M S0 s) (gm : execSenseEdge_may &&& M = execSenseEdge_may := by decide +kernel) :
    KeepsO M S0 (execSenseEdge t i high s) := by
  unfold execSenseEdge
  repeat' first
    | with_reducible assumption
    | (intro x; refine keeps_cut (m := M) (s0 := S0) (x := x) ?_ ?_; all_goals first | (intro hx; clear_value x) | subst x)
    | (intro x; clear_value x)
    | intro _
    | with_reducible exact may_trans gm (by decide +kernel)
    | with_reducible apply keeps_ite | with_reducible apply at_keeps | with_reducible apply senseChange_keeps
    | with_reducible apply keeps_wr | with_reducible apply keepsO_next | with_reducible apply keepsO_ite
    | exact keepsO_fault
    | dsimp -zeta -zetaHave only | lift_lets -underBinder | split

def State.emulate_may : Nat :=
  may .EM_BACKLOG ||| may .EM_COUNT ||| may .EM_OVERRATE ||| may .emE ||| may .emNext ||| State.count_may ||| State.wr48_may |||
  State.detect_may
theorem emulate_keeps {M : Nat} {S0 : State} {s : State} (e : Nat) (gs : Keeps M S0 s) (gm : State.emulate_may &&& M = State.emulate_may := by decide +kernel) :
    Keeps M S0 (State.emulate s e) := by
  unfold State.emulate
  repeat' first
    | with_reducible assumption
    | (intro x; refine keeps_cut (m := M) (s0 := S0) (x := x) ?_ ?_; all_goals first | (intro hx; clear_value x) | subst x)
    | (intro x; clear_value x)
    | intro _
    | with_reducible exact may_trans gm (by decide +kernel)
    | with_reducible apply keeps_ite | with_reducible apply count_keeps | with_reducible apply wr48_keeps
    | with_reducible apply detect_keeps | with_reducible apply keeps_wr | dsimp -zeta -zetaHave only | lift_lets -underBinder | split

-- Clocks.lean

def execRootLost_may : Nat :=
  may .CLK_SOURCE ||| may .ROOT_LOSSES ||| may .pllTrim ||| may .pllTrimAt ||| may .rootLostAt ||| State.count_may |||
  State.tally_may ||| State.at_may ||| State.detectShadow_may ||| State.setRed_may
theorem execRootLost_keeps {M : Nat} {S0 : State} (t : Nat) {s : State} (gs : Keeps M S0 s) (gm : execRootLost_may &&& M = execRootLost_may := by decide +kernel) :
    KeepsO M S0 (execRootLost t s) := by
  unfold execRootLost
  repeat' first
    | with_reducible assumption
    | (intro x; refine keeps_cut (m := M) (s0 := S0) (x := x) ?_ ?_; all_goals first | (intro hx; clear_value x) | subst x)
    | (intro x; clear_value x)
    | intro _
    | with_reducible exact may_trans gm (by decide +kernel)
    | with_reducible apply keeps_ite | with_reducible apply count_keeps | with_reducible apply tally_keeps
    | with_reducible apply at_keeps | with_reducible apply detectShadow_keeps | with_reducible apply setRed_keeps
    | with_reducible apply keeps_wr | with_reducible apply keepsO_next | with_reducible apply keepsO_ite
    | exact keepsO_fault
    | dsimp -zeta -zetaHave only | lift_lets -underBinder | split

def execRootRestored_may : Nat :=
  may .CLK_SOURCE ||| may .pllTrim ||| State.at_may ||| State.endCause_may ||| State.detect_may ||| State.setRed_may
theorem execRootRestored_keeps {M : Nat} {S0 : State} (t : Nat) {s : State} (gs : Keeps M S0 s) (gm : execRootRestored_may &&& M = execRootRestored_may := by decide +kernel) :
    KeepsO M S0 (execRootRestored t s) := by
  unfold execRootRestored
  repeat' first
    | with_reducible assumption
    | (intro x; refine keeps_cut (m := M) (s0 := S0) (x := x) ?_ ?_; all_goals first | (intro hx; clear_value x) | subst x)
    | (intro x; clear_value x)
    | intro _
    | with_reducible exact may_trans gm (by decide +kernel)
    | with_reducible apply keeps_ite | with_reducible apply at_keeps | with_reducible apply endCause_keeps
    | with_reducible apply detect_keeps | with_reducible apply setRed_keeps | with_reducible apply keeps_wr
    | with_reducible apply keepsO_next | with_reducible apply keepsO_ite
    | exact keepsO_fault
    | dsimp -zeta -zetaHave only | lift_lets -underBinder | split

def execBackupTrim_may : Nat :=
  may .BACKUP_TRIM ||| may .trimKnown ||| State.at_may
theorem execBackupTrim_keeps {M : Nat} {S0 : State} (t : Nat) (ppb : Int) {s : State} (gs : Keeps M S0 s) (gm : execBackupTrim_may &&& M = execBackupTrim_may := by decide +kernel) :
    KeepsO M S0 (execBackupTrim t ppb s) := by
  unfold execBackupTrim
  repeat' first
    | with_reducible assumption
    | (intro x; refine keeps_cut (m := M) (s0 := S0) (x := x) ?_ ?_; all_goals first | (intro hx; clear_value x) | subst x)
    | (intro x; clear_value x)
    | intro _
    | with_reducible exact may_trans gm (by decide +kernel)
    | with_reducible apply keeps_ite | with_reducible apply at_keeps | with_reducible apply keeps_wr | with_reducible apply keepsO_next
    | with_reducible apply keepsO_ite
    | exact keepsO_fault
    | dsimp -zeta -zetaHave only | lift_lets -underBinder | split

def execPllSwitch_may : Nat :=
  may .PLL_IN_USE ||| State.tally_may ||| State.at_may ||| State.detectShadow_may ||| State.setRed_may
theorem execPllSwitch_keeps {M : Nat} {S0 : State} (t : Nat) {s : State} (gs : Keeps M S0 s) (gm : execPllSwitch_may &&& M = execPllSwitch_may := by decide +kernel) :
    KeepsO M S0 (execPllSwitch t s) := by
  unfold execPllSwitch
  repeat' first
    | with_reducible assumption
    | (intro x; refine keeps_cut (m := M) (s0 := S0) (x := x) ?_ ?_; all_goals first | (intro hx; clear_value x) | subst x)
    | (intro x; clear_value x)
    | intro _
    | with_reducible exact may_trans gm (by decide +kernel)
    | with_reducible apply keeps_ite | with_reducible apply tally_keeps | with_reducible apply at_keeps
    | with_reducible apply detectShadow_keeps | with_reducible apply setRed_keeps | with_reducible apply keeps_wr
    | with_reducible apply keepsO_next | with_reducible apply keepsO_ite
    | exact keepsO_fault
    | dsimp -zeta -zetaHave only | lift_lets -underBinder | split

def execHoldoverEntry_may : Nat :=
  may .SYNC_STATE ||| may .holdoverFrom ||| may .rtBad ||| may .rtGood ||| State.at_may
theorem execHoldoverEntry_keeps {M : Nat} {S0 : State} (t : Nat) {s : State} (gs : Keeps M S0 s) (gm : execHoldoverEntry_may &&& M = execHoldoverEntry_may := by decide +kernel) :
    KeepsO M S0 (execHoldoverEntry t s) := by
  unfold execHoldoverEntry
  repeat' first
    | with_reducible assumption
    | (intro x; refine keeps_cut (m := M) (s0 := S0) (x := x) ?_ ?_; all_goals first | (intro hx; clear_value x) | subst x)
    | (intro x; clear_value x)
    | intro _
    | with_reducible exact may_trans gm (by decide +kernel)
    | with_reducible apply keeps_ite | with_reducible apply at_keeps | with_reducible apply keeps_wr | with_reducible apply keepsO_next
    | with_reducible apply keepsO_ite
    | exact keepsO_fault
    | dsimp -zeta -zetaHave only | lift_lets -underBinder | split

def execHoldoverLimit_may : Nat :=
  may .SYNC_STATE ||| State.at_may ||| State.checkSync_may
theorem execHoldoverLimit_keeps {M : Nat} {S0 : State} (t : Nat) {s : State} (gs : Keeps M S0 s) (gm : execHoldoverLimit_may &&& M = execHoldoverLimit_may := by decide +kernel) :
    KeepsO M S0 (execHoldoverLimit t s) := by
  unfold execHoldoverLimit
  repeat' first
    | with_reducible assumption
    | (intro x; refine keeps_cut (m := M) (s0 := S0) (x := x) ?_ ?_; all_goals first | (intro hx; clear_value x) | subst x)
    | (intro x; clear_value x)
    | intro _
    | with_reducible exact may_trans gm (by decide +kernel)
    | with_reducible apply keeps_ite | with_reducible apply at_keeps | with_reducible apply checkSync_keeps
    | with_reducible apply keeps_wr | with_reducible apply keepsO_next | with_reducible apply keepsO_ite
    | exact keepsO_fault
    | dsimp -zeta -zetaHave only | lift_lets -underBinder | split

def execSyncOutputPulse_may : Nat :=
  may .SYNC_SKIPPED ||| may .syncHighFrom ||| may .syncLevel ||| may .syncNext ||| State.count_may ||| State.at_may
theorem execSyncOutputPulse_keeps {M : Nat} {S0 : State} (t : Nat) {s : State} (gs : Keeps M S0 s) (gm : execSyncOutputPulse_may &&& M = execSyncOutputPulse_may := by decide +kernel) :
    KeepsO M S0 (execSyncOutputPulse t s) := by
  unfold execSyncOutputPulse
  repeat' first
    | with_reducible assumption
    | (intro x; refine keeps_cut (m := M) (s0 := S0) (x := x) ?_ ?_; all_goals first | (intro hx; clear_value x) | subst x)
    | (intro x; clear_value x)
    | intro _
    | with_reducible exact may_trans gm (by decide +kernel)
    | with_reducible apply keeps_ite | with_reducible apply count_keeps | with_reducible apply at_keeps | with_reducible apply keeps_wr
    | with_reducible apply keepsO_next | with_reducible apply keepsO_ite
    | exact keepsO_fault
    | dsimp -zeta -zetaHave only | lift_lets -underBinder | split

def execSyncPulseEnd_may : Nat :=
  may .syncLevel ||| State.at_may
theorem execSyncPulseEnd_keeps {M : Nat} {S0 : State} (t : Nat) {s : State} (gs : Keeps M S0 s) (gm : execSyncPulseEnd_may &&& M = execSyncPulseEnd_may := by decide +kernel) :
    KeepsO M S0 (execSyncPulseEnd t s) := by
  unfold execSyncPulseEnd
  repeat' first
    | with_reducible assumption
    | (intro x; refine keeps_cut (m := M) (s0 := S0) (x := x) ?_ ?_; all_goals first | (intro hx; clear_value x) | subst x)
    | (intro x; clear_value x)
    | intro _
    | with_reducible exact may_trans gm (by decide +kernel)
    | with_reducible apply keeps_ite | with_reducible apply at_keeps | with_reducible apply keeps_wr | with_reducible apply keepsO_next
    | with_reducible apply keepsO_ite
    | exact keepsO_fault
    | dsimp -zeta -zetaHave only | lift_lets -underBinder | split

-- Switches.lean

def State.switchHb_may : Nat :=
  may .swAt ||| may .swCmd ||| may .swHighOff ||| may .swLowOff
theorem switchHb_keeps {M : Nat} {S0 : State} {s : State} (n hb c : Nat) (gs : Keeps M S0 s) (gm : State.switchHb_may &&& M = State.switchHb_may := by decide +kernel) :
    Keeps M S0 (State.switchHb s n hb c) := by
  unfold State.switchHb
  repeat' first
    | with_reducible assumption
    | (intro x; refine keeps_cut (m := M) (s0 := S0) (x := x) ?_ ?_; all_goals first | (intro hx; clear_value x) | subst x)
    | (intro x; clear_value x)
    | intro _
    | with_reducible exact may_trans gm (by decide +kernel)
    | with_reducible apply keeps_ite | with_reducible apply keeps_iff | with_reducible apply keeps_wr | dsimp -zeta -zetaHave only
    | lift_lets -underBinder | split

def State.switchAt_may : Nat :=
  State.switchHb_may
theorem switchAt_keeps {M : Nat} {S0 : State} {s : State} (n c : Nat) (gs : Keeps M S0 s) (gm : State.switchAt_may &&& M = State.switchAt_may := by decide +kernel) :
    Keeps M S0 (State.switchAt s n c) := by
  unfold State.switchAt
  repeat' first
    | with_reducible assumption
    | (intro x; refine keeps_cut (m := M) (s0 := S0) (x := x) ?_ ?_; all_goals first | (intro hx; clear_value x) | subst x)
    | (intro x; clear_value x)
    | intro _
    | with_reducible exact may_trans gm (by decide +kernel)
    | with_reducible apply keeps_ite | with_reducible apply keeps_forAll | with_reducible apply switchHb_keeps
    | dsimp -zeta -zetaHave only | lift_lets -underBinder | split

def State.startRefresh_may : Nat :=
  may .BOOT_REFRESHES ||| may .refreshAt ||| may .refreshOn ||| may .refreshWait ||| State.count_may ||| State.switchAt_may
theorem startRefresh_keeps {M : Nat} {S0 : State} {s : State} (n hb t : Nat) (gs : Keeps M S0 s) (gm : State.startRefresh_may &&& M = State.startRefresh_may := by decide +kernel) :
    Keeps M S0 (State.startRefresh s n hb t) := by
  unfold State.startRefresh
  repeat' first
    | with_reducible assumption
    | (intro x; refine keeps_cut (m := M) (s0 := S0) (x := x) ?_ ?_; all_goals first | (intro hx; clear_value x) | subst x)
    | (intro x; clear_value x)
    | intro _
    | with_reducible exact may_trans gm (by decide +kernel)
    | with_reducible apply keeps_ite | with_reducible apply count_keeps | with_reducible apply switchAt_keeps
    | with_reducible apply keeps_wr | dsimp -zeta -zetaHave only | lift_lets -underBinder

def State.dueRefresh_may : Nat :=
  may .refreshWait ||| State.startRefresh_may
theorem dueRefresh_keeps {M : Nat} {S0 : State} {s : State} (n : Nat) (gs : Keeps M S0 s) (gm : State.dueRefresh_may &&& M = State.dueRefresh_may := by decide +kernel) :
    Keeps M S0 (State.dueRefresh s n) := by
  unfold State.dueRefresh
  repeat' first
    | with_reducible assumption | intro _
    | with_reducible exact may_trans gm (by decide +kernel)
    | with_reducible apply keeps_ite | with_reducible apply keeps_forAll | with_reducible apply startRefresh_keeps
    | with_reducible apply keeps_wr | dsimp -zeta -zetaHave only | split

-- Current.lean

def State.turn_may : Nat :=
  may .phRev ||| may .phSince ||| may .phState ||| may .phWas ||| may .phWasAt ||| State.switchAt_may
theorem turn_keeps {M : Nat} {S0 : State} {s : State} (n ph st rev c : Nat) (gs : Keeps M S0 s) (gm : State.turn_may &&& M = State.turn_may := by decide +kernel) :
    Keeps M S0 (State.turn s n ph st rev c) := by
  unfold State.turn
  repeat' first
    | with_reducible assumption
    | (intro x; refine keeps_cut (m := M) (s0 := S0) (x := x) ?_ ?_; all_goals first | (intro hx; clear_value x) | subst x)
    | (intro x; clear_value x)
    | intro _
    | with_reducible exact may_trans gm (by decide +kernel)
    | with_reducible apply keeps_ite | with_reducible apply keeps_foldl | with_reducible apply switchAt_keeps
    | with_reducible apply keeps_wr | dsimp -zeta -zetaHave only | lift_lets -underBinder | split

def State.noteClamp_may : Nat :=
  may .THRESH_CLAMPS ||| may .phFlags ||| may .phLook ||| State.count_may
theorem noteClamp_keeps {M : Nat} {S0 : State} {s : State} (n ph c : Nat) (gs : Keeps M S0 s) (gm : State.noteClamp_may &&& M = State.noteClamp_may := by decide +kernel) :
    Keeps M S0 (State.noteClamp s n ph c) := by
  unfold State.noteClamp
  repeat' first
    | with_reducible assumption
    | (intro x; refine keeps_cut (m := M) (s0 := S0) (x := x) ?_ ?_; all_goals first | (intro hx; clear_value x) | subst x)
    | (intro x; clear_value x)
    | intro _
    | with_reducible exact may_trans gm (by decide +kernel)
    | with_reducible apply keeps_ite | with_reducible apply wrBit_keeps | with_reducible apply count_keeps
    | with_reducible apply keeps_wr | dsimp -zeta -zetaHave only | lift_lets -underBinder | split

def State.cycleDone_may : Nat :=
  may .WIDEN_EVENTS ||| may .phRec ||| may .phRecOff ||| may .phRecOn ||| may .phShort ||| may .phW ||| State.count_may |||
  State.tally_may
theorem cycleDone_keeps {M : Nat} {S0 : State} {s : State} (n ph len off : Nat) (gs : Keeps M S0 s) (gm : State.cycleDone_may &&& M = State.cycleDone_may := by decide +kernel) :
    Keeps M S0 (State.cycleDone s n ph len off) := by
  unfold State.cycleDone
  repeat' first
    | with_reducible assumption
    | (intro x; refine keeps_cut (m := M) (s0 := S0) (x := x) ?_ ?_; all_goals first | (intro hx; clear_value x) | subst x)
    | (intro x; clear_value x)
    | intro _
    | with_reducible exact may_trans gm (by decide +kernel)
    | with_reducible apply keeps_ite | with_reducible apply keeps_iff | with_reducible apply count_keeps
    | with_reducible apply tally_keeps | with_reducible apply keeps_wr | dsimp -zeta -zetaHave only | lift_lets -underBinder | split

def State.onStart_may : Nat :=
  may .phFlags ||| may .phLook ||| may .phOnRef ||| may .phPend ||| State.noteClamp_may ||| State.cycleDone_may
theorem onStart_keeps {M : Nat} {S0 : State} {s : State} (n ph c : Nat) (gs : Keeps M S0 s) (gm : State.onStart_may &&& M = State.onStart_may := by decide +kernel) :
    Keeps M S0 (State.onStart s n ph c) := by
  unfold State.onStart
  repeat' first
    | with_reducible assumption
    | (intro x; refine keeps_cut (m := M) (s0 := S0) (x := x) ?_ ?_; all_goals first | (intro hx; clear_value x) | subst x)
    | (intro x; clear_value x)
    | intro _
    | with_reducible exact may_trans gm (by decide +kernel)
    | with_reducible apply keeps_ite | with_reducible apply keeps_iff | with_reducible apply noteClamp_keeps
    | with_reducible apply cycleDone_keeps | with_reducible apply keeps_wr | dsimp -zeta -zetaHave only | lift_lets -underBinder | split

def State.commandOn_may : Nat :=
  may .phCmd ||| may .phMixEnd ||| may .phOnAt ||| may .phOnPrev ||| may .phPend ||| may .phSign ||| State.turn_may |||
  State.onStart_may
theorem commandOn_keeps {M : Nat} {S0 : State} {s : State} (n ph c : Nat) (gs : Keeps M S0 s) (gm : State.commandOn_may &&& M = State.commandOn_may := by decide +kernel) :
    Keeps M S0 (State.commandOn s n ph c) := by
  unfold State.commandOn
  repeat' first
    | with_reducible assumption
    | (intro x; refine keeps_cut (m := M) (s0 := S0) (x := x) ?_ ?_; all_goals first | (intro hx; clear_value x) | subst x)
    | (intro x; clear_value x)
    | intro _
    | with_reducible exact may_trans gm (by decide +kernel)
    | with_reducible apply keeps_ite | with_reducible apply turn_keeps | with_reducible apply onStart_keeps
    | with_reducible apply keeps_wr | dsimp -zeta -zetaHave only | lift_lets -underBinder

def State.startOn_may : Nat :=
  may .FREQ_CAPS ||| may .phCmd ||| may .phOffEnd ||| State.count_may ||| State.commandOn_may
theorem startOn_keeps {M : Nat} {S0 : State} {s : State} (n ph c : Nat) (gs : Keeps M S0 s) (gm : State.startOn_may &&& M = State.startOn_may := by decide +kernel) :
    Keeps M S0 (State.startOn s n ph c) := by
  unfold State.startOn
  repeat' first
    | with_reducible assumption
    | (intro x; refine keeps_cut (m := M) (s0 := S0) (x := x) ?_ ?_; all_goals first | (intro hx; clear_value x) | subst x)
    | (intro x; clear_value x)
    | intro _
    | with_reducible exact may_trans gm (by decide +kernel)
    | with_reducible apply keeps_ite | with_reducible apply count_keeps | with_reducible apply commandOn_keeps
    | with_reducible apply keeps_wr | dsimp -zeta -zetaHave only | lift_lets -underBinder | split

def State.startOff_may : Nat :=
  may .phCmd ||| may .phFlags ||| may .phMixEnd ||| may .phOffAt ||| may .phOffNum ||| may .phOnAt ||| may .phPend |||
  State.turn_may
theorem startOff_keeps {M : Nat} {S0 : State} {s : State} (n ph st rev c : Nat) (gs : Keeps M S0 s) (gm : State.startOff_may &&& M = State.startOff_may := by decide +kernel) :
    Keeps M S0 (State.startOff s n ph st rev c) := by
  unfold State.startOff
  repeat' first
    | with_reducible assumption
    | (intro x; refine keeps_cut (m := M) (s0 := S0) (x := x) ?_ ?_; all_goals first | (intro hx; clear_value x) | subst x)
    | (intro x; clear_value x)
    | intro _
    | with_reducible exact may_trans gm (by decide +kernel)
    | with_reducible apply keeps_ite | with_reducible apply keeps_iff | with_reducible apply wrBit_keeps
    | with_reducible apply turn_keeps | with_reducible apply keeps_wr | dsimp -zeta -zetaHave only | lift_lets -underBinder | split

def State.reverse_may : Nat :=
  may .phCmd ||| may .phFlags ||| may .phMixEnd ||| State.turn_may ||| State.startOff_may
theorem reverse_keeps {M : Nat} {S0 : State} {s : State} (n ph c : Nat) (gs : Keeps M S0 s) (gm : State.reverse_may &&& M = State.reverse_may := by decide +kernel) :
    Keeps M S0 (State.reverse s n ph c) := by
  unfold State.reverse
  repeat' first
    | with_reducible assumption
    | (intro x; refine keeps_cut (m := M) (s0 := S0) (x := x) ?_ ?_; all_goals first | (intro hx; clear_value x) | subst x)
    | (intro x; clear_value x)
    | intro _
    | with_reducible exact may_trans gm (by decide +kernel)
    | with_reducible apply keeps_ite | with_reducible apply wrBit_keeps | with_reducible apply turn_keeps
    | with_reducible apply startOff_keeps | with_reducible apply keeps_wr | dsimp -zeta -zetaHave only | lift_lets -underBinder | split

def State.zeroRef_may : Nat :=
  may .phMixEnd ||| State.turn_may ||| State.startOff_may
theorem zeroRef_keeps {M : Nat} {S0 : State} {s : State} (n ph c : Nat) (gs : Keeps M S0 s) (gm : State.zeroRef_may &&& M = State.zeroRef_may := by decide +kernel) :
    Keeps M S0 (State.zeroRef s n ph c) := by
  unfold State.zeroRef
  repeat' first
    | with_reducible assumption
    | (intro x; refine keeps_cut (m := M) (s0 := S0) (x := x) ?_ ?_; all_goals first | (intro hx; clear_value x) | subst x)
    | (intro x; clear_value x)
    | intro _
    | with_reducible exact may_trans gm (by decide +kernel)
    | with_reducible apply keeps_ite | with_reducible apply turn_keeps | with_reducible apply startOff_keeps
    | with_reducible apply keeps_wr | dsimp -zeta -zetaHave only | lift_lets -underBinder | split

def State.mixDone_may : Nat :=
  may .phMixEnd ||| State.turn_may
theorem mixDone_keeps {M : Nat} {S0 : State} {s : State} (n ph c : Nat) (gs : Keeps M S0 s) (gm : State.mixDone_may &&& M = State.mixDone_may := by decide +kernel) :
    Keeps M S0 (State.mixDone s n ph c) := by
  unfold State.mixDone
  repeat' first
    | with_reducible assumption
    | (intro x; refine keeps_cut (m := M) (s0 := S0) (x := x) ?_ ?_; all_goals first | (intro hx; clear_value x) | subst x)
    | (intro x; clear_value x)
    | intro _
    | with_reducible exact may_trans gm (by decide +kernel)
    | with_reducible apply keeps_ite | with_reducible apply turn_keeps | with_reducible apply keeps_wr | dsimp -zeta -zetaHave only
    | lift_lets -underBinder | split

def State.toffDone_may : Nat :=
  may .OFF_TIMEOUTS ||| may .phFlags ||| State.count_may ||| State.startOn_may
theorem toffDone_keeps {M : Nat} {S0 : State} {s : State} (n ph c : Nat) (gs : Keeps M S0 s) (gm : State.toffDone_may &&& M = State.toffDone_may := by decide +kernel) :
    Keeps M S0 (State.toffDone s n ph c) := by
  unfold State.toffDone
  repeat' first
    | with_reducible assumption
    | (intro x; refine keeps_cut (m := M) (s0 := S0) (x := x) ?_ ?_; all_goals first | (intro hx; clear_value x) | subst x)
    | (intro x; clear_value x)
    | intro _
    | with_reducible exact may_trans gm (by decide +kernel)
    | with_reducible apply keeps_ite | with_reducible apply keeps_iff | with_reducible apply wrBit_keeps
    | with_reducible apply count_keeps | with_reducible apply startOn_keeps | dsimp -zeta -zetaHave only | lift_lets -underBinder | split

def State.capDone_may : Nat :=
  may .phCmd ||| State.commandOn_may
theorem capDone_keeps {M : Nat} {S0 : State} {s : State} (n ph c : Nat) (gs : Keeps M S0 s) (gm : State.capDone_may &&& M = State.capDone_may := by decide +kernel) :
    Keeps M S0 (State.capDone s n ph c) := by
  unfold State.capDone
  repeat' first
    | with_reducible assumption
    | (intro x; refine keeps_cut (m := M) (s0 := S0) (x := x) ?_ ?_; all_goals first | (intro hx; clear_value x) | subst x)
    | (intro x; clear_value x)
    | intro _
    | with_reducible exact may_trans gm (by decide +kernel)
    | with_reducible apply keeps_ite | with_reducible apply commandOn_keeps | with_reducible apply keeps_wr | dsimp -zeta -zetaHave only
    | lift_lets -underBinder | split

def State.settlePhase_may : Nat :=
  State.noteClamp_may ||| State.onStart_may ||| State.zeroRef_may ||| State.mixDone_may ||| State.toffDone_may ||| State.capDone_may
theorem settlePhase_keeps {M : Nat} {S0 : State} {s : State} (n ph c : Nat) (gs : Keeps M S0 s) (gm : State.settlePhase_may &&& M = State.settlePhase_may := by decide +kernel) :
    Keeps M S0 (State.settlePhase s n ph c) := by
  unfold State.settlePhase
  repeat' first
    | with_reducible assumption
    | (intro x; refine keeps_cut (m := M) (s0 := S0) (x := x) ?_ ?_; all_goals first | (intro hx; clear_value x) | subst x)
    | (intro x; clear_value x)
    | intro _
    | with_reducible exact may_trans gm (by decide +kernel)
    | with_reducible apply keeps_ite | with_reducible apply noteClamp_keeps | with_reducible apply onStart_keeps
    | with_reducible apply zeroRef_keeps | with_reducible apply mixDone_keeps | with_reducible apply toffDone_keeps
    | with_reducible apply capDone_keeps | dsimp -zeta -zetaHave only | lift_lets -underBinder | split

def State.settleAxis_may : Nat :=
  State.dueRefresh_may ||| State.settlePhase_may
theorem settleAxis_keeps {M : Nat} {S0 : State} {s : State} (n : Nat) (gs : Keeps M S0 s) (gm : State.settleAxis_may &&& M = State.settleAxis_may := by decide +kernel) :
    Keeps M S0 (State.settleAxis s n) := by
  unfold State.settleAxis
  repeat' first
    | with_reducible assumption
    | (intro x; refine keeps_cut (m := M) (s0 := S0) (x := x) ?_ ?_; all_goals first | (intro hx; clear_value x) | subst x)
    | (intro x; clear_value x)
    | intro _
    | with_reducible exact may_trans gm (by decide +kernel)
    | with_reducible apply keeps_ite | with_reducible apply dueRefresh_keeps | with_reducible apply settlePhase_keeps
    | dsimp -zeta -zetaHave only | lift_lets -underBinder

def State.openPhase_may : Nat :=
  may .phCmd ||| may .phFlags ||| may .phMixEnd ||| may .phPend ||| may .phSign ||| State.turn_may
theorem openPhase_keeps {M : Nat} {S0 : State} {s : State} (n ph : Nat) (gs : Keeps M S0 s) (gm : State.openPhase_may &&& M = State.openPhase_may := by decide +kernel) :
    Keeps M S0 (State.openPhase s n ph) := by
  unfold State.openPhase
  repeat' first
    | with_reducible assumption
    | (intro x; refine keeps_cut (m := M) (s0 := S0) (x := x) ?_ ?_; all_goals first | (intro hx; clear_value x) | subst x)
    | (intro x; clear_value x)
    | intro _
    | with_reducible exact may_trans gm (by decide +kernel)
    | with_reducible apply keeps_ite | with_reducible apply turn_keeps | with_reducible apply keeps_wr | dsimp -zeta -zetaHave only
    | lift_lets -underBinder

def State.enablePhase_may : Nat :=
  State.startOn_may ||| State.startOff_may
theorem enablePhase_keeps {M : Nat} {S0 : State} {s : State} (n ph : Nat) (gs : Keeps M S0 s) (gm : State.enablePhase_may &&& M = State.enablePhase_may := by decide +kernel) :
    Keeps M S0 (State.enablePhase s n ph) := by
  unfold State.enablePhase
  repeat' first
    | with_reducible assumption | intro _
    | with_reducible exact may_trans gm (by decide +kernel)
    | with_reducible apply keeps_ite | with_reducible apply startOn_keeps | with_reducible apply startOff_keeps
    | dsimp -zeta -zetaHave only | split

def State.chopEvent_may : Nat :=
  State.at_may ||| State.dueRefresh_may ||| State.reverse_may ||| State.settlePhase_may
theorem chopEvent_keeps {M : Nat} {S0 : State} {s : State} (t n ph : Nat) (f : State → State) (gs : Keeps M S0 s)
    (gm : State.chopEvent_may &&& M = State.chopEvent_may := by decide +kernel) (hf : ∀ s, Keeps M S0 s → Keeps M S0 (f s)) :
    Keeps M S0 (State.chopEvent s t n ph f) := by
  unfold State.chopEvent
  have h : Keeps M S0 (((s.at t).dueRefresh n).settlePhase n ph ((s.at t).dueRefresh n).ckp) :=
    settlePhase_keeps _ _ _ (dueRefresh_keeps _ (at_keeps t gs (may_trans gm (by decide +kernel))) (may_trans gm (by decide +kernel)))
      (may_trans gm (by decide +kernel))
  exact keeps_ite (reverse_keeps _ _ _ h (may_trans gm (by decide +kernel))) (hf _ h)

def State.peak_may : Nat :=
  may .EARLY_TRIPS ||| may .phFlags ||| may .phMixEnd ||| may .phPeak ||| may .phTon ||| State.count_may ||| State.startOff_may
theorem peak_keeps {M : Nat} {S0 : State} {s : State} (n ph : Nat) (gs : Keeps M S0 s) (gm : State.peak_may &&& M = State.peak_may := by decide +kernel) :
    Keeps M S0 (State.peak s n ph) := by
  unfold State.peak
  repeat' first
    | with_reducible assumption
    | (intro x; refine keeps_cut (m := M) (s0 := S0) (x := x) ?_ ?_; all_goals first | (intro hx; clear_value x) | subst x)
    | (intro x; clear_value x)
    | intro _
    | with_reducible exact may_trans gm (by decide +kernel)
    | with_reducible apply keeps_ite | with_reducible apply keeps_iff | with_reducible apply wrBit_keeps
    | with_reducible apply count_keeps | with_reducible apply startOff_keeps | with_reducible apply keeps_wr | dsimp -zeta -zetaHave only
    | lift_lets -underBinder | split

def execChopperPeak_may : Nat :=
  State.chopEvent_may ||| State.peak_may
theorem execChopperPeak_keeps {M : Nat} {S0 : State} (t : Nat) (n : Fin 64) (ph : Fin 2) {s : State} (gs : Keeps M S0 s) (gm : execChopperPeak_may &&& M = execChopperPeak_may := by decide +kernel) :
    KeepsO M S0 (execChopperPeak t n ph s) := by
  unfold execChopperPeak
  repeat' first
    | with_reducible assumption | intro _
    | with_reducible exact may_trans gm (by decide +kernel)
    | with_reducible apply keeps_ite | with_reducible apply chopEvent_keeps | with_reducible apply peak_keeps
    | with_reducible apply keepsO_next | with_reducible apply keepsO_ite
    | exact keepsO_fault
    | dsimp -zeta -zetaHave only | split

def execChopperValley_may : Nat :=
  State.startOn_may ||| State.chopEvent_may
theorem execChopperValley_keeps {M : Nat} {S0 : State} (t : Nat) (n : Fin 64) (ph : Fin 2) {s : State} (gs : Keeps M S0 s) (gm : execChopperValley_may &&& M = execChopperValley_may := by decide +kernel) :
    KeepsO M S0 (execChopperValley t n ph s) := by
  unfold execChopperValley
  repeat' first
    | with_reducible assumption
    | (intro x; refine keeps_cut (m := M) (s0 := S0) (x := x) ?_ ?_; all_goals first | (intro hx; clear_value x) | subst x)
    | (intro x; clear_value x)
    | intro _
    | with_reducible exact may_trans gm (by decide +kernel)
    | with_reducible apply keeps_ite | with_reducible apply startOn_keeps | with_reducible apply chopEvent_keeps
    | with_reducible apply keepsO_next | with_reducible apply keepsO_ite
    | exact keepsO_fault
    | dsimp -zeta -zetaHave only | lift_lets -underBinder | split

def execOffTimeMax_may : Nat :=
  State.chopEvent_may
theorem execOffTimeMax_keeps {M : Nat} {S0 : State} (t : Nat) (n : Fin 64) (ph : Fin 2) {s : State} (gs : Keeps M S0 s) (gm : execOffTimeMax_may &&& M = execOffTimeMax_may := by decide +kernel) :
    KeepsO M S0 (execOffTimeMax t n ph s) := by
  unfold execOffTimeMax
  repeat' first
    | with_reducible assumption | intro _
    | with_reducible exact may_trans gm (by decide +kernel)
    | with_reducible apply keeps_ite | with_reducible apply chopEvent_keeps | with_reducible apply keepsO_next
    | with_reducible apply keepsO_ite
    | exact keepsO_fault
    | dsimp -zeta -zetaHave only | split

def execRefSignChange_may : Nat :=
  State.chopEvent_may
theorem execRefSignChange_keeps {M : Nat} {S0 : State} (t : Nat) (n : Fin 64) (ph : Fin 2) {s : State} (gs : Keeps M S0 s) (gm : execRefSignChange_may &&& M = execRefSignChange_may := by decide +kernel) :
    KeepsO M S0 (execRefSignChange t n ph s) := by
  unfold execRefSignChange
  repeat' first
    | with_reducible assumption | intro _
    | with_reducible exact may_trans gm (by decide +kernel)
    | with_reducible apply keeps_ite | with_reducible apply chopEvent_keeps | with_reducible apply keepsO_next
    | with_reducible apply keepsO_ite
    | exact keepsO_fault
    | dsimp -zeta -zetaHave only | split

def execFastBelowTwoCodes_may : Nat :=
  may .phMixEnd ||| State.turn_may ||| State.startOn_may ||| State.chopEvent_may
theorem execFastBelowTwoCodes_keeps {M : Nat} {S0 : State} (t : Nat) (n : Fin 64) (ph : Fin 2) {s : State} (gs : Keeps M S0 s) (gm : execFastBelowTwoCodes_may &&& M = execFastBelowTwoCodes_may := by decide +kernel) :
    KeepsO M S0 (execFastBelowTwoCodes t n ph s) := by
  unfold execFastBelowTwoCodes
  repeat' first
    | with_reducible assumption
    | (intro x; refine keeps_cut (m := M) (s0 := S0) (x := x) ?_ ?_; all_goals first | (intro hx; clear_value x) | subst x)
    | (intro x; clear_value x)
    | intro _
    | with_reducible exact may_trans gm (by decide +kernel)
    | with_reducible apply keeps_ite | with_reducible apply turn_keeps | with_reducible apply startOn_keeps
    | with_reducible apply chopEvent_keeps | with_reducible apply keeps_wr | with_reducible apply keepsO_next
    | with_reducible apply keepsO_ite
    | exact keepsO_fault
    | dsimp -zeta -zetaHave only | lift_lets -underBinder | split

def State.writeAmplitude_may : Nat :=
  may .STILL_PASSES ||| may .ampShadow ||| may .ampSrcShadow
theorem writeAmplitude_keeps {M : Nat} {S0 : State} {s : State} (n : Nat) (gs : Keeps M S0 s) (gm : State.writeAmplitude_may &&& M = State.writeAmplitude_may := by decide +kernel) :
    Keeps M S0 (State.writeAmplitude s n) := by
  unfold State.writeAmplitude
  repeat' first
    | with_reducible assumption
    | (intro x; refine keeps_cut (m := M) (s0 := S0) (x := x) ?_ ?_; all_goals first | (intro hx; clear_value x) | subst x)
    | (intro x; clear_value x)
    | intro _
    | with_reducible exact may_trans gm (by decide +kernel)
    | with_reducible apply keeps_ite | with_reducible apply keeps_wr | dsimp -zeta -zetaHave only | lift_lets -underBinder | split

def State.resetAdapt_may : Nat :=
  may .ADAPT_ACC_A ||| may .ADAPT_ACC_B ||| may .ADAPT_ERR_A ||| may .ADAPT_ERR_B ||| may .ADAPT_UPDATES ||| may .adF ||| may
  .adReset ||| may .adSat ||| may .adSeen ||| may .adUpd ||| State.endCause_may
theorem resetAdapt_keeps {M : Nat} {S0 : State} {s : State} (n : Nat) (gs : Keeps M S0 s) (gm : State.resetAdapt_may &&& M = State.resetAdapt_may := by decide +kernel) :
    Keeps M S0 (State.resetAdapt s n) := by
  unfold State.resetAdapt
  repeat' first
    | with_reducible assumption
    | (intro x; refine keeps_cut (m := M) (s0 := S0) (x := x) ?_ ?_; all_goals first | (intro hx; clear_value x) | subst x)
    | (intro x; subst x)
    | intro _
    | with_reducible exact may_trans gm (by decide +kernel)
    | with_reducible apply keeps_ite
    | (unfold accReg; split)
    | (unfold errReg; split)
    | with_reducible apply endCause_keeps | with_reducible apply keeps_wr | dsimp -zeta -zetaHave only | lift_lets -underBinder

def State.adaptPhase_may : Nat :=
  may .ADAPT_ACC_A ||| may .ADAPT_ACC_B ||| may .ADAPT_ERR_A ||| may .ADAPT_ERR_B ||| may .ADAPT_UPDATES ||| may .adF ||| may .adSat
  ||| may .adUpd ||| State.count_may
theorem adaptPhase_keeps {M : Nat} {S0 : State} {s : State} (n ph : Nat) (gs : Keeps M S0 s) (gm : State.adaptPhase_may &&& M = State.adaptPhase_may := by decide +kernel) :
    Keeps M S0 (State.adaptPhase s n ph).1 := by
  unfold State.adaptPhase
  repeat' first
    | with_reducible assumption
    | (intro x; refine keeps_cut (m := M) (s0 := S0) (x := x) ?_ ?_; all_goals first | (intro hx; clear_value x) | subst x)
    | (intro x; clear_value x)
    | intro _
    | with_reducible exact may_trans gm (by decide +kernel)
    | with_reducible apply keeps_ite | with_reducible apply keeps_ite1 | with_reducible apply keeps_ite2
    | (unfold accReg; split)
    | (unfold errReg; split)
    | with_reducible apply count_keeps | with_reducible apply keeps_wr | dsimp -zeta -zetaHave only | lift_lets -underBinder | split

def State.adaptMark_may : Nat :=
  may .ADAPT_OFFSET_A ||| may .ADAPT_OFFSET_B ||| may .ADAPT_SAT_PASSES ||| State.count_may ||| State.endCause_may |||
  State.detectHeld_may ||| State.resetAdapt_may ||| State.adaptPhase_may
theorem adaptMark_keeps {M : Nat} {S0 : State} {s : State} (n : Nat) (gs : Keeps M S0 s) (gm : State.adaptMark_may &&& M = State.adaptMark_may := by decide +kernel) :
    Keeps M S0 (State.adaptMark s n) := by
  unfold State.adaptMark
  repeat' first
    | with_reducible assumption
    | refine keeps_fst (by with_reducible assumption) ?_
    | refine keeps_snd (by with_reducible assumption) ?_
    | (intro x; refine keeps_cut (m := M) (s0 := S0) (x := x) ?_ ?_; all_goals first | (intro hx; clear_value x) | subst x)
    | (intro x; subst x)
    | intro _
    | with_reducible exact may_trans gm (by decide +kernel)
    | with_reducible apply keeps_ite | with_reducible apply keeps_iff | with_reducible apply count_keeps
    | with_reducible apply endCause_keeps | with_reducible apply detectHeld_keeps | with_reducible apply resetAdapt_keeps
    | with_reducible apply adaptPhase_keeps | with_reducible apply keeps_wr | dsimp -zeta -zetaHave only | lift_lets -underBinder | split

def State.takeError_may : Nat :=
  may .adCnt ||| may .adMag ||| may .adSum
theorem takeError_keeps {M : Nat} {S0 : State} {s : State} (n ph : Nat) (ref cur : Int) (gs : Keeps M S0 s) (gm : State.takeError_may &&& M = State.takeError_may := by decide +kernel) :
    Keeps M S0 (State.takeError s n ph ref cur) := by
  unfold State.takeError
  repeat' first
    | with_reducible assumption
    | (intro x; refine keeps_cut (m := M) (s0 := S0) (x := x) ?_ ?_; all_goals first | (intro hx; clear_value x) | subst x)
    | (intro x; clear_value x)
    | intro _
    | with_reducible exact may_trans gm (by decide +kernel)
    | with_reducible apply keeps_ite | with_reducible apply keeps_wr | dsimp -zeta -zetaHave only | lift_lets -underBinder

def State.signatureMark_may : Nat :=
  may .SIG_FLAGS ||| may .TOFF_A ||| may .TOFF_B ||| may .TON_A ||| may .TON_B ||| may .phRec
theorem signatureMark_keeps {M : Nat} {S0 : State} {s : State} (n : Nat) (gs : Keeps M S0 s) (gm : State.signatureMark_may &&& M = State.signatureMark_may := by decide +kernel) :
    Keeps M S0 (State.signatureMark s n) := by
  unfold State.signatureMark
  repeat' first
    | with_reducible assumption
    | (intro x; refine keeps_cut (m := M) (s0 := S0) (x := x) ?_ ?_; all_goals first | (intro hx; clear_value x) | subst x)
    | (intro x; subst x)
    | intro _
    | with_reducible exact may_trans gm (by decide +kernel)
    | with_reducible apply keeps_ite | with_reducible apply keeps_wr | dsimp -zeta -zetaHave only | lift_lets -underBinder | split

def State.widenMark_may : Nat :=
  may .WIDEN_A ||| may .WIDEN_B ||| may .phShort ||| may .phW
theorem widenMark_keeps {M : Nat} {S0 : State} {s : State} (n ph : Nat) (gs : Keeps M S0 s) (gm : State.widenMark_may &&& M = State.widenMark_may := by decide +kernel) :
    Keeps M S0 (State.widenMark s n ph) := by
  unfold State.widenMark
  repeat' first
    | with_reducible assumption
    | (intro x; refine keeps_cut (m := M) (s0 := S0) (x := x) ?_ ?_; all_goals first | (intro hx; clear_value x) | subst x)
    | (intro x; clear_value x)
    | intro _
    | with_reducible exact may_trans gm (by decide +kernel)
    | with_reducible apply keeps_ite | with_reducible apply keeps_wr | dsimp -zeta -zetaHave only | lift_lets -underBinder | split

def State.takeChopper_may : Nat :=
  may .effBand ||| may .effBlank ||| may .effDecay ||| may .effMix ||| may .effToff
theorem takeChopper_keeps {M : Nat} {S0 : State} {s : State} (n : Nat) (gs : Keeps M S0 s) (gm : State.takeChopper_may &&& M = State.takeChopper_may := by decide +kernel) :
    Keeps M S0 (State.takeChopper s n) := by
  unfold State.takeChopper
  repeat' first
    | with_reducible assumption
    | (intro x; refine keeps_cut (m := M) (s0 := S0) (x := x) ?_ ?_; all_goals first | (intro hx; clear_value x) | subst x)
    | (intro x; clear_value x)
    | intro _
    | with_reducible exact may_trans gm (by decide +kernel)
    | with_reducible apply keeps_ite | with_reducible apply keeps_wr | dsimp -zeta -zetaHave only | lift_lets -underBinder

def State.setAmp_may : Nat :=
  may .AMPLITUDE ||| may .AMP_CODE ||| may .AMP_SOURCE
theorem setAmp_keeps {M : Nat} {S0 : State} {s : State} (n mA src : Nat) (gs : Keeps M S0 s) (gm : State.setAmp_may &&& M = State.setAmp_may := by decide +kernel) :
    Keeps M S0 (State.setAmp s n mA src) := by
  unfold State.setAmp
  repeat' first
    | with_reducible assumption | intro _
    | with_reducible exact may_trans gm (by decide +kernel)
    | with_reducible apply keeps_ite | with_reducible apply keeps_wr | dsimp -zeta -zetaHave only

def State.refMark_may : Nat :=
  may .ANGLE ||| may .REF_A ||| may .REF_B
theorem refMark_keeps {M : Nat} {S0 : State} {s : State} (n : Nat) (gs : Keeps M S0 s) (gm : State.refMark_may &&& M = State.refMark_may := by decide +kernel) :
    Keeps M S0 (State.refMark s n) := by
  unfold State.refMark
  repeat' first
    | with_reducible assumption
    | (intro x; refine keeps_cut (m := M) (s0 := S0) (x := x) ?_ ?_; all_goals first | (intro hx; clear_value x) | subst x)
    | (intro x; clear_value x)
    | intro _
    | with_reducible exact may_trans gm (by decide +kernel)
    | with_reducible apply keeps_ite | with_reducible apply keeps_wr | dsimp -zeta -zetaHave only | lift_lets -underBinder

def State.seenPass_may : Nat :=
  may .adSeen
theorem seenPass_keeps {M : Nat} {S0 : State} {s : State} (n ph : Nat) (gs : Keeps M S0 s) (gm : State.seenPass_may &&& M = State.seenPass_may := by decide +kernel) :
    Keeps M S0 (State.seenPass s n ph) := by
  unfold State.seenPass
  repeat' first
    | with_reducible assumption | intro _
    | with_reducible exact may_trans gm (by decide +kernel)
    | with_reducible apply keeps_ite | with_reducible apply keeps_iff | with_reducible apply keeps_wr | dsimp -zeta -zetaHave only
    | split

def State.settledMark_may : Nat :=
  may .ADAPT_SETTLED ||| may .adSeen
theorem settledMark_keeps {M : Nat} {S0 : State} {s : State} (n : Nat) (gs : Keeps M S0 s) (gm : State.settledMark_may &&& M = State.settledMark_may := by decide +kernel) :
    Keeps M S0 (State.settledMark s n) := by
  unfold State.settledMark
  repeat' first
    | with_reducible assumption
    | (intro x; refine keeps_cut (m := M) (s0 := S0) (x := x) ?_ ?_; all_goals first | (intro hx; clear_value x) | subst x)
    | (intro x; clear_value x)
    | intro _
    | with_reducible exact may_trans gm (by decide +kernel)
    | with_reducible apply keeps_ite | with_reducible apply keeps_iff | with_reducible apply keeps_wr | dsimp -zeta -zetaHave only
    | lift_lets -underBinder | split

-- Bridges.lean

def State.setDrive_may : Nat :=
  may .DEV_VALID ||| may .DRIVE_STATE ||| may .prevDrive
theorem setDrive_keeps {M : Nat} {S0 : State} {s : State} (n : Nat) (v : Int) (gs : Keeps M S0 s) (gm : State.setDrive_may &&& M = State.setDrive_may := by decide +kernel) :
    Keeps M S0 (State.setDrive s n v) := by
  unfold State.setDrive
  repeat' first
    | with_reducible assumption | intro _
    | with_reducible exact may_trans gm (by decide +kernel)
    | with_reducible apply keeps_ite | with_reducible apply keeps_iff | with_reducible apply keeps_wr | dsimp -zeta -zetaHave only
    | split

def State.bridgeBit_may : Nat :=
  may .BRIDGE_FAULT ||| may .brPersist ||| State.raise_may
theorem bridgeBit_keeps {M : Nat} {S0 : State} {s : State} (n b : Nat) (gs : Keeps M S0 s) (gm : State.bridgeBit_may &&& M = State.bridgeBit_may := by decide +kernel) :
    Keeps M S0 (State.bridgeBit s n b) := by
  unfold State.bridgeBit
  repeat' first
    | with_reducible assumption | intro _
    | with_reducible exact may_trans gm (by decide +kernel)
    | with_reducible apply keeps_ite | with_reducible apply wrBit_keeps | with_reducible apply raise_keeps | dsimp -zeta -zetaHave only

def State.openPhases_may : Nat :=
  State.openPhase_may
theorem openPhases_keeps {M : Nat} {S0 : State} {s : State} (n : Nat) (gs : Keeps M S0 s) (gm : State.openPhases_may &&& M = State.openPhases_may := by decide +kernel) :
    Keeps M S0 (State.openPhases s n) := by
  unfold State.openPhases
  repeat' first
    | with_reducible assumption | intro _
    | with_reducible exact may_trans gm (by decide +kernel)
    | with_reducible apply keeps_ite | with_reducible apply openPhase_keeps | dsimp -zeta -zetaHave only

def State.goOpen_may : Nat :=
  State.setAmp_may ||| State.setDrive_may ||| State.bridgeBit_may ||| State.openPhases_may
theorem goOpen_keeps {M : Nat} {S0 : State} {s : State} (n : Nat) (gs : Keeps M S0 s) (gm : State.goOpen_may &&& M = State.goOpen_may := by decide +kernel) :
    Keeps M S0 (State.goOpen s n) := by
  unfold State.goOpen
  repeat' first
    | with_reducible assumption
    | (intro x; refine keeps_cut (m := M) (s0 := S0) (x := x) ?_ ?_; all_goals first | (intro hx; clear_value x) | subst x)
    | (intro x; clear_value x)
    | intro _
    | with_reducible exact may_trans gm (by decide +kernel)
    | with_reducible apply keeps_ite | with_reducible apply setAmp_keeps | with_reducible apply setDrive_keeps
    | with_reducible apply bridgeBit_keeps | with_reducible apply openPhases_keeps | dsimp -zeta -zetaHave only | lift_lets -underBinder
    | split

def State.disable_may : Nat :=
  may .DISABLE_CAUSE ||| may .disPend ||| may .drivePend ||| State.stopAxis_may ||| State.goOpen_may
theorem disable_keeps {M : Nat} {S0 : State} {s : State} (n c : Nat) (gs : Keeps M S0 s) (gm : State.disable_may &&& M = State.disable_may := by decide +kernel) :
    Keeps M S0 (State.disable s n c) := by
  unfold State.disable
  repeat' first
    | with_reducible assumption
    | (intro x; refine keeps_cut (m := M) (s0 := S0) (x := x) ?_ ?_; all_goals first | (intro hx; clear_value x) | subst x)
    | (intro x; clear_value x)
    | intro _
    | with_reducible exact may_trans gm (by decide +kernel)
    | with_reducible apply keeps_ite | with_reducible apply stopAxis_keeps | with_reducible apply goOpen_keeps
    | with_reducible apply keeps_wr | dsimp -zeta -zetaHave only | lift_lets -underBinder

def State.contain_may : Nat :=
  may_was ||| may .ampShadow ||| may .ampSrcShadow ||| may .contPend ||| may .disPend ||| may .drivePend ||| may .rearmPend |||
  State.event_may ||| State.stopAxis_may ||| State.setDrive_may ||| State.goOpen_may
theorem contain_keeps {M : Nat} {S0 : State} {s : State} (n : Nat) (toOpen : Bool) (gs : Keeps M S0 s) (gm : State.contain_may &&& M = State.contain_may := by decide +kernel) :
    Keeps M S0 (State.contain s n toOpen) := by
  unfold State.contain
  repeat' first
    | with_reducible assumption
    | (intro x; refine keeps_cut (m := M) (s0 := S0) (x := x) ?_ ?_; all_goals first | (intro hx; clear_value x) | subst x)
    | (intro x; clear_value x)
    | intro _
    | with_reducible exact may_trans gm (by decide +kernel)
    | with_reducible apply keeps_ite | with_reducible apply keeps_iff | with_reducible apply event_keeps
    | with_reducible apply stopAxis_keeps | with_reducible apply setDrive_keeps | with_reducible apply goOpen_keeps
    | with_reducible apply keeps_wr | dsimp -zeta -zetaHave only | lift_lets -underBinder | split

def State.holdAxis_may : Nat :=
  may .contPend
theorem holdAxis_keeps {M : Nat} {S0 : State} {s : State} (n : Nat) (gs : Keeps M S0 s) (gm : State.holdAxis_may &&& M = State.holdAxis_may := by decide +kernel) :
    Keeps M S0 (State.holdAxis s n) := by
  unfold State.holdAxis
  repeat' first
    | with_reducible assumption | intro _
    | with_reducible exact may_trans gm (by decide +kernel)
    | with_reducible apply keeps_ite | with_reducible apply keeps_wr | dsimp -zeta -zetaHave only | split

def State.preset_may : Nat :=
  may .STILL_PASSES ||| may .ampShadow ||| may .ampSrcShadow ||| may .chopFrom ||| may .fbAlignPend ||| State.setAmp_may |||
  State.setDrive_may
theorem preset_keeps {M : Nat} {S0 : State} {s : State} (n : Nat) (gs : Keeps M S0 s) (gm : State.preset_may &&& M = State.preset_may := by decide +kernel) :
    Keeps M S0 (State.preset s n) := by
  unfold State.preset
  repeat' first
    | with_reducible assumption
    | (intro x; refine keeps_cut (m := M) (s0 := S0) (x := x) ?_ ?_; all_goals first | (intro hx; clear_value x) | subst x)
    | (intro x; clear_value x)
    | intro _
    | with_reducible exact may_trans gm (by decide +kernel)
    | with_reducible apply keeps_ite | with_reducible apply setAmp_keeps | with_reducible apply setDrive_keeps
    | with_reducible apply keeps_wr | dsimp -zeta -zetaHave only | lift_lets -underBinder

def State.startPhases_may : Nat :=
  State.enablePhase_may
theorem startPhases_keeps {M : Nat} {S0 : State} {s : State} (n : Nat) (gs : Keeps M S0 s) (gm : State.startPhases_may &&& M = State.startPhases_may := by decide +kernel) :
    Keeps M S0 (State.startPhases s n) := by
  unfold State.startPhases
  repeat' first
    | with_reducible assumption | intro _
    | with_reducible exact may_trans gm (by decide +kernel)
    | with_reducible apply keeps_ite | with_reducible apply enablePhase_keeps | dsimp -zeta -zetaHave only | split

def State.brakeSync_may : Nat :=
  may .BRIDGE_FAULT ||| may .DEV_VALID ||| may .DRIVE_STATE ||| may .chopFrom ||| may .prevDrive ||| State.raise_may |||
  State.switchAt_may ||| State.bridgeBit_may ||| State.openPhases_may ||| State.startPhases_may
theorem brakeSync_keeps {M : Nat} {S0 : State} {s : State} (n : Nat) (gs : Keeps M S0 s) (gm : State.brakeSync_may &&& M = State.brakeSync_may := by decide +kernel) :
    Keeps M S0 (State.brakeSync s n) := by
  unfold State.brakeSync
  repeat' first
    | with_reducible assumption
    | (intro x; refine keeps_cut (m := M) (s0 := S0) (x := x) ?_ ?_; all_goals first | (intro hx; clear_value x) | subst x)
    | (intro x; clear_value x)
    | intro _
    | with_reducible exact may_trans gm (by decide +kernel)
    | with_reducible apply keeps_ite | with_reducible apply keeps_iff | with_reducible apply raise_keeps
    | with_reducible apply switchAt_keeps | with_reducible apply bridgeBit_keeps | with_reducible apply openPhases_keeps
    | with_reducible apply startPhases_keeps | with_reducible apply keeps_wr | dsimp -zeta -zetaHave only | lift_lets -underBinder
    | split

def State.enableNow_may : Nat :=
  may .DISABLE_CAUSE ||| may .drivePend ||| State.setAxis_may ||| State.preset_may
theorem enableNow_keeps {M : Nat} {S0 : State} {s : State} (n : Nat) (gs : Keeps M S0 s) (gm : State.enableNow_may &&& M = State.enableNow_may := by decide +kernel) :
    Keeps M S0 (State.enableNow s n) := by
  unfold State.enableNow
  repeat' first
    | with_reducible assumption
    | (intro x; refine keeps_cut (m := M) (s0 := S0) (x := x) ?_ ?_; all_goals first | (intro hx; clear_value x) | subst x)
    | (intro x; clear_value x)
    | intro _
    | with_reducible exact may_trans gm (by decide +kernel)
    | with_reducible apply keeps_ite | with_reducible apply setAxis_keeps | with_reducible apply preset_keeps
    | with_reducible apply keeps_wr | dsimp -zeta -zetaHave only | lift_lets -underBinder | split

def State.ledgerRestore_may : Nat :=
  may_ledger ||| may .TRIP_STATE ||| may .adReset ||| may .fbAlignPend ||| may .ledBad ||| State.takeLimits_may ||| State.halt_may
theorem ledgerRestore_keeps {M : Nat} {S0 : State} {s : State} (n : Nat) (gs : Keeps M S0 s) (gm : State.ledgerRestore_may &&& M = State.ledgerRestore_may := by decide +kernel) :
    Keeps M S0 (State.ledgerRestore s n) := by
  unfold State.ledgerRestore
  repeat' first
    | with_reducible assumption
    | (intro x; refine keeps_cut (m := M) (s0 := S0) (x := x) ?_ ?_; all_goals first | (intro hx; clear_value x) | subst x)
    | (intro x; clear_value x)
    | intro _
    | with_reducible exact may_trans gm (by decide +kernel)
    | with_reducible apply keeps_ite | with_reducible apply takeLimits_keeps | with_reducible apply halt_keeps
    | with_reducible apply keeps_wr
    | with_reducible exact Tbl.wf_nil
    | with_reducible apply Tbl.wf_tset | with_reducible apply Tbl.wf_filter | with_reducible apply Tbl.wf_tmap
    | with_reducible refine (Keeps.can (m := M) (s := S0) ?_ (by assumption)).ledger | dsimp -zeta -zetaHave only
    | lift_lets -underBinder | split | with_reducible apply keeps_ledger

def State.exhaust_may : Nat :=
  State.bridgeBit_may
theorem exhaust_keeps {M : Nat} {S0 : State} {s : State} (n : Nat) (gs : Keeps M S0 s) (gm : State.exhaust_may &&& M = State.exhaust_may := by decide +kernel) :
    Keeps M S0 (State.exhaust s n) := by
  unfold State.exhaust
  repeat' first
    | with_reducible assumption
    | (intro x; refine keeps_cut (m := M) (s0 := S0) (x := x) ?_ ?_; all_goals first | (intro hx; clear_value x) | subst x)
    | (intro x; clear_value x)
    | intro _
    | with_reducible exact may_trans gm (by decide +kernel)
    | with_reducible apply keeps_ite | with_reducible apply bridgeBit_keeps | dsimp -zeta -zetaHave only | lift_lets -underBinder

def State.retryFail_may : Nat :=
  may .retryAt ||| State.exhaust_may
theorem retryFail_keeps {M : Nat} {S0 : State} {s : State} (n : Nat) (gs : Keeps M S0 s) (gm : State.retryFail_may &&& M = State.retryFail_may := by decide +kernel) :
    Keeps M S0 (State.retryFail s n) := by
  unfold State.retryFail
  repeat' first
    | with_reducible assumption | intro _
    | with_reducible exact may_trans gm (by decide +kernel)
    | with_reducible apply keeps_ite | with_reducible apply exhaust_keeps | with_reducible apply keeps_wr | dsimp -zeta -zetaHave only
    | split

def State.rearmNow_may : Nat :=
  may .RETRY_COUNT ||| may .chopFrom ||| may .faultLatch ||| may .rearmPend ||| State.setAxis_may ||| State.setDrive_may |||
  State.preset_may ||| State.ledgerRestore_may ||| State.retryFail_may
theorem rearmNow_keeps {M : Nat} {S0 : State} {s : State} (n : Nat) (gs : Keeps M S0 s) (gm : State.rearmNow_may &&& M = State.rearmNow_may := by decide +kernel) :
    Keeps M S0 (State.rearmNow s n) := by
  unfold State.rearmNow
  repeat' first
    | with_reducible assumption
    | (intro x; refine keeps_cut (m := M) (s0 := S0) (x := x) ?_ ?_; all_goals first | (intro hx; clear_value x) | subst x)
    | (intro x; clear_value x)
    | intro _
    | with_reducible exact may_trans gm (by decide +kernel)
    | with_reducible apply keeps_ite | with_reducible apply keeps_iff | with_reducible apply setAxis_keeps
    | with_reducible apply setDrive_keeps | with_reducible apply preset_keeps | with_reducible apply ledgerRestore_keeps
    | with_reducible apply retryFail_keeps | with_reducible apply keeps_wr | dsimp -zeta -zetaHave only | lift_lets -underBinder | split

def State.bridgesOff_may : Nat :=
  may .drivePend ||| may .firePend ||| may .pulseEnd ||| may .rearmPend ||| State.switchAt_may ||| State.setDrive_may |||
  State.goOpen_may ||| State.disable_may
theorem bridgesOff_keeps {M : Nat} {S0 : State} {s : State} (gs : Keeps M S0 s) (gm : State.bridgesOff_may &&& M = State.bridgesOff_may := by decide +kernel) :
    Keeps M S0 (State.bridgesOff s) := by
  unfold State.bridgesOff
  repeat' first
    | with_reducible assumption
    | (intro x; refine keeps_cut (m := M) (s0 := S0) (x := x) ?_ ?_; all_goals first | (intro hx; clear_value x) | subst x)
    | (intro x; clear_value x)
    | intro _
    | with_reducible exact may_trans gm (by decide +kernel)
    | with_reducible apply keeps_ite | with_reducible apply keeps_forAll | with_reducible apply switchAt_keeps
    | with_reducible apply setDrive_keeps | with_reducible apply goOpen_keeps | with_reducible apply disable_keeps
    | with_reducible apply keeps_wr | dsimp -zeta -zetaHave only | lift_lets -underBinder | split

def State.latch_may : Nat :=
  may .contPend ||| may .faultLatch ||| may .latchAt ||| may .pulseEnd ||| State.detect_may ||| State.bridgeBit_may |||
  State.openPhases_may ||| State.brakeSync_may
theorem latch_keeps {M : Nat} {S0 : State} {s : State} (n b : Nat) (gs : Keeps M S0 s) (gm : State.latch_may &&& M = State.latch_may := by decide +kernel) :
    Keeps M S0 (State.latch s n b) := by
  unfold State.latch
  repeat' first
    | with_reducible assumption
    | (intro x; refine keeps_cut (m := M) (s0 := S0) (x := x) ?_ ?_; all_goals first | (intro hx; clear_value x) | subst x)
    | (intro x; clear_value x)
    | intro _
    | with_reducible exact may_trans gm (by decide +kernel)
    | with_reducible apply keeps_ite | with_reducible apply detect_keeps | with_reducible apply bridgeBit_keeps
    | with_reducible apply openPhases_keeps | with_reducible apply brakeSync_keeps | with_reducible apply keeps_wr
    | dsimp -zeta -zetaHave only | lift_lets -underBinder

def State.interlock_may : Nat :=
  may .SHOOT_COUNT ||| State.count_may ||| State.switchAt_may ||| State.latch_may
theorem interlock_keeps {M : Nat} {S0 : State} {s : State} (n : Nat) (gs : Keeps M S0 s) (gm : State.interlock_may &&& M = State.interlock_may := by decide +kernel) :
    Keeps M S0 (State.interlock s n) := by
  unfold State.interlock
  repeat' first
    | with_reducible assumption | intro _
    | with_reducible exact may_trans gm (by decide +kernel)
    | with_reducible apply keeps_ite | with_reducible apply count_keeps | with_reducible apply switchAt_keeps
    | with_reducible apply latch_keeps | dsimp -zeta -zetaHave only | split

def State.ranks_may : Nat :=
  State.brakeSync_may ||| State.interlock_may
theorem ranks_keeps {M : Nat} {S0 : State} {s : State} (n : Nat) (gs : Keeps M S0 s) (gm : State.ranks_may &&& M = State.ranks_may := by decide +kernel) :
    Keeps M S0 (State.ranks s n) := by
  unfold State.ranks
  repeat' first
    | with_reducible assumption | intro _
    | with_reducible exact may_trans gm (by decide +kernel)
    | with_reducible apply keeps_ite | with_reducible apply brakeSync_keeps | with_reducible apply interlock_keeps
    | dsimp -zeta -zetaHave only

def State.ranksAll_may : Nat :=
  State.ranks_may
theorem ranksAll_keeps {M : Nat} {S0 : State} {s : State} (gs : Keeps M S0 s) (gm : State.ranksAll_may &&& M = State.ranksAll_may := by decide +kernel) :
    Keeps M S0 (State.ranksAll s) := by
  unfold State.ranksAll
  repeat' first
    | with_reducible assumption
    | (intro x; refine keeps_cut (m := M) (s0 := S0) (x := x) ?_ ?_; all_goals first | (intro hx; clear_value x) | subst x)
    | (intro x; clear_value x)
    | intro _
    | with_reducible exact may_trans gm (by decide +kernel)
    | with_reducible apply keeps_ite | with_reducible apply keeps_forAll | with_reducible apply ranks_keeps | dsimp -zeta -zetaHave only
    | lift_lets -underBinder

def execOvercurrent_may : Nat :=
  may .FAULT_SWITCHES ||| may .OC_COUNT ||| may .chopFrom ||| may .retryAt ||| State.count_may ||| State.at_may |||
  State.settleAxis_may ||| State.exhaust_may ||| State.latch_may
theorem execOvercurrent_keeps {M : Nat} {S0 : State} (t : Nat) (n : Fin 64) (switches : Byte) {s : State} (gs : Keeps M S0 s) (gm : execOvercurrent_may &&& M = execOvercurrent_may := by decide +kernel) :
    KeepsO M S0 (execOvercurrent t n switches s) := by
  unfold execOvercurrent
  repeat' first
    | with_reducible assumption
    | (intro x; refine keeps_cut (m := M) (s0 := S0) (x := x) ?_ ?_; all_goals first | (intro hx; clear_value x) | subst x)
    | (intro x; clear_value x)
    | intro _
    | with_reducible exact may_trans gm (by decide +kernel)
    | with_reducible apply keeps_ite | with_reducible apply count_keeps | with_reducible apply at_keeps
    | with_reducible apply settleAxis_keeps | with_reducible apply exhaust_keeps | with_reducible apply latch_keeps
    | with_reducible apply keeps_wr | with_reducible apply keepsO_next | with_reducible apply keepsO_ite
    | exact keepsO_fault
    | dsimp -zeta -zetaHave only | lift_lets -underBinder | split

def State.seeVbs_may : Nat :=
  may .BOOT_MIN
theorem seeVbs_keeps {M : Nat} {S0 : State} {s : State} (n vbs : Nat) (gs : Keeps M S0 s) (gm : State.seeVbs_may &&& M = State.seeVbs_may := by decide +kernel) :
    Keeps M S0 (State.seeVbs s n vbs) := by
  unfold State.seeVbs
  repeat' first
    | with_reducible assumption
    | (intro x; refine keeps_cut (m := M) (s0 := S0) (x := x) ?_ ?_; all_goals first | (intro hx; clear_value x) | subst x)
    | (intro x; clear_value x)
    | intro _
    | with_reducible exact may_trans gm (by decide +kernel)
    | with_reducible apply keeps_ite | with_reducible apply keeps_wr | dsimp -zeta -zetaHave only | lift_lets -underBinder

def execBootstrapRefresh_may : Nat :=
  may .refreshWait ||| State.at_may ||| State.startRefresh_may ||| State.settleAxis_may ||| State.seeVbs_may
theorem execBootstrapRefresh_keeps {M : Nat} {S0 : State} (t : Nat) (n : Fin 64) (hs : Fin 4) (vbs : Nat) {s : State} (gs : Keeps M S0 s) (gm : execBootstrapRefresh_may &&& M = execBootstrapRefresh_may := by decide +kernel) :
    KeepsO M S0 (execBootstrapRefresh t n hs vbs s) := by
  unfold execBootstrapRefresh
  repeat' first
    | with_reducible assumption
    | (intro x; refine keeps_cut (m := M) (s0 := S0) (x := x) ?_ ?_; all_goals first | (intro hx; clear_value x) | subst x)
    | (intro x; clear_value x)
    | intro _
    | with_reducible exact may_trans gm (by decide +kernel)
    | with_reducible apply keeps_ite | with_reducible apply at_keeps | with_reducible apply startRefresh_keeps
    | with_reducible apply settleAxis_keeps | with_reducible apply seeVbs_keeps | with_reducible apply keeps_wr
    | with_reducible apply keepsO_next | with_reducible apply keepsO_ite
    | exact keepsO_fault
    | dsimp -zeta -zetaHave only | lift_lets -underBinder | split

def execBootstrapRefreshEnd_may : Nat :=
  may .refreshOn ||| State.at_may ||| State.switchAt_may ||| State.settleAxis_may ||| State.latch_may ||| State.seeVbs_may
theorem execBootstrapRefreshEnd_keeps {M : Nat} {S0 : State} (t : Nat) (n : Fin 64) (hs : Fin 4) (vbs : Nat) {s : State} (gs : Keeps M S0 s) (gm : execBootstrapRefreshEnd_may &&& M = execBootstrapRefreshEnd_may := by decide +kernel) :
    KeepsO M S0 (execBootstrapRefreshEnd t n hs vbs s) := by
  unfold execBootstrapRefreshEnd
  repeat' first
    | with_reducible assumption
    | (intro x; refine keeps_cut (m := M) (s0 := S0) (x := x) ?_ ?_; all_goals first | (intro hx; clear_value x) | subst x)
    | (intro x; clear_value x)
    | intro _
    | with_reducible exact may_trans gm (by decide +kernel)
    | with_reducible apply keeps_ite | with_reducible apply at_keeps | with_reducible apply switchAt_keeps
    | with_reducible apply settleAxis_keeps | with_reducible apply latch_keeps | with_reducible apply seeVbs_keeps
    | with_reducible apply keeps_wr | with_reducible apply keepsO_next | with_reducible apply keepsO_ite
    | exact keepsO_fault
    | dsimp -zeta -zetaHave only | lift_lets -underBinder | split

def execBootstrapLow_may : Nat :=
  State.at_may ||| State.settleAxis_may ||| State.latch_may ||| State.seeVbs_may
theorem execBootstrapLow_keeps {M : Nat} {S0 : State} (t : Nat) (n : Fin 64) (hs : Fin 4) (vbs : Nat) {s : State} (gs : Keeps M S0 s) (gm : execBootstrapLow_may &&& M = execBootstrapLow_may := by decide +kernel) :
    KeepsO M S0 (execBootstrapLow t n hs vbs s) := by
  unfold execBootstrapLow
  repeat' first
    | with_reducible assumption
    | (intro x; refine keeps_cut (m := M) (s0 := S0) (x := x) ?_ ?_; all_goals first | (intro hx; clear_value x) | subst x)
    | (intro x; clear_value x)
    | intro _
    | with_reducible exact may_trans gm (by decide +kernel)
    | with_reducible apply keeps_ite | with_reducible apply at_keeps | with_reducible apply settleAxis_keeps
    | with_reducible apply latch_keeps | with_reducible apply seeVbs_keeps | with_reducible apply keepsO_next
    | with_reducible apply keepsO_ite
    | exact keepsO_fault
    | dsimp -zeta -zetaHave only | lift_lets -underBinder | split

def execPumpFail_may : Nat :=
  may .PUMP_OK ||| State.at_may ||| State.detectHeld_may
theorem execPumpFail_keeps {M : Nat} {S0 : State} (t : Nat) (k : Fin 8) {s : State} (gs : Keeps M S0 s) (gm : execPumpFail_may &&& M = execPumpFail_may := by decide +kernel) :
    KeepsO M S0 (execPumpFail t k s) := by
  unfold execPumpFail
  repeat' first
    | with_reducible assumption | intro _
    | with_reducible exact may_trans gm (by decide +kernel)
    | with_reducible apply keeps_ite | with_reducible apply at_keeps | with_reducible apply detectHeld_keeps
    | with_reducible apply keeps_wr | with_reducible apply keepsO_next | with_reducible apply keepsO_ite
    | exact keepsO_fault
    | dsimp -zeta -zetaHave only

def State.openMark_may : Nat :=
  may .brPersist ||| may .openRun ||| may .phPeak ||| State.endCause_may
theorem openMark_keeps {M : Nat} {S0 : State} {s : State} (n ph : Nat) (gs : Keeps M S0 s) (gm : State.openMark_may &&& M = State.openMark_may := by decide +kernel) :
    Keeps M S0 (State.openMark s n ph) := by
  unfold State.openMark
  repeat' first
    | with_reducible assumption
    | (intro x; refine keeps_cut (m := M) (s0 := S0) (x := x) ?_ ?_; all_goals first | (intro hx; clear_value x) | subst x)
    | (intro x; clear_value x)
    | intro _
    | with_reducible exact may_trans gm (by decide +kernel)
    | with_reducible apply keeps_ite | with_reducible apply wrBit_keeps | with_reducible apply endCause_keeps
    | with_reducible apply keeps_wr | dsimp -zeta -zetaHave only | lift_lets -underBinder | split

def execOpenPhase_may : Nat :=
  State.detectHeld_may ||| State.bridgeBit_may
theorem execOpenPhase_keeps {M : Nat} {S0 : State} (n : Fin 64) (ph : Fin 2) {s : State} (gs : Keeps M S0 s) (gm : execOpenPhase_may &&& M = execOpenPhase_may := by decide +kernel) :
    KeepsO M S0 (execOpenPhase n ph s) := by
  unfold execOpenPhase
  repeat' first
    | with_reducible assumption
    | (intro x; refine keeps_cut (m := M) (s0 := S0) (x := x) ?_ ?_; all_goals first | (intro hx; clear_value x) | subst x)
    | (intro x; clear_value x)
    | intro _
    | with_reducible exact may_trans gm (by decide +kernel)
    | with_reducible apply keeps_ite | with_reducible apply detectHeld_keeps | with_reducible apply bridgeBit_keeps
    | with_reducible apply keepsO_next | with_reducible apply keepsO_ite
    | exact keepsO_fault
    | dsimp -zeta -zetaHave only | lift_lets -underBinder | split

def State.setDiag_may : Nat :=
  may_diag
theorem setDiag_keeps {M : Nat} {S0 : State} {s : State} (k : Nat) (l : List Nat) (gs : Keeps M S0 s) (gm : State.setDiag_may &&& M = State.setDiag_may := by decide +kernel) :
    Keeps M S0 (State.setDiag s k l) := by
  unfold State.setDiag
  repeat' first
    | with_reducible assumption
    | (intro x; refine keeps_cut (m := M) (s0 := S0) (x := x) ?_ ?_; all_goals first | (intro hx; clear_value x) | subst x)
    | (intro x; clear_value x)
    | intro _
    | with_reducible exact may_trans gm (by decide +kernel)
    | with_reducible apply keeps_ite
    | with_reducible exact Tbl.wf_nil
    | with_reducible apply Tbl.wf_tset | with_reducible apply Tbl.wf_filter | with_reducible apply Tbl.wf_tmap
    | with_reducible refine (Keeps.can (m := M) (s := S0) ?_ (by assumption)).diag | dsimp -zeta -zetaHave only | lift_lets -underBinder
    | with_reducible apply keeps_diag

def State.queueDiag_may : Nat :=
  may .DIAG_RESULT ||| State.setDiag_may
theorem queueDiag_keeps {M : Nat} {S0 : State} {s : State} (n : Nat) (gs : Keeps M S0 s) (gm : State.queueDiag_may &&& M = State.queueDiag_may := by decide +kernel) :
    Keeps M S0 (State.queueDiag s n) := by
  unfold State.queueDiag
  repeat' first
    | with_reducible assumption | intro _
    | with_reducible exact may_trans gm (by decide +kernel)
    | with_reducible apply keeps_ite | with_reducible apply setDiag_keeps | with_reducible apply keeps_wr | dsimp -zeta -zetaHave only
    | split

def State.retryEnd_may : Nat :=
  may .BRIDGE_FAULT ||| may .CAUSES_LATCHED ||| may .rearmPend ||| may .retryDiag ||| State.detect_may ||| State.retryFail_may
theorem retryEnd_keeps {M : Nat} {S0 : State} {s : State} (n result : Nat) (gs : Keeps M S0 s) (gm : State.retryEnd_may &&& M = State.retryEnd_may := by decide +kernel) :
    Keeps M S0 (State.retryEnd s n result) := by
  unfold State.retryEnd
  repeat' first
    | with_reducible assumption
    | (intro x; refine keeps_cut (m := M) (s0 := S0) (x := x) ?_ ?_; all_goals first | (intro hx; clear_value x) | subst x)
    | (intro x; clear_value x)
    | intro _
    | with_reducible exact may_trans gm (by decide +kernel)
    | with_reducible apply keeps_ite | with_reducible apply lower_keeps | with_reducible apply detect_keeps
    | with_reducible apply retryFail_keeps | with_reducible apply keeps_wr | dsimp -zeta -zetaHave only | lift_lets -underBinder | split

def State.abortDiag_may : Nat :=
  may .DIAG_RESULT ||| may .DRIVE_STATE ||| State.retryEnd_may
theorem abortDiag_keeps {M : Nat} {S0 : State} {s : State} (n : Nat) (gs : Keeps M S0 s) (gm : State.abortDiag_may &&& M = State.abortDiag_may := by decide +kernel) :
    Keeps M S0 (State.abortDiag s n) := by
  unfold State.abortDiag
  repeat' first
    | with_reducible assumption
    | (intro x; refine keeps_cut (m := M) (s0 := S0) (x := x) ?_ ?_; all_goals first | (intro hx; clear_value x) | subst x)
    | (intro x; clear_value x)
    | intro _
    | with_reducible exact may_trans gm (by decide +kernel)
    | with_reducible apply keeps_ite | with_reducible apply retryEnd_keeps | with_reducible apply keeps_wr | dsimp -zeta -zetaHave only
    | lift_lets -underBinder | split

def State.abortDie_may : Nat :=
  may .DIAG_AXIS ||| State.setDiag_may ||| State.abortDiag_may
theorem abortDie_keeps {M : Nat} {S0 : State} {s : State} (k : Nat) (gs : Keeps M S0 s) (gm : State.abortDie_may &&& M = State.abortDie_may := by decide +kernel) :
    Keeps M S0 (State.abortDie s k) := by
  unfold State.abortDie
  repeat' first
    | with_reducible assumption
    | (intro x; refine keeps_cut (m := M) (s0 := S0) (x := x) ?_ ?_; all_goals first | (intro hx; clear_value x) | subst x)
    | (intro x; clear_value x)
    | intro _
    | with_reducible exact may_trans gm (by decide +kernel)
    | with_reducible apply keeps_ite | with_reducible apply keeps_forList | with_reducible apply setDiag_keeps
    | with_reducible apply abortDiag_keeps | with_reducible apply keeps_wr | dsimp -zeta -zetaHave only | lift_lets -underBinder | split

def State.dropDiag_may : Nat :=
  may .DIAG_RESULT ||| State.setDiag_may
theorem dropDiag_keeps {M : Nat} {S0 : State} {s : State} (n : Nat) (gs : Keeps M S0 s) (gm : State.dropDiag_may &&& M = State.dropDiag_may := by decide +kernel) :
    Keeps M S0 (State.dropDiag s n) := by
  unfold State.dropDiag
  repeat' first
    | with_reducible assumption | intro _
    | with_reducible exact may_trans gm (by decide +kernel)
    | with_reducible apply keeps_ite | with_reducible apply setDiag_keeps | with_reducible apply keeps_wr | dsimp -zeta -zetaHave only
    | split

def execDiagTestStart_may : Nat :=
  may .DIAG_AXIS ||| may .DRIVE_STATE ||| may .diagFrom ||| State.at_may ||| State.switchAt_may ||| State.setDiag_may |||
  State.abortDiag_may
theorem execDiagTestStart_keeps {M : Nat} {S0 : State} (t : Nat) (k : Fin 8) {s : State} (gs : Keeps M S0 s) (gm : execDiagTestStart_may &&& M = execDiagTestStart_may := by decide +kernel) :
    KeepsO M S0 (execDiagTestStart t k s) := by
  unfold execDiagTestStart
  repeat' first
    | with_reducible assumption
    | (intro x; refine keeps_cut (m := M) (s0 := S0) (x := x) ?_ ?_; all_goals first | (intro hx; clear_value x) | subst x)
    | (intro x; clear_value x)
    | intro _
    | with_reducible exact may_trans gm (by decide +kernel)
    | with_reducible apply keeps_ite | with_reducible apply at_keeps | with_reducible apply switchAt_keeps
    | with_reducible apply setDiag_keeps | with_reducible apply abortDiag_keeps | with_reducible apply keeps_wr
    | with_reducible apply keepsO_next | with_reducible apply keepsO_ite
    | exact keepsO_fault
    | dsimp -zeta -zetaHave only | lift_lets -underBinder | split

def execDiagEnd_may : Nat :=
  may .DIAG_AXIS ||| may .DIAG_FLAGS ||| may .DIAG_LEVELS ||| may .DIAG_RESULT ||| may .DIAG_TIME ||| may .DRIVE_STATE ||| may
  .brPersist ||| State.at_may ||| State.endCause_may ||| State.detect_may ||| State.bridgeBit_may ||| State.retryEnd_may
theorem execDiagEnd_keeps {M : Nat} {S0 : State} (t : Nat) (k : Fin 8) (volts : List Nat) (busLow : Bool) {s : State} (gs : Keeps M S0 s) (gm : execDiagEnd_may &&& M = execDiagEnd_may := by decide +kernel) :
    KeepsO M S0 (execDiagEnd t k volts busLow s) := by
  unfold execDiagEnd
  repeat' first
    | with_reducible assumption
    | (intro x; refine keeps_cut (m := M) (s0 := S0) (x := x) ?_ ?_; all_goals first | (intro hx; clear_value x) | subst x)
    | (intro x; clear_value x)
    | intro _
    | with_reducible exact may_trans gm (by decide +kernel)
    | with_reducible apply keeps_ite | with_reducible apply keeps_foldl | with_reducible apply at_keeps
    | with_reducible apply endCause_keeps | with_reducible apply detect_keeps | with_reducible apply bridgeBit_keeps
    | with_reducible apply retryEnd_keeps | with_reducible apply keeps_wr | with_reducible apply keepsO_next
    | with_reducible apply keepsO_ite
    | exact keepsO_fault
    | dsimp -zeta -zetaHave only | lift_lets -underBinder | split

def execOcRetry_may : Nat :=
  may .RETRY_COUNT ||| may .retryAt ||| may .retryDiag ||| State.queueDiag_may
theorem execOcRetry_keeps {M : Nat} {S0 : State} (n : Fin 64) {s : State} (gs : Keeps M S0 s) (gm : execOcRetry_may &&& M = execOcRetry_may := by decide +kernel) :
    KeepsO M S0 (execOcRetry n s) := by
  unfold execOcRetry
  repeat' first
    | with_reducible assumption
    | (intro x; refine keeps_cut (m := M) (s0 := S0) (x := x) ?_ ?_; all_goals first | (intro hx; clear_value x) | subst x)
    | (intro x; clear_value x)
    | intro _
    | with_reducible exact may_trans gm (by decide +kernel)
    | with_reducible apply keeps_ite | with_reducible apply queueDiag_keeps | with_reducible apply keeps_wr
    | with_reducible apply keepsO_next | with_reducible apply keepsO_ite
    | exact keepsO_fault
    | dsimp -zeta -zetaHave only | lift_lets -underBinder | split

def execRetryCountReset_may : Nat :=
  may .RETRY_COUNT
theorem execRetryCountReset_keeps {M : Nat} {S0 : State} (n : Fin 64) {s : State} (gs : Keeps M S0 s) (gm : execRetryCountReset_may &&& M = execRetryCountReset_may := by decide +kernel) :
    KeepsO M S0 (execRetryCountReset n s) := by
  unfold execRetryCountReset
  repeat' first
    | with_reducible assumption | intro _
    | with_reducible exact may_trans gm (by decide +kernel)
    | with_reducible apply keeps_ite | with_reducible apply keeps_wr | with_reducible apply keepsO_next | with_reducible apply keepsO_ite
    | exact keepsO_fault
    | dsimp -zeta -zetaHave only | split

def State.directMark_may : Nat :=
  may .directPend ||| may .firePend ||| may .pulseEnd ||| State.setDrive_may
theorem directMark_keeps {M : Nat} {S0 : State} {s : State} (n : Nat) (gs : Keeps M S0 s) (gm : State.directMark_may &&& M = State.directMark_may := by decide +kernel) :
    Keeps M S0 (State.directMark s n) := by
  unfold State.directMark
  repeat' first
    | with_reducible assumption
    | (intro x; refine keeps_cut (m := M) (s0 := S0) (x := x) ?_ ?_; all_goals first | (intro hx; clear_value x) | subst x)
    | (intro x; clear_value x)
    | intro _
    | with_reducible exact may_trans gm (by decide +kernel)
    | with_reducible apply keeps_ite | with_reducible apply setDrive_keeps | with_reducible apply keeps_wr | dsimp -zeta -zetaHave only
    | lift_lets -underBinder | split

def State.pulseDone_may : Nat :=
  may .pulseEnd ||| State.switchAt_may
theorem pulseDone_keeps {M : Nat} {S0 : State} {s : State} (n : Nat) (gs : Keeps M S0 s) (gm : State.pulseDone_may &&& M = State.pulseDone_may := by decide +kernel) :
    Keeps M S0 (State.pulseDone s n) := by
  unfold State.pulseDone
  repeat' first
    | with_reducible assumption
    | (intro x; refine keeps_cut (m := M) (s0 := S0) (x := x) ?_ ?_; all_goals first | (intro hx; clear_value x) | subst x)
    | (intro x; clear_value x)
    | intro _
    | with_reducible exact may_trans gm (by decide +kernel)
    | with_reducible apply keeps_ite | with_reducible apply switchAt_keeps | with_reducible apply keeps_wr | dsimp -zeta -zetaHave only
    | lift_lets -underBinder | split

def execDirectPulseEnd_may : Nat :=
  State.at_may ||| State.pulseDone_may
theorem execDirectPulseEnd_keeps {M : Nat} {S0 : State} (t : Nat) (n : Fin 64) {s : State} (gs : Keeps M S0 s) (gm : execDirectPulseEnd_may &&& M = execDirectPulseEnd_may := by decide +kernel) :
    KeepsO M S0 (execDirectPulseEnd t n s) := by
  unfold execDirectPulseEnd
  repeat' first
    | with_reducible assumption | intro _
    | with_reducible exact may_trans gm (by decide +kernel)
    | with_reducible apply keeps_ite | with_reducible apply at_keeps | with_reducible apply pulseDone_keeps
    | with_reducible apply keepsO_next | with_reducible apply keepsO_ite
    | exact keepsO_fault
    | dsimp -zeta -zetaHave only

def execDieHot_may : Nat :=
  may .DIE_STATE ||| State.at_may ||| State.detectHeld_may
theorem execDieHot_keeps {M : Nat} {S0 : State} (t : Nat) (k : Fin 8) {s : State} (gs : Keeps M S0 s) (gm : execDieHot_may &&& M = execDieHot_may := by decide +kernel) :
    KeepsO M S0 (execDieHot t k s) := by
  unfold execDieHot
  repeat' first
    | with_reducible assumption
    | (intro x; refine keeps_cut (m := M) (s0 := S0) (x := x) ?_ ?_; all_goals first | (intro hx; clear_value x) | subst x)
    | (intro x; clear_value x)
    | intro _
    | with_reducible exact may_trans gm (by decide +kernel)
    | with_reducible apply keeps_ite | with_reducible apply keeps_iff | with_reducible apply at_keeps
    | with_reducible apply detectHeld_keeps | with_reducible apply keeps_wr | with_reducible apply keepsO_next
    | with_reducible apply keepsO_ite
    | exact keepsO_fault
    | dsimp -zeta -zetaHave only | lift_lets -underBinder | split

def execDieHotEnd_may : Nat :=
  may .DIE_STATE ||| State.at_may ||| State.endCause_may
theorem execDieHotEnd_keeps {M : Nat} {S0 : State} (t : Nat) (k : Fin 8) {s : State} (gs : Keeps M S0 s) (gm : execDieHotEnd_may &&& M = execDieHotEnd_may := by decide +kernel) :
    KeepsO M S0 (execDieHotEnd t k s) := by
  unfold execDieHotEnd
  repeat' first
    | with_reducible assumption
    | (intro x; refine keeps_cut (m := M) (s0 := S0) (x := x) ?_ ?_; all_goals first | (intro hx; clear_value x) | subst x)
    | (intro x; clear_value x)
    | intro _
    | with_reducible exact may_trans gm (by decide +kernel)
    | with_reducible apply keeps_ite | with_reducible apply keeps_iff | with_reducible apply at_keeps
    | with_reducible apply endCause_keeps | with_reducible apply keeps_wr | with_reducible apply keepsO_next
    | with_reducible apply keepsO_ite
    | exact keepsO_fault
    | dsimp -zeta -zetaHave only | lift_lets -underBinder | split

def State.holdDie_may : Nat :=
  may .contPend ||| may .dieOff ||| State.openPhases_may ||| State.ranks_may ||| State.abortDie_may
theorem holdDie_keeps {M : Nat} {S0 : State} {s : State} (k : Nat) (gs : Keeps M S0 s) (gm : State.holdDie_may &&& M = State.holdDie_may := by decide +kernel) :
    Keeps M S0 (State.holdDie s k) := by
  unfold State.holdDie
  repeat' first
    | with_reducible assumption | intro _
    | with_reducible exact may_trans gm (by decide +kernel)
    | with_reducible apply keeps_ite | with_reducible apply keeps_forList | with_reducible apply openPhases_keeps
    | with_reducible apply ranks_keeps | with_reducible apply abortDie_keeps | with_reducible apply keeps_wr | dsimp -zeta -zetaHave only
    | split

def execDieShutdown_may : Nat :=
  may .BRIDGE_FAULT ||| may .DIE_STATE ||| may .contPend ||| may .diePend ||| State.at_may ||| State.raise_may |||
  State.detectShadow_may ||| State.openPhases_may ||| State.ranks_may ||| State.abortDie_may
theorem execDieShutdown_keeps {M : Nat} {S0 : State} (t : Nat) (k : Fin 8) {s : State} (gs : Keeps M S0 s) (gm : execDieShutdown_may &&& M = execDieShutdown_may := by decide +kernel) :
    KeepsO M S0 (execDieShutdown t k s) := by
  unfold execDieShutdown
  repeat' first
    | with_reducible assumption
    | (intro x; refine keeps_cut (m := M) (s0 := S0) (x := x) ?_ ?_; all_goals first | (intro hx; clear_value x) | subst x)
    | (intro x; clear_value x)
    | intro _
    | with_reducible exact may_trans gm (by decide +kernel)
    | with_reducible apply keeps_ite | with_reducible apply keeps_forList | with_reducible apply at_keeps
    | with_reducible apply raise_keeps | with_reducible apply detectShadow_keeps | with_reducible apply openPhases_keeps
    | with_reducible apply ranks_keeps | with_reducible apply abortDie_keeps | with_reducible apply keeps_wr
    | with_reducible apply keepsO_next | with_reducible apply keepsO_ite
    | exact keepsO_fault
    | dsimp -zeta -zetaHave only | lift_lets -underBinder | split

def execDieCooled_may : Nat :=
  may .DIE_STATE ||| State.at_may ||| State.endCause_may ||| State.endShadow_may ||| State.ranks_may
theorem execDieCooled_keeps {M : Nat} {S0 : State} (t : Nat) (k : Fin 8) {s : State} (gs : Keeps M S0 s) (gm : execDieCooled_may &&& M = execDieCooled_may := by decide +kernel) :
    KeepsO M S0 (execDieCooled t k s) := by
  unfold execDieCooled
  repeat' first
    | with_reducible assumption
    | (intro x; refine keeps_cut (m := M) (s0 := S0) (x := x) ?_ ?_; all_goals first | (intro hx; clear_value x) | subst x)
    | (intro x; clear_value x)
    | intro _
    | with_reducible exact may_trans gm (by decide +kernel)
    | with_reducible apply keeps_ite | with_reducible apply keeps_forList | with_reducible apply at_keeps
    | with_reducible apply endCause_keeps | with_reducible apply endShadow_keeps | with_reducible apply ranks_keeps
    | with_reducible apply keeps_wr | with_reducible apply keepsO_next | with_reducible apply keepsO_ite
    | exact keepsO_fault
    | dsimp -zeta -zetaHave only | lift_lets -underBinder | split

def State.seeBus_may : Nat :=
  may .BUS_VM ||| may .brakeFrom
theorem seeBus_keeps {M : Nat} {S0 : State} {s : State} (v : Nat) (gs : Keeps M S0 s) (gm : State.seeBus_may &&& M = State.seeBus_may := by decide +kernel) :
    Keeps M S0 (State.seeBus s v) := by
  unfold State.seeBus
  repeat' first
    | with_reducible assumption | intro _
    | with_reducible exact may_trans gm (by decide +kernel)
    | with_reducible apply keeps_ite | with_reducible apply keeps_forAll | with_reducible apply keeps_iff | with_reducible apply keeps_wr
    | dsimp -zeta -zetaHave only | split

def State.busUv_may : Nat :=
  may .BRIDGE_FAULT ||| may .uvOn ||| State.raise_may ||| State.detectShadow_may ||| State.goOpen_may ||| State.disable_may |||
  State.ranks_may
theorem busUv_keeps {M : Nat} {S0 : State} {s : State} (gs : Keeps M S0 s) (gm : State.busUv_may &&& M = State.busUv_may := by decide +kernel) :
    Keeps M S0 (State.busUv s) := by
  unfold State.busUv
  repeat' first
    | with_reducible assumption
    | (intro x; refine keeps_cut (m := M) (s0 := S0) (x := x) ?_ ?_; all_goals first | (intro hx; clear_value x) | subst x)
    | (intro x; clear_value x)
    | intro _
    | with_reducible exact may_trans gm (by decide +kernel)
    | with_reducible apply keeps_ite | with_reducible apply keeps_forAll | with_reducible apply raise_keeps
    | with_reducible apply detectShadow_keeps | with_reducible apply goOpen_keeps | with_reducible apply disable_keeps
    | with_reducible apply ranks_keeps | with_reducible apply keeps_wr | dsimp -zeta -zetaHave only | lift_lets -underBinder | split

def State.busAtEntry_may : Nat :=
  State.detect_may ||| State.busUv_may
theorem busAtEntry_keeps {M : Nat} {S0 : State} {s : State} (gs : Keeps M S0 s) (gm : State.busAtEntry_may &&& M = State.busAtEntry_may := by decide +kernel) :
    Keeps M S0 (State.busAtEntry s) := by
  unfold State.busAtEntry
  repeat' first
    | with_reducible assumption
    | (intro x; refine keeps_cut (m := M) (s0 := S0) (x := x) ?_ ?_; all_goals first | (intro hx; clear_value x) | subst x)
    | (intro x; clear_value x)
    | intro _
    | with_reducible exact may_trans gm (by decide +kernel)
    | with_reducible apply keeps_ite | with_reducible apply keeps_iff | with_reducible apply detect_keeps
    | with_reducible apply busUv_keeps | dsimp -zeta -zetaHave only | lift_lets -underBinder | split

def execBusLow_may : Nat :=
  may .busLowOn ||| State.at_may ||| State.detectHeld_may ||| State.seeBus_may
theorem execBusLow_keeps {M : Nat} {S0 : State} (t v : Nat) {s : State} (gs : Keeps M S0 s) (gm : execBusLow_may &&& M = execBusLow_may := by decide +kernel) :
    KeepsO M S0 (execBusLow t v s) := by
  unfold execBusLow
  repeat' first
    | with_reducible assumption
    | (intro x; refine keeps_cut (m := M) (s0 := S0) (x := x) ?_ ?_; all_goals first | (intro hx; clear_value x) | subst x)
    | (intro x; clear_value x)
    | intro _
    | with_reducible exact may_trans gm (by decide +kernel)
    | with_reducible apply keeps_ite | with_reducible apply keeps_iff | with_reducible apply at_keeps
    | with_reducible apply detectHeld_keeps | with_reducible apply seeBus_keeps | with_reducible apply keeps_wr
    | with_reducible apply keepsO_next | with_reducible apply keepsO_ite
    | exact keepsO_fault
    | dsimp -zeta -zetaHave only | lift_lets -underBinder | split

def execBusUndervoltage_may : Nat :=
  may .busUvOn ||| State.at_may ||| State.seeBus_may ||| State.busUv_may
theorem execBusUndervoltage_keeps {M : Nat} {S0 : State} (t v : Nat) {s : State} (gs : Keeps M S0 s) (gm : execBusUndervoltage_may &&& M = execBusUndervoltage_may := by decide +kernel) :
    KeepsO M S0 (execBusUndervoltage t v s) := by
  unfold execBusUndervoltage
  repeat' first
    | with_reducible assumption
    | (intro x; refine keeps_cut (m := M) (s0 := S0) (x := x) ?_ ?_; all_goals first | (intro hx; clear_value x) | subst x)
    | (intro x; clear_value x)
    | intro _
    | with_reducible exact may_trans gm (by decide +kernel)
    | with_reducible apply keeps_ite | with_reducible apply keeps_iff | with_reducible apply at_keeps | with_reducible apply seeBus_keeps
    | with_reducible apply busUv_keeps | with_reducible apply keeps_wr | with_reducible apply keepsO_next
    | with_reducible apply keepsO_ite
    | exact keepsO_fault
    | dsimp -zeta -zetaHave only | lift_lets -underBinder | split

def execBusRecovered_may : Nat :=
  may .busLowOn ||| may .busUvOn ||| may .uvOn ||| State.at_may ||| State.endCause_may ||| State.endShadow_may |||
  State.ranksAll_may ||| State.seeBus_may
theorem execBusRecovered_keeps {M : Nat} {S0 : State} (t v : Nat) {s : State} (gs : Keeps M S0 s) (gm : execBusRecovered_may &&& M = execBusRecovered_may := by decide +kernel) :
    KeepsO M S0 (execBusRecovered t v s) := by
  unfold execBusRecovered
  repeat' first
    | with_reducible assumption
    | (intro x; refine keeps_cut (m := M) (s0 := S0) (x := x) ?_ ?_; all_goals first | (intro hx; clear_value x) | subst x)
    | (intro x; clear_value x)
    | intro _
    | with_reducible exact may_trans gm (by decide +kernel)
    | with_reducible apply keeps_ite | with_reducible apply at_keeps | with_reducible apply endCause_keeps
    | with_reducible apply endShadow_keeps | with_reducible apply ranksAll_keeps | with_reducible apply seeBus_keeps
    | with_reducible apply keeps_wr | with_reducible apply keepsO_next | with_reducible apply keepsO_ite
    | exact keepsO_fault
    | dsimp -zeta -zetaHave only | lift_lets -underBinder | split

def execBusHigh_may : Nat :=
  may .busHighOn ||| State.at_may ||| State.detectHeld_may ||| State.seeBus_may
theorem execBusHigh_keeps {M : Nat} {S0 : State} (t v : Nat) {s : State} (gs : Keeps M S0 s) (gm : execBusHigh_may &&& M = execBusHigh_may := by decide +kernel) :
    KeepsO M S0 (execBusHigh t v s) := by
  unfold execBusHigh
  repeat' first
    | with_reducible assumption
    | (intro x; refine keeps_cut (m := M) (s0 := S0) (x := x) ?_ ?_; all_goals first | (intro hx; clear_value x) | subst x)
    | (intro x; clear_value x)
    | intro _
    | with_reducible exact may_trans gm (by decide +kernel)
    | with_reducible apply keeps_ite | with_reducible apply keeps_iff | with_reducible apply at_keeps
    | with_reducible apply detectHeld_keeps | with_reducible apply seeBus_keeps | with_reducible apply keeps_wr
    | with_reducible apply keepsO_next | with_reducible apply keepsO_ite
    | exact keepsO_fault
    | dsimp -zeta -zetaHave only | lift_lets -underBinder | split

def execBusHighEnd_may : Nat :=
  may .busHighOn ||| State.at_may ||| State.endCause_may ||| State.seeBus_may
theorem execBusHighEnd_keeps {M : Nat} {S0 : State} (t v : Nat) {s : State} (gs : Keeps M S0 s) (gm : execBusHighEnd_may &&& M = execBusHighEnd_may := by decide +kernel) :
    KeepsO M S0 (execBusHighEnd t v s) := by
  unfold execBusHighEnd
  repeat' first
    | with_reducible assumption
    | (intro x; refine keeps_cut (m := M) (s0 := S0) (x := x) ?_ ?_; all_goals first | (intro hx; clear_value x) | subst x)
    | (intro x; clear_value x)
    | intro _
    | with_reducible exact may_trans gm (by decide +kernel)
    | with_reducible apply keeps_ite | with_reducible apply at_keeps | with_reducible apply endCause_keeps
    | with_reducible apply seeBus_keeps | with_reducible apply keeps_wr | with_reducible apply keepsO_next
    | with_reducible apply keepsO_ite
    | exact keepsO_fault
    | dsimp -zeta -zetaHave only | lift_lets -underBinder | split

def execBusOvervoltage_may : Nat :=
  may .BRAKE_COUNT ||| may .brakeFrom ||| may .brakeOn ||| State.count_may ||| State.at_may ||| State.detectShadow_may |||
  State.ranks_may ||| State.abortDie_may ||| State.seeBus_may
theorem execBusOvervoltage_keeps {M : Nat} {S0 : State} (t : Nat) (dies : Byte) (v : Nat) {s : State} (gs : Keeps M S0 s) (gm : execBusOvervoltage_may &&& M = execBusOvervoltage_may := by decide +kernel) :
    KeepsO M S0 (execBusOvervoltage t dies v s) := by
  unfold execBusOvervoltage
  repeat' first
    | with_reducible assumption
    | (intro x; refine keeps_cut (m := M) (s0 := S0) (x := x) ?_ ?_; all_goals first | (intro hx; clear_value x) | subst x)
    | (intro x; clear_value x)
    | intro _
    | with_reducible exact may_trans gm (by decide +kernel)
    | with_reducible apply keeps_ite | with_reducible apply keeps_forList | with_reducible apply keeps_iff
    | with_reducible apply count_keeps | with_reducible apply at_keeps | with_reducible apply detectShadow_keeps
    | with_reducible apply ranks_keeps | with_reducible apply abortDie_keeps | with_reducible apply seeBus_keeps
    | with_reducible apply keeps_wr | with_reducible apply keepsO_next | with_reducible apply keepsO_ite
    | exact keepsO_fault
    | dsimp -zeta -zetaHave only | lift_lets -underBinder | split

def execShortBrakeEnd_may : Nat :=
  may .brakeOn ||| State.at_may ||| State.endCause_may ||| State.endShadow_may ||| State.ranks_may ||| State.seeBus_may
theorem execShortBrakeEnd_keeps {M : Nat} {S0 : State} (t : Nat) (dies : Byte) (v : Nat) {s : State} (gs : Keeps M S0 s) (gm : execShortBrakeEnd_may &&& M = execShortBrakeEnd_may := by decide +kernel) :
    KeepsO M S0 (execShortBrakeEnd t dies v s) := by
  unfold execShortBrakeEnd
  repeat' first
    | with_reducible assumption
    | (intro x; refine keeps_cut (m := M) (s0 := S0) (x := x) ?_ ?_; all_goals first | (intro hx; clear_value x) | subst x)
    | (intro x; clear_value x)
    | intro _
    | with_reducible exact may_trans gm (by decide +kernel)
    | with_reducible apply keeps_ite | with_reducible apply keeps_forList | with_reducible apply keeps_iff
    | with_reducible apply at_keeps | with_reducible apply endCause_keeps | with_reducible apply endShadow_keeps
    | with_reducible apply ranks_keeps | with_reducible apply seeBus_keeps | with_reducible apply keeps_wr
    | with_reducible apply keepsO_next | with_reducible apply keepsO_ite
    | exact keepsO_fault
    | dsimp -zeta -zetaHave only | lift_lets -underBinder | split

def execEnaRemoved_may : Nat :=
  may .ENA_REMOVALS ||| may .ENA_STATE ||| may .enaDiffFrom ||| may .enaPend ||| State.count_may ||| State.at_may |||
  State.endCause_may ||| State.detect_may ||| State.ranksAll_may
theorem execEnaRemoved_keeps {M : Nat} {S0 : State} (t : Nat) (input : Fin 2) {s : State} (gs : Keeps M S0 s) (gm : execEnaRemoved_may &&& M = execEnaRemoved_may := by decide +kernel) :
    KeepsO M S0 (execEnaRemoved t input s) := by
  unfold execEnaRemoved
  repeat' first
    | with_reducible assumption
    | (intro x; refine keeps_cut (m := M) (s0 := S0) (x := x) ?_ ?_; all_goals first | (intro hx; clear_value x) | subst x)
    | (intro x; clear_value x)
    | intro _
    | with_reducible exact may_trans gm (by decide +kernel)
    | with_reducible apply keeps_ite | with_reducible apply keeps_iff | with_reducible apply wrBit_keeps
    | with_reducible apply count_keeps | with_reducible apply at_keeps | with_reducible apply endCause_keeps
    | with_reducible apply detect_keeps | with_reducible apply ranksAll_keeps | with_reducible apply keeps_wr
    | with_reducible apply keepsO_next | with_reducible apply keepsO_ite
    | exact keepsO_fault
    | dsimp -zeta -zetaHave only | lift_lets -underBinder | split

def execEnaRestored_may : Nat :=
  may .ENA_STATE ||| may .enaDiffFrom ||| State.at_may ||| State.endCause_may ||| State.ranksAll_may
theorem execEnaRestored_keeps {M : Nat} {S0 : State} (t : Nat) (input : Fin 2) {s : State} (gs : Keeps M S0 s) (gm : execEnaRestored_may &&& M = execEnaRestored_may := by decide +kernel) :
    KeepsO M S0 (execEnaRestored t input s) := by
  unfold execEnaRestored
  repeat' first
    | with_reducible assumption
    | (intro x; refine keeps_cut (m := M) (s0 := S0) (x := x) ?_ ?_; all_goals first | (intro hx; clear_value x) | subst x)
    | (intro x; clear_value x)
    | intro _
    | with_reducible exact may_trans gm (by decide +kernel)
    | with_reducible apply keeps_ite | with_reducible apply wrBit_keeps | with_reducible apply at_keeps
    | with_reducible apply endCause_keeps | with_reducible apply ranksAll_keeps | with_reducible apply keeps_wr
    | with_reducible apply keepsO_next | with_reducible apply keepsO_ite
    | exact keepsO_fault
    | dsimp -zeta -zetaHave only | lift_lets -underBinder | split

def execEnaDiscrepancy_may : Nat :=
  State.at_may ||| State.detectHeld_may
theorem execEnaDiscrepancy_keeps {M : Nat} {S0 : State} (t : Nat) {s : State} (gs : Keeps M S0 s) (gm : execEnaDiscrepancy_may &&& M = execEnaDiscrepancy_may := by decide +kernel) :
    KeepsO M S0 (execEnaDiscrepancy t s) := by
  unfold execEnaDiscrepancy
  repeat' first
    | with_reducible assumption
    | (intro x; refine keeps_cut (m := M) (s0 := S0) (x := x) ?_ ?_; all_goals first | (intro hx; clear_value x) | subst x)
    | (intro x; clear_value x)
    | intro _
    | with_reducible exact may_trans gm (by decide +kernel)
    | with_reducible apply keeps_ite | with_reducible apply at_keeps | with_reducible apply detectHeld_keeps
    | with_reducible apply keepsO_next | with_reducible apply keepsO_ite
    | exact keepsO_fault
    | dsimp -zeta -zetaHave only | lift_lets -underBinder | split

def State.driveMark_may : Nat :=
  may .diePend ||| may .disPend ||| State.detect_may ||| State.goOpen_may ||| State.disable_may ||| State.contain_may |||
  State.enableNow_may ||| State.rearmNow_may ||| State.directMark_may ||| State.pulseDone_may
theorem driveMark_keeps {M : Nat} {S0 : State} {s : State} (n : Nat) (gs : Keeps M S0 s) (gm : State.driveMark_may &&& M = State.driveMark_may := by decide +kernel) :
    Keeps M S0 (State.driveMark s n) := by
  unfold State.driveMark
  repeat' first
    | with_reducible assumption
    | (intro x; refine keeps_cut (m := M) (s0 := S0) (x := x) ?_ ?_; all_goals first | (intro hx; clear_value x) | subst x)
    | (intro x; clear_value x)
    | intro _
    | with_reducible exact may_trans gm (by decide +kernel)
    | with_reducible apply keeps_ite | with_reducible apply detect_keeps | with_reducible apply goOpen_keeps
    | with_reducible apply disable_keeps | with_reducible apply contain_keeps | with_reducible apply enableNow_keeps
    | with_reducible apply rearmNow_keeps | with_reducible apply directMark_keeps | with_reducible apply pulseDone_keeps
    | with_reducible apply keeps_wr | dsimp -zeta -zetaHave only | lift_lets -underBinder | split

def State.askDrive_may : Nat :=
  may .drivePend
theorem askDrive_keeps {M : Nat} {S0 : State} {s : State} (n : Nat) (gs : Keeps M S0 s) (gm : State.askDrive_may &&& M = State.askDrive_may := by decide +kernel) :
    Keeps M S0 (State.askDrive s n) := by
  unfold State.askDrive
  repeat' first
    | with_reducible assumption | intro _
    | with_reducible exact may_trans gm (by decide +kernel)
    | with_reducible apply keeps_ite | with_reducible apply keeps_wr | dsimp -zeta -zetaHave only | split

def State.askDisable_may : Nat :=
  may .disPend ||| may .stopAt ||| may .stopPend
theorem askDisable_keeps {M : Nat} {S0 : State} {s : State} (n : Nat) (gs : Keeps M S0 s) (gm : State.askDisable_may &&& M = State.askDisable_may := by decide +kernel) :
    Keeps M S0 (State.askDisable s n) := by
  unfold State.askDisable
  repeat' first
    | with_reducible assumption | intro _
    | with_reducible exact may_trans gm (by decide +kernel)
    | with_reducible apply keeps_ite | with_reducible apply keeps_wr | dsimp -zeta -zetaHave only | split

end Sys2Proof.Machine
end

