-- ==== Sys2Proof/Laws/KeepsMotion.lean ====
section
/-! SUPPORT. One lemma per operation: all that it may change, that the waiting commands stay, and that the canonical form is kept. Here:
transactions, slots, load and profile steps. `X_may` is the mask of what the operation `X` may change. -/
namespace Sys2Proof.Machine

set_option Elab.async false
set_option linter.unusedTactic false
set_option linter.unreachableTactic false

-- Reply.lean

def State.contactAt_may : Nat :=
  may .LAST_CONTACT ||| may .contactPending ||| may .islandExp ||| may .islandFrom
theorem contactAt_keeps {M : Nat} {S0 : State} {s : State} (e : Nat) (gs : Keeps M S0 s) (gm : State.contactAt_may &&& M = State.contactAt_may := by decide +kernel) :
    Keeps M S0 (State.contactAt s e) := by
  unfold State.contactAt
  repeat' first
    | with_reducible assumption
    | (intro x; refine keeps_cut (m := M) (s0 := S0) (x := x) ?_ ?_; all_goals first | (intro hx; clear_value x) | subst x)
    | (intro x; clear_value x)
    | intro _
    | with_reducible exact may_trans gm (by decide +kernel)
    | with_reducible apply keeps_ite | with_reducible apply keeps_iff | with_reducible apply keeps_wr | dsimp -zeta -zetaHave only
    | lift_lets -underBinder | split

def State.dueContact_may : Nat :=
  may .sweepEnd ||| State.contactAt_may
theorem dueContact_keeps {M : Nat} {S0 : State} {s : State} (gs : Keeps M S0 s) (gm : State.dueContact_may &&& M = State.dueContact_may := by decide +kernel) :
    Keeps M S0 (State.dueContact s) := by
  unfold State.dueContact
  repeat' first
    | with_reducible assumption | intro _
    | with_reducible exact may_trans gm (by decide +kernel)
    | with_reducible apply keeps_ite | with_reducible apply contactAt_keeps | with_reducible apply keeps_wr | dsimp -zeta -zetaHave only
    | split

def State.contact_may : Nat :=
  State.contactAt_may ||| State.dueContact_may
theorem contact_keeps {M : Nat} {S0 : State} {s : State} (gs : Keeps M S0 s) (gm : State.contact_may &&& M = State.contact_may := by decide +kernel) :
    Keeps M S0 (State.contact s) := by
  unfold State.contact
  repeat' first
    | with_reducible assumption
    | (intro x; refine keeps_cut (m := M) (s0 := S0) (x := x) ?_ ?_; all_goals first | (intro hx; clear_value x) | subst x)
    | (intro x; clear_value x)
    | intro _
    | with_reducible exact may_trans gm (by decide +kernel)
    | with_reducible apply keeps_ite | with_reducible apply contactAt_keeps | with_reducible apply dueContact_keeps
    | dsimp -zeta -zetaHave only | lift_lets -underBinder

def State.sendOwn_may : Nat :=
  State.push_may
theorem sendOwn_keeps {M : Nat} {S0 : State} {s : State} (f : Frame) (gs : Keeps M S0 s) (gm : State.sendOwn_may &&& M = State.sendOwn_may := by decide +kernel) :
    Keeps M S0 (State.sendOwn s f) := by
  unfold State.sendOwn
  repeat' first
    | with_reducible assumption
    | refine keeps_fst (by with_reducible assumption) ?_
    | refine keeps_snd (by with_reducible assumption) ?_
    | intro _
    | with_reducible exact may_trans gm (by decide +kernel)
    | with_reducible apply keeps_ite | with_reducible apply push_keeps | dsimp -zeta -zetaHave only

def State.wrTag_may : Nat :=
  may_tags ||| may .IN_PROGRESS
theorem wrTag_keeps {M : Nat} {S0 : State} {s : State} (t : Nat) (x : TagSt) (gs : Keeps M S0 s) (gm : State.wrTag_may &&& M = State.wrTag_may := by decide +kernel) :
    Keeps M S0 (State.wrTag s t x) := by
  unfold State.wrTag
  repeat' first
    | with_reducible assumption
    | (intro x; refine keeps_cut (m := M) (s0 := S0) (x := x) ?_ ?_; all_goals first | (intro hx; clear_value x) | subst x)
    | (intro x; clear_value x)
    | intro _
    | with_reducible exact may_trans gm (by decide +kernel)
    | with_reducible apply keeps_ite | with_reducible apply keeps_wr
    | with_reducible exact Tbl.wf_nil
    | with_reducible apply Tbl.wf_tset | with_reducible apply Tbl.wf_filter | with_reducible apply Tbl.wf_tmap
    | with_reducible refine (Keeps.can (m := M) (s := S0) ?_ (by assumption)).tags | dsimp -zeta -zetaHave only | lift_lets -underBinder
    | split | with_reducible apply keeps_tags

def State.complete'_may : Nat :=
  State.sendOwn_may ||| State.wrTag_may
theorem complete'_keeps {M : Nat} {S0 : State} {s : State} (h : Hdr) (op index sub code : Nat) (data : List Byte) (gs : Keeps M S0 s) (gm : State.complete'_may &&& M = State.complete'_may := by decide +kernel) :
    Keeps M S0 (State.complete' s h op index sub code data) := by
  unfold State.complete'
  repeat' first
    | with_reducible assumption
    | (intro x; refine keeps_cut (m := M) (s0 := S0) (x := x) ?_ ?_; all_goals first | (intro hx; clear_value x) | subst x)
    | (intro x; clear_value x)
    | intro _
    | with_reducible exact may_trans gm (by decide +kernel)
    | with_reducible apply keeps_ite | with_reducible apply sendOwn_keeps | with_reducible apply wrTag_keeps | dsimp -zeta -zetaHave only
    | lift_lets -underBinder

def State.finish_may : Nat :=
  may_deferred ||| State.complete'_may
theorem finish_keeps {M : Nat} {S0 : State} {s : State} (index sub code : Nat) (gs : Keeps M S0 s) (gm : State.finish_may &&& M = State.finish_may := by decide +kernel) :
    Keeps M S0 (State.finish s index sub code) := by
  unfold State.finish
  repeat' first
    | with_reducible assumption
    | (intro x; refine keeps_cut (m := M) (s0 := S0) (x := x) ?_ ?_; all_goals first | (intro hx; clear_value x) | subst x)
    | (intro x; clear_value x)
    | intro _
    | with_reducible exact may_trans gm (by decide +kernel)
    | with_reducible apply keeps_ite | with_reducible apply keeps_foldl | with_reducible apply complete'_keeps
    | dsimp -zeta -zetaHave only | lift_lets -underBinder | split | with_reducible apply keeps_deferred

def State.report_may : Nat :=
  may .DETAIL ||| may .OBJECT_A ||| may .OBJECT_B ||| may .RESOURCE ||| may .RESULT
theorem report_keeps {M : Nat} {S0 : State} {s : State} (v : Verdict) (gs : Keeps M S0 s) (gm : State.report_may &&& M = State.report_may := by decide +kernel) :
    Keeps M S0 (State.report s v) := by
  unfold State.report
  repeat' first
    | with_reducible assumption | intro _
    | with_reducible exact may_trans gm (by decide +kernel)
    | with_reducible apply keeps_ite | with_reducible apply keeps_wr | dsimp -zeta -zetaHave only

def State.refuse_may : Nat :=
  State.report_may
theorem refuse_keeps {M : Nat} {S0 : State} {s : State} (op code : Nat) (gs : Keeps M S0 s) (gm : State.refuse_may &&& M = State.refuse_may := by decide +kernel) :
    Keeps M S0 (State.refuse s op code) := by
  unfold State.refuse
  repeat' first
    | with_reducible assumption | intro _
    | with_reducible exact may_trans gm (by decide +kernel)
    | with_reducible apply keeps_ite | with_reducible apply report_keeps | dsimp -zeta -zetaHave only | split

def State.takeUp_may : Nat :=
  may .reqAt ||| may .reqPort ||| State.at_may
theorem takeUp_keeps {M : Nat} {S0 : State} {s : State} (h : Hdr) (gs : Keeps M S0 s) (gm : State.takeUp_may &&& M = State.takeUp_may := by decide +kernel) :
    Keeps M S0 (State.takeUp s h) := by
  unfold State.takeUp
  repeat' first
    | with_reducible assumption
    | (intro x; refine keeps_cut (m := M) (s0 := S0) (x := x) ?_ ?_; all_goals first | (intro hx; clear_value x) | subst x)
    | (intro x; clear_value x)
    | intro _
    | with_reducible exact may_trans gm (by decide +kernel)
    | with_reducible apply keeps_ite | with_reducible apply at_keeps | with_reducible apply keeps_wr | dsimp -zeta -zetaHave only
    | lift_lets -underBinder | split

def State.transact_may : Nat :=
  may_deferred ||| may .REQUESTS ||| may .RETRIES_ANSWERED ||| may .TAG_CONFLICTS ||| State.count_may ||| State.tally_may |||
  State.contact_may ||| State.sendOwn_may ||| State.wrTag_may ||| State.complete'_may ||| State.refuse_may ||| State.takeUp_may
theorem transact_keeps {M : Nat} {S0 : State} {s : State} (h : Hdr) (op index sub : Nat) (data : List Byte) (f : State → State × Answer)
    (gs : Keeps M S0 s) (gm : State.transact_may &&& M = State.transact_may := by decide +kernel)
    (hf : ∀ s, Keeps M S0 s → Keeps M S0 (f s).1) : Keeps M S0 (State.transact s h op index sub data f) := by
  have k {c : Nat} (e : c &&& State.transact_may = c) : c &&& M = c := may_trans gm e
  have hc : ∀ {s}, Keeps M S0 s → Keeps M S0 s.contact := fun g => contact_keeps g (k (by decide +kernel))
  have ho : ∀ {s} f, Keeps M S0 s → Keeps M S0 (s.sendOwn f) := fun f g => sendOwn_keeps f g (k (by decide +kernel))
  have ht : ∀ {s} n, Keeps M S0 s → Keeps M S0 (s.tally n) := fun n g => tally_keeps n 1 g (k (by decide +kernel))
  have hr : ∀ {s} op c, Keeps M S0 s → Keeps M S0 (s.refuse op c) := fun op c g => refuse_keeps op c g (k (by decide +kernel))
  have hd : ∀ {s} op c b, Keeps M S0 s → Keeps M S0 (s.complete' h op index sub c b) := fun op c b g =>
    complete'_keeps h op index sub c b g (k (by decide +kernel))
  have h1 : ∀ {s}, Keeps M S0 s → Keeps M S0 (s.count .RETRIES_ANSWERED 0) := fun g =>
    count_keeps _ _ _ _ g (k (by decide +kernel)) (k (by decide +kernel))
  have h2 : ∀ {s}, Keeps M S0 s → Keeps M S0 (s.count .TAG_CONFLICTS 0) := fun g =>
    count_keeps _ _ _ _ g (k (by decide +kernel)) (k (by decide +kernel))
  have h3 : ∀ {s} w, Keeps M S0 s → Keeps M S0 (s.count .REQUESTS 0 1 w) := fun w g =>
    count_keeps _ _ _ _ g (k (by decide +kernel)) (k (by decide +kernel))
  have h4 : ∀ {s} a x, Keeps M S0 s → Keeps M S0 (s.wrTag a x) := fun a x g => wrTag_keeps a x g (k (by decide +kernel))
  unfold State.transact
  dsimp only
  have hs := keeps_iff (c := isHead h.src && (s.takeUp h).mode ≠ 0) (takeUp_keeps h gs (k (by decide +kernel))) (fun s g => hc g)
  generalize (s.takeUp h).iff (isHead h.src && decide ((s.takeUp h).mode ≠ 0)) State.contact = s at hs ⊢
  refine keeps_ite hs (keeps_ite ?_ (keeps_ite (keeps_ite (ho _ hs) hs) (keeps_ite (ho _ (hr _ _ hs))
    (keeps_ite (ho _ (ht _ (h2 (hr _ _ hs)))) ?_))))
  · split
    · exact ho _ (ht _ (h1 hs))
    · exact hs
  · have hw := h4 h.tag.val ⟨some (s.digest h op index sub data), true, none⟩ (ht 224 (h3 64 hs))
    refine keeps_ite (hd _ _ _ (hr _ _ hw)) (keeps_ite (hd _ _ _ (hr _ _ hw)) ?_)
    split
    · exact hd _ _ _ (keeps_fst (by with_reducible assumption) (hf _ hw))
    · exact keeps_deferred (keeps_fst (by with_reducible assumption) (hf _ hw)) (k (by decide +kernel))

def State.dropTransactions_may : Nat :=
  may_deferred ||| State.wrTag_may
theorem dropTransactions_keeps {M : Nat} {S0 : State} {s : State} (gs : Keeps M S0 s) (gm : State.dropTransactions_may &&& M = State.dropTransactions_may := by decide +kernel) :
    Keeps M S0 (State.dropTransactions s) := by
  unfold State.dropTransactions
  repeat' first
    | with_reducible assumption
    | (intro x; refine keeps_cut (m := M) (s0 := S0) (x := x) ?_ ?_; all_goals first | (intro hx; clear_value x) | subst x)
    | (intro x; clear_value x)
    | intro _
    | with_reducible exact may_trans gm (by decide +kernel)
    | with_reducible apply keeps_ite | with_reducible apply keeps_foldl | with_reducible apply wrTag_keeps | dsimp -zeta -zetaHave only
    | lift_lets -underBinder | split | with_reducible apply keeps_deferred

-- Slots.lean

def State.refreshPlan_may : Nat :=
  may .ENGINE_LOAD ||| may .ENGINE_STATE ||| may .SLOTS_USED ||| may .WORK_BUDGET ||| may .WORK_ENGINE ||| may .WORK_SLOT ||| may
  .WORK_START ||| State.endCause_may ||| State.detectHeld_may
theorem refreshPlan_keeps {M : Nat} {S0 : State} {s : State} (gs : Keeps M S0 s) (gm : State.refreshPlan_may &&& M = State.refreshPlan_may := by decide +kernel) :
    Keeps M S0 (State.refreshPlan s) := by
  unfold State.refreshPlan
  repeat' first
    | with_reducible assumption
    | (intro x; refine keeps_cut (m := M) (s0 := S0) (x := x) ?_ ?_; all_goals first | (intro hx; clear_value x) | subst x)
    | (intro x; clear_value x)
    | intro _
    | with_reducible exact may_trans gm (by decide +kernel)
    | with_reducible apply keeps_ite | with_reducible apply keeps_forAll | with_reducible apply endCause_keeps
    | with_reducible apply detectHeld_keeps | with_reducible apply keeps_wr | dsimp -zeta -zetaHave only | lift_lets -underBinder | split

def State.switchTo_may : Nat :=
  may_bankA ||| may_bankB ||| may_planCopy ||| may_loading ||| may .ACTIVE_BANK ||| may .loadKind ||| State.closeRec_may |||
  State.endCause_may ||| State.endShadow_may ||| State.refreshPlan_may
theorem switchTo_keeps0 {S0 : State} {s : State} (ws : List Word64) (gs : Keeps State.switchTo_may S0 s) : Keeps State.switchTo_may S0 (State.switchTo s ws) := by
  have g2 : ∀ t, Keeps State.switchTo_may S0 t → Keeps State.switchTo_may S0 { t with planCopy := ws, loading := none } := fun t h =>
    keeps_loading (s := { t with planCopy := ws }) (keeps_planCopy h (by decide +kernel)) (by decide +kernel)
  unfold State.switchTo
  extract_lets s1 s2 s3 s4 s5
  have h1 : Keeps State.switchTo_may S0 s1 := keeps_ite (keeps_wr (keeps_bankB gs (by decide +kernel)) _ _ _ (by decide +kernel))
    (keeps_wr (keeps_bankA gs (by decide +kernel)) _ _ _ (by decide +kernel))
  have h2 : Keeps State.switchTo_may S0 s2 := keeps_wr (g2 _ h1) _ _ _ (by decide +kernel)
  have h3 : Keeps State.switchTo_may S0 s3 := endShadow_keeps _ _ _ (endCause_keeps _ _ h2)
  have h4 : Keeps State.switchTo_may S0 s4 := by
    subst s4
    split
    · exact keeps_ite (closeRec_keeps _ h3) h3
    · exact h3
  exact refreshPlan_keeps (keeps_forAll h4 (fun _ _ h => keeps_ite (endCause_keeps _ _ h) h))
theorem switchTo_keeps {M : Nat} {S0 : State} {s : State} (ws : List Word64) (gs : Keeps M S0 s) (gm : State.switchTo_may &&& M = State.switchTo_may := by decide +kernel) :
    Keeps M S0 (State.switchTo s ws) :=
  gs.trans ((switchTo_keeps0 _ (keeps_refl _ s)).mono gm)

def State.slotGone_may : Nat :=
  State.detect_may ||| State.holdAxis_may
theorem slotGone_keeps {M : Nat} {S0 : State} {s : State} (w : Word64) (gs : Keeps M S0 s) (gm : State.slotGone_may &&& M = State.slotGone_may := by decide +kernel) :
    Keeps M S0 (State.slotGone s w) := by
  unfold State.slotGone
  repeat' first
    | with_reducible assumption
    | (intro x; refine keeps_cut (m := M) (s0 := S0) (x := x) ?_ ?_; all_goals first | (intro hx; clear_value x) | subst x)
    | (intro x; clear_value x)
    | intro _
    | with_reducible exact may_trans gm (by decide +kernel)
    | with_reducible apply keeps_ite | with_reducible apply detect_keeps | with_reducible apply holdAxis_keeps
    | dsimp -zeta -zetaHave only | lift_lets -underBinder | split

def State.startLoad_may : Nat :=
  may_loading ||| may .loadEnd ||| may .loadFor ||| may .loadKind ||| State.slotGone_may
theorem startLoad_keeps {M : Nat} {S0 : State} {s : State} (kind e : Nat) (ws : List Word64) (gs : Keeps M S0 s) (gm : State.startLoad_may &&& M = State.startLoad_may := by decide +kernel) :
    Keeps M S0 (State.startLoad s kind e ws) := by
  unfold State.startLoad
  repeat' first
    | with_reducible assumption
    | (intro x; refine keeps_cut (m := M) (s0 := S0) (x := x) ?_ ?_; all_goals first | (intro hx; clear_value x) | subst x)
    | (intro x; clear_value x)
    | intro _
    | with_reducible exact may_trans gm (by decide +kernel)
    | with_reducible apply keeps_ite | with_reducible apply keeps_foldl | with_reducible apply slotGone_keeps
    | with_reducible apply keeps_wr | dsimp -zeta -zetaHave only | lift_lets -underBinder | split | with_reducible apply keeps_loading

def State.setFallback_may : Nat :=
  may_fallback ||| may .FALLBACK_READY
theorem setFallback_keeps {M : Nat} {S0 : State} {s : State} (f : Tbl (List Word64)) (gs : Keeps M S0 s) (gm : State.setFallback_may &&& M = State.setFallback_may := by decide +kernel) :
    Keeps M S0 (State.setFallback s f) := by
  unfold State.setFallback
  repeat' first
    | with_reducible assumption
    | (intro x; refine keeps_cut (m := M) (s0 := S0) (x := x) ?_ ?_; all_goals first | (intro hx; clear_value x) | subst x)
    | (intro x; clear_value x)
    | intro _
    | with_reducible exact may_trans gm (by decide +kernel)
    | with_reducible apply keeps_ite | with_reducible apply keeps_wr | dsimp -zeta -zetaHave only | lift_lets -underBinder | split
    | with_reducible apply keeps_fallback

def State.endSwap_may : Nat :=
  may_newSet ||| may .SWAP_RESULT ||| may .SWAP_STATE ||| may .swapImg ||| State.setMode_may ||| State.finish_may
theorem endSwap_keeps {M : Nat} {S0 : State} {s : State} (code : Nat) (gs : Keeps M S0 s) (gm : State.endSwap_may &&& M = State.endSwap_may := by decide +kernel) :
    Keeps M S0 (State.endSwap s code) := by
  unfold State.endSwap
  repeat' first
    | with_reducible assumption
    | (intro x; refine keeps_cut (m := M) (s0 := S0) (x := x) ?_ ?_; all_goals first | (intro hx; clear_value x) | subst x)
    | (intro x; clear_value x)
    | intro _
    | with_reducible exact may_trans gm (by decide +kernel)
    | with_reducible apply keeps_ite | with_reducible apply setMode_keeps | with_reducible apply finish_keeps
    | with_reducible apply keeps_wr | dsimp -zeta -zetaHave only | lift_lets -underBinder | split | with_reducible apply keeps_newSet

def State.endAtMark_may : Nat :=
  State.setOpen_may
theorem endAtMark_keeps {M : Nat} {S0 : State} {s : State} (b : Nat) (gs : Keeps M S0 s) (gm : State.endAtMark_may &&& M = State.endAtMark_may := by decide +kernel) :
    Keeps M S0 (State.endAtMark s b) := by
  unfold State.endAtMark
  repeat' first
    | with_reducible assumption
    | (intro x; refine keeps_cut (m := M) (s0 := S0) (x := x) ?_ ?_; all_goals first | (intro hx; clear_value x) | subst x)
    | (intro x; clear_value x)
    | intro _
    | with_reducible exact may_trans gm (by decide +kernel)
    | with_reducible apply keeps_ite | with_reducible apply setOpen_keeps | dsimp -zeta -zetaHave only | lift_lets -underBinder | split

def State.exhausted_may : Nat :=
  State.detect_may
theorem exhausted_keeps {M : Nat} {S0 : State} {s : State} (gs : Keeps M S0 s) (gm : State.exhausted_may &&& M = State.exhausted_may := by decide +kernel) :
    Keeps M S0 (State.exhausted s) := by
  unfold State.exhausted
  repeat' first
    | with_reducible assumption
    | (intro x; refine keeps_cut (m := M) (s0 := S0) (x := x) ?_ ?_; all_goals first | (intro hx; clear_value x) | subst x)
    | (intro x; clear_value x)
    | intro _
    | with_reducible exact may_trans gm (by decide +kernel)
    | with_reducible apply keeps_ite | with_reducible apply detect_keeps | dsimp -zeta -zetaHave only | lift_lets -underBinder

def State.detectCover_may : Nat :=
  State.detect_may ||| State.detectShadow_may
theorem detectCover_keeps {M : Nat} {S0 : State} {s : State} (b c data : Nat) (covers : List (Nat × List Nat)) (gs : Keeps M S0 s) (gm : State.detectCover_may &&& M = State.detectCover_may := by decide +kernel) :
    Keeps M S0 (State.detectCover s b c data covers) := by
  unfold State.detectCover
  repeat' first
    | with_reducible assumption | intro _
    | with_reducible exact may_trans gm (by decide +kernel)
    | with_reducible apply keeps_ite | with_reducible apply detect_keeps | with_reducible apply detectShadow_keeps
    | dsimp -zeta -zetaHave only | split

def State.failEngine_may : Nat :=
  may_runs ||| may .EFFECTIVE_SPARE ||| may .ENGINE_STATE ||| may .planBuild ||| State.setRed_may ||| State.startLoad_may |||
  State.setFallback_may ||| State.endSwap_may ||| State.endAtMark_may ||| State.exhausted_may ||| State.detectCover_may
theorem failEngine_keeps {M : Nat} {S0 : State} {s : State} (e reason slot : Nat) (gs : Keeps M S0 s) (gm : State.failEngine_may &&& M = State.failEngine_may := by decide +kernel) :
    Keeps M S0 (State.failEngine s e reason slot) := by
  unfold State.failEngine
  repeat' first
    | with_reducible assumption
    | (intro x; refine keeps_cut (m := M) (s0 := S0) (x := x) ?_ ?_; all_goals first | (intro hx; clear_value x) | subst x)
    | (intro x; clear_value x)
    | intro _
    | with_reducible exact may_trans gm (by decide +kernel)
    | with_reducible apply keeps_ite | with_reducible apply keeps_iff | with_reducible apply setRed_keeps
    | with_reducible apply startLoad_keeps | with_reducible apply setFallback_keeps | with_reducible apply endSwap_keeps
    | with_reducible apply endAtMark_keeps | with_reducible apply exhausted_keeps | with_reducible apply detectCover_keeps
    | with_reducible apply keeps_wr
    | with_reducible exact Tbl.wf_nil
    | with_reducible apply Tbl.wf_tset | with_reducible apply Tbl.wf_filter | with_reducible apply Tbl.wf_tmap
    | with_reducible refine (Keeps.can (m := M) (s := S0) ?_ (by assumption)).runs | dsimp -zeta -zetaHave only | lift_lets -underBinder
    | split | with_reducible apply keeps_runs

def State.slotLost_may : Nat :=
  may .slotAt ||| State.startLoad_may ||| State.endSwap_may ||| State.detectCover_may
theorem slotLost_keeps {M : Nat} {S0 : State} {s : State} (i : Nat) (gs : Keeps M S0 s) (gm : State.slotLost_may &&& M = State.slotLost_may := by decide +kernel) :
    Keeps M S0 (State.slotLost s i) := by
  unfold State.slotLost
  repeat' first
    | with_reducible assumption
    | (intro x; refine keeps_cut (m := M) (s0 := S0) (x := x) ?_ ?_; all_goals first | (intro hx; clear_value x) | subst x)
    | (intro x; clear_value x)
    | intro _
    | with_reducible exact may_trans gm (by decide +kernel)
    | with_reducible apply keeps_ite | with_reducible apply startLoad_keeps | with_reducible apply endSwap_keeps
    | with_reducible apply detectCover_keeps | with_reducible apply keeps_wr | dsimp -zeta -zetaHave only | lift_lets -underBinder
    | split

def State.engineChecks_may : Nat :=
  State.tally_may ||| State.detect_may ||| State.fire_may ||| State.unfire_may ||| State.failEngine_may
theorem engineChecks_keeps {M : Nat} {S0 : State} {s : State} (e : Nat) (corrected : Bool) (gs : Keeps M S0 s) (gm : State.engineChecks_may &&& M = State.engineChecks_may := by decide +kernel) :
    Keeps M S0 (State.engineChecks s e corrected).1 := by
  unfold State.engineChecks
  repeat' first
    | with_reducible assumption | intro _
    | with_reducible exact may_trans gm (by decide +kernel)
    | with_reducible apply keeps_ite | with_reducible apply keeps_ite1 | with_reducible apply keeps_ite2 | with_reducible apply keeps_iff
    | with_reducible apply tally_keeps | with_reducible apply detect_keeps | with_reducible apply fire_keeps
    | with_reducible apply unfire_keeps | with_reducible apply failEngine_keeps | dsimp -zeta -zetaHave only | split

def State.slotCheck_may : Nat :=
  State.tally_may ||| State.detect_may ||| State.fire_may ||| State.unfire_may ||| State.slotLost_may
theorem slotCheck_keeps {M : Nat} {S0 : State} {s : State} (i : Nat) (corrected : Bool) (gs : Keeps M S0 s) (gm : State.slotCheck_may &&& M = State.slotCheck_may := by decide +kernel) :
    Keeps M S0 (State.slotCheck s i corrected).1 := by
  unfold State.slotCheck
  repeat' first
    | with_reducible assumption | intro _
    | with_reducible exact may_trans gm (by decide +kernel)
    | with_reducible apply keeps_ite | with_reducible apply keeps_ite1 | with_reducible apply keeps_ite2 | with_reducible apply keeps_iff
    | with_reducible apply tally_keeps | with_reducible apply detect_keeps | with_reducible apply fire_keeps
    | with_reducible apply unfire_keeps | with_reducible apply slotLost_keeps | dsimp -zeta -zetaHave only | split

def State.issue_may : Nat :=
  may .slotAt ||| State.traceIf_may ||| State.engineChecks_may ||| State.slotCheck_may
theorem issue_keeps {M : Nat} {S0 : State} {s : State} (i e : Nat) (m : SlotIn) (gs : Keeps M S0 s) (gm : State.issue_may &&& M = State.issue_may := by decide +kernel) :
    Keeps M S0 (State.issue s i e m).1 := by
  unfold State.issue
  repeat' first
    | with_reducible assumption
    | refine keeps_fst (by with_reducible assumption) ?_
    | refine keeps_snd (by with_reducible assumption) ?_
    | (intro x; refine keeps_cut (m := M) (s0 := S0) (x := x) ?_ ?_; all_goals first | (intro hx; clear_value x) | subst x)
    | (intro x; clear_value x)
    | intro _
    | with_reducible exact may_trans gm (by decide +kernel)
    | with_reducible apply keeps_ite | with_reducible apply keeps_ite1 | with_reducible apply keeps_ite2
    | with_reducible apply traceIf_keeps | with_reducible apply engineChecks_keeps | with_reducible apply slotCheck_keeps
    | with_reducible apply keeps_wr | dsimp -zeta -zetaHave only | lift_lets -underBinder | split

def State.ledgerEcc_may : Nat :=
  may .ledBad ||| State.tally_may ||| State.detect_may ||| State.holdAxis_may
theorem ledgerEcc_keeps {M : Nat} {S0 : State} {s : State} (n : Nat) (ecc : Ecc) (gs : Keeps M S0 s) (gm : State.ledgerEcc_may &&& M = State.ledgerEcc_may := by decide +kernel) :
    Keeps M S0 (State.ledgerEcc s n ecc) := by
  unfold State.ledgerEcc
  repeat' first
    | with_reducible assumption
    | (intro x; refine keeps_cut (m := M) (s0 := S0) (x := x) ?_ ?_; all_goals first | (intro hx; clear_value x) | subst x)
    | (intro x; clear_value x)
    | intro _
    | with_reducible exact may_trans gm (by decide +kernel)
    | with_reducible apply keeps_ite | with_reducible apply tally_keeps | with_reducible apply detect_keeps
    | with_reducible apply holdAxis_keeps | with_reducible apply keeps_wr | dsimp -zeta -zetaHave only | lift_lets -underBinder | split

def State.builtin_may : Nat :=
  State.draw_may ||| State.tally_may ||| State.traceIf_may ||| State.issue_may ||| State.ledgerEcc_may
theorem builtin_keeps {M : Nat} {S0 : State} {s : State} (k n : Nat) (m : SlotIn) (f : State → State) (gs : Keeps M S0 s)
    (gm : State.builtin_may &&& M = State.builtin_may := by decide +kernel) (hf : ∀ s, Keeps M S0 s → Keeps M S0 (f s)) :
    Keeps M S0 (State.builtin s k n m f) := by
  unfold State.builtin
  split
  · exact gs
  · rename_i i w _
    have h := issue_keeps i (slotEngine w) m gs (may_trans gm (by decide +kernel))
    dsimp only
    generalize s.issue i (slotEngine w) m = p at h ⊢
    obtain ⟨s', b⟩ := p
    cases b
    · exact h
    · exact traceIf_keeps _ _ _ (keeps_iff (ledgerEcc_keeps _ _ (tally_keeps _ _ (draw_keeps _ h (may_trans gm (by decide +kernel)))
        (may_trans gm (by decide +kernel))) (may_trans gm (by decide +kernel))) hf) (may_trans gm (by decide +kernel))

-- Load.lean

theorem moveQ_keeps {M : Nat} {S0 : State} {s : State} (r : Reg) (n : Nat) (q : Int) (gs : Keeps M S0 s) (gr : may r &&& M = may r := by decide +kernel) :
    Keeps M S0 (State.moveQ s r n q) := by
  unfold State.moveQ
  repeat' first
    | with_reducible assumption
    | (intro x; refine keeps_cut (m := M) (s0 := S0) (x := x) ?_ ?_; all_goals first | (intro hx; clear_value x) | subst x)
    | (intro x; clear_value x)
    | intro _ | with_reducible apply keeps_ite | with_reducible apply keeps_wr | dsimp -zeta -zetaHave only | lift_lets -underBinder

def State.reassign_may : Nat :=
  may .ANGLE_ORIGIN ||| may .CMD_POS ||| may .SADDLE_POS ||| may .TARGET ||| may .fbCmd ||| may .foOrg ||| may .fsPos ||| may .goalQ
  ||| may .hmStart ||| may .lnStart ||| may .posQ ||| State.wr48_may ||| State.wrPlanner_may ||| State.shiftSource_may
theorem reassign_keeps {M : Nat} {S0 : State} {s : State} (n : Nat) (d : Int) (gs : Keeps M S0 s) (gm : State.reassign_may &&& M = State.reassign_may := by decide +kernel) :
    Keeps M S0 (State.reassign s n d) := by
  unfold State.reassign
  repeat' first
    | with_reducible assumption
    | (intro x; refine keeps_cut (m := M) (s0 := S0) (x := x) ?_ ?_; all_goals first | (intro hx; clear_value x) | subst x)
    | (intro x; clear_value x)
    | intro _
    | with_reducible exact may_trans gm (by decide +kernel)
    | with_reducible apply keeps_ite | with_reducible apply keeps_forList | with_reducible apply wr48_keeps
    | with_reducible apply wrPlanner_keeps | with_reducible apply shiftSource_keeps | with_reducible apply moveQ_keeps
    | with_reducible apply keeps_wr | dsimp -zeta -zetaHave only | lift_lets -underBinder | split

def State.posSure_may : Nat :=
  may .brPersist
theorem posSure_keeps {M : Nat} {S0 : State} {s : State} (n : Nat) (gs : Keeps M S0 s) (gm : State.posSure_may &&& M = State.posSure_may := by decide +kernel) :
    Keeps M S0 (State.posSure s n) := by
  unfold State.posSure
  repeat' first
    | with_reducible assumption
    | (intro x; refine keeps_cut (m := M) (s0 := S0) (x := x) ?_ ?_; all_goals first | (intro hx; clear_value x) | subst x)
    | (intro x; clear_value x)
    | intro _
    | with_reducible exact may_trans gm (by decide +kernel)
    | with_reducible apply keeps_ite | with_reducible apply wrBit_keeps | dsimp -zeta -zetaHave only | lift_lets -underBinder

def State.reassignMark_may : Nat :=
  may .HOME_SHIFT ||| may .SET_SHIFT ||| may .STALL_SHIFT ||| may .asgPend ||| may .asgStall ||| may .setPend ||| State.wr48_may |||
  State.reassign_may ||| State.posSure_may
theorem reassignMark_keeps {M : Nat} {S0 : State} {s : State} (n : Nat) (gs : Keeps M S0 s) (gm : State.reassignMark_may &&& M = State.reassignMark_may := by decide +kernel) :
    Keeps M S0 (State.reassignMark s n) := by
  unfold State.reassignMark
  repeat' first
    | with_reducible assumption
    | (intro x; refine keeps_cut (m := M) (s0 := S0) (x := x) ?_ ?_; all_goals first | (intro hx; clear_value x) | subst x)
    | (intro x; clear_value x)
    | intro _
    | with_reducible exact may_trans gm (by decide +kernel)
    | with_reducible apply keeps_ite | with_reducible apply wr48_keeps | with_reducible apply reassign_keeps
    | with_reducible apply posSure_keeps | with_reducible apply keeps_wr | dsimp -zeta -zetaHave only | lift_lets -underBinder | split

def State.askAssign_may : Nat :=
  may .asgPend ||| may .asgStall ||| may .asgVal
theorem askAssign_keeps {M : Nat} {S0 : State} {s : State} (n kind : Nat) (v : Int) (what : Nat) (gs : Keeps M S0 s) (gm : State.askAssign_may &&& M = State.askAssign_may := by decide +kernel) :
    Keeps M S0 (State.askAssign s n kind v what) := by
  unfold State.askAssign
  repeat' first
    | with_reducible assumption | intro _
    | with_reducible exact may_trans gm (by decide +kernel)
    | with_reducible apply keeps_ite | with_reducible apply keeps_wr | dsimp -zeta -zetaHave only

def State.setTable_may : Nat :=
  may .COND_ACTIVE ||| may .SIG_ACTIVE ||| may .TABLE_ORIGIN
theorem setTable_keeps {M : Nat} {S0 : State} {s : State} (n origin cond : Nat) (entry : Nat → Int) (gs : Keeps M S0 s) (gm : State.setTable_may &&& M = State.setTable_may := by decide +kernel) :
    Keeps M S0 (State.setTable s n origin cond entry) := by
  unfold State.setTable
  repeat' first
    | with_reducible assumption
    | (intro x; refine keeps_cut (m := M) (s0 := S0) (x := x) ?_ ?_; all_goals first | (intro hx; clear_value x) | subst x)
    | (intro x; clear_value x)
    | intro _
    | with_reducible exact may_trans gm (by decide +kernel)
    | with_reducible apply keeps_ite | with_reducible apply keeps_forAll | with_reducible apply keeps_wr | dsimp -zeta -zetaHave only
    | lift_lets -underBinder | split

def State.activateSig_may : Nat :=
  State.setTable_may
theorem activateSig_keeps {M : Nat} {S0 : State} {s : State} (n : Nat) (gs : Keeps M S0 s) (gm : State.activateSig_may &&& M = State.activateSig_may := by decide +kernel) :
    Keeps M S0 (State.activateSig s n) := by
  unfold State.activateSig
  repeat' first
    | with_reducible assumption | intro _
    | with_reducible exact may_trans gm (by decide +kernel)
    | with_reducible apply keeps_ite | with_reducible apply setTable_keeps | dsimp -zeta -zetaHave only | split

def State.openStep_may : Nat :=
  may_slopes ||| may .fsAcc ||| may .fsAmpHi ||| may .fsAmpLo ||| may .fsCnt ||| may .fsOff ||| may .fsOn ||| may .fsOpen ||| may
  .fsPairs ||| may .fsPasses ||| may .fsPos ||| may .fsQuad ||| may .fsSlope ||| may .fsSum ||| may .fsVm ||| may .fsVmCnt
theorem openStep_keeps {M : Nat} {S0 : State} {s : State} (n : Nat) (gs : Keeps M S0 s) (gm : State.openStep_may &&& M = State.openStep_may := by decide +kernel) :
    Keeps M S0 (State.openStep s n) := by
  unfold State.openStep
  repeat' first
    | with_reducible assumption
    | (intro x; refine keeps_cut (m := M) (s0 := S0) (x := x) ?_ ?_; all_goals first | (intro hx; clear_value x) | subst x)
    | (intro x; clear_value x)
    | intro _
    | with_reducible exact may_trans gm (by decide +kernel)
    | with_reducible apply keeps_ite | with_reducible apply keeps_wr
    | with_reducible exact Tbl.wf_nil
    | with_reducible apply Tbl.wf_tset | with_reducible apply Tbl.wf_filter | with_reducible apply Tbl.wf_tmap
    | with_reducible refine (Keeps.can (m := M) (s := S0) ?_ (by assumption)).slopes | dsimp -zeta -zetaHave only
    | lift_lets -underBinder | with_reducible apply keeps_slopes

def State.closeStep_may : Nat :=
  may .clAcc ||| may .clAmpHi ||| may .clAmpLo ||| may .clCnt ||| may .clOff ||| may .clOn ||| may .clPairs ||| may .clPasses |||
  may .clPos ||| may .clReady ||| may .clSlope ||| may .clSum ||| may .clTime ||| may .clVm ||| may .clVmCnt
theorem closeStep_keeps {M : Nat} {S0 : State} {s : State} (n : Nat) (gs : Keeps M S0 s) (gm : State.closeStep_may &&& M = State.closeStep_may := by decide +kernel) :
    Keeps M S0 (State.closeStep s n) := by
  unfold State.closeStep
  repeat' first
    | with_reducible assumption
    | (intro x; refine keeps_cut (m := M) (s0 := S0) (x := x) ?_ ?_; all_goals first | (intro hx; clear_value x) | subst x)
    | (intro x; subst x)
    | intro _
    | with_reducible exact may_trans gm (by decide +kernel)
    | with_reducible apply keeps_ite | simp only [List.foldl_cons, List.foldl_nil] | with_reducible apply keeps_wr
    | dsimp -zeta -zetaHave only | lift_lets -underBinder

def State.stepSample_may : Nat :=
  may .fsCnt ||| may .fsOff ||| may .fsOn
theorem stepSample_keeps {M : Nat} {S0 : State} {s : State} (n ph : Nat) (gs : Keeps M S0 s) (gm : State.stepSample_may &&& M = State.stepSample_may := by decide +kernel) :
    Keeps M S0 (State.stepSample s n ph) := by
  unfold State.stepSample
  repeat' first
    | with_reducible assumption
    | (intro x; refine keeps_cut (m := M) (s0 := S0) (x := x) ?_ ?_; all_goals first | (intro hx; clear_value x) | subst x)
    | (intro x; clear_value x)
    | intro _
    | with_reducible exact may_trans gm (by decide +kernel)
    | with_reducible apply keeps_ite | with_reducible apply keeps_wr | dsimp -zeta -zetaHave only | lift_lets -underBinder | split

def State.stepMark_may : Nat :=
  may .fsAcc ||| may .fsAmpHi ||| may .fsAmpLo ||| may .fsPasses ||| may .fsSum ||| State.openStep_may ||| State.closeStep_may |||
  State.stepSample_may
theorem stepMark_keeps {M : Nat} {S0 : State} {s : State} (n : Nat) (inc : Int) (gs : Keeps M S0 s) (gm : State.stepMark_may &&& M = State.stepMark_may := by decide +kernel) :
    Keeps M S0 (State.stepMark s n inc) := by
  unfold State.stepMark
  repeat' first
    | with_reducible assumption
    | (intro x; refine keeps_cut (m := M) (s0 := S0) (x := x) ?_ ?_; all_goals first | (intro hx; clear_value x) | subst x)
    | (intro x; clear_value x)
    | intro _
    | with_reducible exact may_trans gm (by decide +kernel)
    | with_reducible apply keeps_ite | with_reducible apply moveQ_keeps | with_reducible apply openStep_keeps
    | with_reducible apply closeStep_keeps | with_reducible apply stepSample_keeps | with_reducible apply keeps_wr
    | dsimp -zeta -zetaHave only | lift_lets -underBinder | split

def State.dropStep_may : Nat :=
  may .LI_STATE ||| may .fsOpen
theorem dropStep_keeps {M : Nat} {S0 : State} {s : State} (n : Nat) (gs : Keeps M S0 s) (gm : State.dropStep_may &&& M = State.dropStep_may := by decide +kernel) :
    Keeps M S0 (State.dropStep s n) := by
  unfold State.dropStep
  repeat' first
    | with_reducible assumption | intro _
    | with_reducible exact may_trans gm (by decide +kernel)
    | with_reducible apply keeps_ite | with_reducible apply keeps_wr | dsimp -zeta -zetaHave only | split

def State.takeBus_may : Nat :=
  may .brakeFrom ||| may .dvCnt ||| may .dvSum ||| may .fsVm ||| may .fsVmCnt
theorem takeBus_keeps {M : Nat} {S0 : State} {s : State} (k : Nat) (v : Int) (gs : Keeps M S0 s) (gm : State.takeBus_may &&& M = State.takeBus_may := by decide +kernel) :
    Keeps M S0 (State.takeBus s k v) := by
  unfold State.takeBus
  repeat' first
    | with_reducible assumption
    | (intro x; refine keeps_cut (m := M) (s0 := S0) (x := x) ?_ ?_; all_goals first | (intro hx; clear_value x) | subst x)
    | (intro x; clear_value x)
    | intro _
    | with_reducible exact may_trans gm (by decide +kernel)
    | with_reducible apply keeps_ite | with_reducible apply keeps_forList | with_reducible apply keeps_iff
    | with_reducible apply moveQ_keeps | with_reducible apply keeps_wr | dsimp -zeta -zetaHave only | lift_lets -underBinder | split

def State.busMark_may : Nat :=
  may .dvCnt ||| may .dvLast ||| may .dvSum
theorem busMark_keeps {M : Nat} {S0 : State} {s : State} (k : Nat) (gs : Keeps M S0 s) (gm : State.busMark_may &&& M = State.busMark_may := by decide +kernel) :
    Keeps M S0 (State.busMark s k) := by
  unfold State.busMark
  repeat' first
    | with_reducible assumption
    | (intro x; refine keeps_cut (m := M) (s0 := S0) (x := x) ?_ ?_; all_goals first | (intro hx; clear_value x) | subst x)
    | (intro x; clear_value x)
    | intro _
    | with_reducible exact may_trans gm (by decide +kernel)
    | with_reducible apply keeps_ite | with_reducible apply keeps_wr | dsimp -zeta -zetaHave only | lift_lets -underBinder | split

def State.takeSlope_may : Nat :=
  may_slopes ||| may .fsPairs ||| may .fsSlope
theorem takeSlope_keeps0 {S0 : State} {s : State} (n ph off t : Nat) (mag : Int) (gs : Keeps State.takeSlope_may S0 s) :
    Keeps State.takeSlope_may S0 (State.takeSlope s n ph off t mag) := by
  unfold State.takeSlope
  dsimp only
  split
  · have h := keeps_slopes gs (by decide +kernel) (fun c0 => Tbl.wf_tset (k := 2 * n + ph) (v := ‹List Sample›) (gs.can c0).slopes)
    exact keeps_ite (keeps_wr (moveQ_keeps _ _ _ h) _ _ _ (by decide +kernel)) h
  · exact keeps_slopes gs (by decide +kernel) (fun c0 => Tbl.wf_tset (gs.can c0).slopes)
theorem takeSlope_keeps {M : Nat} {S0 : State} {s : State} (n ph off t : Nat) (mag : Int) (gs : Keeps M S0 s) (gm : State.takeSlope_may &&& M = State.takeSlope_may := by decide +kernel) :
    Keeps M S0 (State.takeSlope s n ph off t mag) :=
  gs.trans ((takeSlope_keeps0 _ _ _ _ _ (keeps_refl _ s)).mono gm)

def State.hardStop_may : Nat :=
  State.halt_may ||| State.dropFin_may
theorem hardStop_keeps {M : Nat} {S0 : State} {s : State} (n : Nat) (gs : Keeps M S0 s) (gm : State.hardStop_may &&& M = State.hardStop_may := by decide +kernel) :
    Keeps M S0 (State.hardStop s n) := by
  unfold State.hardStop
  repeat' first
    | with_reducible assumption | intro _
    | with_reducible exact may_trans gm (by decide +kernel)
    | with_reducible apply keeps_ite | with_reducible apply halt_keeps | with_reducible apply dropFin_keeps | dsimp -zeta -zetaHave only

def State.stallStop_may : Nat :=
  State.stopAxis_may
theorem stallStop_keeps {M : Nat} {S0 : State} {s : State} (n : Nat) (gs : Keeps M S0 s) (gm : State.stallStop_may &&& M = State.stallStop_may := by decide +kernel) :
    Keeps M S0 (State.stallStop s n) := by
  unfold State.stallStop
  repeat' first
    | with_reducible assumption
    | (intro x; refine keeps_cut (m := M) (s0 := S0) (x := x) ?_ ?_; all_goals first | (intro hx; clear_value x) | subst x)
    | (intro x; clear_value x)
    | intro _
    | with_reducible exact may_trans gm (by decide +kernel)
    | with_reducible apply keeps_ite | with_reducible apply stopAxis_keeps | dsimp -zeta -zetaHave only | lift_lets -underBinder

def State.endFollow_may : Nat :=
  may .END_CAUSE ||| may .FOLLOW_STATE ||| State.setAxis_may
theorem endFollow_keeps {M : Nat} {S0 : State} {s : State} (n cause : Nat) (gs : Keeps M S0 s) (gm : State.endFollow_may &&& M = State.endFollow_may := by decide +kernel) :
    Keeps M S0 (State.endFollow s n cause) := by
  unfold State.endFollow
  repeat' first
    | with_reducible assumption | intro _
    | with_reducible exact may_trans gm (by decide +kernel)
    | with_reducible apply keeps_ite | with_reducible apply setAxis_keeps | with_reducible apply keeps_wr | dsimp -zeta -zetaHave only

def State.noteLoss_may : Nat :=
  may .LOSS_COUNT ||| State.count_may ||| State.detect_may
theorem noteLoss_keeps {M : Nat} {S0 : State} {s : State} (n cause : Nat) (gs : Keeps M S0 s) (gm : State.noteLoss_may &&& M = State.noteLoss_may := by decide +kernel) :
    Keeps M S0 (State.noteLoss s n cause) := by
  unfold State.noteLoss
  repeat' first
    | with_reducible assumption | intro _
    | with_reducible exact may_trans gm (by decide +kernel)
    | with_reducible apply keeps_ite | with_reducible apply count_keeps | with_reducible apply detect_keeps | dsimp -zeta -zetaHave only

def State.mergeLow_may : Nat :=
  may .EX_MIN_INDEX ||| State.mergePend_may
theorem mergeLow_keeps {M : Nat} {S0 : State} {s : State} (n : Nat) (idx : Int) (gs : Keeps M S0 s) (gm : State.mergeLow_may &&& M = State.mergeLow_may := by decide +kernel) :
    Keeps M S0 (State.mergeLow s n idx) := by
  unfold State.mergeLow
  repeat' first
    | with_reducible assumption | intro _
    | with_reducible exact may_trans gm (by decide +kernel)
    | with_reducible apply keeps_ite | with_reducible apply mergePend_keeps | with_reducible apply keeps_wr | dsimp -zeta -zetaHave only
    | split

def State.homeStall_may : Nat :=
  may .EX_TRAVEL_MEAS ||| may .HOME_COUNT ||| may .exPend ||| may .hmPass ||| may .hmPhase ||| State.count_may ||| State.wr48_may
  ||| State.askAssign_may ||| State.hardStop_may
theorem homeStall_keeps {M : Nat} {S0 : State} {s : State} (n : Nat) (m : Move) (gs : Keeps M S0 s) (gm : State.homeStall_may &&& M = State.homeStall_may := by decide +kernel) :
    Keeps M S0 (State.homeStall s n m) := by
  unfold State.homeStall
  repeat' first
    | with_reducible assumption
    | (intro x; refine keeps_cut (m := M) (s0 := S0) (x := x) ?_ ?_; all_goals first | (intro hx; clear_value x) | subst x)
    | (intro x; clear_value x)
    | intro _
    | with_reducible exact may_trans gm (by decide +kernel)
    | with_reducible apply keeps_ite | with_reducible apply count_keeps | with_reducible apply wr48_keeps
    | with_reducible apply askAssign_keeps | with_reducible apply hardStop_keeps | with_reducible apply keeps_wr
    | dsimp -zeta -zetaHave only | lift_lets -underBinder | split

def State.stallFlag_may : Nat :=
  may .stBlock ||| may .stGood ||| State.detect_may
theorem stallFlag_keeps {M : Nat} {S0 : State} {s : State} (n : Nat) (gs : Keeps M S0 s) (gm : State.stallFlag_may &&& M = State.stallFlag_may := by decide +kernel) :
    Keeps M S0 (State.stallFlag s n) := by
  unfold State.stallFlag
  repeat' first
    | with_reducible assumption | intro _
    | with_reducible exact may_trans gm (by decide +kernel)
    | with_reducible apply keeps_ite | with_reducible apply detect_keeps | with_reducible apply keeps_wr | dsimp -zeta -zetaHave only

def State.giveBack_may : Nat :=
  may .ACTIVE_KIND ||| may .ACTIVE_TAG ||| may .AMAX ||| may .AXIS_STATE ||| may .BOOST_CURRENT ||| may .DEFERRED ||| may .DMAX |||
  may .EX_MIN_INDEX ||| may .HOLD_CURRENT ||| may .JMAX ||| may .LAST_DONE_TAG ||| may .RELEASE_PENDING ||| may .RUN_CURRENT ||| may
  .SADDLE_PENDING ||| may .SADDLE_POS ||| may .TARGET ||| may .VMAX ||| may .asgPend ||| may .asgStall ||| may .asgVal ||| may
  .deferMove ||| may .effA ||| may .effD ||| may .effJ ||| may .effV ||| may .exPend ||| may .finHome ||| may .finPend ||| may
  .finTag ||| may .goalCap ||| may .goalKind ||| may .goalQ ||| may .hmFoundAt ||| may .hmPhase ||| may .hmStart ||| may .limNew |||
  may .readyAt ||| may .relFrom ||| may .relLate ||| may .relWait ||| may .velGoal ||| State.unpop_may ||| State.wrPlanner_may |||
  State.dropCall_may
theorem giveBack_keeps0 {S0 : State} {s : State} (n : Nat) (gs : Keeps State.giveBack_may S0 s) : Keeps State.giveBack_may S0 (State.giveBack s n) := by
  have all : ∀ r ∈ inputRegs, may r &&& State.giveBack_may = may r := by decide +kernel
  have fold : ∀ (l : List (Reg × Int)) (t : State), (∀ p ∈ l, p.1 ∈ inputRegs) → Keeps State.giveBack_may S0 t →
      Keeps State.giveBack_may S0 (l.foldl (fun (s : State) x => s.wr x.1 n x.2) t) := by
    intro l
    induction l with
    | nil => intro t _ h; exact h
    | cons p l ih => intro t hp h; exact ih _ (fun q hq => hp q (List.mem_cons_of_mem _ hq)) (keeps_wr h _ _ _ (all _ (hp p List.mem_cons_self)))
  unfold State.giveBack
  split
  · exact gs
  · rename_i b _
    refine keeps_ite gs ?_
    have h := fold (inputRegs.zip b.vals) _ (fun p hp => (List.of_mem_zip hp).1) (wrPlanner_keeps n { s.planner n with plan := b.plan, age := b.age, act := b.act, prior := none } (dropCall_keeps n gs))
    dsimp only
    split
    · exact h
    · exact unpop_keeps _ _ h
theorem giveBack_keeps {M : Nat} {S0 : State} {s : State} (n : Nat) (gs : Keeps M S0 s) (gm : State.giveBack_may &&& M = State.giveBack_may := by decide +kernel) :
    Keeps M S0 (State.giveBack s n) :=
  gs.trans ((giveBack_keeps0 _ (keeps_refl _ s)).mono gm)

def State.stallReact_may : Nat :=
  may .finPend ||| State.detect_may ||| State.completeAtMark_may ||| State.askAssign_may ||| State.hardStop_may |||
  State.stallStop_may ||| State.homeStall_may ||| State.stallFlag_may ||| State.giveBack_may
theorem stallReact_keeps {M : Nat} {S0 : State} {s : State} (n : Nat) (gs : Keeps M S0 s) (gm : State.stallReact_may &&& M = State.stallReact_may := by decide +kernel) :
    Keeps M S0 (State.stallReact s n) := by
  unfold State.stallReact
  repeat' first
    | with_reducible assumption
    | (intro x; refine keeps_cut (m := M) (s0 := S0) (x := x) ?_ ?_; all_goals first | (intro hx; clear_value x) | subst x)
    | (intro x; clear_value x)
    | intro _
    | with_reducible exact may_trans gm (by decide +kernel)
    | with_reducible apply keeps_ite | with_reducible apply detect_keeps | with_reducible apply completeAtMark_keeps
    | with_reducible apply askAssign_keeps | with_reducible apply hardStop_keeps | with_reducible apply stallStop_keeps
    | with_reducible apply homeStall_keeps | with_reducible apply stallFlag_keeps | with_reducible apply giveBack_keeps
    | with_reducible apply keeps_wr | dsimp -zeta -zetaHave only | lift_lets -underBinder | split

def State.declareStall_may : Nat :=
  may .STALL_COUNT ||| may .STALL_RUN ||| may .STALL_TIME ||| State.count_may ||| State.event_may ||| State.stallReact_may
theorem declareStall_keeps {M : Nat} {S0 : State} {s : State} (n : Nat) (gs : Keeps M S0 s) (gm : State.declareStall_may &&& M = State.declareStall_may := by decide +kernel) :
    Keeps M S0 (State.declareStall s n) := by
  unfold State.declareStall
  repeat' first
    | with_reducible assumption
    | (intro x; refine keeps_cut (m := M) (s0 := S0) (x := x) ?_ ?_; all_goals first | (intro hx; clear_value x) | subst x)
    | (intro x; clear_value x)
    | intro _
    | with_reducible exact may_trans gm (by decide +kernel)
    | with_reducible apply keeps_ite | with_reducible apply count_keeps | with_reducible apply event_keeps
    | with_reducible apply stallReact_keeps | with_reducible apply keeps_wr | dsimp -zeta -zetaHave only | lift_lets -underBinder

def State.stallStep_may : Nat :=
  may .STALL_POS ||| may .STALL_RUN ||| may .exPend ||| may .stBlock ||| may .stGood ||| State.mergeLow_may ||| State.giveBack_may
  ||| State.declareStall_may
theorem stallStep_keeps {M : Nat} {S0 : State} {s : State} (n idx : Nat) (gs : Keeps M S0 s) (gm : State.stallStep_may &&& M = State.stallStep_may := by decide +kernel) :
    Keeps M S0 (State.stallStep s n idx) := by
  unfold State.stallStep
  repeat' first
    | with_reducible assumption
    | (intro x; refine keeps_cut (m := M) (s0 := S0) (x := x) ?_ ?_; all_goals first | (intro hx; clear_value x) | subst x)
    | (intro x; clear_value x)
    | intro _
    | with_reducible exact may_trans gm (by decide +kernel)
    | with_reducible apply keeps_ite | with_reducible apply keeps_iff | with_reducible apply mergeLow_keeps
    | with_reducible apply giveBack_keeps | with_reducible apply declareStall_keeps | with_reducible apply keeps_wr
    | dsimp -zeta -zetaHave only | lift_lets -underBinder | split

def State.collect_may : Nat :=
  may .lnCnt ||| may .lnMeth ||| may .lnOff ||| may .lnR1 ||| may .lnR2 ||| may .lnSamp
theorem collect_keeps {M : Nat} {S0 : State} {s : State} (n meth : Nat) (ratio : Int) (gs : Keeps M S0 s) (gm : State.collect_may &&& M = State.collect_may := by decide +kernel) :
    Keeps M S0 (State.collect s n meth ratio) := by
  unfold State.collect
  repeat' first
    | with_reducible assumption
    | (intro x; refine keeps_cut (m := M) (s0 := S0) (x := x) ?_ ?_; all_goals first | (intro hx; clear_value x) | subst x)
    | (intro x; clear_value x)
    | intro _
    | with_reducible exact may_trans gm (by decide +kernel)
    | with_reducible apply keeps_ite | with_reducible apply moveQ_keeps | with_reducible apply keeps_wr | dsimp -zeta -zetaHave only
    | lift_lets -underBinder | split

def State.formStep_may : Nat :=
  may .LI_FORMED ||| may .LI_RATIO ||| may .LI_STATE ||| may .LOAD_INDEX ||| State.draw_may ||| State.count_may |||
  State.stallStep_may ||| State.collect_may
theorem formStep_keeps {M : Nat} {S0 : State} {s : State} (n meth : Nat) (ref : Option (Nat × Nat)) (num den : Int) (gs : Keeps M S0 s) (gm : State.formStep_may &&& M = State.formStep_may := by decide +kernel) :
    Keeps M S0 (State.formStep s n meth ref num den) := by
  unfold State.formStep
  repeat' first
    | with_reducible assumption
    | refine keeps_fst (by with_reducible assumption) ?_
    | refine keeps_snd (by with_reducible assumption) ?_
    | (intro x; refine keeps_cut (m := M) (s0 := S0) (x := x) ?_ ?_; all_goals first | (intro hx; clear_value x) | subst x)
    | (intro x; clear_value x)
    | intro _
    | with_reducible exact may_trans gm (by decide +kernel)
    | with_reducible apply keeps_ite | with_reducible apply draw_keeps | with_reducible apply count_keeps
    | with_reducible apply stallStep_keeps | with_reducible apply collect_keeps | with_reducible apply keeps_wr
    | dsimp -zeta -zetaHave only | lift_lets -underBinder | split

def State.voidStep_may : Nat :=
  may .LI_STATE ||| may .LI_VOID ||| State.count_may
theorem voidStep_keeps {M : Nat} {S0 : State} {s : State} (n st : Nat) (gs : Keeps M S0 s) (gm : State.voidStep_may &&& M = State.voidStep_may := by decide +kernel) :
    Keeps M S0 (State.voidStep s n st) := by
  unfold State.voidStep
  repeat' first
    | with_reducible assumption | intro _
    | with_reducible exact may_trans gm (by decide +kernel)
    | with_reducible apply keeps_ite | with_reducible apply count_keeps | with_reducible apply keeps_wr | dsimp -zeta -zetaHave only

def State.evalStep_may : Nat :=
  may .LI_SPEED ||| State.formStep_may ||| State.voidStep_may
theorem evalStep_keeps {M : Nat} {S0 : State} {s : State} (n : Nat) (gs : Keeps M S0 s) (gm : State.evalStep_may &&& M = State.evalStep_may := by decide +kernel) :
    Keeps M S0 (State.evalStep s n) := by
  unfold State.evalStep
  repeat' first
    | with_reducible assumption
    | (intro x; refine keeps_cut (m := M) (s0 := S0) (x := x) ?_ ?_; all_goals first | (intro hx; clear_value x) | subst x)
    | (intro x; clear_value x)
    | intro _
    | with_reducible exact may_trans gm (by decide +kernel)
    | with_reducible apply keeps_ite | with_reducible apply formStep_keeps | with_reducible apply voidStep_keeps
    | with_reducible apply keeps_wr | dsimp -zeta -zetaHave only | lift_lets -underBinder | split

def State.deviationStop_may : Nat :=
  may_was ||| may .END_CAUSE ||| may .devStop ||| State.flushQueue_may ||| State.event_may ||| State.stallStop_may |||
  State.noteLoss_may
theorem deviationStop_keeps {M : Nat} {S0 : State} {s : State} (n : Nat) (gs : Keeps M S0 s) (gm : State.deviationStop_may &&& M = State.deviationStop_may := by decide +kernel) :
    Keeps M S0 (State.deviationStop s n) := by
  unfold State.deviationStop
  repeat' first
    | with_reducible assumption
    | (intro x; refine keeps_cut (m := M) (s0 := S0) (x := x) ?_ ?_; all_goals first | (intro hx; clear_value x) | subst x)
    | (intro x; clear_value x)
    | intro _
    | with_reducible exact may_trans gm (by decide +kernel)
    | with_reducible apply keeps_ite | with_reducible apply keeps_iff | with_reducible apply flushQueue_keeps
    | with_reducible apply event_keeps | with_reducible apply stallStop_keeps | with_reducible apply noteLoss_keeps
    | with_reducible apply keeps_wr | dsimp -zeta -zetaHave only | lift_lets -underBinder | split

def execLoadIndexStep_may : Nat :=
  may .clReady ||| may .stampLoad ||| State.at_may ||| State.builtin_may ||| State.evalStep_may ||| State.deviationStop_may
theorem execLoadIndexStep_keeps {M : Nat} {S0 : State} (t : Nat) (n : Fin 64) (m : SlotIn) {s : State} (gs : Keeps M S0 s) (gm : execLoadIndexStep_may &&& M = execLoadIndexStep_may := by decide +kernel) :
    KeepsO M S0 (execLoadIndexStep t n m s) := by
  unfold execLoadIndexStep
  repeat' first
    | with_reducible assumption
    | (intro x; refine keeps_cut (m := M) (s0 := S0) (x := x) ?_ ?_; all_goals first | (intro hx; clear_value x) | subst x)
    | (intro x; clear_value x)
    | intro _
    | with_reducible exact may_trans gm (by decide +kernel)
    | with_reducible apply keeps_ite | with_reducible apply at_keeps | with_reducible apply builtin_keeps
    | with_reducible apply evalStep_keeps | with_reducible apply deviationStop_keeps | with_reducible apply keeps_wr
    | with_reducible apply keepsO_next | with_reducible apply keepsO_ite
    | exact keepsO_fault
    | dsimp -zeta -zetaHave only | lift_lets -underBinder | split

def State.search_may : Nat :=
  may .hmPhase ||| State.setAxis_may ||| State.newMove_may
theorem search_keeps {M : Nat} {S0 : State} {s : State} (n : Nat) (m : Move) (T : Int) (ph : Nat) (shift : Int) (gs : Keeps M S0 s) (gm : State.search_may &&& M = State.search_may := by decide +kernel) :
    Keeps M S0 (State.search s n m T ph shift) := by
  unfold State.search
  repeat' first
    | with_reducible assumption | intro _
    | with_reducible exact may_trans gm (by decide +kernel)
    | with_reducible apply keeps_ite | with_reducible apply setAxis_keeps | with_reducible apply newMove_keeps
    | with_reducible apply keeps_wr | dsimp -zeta -zetaHave only | split

def State.homeAtOnce_may : Nat :=
  State.completeRec_may ||| State.homeResult_may
theorem homeAtOnce_keeps {M : Nat} {S0 : State} {s : State} (n : Nat) (m : Move) (r : Nat) (gs : Keeps M S0 s) (gm : State.homeAtOnce_may &&& M = State.homeAtOnce_may := by decide +kernel) :
    Keeps M S0 (State.homeAtOnce s n m r) := by
  unfold State.homeAtOnce
  repeat' first
    | with_reducible assumption | intro _
    | with_reducible exact may_trans gm (by decide +kernel)
    | with_reducible apply keeps_ite | with_reducible apply completeRec_keeps | with_reducible apply homeResult_keeps
    | dsimp -zeta -zetaHave only

def State.homeHere_may : Nat :=
  may .HOME_COUNT ||| may .finHome ||| may .finPend ||| State.count_may ||| State.setAxis_may ||| State.completeAtMark_may |||
  State.askAssign_may
theorem homeHere_keeps {M : Nat} {S0 : State} {s : State} (n : Nat) (m : Move) (gs : Keeps M S0 s) (gm : State.homeHere_may &&& M = State.homeHere_may := by decide +kernel) :
    Keeps M S0 (State.homeHere s n m) := by
  unfold State.homeHere
  repeat' first
    | with_reducible assumption
    | (intro x; refine keeps_cut (m := M) (s0 := S0) (x := x) ?_ ?_; all_goals first | (intro hx; clear_value x) | subst x)
    | (intro x; clear_value x)
    | intro _
    | with_reducible exact may_trans gm (by decide +kernel)
    | with_reducible apply keeps_ite | with_reducible apply keeps_iff | with_reducible apply count_keeps
    | with_reducible apply setAxis_keeps | with_reducible apply completeAtMark_keeps | with_reducible apply askAssign_keeps
    | with_reducible apply keeps_wr | dsimp -zeta -zetaHave only | lift_lets -underBinder | split

def State.startHome_may : Nat :=
  may .EX_MIN_INDEX ||| may .exPend ||| may .hmStart ||| State.preset_may ||| State.askAssign_may ||| State.search_may |||
  State.homeAtOnce_may ||| State.homeHere_may
theorem startHome_keeps {M : Nat} {S0 : State} {s : State} (n : Nat) (m : Move) (gs : Keeps M S0 s) (gm : State.startHome_may &&& M = State.startHome_may := by decide +kernel) :
    Keeps M S0 (State.startHome s n m) := by
  unfold State.startHome
  repeat' first
    | with_reducible assumption
    | (intro x; refine keeps_cut (m := M) (s0 := S0) (x := x) ?_ ?_; all_goals first | (intro hx; clear_value x) | subst x)
    | (intro x; clear_value x)
    | intro _
    | with_reducible exact may_trans gm (by decide +kernel)
    | with_reducible apply keeps_ite | with_reducible apply preset_keeps | with_reducible apply askAssign_keeps
    | with_reducible apply search_keeps | with_reducible apply homeAtOnce_keeps | with_reducible apply homeHere_keeps
    | with_reducible apply keeps_wr | dsimp -zeta -zetaHave only | lift_lets -underBinder | split

def State.backOff_may : Nat :=
  may .hmPhase ||| State.newMove_may
theorem backOff_keeps {M : Nat} {S0 : State} {s : State} (n : Nat) (dir : Int) (ph : Nat) (gs : Keeps M S0 s) (gm : State.backOff_may &&& M = State.backOff_may := by decide +kernel) :
    Keeps M S0 (State.backOff s n dir ph) := by
  unfold State.backOff
  repeat' first
    | with_reducible assumption | intro _
    | with_reducible exact may_trans gm (by decide +kernel)
    | with_reducible apply keeps_ite | with_reducible apply newMove_keeps | with_reducible apply keeps_wr | dsimp -zeta -zetaHave only

def State.homeArrived_may : Nat :=
  may .exPend ||| may .finHome ||| may .finPend ||| may .goalKind ||| may .hmPhase ||| State.completeAtMark_may |||
  State.newMove_may ||| State.search_may ||| State.backOff_may
theorem homeArrived_keeps {M : Nat} {S0 : State} {s : State} (n : Nat) (m : Move) (gs : Keeps M S0 s) (gm : State.homeArrived_may &&& M = State.homeArrived_may := by decide +kernel) :
    Keeps M S0 (State.homeArrived s n m) := by
  unfold State.homeArrived
  repeat' first
    | with_reducible assumption
    | (intro x; refine keeps_cut (m := M) (s0 := S0) (x := x) ?_ ?_; all_goals first | (intro hx; clear_value x) | subst x)
    | (intro x; clear_value x)
    | intro _
    | with_reducible exact may_trans gm (by decide +kernel)
    | with_reducible apply keeps_ite | with_reducible apply completeAtMark_keeps | with_reducible apply newMove_keeps
    | with_reducible apply search_keeps | with_reducible apply backOff_keeps | with_reducible apply keeps_wr | dsimp -zeta -zetaHave only
    | lift_lets -underBinder | split

def State.homeStep_may : Nat :=
  may .hmFoundAt ||| may .hmPhase ||| State.stopMove_may ||| State.backOff_may ||| State.homeArrived_may
theorem homeStep_keeps {M : Nat} {S0 : State} {s : State} (n : Nat) (gs : Keeps M S0 s) (gm : State.homeStep_may &&& M = State.homeStep_may := by decide +kernel) :
    Keeps M S0 (State.homeStep s n) := by
  unfold State.homeStep
  repeat' first
    | with_reducible assumption | intro _
    | with_reducible exact may_trans gm (by decide +kernel)
    | with_reducible apply keeps_ite | with_reducible apply stopMove_keeps | with_reducible apply backOff_keeps
    | with_reducible apply homeArrived_keeps | with_reducible apply keeps_wr | dsimp -zeta -zetaHave only | split

def State.homeMark_may : Nat :=
  may .goalKind ||| State.setAxis_may ||| State.completeRec_may ||| State.homeResult_may ||| State.mergeLow_may
theorem homeMark_keeps {M : Nat} {S0 : State} {s : State} (n : Nat) (gs : Keeps M S0 s) (gm : State.homeMark_may &&& M = State.homeMark_may := by decide +kernel) :
    Keeps M S0 (State.homeMark s n) := by
  unfold State.homeMark
  repeat' first
    | with_reducible assumption
    | (intro x; refine keeps_cut (m := M) (s0 := S0) (x := x) ?_ ?_; all_goals first | (intro hx; clear_value x) | subst x)
    | (intro x; clear_value x)
    | intro _
    | with_reducible exact may_trans gm (by decide +kernel)
    | with_reducible apply keeps_ite | with_reducible apply setAxis_keeps | with_reducible apply completeRec_keeps
    | with_reducible apply homeResult_keeps | with_reducible apply mergeLow_keeps | with_reducible apply keeps_wr
    | dsimp -zeta -zetaHave only | lift_lets -underBinder | split

def State.homeNotFound_may : Nat :=
  State.setAxis_may ||| State.completeRec_may ||| State.homeResult_may ||| State.stopMove_may
theorem homeNotFound_keeps {M : Nat} {S0 : State} {s : State} (n : Nat) (m : Move) (gs : Keeps M S0 s) (gm : State.homeNotFound_may &&& M = State.homeNotFound_may := by decide +kernel) :
    Keeps M S0 (State.homeNotFound s n m) := by
  unfold State.homeNotFound
  repeat' first
    | with_reducible assumption | intro _
    | with_reducible exact may_trans gm (by decide +kernel)
    | with_reducible apply keeps_ite | with_reducible apply setAxis_keeps | with_reducible apply completeRec_keeps
    | with_reducible apply homeResult_keeps | with_reducible apply stopMove_keeps | dsimp -zeta -zetaHave only

def State.hardEnd_may : Nat :=
  may .finHome ||| may .finPend ||| State.completeAtMark_may ||| State.dropAssign_may ||| State.hardStop_may
theorem hardEnd_keeps {M : Nat} {S0 : State} {s : State} (n r : Nat) (gs : Keeps M S0 s) (gm : State.hardEnd_may &&& M = State.hardEnd_may := by decide +kernel) :
    Keeps M S0 (State.hardEnd s n r) := by
  unfold State.hardEnd
  repeat' first
    | with_reducible assumption
    | (intro x; refine keeps_cut (m := M) (s0 := S0) (x := x) ?_ ?_; all_goals first | (intro hx; clear_value x) | subst x)
    | (intro x; clear_value x)
    | intro _
    | with_reducible exact may_trans gm (by decide +kernel)
    | with_reducible apply keeps_ite | with_reducible apply completeAtMark_keeps | with_reducible apply dropAssign_keeps
    | with_reducible apply hardStop_keeps | with_reducible apply keeps_wr | dsimp -zeta -zetaHave only | lift_lets -underBinder | split

def State.learnAsk_may : Nat :=
  may .LEARN_EXCURSION ||| may .LEARN_RESULT ||| may .lnCond ||| may .lnEntry ||| may .lnOn
theorem learnAsk_keeps {M : Nat} {S0 : State} {s : State} (n : Nat) (gs : Keeps M S0 s) (gm : State.learnAsk_may &&& M = State.learnAsk_may := by decide +kernel) :
    Keeps M S0 (State.learnAsk s n) := by
  unfold State.learnAsk
  repeat' first
    | with_reducible assumption
    | (intro x; refine keeps_cut (m := M) (s0 := S0) (x := x) ?_ ?_; all_goals first | (intro hx; clear_value x) | subst x)
    | (intro x; clear_value x)
    | intro _
    | with_reducible exact may_trans gm (by decide +kernel)
    | with_reducible apply keeps_ite | with_reducible apply keeps_forAll | with_reducible apply keeps_wr | dsimp -zeta -zetaHave only
    | lift_lets -underBinder | split

def State.clearLeg_may : Nat :=
  may .lnCnt ||| may .lnMeth ||| may .lnOff ||| may .lnR1 ||| may .lnR2 ||| may .lnSamp
theorem clearLeg_keeps {M : Nat} {S0 : State} {s : State} (n : Nat) (gs : Keeps M S0 s) (gm : State.clearLeg_may &&& M = State.clearLeg_may := by decide +kernel) :
    Keeps M S0 (State.clearLeg s n) := by
  unfold State.clearLeg
  repeat' first
    | with_reducible assumption | intro _
    | with_reducible exact may_trans gm (by decide +kernel)
    | with_reducible apply keeps_ite | simp only [List.foldl_cons, List.foldl_nil] | with_reducible apply keeps_wr
    | dsimp -zeta -zetaHave only | split

def State.learnBegin_may : Nat :=
  may .lnGo ||| may .lnLeg ||| may .lnOn ||| may .lnPoint ||| may .lnStart ||| State.setAxis_may ||| State.clearLeg_may
theorem learnBegin_keeps {M : Nat} {S0 : State} {s : State} (n : Nat) (gs : Keeps M S0 s) (gm : State.learnBegin_may &&& M = State.learnBegin_may := by decide +kernel) :
    Keeps M S0 (State.learnBegin s n) := by
  unfold State.learnBegin
  repeat' first
    | with_reducible assumption
    | (intro x; refine keeps_cut (m := M) (s0 := S0) (x := x) ?_ ?_; all_goals first | (intro hx; clear_value x) | subst x)
    | (intro x; clear_value x)
    | intro _
    | with_reducible exact may_trans gm (by decide +kernel)
    | with_reducible apply keeps_ite | with_reducible apply setAxis_keeps | with_reducible apply clearLeg_keeps
    | with_reducible apply keeps_wr | dsimp -zeta -zetaHave only | lift_lets -underBinder

def State.learnEnd_may : Nat :=
  may .LEARN_RESULT ||| may .lnGo ||| may .lnOn ||| may .stopAt ||| may .stopPend ||| State.setAxis_may ||| State.detect_may
theorem learnEnd_keeps {M : Nat} {S0 : State} {s : State} (n r : Nat) (gs : Keeps M S0 s) (gm : State.learnEnd_may &&& M = State.learnEnd_may := by decide +kernel) :
    Keeps M S0 (State.learnEnd s n r) := by
  unfold State.learnEnd
  repeat' first
    | with_reducible assumption
    | (intro x; refine keeps_cut (m := M) (s0 := S0) (x := x) ?_ ?_; all_goals first | (intro hx; clear_value x) | subst x)
    | (intro x; clear_value x)
    | intro _
    | with_reducible exact may_trans gm (by decide +kernel)
    | with_reducible apply keeps_ite | with_reducible apply setAxis_keeps | with_reducible apply detect_keeps
    | with_reducible apply keeps_wr | dsimp -zeta -zetaHave only | lift_lets -underBinder | split

def State.learnLeg_may : Nat :=
  may .lnGo ||| State.newMove_may
theorem learnLeg_keeps {M : Nat} {S0 : State} {s : State} (n : Nat) (gs : Keeps M S0 s) (gm : State.learnLeg_may &&& M = State.learnLeg_may := by decide +kernel) :
    Keeps M S0 (State.learnLeg s n) := by
  unfold State.learnLeg
  repeat' first
    | with_reducible assumption
    | (intro x; refine keeps_cut (m := M) (s0 := S0) (x := x) ?_ ?_; all_goals first | (intro hx; clear_value x) | subst x)
    | (intro x; clear_value x)
    | intro _
    | with_reducible exact may_trans gm (by decide +kernel)
    | with_reducible apply keeps_ite | with_reducible apply newMove_keeps | with_reducible apply keeps_wr | dsimp -zeta -zetaHave only
    | lift_lets -underBinder | split

def State.learnEntry_may : Nat :=
  may .lnEntry ||| State.draw_may
theorem learnEntry_keeps {M : Nat} {S0 : State} {s : State} (n : Nat) (gs : Keeps M S0 s) (gm : State.learnEntry_may &&& M = State.learnEntry_may := by decide +kernel) :
    Keeps M S0 (State.learnEntry s n) := by
  unfold State.learnEntry
  repeat' first
    | with_reducible assumption
    | refine keeps_fst (by with_reducible assumption) ?_
    | refine keeps_snd (by with_reducible assumption) ?_
    | (intro x; refine keeps_cut (m := M) (s0 := S0) (x := x) ?_ ?_; all_goals first | (intro hx; clear_value x) | subst x)
    | (intro x; clear_value x)
    | intro _
    | with_reducible exact may_trans gm (by decide +kernel)
    | with_reducible apply keeps_ite | with_reducible apply draw_keeps | with_reducible apply keeps_wr | dsimp -zeta -zetaHave only
    | lift_lets -underBinder | split

def State.learnLegEnd_may : Nat :=
  may .LEARN_FAIL_POINT ||| may .lnGo ||| may .lnLeg ||| may .lnOn ||| may .lnPoint ||| State.clearLeg_may ||| State.learnEnd_may
  ||| State.learnEntry_may
theorem learnLegEnd_keeps {M : Nat} {S0 : State} {s : State} (n : Nat) (gs : Keeps M S0 s) (gm : State.learnLegEnd_may &&& M = State.learnLegEnd_may := by decide +kernel) :
    Keeps M S0 (State.learnLegEnd s n) := by
  unfold State.learnLegEnd
  repeat' first
    | with_reducible assumption
    | (intro x; refine keeps_cut (m := M) (s0 := S0) (x := x) ?_ ?_; all_goals first | (intro hx; clear_value x) | subst x)
    | (intro x; clear_value x)
    | intro _
    | with_reducible exact may_trans gm (by decide +kernel)
    | with_reducible apply keeps_ite | with_reducible apply clearLeg_keeps | with_reducible apply learnEnd_keeps
    | with_reducible apply learnEntry_keeps | with_reducible apply keeps_wr | dsimp -zeta -zetaHave only | lift_lets -underBinder | split

def execLearnLegEnd_may : Nat :=
  State.at_may ||| State.learnLegEnd_may
theorem execLearnLegEnd_keeps {M : Nat} {S0 : State} (t : Nat) (n : Fin 64) {s : State} (gs : Keeps M S0 s) (gm : execLearnLegEnd_may &&& M = execLearnLegEnd_may := by decide +kernel) :
    KeepsO M S0 (execLearnLegEnd t n s) := by
  unfold execLearnLegEnd
  repeat' first
    | with_reducible assumption
    | (intro x; refine keeps_cut (m := M) (s0 := S0) (x := x) ?_ ?_; all_goals first | (intro hx; clear_value x) | subst x)
    | (intro x; clear_value x)
    | intro _
    | with_reducible exact may_trans gm (by decide +kernel)
    | with_reducible apply keeps_ite | with_reducible apply at_keeps | with_reducible apply learnLegEnd_keeps
    | with_reducible apply keepsO_next | with_reducible apply keepsO_ite
    | exact keepsO_fault
    | dsimp -zeta -zetaHave only | lift_lets -underBinder | split

def State.learnDone_may : Nat :=
  may .LEARN_RESULT ||| may .lnOn ||| State.setAxis_may ||| State.setTable_may
theorem learnDone_keeps {M : Nat} {S0 : State} {s : State} (n : Nat) (gs : Keeps M S0 s) (gm : State.learnDone_may &&& M = State.learnDone_may := by decide +kernel) :
    Keeps M S0 (State.learnDone s n) := by
  unfold State.learnDone
  repeat' first
    | with_reducible assumption
    | (intro x; refine keeps_cut (m := M) (s0 := S0) (x := x) ?_ ?_; all_goals first | (intro hx; clear_value x) | subst x)
    | (intro x; clear_value x)
    | intro _
    | with_reducible exact may_trans gm (by decide +kernel)
    | with_reducible apply keeps_ite | with_reducible apply setAxis_keeps | with_reducible apply setTable_keeps
    | with_reducible apply keeps_wr | dsimp -zeta -zetaHave only | lift_lets -underBinder | split

def State.learnMark_may : Nat :=
  State.learnBegin_may ||| State.learnEnd_may ||| State.learnDone_may
theorem learnMark_keeps {M : Nat} {S0 : State} {s : State} (n : Nat) (gs : Keeps M S0 s) (gm : State.learnMark_may &&& M = State.learnMark_may := by decide +kernel) :
    Keeps M S0 (State.learnMark s n) := by
  unfold State.learnMark
  repeat' first
    | with_reducible assumption
    | (intro x; refine keeps_cut (m := M) (s0 := S0) (x := x) ?_ ?_; all_goals first | (intro hx; clear_value x) | subst x)
    | (intro x; clear_value x)
    | intro _
    | with_reducible exact may_trans gm (by decide +kernel)
    | with_reducible apply keeps_ite | with_reducible apply learnBegin_keeps | with_reducible apply learnEnd_keeps
    | with_reducible apply learnDone_keeps | dsimp -zeta -zetaHave only | lift_lets -underBinder | split

def State.loadCauses_may : Nat :=
  State.endCause_may ||| State.detectHeld_may
theorem loadCauses_keeps {M : Nat} {S0 : State} {s : State} (n : Nat) (gs : Keeps M S0 s) (gm : State.loadCauses_may &&& M = State.loadCauses_may := by decide +kernel) :
    Keeps M S0 (State.loadCauses s n) := by
  unfold State.loadCauses
  repeat' first
    | with_reducible assumption
    | (intro x; refine keeps_cut (m := M) (s0 := S0) (x := x) ?_ ?_; all_goals first | (intro hx; clear_value x) | subst x)
    | (intro x; clear_value x)
    | intro _
    | with_reducible exact may_trans gm (by decide +kernel)
    | with_reducible apply keeps_ite | with_reducible apply endCause_keeps | with_reducible apply detectHeld_keeps
    | dsimp -zeta -zetaHave only | lift_lets -underBinder | split

-- Profile.lean

def execFeedbackFoldIn_may : Nat :=
  may .stampFold ||| State.at_may ||| State.foldIn_may ||| State.builtin_may
theorem execFeedbackFoldIn_keeps {M : Nat} {S0 : State} (t : Nat) (n : Fin 64) (m : SlotIn) {s : State} (gs : Keeps M S0 s) (gm : execFeedbackFoldIn_may &&& M = execFeedbackFoldIn_may := by decide +kernel) :
    KeepsO M S0 (execFeedbackFoldIn t n m s) := by
  unfold execFeedbackFoldIn
  repeat' first
    | with_reducible assumption | intro _
    | with_reducible exact may_trans gm (by decide +kernel)
    | with_reducible apply keeps_ite | with_reducible apply at_keeps | with_reducible apply foldIn_keeps
    | with_reducible apply builtin_keeps | with_reducible apply keeps_wr | with_reducible apply keepsO_next
    | with_reducible apply keepsO_ite
    | exact keepsO_fault
    | dsimp -zeta -zetaHave only | split

def execInterpolationSetUp_may : Nat :=
  may .incShadow ||| may .stampInterp ||| State.at_may ||| State.builtin_may
theorem execInterpolationSetUp_keeps {M : Nat} {S0 : State} (t : Nat) (n : Fin 64) (m : SlotIn) {s : State} (gs : Keeps M S0 s) (gm : execInterpolationSetUp_may &&& M = execInterpolationSetUp_may := by decide +kernel) :
    KeepsO M S0 (execInterpolationSetUp t n m s) := by
  unfold execInterpolationSetUp
  repeat' first
    | with_reducible assumption
    | (intro x; refine keeps_cut (m := M) (s0 := S0) (x := x) ?_ ?_; all_goals first | (intro hx; clear_value x) | subst x)
    | (intro x; clear_value x)
    | intro _
    | with_reducible exact may_trans gm (by decide +kernel)
    | with_reducible apply keeps_ite | with_reducible apply at_keeps | with_reducible apply builtin_keeps | with_reducible apply keeps_wr
    | with_reducible apply keepsO_next | with_reducible apply keepsO_ite
    | exact keepsO_fault
    | dsimp -zeta -zetaHave only | lift_lets -underBinder | split

def State.beginMoving_may : Nat :=
  State.setAxis_may
theorem beginMoving_keeps {M : Nat} {S0 : State} {s : State} (n : Nat) (gs : Keeps M S0 s) (gm : State.beginMoving_may &&& M = State.beginMoving_may := by decide +kernel) :
    Keeps M S0 (State.beginMoving s n) := by
  unfold State.beginMoving
  repeat' first
    | with_reducible assumption | intro _
    | with_reducible exact may_trans gm (by decide +kernel)
    | with_reducible apply keeps_ite | with_reducible apply setAxis_keeps | dsimp -zeta -zetaHave only | split

def State.recordMove_may : Nat :=
  State.newMove_may ||| State.velMove_may
theorem recordMove_keeps {M : Nat} {S0 : State} {s : State} (n : Nat) (m : Move) (gs : Keeps M S0 s) (gm : State.recordMove_may &&& M = State.recordMove_may := by decide +kernel) :
    Keeps M S0 (State.recordMove s n m) := by
  unfold State.recordMove
  repeat' first
    | with_reducible assumption
    | (intro x; refine keeps_cut (m := M) (s0 := S0) (x := x) ?_ ?_; all_goals first | (intro hx; clear_value x) | subst x)
    | (intro x; clear_value x)
    | intro _
    | with_reducible exact may_trans gm (by decide +kernel)
    | with_reducible apply keeps_ite | with_reducible apply newMove_keeps | with_reducible apply velMove_keeps
    | dsimp -zeta -zetaHave only | lift_lets -underBinder | split

def State.startLate_may : Nat :=
  may .RELEASE_LATE ||| may .RELEASE_SLIP ||| State.draw_may ||| State.count_may ||| State.detect_may ||| State.dropRelease_may |||
  State.beginMoving_may ||| State.recordMove_may
theorem startLate_keeps {M : Nat} {S0 : State} {s : State} (n : Nat) (m : Move) (gs : Keeps M S0 s) (gm : State.startLate_may &&& M = State.startLate_may := by decide +kernel) :
    Keeps M S0 (State.startLate s n m) := by
  unfold State.startLate
  repeat' first
    | with_reducible assumption
    | refine keeps_fst (by with_reducible assumption) ?_
    | refine keeps_snd (by with_reducible assumption) ?_
    | (intro x; refine keeps_cut (m := M) (s0 := S0) (x := x) ?_ ?_; all_goals first | (intro hx; clear_value x) | subst x)
    | (intro x; clear_value x)
    | intro _
    | with_reducible exact may_trans gm (by decide +kernel)
    | with_reducible apply keeps_ite | with_reducible apply draw_keeps | with_reducible apply count_keeps
    | with_reducible apply detect_keeps | with_reducible apply dropRelease_keeps | with_reducible apply beginMoving_keeps
    | with_reducible apply recordMove_keeps | with_reducible apply keeps_wr | dsimp -zeta -zetaHave only | lift_lets -underBinder | split

def State.releaseStep_may : Nat :=
  may .relWait ||| State.wrPlanner_may ||| State.recordMove_may ||| State.startLate_may
theorem releaseStep_keeps {M : Nat} {S0 : State} {s : State} (n : Nat) (m : Move) (gs : Keeps M S0 s) (gm : State.releaseStep_may &&& M = State.releaseStep_may := by decide +kernel) :
    Keeps M S0 (State.releaseStep s n m) := by
  unfold State.releaseStep
  repeat' first
    | with_reducible assumption
    | (intro x; refine keeps_cut (m := M) (s0 := S0) (x := x) ?_ ?_; all_goals first | (intro hx; clear_value x) | subst x)
    | (intro x; clear_value x)
    | intro _
    | with_reducible exact may_trans gm (by decide +kernel)
    | with_reducible apply keeps_ite | with_reducible apply wrPlanner_keeps | with_reducible apply recordMove_keeps
    | with_reducible apply startLate_keeps | with_reducible apply keeps_wr | dsimp -zeta -zetaHave only | lift_lets -underBinder | split

def State.startMove_may : Nat :=
  may .RELEASE_PENDING ||| may .relWait ||| State.setAxis_may ||| State.beginMoving_may ||| State.recordMove_may |||
  State.releaseStep_may
theorem startMove_keeps {M : Nat} {S0 : State} {s : State} (n : Nat) (m : Move) (gs : Keeps M S0 s) (gm : State.startMove_may &&& M = State.startMove_may := by decide +kernel) :
    Keeps M S0 (State.startMove s n m) := by
  unfold State.startMove
  repeat' first
    | with_reducible assumption
    | (intro x; refine keeps_cut (m := M) (s0 := S0) (x := x) ?_ ?_; all_goals first | (intro hx; clear_value x) | subst x)
    | (intro x; clear_value x)
    | intro _
    | with_reducible exact may_trans gm (by decide +kernel)
    | with_reducible apply keeps_ite | with_reducible apply setAxis_keeps | with_reducible apply beginMoving_keeps
    | with_reducible apply recordMove_keeps | with_reducible apply releaseStep_keeps | with_reducible apply keeps_wr
    | dsimp -zeta -zetaHave only | lift_lets -underBinder | split

def State.setLimits_may : Nat :=
  may .AMAX ||| may .DMAX ||| may .JMAX ||| may .VMAX ||| may .limAt ||| may .limNew ||| State.applyLimits_may
theorem setLimits_keeps {M : Nat} {S0 : State} {s : State} (n : Nat) (m : Move) (gs : Keeps M S0 s) (gm : State.setLimits_may &&& M = State.setLimits_may := by decide +kernel) :
    Keeps M S0 (State.setLimits s n m) := by
  unfold State.setLimits
  repeat' first
    | with_reducible assumption
    | (intro x; refine keeps_cut (m := M) (s0 := S0) (x := x) ?_ ?_; all_goals first | (intro hx; clear_value x) | subst x)
    | (intro x; subst x)
    | intro _
    | with_reducible exact may_trans gm (by decide +kernel)
    | with_reducible apply keeps_ite | with_reducible apply keeps_iff | with_reducible apply wrBit_keeps
    | with_reducible apply applyLimits_keeps | with_reducible apply keeps_wr | dsimp -zeta -zetaHave only | lift_lets -underBinder
    | split

def State.setCurrents_may : Nat :=
  may .BOOST_CURRENT ||| may .HOLD_CURRENT ||| may .RUN_CURRENT
theorem setCurrents_keeps {M : Nat} {S0 : State} {s : State} (n : Nat) (m : Move) (gs : Keeps M S0 s) (gm : State.setCurrents_may &&& M = State.setCurrents_may := by decide +kernel) :
    Keeps M S0 (State.setCurrents s n m) := by
  unfold State.setCurrents
  repeat' first
    | with_reducible assumption
    | (intro x; refine keeps_cut (m := M) (s0 := S0) (x := x) ?_ ?_; all_goals first | (intro hx; clear_value x) | subst x)
    | (intro x; subst x)
    | intro _
    | with_reducible exact may_trans gm (by decide +kernel)
    | with_reducible apply keeps_ite | with_reducible apply keeps_wr | dsimp -zeta -zetaHave only | lift_lets -underBinder | split

def State.startCall_may : Nat :=
  may_calls ||| State.detect_may ||| State.completeRec_may
theorem startCall_keeps {M : Nat} {S0 : State} {s : State} (n : Nat) (m : Move) (gs : Keeps M S0 s) (gm : State.startCall_may &&& M = State.startCall_may := by decide +kernel) :
    Keeps M S0 (State.startCall s n m) := by
  unfold State.startCall
  repeat' first
    | with_reducible assumption
    | (intro x; refine keeps_cut (m := M) (s0 := S0) (x := x) ?_ ?_; all_goals first | (intro hx; clear_value x) | subst x)
    | (intro x; clear_value x)
    | intro _
    | with_reducible exact may_trans gm (by decide +kernel)
    | with_reducible apply keeps_ite | with_reducible apply detect_keeps | with_reducible apply completeRec_keeps
    | with_reducible exact Tbl.wf_nil
    | with_reducible apply Tbl.wf_tset | with_reducible apply Tbl.wf_filter | with_reducible apply Tbl.wf_tmap
    | with_reducible refine (Keeps.can (m := M) (s := S0) ?_ (by assumption)).calls | dsimp -zeta -zetaHave only | lift_lets -underBinder
    | split | with_reducible apply keeps_calls

def State.startRec_may : Nat :=
  State.completeRec_may ||| State.pollWait_may ||| State.startHome_may ||| State.startMove_may ||| State.setLimits_may |||
  State.setCurrents_may ||| State.startCall_may
theorem startRec_keeps {M : Nat} {S0 : State} {s : State} (n : Nat) (m : Move) (gs : Keeps M S0 s) (gm : State.startRec_may &&& M = State.startRec_may := by decide +kernel) :
    Keeps M S0 (State.startRec s n m) := by
  unfold State.startRec
  repeat' first
    | with_reducible assumption | intro _
    | with_reducible exact may_trans gm (by decide +kernel)
    | with_reducible apply keeps_ite | with_reducible apply completeRec_keeps | with_reducible apply pollWait_keeps
    | with_reducible apply startHome_keeps | with_reducible apply startMove_keeps | with_reducible apply setLimits_keeps
    | with_reducible apply setCurrents_keeps | with_reducible apply startCall_keeps | dsimp -zeta -zetaHave only | split

def State.takeFlush_may : Nat :=
  may .flushPend ||| State.flushQueue_may
theorem takeFlush_keeps {M : Nat} {S0 : State} {s : State} (n : Nat) (gs : Keeps M S0 s) (gm : State.takeFlush_may &&& M = State.takeFlush_may := by decide +kernel) :
    Keeps M S0 (State.takeFlush s n) := by
  unfold State.takeFlush
  repeat' first
    | with_reducible assumption | intro _
    | with_reducible exact may_trans gm (by decide +kernel)
    | with_reducible apply keeps_ite | with_reducible apply flushQueue_keeps | with_reducible apply keeps_wr | dsimp -zeta -zetaHave only
    | split

def State.keepPrior_may : Nat :=
  State.wrPlanner_may
theorem keepPrior_keeps {M : Nat} {S0 : State} {s : State} (n : Nat) (x : Option Pkt) (gs : Keeps M S0 s) (gm : State.keepPrior_may &&& M = State.keepPrior_may := by decide +kernel) :
    Keeps M S0 (State.keepPrior s n x) := by
  unfold State.keepPrior
  repeat' first
    | with_reducible assumption
    | (intro x; refine keeps_cut (m := M) (s0 := S0) (x := x) ?_ ?_; all_goals first | (intro hx; clear_value x) | subst x)
    | (intro x; clear_value x)
    | intro _
    | with_reducible exact may_trans gm (by decide +kernel)
    | with_reducible apply keeps_ite | with_reducible apply wrPlanner_keeps | dsimp -zeta -zetaHave only | lift_lets -underBinder | split

def State.takeRec_may : Nat :=
  may .ACTIVE_KIND ||| may .ACTIVE_TAG ||| State.pop_may ||| State.wrPlanner_may ||| State.endDeferral_may ||| State.startRec_may
  ||| State.takeFlush_may ||| State.keepPrior_may
theorem takeRec_keeps {M : Nat} {S0 : State} {s : State} (n : Nat) (gs : Keeps M S0 s) (gm : State.takeRec_may &&& M = State.takeRec_may := by decide +kernel) :
    Keeps M S0 (State.takeRec s n) := by
  unfold State.takeRec
  repeat' first
    | with_reducible assumption
    | refine keeps_fst (by with_reducible assumption) ?_
    | refine keeps_snd (by with_reducible assumption) ?_
    | (intro x; refine keeps_cut (m := M) (s0 := S0) (x := x) ?_ ?_; all_goals first | (intro hx; clear_value x) | subst x)
    | (intro x; clear_value x)
    | intro _
    | with_reducible exact may_trans gm (by decide +kernel)
    | with_reducible apply keeps_ite | with_reducible apply pop_keeps | with_reducible apply wrPlanner_keeps
    | with_reducible apply endDeferral_keeps | with_reducible apply startRec_keeps | with_reducible apply takeFlush_keeps
    | with_reducible apply keepPrior_keeps | with_reducible apply keeps_wr | dsimp -zeta -zetaHave only | lift_lets -underBinder | split

def State.arrive_may : Nat :=
  may .finPend ||| may .goalKind ||| may .lnOn ||| State.wrPlanner_may ||| State.completeAtMark_may
theorem arrive_keeps {M : Nat} {S0 : State} {s : State} (n : Nat) (gs : Keeps M S0 s) (gm : State.arrive_may &&& M = State.arrive_may := by decide +kernel) :
    Keeps M S0 (State.arrive s n) := by
  unfold State.arrive
  repeat' first
    | with_reducible assumption
    | (intro x; refine keeps_cut (m := M) (s0 := S0) (x := x) ?_ ?_; all_goals first | (intro hx; clear_value x) | subst x)
    | (intro x; clear_value x)
    | intro _
    | with_reducible exact may_trans gm (by decide +kernel)
    | with_reducible apply keeps_ite | with_reducible apply keeps_iff | with_reducible apply wrPlanner_keeps
    | with_reducible apply completeAtMark_keeps | with_reducible apply keeps_wr | dsimp -zeta -zetaHave only | lift_lets -underBinder
    | split

def State.findEnds_may : Nat :=
  State.completeAtMark_may ||| State.arrive_may
theorem findEnds_keeps {M : Nat} {S0 : State} {s : State} (n : Nat) (gs : Keeps M S0 s) (gm : State.findEnds_may &&& M = State.findEnds_may := by decide +kernel) :
    Keeps M S0 (State.findEnds s n) := by
  unfold State.findEnds
  repeat' first
    | with_reducible assumption
    | (intro x; refine keeps_cut (m := M) (s0 := S0) (x := x) ?_ ?_; all_goals first | (intro hx; clear_value x) | subst x)
    | (intro x; clear_value x)
    | intro _
    | with_reducible exact may_trans gm (by decide +kernel)
    | with_reducible apply keeps_ite | with_reducible apply completeAtMark_keeps | with_reducible apply arrive_keeps
    | dsimp -zeta -zetaHave only | lift_lets -underBinder | split

def State.discardRelease_may : Nat :=
  may .ANGLE_INC ||| may .relFrom ||| State.wrPlanner_may ||| State.abandon_may ||| State.halt_may
theorem discardRelease_keeps {M : Nat} {S0 : State} {s : State} (n : Nat) (gs : Keeps M S0 s) (gm : State.discardRelease_may &&& M = State.discardRelease_may := by decide +kernel) :
    Keeps M S0 (State.discardRelease s n) := by
  unfold State.discardRelease
  repeat' first
    | with_reducible assumption
    | (intro x; refine keeps_cut (m := M) (s0 := S0) (x := x) ?_ ?_; all_goals first | (intro hx; clear_value x) | subst x)
    | (intro x; clear_value x)
    | intro _
    | with_reducible exact may_trans gm (by decide +kernel)
    | with_reducible apply keeps_ite | with_reducible apply wrPlanner_keeps | with_reducible apply abandon_keeps
    | with_reducible apply halt_keeps | with_reducible apply keeps_wr | dsimp -zeta -zetaHave only | lift_lets -underBinder

def State.takeStop_may : Nat :=
  may .hmPhase ||| may .stopPend ||| may .tgtPend ||| State.flushQueue_may ||| State.completeAtMark_may ||| State.dropRelease_may
  ||| State.dropCall_may ||| State.dropAssign_may ||| State.abandon_may ||| State.stopMove_may ||| State.mergeLow_may |||
  State.learnEnd_may ||| State.beginMoving_may ||| State.discardRelease_may
theorem takeStop_keeps {M : Nat} {S0 : State} {s : State} (n : Nat) (gs : Keeps M S0 s) (gm : State.takeStop_may &&& M = State.takeStop_may := by decide +kernel) :
    Keeps M S0 (State.takeStop s n) := by
  unfold State.takeStop
  repeat' first
    | with_reducible assumption
    | (intro x; refine keeps_cut (m := M) (s0 := S0) (x := x) ?_ ?_; all_goals first | (intro hx; clear_value x) | subst x)
    | (intro x; clear_value x)
    | intro _
    | with_reducible exact may_trans gm (by decide +kernel)
    | with_reducible apply keeps_ite | with_reducible apply keeps_iff | with_reducible apply flushQueue_keeps
    | with_reducible apply completeAtMark_keeps | with_reducible apply dropRelease_keeps | with_reducible apply dropCall_keeps
    | with_reducible apply dropAssign_keeps | with_reducible apply abandon_keeps | with_reducible apply stopMove_keeps
    | with_reducible apply mergeLow_keeps | with_reducible apply learnEnd_keeps | with_reducible apply beginMoving_keeps
    | with_reducible apply discardRelease_keeps | with_reducible apply keeps_wr | dsimp -zeta -zetaHave only | lift_lets -underBinder
    | split

def State.takeTarget_may : Nat :=
  may .tgtPend ||| State.completeRec_may ||| State.abandon_may ||| State.clampTarget_may ||| State.newMove_may |||
  State.learnEnd_may ||| State.beginMoving_may ||| State.discardRelease_may
theorem takeTarget_keeps {M : Nat} {S0 : State} {s : State} (n : Nat) (gs : Keeps M S0 s) (gm : State.takeTarget_may &&& M = State.takeTarget_may := by decide +kernel) :
    Keeps M S0 (State.takeTarget s n) := by
  unfold State.takeTarget
  repeat' first
    | with_reducible assumption
    | refine keeps_fst (by with_reducible assumption) ?_
    | refine keeps_snd (by with_reducible assumption) ?_
    | (intro x; refine keeps_cut (m := M) (s0 := S0) (x := x) ?_ ?_; all_goals first | (intro hx; clear_value x) | subst x)
    | (intro x; clear_value x)
    | intro _
    | with_reducible exact may_trans gm (by decide +kernel)
    | with_reducible apply keeps_ite | with_reducible apply completeRec_keeps | with_reducible apply abandon_keeps
    | with_reducible apply clampTarget_keeps | with_reducible apply newMove_keeps | with_reducible apply learnEnd_keeps
    | with_reducible apply beginMoving_keeps | with_reducible apply discardRelease_keeps | with_reducible apply keeps_wr
    | dsimp -zeta -zetaHave only | lift_lets -underBinder | split

def State.limitHit_may : Nat :=
  may .LIMIT_HITS ||| State.count_may ||| State.detect_may
theorem limitHit_keeps {M : Nat} {S0 : State} {s : State} (n : Nat) (gs : Keeps M S0 s) (gm : State.limitHit_may &&& M = State.limitHit_may := by decide +kernel) :
    Keeps M S0 (State.limitHit s n) := by
  unfold State.limitHit
  repeat' first
    | with_reducible assumption | intro _
    | with_reducible exact may_trans gm (by decide +kernel)
    | with_reducible apply keeps_ite | with_reducible apply count_keeps | with_reducible apply detect_keeps | dsimp -zeta -zetaHave only

def State.limitReact_may : Nat :=
  State.search_may ||| State.homeNotFound_may ||| State.hardEnd_may ||| State.takeStop_may ||| State.limitHit_may
theorem limitReact_keeps {M : Nat} {S0 : State} {s : State} (n : Nat) (gs : Keeps M S0 s) (gm : State.limitReact_may &&& M = State.limitReact_may := by decide +kernel) :
    Keeps M S0 (State.limitReact s n) := by
  unfold State.limitReact
  repeat' first
    | with_reducible assumption
    | (intro x; refine keeps_cut (m := M) (s0 := S0) (x := x) ?_ ?_; all_goals first | (intro hx; clear_value x) | subst x)
    | (intro x; clear_value x)
    | intro _
    | with_reducible exact may_trans gm (by decide +kernel)
    | with_reducible apply keeps_ite | with_reducible apply search_keeps | with_reducible apply homeNotFound_keeps
    | with_reducible apply hardEnd_keeps | with_reducible apply takeStop_keeps | with_reducible apply limitHit_keeps
    | dsimp -zeta -zetaHave only | lift_lets -underBinder | split

def State.followStop_may : Nat :=
  State.takeLimits_may ||| State.stopMove_may ||| State.endFollow_may
theorem followStop_keeps {M : Nat} {S0 : State} {s : State} (n cause : Nat) (gs : Keeps M S0 s) (gm : State.followStop_may &&& M = State.followStop_may := by decide +kernel) :
    Keeps M S0 (State.followStop s n cause) := by
  unfold State.followStop
  repeat' first
    | with_reducible assumption | intro _
    | with_reducible exact may_trans gm (by decide +kernel)
    | with_reducible apply keeps_ite | with_reducible apply takeLimits_keeps | with_reducible apply stopMove_keeps
    | with_reducible apply endFollow_keeps | dsimp -zeta -zetaHave only

def State.softEnd_may : Nat :=
  may .CLAMP_COUNT ||| may .CLAMP_REQUEST ||| State.count_may ||| State.wr48_may ||| State.event_may ||| State.newMove_may |||
  State.advance_may ||| State.endFollow_may
theorem softEnd_keeps {M : Nat} {S0 : State} {s : State} (n : Nat) (up : Bool) (gs : Keeps M S0 s) (gm : State.softEnd_may &&& M = State.softEnd_may := by decide +kernel) :
    Keeps M S0 (State.softEnd s n up) := by
  unfold State.softEnd
  repeat' first
    | with_reducible assumption
    | (intro x; refine keeps_cut (m := M) (s0 := S0) (x := x) ?_ ?_; all_goals first | (intro hx; clear_value x) | subst x)
    | (intro x; clear_value x)
    | intro _
    | with_reducible exact may_trans gm (by decide +kernel)
    | with_reducible apply keeps_ite | with_reducible apply count_keeps | with_reducible apply wr48_keeps
    | with_reducible apply event_keeps | with_reducible apply newMove_keeps | with_reducible apply advance_keeps
    | with_reducible apply endFollow_keeps | dsimp -zeta -zetaHave only | lift_lets -underBinder | split

def State.lock_may : Nat :=
  may .FOLLOW_STATE ||| may .foOrg ||| may .gearPrev ||| may .gearQ ||| may .goalKind
theorem lock_keeps {M : Nat} {S0 : State} {s : State} (n : Nat) (gs : Keeps M S0 s) (gm : State.lock_may &&& M = State.lock_may := by decide +kernel) :
    Keeps M S0 (State.lock s n) := by
  unfold State.lock
  repeat' first
    | with_reducible assumption
    | (intro x; refine keeps_cut (m := M) (s0 := S0) (x := x) ?_ ?_; all_goals first | (intro hx; clear_value x) | subst x)
    | (intro x; clear_value x)
    | intro _
    | with_reducible exact may_trans gm (by decide +kernel)
    | with_reducible apply keeps_ite | with_reducible apply moveQ_keeps | with_reducible apply keeps_wr | dsimp -zeta -zetaHave only
    | lift_lets -underBinder | split

def State.lag_may : Nat :=
  may .FOLLOW_LAG ||| State.wr48_may
theorem lag_keeps {M : Nat} {S0 : State} {s : State} (n : Nat) (gs : Keeps M S0 s) (gm : State.lag_may &&& M = State.lag_may := by decide +kernel) :
    Keeps M S0 (State.lag s n) := by
  unfold State.lag
  repeat' first
    | with_reducible assumption | intro _
    | with_reducible exact may_trans gm (by decide +kernel)
    | with_reducible apply keeps_ite | with_reducible apply wr48_keeps | dsimp -zeta -zetaHave only | split

def State.chase_may : Nat :=
  may .TARGET ||| may .goalCap ||| may .goalKind ||| may .goalQ ||| may .velGoal ||| State.takeLimits_may ||| State.endDeferral_may
  ||| State.setPlan_may
theorem chase_keeps {M : Nat} {S0 : State} {s : State} (n : Nat) (v : Int) (gs : Keeps M S0 s) (gm : State.chase_may &&& M = State.chase_may := by decide +kernel) :
    Keeps M S0 (State.chase s n v) := by
  unfold State.chase
  repeat' first
    | with_reducible assumption
    | (intro x; refine keeps_cut (m := M) (s0 := S0) (x := x) ?_ ?_; all_goals first | (intro hx; clear_value x) | subst x)
    | (intro x; clear_value x)
    | intro _
    | with_reducible exact may_trans gm (by decide +kernel)
    | with_reducible apply keeps_ite | with_reducible apply takeLimits_keeps | with_reducible apply endDeferral_keeps
    | with_reducible apply setPlan_keeps | with_reducible apply keeps_wr | dsimp -zeta -zetaHave only | lift_lets -underBinder | split

def State.limitEnd_may : Nat :=
  may .CLAMP_COUNT ||| may .CLAMP_REQUEST ||| State.count_may ||| State.wr48_may ||| State.event_may ||| State.stopMove_may |||
  State.advance_may ||| State.endFollow_may
theorem limitEnd_keeps {M : Nat} {S0 : State} {s : State} (n : Nat) (gs : Keeps M S0 s) (gm : State.limitEnd_may &&& M = State.limitEnd_may := by decide +kernel) :
    Keeps M S0 (State.limitEnd s n) := by
  unfold State.limitEnd
  repeat' first
    | with_reducible assumption
    | (intro x; refine keeps_cut (m := M) (s0 := S0) (x := x) ?_ ?_; all_goals first | (intro hx; clear_value x) | subst x)
    | (intro x; clear_value x)
    | intro _
    | with_reducible exact may_trans gm (by decide +kernel)
    | with_reducible apply keeps_ite | with_reducible apply count_keeps | with_reducible apply wr48_keeps
    | with_reducible apply event_keeps | with_reducible apply stopMove_keeps | with_reducible apply advance_keeps
    | with_reducible apply endFollow_keeps | dsimp -zeta -zetaHave only | lift_lets -underBinder

def State.followPlan_may : Nat :=
  may .incPlan ||| State.wrPlanner_may ||| State.takeLimits_may ||| State.advance_may ||| State.softEnd_may ||| State.lock_may |||
  State.lag_may ||| State.chase_may ||| State.limitEnd_may
theorem followPlan_keeps {M : Nat} {S0 : State} {s : State} (n : Nat) (gs : Keeps M S0 s) (gm : State.followPlan_may &&& M = State.followPlan_may := by decide +kernel) :
    Keeps M S0 (State.followPlan s n) := by
  unfold State.followPlan
  repeat' first
    | with_reducible assumption
    | (intro x; refine keeps_cut (m := M) (s0 := S0) (x := x) ?_ ?_; all_goals first | (intro hx; clear_value x) | subst x)
    | (intro x; clear_value x)
    | intro _
    | with_reducible exact may_trans gm (by decide +kernel)
    | with_reducible apply keeps_ite | with_reducible apply wrPlanner_keeps | with_reducible apply takeLimits_keeps
    | with_reducible apply advance_keeps | with_reducible apply softEnd_keeps | with_reducible apply lock_keeps
    | with_reducible apply lag_keeps | with_reducible apply chase_keeps | with_reducible apply limitEnd_keeps
    | with_reducible apply keeps_wr | dsimp -zeta -zetaHave only | lift_lets -underBinder | split

def State.followStep_may : Nat :=
  may .discPend ||| may .finPend ||| may .stopPend ||| State.flushQueue_may ||| State.event_may ||| State.detect_may |||
  State.advance_may ||| State.hardStop_may ||| State.endFollow_may ||| State.noteLoss_may ||| State.limitHit_may |||
  State.followStop_may ||| State.followPlan_may
theorem followStep_keeps {M : Nat} {S0 : State} {s : State} (n : Nat) (gs : Keeps M S0 s) (gm : State.followStep_may &&& M = State.followStep_may := by decide +kernel) :
    Keeps M S0 (State.followStep s n) := by
  unfold State.followStep
  repeat' first
    | with_reducible assumption
    | (intro x; refine keeps_cut (m := M) (s0 := S0) (x := x) ?_ ?_; all_goals first | (intro hx; clear_value x) | subst x)
    | (intro x; clear_value x)
    | intro _
    | with_reducible exact may_trans gm (by decide +kernel)
    | with_reducible apply keeps_ite | with_reducible apply flushQueue_keeps | with_reducible apply event_keeps
    | with_reducible apply detect_keeps | with_reducible apply advance_keeps | with_reducible apply hardStop_keeps
    | with_reducible apply endFollow_keeps | with_reducible apply noteLoss_keeps | with_reducible apply limitHit_keeps
    | with_reducible apply followStop_keeps | with_reducible apply followPlan_keeps | with_reducible apply keeps_wr
    | dsimp -zeta -zetaHave only | lift_lets -underBinder | split

def State.idleInputs_may : Nat :=
  may .stopPend ||| may .tgtPend ||| State.flushQueue_may ||| State.takeLimits_may ||| State.takeFlush_may
theorem idleInputs_keeps {M : Nat} {S0 : State} {s : State} (n : Nat) (gs : Keeps M S0 s) (gm : State.idleInputs_may &&& M = State.idleInputs_may := by decide +kernel) :
    Keeps M S0 (State.idleInputs s n) := by
  unfold State.idleInputs
  repeat' first
    | with_reducible assumption
    | (intro x; refine keeps_cut (m := M) (s0 := S0) (x := x) ?_ ?_; all_goals first | (intro hx; clear_value x) | subst x)
    | (intro x; clear_value x)
    | intro _
    | with_reducible exact may_trans gm (by decide +kernel)
    | with_reducible apply keeps_ite | with_reducible apply keeps_iff | with_reducible apply flushQueue_keeps
    | with_reducible apply takeLimits_keeps | with_reducible apply takeFlush_keeps | with_reducible apply keeps_wr
    | dsimp -zeta -zetaHave only | lift_lets -underBinder | split

def State.takeInputs_may : Nat :=
  State.homeStep_may ||| State.learnLeg_may ||| State.releaseStep_may ||| State.takeFlush_may ||| State.keepPrior_may |||
  State.takeRec_may ||| State.findEnds_may ||| State.takeStop_may ||| State.takeTarget_may ||| State.limitReact_may
theorem takeInputs_keeps {M : Nat} {S0 : State} {s : State} (n : Nat) (gs : Keeps M S0 s) (gm : State.takeInputs_may &&& M = State.takeInputs_may := by decide +kernel) :
    Keeps M S0 (State.takeInputs s n) := by
  unfold State.takeInputs
  repeat' first
    | with_reducible assumption
    | (intro x; refine keeps_cut (m := M) (s0 := S0) (x := x) ?_ ?_; all_goals first | (intro hx; clear_value x) | subst x)
    | (intro x; clear_value x)
    | intro _
    | with_reducible exact may_trans gm (by decide +kernel)
    | with_reducible apply keeps_ite | with_reducible apply homeStep_keeps | with_reducible apply learnLeg_keeps
    | with_reducible apply releaseStep_keeps | with_reducible apply takeFlush_keeps | with_reducible apply keepPrior_keeps
    | with_reducible apply takeRec_keeps | with_reducible apply findEnds_keeps | with_reducible apply takeStop_keeps
    | with_reducible apply takeTarget_keeps | with_reducible apply limitReact_keeps | dsimp -zeta -zetaHave only | lift_lets -underBinder
    | split

def State.moveStep_may : Nat :=
  State.replan_may ||| State.applyLimits_may ||| State.noteSaddle_may ||| State.advance_may ||| State.pollInstant_may |||
  State.takeInputs_may
theorem moveStep_keeps {M : Nat} {S0 : State} {s : State} (n : Nat) (gs : Keeps M S0 s) (gm : State.moveStep_may &&& M = State.moveStep_may := by decide +kernel) :
    Keeps M S0 (State.moveStep s n) := by
  unfold State.moveStep
  repeat' first
    | with_reducible assumption
    | (intro x; refine keeps_cut (m := M) (s0 := S0) (x := x) ?_ ?_; all_goals first | (intro hx; clear_value x) | subst x)
    | (intro x; clear_value x)
    | intro _
    | with_reducible exact may_trans gm (by decide +kernel)
    | with_reducible apply keeps_ite | with_reducible apply replan_keeps | with_reducible apply applyLimits_keeps
    | with_reducible apply noteSaddle_keeps | with_reducible apply advance_keeps | with_reducible apply pollInstant_keeps
    | with_reducible apply takeInputs_keeps | dsimp -zeta -zetaHave only | lift_lets -underBinder | split

def State.seeing_may : Nat :=
  may .AMAX ||| may .BOOST_CURRENT ||| may .BOOST_MODE ||| may .CATCHUP ||| may .DMAX ||| may .ENGAGE_MODE ||| may .EX_LOAD_MIN |||
  may .EX_RETURN ||| may .EX_TOL ||| may .EX_TRAVEL ||| may .HOLD_CURRENT ||| may .HOLD_DELAY ||| may .HOLD_RAMP ||| may
  .HOME_BACKOFF ||| may .HOME_PRESET ||| may .HOME_SEARCH_DIST ||| may .JMAX ||| may .LAG_MAX ||| may .LEARN_FIRST ||| may
  .LEARN_SPEED ||| may .LEARN_STEPS ||| may .LIMIT_REACTION ||| may .LOSS_REACTION ||| may .RUN_CURRENT ||| may .VEL_WINDOW ||| may
  .VMAX ||| may .discPend ||| may .flushPend ||| may .limNew ||| may .stopPend ||| may .tgtPend ||| may .tgtVal
theorem seeing_keeps {M : Nat} {S0 : State} {s : State} (n : Nat) (f : State → State) (gs : Keeps M S0 s)
    (gm : State.seeing_may &&& M = State.seeing_may := by decide +kernel) (hf : ∀ s, Keeps M S0 s → Keeps M S0 (f s)) :
    Keeps M S0 (State.seeing s n f) := by
  have hl : ∀ p ∈ s.late n, may p.1 &&& M = may p.1 := by
    have at1 : ∀ (a : Reg) (k : Nat) (l : List Reg) (p : Reg × Nat), p ∈ (if s.rdN a k = s.now then l.map (fun r => (r, n)) else []) → p.1 ∈ l := by
      intro a k l p h
      split at h
      · obtain ⟨r, hr, rfl⟩ := List.mem_map.mp h; exact hr
      · cases h
    have all1 : ∀ r ∈ ([.stopPend, .tgtPend, .tgtVal, .flushPend, .discPend, .VMAX, .AMAX, .DMAX, .JMAX, .LEARN_SPEED] : List Reg),
        may r &&& State.seeing_may = may r := by decide +kernel
    have all2 : ∀ r ∈ stepObjects, may r &&& State.seeing_may = may r := by decide +kernel
    intro p h
    refine may_trans gm ?_
    simp only [State.late, List.mem_append, List.mem_filter] at h
    rcases h with (((((((h | h) | h) | h) | h) | h) | h) | h) | ⟨h | h, -⟩
    all_goals first
      | (have h := at1 _ _ _ _ h; refine all1 _ ?_; simp only [List.mem_cons, List.not_mem_nil, or_false] at h; (first | (rw [h]; decide) | (rcases h with h | h <;> (rw [h]; decide))))
      | (obtain ⟨r, hr, rfl⟩ := List.mem_map.mp h; exact all2 _ hr)
      | (obtain ⟨k, -, rfl⟩ := List.mem_map.mp h; exact all1 _ (by simp))
  have fold : ∀ (l : List (Reg × Nat)) (g : Reg × Nat → Int) (t : State), (∀ p ∈ l, may p.1 &&& M = may p.1) → Keeps M S0 t →
      Keeps M S0 (l.foldl (fun (v : State) p => v.wr p.1 p.2 (g p)) t) := by
    intro l g
    induction l with
    | nil => intro t _ h; exact h
    | cons p l ih => intro t hp h; exact ih _ (fun q hq => hp q (List.mem_cons_of_mem _ hq)) (keeps_wr h _ _ _ (hp p List.mem_cons_self))
  have bits : ∀ (l : List Nat) (g : Nat → Bool) (t : State), Keeps M S0 t → Keeps M S0 (l.foldl (fun (v : State) k => v.wrBit .limNew n k (g k)) t) :=
    fun l g t h => keeps_foldl h (fun _ _ h => wrBit_keeps _ _ _ _ h (may_trans gm (by decide +kernel)))
  exact bits _ _ _ (fold _ _ _ hl (hf _ (bits _ _ _ (fold _ _ _ hl gs))))

def State.plannerStep_may : Nat :=
  may .incHeld ||| may .limSeen ||| may .stampProfile ||| State.advance_may ||| State.formGear_may ||| State.writeAmplitude_may |||
  State.dropStep_may ||| State.followStep_may ||| State.idleInputs_may ||| State.moveStep_may
theorem plannerStep_keeps {M : Nat} {S0 : State} {s : State} (n : Nat) (gs : Keeps M S0 s) (gm : State.plannerStep_may &&& M = State.plannerStep_may := by decide +kernel) :
    Keeps M S0 (State.plannerStep s n) := by
  unfold State.plannerStep
  repeat' first
    | with_reducible assumption
    | (intro x; refine keeps_cut (m := M) (s0 := S0) (x := x) ?_ ?_; all_goals first | (intro hx; clear_value x) | subst x)
    | (intro x; clear_value x)
    | intro _
    | with_reducible exact may_trans gm (by decide +kernel)
    | with_reducible apply keeps_ite | with_reducible apply keeps_iff | with_reducible apply advance_keeps
    | with_reducible apply formGear_keeps | with_reducible apply writeAmplitude_keeps | with_reducible apply dropStep_keeps
    | with_reducible apply followStep_keeps | with_reducible apply idleInputs_keeps | with_reducible apply moveStep_keeps
    | with_reducible apply keeps_wr | dsimp -zeta -zetaHave only | lift_lets -underBinder | split

def State.profile_may : Nat :=
  State.seeing_may ||| State.plannerStep_may
theorem profile_keeps {M : Nat} {S0 : State} {s : State} (n : Nat) (gs : Keeps M S0 s) (gm : State.profile_may &&& M = State.profile_may := by decide +kernel) :
    Keeps M S0 (State.profile s n) := by
  unfold State.profile
  repeat' first
    | with_reducible assumption
    | (intro x; refine keeps_cut (m := M) (s0 := S0) (x := x) ?_ ?_; all_goals first | (intro hx; clear_value x) | subst x)
    | (intro x; clear_value x)
    | intro _
    | with_reducible exact may_trans gm (by decide +kernel)
    | with_reducible apply keeps_ite | with_reducible apply seeing_keeps | with_reducible apply plannerStep_keeps
    | dsimp -zeta -zetaHave only | lift_lets -underBinder | split

def State.profileSlot_may : Nat :=
  State.builtin_may ||| State.profile_may
theorem profileSlot_keeps {M : Nat} {S0 : State} {s : State} (n : Nat) (m : SlotIn) (gs : Keeps M S0 s) (gm : State.profileSlot_may &&& M = State.profileSlot_may := by decide +kernel) :
    Keeps M S0 (State.profileSlot s n m) := by
  unfold State.profileSlot
  repeat' first
    | with_reducible assumption | intro _
    | with_reducible exact may_trans gm (by decide +kernel)
    | with_reducible apply keeps_ite | with_reducible apply builtin_keeps | with_reducible apply profile_keeps
    | dsimp -zeta -zetaHave only | split

def execProfileStep_may : Nat :=
  State.at_may ||| State.profileSlot_may
theorem execProfileStep_keeps {M : Nat} {S0 : State} (t : Nat) (n : Fin 64) (m : SlotIn) {s : State} (gs : Keeps M S0 s) (gm : execProfileStep_may &&& M = execProfileStep_may := by decide +kernel) :
    KeepsO M S0 (execProfileStep t n m s) := by
  unfold execProfileStep
  repeat' first
    | with_reducible assumption | intro _
    | with_reducible exact may_trans gm (by decide +kernel)
    | with_reducible apply keeps_ite | with_reducible apply at_keeps | with_reducible apply profileSlot_keeps
    | with_reducible apply keepsO_next | with_reducible apply keepsO_ite
    | exact keepsO_fault
    | dsimp -zeta -zetaHave only

def State.takeIf_may : Nat :=
  State.profileSlot_may
theorem takeIf_keeps {M : Nat} {S0 : State} {s : State} (n : Nat) (p : Move → Bool) (gs : Keeps M S0 s) (gm : State.takeIf_may &&& M = State.takeIf_may := by decide +kernel) :
    Keeps M S0 (State.takeIf s n p) := by
  unfold State.takeIf
  repeat' first
    | with_reducible assumption | intro _
    | with_reducible exact may_trans gm (by decide +kernel)
    | with_reducible apply keeps_ite | with_reducible apply profileSlot_keeps | dsimp -zeta -zetaHave only | split

def execAbs_may : Nat :=
  State.at_may ||| State.takeIf_may
theorem execAbs_keeps {M : Nat} {S0 : State} (t : Nat) (n : Fin 64) {s : State} (gs : Keeps M S0 s) (gm : execAbs_may &&& M = execAbs_may := by decide +kernel) :
    KeepsO M S0 (execAbs t n s) := by
  unfold execAbs
  repeat' first
    | with_reducible assumption | intro _
    | with_reducible exact may_trans gm (by decide +kernel)
    | with_reducible apply keeps_ite | with_reducible apply at_keeps | with_reducible apply takeIf_keeps
    | with_reducible apply keepsO_next | with_reducible apply keepsO_ite
    | exact keepsO_fault
    | dsimp -zeta -zetaHave only | split

def execRel_may : Nat :=
  State.at_may ||| State.takeIf_may
theorem execRel_keeps {M : Nat} {S0 : State} (t : Nat) (n : Fin 64) {s : State} (gs : Keeps M S0 s) (gm : execRel_may &&& M = execRel_may := by decide +kernel) :
    KeepsO M S0 (execRel t n s) := by
  unfold execRel
  repeat' first
    | with_reducible assumption | intro _
    | with_reducible exact may_trans gm (by decide +kernel)
    | with_reducible apply keeps_ite | with_reducible apply at_keeps | with_reducible apply takeIf_keeps
    | with_reducible apply keepsO_next | with_reducible apply keepsO_ite
    | exact keepsO_fault
    | dsimp -zeta -zetaHave only | split

def execVel_may : Nat :=
  State.at_may ||| State.takeIf_may
theorem execVel_keeps {M : Nat} {S0 : State} (t : Nat) (n : Fin 64) {s : State} (gs : Keeps M S0 s) (gm : execVel_may &&& M = execVel_may := by decide +kernel) :
    KeepsO M S0 (execVel t n s) := by
  unfold execVel
  repeat' first
    | with_reducible assumption | intro _
    | with_reducible exact may_trans gm (by decide +kernel)
    | with_reducible apply keeps_ite | with_reducible apply at_keeps | with_reducible apply takeIf_keeps
    | with_reducible apply keepsO_next | with_reducible apply keepsO_ite
    | exact keepsO_fault
    | dsimp -zeta -zetaHave only | split

def execDwell_may : Nat :=
  State.at_may ||| State.takeIf_may
theorem execDwell_keeps {M : Nat} {S0 : State} (t : Nat) (n : Fin 64) {s : State} (gs : Keeps M S0 s) (gm : execDwell_may &&& M = execDwell_may := by decide +kernel) :
    KeepsO M S0 (execDwell t n s) := by
  unfold execDwell
  repeat' first
    | with_reducible assumption | intro _
    | with_reducible exact may_trans gm (by decide +kernel)
    | with_reducible apply keeps_ite | with_reducible apply at_keeps | with_reducible apply takeIf_keeps
    | with_reducible apply keepsO_next | with_reducible apply keepsO_ite
    | exact keepsO_fault
    | dsimp -zeta -zetaHave only | split

def execWait_may : Nat :=
  State.at_may ||| State.takeIf_may
theorem execWait_keeps {M : Nat} {S0 : State} (t : Nat) (n : Fin 64) {s : State} (gs : Keeps M S0 s) (gm : execWait_may &&& M = execWait_may := by decide +kernel) :
    KeepsO M S0 (execWait t n s) := by
  unfold execWait
  repeat' first
    | with_reducible assumption | intro _
    | with_reducible exact may_trans gm (by decide +kernel)
    | with_reducible apply keeps_ite | with_reducible apply at_keeps | with_reducible apply takeIf_keeps
    | with_reducible apply keepsO_next | with_reducible apply keepsO_ite
    | exact keepsO_fault
    | dsimp -zeta -zetaHave only | split

def execSetLimits_may : Nat :=
  State.at_may ||| State.takeIf_may
theorem execSetLimits_keeps {M : Nat} {S0 : State} (t : Nat) (n : Fin 64) {s : State} (gs : Keeps M S0 s) (gm : execSetLimits_may &&& M = execSetLimits_may := by decide +kernel) :
    KeepsO M S0 (execSetLimits t n s) := by
  unfold execSetLimits
  repeat' first
    | with_reducible assumption | intro _
    | with_reducible exact may_trans gm (by decide +kernel)
    | with_reducible apply keeps_ite | with_reducible apply at_keeps | with_reducible apply takeIf_keeps
    | with_reducible apply keepsO_next | with_reducible apply keepsO_ite
    | exact keepsO_fault
    | dsimp -zeta -zetaHave only | split

def execSetCurrents_may : Nat :=
  State.at_may ||| State.takeIf_may
theorem execSetCurrents_keeps {M : Nat} {S0 : State} (t : Nat) (n : Fin 64) {s : State} (gs : Keeps M S0 s) (gm : execSetCurrents_may &&& M = execSetCurrents_may := by decide +kernel) :
    KeepsO M S0 (execSetCurrents t n s) := by
  unfold execSetCurrents
  repeat' first
    | with_reducible assumption | intro _
    | with_reducible exact may_trans gm (by decide +kernel)
    | with_reducible apply keeps_ite | with_reducible apply at_keeps | with_reducible apply takeIf_keeps
    | with_reducible apply keepsO_next | with_reducible apply keepsO_ite
    | exact keepsO_fault
    | dsimp -zeta -zetaHave only | split

def execCall_may : Nat :=
  State.at_may ||| State.takeIf_may
theorem execCall_keeps {M : Nat} {S0 : State} (t : Nat) (n : Fin 64) {s : State} (gs : Keeps M S0 s) (gm : execCall_may &&& M = execCall_may := by decide +kernel) :
    KeepsO M S0 (execCall t n s) := by
  unfold execCall
  repeat' first
    | with_reducible assumption | intro _
    | with_reducible exact may_trans gm (by decide +kernel)
    | with_reducible apply keeps_ite | with_reducible apply at_keeps | with_reducible apply takeIf_keeps
    | with_reducible apply keepsO_next | with_reducible apply keepsO_ite
    | exact keepsO_fault
    | dsimp -zeta -zetaHave only | split

def execHomeHere_may : Nat :=
  State.at_may ||| State.takeIf_may
theorem execHomeHere_keeps {M : Nat} {S0 : State} (t : Nat) (n : Fin 64) {s : State} (gs : Keeps M S0 s) (gm : execHomeHere_may &&& M = execHomeHere_may := by decide +kernel) :
    KeepsO M S0 (execHomeHere t n s) := by
  unfold execHomeHere
  repeat' first
    | with_reducible assumption | intro _
    | with_reducible exact may_trans gm (by decide +kernel)
    | with_reducible apply keeps_ite | with_reducible apply at_keeps | with_reducible apply takeIf_keeps
    | with_reducible apply keepsO_next | with_reducible apply keepsO_ite
    | exact keepsO_fault
    | dsimp -zeta -zetaHave only | split

def execHomeEndStop_may : Nat :=
  State.at_may ||| State.takeIf_may
theorem execHomeEndStop_keeps {M : Nat} {S0 : State} (t : Nat) (n : Fin 64) {s : State} (gs : Keeps M S0 s) (gm : execHomeEndStop_may &&& M = execHomeEndStop_may := by decide +kernel) :
    KeepsO M S0 (execHomeEndStop t n s) := by
  unfold execHomeEndStop
  repeat' first
    | with_reducible assumption | intro _
    | with_reducible exact may_trans gm (by decide +kernel)
    | with_reducible apply keeps_ite | with_reducible apply at_keeps | with_reducible apply takeIf_keeps
    | with_reducible apply keepsO_next | with_reducible apply keepsO_ite
    | exact keepsO_fault
    | dsimp -zeta -zetaHave only | split

def execHomeLimitInput_may : Nat :=
  State.at_may ||| State.takeIf_may
theorem execHomeLimitInput_keeps {M : Nat} {S0 : State} (t : Nat) (n : Fin 64) {s : State} (gs : Keeps M S0 s) (gm : execHomeLimitInput_may &&& M = execHomeLimitInput_may := by decide +kernel) :
    KeepsO M S0 (execHomeLimitInput t n s) := by
  unfold execHomeLimitInput
  repeat' first
    | with_reducible assumption | intro _
    | with_reducible exact may_trans gm (by decide +kernel)
    | with_reducible apply keeps_ite | with_reducible apply at_keeps | with_reducible apply takeIf_keeps
    | with_reducible apply keepsO_next | with_reducible apply keepsO_ite
    | exact keepsO_fault
    | dsimp -zeta -zetaHave only | split

def execHomeLimitOrEndStop_may : Nat :=
  State.at_may ||| State.takeIf_may
theorem execHomeLimitOrEndStop_keeps {M : Nat} {S0 : State} (t : Nat) (n : Fin 64) {s : State} (gs : Keeps M S0 s) (gm : execHomeLimitOrEndStop_may &&& M = execHomeLimitOrEndStop_may := by decide +kernel) :
    KeepsO M S0 (execHomeLimitOrEndStop t n s) := by
  unfold execHomeLimitOrEndStop
  repeat' first
    | with_reducible assumption | intro _
    | with_reducible exact may_trans gm (by decide +kernel)
    | with_reducible apply keeps_ite | with_reducible apply at_keeps | with_reducible apply takeIf_keeps
    | with_reducible apply keepsO_next | with_reducible apply keepsO_ite
    | exact keepsO_fault
    | dsimp -zeta -zetaHave only | split

def execHomeExerciseRun_may : Nat :=
  State.at_may ||| State.takeIf_may
theorem execHomeExerciseRun_keeps {M : Nat} {S0 : State} (t : Nat) (n : Fin 64) {s : State} (gs : Keeps M S0 s) (gm : execHomeExerciseRun_may &&& M = execHomeExerciseRun_may := by decide +kernel) :
    KeepsO M S0 (execHomeExerciseRun t n s) := by
  unfold execHomeExerciseRun
  repeat' first
    | with_reducible assumption | intro _
    | with_reducible exact may_trans gm (by decide +kernel)
    | with_reducible apply keeps_ite | with_reducible apply at_keeps | with_reducible apply takeIf_keeps
    | with_reducible apply keepsO_next | with_reducible apply keepsO_ite
    | exact keepsO_fault
    | dsimp -zeta -zetaHave only | split

def State.releaseNow_may : Nat :=
  may .RELEASE_UNSYNC ||| may .relFrom ||| State.count_may ||| State.dropRelease_may ||| State.checkSync_may |||
  State.beginMoving_may
theorem releaseNow_keeps {M : Nat} {S0 : State} {s : State} (n : Nat) (gs : Keeps M S0 s) (gm : State.releaseNow_may &&& M = State.releaseNow_may := by decide +kernel) :
    Keeps M S0 (State.releaseNow s n) := by
  unfold State.releaseNow
  repeat' first
    | with_reducible assumption
    | (intro x; refine keeps_cut (m := M) (s0 := S0) (x := x) ?_ ?_; all_goals first | (intro hx; clear_value x) | subst x)
    | (intro x; clear_value x)
    | intro _
    | with_reducible exact may_trans gm (by decide +kernel)
    | with_reducible apply keeps_ite | with_reducible apply keeps_iff | with_reducible apply count_keeps
    | with_reducible apply dropRelease_keeps | with_reducible apply checkSync_keeps | with_reducible apply beginMoving_keeps
    | with_reducible apply keeps_wr | dsimp -zeta -zetaHave only | lift_lets -underBinder | split

def execReleaseStart_may : Nat :=
  State.at_may ||| State.releaseNow_may
theorem execReleaseStart_keeps {M : Nat} {S0 : State} (t : Nat) (n : Fin 64) {s : State} (gs : Keeps M S0 s) (gm : execReleaseStart_may &&& M = execReleaseStart_may := by decide +kernel) :
    KeepsO M S0 (execReleaseStart t n s) := by
  unfold execReleaseStart
  repeat' first
    | with_reducible assumption
    | (intro x; refine keeps_cut (m := M) (s0 := S0) (x := x) ?_ ?_; all_goals first | (intro hx; clear_value x) | subst x)
    | (intro x; clear_value x)
    | intro _
    | with_reducible exact may_trans gm (by decide +kernel)
    | with_reducible apply keeps_ite | with_reducible apply at_keeps | with_reducible apply releaseNow_keeps
    | with_reducible apply keepsO_next | with_reducible apply keepsO_ite
    | exact keepsO_fault
    | dsimp -zeta -zetaHave only | lift_lets -underBinder | split

end Sys2Proof.Machine
end

