-- ==== Sys2Proof/Laws/KeepsUnits.lean ====
section
/-! SUPPORT. One lemma per operation: all that it may change, that the waiting commands stay, and that the canonical form is kept. Here:
converters, programs, engines, supplies, the log writer and the fabric. `X_may` is the mask of what the operation `X` may change. -/
namespace Sys2Proof.Machine

set_option Elab.async false
set_option linter.unusedTactic false
set_option linter.unreachableTactic false

-- Convert.lean

def State.cvBegin_may : Nat :=
  may .cvCur ||| may .cvEnt ||| may .cvFrom ||| may .cvPos
theorem cvBegin_keeps {M : Nat} {S0 : State} {s : State} (c kind ent at' : Nat) (gs : Keeps M S0 s) (gm : State.cvBegin_may &&& M = State.cvBegin_may := by decide +kernel) :
    Keeps M S0 (State.cvBegin s c kind ent at') := by
  unfold State.cvBegin
  repeat' first
    | with_reducible assumption
    | (intro x; refine keeps_cut (m := M) (s0 := S0) (x := x) ?_ ?_; all_goals first | (intro hx; clear_value x) | subst x)
    | (intro x; clear_value x)
    | intro _
    | with_reducible exact may_trans gm (by decide +kernel)
    | with_reducible apply keeps_ite | with_reducible apply keeps_wr | dsimp -zeta -zetaHave only | lift_lets -underBinder | split

def State.cvNext_may : Nat :=
  may .cvCur ||| State.cvBegin_may
theorem cvNext_keeps {M : Nat} {S0 : State} {s : State} (c at' : Nat) (gs : Keeps M S0 s) (gm : State.cvNext_may &&& M = State.cvNext_may := by decide +kernel) :
    Keeps M S0 (State.cvNext s c at') := by
  unfold State.cvNext
  repeat' first
    | with_reducible assumption
    | (intro x; refine keeps_cut (m := M) (s0 := S0) (x := x) ?_ ?_; all_goals first | (intro hx; clear_value x) | subst x)
    | (intro x; clear_value x)
    | intro _
    | with_reducible exact may_trans gm (by decide +kernel)
    | with_reducible apply keeps_ite | with_reducible apply cvBegin_keeps | with_reducible apply keeps_wr | dsimp -zeta -zetaHave only
    | lift_lets -underBinder | split

def State.startSeq_may : Nat :=
  may .cvPos ||| may .seqEnd ||| may .seqStart ||| may .trigHeld ||| State.cvNext_may
theorem startSeq_keeps {M : Nat} {S0 : State} {s : State} (at' : Nat) (gs : Keeps M S0 s) (gm : State.startSeq_may &&& M = State.startSeq_may := by decide +kernel) :
    Keeps M S0 (State.startSeq s at') := by
  unfold State.startSeq
  repeat' first
    | with_reducible assumption
    | (intro x; refine keeps_cut (m := M) (s0 := S0) (x := x) ?_ ?_; all_goals first | (intro hx; clear_value x) | subst x)
    | (intro x; clear_value x)
    | intro _
    | with_reducible exact may_trans gm (by decide +kernel)
    | with_reducible apply keeps_ite | with_reducible apply keeps_forList | with_reducible apply cvNext_keeps
    | with_reducible apply keeps_wr | dsimp -zeta -zetaHave only | lift_lets -underBinder | split

def State.seqCatch_may : Nat :=
  State.startSeq_may
theorem seqCatch_keeps {M : Nat} {S0 : State} {s : State} (gs : Keeps M S0 s) (gm : State.seqCatch_may &&& M = State.seqCatch_may := by decide +kernel) :
    Keeps M S0 (State.seqCatch s) := by
  unfold State.seqCatch
  repeat' first
    | with_reducible assumption | intro _
    | with_reducible exact may_trans gm (by decide +kernel)
    | with_reducible apply keeps_ite | with_reducible apply startSeq_keeps | dsimp -zeta -zetaHave only | split

def State.trigger_may : Nat :=
  may .CV_EVENTS ||| may .TRIG_LATCHED ||| may .TRIG_LOST ||| may .trigHeld ||| State.count_may ||| State.raise_may |||
  State.traceIf_may ||| State.detect_may ||| State.startSeq_may ||| State.seqCatch_may
theorem trigger_keeps {M : Nat} {S0 : State} {s : State} (gs : Keeps M S0 s) (gm : State.trigger_may &&& M = State.trigger_may := by decide +kernel) :
    Keeps M S0 (State.trigger s) := by
  unfold State.trigger
  repeat' first
    | with_reducible assumption
    | (intro x; refine keeps_cut (m := M) (s0 := S0) (x := x) ?_ ?_; all_goals first | (intro hx; clear_value x) | subst x)
    | (intro x; clear_value x)
    | intro _
    | with_reducible exact may_trans gm (by decide +kernel)
    | with_reducible apply keeps_ite | with_reducible apply keeps_forList | with_reducible apply count_keeps
    | with_reducible apply raise_keeps | with_reducible apply traceIf_keeps | with_reducible apply detect_keeps
    | with_reducible apply startSeq_keeps | with_reducible apply seqCatch_keeps | with_reducible apply keeps_wr
    | dsimp -zeta -zetaHave only | lift_lets -underBinder | split

def execConversionTrigger_may : Nat :=
  State.at_may ||| State.trigger_may
theorem execConversionTrigger_keeps {M : Nat} {S0 : State} (t : Nat) {s : State} (gs : Keeps M S0 s) (gm : execConversionTrigger_may &&& M = execConversionTrigger_may := by decide +kernel) :
    KeepsO M S0 (execConversionTrigger t s) := by
  unfold execConversionTrigger
  repeat' first
    | with_reducible assumption
    | (intro x; refine keeps_cut (m := M) (s0 := S0) (x := x) ?_ ?_; all_goals first | (intro hx; clear_value x) | subst x)
    | (intro x; clear_value x)
    | intro _
    | with_reducible exact may_trans gm (by decide +kernel)
    | with_reducible apply keeps_ite | with_reducible apply at_keeps | with_reducible apply trigger_keeps
    | with_reducible apply keepsO_next | with_reducible apply keepsO_ite
    | exact keepsO_fault
    | dsimp -zeta -zetaHave only | lift_lets -underBinder | split

def execSyncInputEdge_may : Nat :=
  may .SYNC_EDGES ||| may .SYNC_IN_DEVICE ||| may .SYNC_IN_RING ||| State.count_may ||| State.at_may ||| State.trigger_may
theorem execSyncInputEdge_keeps {M : Nat} {S0 : State} (t : Nat) {s : State} (gs : Keeps M S0 s) (gm : execSyncInputEdge_may &&& M = execSyncInputEdge_may := by decide +kernel) :
    KeepsO M S0 (execSyncInputEdge t s) := by
  unfold execSyncInputEdge
  repeat' first
    | with_reducible assumption
    | (intro x; refine keeps_cut (m := M) (s0 := S0) (x := x) ?_ ?_; all_goals first | (intro hx; clear_value x) | subst x)
    | (intro x; clear_value x)
    | intro _
    | with_reducible exact may_trans gm (by decide +kernel)
    | with_reducible apply keeps_ite | with_reducible apply count_keeps | with_reducible apply at_keeps
    | with_reducible apply trigger_keeps | with_reducible apply keeps_wr | with_reducible apply keepsO_next
    | with_reducible apply keepsO_ite
    | exact keepsO_fault
    | dsimp -zeta -zetaHave only | lift_lets -underBinder | split

def State.askUrgent_may : Nat :=
  may .cvPos ||| may .cvUrg ||| State.cvNext_may ||| State.seqCatch_may
theorem askUrgent_keeps {M : Nat} {S0 : State} {s : State} (c v : Nat) (gs : Keeps M S0 s) (gm : State.askUrgent_may &&& M = State.askUrgent_may := by decide +kernel) :
    Keeps M S0 (State.askUrgent s c v) := by
  unfold State.askUrgent
  repeat' first
    | with_reducible assumption
    | (intro x; refine keeps_cut (m := M) (s0 := S0) (x := x) ?_ ?_; all_goals first | (intro hx; clear_value x) | subst x)
    | (intro x; clear_value x)
    | intro _
    | with_reducible exact may_trans gm (by decide +kernel)
    | with_reducible apply keeps_ite | with_reducible apply cvNext_keeps | with_reducible apply seqCatch_keeps
    | with_reducible apply keeps_wr | dsimp -zeta -zetaHave only | lift_lets -underBinder | split

def State.voidPoint_may : Nat :=
  may .CAL_STATUS ||| may .CV_STATE ||| may .calBusy ||| may .calHave
theorem voidPoint_keeps {M : Nat} {S0 : State} {s : State} (gs : Keeps M S0 s) (gm : State.voidPoint_may &&& M = State.voidPoint_may := by decide +kernel) :
    Keeps M S0 (State.voidPoint s) := by
  unfold State.voidPoint
  repeat' first
    | with_reducible assumption
    | (intro x; refine keeps_cut (m := M) (s0 := S0) (x := x) ?_ ?_; all_goals first | (intro hx; clear_value x) | subst x)
    | (intro x; clear_value x)
    | intro _
    | with_reducible exact may_trans gm (by decide +kernel)
    | with_reducible apply keeps_ite | with_reducible apply wrBit_keeps | with_reducible apply keeps_wr | dsimp -zeta -zetaHave only
    | lift_lets -underBinder | split

def State.cvRejoin_may : Nat :=
  may .CV_STATE ||| may .cvCur ||| may .cvPos ||| State.cvNext_may
theorem cvRejoin_keeps {M : Nat} {S0 : State} {s : State} (c : Nat) (gs : Keeps M S0 s) (gm : State.cvRejoin_may &&& M = State.cvRejoin_may := by decide +kernel) :
    Keeps M S0 (State.cvRejoin s c) := by
  unfold State.cvRejoin
  repeat' first
    | with_reducible assumption
    | (intro x; refine keeps_cut (m := M) (s0 := S0) (x := x) ?_ ?_; all_goals first | (intro hx; clear_value x) | subst x)
    | (intro x; clear_value x)
    | intro _
    | with_reducible exact may_trans gm (by decide +kernel)
    | with_reducible apply keeps_ite | with_reducible apply cvNext_keeps | with_reducible apply keeps_wr | dsimp -zeta -zetaHave only
    | lift_lets -underBinder

def State.cvContain_may : Nat :=
  may .CV_EVENTS ||| may .CV_STATE ||| may .cvCur ||| may .cvUrg ||| State.raise_may ||| State.detect_may ||| State.voidPoint_may
theorem cvContain_keeps {M : Nat} {S0 : State} {s : State} (c k b : Nat) (gs : Keeps M S0 s) (gm : State.cvContain_may &&& M = State.cvContain_may := by decide +kernel) :
    Keeps M S0 (State.cvContain s c k b) := by
  unfold State.cvContain
  repeat' first
    | with_reducible assumption
    | (intro x; refine keeps_cut (m := M) (s0 := S0) (x := x) ?_ ?_; all_goals first | (intro hx; clear_value x) | subst x)
    | (intro x; clear_value x)
    | intro _
    | with_reducible exact may_trans gm (by decide +kernel)
    | with_reducible apply keeps_ite | with_reducible apply raise_keeps | with_reducible apply detect_keeps
    | with_reducible apply voidPoint_keeps | with_reducible apply keeps_wr | dsimp -zeta -zetaHave only | lift_lets -underBinder | split

def State.captureHeld_may : Nat :=
  may .CAPTURE_DROPS ||| State.count_may ||| State.push_may
theorem captureHeld_keeps {M : Nat} {S0 : State} {s : State} (c : Nat) (ovr : Bool) (gs : Keeps M S0 s) (gm : State.captureHeld_may &&& M = State.captureHeld_may := by decide +kernel) :
    Keeps M S0 (State.captureHeld s c ovr) := by
  unfold State.captureHeld
  repeat' first
    | with_reducible assumption
    | refine keeps_fst (by with_reducible assumption) ?_
    | refine keeps_snd (by with_reducible assumption) ?_
    | (intro x; refine keeps_cut (m := M) (s0 := S0) (x := x) ?_ ?_; all_goals first | (intro hx; clear_value x) | subst x)
    | (intro x; clear_value x)
    | intro _
    | with_reducible exact may_trans gm (by decide +kernel)
    | with_reducible apply keeps_ite | with_reducible apply count_keeps | with_reducible apply push_keeps | dsimp -zeta -zetaHave only
    | lift_lets -underBinder | split

def State.wr16_may : Nat :=
  State.draw_may
theorem wr16_keeps {M : Nat} {S0 : State} {s : State} (r : Reg) (i : Nat) (v : Int) (gs : Keeps M S0 s) (gm : State.wr16_may &&& M = State.wr16_may := by decide +kernel) (gr : may r &&& M = may r := by decide +kernel) :
    Keeps M S0 (State.wr16 s r i v) := by
  unfold State.wr16
  repeat' first
    | with_reducible assumption
    | refine keeps_fst (by with_reducible assumption) ?_
    | refine keeps_snd (by with_reducible assumption) ?_
    | intro _
    | with_reducible exact may_trans gm (by decide +kernel)
    | with_reducible apply keeps_ite | with_reducible apply draw_keeps | with_reducible apply keeps_wr | dsimp -zeta -zetaHave only
    | split

def State.groundCheck_may : Nat :=
  may .GROUND_FAILS ||| may .gndRun ||| State.count_may ||| State.cvContain_may
theorem groundCheck_keeps {M : Nat} {S0 : State} {s : State} (c : Nat) (v : Int) (gs : Keeps M S0 s) (gm : State.groundCheck_may &&& M = State.groundCheck_may := by decide +kernel) :
    Keeps M S0 (State.groundCheck s c v) := by
  unfold State.groundCheck
  repeat' first
    | with_reducible assumption
    | (intro x; refine keeps_cut (m := M) (s0 := S0) (x := x) ?_ ?_; all_goals first | (intro hx; clear_value x) | subst x)
    | (intro x; clear_value x)
    | intro _
    | with_reducible exact may_trans gm (by decide +kernel)
    | with_reducible apply keeps_ite | with_reducible apply count_keeps | with_reducible apply cvContain_keeps
    | with_reducible apply keeps_wr | dsimp -zeta -zetaHave only | lift_lets -underBinder | split

def State.takeCurrent_may : Nat :=
  State.takeError_may ||| State.takeSlope_may
theorem takeCurrent_keeps {M : Nat} {S0 : State} {s : State} (c input : Nat) (cur : Int) (gs : Keeps M S0 s) (gm : State.takeCurrent_may &&& M = State.takeCurrent_may := by decide +kernel) :
    Keeps M S0 (State.takeCurrent s c input cur) := by
  unfold State.takeCurrent
  repeat' first
    | with_reducible assumption
    | (intro x; refine keeps_cut (m := M) (s0 := S0) (x := x) ?_ ?_; all_goals first | (intro hx; clear_value x) | subst x)
    | (intro x; clear_value x)
    | intro _
    | with_reducible exact may_trans gm (by decide +kernel)
    | with_reducible apply keeps_ite | with_reducible apply takeError_keeps | with_reducible apply takeSlope_keeps
    | dsimp -zeta -zetaHave only | lift_lets -underBinder | split

def State.deliver_may : Nat :=
  may .BUS_TAP ||| may .DIE_TEMP ||| may .DIE_TEMP_MAX ||| State.takeBus_may ||| State.wr16_may ||| State.groundCheck_may |||
  State.takeCurrent_may
theorem deliver_keeps {M : Nat} {S0 : State} {s : State} (c : Nat) (gs : Keeps M S0 s) (gm : State.deliver_may &&& M = State.deliver_may := by decide +kernel) :
    Keeps M S0 (State.deliver s c).2 := by
  unfold State.deliver
  repeat' first
    | with_reducible assumption
    | (intro x; refine keeps_cut (m := M) (s0 := S0) (x := x) ?_ ?_; all_goals first | (intro hx; clear_value x) | subst x)
    | (intro x; clear_value x)
    | intro _
    | with_reducible exact may_trans gm (by decide +kernel)
    | with_reducible apply keeps_ite | with_reducible apply keeps_ite1 | with_reducible apply keeps_ite2
    | with_reducible apply keepMax_keeps | with_reducible apply takeBus_keeps | with_reducible apply wr16_keeps
    | with_reducible apply groundCheck_keeps | with_reducible apply takeCurrent_keeps | with_reducible apply keeps_wr
    | dsimp -zeta -zetaHave only | lift_lets -underBinder | split

def State.startRun_may : Nat :=
  may_runs ||| mayAll
theorem startRun_keeps {M : Nat} {S0 : State} {s : State} (u : Nat) (p : Prog) (ctx slot : Nat) (regs : List Word32) (gs : Keeps M S0 s) (gm : State.startRun_may &&& M = State.startRun_may := by decide +kernel) :
    Keeps M S0 (State.startRun s u p ctx slot regs) := by
  unfold State.startRun
  repeat' first
    | with_reducible assumption
    | (intro x; refine keeps_cut (m := M) (s0 := S0) (x := x) ?_ ?_; all_goals first | (intro hx; clear_value x) | subst x)
    | (intro x; clear_value x)
    | intro _
    | with_reducible exact may_trans gm (by decide +kernel)
    | with_reducible apply keeps_ite
    | with_reducible exact Tbl.wf_nil
    | with_reducible apply Tbl.wf_tset | with_reducible apply Tbl.wf_filter | with_reducible apply Tbl.wf_tmap
    | with_reducible refine (Keeps.can (m := M) (s := S0) ?_ (by assumption)).runs | dsimp -zeta -zetaHave only | lift_lets -underBinder
    | with_reducible apply keeps_regs | with_reducible apply keeps_runs

def State.harvest_may : Nat :=
  may .HARVEST_MAX ||| may .hdFull ||| may .hvFree ||| State.captureHeld_may ||| State.deliver_may ||| State.startRun_may
theorem harvest_keeps {M : Nat} {S0 : State} {s : State} (c : Nat) (gs : Keeps M S0 s) (gm : State.harvest_may &&& M = State.harvest_may := by decide +kernel) :
    Keeps M S0 (State.harvest s c) := by
  unfold State.harvest
  repeat' first
    | with_reducible assumption
    | refine keeps_fst (by with_reducible assumption) ?_
    | refine keeps_snd (by with_reducible assumption) ?_
    | (intro x; refine keeps_cut (m := M) (s0 := S0) (x := x) ?_ ?_; all_goals first | (intro hx; clear_value x) | subst x)
    | (intro x; clear_value x)
    | intro _
    | with_reducible exact may_trans gm (by decide +kernel)
    | with_reducible apply keeps_ite | with_reducible apply keepMax_keeps | with_reducible apply captureHeld_keeps
    | with_reducible apply deliver_keeps | with_reducible apply startRun_keeps | with_reducible apply keeps_wr
    | dsimp -zeta -zetaHave only | lift_lets -underBinder | split

def execHarvest_may : Nat :=
  State.at_may ||| State.harvest_may
theorem execHarvest_keeps {M : Nat} {S0 : State} (t : Nat) (c : Fin 16) {s : State} (gs : Keeps M S0 s) (gm : execHarvest_may &&& M = execHarvest_may := by decide +kernel) :
    KeepsO M S0 (execHarvest t c s) := by
  unfold execHarvest
  repeat' first
    | with_reducible assumption
    | (intro x; refine keeps_cut (m := M) (s0 := S0) (x := x) ?_ ?_; all_goals first | (intro hx; clear_value x) | subst x)
    | (intro x; clear_value x)
    | intro _
    | with_reducible exact may_trans gm (by decide +kernel)
    | with_reducible apply keeps_ite | with_reducible apply at_keeps | with_reducible apply harvest_keeps
    | with_reducible apply keepsO_next | with_reducible apply keepsO_ite
    | exact keepsO_fault
    | dsimp -zeta -zetaHave only | lift_lets -underBinder | split

def State.overrun_may : Nat :=
  may .CV_EVENTS ||| may .OVERRUNS ||| may .ovrWin ||| State.count_may ||| State.tally_may ||| State.raise_may ||| State.detect_may
  ||| State.cvContain_may ||| State.captureHeld_may
theorem overrun_keeps {M : Nat} {S0 : State} {s : State} (c : Nat) (gs : Keeps M S0 s) (gm : State.overrun_may &&& M = State.overrun_may := by decide +kernel) :
    Keeps M S0 (State.overrun s c) := by
  unfold State.overrun
  repeat' first
    | with_reducible assumption
    | (intro x; refine keeps_cut (m := M) (s0 := S0) (x := x) ?_ ?_; all_goals first | (intro hx; clear_value x) | subst x)
    | (intro x; clear_value x)
    | intro _
    | with_reducible exact may_trans gm (by decide +kernel)
    | with_reducible apply keeps_ite | with_reducible apply count_keeps | with_reducible apply tally_keeps
    | with_reducible apply raise_keeps | with_reducible apply detect_keeps | with_reducible apply cvContain_keeps
    | with_reducible apply captureHeld_keeps | with_reducible apply keeps_wr | dsimp -zeta -zetaHave only | lift_lets -underBinder
    | split

def State.complete_may : Nat :=
  may .CONVERSIONS ||| may .CV_EVENTS ||| may .CV_RESULT ||| may .OOR_COUNT ||| may .RESULT_FLAGS ||| may .SUSPECT_COUNT ||| may
  .URGENT_DONE ||| may .URGENT_FLAGS ||| may .URGENT_RESULT ||| may .cvSusp ||| may .cvUrg ||| may .hdCode ||| may .hdEntry ||| may
  .hdFlags ||| may .hdFull ||| may .hdGain ||| may .hdInput ||| may .hdOff ||| may .hdRef ||| may .hdTag ||| may .hdTime |||
  State.count_may ||| State.raise_may ||| State.traceIf_may ||| State.detect_may ||| State.harvest_may ||| State.overrun_may
theorem complete_keeps {M : Nat} {S0 : State} {s : State} (c : Nat) (code : Int) (gs : Keeps M S0 s) (gm : State.complete_may &&& M = State.complete_may := by decide +kernel) :
    Keeps M S0 (State.complete s c code) := by
  unfold State.complete
  repeat' first
    | with_reducible assumption
    | (intro x; refine keeps_cut (m := M) (s0 := S0) (x := x) ?_ ?_; all_goals first | (intro hx; clear_value x) | subst x)
    | (intro x; clear_value x)
    | intro _
    | with_reducible exact may_trans gm (by decide +kernel)
    | with_reducible apply keeps_ite | with_reducible apply keeps_iff | with_reducible apply count_keeps
    | with_reducible apply raise_keeps | with_reducible apply traceIf_keeps | with_reducible apply detect_keeps
    | with_reducible apply harvest_keeps | with_reducible apply overrun_keeps | with_reducible apply keeps_wr
    | dsimp -zeta -zetaHave only | lift_lets -underBinder | split

def execConversionComplete_may : Nat :=
  State.at_may ||| State.cvNext_may ||| State.seqCatch_may ||| State.complete_may
theorem execConversionComplete_keeps {M : Nat} {S0 : State} (t : Nat) (c : Fin 16) (code : Int) {s : State} (gs : Keeps M S0 s) (gm : execConversionComplete_may &&& M = execConversionComplete_may := by decide +kernel) :
    KeepsO M S0 (execConversionComplete t c code s) := by
  unfold execConversionComplete
  repeat' first
    | with_reducible assumption
    | (intro x; refine keeps_cut (m := M) (s0 := S0) (x := x) ?_ ?_; all_goals first | (intro hx; clear_value x) | subst x)
    | (intro x; clear_value x)
    | intro _
    | with_reducible exact may_trans gm (by decide +kernel)
    | with_reducible apply keeps_ite | with_reducible apply at_keeps | with_reducible apply cvNext_keeps
    | with_reducible apply seqCatch_keeps | with_reducible apply complete_keeps | with_reducible apply keepsO_next
    | with_reducible apply keepsO_ite
    | exact keepsO_fault
    | dsimp -zeta -zetaHave only | lift_lets -underBinder | split

def State.countRun_may : Nat :=
  may .CONVERSIONS ||| may .CV_EVENTS ||| may .OOR_COUNT ||| may .SUSPECT_COUNT ||| may .cvSusp ||| State.count_may |||
  State.raise_may ||| State.detect_may
theorem countRun_keeps {M : Nat} {S0 : State} {s : State} (c : Nat) (l : List Bool) (gs : Keeps M S0 s) (gm : State.countRun_may &&& M = State.countRun_may := by decide +kernel) :
    Keeps M S0 (State.countRun s c l) := by
  unfold State.countRun
  repeat' first
    | with_reducible assumption
    | (intro x; refine keeps_cut (m := M) (s0 := S0) (x := x) ?_ ?_; all_goals first | (intro hx; clear_value x) | subst x)
    | (intro x; clear_value x)
    | intro _
    | with_reducible exact may_trans gm (by decide +kernel)
    | with_reducible apply keeps_ite | with_reducible apply keeps_iff | with_reducible apply count_keeps
    | with_reducible apply raise_keeps | with_reducible apply detect_keeps | with_reducible apply keeps_wr | dsimp -zeta -zetaHave only
    | lift_lets -underBinder | split

def State.startSelfCheck_may : Nat :=
  may .scOn
theorem startSelfCheck_keeps {M : Nat} {S0 : State} {s : State} (c : Nat) (gs : Keeps M S0 s) (gm : State.startSelfCheck_may &&& M = State.startSelfCheck_may := by decide +kernel) :
    Keeps M S0 (State.startSelfCheck s c) := by
  unfold State.startSelfCheck
  repeat' first
    | with_reducible assumption
    | (intro x; refine keeps_cut (m := M) (s0 := S0) (x := x) ?_ ?_; all_goals first | (intro hx; clear_value x) | subst x)
    | (intro x; clear_value x)
    | intro _
    | with_reducible exact may_trans gm (by decide +kernel)
    | with_reducible apply keeps_ite | with_reducible apply keeps_wr | dsimp -zeta -zetaHave only | lift_lets -underBinder

def execCvSelfCheckDone_may : Nat :=
  may .gndRun ||| may .scOn ||| State.at_may ||| State.endCause_may ||| State.cvRejoin_may ||| State.groundCheck_may |||
  State.countRun_may
theorem execCvSelfCheckDone_keeps {M : Nat} {S0 : State} (t : Nat) (c : Fin 16) (ground dac : List Int) {s : State} (gs : Keeps M S0 s) (gm : execCvSelfCheckDone_may &&& M = execCvSelfCheckDone_may := by decide +kernel) :
    KeepsO M S0 (execCvSelfCheckDone t c ground dac s) := by
  unfold execCvSelfCheckDone
  repeat' first
    | with_reducible assumption
    | (intro x; refine keeps_cut (m := M) (s0 := S0) (x := x) ?_ ?_; all_goals first | (intro hx; clear_value x) | subst x)
    | (intro x; clear_value x)
    | intro _
    | with_reducible exact may_trans gm (by decide +kernel)
    | with_reducible apply keeps_ite | with_reducible apply keeps_foldl | with_reducible apply at_keeps
    | with_reducible apply endCause_keeps | with_reducible apply cvRejoin_keeps | with_reducible apply groundCheck_keeps
    | with_reducible apply countRun_keeps | with_reducible apply keeps_wr | with_reducible apply keepsO_next
    | with_reducible apply keepsO_ite
    | exact keepsO_fault
    | dsimp -zeta -zetaHave only | lift_lets -underBinder | split

def State.startPoint_may : Nat :=
  may .CV_STATE ||| may .calAt ||| may .calBusy ||| may .calC ||| may .calG ||| may .cvCur ||| State.voidPoint_may
theorem startPoint_keeps {M : Nat} {S0 : State} {s : State} (k : Nat) (gs : Keeps M S0 s) (gm : State.startPoint_may &&& M = State.startPoint_may := by decide +kernel) :
    Keeps M S0 (State.startPoint s k) := by
  unfold State.startPoint
  repeat' first
    | with_reducible assumption
    | (intro x; refine keeps_cut (m := M) (s0 := S0) (x := x) ?_ ?_; all_goals first | (intro hx; clear_value x) | subst x)
    | (intro x; clear_value x)
    | intro _
    | with_reducible exact may_trans gm (by decide +kernel)
    | with_reducible apply keeps_ite | with_reducible apply voidPoint_keeps | with_reducible apply keeps_wr | dsimp -zeta -zetaHave only
    | lift_lets -underBinder | split

def execCalPointDone_may : Nat :=
  may .CAL_MEAN ||| may .CAL_STATUS ||| may .calBusy ||| may .calFull ||| may .calHave ||| may .calZero ||| State.at_may |||
  State.voidPoint_may ||| State.cvRejoin_may ||| State.countRun_may
theorem execCalPointDone_keeps {M : Nat} {S0 : State} (t : Nat) (mean : Int) (oor : List (Fin 256)) {s : State} (gs : Keeps M S0 s) (gm : execCalPointDone_may &&& M = execCalPointDone_may := by decide +kernel) :
    KeepsO M S0 (execCalPointDone t mean oor s) := by
  unfold execCalPointDone
  repeat' first
    | with_reducible assumption
    | (intro x; refine keeps_cut (m := M) (s0 := S0) (x := x) ?_ ?_; all_goals first | (intro hx; clear_value x) | subst x)
    | (intro x; clear_value x)
    | intro _
    | with_reducible exact may_trans gm (by decide +kernel)
    | with_reducible apply keeps_ite | with_reducible apply wrBit_keeps | with_reducible apply at_keeps
    | with_reducible apply voidPoint_keeps | with_reducible apply cvRejoin_keeps | with_reducible apply countRun_keeps
    | with_reducible apply keeps_wr | with_reducible apply keepsO_next | with_reducible apply keepsO_ite
    | exact keepsO_fault
    | dsimp -zeta -zetaHave only | lift_lets -underBinder | split

def State.calCompute_may : Nat :=
  may .CAL_STATUS ||| may .calGainNew ||| may .calHas ||| may .calHave ||| may .calOfsNew ||| may .calPend
theorem calCompute_keeps {M : Nat} {S0 : State} {s : State} (gs : Keeps M S0 s) (gm : State.calCompute_may &&& M = State.calCompute_may := by decide +kernel) :
    Keeps M S0 (State.calCompute s) := by
  unfold State.calCompute
  repeat' first
    | with_reducible assumption
    | (intro x; refine keeps_cut (m := M) (s0 := S0) (x := x) ?_ ?_; all_goals first | (intro hx; clear_value x) | subst x)
    | (intro x; clear_value x)
    | intro _
    | with_reducible exact may_trans gm (by decide +kernel)
    | with_reducible apply keeps_ite | with_reducible apply keeps_wr | dsimp -zeta -zetaHave only | lift_lets -underBinder | split

def State.calMark_may : Nat :=
  may .CAL_GAIN_FACTOR ||| may .CAL_OFS ||| may .calPend
theorem calMark_keeps {M : Nat} {S0 : State} {s : State} (gs : Keeps M S0 s) (gm : State.calMark_may &&& M = State.calMark_may := by decide +kernel) :
    Keeps M S0 (State.calMark s) := by
  unfold State.calMark
  repeat' first
    | with_reducible assumption | intro _
    | with_reducible exact may_trans gm (by decide +kernel)
    | with_reducible apply keeps_ite | with_reducible apply keeps_forAll | with_reducible apply keeps_wr | dsimp -zeta -zetaHave only
    | split

def State.converterMark_may : Nat :=
  may .CV_EVENTS ||| may .ovrWin ||| State.raise_may ||| State.endCause_may ||| State.detect_may ||| State.cvNext_may
theorem converterMark_keeps {M : Nat} {S0 : State} {s : State} (c : Nat) (gs : Keeps M S0 s) (gm : State.converterMark_may &&& M = State.converterMark_may := by decide +kernel) :
    Keeps M S0 (State.converterMark s c) := by
  unfold State.converterMark
  repeat' first
    | with_reducible assumption
    | (intro x; refine keeps_cut (m := M) (s0 := S0) (x := x) ?_ ?_; all_goals first | (intro hx; clear_value x) | subst x)
    | (intro x; clear_value x)
    | intro _
    | with_reducible exact may_trans gm (by decide +kernel)
    | with_reducible apply keeps_ite | with_reducible apply raise_keeps | with_reducible apply endCause_keeps
    | with_reducible apply detect_keeps | with_reducible apply cvNext_keeps | with_reducible apply keeps_wr | dsimp -zeta -zetaHave only
    | lift_lets -underBinder | split

-- Programs.lean

def State.setRun_may : Nat :=
  may_runs
theorem setRun_keeps {M : Nat} {S0 : State} {s : State} (u : RunUnit) (r : Option Run) (gs : Keeps M S0 s) (gm : State.setRun_may &&& M = State.setRun_may := by decide +kernel) :
    Keeps M S0 (State.setRun s u r) := by
  unfold State.setRun
  repeat' first
    | with_reducible assumption
    | (intro x; refine keeps_cut (m := M) (s0 := S0) (x := x) ?_ ?_; all_goals first | (intro hx; clear_value x) | subst x)
    | (intro x; clear_value x)
    | intro _
    | with_reducible exact may_trans gm (by decide +kernel)
    | with_reducible apply keeps_ite
    | with_reducible exact Tbl.wf_nil
    | with_reducible apply Tbl.wf_tset | with_reducible apply Tbl.wf_filter | with_reducible apply Tbl.wf_tmap
    | with_reducible refine (Keeps.can (m := M) (s := S0) ?_ (by assumption)).runs | dsimp -zeta -zetaHave only | lift_lets -underBinder
    | with_reducible apply keeps_runs

def State.orwyn_may : Nat :=
  State.setRun_may
theorem orwyn_keeps {M : Nat} {S0 : State} {s : State} (c : Instr) (u : RunUnit) (f : State → Run → State × Run) (gs : Keeps M S0 s)
    (gm : State.orwyn_may &&& M = State.orwyn_may := by decide +kernel) (hf : ∀ s r, Keeps M S0 s → Keeps M S0 (f s r).1) :
    KeepsO M S0 (State.orwyn s c u f) := by
  unfold State.orwyn
  refine keepsO_ite (keepsO_next ?_) keepsO_fault
  split
  · exact gs
  · exact keeps_ite (setRun_keeps _ _ (hf _ _ gs) (may_trans gm (by decide +kernel))) gs

def State.toIssue_may : Nat :=
  State.at_may
theorem toIssue_keeps {M : Nat} {S0 : State} {s : State} (u : RunUnit) (gs : Keeps M S0 s) (gm : State.toIssue_may &&& M = State.toIssue_may := by decide +kernel) :
    Keeps M S0 (State.toIssue s u).1 := by
  unfold State.toIssue
  repeat' first
    | with_reducible assumption
    | (intro x; refine keeps_cut (m := M) (s0 := S0) (x := x) ?_ ?_; all_goals first | (intro hx; clear_value x) | subst x)
    | (intro x; clear_value x)
    | intro _
    | with_reducible exact may_trans gm (by decide +kernel)
    | with_reducible apply keeps_ite | with_reducible apply keeps_ite1 | with_reducible apply keeps_ite2 | with_reducible apply at_keeps
    | dsimp -zeta -zetaHave only | lift_lets -underBinder | split

def State.orwynAt_may : Nat :=
  State.orwyn_may ||| State.toIssue_may
theorem orwynAt_keeps {M : Nat} {S0 : State} {s : State} (c : Instr) (u : RunUnit) (f : State → Run → State × Run) (gs : Keeps M S0 s)
    (gm : State.orwynAt_may &&& M = State.orwynAt_may := by decide +kernel) (hf : ∀ s r, Keeps M S0 s → Keeps M S0 (f s r).1) :
    KeepsO M S0 (State.orwynAt s c u f) := by
  have h := toIssue_keeps u gs (may_trans gm (by decide +kernel))
  unfold State.orwynAt
  exact keepsO_ite (orwyn_keeps c u f h (may_trans gm (by decide +kernel)) hf) (keepsO_next h)

def State.orwynRun_may : Nat :=
  State.orwyn_may
theorem orwynRun_keeps {M : Nat} {S0 : State} {s : State} (c : Instr) (u : RunUnit) (f : Run → Run) (gs : Keeps M S0 s) (gm : State.orwynRun_may &&& M = State.orwynRun_may := by decide +kernel) :
    KeepsO M S0 (State.orwynRun s c u f) := by
  unfold State.orwynRun
  repeat' first
    | with_reducible assumption | intro _
    | with_reducible exact may_trans gm (by decide +kernel)
    | with_reducible apply keeps_ite | with_reducible apply orwyn_keeps | with_reducible apply keepsO_next
    | with_reducible apply keepsO_ite
    | exact keepsO_fault
    | dsimp -zeta -zetaHave only | split

def State.openAbove_may : Nat :=
  State.draw_may
theorem openAbove_keeps {M : Nat} {S0 : State} {s : State} (w : Nat) (v : Nat) (gs : Keeps M S0 s) (gm : State.openAbove_may &&& M = State.openAbove_may := by decide +kernel) :
    Keeps M S0 (State.openAbove s w v).2 := by
  unfold State.openAbove
  repeat' first
    | with_reducible assumption
    | refine keeps_fst (by with_reducible assumption) ?_
    | refine keeps_snd (by with_reducible assumption) ?_
    | (intro x; refine keeps_cut (m := M) (s0 := S0) (x := x) ?_ ?_; all_goals first | (intro hx; clear_value x) | subst x)
    | (intro x; clear_value x)
    | intro _
    | with_reducible exact may_trans gm (by decide +kernel)
    | with_reducible apply keeps_ite | with_reducible apply keeps_ite1 | with_reducible apply keeps_ite2
    | with_reducible apply draw_keeps | dsimp -zeta -zetaHave only | lift_lets -underBinder | split

def State.ledRead_may : Nat :=
  State.draw_may ||| State.openAbove_may
theorem ledRead_keeps {M : Nat} {S0 : State} {s : State} (n w : Nat) (gs : Keeps M S0 s) (gm : State.ledRead_may &&& M = State.ledRead_may := by decide +kernel) :
    Keeps M S0 (State.ledRead s n w).2 := by
  unfold State.ledRead
  repeat' first
    | with_reducible assumption
    | refine keeps_fst (by with_reducible assumption) ?_
    | refine keeps_snd (by with_reducible assumption) ?_
    | (intro x; refine keeps_cut (m := M) (s0 := S0) (x := x) ?_ ?_; all_goals first | (intro hx; clear_value x) | subst x)
    | (intro x; clear_value x)
    | intro _
    | with_reducible exact may_trans gm (by decide +kernel)
    | with_reducible apply keeps_ite | with_reducible apply keeps_ite1 | with_reducible apply keeps_ite2
    | with_reducible apply draw_keeps | with_reducible apply openAbove_keeps | dsimp -zeta -zetaHave only | lift_lets -underBinder
    | split

def State.ledLoad_may : Nat :=
  may_freeCtr ||| State.draw_may ||| State.ledgerEcc_may ||| State.ledRead_may
theorem ledLoad_keeps {M : Nat} {S0 : State} {s : State} (n w : Nat) (ecc : Ecc) (gs : Keeps M S0 s) (gm : State.ledLoad_may &&& M = State.ledLoad_may := by decide +kernel) :
    Keeps M S0 (State.ledLoad s n w ecc).2 := by
  unfold State.ledLoad
  repeat' first
    | with_reducible assumption
    | refine keeps_fst (by with_reducible assumption) ?_
    | refine keeps_snd (by with_reducible assumption) ?_
    | (intro x; refine keeps_cut (m := M) (s0 := S0) (x := x) ?_ ?_; all_goals first | (intro hx; clear_value x) | subst x)
    | (intro x; clear_value x)
    | intro _
    | with_reducible exact may_trans gm (by decide +kernel)
    | with_reducible apply keeps_ite | with_reducible apply keeps_ite1 | with_reducible apply keeps_ite2
    | with_reducible apply draw_keeps | with_reducible apply ledgerEcc_keeps | with_reducible apply ledRead_keeps
    | dsimp -zeta -zetaHave only | lift_lets -underBinder | split | with_reducible apply keeps_freeCtr

def State.load_may : Nat :=
  State.draw_may ||| State.ledLoad_may
theorem load_keeps {M : Nat} {S0 : State} {s : State} (r : Run) (l : LForm) (ecc : Ecc) (gs : Keeps M S0 s) (gm : State.load_may &&& M = State.load_may := by decide +kernel) :
    Keeps M S0 (State.load s r l ecc).2 := by
  unfold State.load
  repeat' first
    | with_reducible assumption
    | refine keeps_fst (by with_reducible assumption) ?_
    | refine keeps_snd (by with_reducible assumption) ?_
    | (intro x; refine keeps_cut (m := M) (s0 := S0) (x := x) ?_ ?_; all_goals first | (intro hx; clear_value x) | subst x)
    | (intro x; clear_value x)
    | intro _
    | with_reducible exact may_trans gm (by decide +kernel)
    | with_reducible apply keeps_ite | with_reducible apply keeps_ite1 | with_reducible apply keeps_ite2
    | with_reducible apply draw_keeps | with_reducible apply ledLoad_keeps | dsimp -zeta -zetaHave only | lift_lets -underBinder | split

def State.commitStore_may : Nat :=
  may .TRIP_STATE ||| State.wrLed_may
theorem commitStore_keeps {M : Nat} {S0 : State} {s : State} (kind n w : Nat) (high : Bool) (x : Word32) (gs : Keeps M S0 s) (gm : State.commitStore_may &&& M = State.commitStore_may := by decide +kernel) :
    Keeps M S0 (State.commitStore s kind n w high x) := by
  unfold State.commitStore
  repeat' first
    | with_reducible assumption
    | (intro x; refine keeps_cut (m := M) (s0 := S0) (x := x) ?_ ?_; all_goals first | (intro hx; clear_value x) | subst x)
    | (intro x; clear_value x)
    | intro _
    | with_reducible exact may_trans gm (by decide +kernel)
    | with_reducible apply keeps_ite | with_reducible apply wrLed_keeps | with_reducible apply keeps_wr | dsimp -zeta -zetaHave only
    | lift_lets -underBinder | split

def State.offerPacket_may : Nat :=
  may .PUSH_REFUSED ||| State.count_may ||| State.push_may
theorem offerPacket_keeps {M : Nat} {S0 : State} {s : State} (p q : Nat) (ws : List Word64) (gs : Keeps M S0 s) (gm : State.offerPacket_may &&& M = State.offerPacket_may := by decide +kernel) :
    Keeps M S0 (State.offerPacket s p q ws) := by
  unfold State.offerPacket
  repeat' first
    | with_reducible assumption
    | refine keeps_fst (by with_reducible assumption) ?_
    | refine keeps_snd (by with_reducible assumption) ?_
    | (intro x; refine keeps_cut (m := M) (s0 := S0) (x := x) ?_ ?_; all_goals first | (intro hx; clear_value x) | subst x)
    | (intro x; clear_value x)
    | intro _
    | with_reducible exact may_trans gm (by decide +kernel)
    | with_reducible apply keeps_ite | with_reducible apply count_keeps | with_reducible apply push_keeps | dsimp -zeta -zetaHave only
    | lift_lets -underBinder | split

def State.commitPushes_may : Nat :=
  may .PUSH_REFUSED ||| State.count_may ||| State.offerPacket_may
theorem commitPushes_keeps0 {S0 : State} (p : Nat) (l : List (Nat × Word64 × Bool)) :
    ∀ {s : State} (o : Tbl (List Word64)), Keeps State.commitPushes_may S0 s → Keeps State.commitPushes_may S0 (State.commitPushes s p l o) := by
  induction l with
  | nil => intro s o gs; exact keeps_forList gs (fun s _ h => count_keeps _ _ _ _ h)
  | cons x l ih =>
    intro s o gs
    unfold State.commitPushes
    exact keeps_ite (ih _ (offerPacket_keeps _ _ _ gs)) (ih _ gs)
theorem commitPushes_keeps {M : Nat} {S0 s : State} (p : Nat) (l : List (Nat × Word64 × Bool)) (o : Tbl (List Word64)) (gs : Keeps M S0 s)
    (gm : State.commitPushes_may &&& M = State.commitPushes_may := by decide +kernel) : Keeps M S0 (State.commitPushes s p l o) :=
  gs.trans ((commitPushes_keeps0 p l o (keeps_refl _ s)).mono gm)

def State.popWords_may : Nat :=
  State.pop_may
theorem popWords_keeps0 {S0 : State} (f : Nat) : ∀ {s : State} (q n : Nat), Keeps State.popWords_may S0 s → Keeps State.popWords_may S0 (State.popWords s q n f) := by
  induction f with
  | zero => intro s q n gs; exact gs
  | succ f ih =>
    intro s q n gs
    unfold State.popWords
    refine keeps_ite gs ?_
    split <;> rename_i h <;> have h := keeps_fst h (pop_keeps q gs)
    · exact ih _ _ h
    · exact h
theorem popWords_keeps {M : Nat} {S0 s : State} (q n f : Nat) (gs : Keeps M S0 s)
    (gm : State.popWords_may &&& M = State.popWords_may := by decide +kernel) : Keeps M S0 (State.popWords s q n f) :=
  gs.trans ((popWords_keeps0 f q n (keeps_refl _ s)).mono gm)

def State.commitWrite_may : Nat :=
  may .OBJW_DROPPED ||| may .TEST_DAC ||| State.count_may ||| State.askUrgent_may
theorem commitWrite_keeps {M : Nat} {S0 : State} {s : State} (p : Prog) (own : Option Nat) (entry : Nat) (v : Word32) (gs : Keeps M S0 s) (gm : State.commitWrite_may &&& M = State.commitWrite_may := by decide +kernel) :
    Keeps M S0 (State.commitWrite s p own entry v) := by
  unfold State.commitWrite
  repeat' first
    | with_reducible assumption
    | (intro x; refine keeps_cut (m := M) (s0 := S0) (x := x) ?_ ?_; all_goals first | (intro hx; clear_value x) | subst x)
    | (intro x; clear_value x)
    | intro _
    | with_reducible exact may_trans gm (by decide +kernel)
    | with_reducible apply keeps_ite | with_reducible apply count_keeps | with_reducible apply askUrgent_keeps
    | with_reducible apply keeps_wr | dsimp -zeta -zetaHave only | lift_lets -underBinder | split

def State.commitCall_may : Nat :=
  may_calls ||| may .readyAt ||| State.completeAtMark_may
theorem commitCall_keeps {M : Nat} {S0 : State} {s : State} (p n : Nat) (called : Bool) (gs : Keeps M S0 s) (gm : State.commitCall_may &&& M = State.commitCall_may := by decide +kernel) :
    Keeps M S0 (State.commitCall s p n called) := by
  unfold State.commitCall
  repeat' first
    | with_reducible assumption
    | (intro x; refine keeps_cut (m := M) (s0 := S0) (x := x) ?_ ?_; all_goals first | (intro hx; clear_value x) | subst x)
    | (intro x; clear_value x)
    | intro _
    | with_reducible exact may_trans gm (by decide +kernel)
    | with_reducible apply keeps_ite | with_reducible apply completeAtMark_keeps | with_reducible apply keeps_wr
    | with_reducible exact Tbl.wf_nil
    | with_reducible apply Tbl.wf_tset | with_reducible apply Tbl.wf_filter | with_reducible apply Tbl.wf_tmap
    | with_reducible refine (Keeps.can (m := M) (s := S0) ?_ (by assumption)).calls | dsimp -zeta -zetaHave only | lift_lets -underBinder
    | split | with_reducible apply keeps_calls

def State.commitRun_may : Nat :=
  may .PROG_RUNS ||| State.count_may ||| State.pollWaits_may ||| State.reverse_may ||| State.harvest_may ||| State.commitStore_may
  ||| State.commitPushes_may ||| State.popWords_may ||| State.commitWrite_may ||| State.commitCall_may
theorem commitRun_keeps {M : Nat} {S0 : State} {s : State} (u : RunUnit) (r : Run) (gs : Keeps M S0 s) (gm : State.commitRun_may &&& M = State.commitRun_may := by decide +kernel) :
    Keeps M S0 (State.commitRun s u r) := by
  unfold State.commitRun
  repeat' first
    | with_reducible assumption
    | refine keeps_fst (by with_reducible assumption) ?_
    | refine keeps_snd (by with_reducible assumption) ?_
    | (intro x; refine keeps_cut (m := M) (s0 := S0) (x := x) ?_ ?_; all_goals first | (intro hx; clear_value x) | subst x)
    | (intro x; clear_value x)
    | intro _
    | with_reducible exact may_trans gm (by decide +kernel)
    | with_reducible apply keeps_ite | with_reducible apply keeps_foldl | with_reducible apply count_keeps
    | with_reducible apply pollWaits_keeps | with_reducible apply reverse_keeps | with_reducible apply harvest_keeps
    | with_reducible apply commitStore_keeps | with_reducible apply commitPushes_keeps | with_reducible apply popWords_keeps
    | with_reducible apply commitWrite_keeps | with_reducible apply commitCall_keeps | dsimp -zeta -zetaHave only
    | lift_lets -underBinder | split

def execONop_may : Nat :=
  State.orwynRun_may
theorem execONop_keeps {M : Nat} {S0 : State} (u : RunUnit) {s : State} (gs : Keeps M S0 s) (gm : execONop_may &&& M = execONop_may := by decide +kernel) :
    KeepsO M S0 (execONop u s) := by
  unfold execONop
  repeat' first
    | with_reducible assumption
    | (intro x; refine keeps_cut (m := M) (s0 := S0) (x := x) ?_ ?_; all_goals first | (intro hx; clear_value x) | subst x)
    | (intro x; clear_value x)
    | intro _
    | with_reducible exact may_trans gm (by decide +kernel)
    | with_reducible apply keeps_ite | with_reducible apply orwynRun_keeps | with_reducible apply keepsO_next
    | with_reducible apply keepsO_ite
    | exact keepsO_fault
    | dsimp -zeta -zetaHave only | lift_lets -underBinder

def execOAdd_may : Nat :=
  State.orwynRun_may
theorem execOAdd_keeps {M : Nat} {S0 : State} (u : RunUnit) (d a b : V) {s : State} (gs : Keeps M S0 s) (gm : execOAdd_may &&& M = execOAdd_may := by decide +kernel) :
    KeepsO M S0 (execOAdd u d a b s) := by
  unfold execOAdd
  repeat' first
    | with_reducible assumption | intro _
    | with_reducible exact may_trans gm (by decide +kernel)
    | with_reducible apply keeps_ite | with_reducible apply orwynRun_keeps | with_reducible apply keepsO_next
    | with_reducible apply keepsO_ite
    | exact keepsO_fault
    | dsimp -zeta -zetaHave only | split

def execOSub_may : Nat :=
  State.orwynRun_may
theorem execOSub_keeps {M : Nat} {S0 : State} (u : RunUnit) (d a b : V) {s : State} (gs : Keeps M S0 s) (gm : execOSub_may &&& M = execOSub_may := by decide +kernel) :
    KeepsO M S0 (execOSub u d a b s) := by
  unfold execOSub
  repeat' first
    | with_reducible assumption | intro _
    | with_reducible exact may_trans gm (by decide +kernel)
    | with_reducible apply keeps_ite | with_reducible apply orwynRun_keeps | with_reducible apply keepsO_next
    | with_reducible apply keepsO_ite
    | exact keepsO_fault
    | dsimp -zeta -zetaHave only | split

def execOAnd_may : Nat :=
  State.orwynRun_may
theorem execOAnd_keeps {M : Nat} {S0 : State} (u : RunUnit) (d a b : V) {s : State} (gs : Keeps M S0 s) (gm : execOAnd_may &&& M = execOAnd_may := by decide +kernel) :
    KeepsO M S0 (execOAnd u d a b s) := by
  unfold execOAnd
  repeat' first
    | with_reducible assumption | intro _
    | with_reducible exact may_trans gm (by decide +kernel)
    | with_reducible apply keeps_ite | with_reducible apply orwynRun_keeps | with_reducible apply keepsO_next
    | with_reducible apply keepsO_ite
    | exact keepsO_fault
    | dsimp -zeta -zetaHave only | split

def execOOr_may : Nat :=
  State.orwynRun_may
theorem execOOr_keeps {M : Nat} {S0 : State} (u : RunUnit) (d a b : V) {s : State} (gs : Keeps M S0 s) (gm : execOOr_may &&& M = execOOr_may := by decide +kernel) :
    KeepsO M S0 (execOOr u d a b s) := by
  unfold execOOr
  repeat' first
    | with_reducible assumption | intro _
    | with_reducible exact may_trans gm (by decide +kernel)
    | with_reducible apply keeps_ite | with_reducible apply orwynRun_keeps | with_reducible apply keepsO_next
    | with_reducible apply keepsO_ite
    | exact keepsO_fault
    | dsimp -zeta -zetaHave only | split

def execOXor_may : Nat :=
  State.orwynRun_may
theorem execOXor_keeps {M : Nat} {S0 : State} (u : RunUnit) (d a b : V) {s : State} (gs : Keeps M S0 s) (gm : execOXor_may &&& M = execOXor_may := by decide +kernel) :
    KeepsO M S0 (execOXor u d a b s) := by
  unfold execOXor
  repeat' first
    | with_reducible assumption | intro _
    | with_reducible exact may_trans gm (by decide +kernel)
    | with_reducible apply keeps_ite | with_reducible apply orwynRun_keeps | with_reducible apply keepsO_next
    | with_reducible apply keepsO_ite
    | exact keepsO_fault
    | dsimp -zeta -zetaHave only | split

def execOShl_may : Nat :=
  State.orwynRun_may
theorem execOShl_keeps {M : Nat} {S0 : State} (u : RunUnit) (d a b : V) {s : State} (gs : Keeps M S0 s) (gm : execOShl_may &&& M = execOShl_may := by decide +kernel) :
    KeepsO M S0 (execOShl u d a b s) := by
  unfold execOShl
  repeat' first
    | with_reducible assumption | intro _
    | with_reducible exact may_trans gm (by decide +kernel)
    | with_reducible apply keeps_ite | with_reducible apply orwynRun_keeps | with_reducible apply keepsO_next
    | with_reducible apply keepsO_ite
    | exact keepsO_fault
    | dsimp -zeta -zetaHave only | split

def execOShr_may : Nat :=
  State.orwynRun_may
theorem execOShr_keeps {M : Nat} {S0 : State} (u : RunUnit) (d a b : V) {s : State} (gs : Keeps M S0 s) (gm : execOShr_may &&& M = execOShr_may := by decide +kernel) :
    KeepsO M S0 (execOShr u d a b s) := by
  unfold execOShr
  repeat' first
    | with_reducible assumption | intro _
    | with_reducible exact may_trans gm (by decide +kernel)
    | with_reducible apply keeps_ite | with_reducible apply orwynRun_keeps | with_reducible apply keepsO_next
    | with_reducible apply keepsO_ite
    | exact keepsO_fault
    | dsimp -zeta -zetaHave only | split

def execOSra_may : Nat :=
  State.orwynRun_may
theorem execOSra_keeps {M : Nat} {S0 : State} (u : RunUnit) (d a b : V) {s : State} (gs : Keeps M S0 s) (gm : execOSra_may &&& M = execOSra_may := by decide +kernel) :
    KeepsO M S0 (execOSra u d a b s) := by
  unfold execOSra
  repeat' first
    | with_reducible assumption | intro _
    | with_reducible exact may_trans gm (by decide +kernel)
    | with_reducible apply keeps_ite | with_reducible apply orwynRun_keeps | with_reducible apply keepsO_next
    | with_reducible apply keepsO_ite
    | exact keepsO_fault
    | dsimp -zeta -zetaHave only | split

def execOMin_may : Nat :=
  State.orwynRun_may
theorem execOMin_keeps {M : Nat} {S0 : State} (u : RunUnit) (d a b : V) {s : State} (gs : Keeps M S0 s) (gm : execOMin_may &&& M = execOMin_may := by decide +kernel) :
    KeepsO M S0 (execOMin u d a b s) := by
  unfold execOMin
  repeat' first
    | with_reducible assumption | intro _
    | with_reducible exact may_trans gm (by decide +kernel)
    | with_reducible apply keeps_ite | with_reducible apply orwynRun_keeps | with_reducible apply keepsO_next
    | with_reducible apply keepsO_ite
    | exact keepsO_fault
    | dsimp -zeta -zetaHave only | split

def execOMax_may : Nat :=
  State.orwynRun_may
theorem execOMax_keeps {M : Nat} {S0 : State} (u : RunUnit) (d a b : V) {s : State} (gs : Keeps M S0 s) (gm : execOMax_may &&& M = execOMax_may := by decide +kernel) :
    KeepsO M S0 (execOMax u d a b s) := by
  unfold execOMax
  repeat' first
    | with_reducible assumption | intro _
    | with_reducible exact may_trans gm (by decide +kernel)
    | with_reducible apply keeps_ite | with_reducible apply orwynRun_keeps | with_reducible apply keepsO_next
    | with_reducible apply keepsO_ite
    | exact keepsO_fault
    | dsimp -zeta -zetaHave only | split

def execOAddw_may : Nat :=
  State.orwynRun_may
theorem execOAddw_keeps {M : Nat} {S0 : State} (u : RunUnit) (d a b : V) {s : State} (gs : Keeps M S0 s) (gm : execOAddw_may &&& M = execOAddw_may := by decide +kernel) :
    KeepsO M S0 (execOAddw u d a b s) := by
  unfold execOAddw
  repeat' first
    | with_reducible assumption | intro _
    | with_reducible exact may_trans gm (by decide +kernel)
    | with_reducible apply keeps_ite | with_reducible apply orwynRun_keeps | with_reducible apply keepsO_next
    | with_reducible apply keepsO_ite
    | exact keepsO_fault
    | dsimp -zeta -zetaHave only | split

def execOSubw_may : Nat :=
  State.orwynRun_may
theorem execOSubw_keeps {M : Nat} {S0 : State} (u : RunUnit) (d a b : V) {s : State} (gs : Keeps M S0 s) (gm : execOSubw_may &&& M = execOSubw_may := by decide +kernel) :
    KeepsO M S0 (execOSubw u d a b s) := by
  unfold execOSubw
  repeat' first
    | with_reducible assumption | intro _
    | with_reducible exact may_trans gm (by decide +kernel)
    | with_reducible apply keeps_ite | with_reducible apply orwynRun_keeps | with_reducible apply keepsO_next
    | with_reducible apply keepsO_ite
    | exact keepsO_fault
    | dsimp -zeta -zetaHave only | split

def execOCtxn_may : Nat :=
  State.orwynRun_may
theorem execOCtxn_keeps {M : Nat} {S0 : State} (u : RunUnit) (d : V) {s : State} (gs : Keeps M S0 s) (gm : execOCtxn_may &&& M = execOCtxn_may := by decide +kernel) :
    KeepsO M S0 (execOCtxn u d s) := by
  unfold execOCtxn
  repeat' first
    | with_reducible assumption | intro _
    | with_reducible exact may_trans gm (by decide +kernel)
    | with_reducible apply keeps_ite | with_reducible apply orwynRun_keeps | with_reducible apply keepsO_next
    | with_reducible apply keepsO_ite
    | exact keepsO_fault
    | dsimp -zeta -zetaHave only | split

def execOArg_may : Nat :=
  State.orwynRun_may
theorem execOArg_keeps {M : Nat} {S0 : State} (u : RunUnit) (d : V) {s : State} (gs : Keeps M S0 s) (gm : execOArg_may &&& M = execOArg_may := by decide +kernel) :
    KeepsO M S0 (execOArg u d s) := by
  unfold execOArg
  repeat' first
    | with_reducible assumption | intro _
    | with_reducible exact may_trans gm (by decide +kernel)
    | with_reducible apply keeps_ite | with_reducible apply orwynRun_keeps | with_reducible apply keepsO_next
    | with_reducible apply keepsO_ite
    | exact keepsO_fault
    | dsimp -zeta -zetaHave only | split

def execOCallp_may : Nat :=
  State.orwynRun_may
theorem execOCallp_keeps {M : Nat} {S0 : State} (u : RunUnit) (d : V) {s : State} (gs : Keeps M S0 s) (gm : execOCallp_may &&& M = execOCallp_may := by decide +kernel) :
    KeepsO M S0 (execOCallp u d s) := by
  unfold execOCallp
  repeat' first
    | with_reducible assumption | intro _
    | with_reducible exact may_trans gm (by decide +kernel)
    | with_reducible apply keeps_ite | with_reducible apply orwynRun_keeps | with_reducible apply keepsO_next
    | with_reducible apply keepsO_ite
    | exact keepsO_fault
    | dsimp -zeta -zetaHave only | split

def execOAddi_may : Nat :=
  State.orwynRun_may
theorem execOAddi_keeps {M : Nat} {S0 : State} (u : RunUnit) (d a : V) (imm : BitVec 18) {s : State} (gs : Keeps M S0 s) (gm : execOAddi_may &&& M = execOAddi_may := by decide +kernel) :
    KeepsO M S0 (execOAddi u d a imm s) := by
  unfold execOAddi
  repeat' first
    | with_reducible assumption | intro _
    | with_reducible exact may_trans gm (by decide +kernel)
    | with_reducible apply keeps_ite | with_reducible apply orwynRun_keeps | with_reducible apply keepsO_next
    | with_reducible apply keepsO_ite
    | exact keepsO_fault
    | dsimp -zeta -zetaHave only | split

def execOAndi_may : Nat :=
  State.orwynRun_may
theorem execOAndi_keeps {M : Nat} {S0 : State} (u : RunUnit) (d a : V) (imm : BitVec 18) {s : State} (gs : Keeps M S0 s) (gm : execOAndi_may &&& M = execOAndi_may := by decide +kernel) :
    KeepsO M S0 (execOAndi u d a imm s) := by
  unfold execOAndi
  repeat' first
    | with_reducible assumption | intro _
    | with_reducible exact may_trans gm (by decide +kernel)
    | with_reducible apply keeps_ite | with_reducible apply orwynRun_keeps | with_reducible apply keepsO_next
    | with_reducible apply keepsO_ite
    | exact keepsO_fault
    | dsimp -zeta -zetaHave only | split

def execOOri_may : Nat :=
  State.orwynRun_may
theorem execOOri_keeps {M : Nat} {S0 : State} (u : RunUnit) (d a : V) (imm : BitVec 18) {s : State} (gs : Keeps M S0 s) (gm : execOOri_may &&& M = execOOri_may := by decide +kernel) :
    KeepsO M S0 (execOOri u d a imm s) := by
  unfold execOOri
  repeat' first
    | with_reducible assumption | intro _
    | with_reducible exact may_trans gm (by decide +kernel)
    | with_reducible apply keeps_ite | with_reducible apply orwynRun_keeps | with_reducible apply keepsO_next
    | with_reducible apply keepsO_ite
    | exact keepsO_fault
    | dsimp -zeta -zetaHave only | split

def execOXori_may : Nat :=
  State.orwynRun_may
theorem execOXori_keeps {M : Nat} {S0 : State} (u : RunUnit) (d a : V) (imm : BitVec 18) {s : State} (gs : Keeps M S0 s) (gm : execOXori_may &&& M = execOXori_may := by decide +kernel) :
    KeepsO M S0 (execOXori u d a imm s) := by
  unfold execOXori
  repeat' first
    | with_reducible assumption | intro _
    | with_reducible exact may_trans gm (by decide +kernel)
    | with_reducible apply keeps_ite | with_reducible apply orwynRun_keeps | with_reducible apply keepsO_next
    | with_reducible apply keepsO_ite
    | exact keepsO_fault
    | dsimp -zeta -zetaHave only | split

def execOShli_may : Nat :=
  State.orwynRun_may
theorem execOShli_keeps {M : Nat} {S0 : State} (u : RunUnit) (d a : V) (imm : BitVec 18) {s : State} (gs : Keeps M S0 s) (gm : execOShli_may &&& M = execOShli_may := by decide +kernel) :
    KeepsO M S0 (execOShli u d a imm s) := by
  unfold execOShli
  repeat' first
    | with_reducible assumption | intro _
    | with_reducible exact may_trans gm (by decide +kernel)
    | with_reducible apply keeps_ite | with_reducible apply orwynRun_keeps | with_reducible apply keepsO_next
    | with_reducible apply keepsO_ite
    | exact keepsO_fault
    | dsimp -zeta -zetaHave only | split

def execOShri_may : Nat :=
  State.orwynRun_may
theorem execOShri_keeps {M : Nat} {S0 : State} (u : RunUnit) (d a : V) (imm : BitVec 18) {s : State} (gs : Keeps M S0 s) (gm : execOShri_may &&& M = execOShri_may := by decide +kernel) :
    KeepsO M S0 (execOShri u d a imm s) := by
  unfold execOShri
  repeat' first
    | with_reducible assumption | intro _
    | with_reducible exact may_trans gm (by decide +kernel)
    | with_reducible apply keeps_ite | with_reducible apply orwynRun_keeps | with_reducible apply keepsO_next
    | with_reducible apply keepsO_ite
    | exact keepsO_fault
    | dsimp -zeta -zetaHave only | split

def execOSrai_may : Nat :=
  State.orwynRun_may
theorem execOSrai_keeps {M : Nat} {S0 : State} (u : RunUnit) (d a : V) (imm : BitVec 18) {s : State} (gs : Keeps M S0 s) (gm : execOSrai_may &&& M = execOSrai_may := by decide +kernel) :
    KeepsO M S0 (execOSrai u d a imm s) := by
  unfold execOSrai
  repeat' first
    | with_reducible assumption | intro _
    | with_reducible exact may_trans gm (by decide +kernel)
    | with_reducible apply keeps_ite | with_reducible apply orwynRun_keeps | with_reducible apply keepsO_next
    | with_reducible apply keepsO_ite
    | exact keepsO_fault
    | dsimp -zeta -zetaHave only | split

def execOMovi_may : Nat :=
  State.orwynRun_may
theorem execOMovi_keeps {M : Nat} {S0 : State} (u : RunUnit) (d : V) (imm : BitVec 18) {s : State} (gs : Keeps M S0 s) (gm : execOMovi_may &&& M = execOMovi_may := by decide +kernel) :
    KeepsO M S0 (execOMovi u d imm s) := by
  unfold execOMovi
  repeat' first
    | with_reducible assumption | intro _
    | with_reducible exact may_trans gm (by decide +kernel)
    | with_reducible apply keeps_ite | with_reducible apply orwynRun_keeps | with_reducible apply keepsO_next
    | with_reducible apply keepsO_ite
    | exact keepsO_fault
    | dsimp -zeta -zetaHave only | split

def execOOrhi_may : Nat :=
  State.orwynRun_may
theorem execOOrhi_keeps {M : Nat} {S0 : State} (u : RunUnit) (d a : V) (imm : BitVec 18) {s : State} (gs : Keeps M S0 s) (gm : execOOrhi_may &&& M = execOOrhi_may := by decide +kernel) :
    KeepsO M S0 (execOOrhi u d a imm s) := by
  unfold execOOrhi
  repeat' first
    | with_reducible assumption | intro _
    | with_reducible exact may_trans gm (by decide +kernel)
    | with_reducible apply keeps_ite | with_reducible apply orwynRun_keeps | with_reducible apply keepsO_next
    | with_reducible apply keepsO_ite
    | exact keepsO_fault
    | dsimp -zeta -zetaHave only | split

def execODone_may : Nat :=
  State.orwynRun_may
theorem execODone_keeps {M : Nat} {S0 : State} (u : RunUnit) {s : State} (gs : Keeps M S0 s) (gm : execODone_may &&& M = execODone_may := by decide +kernel) :
    KeepsO M S0 (execODone u s) := by
  unfold execODone
  repeat' first
    | with_reducible assumption
    | (intro x; refine keeps_cut (m := M) (s0 := S0) (x := x) ?_ ?_; all_goals first | (intro hx; clear_value x) | subst x)
    | (intro x; clear_value x)
    | intro _
    | with_reducible exact may_trans gm (by decide +kernel)
    | with_reducible apply keeps_ite | with_reducible apply orwynRun_keeps | with_reducible apply keepsO_next
    | with_reducible apply keepsO_ite
    | exact keepsO_fault
    | dsimp -zeta -zetaHave only | lift_lets -underBinder | split

def execOMul_may : Nat :=
  State.orwynRun_may
theorem execOMul_keeps {M : Nat} {S0 : State} (u : RunUnit) (d a b : V) {s : State} (gs : Keeps M S0 s) (gm : execOMul_may &&& M = execOMul_may := by decide +kernel) :
    KeepsO M S0 (execOMul u d a b s) := by
  unfold execOMul
  repeat' first
    | with_reducible assumption | intro _
    | with_reducible exact may_trans gm (by decide +kernel)
    | with_reducible apply keeps_ite | with_reducible apply orwynRun_keeps | with_reducible apply keepsO_next
    | with_reducible apply keepsO_ite
    | exact keepsO_fault
    | dsimp -zeta -zetaHave only | split

def execOMulu_may : Nat :=
  State.orwynRun_may
theorem execOMulu_keeps {M : Nat} {S0 : State} (u : RunUnit) (d a b : V) {s : State} (gs : Keeps M S0 s) (gm : execOMulu_may &&& M = execOMulu_may := by decide +kernel) :
    KeepsO M S0 (execOMulu u d a b s) := by
  unfold execOMulu
  repeat' first
    | with_reducible assumption | intro _
    | with_reducible exact may_trans gm (by decide +kernel)
    | with_reducible apply keeps_ite | with_reducible apply orwynRun_keeps | with_reducible apply keepsO_next
    | with_reducible apply keepsO_ite
    | exact keepsO_fault
    | dsimp -zeta -zetaHave only | split

def State.endRun_may : Nat :=
  may .HARVEST_MAX ||| may .hvFree ||| State.tally_may ||| State.traceIf_may ||| State.harvest_may ||| State.setRun_may
theorem endRun_keeps {M : Nat} {S0 : State} {s : State} (u : RunUnit) (r : Run) (gs : Keeps M S0 s) (gm : State.endRun_may &&& M = State.endRun_may := by decide +kernel) :
    Keeps M S0 (State.endRun s u r) := by
  unfold State.endRun
  repeat' first
    | with_reducible assumption
    | (intro x; refine keeps_cut (m := M) (s0 := S0) (x := x) ?_ ?_; all_goals first | (intro hx; clear_value x) | subst x)
    | (intro x; clear_value x)
    | intro _
    | with_reducible exact may_trans gm (by decide +kernel)
    | with_reducible apply keeps_ite | with_reducible apply tally_keeps | with_reducible apply keepMax_keeps
    | with_reducible apply traceIf_keeps | with_reducible apply harvest_keeps | with_reducible apply setRun_keeps
    | with_reducible apply keeps_wr | dsimp -zeta -zetaHave only | lift_lets -underBinder | split

def execOEnd_may : Nat :=
  State.toIssue_may ||| State.commitRun_may ||| State.endRun_may
theorem execOEnd_keeps {M : Nat} {S0 : State} (u : RunUnit) {s : State} (gs : Keeps M S0 s) (gm : execOEnd_may &&& M = execOEnd_may := by decide +kernel) :
    KeepsO M S0 (execOEnd u s) := by
  unfold execOEnd
  repeat' first
    | with_reducible assumption
    | refine keeps_fst (by with_reducible assumption) ?_
    | refine keeps_snd (by with_reducible assumption) ?_
    | (intro x; refine keeps_cut (m := M) (s0 := S0) (x := x) ?_ ?_; all_goals first | (intro hx; clear_value x) | subst x)
    | (intro x; clear_value x)
    | intro _
    | with_reducible exact may_trans gm (by decide +kernel)
    | with_reducible apply keeps_ite | with_reducible apply toIssue_keeps | with_reducible apply commitRun_keeps
    | with_reducible apply endRun_keeps | with_reducible apply keepsO_next | with_reducible apply keepsO_ite
    | exact keepsO_fault
    | dsimp -zeta -zetaHave only | lift_lets -underBinder | split

def execOBeq_may : Nat :=
  State.orwynRun_may
theorem execOBeq_keeps {M : Nat} {S0 : State} (u : RunUnit) (a b : V) (off : BitVec 10) {s : State} (gs : Keeps M S0 s) (gm : execOBeq_may &&& M = execOBeq_may := by decide +kernel) :
    KeepsO M S0 (execOBeq u a b off s) := by
  unfold execOBeq
  repeat' first
    | with_reducible assumption | intro _
    | with_reducible exact may_trans gm (by decide +kernel)
    | with_reducible apply keeps_ite | with_reducible apply orwynRun_keeps | with_reducible apply keepsO_next
    | with_reducible apply keepsO_ite
    | exact keepsO_fault
    | dsimp -zeta -zetaHave only | split

def execOBne_may : Nat :=
  State.orwynRun_may
theorem execOBne_keeps {M : Nat} {S0 : State} (u : RunUnit) (a b : V) (off : BitVec 10) {s : State} (gs : Keeps M S0 s) (gm : execOBne_may &&& M = execOBne_may := by decide +kernel) :
    KeepsO M S0 (execOBne u a b off s) := by
  unfold execOBne
  repeat' first
    | with_reducible assumption | intro _
    | with_reducible exact may_trans gm (by decide +kernel)
    | with_reducible apply keeps_ite | with_reducible apply orwynRun_keeps | with_reducible apply keepsO_next
    | with_reducible apply keepsO_ite
    | exact keepsO_fault
    | dsimp -zeta -zetaHave only | split

def execOBlt_may : Nat :=
  State.orwynRun_may
theorem execOBlt_keeps {M : Nat} {S0 : State} (u : RunUnit) (a b : V) (off : BitVec 10) {s : State} (gs : Keeps M S0 s) (gm : execOBlt_may &&& M = execOBlt_may := by decide +kernel) :
    KeepsO M S0 (execOBlt u a b off s) := by
  unfold execOBlt
  repeat' first
    | with_reducible assumption | intro _
    | with_reducible exact may_trans gm (by decide +kernel)
    | with_reducible apply keeps_ite | with_reducible apply orwynRun_keeps | with_reducible apply keepsO_next
    | with_reducible apply keepsO_ite
    | exact keepsO_fault
    | dsimp -zeta -zetaHave only | split

def execOBge_may : Nat :=
  State.orwynRun_may
theorem execOBge_keeps {M : Nat} {S0 : State} (u : RunUnit) (a b : V) (off : BitVec 10) {s : State} (gs : Keeps M S0 s) (gm : execOBge_may &&& M = execOBge_may := by decide +kernel) :
    KeepsO M S0 (execOBge u a b off s) := by
  unfold execOBge
  repeat' first
    | with_reducible assumption | intro _
    | with_reducible exact may_trans gm (by decide +kernel)
    | with_reducible apply keeps_ite | with_reducible apply orwynRun_keeps | with_reducible apply keepsO_next
    | with_reducible apply keepsO_ite
    | exact keepsO_fault
    | dsimp -zeta -zetaHave only | split

def execOBltu_may : Nat :=
  State.orwynRun_may
theorem execOBltu_keeps {M : Nat} {S0 : State} (u : RunUnit) (a b : V) (off : BitVec 10) {s : State} (gs : Keeps M S0 s) (gm : execOBltu_may &&& M = execOBltu_may := by decide +kernel) :
    KeepsO M S0 (execOBltu u a b off s) := by
  unfold execOBltu
  repeat' first
    | with_reducible assumption | intro _
    | with_reducible exact may_trans gm (by decide +kernel)
    | with_reducible apply keeps_ite | with_reducible apply orwynRun_keeps | with_reducible apply keepsO_next
    | with_reducible apply keepsO_ite
    | exact keepsO_fault
    | dsimp -zeta -zetaHave only | split

def execOBgeu_may : Nat :=
  State.orwynRun_may
theorem execOBgeu_keeps {M : Nat} {S0 : State} (u : RunUnit) (a b : V) (off : BitVec 10) {s : State} (gs : Keeps M S0 s) (gm : execOBgeu_may &&& M = execOBgeu_may := by decide +kernel) :
    KeepsO M S0 (execOBgeu u a b off s) := by
  unfold execOBgeu
  repeat' first
    | with_reducible assumption | intro _
    | with_reducible exact may_trans gm (by decide +kernel)
    | with_reducible apply keeps_ite | with_reducible apply orwynRun_keeps | with_reducible apply keepsO_next
    | with_reducible apply keepsO_ite
    | exact keepsO_fault
    | dsimp -zeta -zetaHave only | split

def execOBra_may : Nat :=
  State.orwynRun_may
theorem execOBra_keeps {M : Nat} {S0 : State} (u : RunUnit) (off : BitVec 10) {s : State} (gs : Keeps M S0 s) (gm : execOBra_may &&& M = execOBra_may := by decide +kernel) :
    KeepsO M S0 (execOBra u off s) := by
  unfold execOBra
  repeat' first
    | with_reducible assumption | intro _
    | with_reducible exact may_trans gm (by decide +kernel)
    | with_reducible apply keeps_ite | with_reducible apply orwynRun_keeps | with_reducible apply keepsO_next
    | with_reducible apply keepsO_ite
    | exact keepsO_fault
    | dsimp -zeta -zetaHave only | split

def execOLoop_may : Nat :=
  State.count_may ||| State.orwynRun_may
theorem execOLoop_keeps {M : Nat} {S0 : State} (u : RunUnit) (count : BitVec 8) {s : State} (gs : Keeps M S0 s) (gm : execOLoop_may &&& M = execOLoop_may := by decide +kernel) :
    KeepsO M S0 (execOLoop u count s) := by
  unfold execOLoop
  repeat' first
    | with_reducible assumption
    | (intro x; refine keeps_cut (m := M) (s0 := S0) (x := x) ?_ ?_; all_goals first | (intro hx; clear_value x) | subst x)
    | (intro x; clear_value x)
    | intro _
    | with_reducible exact may_trans gm (by decide +kernel)
    | with_reducible apply keeps_ite | with_reducible apply count_keeps | with_reducible apply orwynRun_keeps
    | with_reducible apply keepsO_next | with_reducible apply keepsO_ite
    | exact keepsO_fault
    | dsimp -zeta -zetaHave only | lift_lets -underBinder | split

def execOEndl_may : Nat :=
  State.count_may ||| State.orwynRun_may
theorem execOEndl_keeps {M : Nat} {S0 : State} (u : RunUnit) {s : State} (gs : Keeps M S0 s) (gm : execOEndl_may &&& M = execOEndl_may := by decide +kernel) :
    KeepsO M S0 (execOEndl u s) := by
  unfold execOEndl
  repeat' first
    | with_reducible assumption
    | (intro x; refine keeps_cut (m := M) (s0 := S0) (x := x) ?_ ?_; all_goals first | (intro hx; clear_value x) | subst x)
    | (intro x; clear_value x)
    | intro _
    | with_reducible exact may_trans gm (by decide +kernel)
    | with_reducible apply keeps_ite | with_reducible apply count_keeps | with_reducible apply orwynRun_keeps
    | with_reducible apply keepsO_next | with_reducible apply keepsO_ite
    | exact keepsO_fault
    | dsimp -zeta -zetaHave only | lift_lets -underBinder | split

def execOLidx_may : Nat :=
  State.orwynRun_may
theorem execOLidx_keeps {M : Nat} {S0 : State} (u : RunUnit) (d : V) {s : State} (gs : Keeps M S0 s) (gm : execOLidx_may &&& M = execOLidx_may := by decide +kernel) :
    KeepsO M S0 (execOLidx u d s) := by
  unfold execOLidx
  repeat' first
    | with_reducible assumption | intro _
    | with_reducible exact may_trans gm (by decide +kernel)
    | with_reducible apply keeps_ite | with_reducible apply orwynRun_keeps | with_reducible apply keepsO_next
    | with_reducible apply keepsO_ite
    | exact keepsO_fault
    | dsimp -zeta -zetaHave only | split

def execOTime_may : Nat :=
  State.orwynAt_may
theorem execOTime_keeps {M : Nat} {S0 : State} (u : RunUnit) (d : V) {s : State} (gs : Keeps M S0 s) (gm : execOTime_may &&& M = execOTime_may := by decide +kernel) :
    KeepsO M S0 (execOTime u d s) := by
  unfold execOTime
  repeat' first
    | with_reducible assumption | intro _
    | with_reducible exact may_trans gm (by decide +kernel)
    | with_reducible apply keeps_ite | with_reducible apply orwynAt_keeps | with_reducible apply keepsO_next
    | with_reducible apply keepsO_ite
    | exact keepsO_fault
    | dsimp -zeta -zetaHave only | split

def execORtime_may : Nat :=
  State.orwynAt_may
theorem execORtime_keeps {M : Nat} {S0 : State} (u : RunUnit) (d : V) {s : State} (gs : Keeps M S0 s) (gm : execORtime_may &&& M = execORtime_may := by decide +kernel) :
    KeepsO M S0 (execORtime u d s) := by
  unfold execORtime
  repeat' first
    | with_reducible assumption | intro _
    | with_reducible exact may_trans gm (by decide +kernel)
    | with_reducible apply keeps_ite | with_reducible apply orwynAt_keeps | with_reducible apply keepsO_next
    | with_reducible apply keepsO_ite
    | exact keepsO_fault
    | dsimp -zeta -zetaHave only | split

def execOMode_may : Nat :=
  State.orwynAt_may
theorem execOMode_keeps {M : Nat} {S0 : State} (u : RunUnit) (d : V) {s : State} (gs : Keeps M S0 s) (gm : execOMode_may &&& M = execOMode_may := by decide +kernel) :
    KeepsO M S0 (execOMode u d s) := by
  unfold execOMode
  repeat' first
    | with_reducible assumption | intro _
    | with_reducible exact may_trans gm (by decide +kernel)
    | with_reducible apply keeps_ite | with_reducible apply orwynAt_keeps | with_reducible apply keepsO_next
    | with_reducible apply keepsO_ite
    | exact keepsO_fault
    | dsimp -zeta -zetaHave only | split

def execOLdl_may : Nat :=
  State.orwynAt_may ||| State.load_may
theorem execOLdl_keeps {M : Nat} {S0 : State} (u : RunUnit) (l : LForm) (ecc : Ecc) {s : State} (gs : Keeps M S0 s) (gm : execOLdl_may &&& M = execOLdl_may := by decide +kernel) :
    KeepsO M S0 (execOLdl u l ecc s) := by
  unfold execOLdl
  repeat' first
    | with_reducible assumption
    | refine keeps_fst (by with_reducible assumption) ?_
    | refine keeps_snd (by with_reducible assumption) ?_
    | (intro x; refine keeps_cut (m := M) (s0 := S0) (x := x) ?_ ?_; all_goals first | (intro hx; clear_value x) | subst x)
    | (intro x; clear_value x)
    | intro _
    | with_reducible exact may_trans gm (by decide +kernel)
    | with_reducible apply keeps_ite | with_reducible apply orwynAt_keeps | with_reducible apply load_keeps
    | with_reducible apply keepsO_next | with_reducible apply keepsO_ite
    | exact keepsO_fault
    | dsimp -zeta -zetaHave only | lift_lets -underBinder | split

def execOLdlw_may : Nat :=
  State.orwynAt_may ||| State.load_may
theorem execOLdlw_keeps {M : Nat} {S0 : State} (u : RunUnit) (l : LForm) (ecc : Ecc) {s : State} (gs : Keeps M S0 s) (gm : execOLdlw_may &&& M = execOLdlw_may := by decide +kernel) :
    KeepsO M S0 (execOLdlw u l ecc s) := by
  unfold execOLdlw
  repeat' first
    | with_reducible assumption
    | refine keeps_fst (by with_reducible assumption) ?_
    | refine keeps_snd (by with_reducible assumption) ?_
    | (intro x; refine keeps_cut (m := M) (s0 := S0) (x := x) ?_ ?_; all_goals first | (intro hx; clear_value x) | subst x)
    | (intro x; clear_value x)
    | intro _
    | with_reducible exact may_trans gm (by decide +kernel)
    | with_reducible apply keeps_ite | with_reducible apply orwynAt_keeps | with_reducible apply load_keeps
    | with_reducible apply keepsO_next | with_reducible apply keepsO_ite
    | exact keepsO_fault
    | dsimp -zeta -zetaHave only | lift_lets -underBinder | split

def execOStl_may : Nat :=
  State.orwynRun_may
theorem execOStl_keeps {M : Nat} {S0 : State} (u : RunUnit) (l : LForm) {s : State} (gs : Keeps M S0 s) (gm : execOStl_may &&& M = execOStl_may := by decide +kernel) :
    KeepsO M S0 (execOStl u l s) := by
  unfold execOStl
  repeat' first
    | with_reducible assumption | intro _
    | with_reducible exact may_trans gm (by decide +kernel)
    | with_reducible apply keeps_ite | with_reducible apply orwynRun_keeps | with_reducible apply keepsO_next
    | with_reducible apply keepsO_ite
    | exact keepsO_fault
    | dsimp -zeta -zetaHave only | split

def execOStlw_may : Nat :=
  State.orwynRun_may
theorem execOStlw_keeps {M : Nat} {S0 : State} (u : RunUnit) (l : LForm) {s : State} (gs : Keeps M S0 s) (gm : execOStlw_may &&& M = execOStlw_may := by decide +kernel) :
    KeepsO M S0 (execOStlw u l s) := by
  unfold execOStlw
  repeat' first
    | with_reducible assumption | intro _
    | with_reducible exact may_trans gm (by decide +kernel)
    | with_reducible apply keeps_ite | with_reducible apply orwynRun_keeps | with_reducible apply keepsO_next
    | with_reducible apply keepsO_ite
    | exact keepsO_fault
    | dsimp -zeta -zetaHave only | split

def execOPush_may : Nat :=
  State.orwynRun_may
theorem execOPush_keeps {M : Nat} {S0 : State} (u : RunUnit) (d : V) (q : Fin 128) (e : Bool) {s : State} (gs : Keeps M S0 s) (gm : execOPush_may &&& M = execOPush_may := by decide +kernel) :
    KeepsO M S0 (execOPush u d q e s) := by
  unfold execOPush
  repeat' first
    | with_reducible assumption
    | (intro x; refine keeps_cut (m := M) (s0 := S0) (x := x) ?_ ?_; all_goals first | (intro hx; clear_value x) | subst x)
    | (intro x; clear_value x)
    | intro _
    | with_reducible exact may_trans gm (by decide +kernel)
    | with_reducible apply keeps_ite | with_reducible apply orwynRun_keeps | with_reducible apply keepsO_next
    | with_reducible apply keepsO_ite
    | exact keepsO_fault
    | dsimp -zeta -zetaHave only | lift_lets -underBinder | split

def execOPop_may : Nat :=
  State.orwyn_may
theorem execOPop_keeps {M : Nat} {S0 : State} (u : RunUnit) (d : V) (q : Fin 128) {s : State} (gs : Keeps M S0 s) (gm : execOPop_may &&& M = execOPop_may := by decide +kernel) :
    KeepsO M S0 (execOPop u d q s) := by
  unfold execOPop
  repeat' first
    | with_reducible assumption
    | (intro x; refine keeps_cut (m := M) (s0 := S0) (x := x) ?_ ?_; all_goals first | (intro hx; clear_value x) | subst x)
    | (intro x; clear_value x)
    | intro _
    | with_reducible exact may_trans gm (by decide +kernel)
    | with_reducible apply keeps_ite | with_reducible apply orwyn_keeps | with_reducible apply keepsO_next
    | with_reducible apply keepsO_ite
    | exact keepsO_fault
    | dsimp -zeta -zetaHave only | lift_lets -underBinder | split

def execOQdep_may : Nat :=
  State.orwynRun_may
theorem execOQdep_keeps {M : Nat} {S0 : State} (u : RunUnit) (d : V) (q : Fin 128) {s : State} (gs : Keeps M S0 s) (gm : execOQdep_may &&& M = execOQdep_may := by decide +kernel) :
    KeepsO M S0 (execOQdep u d q s) := by
  unfold execOQdep
  repeat' first
    | with_reducible assumption | intro _
    | with_reducible exact may_trans gm (by decide +kernel)
    | with_reducible apply keeps_ite | with_reducible apply orwynRun_keeps | with_reducible apply keepsO_next
    | with_reducible apply keepsO_ite
    | exact keepsO_fault
    | dsimp -zeta -zetaHave only | split

def execOObjr_may : Nat :=
  State.orwynAt_may
theorem execOObjr_keeps {M : Nat} {S0 : State} (u : RunUnit) (d : V) (entry : Fin 16) (half : Bool) {s : State} (gs : Keeps M S0 s) (gm : execOObjr_may &&& M = execOObjr_may := by decide +kernel) :
    KeepsO M S0 (execOObjr u d entry half s) := by
  unfold execOObjr
  repeat' first
    | with_reducible assumption
    | (intro x; refine keeps_cut (m := M) (s0 := S0) (x := x) ?_ ?_; all_goals first | (intro hx; clear_value x) | subst x)
    | (intro x; clear_value x)
    | intro _
    | with_reducible exact may_trans gm (by decide +kernel)
    | with_reducible apply keeps_ite | with_reducible apply orwynAt_keeps | with_reducible apply keepsO_next
    | with_reducible apply keepsO_ite
    | exact keepsO_fault
    | dsimp -zeta -zetaHave only | lift_lets -underBinder | split

def execOObjw_may : Nat :=
  State.orwynRun_may
theorem execOObjw_keeps {M : Nat} {S0 : State} (u : RunUnit) (d : V) (entry : Fin 16) {s : State} (gs : Keeps M S0 s) (gm : execOObjw_may &&& M = execOObjw_may := by decide +kernel) :
    KeepsO M S0 (execOObjw u d entry s) := by
  unfold execOObjw
  repeat' first
    | with_reducible assumption
    | (intro x; refine keeps_cut (m := M) (s0 := S0) (x := x) ?_ ?_; all_goals first | (intro hx; clear_value x) | subst x)
    | (intro x; clear_value x)
    | intro _
    | with_reducible exact may_trans gm (by decide +kernel)
    | with_reducible apply keeps_ite | with_reducible apply orwynRun_keeps | with_reducible apply keepsO_next
    | with_reducible apply keepsO_ite
    | exact keepsO_fault
    | dsimp -zeta -zetaHave only | lift_lets -underBinder | split

-- Engines.lean

def State.beginRun_may : Nat :=
  State.startRun_may ||| State.setRun_may
theorem beginRun_keeps {M : Nat} {S0 : State} {s : State} (u : RunUnit) (p : Prog) (ctx slot : Nat) (gs : Keeps M S0 s) (gm : State.beginRun_may &&& M = State.beginRun_may := by decide +kernel) :
    Keeps M S0 (State.beginRun s u p ctx slot) := by
  unfold State.beginRun
  repeat' first
    | with_reducible assumption
    | (intro x; refine keeps_cut (m := M) (s0 := S0) (x := x) ?_ ?_; all_goals first | (intro hx; clear_value x) | subst x)
    | (intro x; clear_value x)
    | intro _
    | with_reducible exact may_trans gm (by decide +kernel)
    | with_reducible apply keeps_ite | with_reducible apply startRun_keeps | with_reducible apply setRun_keeps
    | dsimp -zeta -zetaHave only | lift_lets -underBinder | split

def execAxisProgramRun_may : Nat :=
  State.at_may ||| State.issue_may ||| State.beginRun_may
theorem execAxisProgramRun_keeps {M : Nat} {S0 : State} (t : Nat) (slot : Fin 4096) (m : SlotIn) {s : State} (gs : Keeps M S0 s) (gm : execAxisProgramRun_may &&& M = execAxisProgramRun_may := by decide +kernel) :
    KeepsO M S0 (execAxisProgramRun t slot m s) := by
  unfold execAxisProgramRun
  repeat' first
    | with_reducible assumption
    | refine keeps_fst (by with_reducible assumption) ?_
    | refine keeps_snd (by with_reducible assumption) ?_
    | (intro x; refine keeps_cut (m := M) (s0 := S0) (x := x) ?_ ?_; all_goals first | (intro hx; clear_value x) | subst x)
    | (intro x; clear_value x)
    | intro _
    | with_reducible exact may_trans gm (by decide +kernel)
    | with_reducible apply keeps_ite | with_reducible apply at_keeps | with_reducible apply issue_keeps
    | with_reducible apply beginRun_keeps | with_reducible apply keepsO_next | with_reducible apply keepsO_ite
    | exact keepsO_fault
    | dsimp -zeta -zetaHave only | lift_lets -underBinder | split

def State.holdProgram_may : Nat :=
  may .TRIP_STATE ||| State.wrLed_may
theorem holdProgram_keeps {M : Nat} {S0 : State} {s : State} (n : Nat) (gs : Keeps M S0 s) (gm : State.holdProgram_may &&& M = State.holdProgram_may := by decide +kernel) :
    Keeps M S0 (State.holdProgram s n) := by
  unfold State.holdProgram
  repeat' first
    | with_reducible assumption
    | (intro x; refine keeps_cut (m := M) (s0 := S0) (x := x) ?_ ?_; all_goals first | (intro hx; clear_value x) | subst x)
    | (intro x; clear_value x)
    | intro _
    | with_reducible exact may_trans gm (by decide +kernel)
    | with_reducible apply keeps_ite | with_reducible apply wrLed_keeps | with_reducible apply keeps_wr | dsimp -zeta -zetaHave only
    | lift_lets -underBinder | split

def execTripProgramRun_may : Nat :=
  may .tripAt ||| State.at_may ||| State.beginRun_may ||| State.holdProgram_may
theorem execTripProgramRun_keeps {M : Nat} {S0 : State} (t : Nat) (n : Fin 64) {s : State} (gs : Keeps M S0 s) (gm : execTripProgramRun_may &&& M = execTripProgramRun_may := by decide +kernel) :
    KeepsO M S0 (execTripProgramRun t n s) := by
  unfold execTripProgramRun
  repeat' first
    | with_reducible assumption
    | (intro x; refine keeps_cut (m := M) (s0 := S0) (x := x) ?_ ?_; all_goals first | (intro hx; clear_value x) | subst x)
    | (intro x; clear_value x)
    | intro _
    | with_reducible exact may_trans gm (by decide +kernel)
    | with_reducible apply keeps_ite | with_reducible apply at_keeps | with_reducible apply beginRun_keeps
    | with_reducible apply holdProgram_keeps | with_reducible apply keeps_wr | with_reducible apply keepsO_next
    | with_reducible apply keepsO_ite
    | exact keepsO_fault
    | dsimp -zeta -zetaHave only | lift_lets -underBinder | split

def execSlotCutOff_may : Nat :=
  may_runs ||| may_cutoffs ||| may .ENGINE_OVERRUNS ||| may .slotAt ||| State.count_may ||| State.tally_may ||| State.at_may |||
  State.traceIf_may ||| State.detect_may ||| State.failEngine_may
theorem execSlotCutOff_keeps {M : Nat} {S0 : State} (t : Nat) (slot : Fin 4096) {s : State} (gs : Keeps M S0 s) (gm : execSlotCutOff_may &&& M = execSlotCutOff_may := by decide +kernel) :
    KeepsO M S0 (execSlotCutOff t slot s) := by
  unfold execSlotCutOff
  repeat' first
    | with_reducible assumption
    | (intro x; refine keeps_cut (m := M) (s0 := S0) (x := x) ?_ ?_; all_goals first | (intro hx; clear_value x) | subst x)
    | (intro x; clear_value x)
    | intro _
    | with_reducible exact may_trans gm (by decide +kernel)
    | with_reducible apply keeps_ite | with_reducible apply count_keeps | with_reducible apply tally_keeps
    | with_reducible apply at_keeps | with_reducible apply traceIf_keeps | with_reducible apply detect_keeps
    | with_reducible apply failEngine_keeps | with_reducible apply keeps_wr
    | with_reducible exact Tbl.wf_nil
    | with_reducible apply Tbl.wf_tset | with_reducible apply Tbl.wf_filter | with_reducible apply Tbl.wf_tmap
    | with_reducible refine (Keeps.can (m := M) (s := S0) ?_ (by assumption)).runs
    | with_reducible refine (Keeps.can (m := M) (s := S0) ?_ (by assumption)).cutoffs | with_reducible apply keepsO_next
    | with_reducible apply keepsO_ite
    | exact keepsO_fault
    | dsimp -zeta -zetaHave only | lift_lets -underBinder | split | with_reducible apply keeps_runs | with_reducible apply keeps_cutoffs

def execSlotUncorrectable_may : Nat :=
  State.at_may ||| State.slotLost_may
theorem execSlotUncorrectable_keeps {M : Nat} {S0 : State} (t : Nat) (slot : Fin 4096) {s : State} (gs : Keeps M S0 s) (gm : execSlotUncorrectable_may &&& M = execSlotUncorrectable_may := by decide +kernel) :
    KeepsO M S0 (execSlotUncorrectable t slot s) := by
  unfold execSlotUncorrectable
  repeat' first
    | with_reducible assumption
    | (intro x; refine keeps_cut (m := M) (s0 := S0) (x := x) ?_ ?_; all_goals first | (intro hx; clear_value x) | subst x)
    | (intro x; clear_value x)
    | intro _
    | with_reducible exact may_trans gm (by decide +kernel)
    | with_reducible apply keeps_ite | with_reducible apply at_keeps | with_reducible apply slotLost_keeps
    | with_reducible apply keepsO_next | with_reducible apply keepsO_ite
    | exact keepsO_fault
    | dsimp -zeta -zetaHave only | lift_lets -underBinder | split

def execBankRebuildDone_may : Nat :=
  State.cfg_may ||| State.switchTo_may
theorem execBankRebuildDone_keeps {M : Nat} {S0 : State} {s : State} (gs : Keeps M S0 s) (gm : execBankRebuildDone_may &&& M = execBankRebuildDone_may := by decide +kernel) :
    KeepsO M S0 (execBankRebuildDone s) := by
  unfold execBankRebuildDone
  repeat' first
    | with_reducible assumption | intro _
    | with_reducible exact may_trans gm (by decide +kernel)
    | with_reducible apply keeps_ite | with_reducible apply cfg_keeps | with_reducible apply switchTo_keeps
    | with_reducible apply keepsO_next | with_reducible apply keepsO_ite
    | exact keepsO_fault
    | dsimp -zeta -zetaHave only | split

def execEngineFailing_may : Nat :=
  State.at_may ||| State.failEngine_may
theorem execEngineFailing_keeps {M : Nat} {S0 : State} (t : Nat) (e : Fin 8) (storeError : Bool) {s : State} (gs : Keeps M S0 s) (gm : execEngineFailing_may &&& M = execEngineFailing_may := by decide +kernel) :
    KeepsO M S0 (execEngineFailing t e storeError s) := by
  unfold execEngineFailing
  repeat' first
    | with_reducible assumption | intro _
    | with_reducible exact may_trans gm (by decide +kernel)
    | with_reducible apply keeps_ite | with_reducible apply at_keeps | with_reducible apply failEngine_keeps
    | with_reducible apply keepsO_next | with_reducible apply keepsO_ite
    | exact keepsO_fault
    | dsimp -zeta -zetaHave only | split

def State.enterFallback_may : Nat :=
  may .EFFECTIVE_SPARE ||| may .FALLBACK_FOR ||| may .REPLACE_COUNT ||| may .REPLACE_MARK ||| may .planBuild ||| State.count_may |||
  State.closeRec_may ||| State.endShadow_may ||| State.setRed_may ||| State.cfg_may ||| State.refreshPlan_may ||| State.switchTo_may
theorem enterFallback_keeps {M : Nat} {S0 : State} {s : State} (e : Nat) (gs : Keeps M S0 s) (gm : State.enterFallback_may &&& M = State.enterFallback_may := by decide +kernel) :
    Keeps M S0 (State.enterFallback s e) := by
  unfold State.enterFallback
  repeat' first
    | with_reducible assumption
    | (intro x; refine keeps_cut (m := M) (s0 := S0) (x := x) ?_ ?_; all_goals first | (intro hx; clear_value x) | subst x)
    | (intro x; clear_value x)
    | intro _
    | with_reducible exact may_trans gm (by decide +kernel)
    | with_reducible apply keeps_ite | with_reducible apply keeps_iff | with_reducible apply count_keeps
    | with_reducible apply closeRec_keeps | with_reducible apply endShadow_keeps | with_reducible apply setRed_keeps
    | with_reducible apply cfg_keeps | with_reducible apply refreshPlan_keeps | with_reducible apply switchTo_keeps
    | with_reducible apply keeps_wr | dsimp -zeta -zetaHave only | lift_lets -underBinder | split

def execFallbackLoadDone_may : Nat :=
  may .FALLBACK_FOR ||| may .planBuild ||| State.cfg_may ||| State.switchTo_may ||| State.enterFallback_may
theorem execFallbackLoadDone_keeps {M : Nat} {S0 : State} {s : State} (gs : Keeps M S0 s) (gm : execFallbackLoadDone_may &&& M = execFallbackLoadDone_may := by decide +kernel) :
    KeepsO M S0 (execFallbackLoadDone s) := by
  unfold execFallbackLoadDone
  repeat' first
    | with_reducible assumption | intro _
    | with_reducible exact may_trans gm (by decide +kernel)
    | with_reducible apply keeps_ite | with_reducible apply cfg_keeps | with_reducible apply switchTo_keeps
    | with_reducible apply enterFallback_keeps | with_reducible apply keeps_wr | with_reducible apply keepsO_next
    | with_reducible apply keepsO_ite
    | exact keepsO_fault
    | dsimp -zeta -zetaHave only | split

def execFallbackPlansBuilt_may : Nat :=
  may .planBuild ||| State.at_may ||| State.setRed_may ||| State.setFallback_may ||| State.exhausted_may
theorem execFallbackPlansBuilt_keeps {M : Nat} {S0 : State} (t : Nat) {s : State} (gs : Keeps M S0 s) (gm : execFallbackPlansBuilt_may &&& M = execFallbackPlansBuilt_may := by decide +kernel) :
    KeepsO M S0 (execFallbackPlansBuilt t s) := by
  unfold execFallbackPlansBuilt
  repeat' first
    | with_reducible assumption
    | (intro x; refine keeps_cut (m := M) (s0 := S0) (x := x) ?_ ?_; all_goals first | (intro hx; clear_value x) | subst x)
    | (intro x; clear_value x)
    | intro _
    | with_reducible exact may_trans gm (by decide +kernel)
    | with_reducible apply keeps_ite | with_reducible apply keeps_iff | with_reducible apply at_keeps | with_reducible apply setRed_keeps
    | with_reducible apply setFallback_keeps | with_reducible apply exhausted_keeps | with_reducible apply keeps_wr
    | with_reducible apply keepsO_next | with_reducible apply keepsO_ite
    | exact keepsO_fault
    | dsimp -zeta -zetaHave only | lift_lets -underBinder | split

def State.engineClear_may : Nat :=
  may .ENGINE_STATE ||| may .selfTest ||| may .selfTestAt
theorem engineClear_keeps {M : Nat} {S0 : State} {s : State} (v : Nat) (gs : Keeps M S0 s) (gm : State.engineClear_may &&& M = State.engineClear_may := by decide +kernel) :
    Keeps M S0 (State.engineClear s v).1 := by
  unfold State.engineClear
  repeat' first
    | with_reducible assumption | intro _
    | with_reducible exact may_trans gm (by decide +kernel)
    | with_reducible apply keeps_ite | with_reducible apply keeps_ite1 | with_reducible apply keeps_ite2 | with_reducible apply keeps_wr
    | dsimp -zeta -zetaHave only | split

def State.engineCleared_may : Nat :=
  may_cutoffs ||| may .EFFECTIVE_SPARE ||| may .ENGINE_STATE ||| may .leaveFallback ||| may .planBuild ||| State.endCause_may |||
  State.setRed_may ||| State.startLoad_may ||| State.exhausted_may
theorem engineCleared_keeps {M : Nat} {S0 : State} {s : State} (e : Nat) (gs : Keeps M S0 s) (gm : State.engineCleared_may &&& M = State.engineCleared_may := by decide +kernel) :
    Keeps M S0 (State.engineCleared s e) := by
  unfold State.engineCleared
  repeat' first
    | with_reducible assumption
    | (intro x; refine keeps_cut (m := M) (s0 := S0) (x := x) ?_ ?_; all_goals first | (intro hx; clear_value x) | subst x)
    | (intro x; clear_value x)
    | intro _
    | with_reducible exact may_trans gm (by decide +kernel)
    | with_reducible apply keeps_ite | with_reducible apply keeps_iff | with_reducible apply endCause_keeps
    | with_reducible apply setRed_keeps | with_reducible apply startLoad_keeps | with_reducible apply exhausted_keeps
    | with_reducible apply keeps_wr
    | with_reducible exact Tbl.wf_nil
    | with_reducible apply Tbl.wf_tset | with_reducible apply Tbl.wf_filter | with_reducible apply Tbl.wf_tmap
    | with_reducible refine (Keeps.can (m := M) (s := S0) ?_ (by assumption)).cutoffs | dsimp -zeta -zetaHave only
    | lift_lets -underBinder | split | with_reducible apply keeps_cutoffs

def execEngineSelfTestDone_may : Nat :=
  may .ENGINE_STATE ||| may .selfTest ||| State.tally_may ||| State.at_may ||| State.detect_may ||| State.fire_may |||
  State.unfire_may ||| State.finish_may ||| State.endAtMark_may ||| State.engineCleared_may
theorem execEngineSelfTestDone_keeps {M : Nat} {S0 : State} (t : Nat) (e : Fin 8) (pass : Bool) {s : State} (gs : Keeps M S0 s) (gm : execEngineSelfTestDone_may &&& M = execEngineSelfTestDone_may := by decide +kernel) :
    KeepsO M S0 (execEngineSelfTestDone t e pass s) := by
  unfold execEngineSelfTestDone
  repeat' first
    | with_reducible assumption
    | (intro x; refine keeps_cut (m := M) (s0 := S0) (x := x) ?_ ?_; all_goals first | (intro hx; clear_value x) | subst x)
    | (intro x; subst x)
    | intro _
    | with_reducible exact may_trans gm (by decide +kernel)
    | with_reducible apply keeps_ite | with_reducible apply tally_keeps | with_reducible apply at_keeps
    | with_reducible apply detect_keeps | with_reducible apply fire_keeps | with_reducible apply unfire_keeps
    | with_reducible apply finish_keeps | with_reducible apply endAtMark_keeps | with_reducible apply engineCleared_keeps
    | with_reducible apply keeps_wr | with_reducible apply keepsO_next | with_reducible apply keepsO_ite
    | exact keepsO_fault
    | dsimp -zeta -zetaHave only | lift_lets -underBinder | split

def execLedgerScrub_may : Nat :=
  State.at_may ||| State.fire_may ||| State.unfire_may ||| State.ledgerEcc_may
theorem execLedgerScrub_keeps {M : Nat} {S0 : State} (t : Nat) (n : Fin 64) (w : Fin 64) (ecc : Ecc) {s : State} (gs : Keeps M S0 s) (gm : execLedgerScrub_may &&& M = execLedgerScrub_may := by decide +kernel) :
    KeepsO M S0 (execLedgerScrub t n w ecc s) := by
  unfold execLedgerScrub
  repeat' first
    | with_reducible assumption
    | (intro x; refine keeps_cut (m := M) (s0 := S0) (x := x) ?_ ?_; all_goals first | (intro hx; clear_value x) | subst x)
    | (intro x; clear_value x)
    | intro _
    | with_reducible exact may_trans gm (by decide +kernel)
    | with_reducible apply keeps_ite | with_reducible apply at_keeps | with_reducible apply fire_keeps
    | with_reducible apply unfire_keeps | with_reducible apply ledgerEcc_keeps | with_reducible apply keepsO_next
    | with_reducible apply keepsO_ite
    | exact keepsO_fault
    | dsimp -zeta -zetaHave only | lift_lets -underBinder | split

-- Supply.lean

def execFeedLost_may : Nat :=
  State.at_may ||| State.endCause_may ||| State.detect_may ||| State.setRed_may
theorem execFeedLost_keeps {M : Nat} {S0 : State} (t : Nat) (feed : Fin 3) (volt : Nat) {s : State} (gs : Keeps M S0 s) (gm : execFeedLost_may &&& M = execFeedLost_may := by decide +kernel) :
    KeepsO M S0 (execFeedLost t feed volt s) := by
  unfold execFeedLost
  repeat' first
    | with_reducible assumption
    | (intro x; refine keeps_cut (m := M) (s0 := S0) (x := x) ?_ ?_; all_goals first | (intro hx; clear_value x) | subst x)
    | (intro x; clear_value x)
    | intro _
    | with_reducible exact may_trans gm (by decide +kernel)
    | with_reducible apply keeps_ite | with_reducible apply at_keeps | with_reducible apply endCause_keeps
    | with_reducible apply detect_keeps | with_reducible apply setRed_keeps | with_reducible apply keepsO_next
    | with_reducible apply keepsO_ite
    | exact keepsO_fault
    | dsimp -zeta -zetaHave only | lift_lets -underBinder | split

def execFeedRestored_may : Nat :=
  may .feedSeen ||| State.at_may ||| State.endCause_may ||| State.setRed_may
theorem execFeedRestored_keeps {M : Nat} {S0 : State} (t : Nat) (feed : Fin 2) {s : State} (gs : Keeps M S0 s) (gm : execFeedRestored_may &&& M = execFeedRestored_may := by decide +kernel) :
    KeepsO M S0 (execFeedRestored t feed s) := by
  unfold execFeedRestored
  repeat' first
    | with_reducible assumption
    | (intro x; refine keeps_cut (m := M) (s0 := S0) (x := x) ?_ ?_; all_goals first | (intro hx; clear_value x) | subst x)
    | (intro x; clear_value x)
    | intro _
    | with_reducible exact may_trans gm (by decide +kernel)
    | with_reducible apply keeps_ite | with_reducible apply wrBit_keeps | with_reducible apply at_keeps
    | with_reducible apply endCause_keeps | with_reducible apply setRed_keeps | with_reducible apply keepsO_next
    | with_reducible apply keepsO_ite
    | exact keepsO_fault
    | dsimp -zeta -zetaHave only | lift_lets -underBinder | split

def execLogicBuckLost_may : Nat :=
  State.at_may ||| State.detect_may ||| State.setRed_may
theorem execLogicBuckLost_keeps {M : Nat} {S0 : State} (t : Nat) (buck : Fin 2) (volt : Nat) {s : State} (gs : Keeps M S0 s) (gm : execLogicBuckLost_may &&& M = execLogicBuckLost_may := by decide +kernel) :
    KeepsO M S0 (execLogicBuckLost t buck volt s) := by
  unfold execLogicBuckLost
  repeat' first
    | with_reducible assumption
    | (intro x; refine keeps_cut (m := M) (s0 := S0) (x := x) ?_ ?_; all_goals first | (intro hx; clear_value x) | subst x)
    | (intro x; clear_value x)
    | intro _
    | with_reducible exact may_trans gm (by decide +kernel)
    | with_reducible apply keeps_ite | with_reducible apply at_keeps | with_reducible apply detect_keeps
    | with_reducible apply setRed_keeps | with_reducible apply keepsO_next | with_reducible apply keepsO_ite
    | exact keepsO_fault
    | dsimp -zeta -zetaHave only | lift_lets -underBinder | split

def execLogicBuckRestored_may : Nat :=
  State.at_may ||| State.endCause_may ||| State.setRed_may
theorem execLogicBuckRestored_keeps {M : Nat} {S0 : State} (t : Nat) (buck : Fin 2) {s : State} (gs : Keeps M S0 s) (gm : execLogicBuckRestored_may &&& M = execLogicBuckRestored_may := by decide +kernel) :
    KeepsO M S0 (execLogicBuckRestored t buck s) := by
  unfold execLogicBuckRestored
  repeat' first
    | with_reducible assumption
    | (intro x; refine keeps_cut (m := M) (s0 := S0) (x := x) ?_ ?_; all_goals first | (intro hx; clear_value x) | subst x)
    | (intro x; clear_value x)
    | intro _
    | with_reducible exact may_trans gm (by decide +kernel)
    | with_reducible apply keeps_ite | with_reducible apply at_keeps | with_reducible apply endCause_keeps
    | with_reducible apply setRed_keeps | with_reducible apply keepsO_next | with_reducible apply keepsO_ite
    | exact keepsO_fault
    | dsimp -zeta -zetaHave only | lift_lets -underBinder | split

def execAuxLost_may : Nat :=
  State.at_may ||| State.detect_may ||| State.setRed_may
theorem execAuxLost_keeps {M : Nat} {S0 : State} (t : Nat) {s : State} (gs : Keeps M S0 s) (gm : execAuxLost_may &&& M = execAuxLost_may := by decide +kernel) :
    KeepsO M S0 (execAuxLost t s) := by
  unfold execAuxLost
  repeat' first
    | with_reducible assumption
    | (intro x; refine keeps_cut (m := M) (s0 := S0) (x := x) ?_ ?_; all_goals first | (intro hx; clear_value x) | subst x)
    | (intro x; clear_value x)
    | intro _
    | with_reducible exact may_trans gm (by decide +kernel)
    | with_reducible apply keeps_ite | with_reducible apply at_keeps | with_reducible apply detect_keeps
    | with_reducible apply setRed_keeps | with_reducible apply keepsO_next | with_reducible apply keepsO_ite
    | exact keepsO_fault
    | dsimp -zeta -zetaHave only | lift_lets -underBinder | split

def execAuxRestored_may : Nat :=
  State.at_may ||| State.setRed_may
theorem execAuxRestored_keeps {M : Nat} {S0 : State} (t : Nat) {s : State} (gs : Keeps M S0 s) (gm : execAuxRestored_may &&& M = execAuxRestored_may := by decide +kernel) :
    KeepsO M S0 (execAuxRestored t s) := by
  unfold execAuxRestored
  repeat' first
    | with_reducible assumption | intro _
    | with_reducible exact may_trans gm (by decide +kernel)
    | with_reducible apply keeps_ite | with_reducible apply at_keeps | with_reducible apply setRed_keeps
    | with_reducible apply keepsO_next | with_reducible apply keepsO_ite
    | exact keepsO_fault
    | dsimp -zeta -zetaHave only

def State.showImage_may : Nat :=
  may .IMAGE_BUILD ||| may .IMAGE_STATE
theorem showImage_keeps {M : Nat} {S0 : State} {s : State} (n none' : Nat) (gs : Keeps M S0 s) (gm : State.showImage_may &&& M = State.showImage_may := by decide +kernel) :
    Keeps M S0 (State.showImage s n none') := by
  unfold State.showImage
  repeat' first
    | with_reducible assumption
    | (intro x; refine keeps_cut (m := M) (s0 := S0) (x := x) ?_ ?_; all_goals first | (intro hx; clear_value x) | subst x)
    | (intro x; clear_value x)
    | intro _
    | with_reducible exact may_trans gm (by decide +kernel)
    | with_reducible apply keeps_ite | with_reducible apply keeps_wr | dsimp -zeta -zetaHave only | lift_lets -underBinder | split

def State.interruptClose_may : Nat :=
  may_images ||| may_chunks ||| may .imgBusy ||| State.draw_may ||| State.showImage_may
theorem interruptClose_keeps0 {S0 : State} {s : State} (gs : Keeps State.interruptClose_may S0 s) : Keeps State.interruptClose_may S0 (State.interruptClose s) := by
  unfold State.interruptClose
  refine keeps_ite (keeps_chunks gs (by decide +kernel)) ?_
  extract_lets n len b
  have hd : Keeps State.interruptClose_may S0 (s.draw 2).2 := draw_keeps 2 gs
  generalize s.draw 2 = d at hd ⊢
  have key : ∀ t, Keeps State.interruptClose_may S0 t → Keeps State.interruptClose_may S0 (({ t with chunks := [] }.wr .imgBusy 0 0).showImage n 3) := fun t h =>
    showImage_keeps _ _ (keeps_wr (keeps_chunks h (by decide +kernel)) _ _ _ (by decide +kernel))
  have put : ∀ t k bs, Keeps State.interruptClose_may S0 t → Keeps State.interruptClose_may S0 { t with images := tset [] t.images (16 * k + n) bs } := fun t k bs h =>
    keeps_images h (by decide +kernel) (fun c0 => Tbl.wf_tset (h.can c0).images)
  exact key _ (keeps_ite hd (keeps_ite (put _ _ _ hd) (keeps_ite (put _ _ _ (put _ _ _ hd)) hd)))
theorem interruptClose_keeps {M : Nat} {S0 : State} {s : State} (gs : Keeps M S0 s) (gm : State.interruptClose_may &&& M = State.interruptClose_may := by decide +kernel) :
    Keeps M S0 (State.interruptClose s) :=
  gs.trans ((interruptClose_keeps0  (keeps_refl _ s)).mono gm)

def execStewardLost_may : Nat :=
  may_newSet ||| may .commitRun ||| may .modeReq ||| may .takeover ||| may .takeoverAt ||| State.at_may ||| State.detectShadow_may
  ||| State.setRed_may ||| State.dropTransactions_may ||| State.endSwap_may ||| State.interruptClose_may
theorem execStewardLost_keeps {M : Nat} {S0 : State} (t : Nat) {s : State} (gs : Keeps M S0 s) (gm : execStewardLost_may &&& M = execStewardLost_may := by decide +kernel) :
    KeepsO M S0 (execStewardLost t s) := by
  unfold execStewardLost
  repeat' first
    | with_reducible assumption
    | (intro x; refine keeps_cut (m := M) (s0 := S0) (x := x) ?_ ?_; all_goals first | (intro hx; clear_value x) | subst x)
    | (intro x; clear_value x)
    | intro _
    | with_reducible exact may_trans gm (by decide +kernel)
    | with_reducible apply keeps_ite | with_reducible apply at_keeps | with_reducible apply detectShadow_keeps
    | with_reducible apply setRed_keeps | with_reducible apply dropTransactions_keeps | with_reducible apply endSwap_keeps
    | with_reducible apply interruptClose_keeps | with_reducible apply keeps_wr | with_reducible apply keepsO_next
    | with_reducible apply keepsO_ite
    | exact keepsO_fault
    | dsimp -zeta -zetaHave only | lift_lets -underBinder | split | with_reducible apply keeps_newSet

def execTakeoverComplete_may : Nat :=
  may .takeover ||| State.at_may ||| State.closeRec_may ||| State.endShadow_may ||| State.cfg_may
theorem execTakeoverComplete_keeps {M : Nat} {S0 : State} (t : Nat) {s : State} (gs : Keeps M S0 s) (gm : execTakeoverComplete_may &&& M = execTakeoverComplete_may := by decide +kernel) :
    KeepsO M S0 (execTakeoverComplete t s) := by
  unfold execTakeoverComplete
  repeat' first
    | with_reducible assumption
    | (intro x; refine keeps_cut (m := M) (s0 := S0) (x := x) ?_ ?_; all_goals first | (intro hx; clear_value x) | subst x)
    | (intro x; clear_value x)
    | intro _
    | with_reducible exact may_trans gm (by decide +kernel)
    | with_reducible apply keeps_ite | with_reducible apply at_keeps | with_reducible apply closeRec_keeps
    | with_reducible apply endShadow_keeps | with_reducible apply cfg_keeps | with_reducible apply keeps_wr
    | with_reducible apply keepsO_next | with_reducible apply keepsO_ite
    | exact keepsO_fault
    | dsimp -zeta -zetaHave only | lift_lets -underBinder | split

def State.tripOutput_may : Nat :=
  State.setRun_may
theorem tripOutput_keeps {M : Nat} {S0 : State} {s : State} (n w : Nat) (high : Bool) (out : Word32) (gs : Keeps M S0 s) (gm : State.tripOutput_may &&& M = State.tripOutput_may := by decide +kernel) :
    Keeps M S0 (State.tripOutput s n w high out) := by
  unfold State.tripOutput
  repeat' first
    | with_reducible assumption
    | (intro x; refine keeps_cut (m := M) (s0 := S0) (x := x) ?_ ?_; all_goals first | (intro hx; clear_value x) | subst x)
    | (intro x; clear_value x)
    | intro _
    | with_reducible exact may_trans gm (by decide +kernel)
    | with_reducible apply keeps_ite | with_reducible apply setRun_keeps | dsimp -zeta -zetaHave only | lift_lets -underBinder | split

def execTsMismatch_may : Nat :=
  may .tsTest ||| State.draw_may ||| State.at_may ||| State.detect_may ||| State.setRed_may ||| State.tripOutput_may
theorem execTsMismatch_keeps {M : Nat} {S0 : State} (t : Nat) (n w : Fin 64) (high : Bool) (out : Word32) {s : State} (gs : Keeps M S0 s) (gm : execTsMismatch_may &&& M = execTsMismatch_may := by decide +kernel) :
    KeepsO M S0 (execTsMismatch t n w high out s) := by
  unfold execTsMismatch
  repeat' first
    | with_reducible assumption
    | refine keeps_fst (by with_reducible assumption) ?_
    | refine keeps_snd (by with_reducible assumption) ?_
    | (intro x; refine keeps_cut (m := M) (s0 := S0) (x := x) ?_ ?_; all_goals first | (intro hx; clear_value x) | subst x)
    | (intro x; clear_value x)
    | intro _
    | with_reducible exact may_trans gm (by decide +kernel)
    | with_reducible apply keeps_ite | with_reducible apply keeps_iff | with_reducible apply draw_keeps | with_reducible apply at_keeps
    | with_reducible apply detect_keeps | with_reducible apply setRed_keeps | with_reducible apply tripOutput_keeps
    | with_reducible apply keeps_wr | with_reducible apply keepsO_next | with_reducible apply keepsO_ite
    | exact keepsO_fault
    | dsimp -zeta -zetaHave only | lift_lets -underBinder | split

def execTsSelfTest_may : Nat :=
  may .tsOut ||| may .tsTest ||| State.at_may ||| State.endCause_may ||| State.detect_may
theorem execTsSelfTest_keeps {M : Nat} {S0 : State} (t : Nat) (faulty : Option (Fin 2)) {s : State} (gs : Keeps M S0 s) (gm : execTsSelfTest_may &&& M = execTsSelfTest_may := by decide +kernel) :
    KeepsO M S0 (execTsSelfTest t faulty s) := by
  unfold execTsSelfTest
  repeat' first
    | with_reducible assumption
    | (intro x; refine keeps_cut (m := M) (s0 := S0) (x := x) ?_ ?_; all_goals first | (intro hx; clear_value x) | subst x)
    | (intro x; clear_value x)
    | intro _
    | with_reducible exact may_trans gm (by decide +kernel)
    | with_reducible apply keeps_ite | with_reducible apply at_keeps | with_reducible apply endCause_keeps
    | with_reducible apply detect_keeps | with_reducible apply keeps_wr | with_reducible apply keepsO_next
    | with_reducible apply keepsO_ite
    | exact keepsO_fault
    | dsimp -zeta -zetaHave only | lift_lets -underBinder | split

def State.wrFlash_may : Nat :=
  may_flash
theorem wrFlash_keeps {M : Nat} {S0 : State} {s : State} (b : Nat) (x : FlashSet) (gs : Keeps M S0 s) (gm : State.wrFlash_may &&& M = State.wrFlash_may := by decide +kernel) :
    Keeps M S0 (State.wrFlash s b x) := by
  unfold State.wrFlash
  repeat' first
    | with_reducible assumption
    | (intro x; refine keeps_cut (m := M) (s0 := S0) (x := x) ?_ ?_; all_goals first | (intro hx; clear_value x) | subst x)
    | (intro x; clear_value x)
    | intro _
    | with_reducible exact may_trans gm (by decide +kernel)
    | with_reducible apply keeps_ite
    | with_reducible exact Tbl.wf_nil
    | with_reducible apply Tbl.wf_tset | with_reducible apply Tbl.wf_filter | with_reducible apply Tbl.wf_tmap
    | with_reducible refine (Keeps.can (m := M) (s := S0) ?_ (by assumption)).flash | dsimp -zeta -zetaHave only | lift_lets -underBinder
    | with_reducible apply keeps_flash

def State.flashWarn_may : Nat :=
  State.detect_may
theorem flashWarn_keeps {M : Nat} {S0 : State} {s : State} (gs : Keeps M S0 s) (gm : State.flashWarn_may &&& M = State.flashWarn_may := by decide +kernel) :
    Keeps M S0 (State.flashWarn s) := by
  unfold State.flashWarn
  repeat' first
    | with_reducible assumption | intro _
    | with_reducible exact may_trans gm (by decide +kernel)
    | with_reducible apply keeps_ite | with_reducible apply detect_keeps | dsimp -zeta -zetaHave only | split

def State.flashConfig_may : Nat :=
  may .flashCur ||| State.cfg_may ||| State.wrFlash_may ||| State.flashWarn_may
theorem flashConfig_keeps0 {S0 : State} {s t : State} (cfg : Tbl Int) (gs : Keeps State.flashConfig_may S0 s) (e : State.flashConfig s cfg = some t) :
    Keeps State.flashConfig_may S0 t := by
  unfold State.flashConfig at e
  dsimp only at e
  split at e <;> cases e
  exact flashWarn_keeps (keeps_wr (wrFlash_keeps _ _ gs) _ _ _ (by decide +kernel))
theorem flashConfig_keeps {M : Nat} {S0 s t : State} (cfg : Tbl Int) (gs : Keeps M S0 s) (e : State.flashConfig s cfg = some t)
    (gm : State.flashConfig_may &&& M = State.flashConfig_may := by decide +kernel) : Keeps M S0 t :=
  gs.trans ((flashConfig_keeps0 cfg (keeps_refl _ s) e).mono gm)

def State.flashLockout_may : Nat :=
  may .LOCKOUT_FLAG ||| State.wrFlash_may ||| State.flashWarn_may
theorem flashLockout_keeps {M : Nat} {S0 : State} {s : State} (v : Bool) (gs : Keeps M S0 s) (gm : State.flashLockout_may &&& M = State.flashLockout_may := by decide +kernel) :
    Keeps M S0 (State.flashLockout s v) := by
  unfold State.flashLockout
  repeat' first
    | with_reducible assumption
    | (intro x; refine keeps_cut (m := M) (s0 := S0) (x := x) ?_ ?_; all_goals first | (intro hx; clear_value x) | subst x)
    | (intro x; clear_value x)
    | intro _
    | with_reducible exact may_trans gm (by decide +kernel)
    | with_reducible apply keeps_ite | with_reducible apply keeps_forList | with_reducible apply wrFlash_keeps
    | with_reducible apply flashWarn_keeps | with_reducible apply keeps_wr | dsimp -zeta -zetaHave only | lift_lets -underBinder | split

def execFlashBankLost_may : Nat :=
  may .flashBad ||| State.at_may ||| State.detect_may ||| State.setRed_may
theorem execFlashBankLost_keeps {M : Nat} {S0 : State} (t : Nat) (bank : Fin 2) {s : State} (gs : Keeps M S0 s) (gm : execFlashBankLost_may &&& M = execFlashBankLost_may := by decide +kernel) :
    KeepsO M S0 (execFlashBankLost t bank s) := by
  unfold execFlashBankLost
  repeat' first
    | with_reducible assumption
    | (intro x; refine keeps_cut (m := M) (s0 := S0) (x := x) ?_ ?_; all_goals first | (intro hx; clear_value x) | subst x)
    | (intro x; clear_value x)
    | intro _
    | with_reducible exact may_trans gm (by decide +kernel)
    | with_reducible apply keeps_ite | with_reducible apply wrBit_keeps | with_reducible apply at_keeps
    | with_reducible apply detect_keeps | with_reducible apply setRed_keeps | with_reducible apply keepsO_next
    | with_reducible apply keepsO_ite
    | exact keepsO_fault
    | dsimp -zeta -zetaHave only | lift_lets -underBinder | split

def execFlashBankRestored_may : Nat :=
  may .flashBad ||| State.at_may ||| State.endCause_may ||| State.setRed_may
theorem execFlashBankRestored_keeps {M : Nat} {S0 : State} (t : Nat) (bank : Fin 2) {s : State} (gs : Keeps M S0 s) (gm : execFlashBankRestored_may &&& M = execFlashBankRestored_may := by decide +kernel) :
    KeepsO M S0 (execFlashBankRestored t bank s) := by
  unfold execFlashBankRestored
  repeat' first
    | with_reducible assumption
    | (intro x; refine keeps_cut (m := M) (s0 := S0) (x := x) ?_ ?_; all_goals first | (intro hx; clear_value x) | subst x)
    | (intro x; clear_value x)
    | intro _
    | with_reducible exact may_trans gm (by decide +kernel)
    | with_reducible apply keeps_ite | with_reducible apply wrBit_keeps | with_reducible apply at_keeps
    | with_reducible apply endCause_keeps | with_reducible apply setRed_keeps | with_reducible apply keepsO_next
    | with_reducible apply keepsO_ite
    | exact keepsO_fault
    | dsimp -zeta -zetaHave only | lift_lets -underBinder | split

def State.sdramFixed_may : Nat :=
  State.tally_may ||| State.detect_may
theorem sdramFixed_keeps {M : Nat} {S0 : State} {s : State} (gs : Keeps M S0 s) (gm : State.sdramFixed_may &&& M = State.sdramFixed_may := by decide +kernel) :
    Keeps M S0 (State.sdramFixed s) := by
  unfold State.sdramFixed
  repeat' first
    | with_reducible assumption | intro _
    | with_reducible exact may_trans gm (by decide +kernel)
    | with_reducible apply keeps_ite | with_reducible apply tally_keeps | with_reducible apply detect_keeps | dsimp -zeta -zetaHave only

def State.loseEntry_may : Nat :=
  may_log ||| may_planCopy ||| may_fallback ||| may_loading ||| may_traceBuf ||| State.draw_may ||| State.wrTag_may |||
  State.slotGone_may
theorem loseEntry_keeps0 {S0 : State} {s : State} (gs : Keeps State.loseEntry_may S0 s) : Keeps State.loseEntry_may S0 (State.loseEntry s) := by
  unfold State.loseEntry
  dsimp only
  have h1 : Keeps State.loseEntry_may S0 ((s.draw 3).2.draw 18).2 := draw_keeps 18 (draw_keeps 3 gs)
  split
  · exact keeps_log h1 (by decide +kernel) (fun c0 => Nat.le_trans (List.length_eraseIdx_le ..) (h1.can c0).log)
  · exact keeps_traceBuf h1 (by decide +kernel) (fun c0 => by rw [List.length_set]; exact (h1.can c0).traceBuf)
  · exact keeps_ite h1 (wrTag_keeps _ _ h1)
  · split
    · exact slotGone_keeps _ (keeps_loading h1 (by decide +kernel))
    · exact h1
  · exact keeps_planCopy h1 (by decide +kernel)
  · exact keeps_fallback h1 (by decide +kernel)
  · exact h1
theorem loseEntry_keeps {M : Nat} {S0 : State} {s : State} (gs : Keeps M S0 s) (gm : State.loseEntry_may &&& M = State.loseEntry_may := by decide +kernel) :
    Keeps M S0 (State.loseEntry s) :=
  gs.trans ((loseEntry_keeps0  (keeps_refl _ s)).mono gm)

def State.sdramLost_may : Nat :=
  State.detect_may ||| State.loseEntry_may
theorem sdramLost_keeps {M : Nat} {S0 : State} {s : State} (bank addr : Nat) (gs : Keeps M S0 s) (gm : State.sdramLost_may &&& M = State.sdramLost_may := by decide +kernel) :
    Keeps M S0 (State.sdramLost s bank addr) := by
  unfold State.sdramLost
  repeat' first
    | with_reducible assumption
    | (intro x; refine keeps_cut (m := M) (s0 := S0) (x := x) ?_ ?_; all_goals first | (intro hx; clear_value x) | subst x)
    | (intro x; clear_value x)
    | intro _
    | with_reducible exact may_trans gm (by decide +kernel)
    | with_reducible apply keeps_ite | with_reducible apply detect_keeps | with_reducible apply loseEntry_keeps
    | dsimp -zeta -zetaHave only | lift_lets -underBinder | split

def execSdramCorrected_may : Nat :=
  State.at_may ||| State.fire_may ||| State.unfire_may ||| State.sdramFixed_may ||| State.sdramLost_may
theorem execSdramCorrected_keeps {M : Nat} {S0 : State} (t : Nat) (bank : Fin 8) (addr : Nat) {s : State} (gs : Keeps M S0 s) (gm : execSdramCorrected_may &&& M = execSdramCorrected_may := by decide +kernel) :
    KeepsO M S0 (execSdramCorrected t bank addr s) := by
  unfold execSdramCorrected
  repeat' first
    | with_reducible assumption
    | (intro x; refine keeps_cut (m := M) (s0 := S0) (x := x) ?_ ?_; all_goals first | (intro hx; clear_value x) | subst x)
    | (intro x; clear_value x)
    | intro _
    | with_reducible exact may_trans gm (by decide +kernel)
    | with_reducible apply keeps_ite | with_reducible apply at_keeps | with_reducible apply fire_keeps
    | with_reducible apply unfire_keeps | with_reducible apply sdramFixed_keeps | with_reducible apply sdramLost_keeps
    | with_reducible apply keepsO_next | with_reducible apply keepsO_ite
    | exact keepsO_fault
    | dsimp -zeta -zetaHave only | lift_lets -underBinder | split

def execSdramUncorrectable_may : Nat :=
  State.at_may ||| State.fire_may ||| State.unfire_may ||| State.sdramLost_may
theorem execSdramUncorrectable_keeps {M : Nat} {S0 : State} (t : Nat) (bank : Fin 8) (addr : Nat) {s : State} (gs : Keeps M S0 s) (gm : execSdramUncorrectable_may &&& M = execSdramUncorrectable_may := by decide +kernel) :
    KeepsO M S0 (execSdramUncorrectable t bank addr s) := by
  unfold execSdramUncorrectable
  repeat' first
    | with_reducible assumption
    | (intro x; refine keeps_cut (m := M) (s0 := S0) (x := x) ?_ ?_; all_goals first | (intro hx; clear_value x) | subst x)
    | (intro x; clear_value x)
    | intro _
    | with_reducible exact may_trans gm (by decide +kernel)
    | with_reducible apply keeps_ite | with_reducible apply at_keeps | with_reducible apply fire_keeps
    | with_reducible apply unfire_keeps | with_reducible apply sdramLost_keeps | with_reducible apply keepsO_next
    | with_reducible apply keepsO_ite
    | exact keepsO_fault
    | dsimp -zeta -zetaHave only | lift_lets -underBinder | split

-- Checks.lean

def State.store_may : Nat :=
  may_log ||| may .LOG_WRAPPED ||| State.count_may
theorem store_keeps0 {S0 : State} {s : State} (r : Rec) (gs : Keeps State.store_may S0 s) : Keeps State.store_may S0 (State.store s r) := by
  have hp : ∀ (l : List Rec) (f : Rec → Bool), l.length = 4096 → (l.eraseIdx ((l.findIdx? f).getD 0)).length = 4095 := by
    intro l f h
    have hi : (l.findIdx? f).getD 0 < l.length := by
      cases e : l.findIdx? f with
      | none => simp [h]
      | some i => have := List.findIdx?_eq_some_iff_getElem.mp e; simpa using this.1
    rw [List.length_eraseIdx_of_lt hi, h]
  unfold State.store
  split
  · rename_i h
    have h2 : ∀ t : State, (t.count .LOG_WRAPPED 0).log = t.log := by
      intro t; unfold State.count; split <;> simp
    refine keeps_log (count_keeps _ _ _ _ (keeps_log gs (by decide +kernel) (fun c0 => ?_))) (by decide +kernel) (fun c0 => ?_)
    · have hl := (gs.can c0).log; have := List.length_eraseIdx_le s.log ((s.log.findIdx? (fun x => !s.protected x)).getD 0); omega
    have hl := (gs.can c0).log
    have h1 : (s.log.eraseIdx ((s.log.findIdx? (fun x => !s.protected x)).getD 0)).length = 4095 := hp _ _ (by omega)
    rw [h2]
    simp only [List.length_append, List.length_cons, List.length_nil]
    show _ + 1 ≤ _
    omega
  · exact keeps_log gs (by decide +kernel) (fun c0 => by simp only [List.length_append, List.length_cons, List.length_nil]; omega)
theorem store_keeps {M : Nat} {S0 : State} {s : State} (r : Rec) (gs : Keeps M S0 s) (gm : State.store_may &&& M = State.store_may := by decide +kernel) :
    Keeps M S0 (State.store s r) :=
  gs.trans ((store_keeps0 _ (keeps_refl _ s)).mono gm)

def execLogWrite_may : Nat :=
  State.at_may ||| State.pop_may ||| State.store_may
theorem execLogWrite_keeps {M : Nat} {S0 : State} (t : Nat) {s : State} (gs : Keeps M S0 s) (gm : execLogWrite_may &&& M = execLogWrite_may := by decide +kernel) :
    KeepsO M S0 (execLogWrite t s) := by
  unfold execLogWrite
  repeat' first
    | with_reducible assumption
    | refine keeps_fst (by with_reducible assumption) ?_
    | refine keeps_snd (by with_reducible assumption) ?_
    | (intro x; refine keeps_cut (m := M) (s0 := S0) (x := x) ?_ ?_; all_goals first | (intro hx; clear_value x) | subst x)
    | (intro x; clear_value x)
    | intro _
    | with_reducible exact may_trans gm (by decide +kernel)
    | with_reducible apply keeps_ite | with_reducible apply at_keeps | with_reducible apply pop_keeps | with_reducible apply store_keeps
    | with_reducible apply keepsO_next | with_reducible apply keepsO_ite
    | exact keepsO_fault
    | dsimp -zeta -zetaHave only | lift_lets -underBinder | split

def State.releaseHead_may : Nat :=
  may .HEAD_FIRST ||| may .HEAD_LAST ||| may .headDone
theorem releaseHead_keeps {M : Nat} {S0 : State} {s : State} (gs : Keeps M S0 s) (gm : State.releaseHead_may &&& M = State.releaseHead_may := by decide +kernel) :
    Keeps M S0 (State.releaseHead s) := by
  unfold State.releaseHead
  repeat' first
    | with_reducible assumption | intro _
    | with_reducible exact may_trans gm (by decide +kernel)
    | with_reducible apply keeps_ite | with_reducible apply keeps_wr | dsimp -zeta -zetaHave only | split

def execIncidentClose_may : Nat :=
  may .INCIDENT_OPEN ||| may .headDone ||| State.releaseHead_may
theorem execIncidentClose_keeps {M : Nat} {S0 : State} {s : State} (gs : Keeps M S0 s) (gm : execIncidentClose_may &&& M = execIncidentClose_may := by decide +kernel) :
    KeepsO M S0 (execIncidentClose s) := by
  unfold execIncidentClose
  repeat' first
    | with_reducible assumption
    | (intro x; refine keeps_cut (m := M) (s0 := S0) (x := x) ?_ ?_; all_goals first | (intro hx; clear_value x) | subst x)
    | (intro x; clear_value x)
    | intro _
    | with_reducible exact may_trans gm (by decide +kernel)
    | with_reducible apply keeps_ite | with_reducible apply keeps_iff | with_reducible apply releaseHead_keeps
    | with_reducible apply keeps_wr | with_reducible apply keepsO_next | with_reducible apply keepsO_ite
    | exact keepsO_fault
    | dsimp -zeta -zetaHave only | lift_lets -underBinder | split

def execShadowEnd_may : Nat :=
  may_shadows ||| State.at_may ||| State.closeRec_may
theorem execShadowEnd_keeps {M : Nat} {S0 : State} (t : Nat) (first : Nat) {s : State} (gs : Keeps M S0 s) (gm : execShadowEnd_may &&& M = execShadowEnd_may := by decide +kernel) :
    KeepsO M S0 (execShadowEnd t first s) := by
  unfold execShadowEnd
  repeat' first
    | with_reducible assumption
    | (intro x; refine keeps_cut (m := M) (s0 := S0) (x := x) ?_ ?_; all_goals first | (intro hx; clear_value x) | subst x)
    | (intro x; clear_value x)
    | intro _
    | with_reducible exact may_trans gm (by decide +kernel)
    | with_reducible apply keeps_ite | with_reducible apply keeps_foldl | with_reducible apply at_keeps
    | with_reducible apply closeRec_keeps | with_reducible apply keepsO_next | with_reducible apply keepsO_ite
    | exact keepsO_fault
    | dsimp -zeta -zetaHave only | lift_lets -underBinder | split | with_reducible apply keeps_shadows

def State.pathFault_may : Nat :=
  may .railOn ||| State.tally_may ||| State.detectShadow_may ||| State.setRed_may
theorem pathFault_keeps {M : Nat} {S0 : State} {s : State} (k : Nat) (trip : Bool) (gs : Keeps M S0 s) (gm : State.pathFault_may &&& M = State.pathFault_may := by decide +kernel) :
    Keeps M S0 (State.pathFault s k trip) := by
  unfold State.pathFault
  repeat' first
    | with_reducible assumption
    | (intro x; refine keeps_cut (m := M) (s0 := S0) (x := x) ?_ ?_; all_goals first | (intro hx; clear_value x) | subst x)
    | (intro x; clear_value x)
    | intro _
    | with_reducible exact may_trans gm (by decide +kernel)
    | with_reducible apply keeps_ite | with_reducible apply tally_keeps | with_reducible apply detectShadow_keeps
    | with_reducible apply setRed_keeps | with_reducible apply keeps_wr | dsimp -zeta -zetaHave only | lift_lets -underBinder | split

def execDualRail_may : Nat :=
  State.at_may ||| State.fire_may ||| State.unfire_may ||| State.pathFault_may
theorem execDualRail_keeps {M : Nat} {S0 : State} (t : Nat) (k : Fin 8) (tripPath : Bool) {s : State} (gs : Keeps M S0 s) (gm : execDualRail_may &&& M = execDualRail_may := by decide +kernel) :
    KeepsO M S0 (execDualRail t k tripPath s) := by
  unfold execDualRail
  repeat' first
    | with_reducible assumption
    | (intro x; refine keeps_cut (m := M) (s0 := S0) (x := x) ?_ ?_; all_goals first | (intro hx; clear_value x) | subst x)
    | (intro x; clear_value x)
    | intro _
    | with_reducible exact may_trans gm (by decide +kernel)
    | with_reducible apply keeps_ite | with_reducible apply at_keeps | with_reducible apply fire_keeps
    | with_reducible apply unfire_keeps | with_reducible apply pathFault_keeps | with_reducible apply keepsO_next
    | with_reducible apply keepsO_ite
    | exact keepsO_fault
    | dsimp -zeta -zetaHave only | lift_lets -underBinder | split

def execRailTestEnd_may : Nat :=
  may .RAIL_STATE ||| may .railOn ||| may .railStuck ||| State.at_may ||| State.onRecord_may ||| State.closeRec_may |||
  State.endCause_may ||| State.endShadow_may ||| State.detectShadow_may ||| State.holdDie_may
theorem execRailTestEnd_keeps {M : Nat} {S0 : State} (t : Nat) (k : Fin 8) (tripPath followsP followsN : Bool) {s : State} (gs : Keeps M S0 s) (gm : execRailTestEnd_may &&& M = execRailTestEnd_may := by decide +kernel) :
    KeepsO M S0 (execRailTestEnd t k tripPath followsP followsN s) := by
  unfold execRailTestEnd
  repeat' first
    | with_reducible assumption
    | (intro x; refine keeps_cut (m := M) (s0 := S0) (x := x) ?_ ?_; all_goals first | (intro hx; clear_value x) | subst x)
    | (intro x; clear_value x)
    | intro _
    | with_reducible exact may_trans gm (by decide +kernel)
    | with_reducible apply keeps_ite | with_reducible apply keeps_iff | with_reducible apply at_keeps
    | with_reducible apply onRecord_keeps | with_reducible apply closeRec_keeps | with_reducible apply endCause_keeps
    | with_reducible apply endShadow_keeps | with_reducible apply detectShadow_keeps | with_reducible apply holdDie_keeps
    | with_reducible apply keeps_wr | with_reducible apply keepsO_next | with_reducible apply keepsO_ite
    | exact keepsO_fault
    | dsimp -zeta -zetaHave only | lift_lets -underBinder | split

def execLinkParity_may : Nat :=
  may .ampShadow ||| may .ampSrcShadow ||| may .incShadow ||| State.draw_may ||| State.tally_may ||| State.at_may |||
  State.detect_may ||| State.fire_may ||| State.unfire_may
theorem execLinkParity_keeps {M : Nat} {S0 : State} (t : Nat) (k : Fin 8) (secondFails : Bool) {s : State} (gs : Keeps M S0 s) (gm : execLinkParity_may &&& M = execLinkParity_may := by decide +kernel) :
    KeepsO M S0 (execLinkParity t k secondFails s) := by
  unfold execLinkParity
  repeat' first
    | with_reducible assumption
    | refine keeps_fst (by with_reducible assumption) ?_
    | refine keeps_snd (by with_reducible assumption) ?_
    | (intro x; refine keeps_cut (m := M) (s0 := S0) (x := x) ?_ ?_; all_goals first | (intro hx; clear_value x) | subst x)
    | (intro x; clear_value x)
    | intro _
    | with_reducible exact may_trans gm (by decide +kernel)
    | with_reducible apply keeps_ite | with_reducible apply draw_keeps | with_reducible apply tally_keeps | with_reducible apply at_keeps
    | with_reducible apply detect_keeps | with_reducible apply fire_keeps | with_reducible apply unfire_keeps
    | with_reducible apply keeps_wr | with_reducible apply keepsO_next | with_reducible apply keepsO_ite
    | exact keepsO_fault
    | dsimp -zeta -zetaHave only | lift_lets -underBinder | split

def State.injectArm_may : Nat :=
  may .INJECT_STATE ||| may .injectAt
theorem injectArm_keeps {M : Nat} {S0 : State} {s : State} (gs : Keeps M S0 s) (gm : State.injectArm_may &&& M = State.injectArm_may := by decide +kernel) :
    Keeps M S0 (State.injectArm s) := by
  unfold State.injectArm
  repeat' first
    | with_reducible assumption | intro _
    | with_reducible exact may_trans gm (by decide +kernel)
    | with_reducible apply keeps_ite | with_reducible apply keeps_wr | dsimp -zeta -zetaHave only

def execInjectionLapse_may : Nat :=
  may .INJECT_STATE ||| State.at_may
theorem execInjectionLapse_keeps {M : Nat} {S0 : State} (t : Nat) {s : State} (gs : Keeps M S0 s) (gm : execInjectionLapse_may &&& M = execInjectionLapse_may := by decide +kernel) :
    KeepsO M S0 (execInjectionLapse t s) := by
  unfold execInjectionLapse
  repeat' first
    | with_reducible assumption
    | (intro x; refine keeps_cut (m := M) (s0 := S0) (x := x) ?_ ?_; all_goals first | (intro hx; clear_value x) | subst x)
    | (intro x; clear_value x)
    | intro _
    | with_reducible exact may_trans gm (by decide +kernel)
    | with_reducible apply keeps_ite | with_reducible apply at_keeps | with_reducible apply keeps_wr | with_reducible apply keepsO_next
    | with_reducible apply keepsO_ite
    | exact keepsO_fault
    | dsimp -zeta -zetaHave only | lift_lets -underBinder | split

def execTripiRise_may : Nat :=
  may .TRIPI_COUNT ||| may .TRIPI_LEVEL ||| State.count_may ||| State.at_may ||| State.detect_may
theorem execTripiRise_keeps {M : Nat} {S0 : State} (t : Nat) {s : State} (gs : Keeps M S0 s) (gm : execTripiRise_may &&& M = execTripiRise_may := by decide +kernel) :
    KeepsO M S0 (execTripiRise t s) := by
  unfold execTripiRise
  repeat' first
    | with_reducible assumption
    | (intro x; refine keeps_cut (m := M) (s0 := S0) (x := x) ?_ ?_; all_goals first | (intro hx; clear_value x) | subst x)
    | (intro x; clear_value x)
    | intro _
    | with_reducible exact may_trans gm (by decide +kernel)
    | with_reducible apply keeps_ite | with_reducible apply count_keeps | with_reducible apply at_keeps
    | with_reducible apply detect_keeps | with_reducible apply keeps_wr | with_reducible apply keepsO_next
    | with_reducible apply keepsO_ite
    | exact keepsO_fault
    | dsimp -zeta -zetaHave only | lift_lets -underBinder | split

def execTripiFall_may : Nat :=
  may .TRIPI_LEVEL ||| State.at_may ||| State.endCause_may
theorem execTripiFall_keeps {M : Nat} {S0 : State} (t : Nat) {s : State} (gs : Keeps M S0 s) (gm : execTripiFall_may &&& M = execTripiFall_may := by decide +kernel) :
    KeepsO M S0 (execTripiFall t s) := by
  unfold execTripiFall
  repeat' first
    | with_reducible assumption | intro _
    | with_reducible exact may_trans gm (by decide +kernel)
    | with_reducible apply keeps_ite | with_reducible apply at_keeps | with_reducible apply endCause_keeps
    | with_reducible apply keeps_wr | with_reducible apply keepsO_next | with_reducible apply keepsO_ite
    | exact keepsO_fault
    | dsimp -zeta -zetaHave only

-- Fabric.lean

def State.setHeld_may : Nat :=
  may .HELD ||| may .HELD_HI ||| may .HELD_LO
theorem setHeld_keeps {M : Nat} {S0 : State} {s : State} (q : Nat) (v : Bool) (gs : Keeps M S0 s) (gm : State.setHeld_may &&& M = State.setHeld_may := by decide +kernel) :
    Keeps M S0 (State.setHeld s q v) := by
  unfold State.setHeld
  repeat' first
    | with_reducible assumption
    | (intro x; refine keeps_cut (m := M) (s0 := S0) (x := x) ?_ ?_; all_goals first | (intro hx; clear_value x) | subst x)
    | (intro x; clear_value x)
    | intro _
    | with_reducible exact may_trans gm (by decide +kernel)
    | with_reducible apply keeps_ite | with_reducible apply wrBit_keeps | with_reducible apply keeps_wr | dsimp -zeta -zetaHave only
    | lift_lets -underBinder | split

def State.resetQueue_may : Nat :=
  may .POST_DROPS ||| may .RESETS ||| may .qVoid ||| State.count_may ||| State.tally_may ||| State.emptyQueue_may |||
  State.closeRec_may ||| State.endCause_may ||| State.detect_may ||| State.detectShadow_may ||| State.setHeld_may
theorem resetQueue_keeps {M : Nat} {S0 : State} {s : State} (q c data : Nat) (gs : Keeps M S0 s) (gm : State.resetQueue_may &&& M = State.resetQueue_may := by decide +kernel) :
    Keeps M S0 (State.resetQueue s q c data) := by
  unfold State.resetQueue
  repeat' first
    | with_reducible assumption
    | (intro x; refine keeps_cut (m := M) (s0 := S0) (x := x) ?_ ?_; all_goals first | (intro hx; clear_value x) | subst x)
    | (intro x; clear_value x)
    | intro _
    | with_reducible exact may_trans gm (by decide +kernel)
    | with_reducible apply keeps_ite | with_reducible apply keeps_iff | with_reducible apply count_keeps
    | with_reducible apply tally_keeps | with_reducible apply emptyQueue_keeps | with_reducible apply closeRec_keeps
    | with_reducible apply endCause_keeps | with_reducible apply detect_keeps | with_reducible apply detectShadow_keeps
    | with_reducible apply setHeld_keeps | with_reducible apply keeps_wr | dsimp -zeta -zetaHave only | lift_lets -underBinder | split

def execQueuePointer_may : Nat :=
  State.at_may ||| State.fire_may ||| State.unfire_may ||| State.resetQueue_may
theorem execQueuePointer_keeps {M : Nat} {S0 : State} (t : Nat) (q : Fin 80) (ptr : Fin 4) {s : State} (gs : Keeps M S0 s) (gm : execQueuePointer_may &&& M = execQueuePointer_may := by decide +kernel) :
    KeepsO M S0 (execQueuePointer t q ptr s) := by
  unfold execQueuePointer
  repeat' first
    | with_reducible assumption
    | (intro x; refine keeps_cut (m := M) (s0 := S0) (x := x) ?_ ?_; all_goals first | (intro hx; clear_value x) | subst x)
    | (intro x; clear_value x)
    | intro _
    | with_reducible exact may_trans gm (by decide +kernel)
    | with_reducible apply keeps_ite | with_reducible apply at_keeps | with_reducible apply fire_keeps
    | with_reducible apply unfire_keeps | with_reducible apply resetQueue_keeps | with_reducible apply keepsO_next
    | with_reducible apply keepsO_ite
    | exact keepsO_fault
    | dsimp -zeta -zetaHave only | lift_lets -underBinder | split

def execBasinEcc_may : Nat :=
  State.at_may ||| State.fire_may ||| State.unfire_may ||| State.resetQueue_may
theorem execBasinEcc_keeps {M : Nat} {S0 : State} (t : Nat) (q : Fin 80) (off : Nat) {s : State} (gs : Keeps M S0 s) (gm : execBasinEcc_may &&& M = execBasinEcc_may := by decide +kernel) :
    KeepsO M S0 (execBasinEcc t q off s) := by
  unfold execBasinEcc
  repeat' first
    | with_reducible assumption
    | (intro x; refine keeps_cut (m := M) (s0 := S0) (x := x) ?_ ?_; all_goals first | (intro hx; clear_value x) | subst x)
    | (intro x; clear_value x)
    | intro _
    | with_reducible exact may_trans gm (by decide +kernel)
    | with_reducible apply keeps_ite | with_reducible apply at_keeps | with_reducible apply fire_keeps
    | with_reducible apply unfire_keeps | with_reducible apply resetQueue_keeps | with_reducible apply keepsO_next
    | with_reducible apply keepsO_ite
    | exact keepsO_fault
    | dsimp -zeta -zetaHave only | lift_lets -underBinder | split

def State.releaseQueue_may : Nat :=
  may .qVoid ||| State.setHeld_may
theorem releaseQueue_keeps {M : Nat} {S0 : State} {s : State} (q : Nat) (gs : Keeps M S0 s) (gm : State.releaseQueue_may &&& M = State.releaseQueue_may := by decide +kernel) :
    Keeps M S0 (State.releaseQueue s q) := by
  unfold State.releaseQueue
  repeat' first
    | with_reducible assumption | intro _
    | with_reducible exact may_trans gm (by decide +kernel)
    | with_reducible apply keeps_ite | with_reducible apply setHeld_keeps | with_reducible apply keeps_wr | dsimp -zeta -zetaHave only
    | split

def State.mailPush_may : Nat :=
  State.push_may ||| State.pollWaits_may
theorem mailPush_keeps {M : Nat} {S0 : State} {s : State} (m : Nat) (bytes : List Byte) (gs : Keeps M S0 s) (gm : State.mailPush_may &&& M = State.mailPush_may := by decide +kernel) :
    Keeps M S0 (State.mailPush s m bytes).2 := by
  unfold State.mailPush
  repeat' first
    | with_reducible assumption
    | refine keeps_fst (by with_reducible assumption) ?_
    | refine keeps_snd (by with_reducible assumption) ?_
    | intro _
    | with_reducible exact may_trans gm (by decide +kernel)
    | with_reducible apply keeps_ite | with_reducible apply keeps_ite1 | with_reducible apply keeps_ite2
    | with_reducible apply push_keeps | with_reducible apply pollWaits_keeps | dsimp -zeta -zetaHave only | split

def State.fetchWords_may : Nat :=
  State.pop_may
theorem fetchWords_keeps0 {S0 : State} (n : Nat) : ∀ {s : State}, Keeps State.fetchWords_may S0 s → Keeps State.fetchWords_may S0 (State.fetchWords s n).2 := by
  induction n with
  | zero => intro s gs; exact gs
  | succ n ih =>
    intro s gs
    unfold State.fetchWords
    split <;> rename_i h <;> have h := keeps_fst h (pop_keeps 75 gs)
    · exact ih h
    · exact h
theorem fetchWords_keeps {M : Nat} {S0 s : State} (n : Nat) (gs : Keeps M S0 s)
    (gm : State.fetchWords_may &&& M = State.fetchWords_may := by decide +kernel) : Keeps M S0 (State.fetchWords s n).2 :=
  gs.trans ((fetchWords_keeps0 n (keeps_refl _ s)).mono gm)

def State.captureFetch_may : Nat :=
  may .CAPTURE_BUF ||| State.fetchWords_may
theorem captureFetch_keeps {M : Nat} {S0 : State} {s : State} (n : Nat) (gs : Keeps M S0 s) (gm : State.captureFetch_may &&& M = State.captureFetch_may := by decide +kernel) :
    Keeps M S0 (State.captureFetch s n) := by
  unfold State.captureFetch
  repeat' first
    | with_reducible assumption
    | refine keeps_fst (by with_reducible assumption) ?_
    | refine keeps_snd (by with_reducible assumption) ?_
    | (intro x; refine keeps_cut (m := M) (s0 := S0) (x := x) ?_ ?_; all_goals first | (intro hx; clear_value x) | subst x)
    | (intro x; clear_value x)
    | intro _
    | with_reducible exact may_trans gm (by decide +kernel)
    | with_reducible apply keeps_ite | with_reducible apply fetchWords_keeps | with_reducible apply keeps_wr | dsimp -zeta -zetaHave only
    | lift_lets -underBinder | split

-- Objects.lean

def State.hostRead_may : Nat :=
  State.transact_may
theorem hostRead_keeps {M : Nat} {S0 : State} {s : State} (h : Hdr) (idx sub : Nat) (gs : Keeps M S0 s) (gm : State.hostRead_may &&& M = State.hostRead_may := by decide +kernel) :
    Keeps M S0 (State.hostRead s h idx sub) := by
  unfold State.hostRead
  repeat' first
    | with_reducible assumption
    | (intro x; refine keeps_cut (m := M) (s0 := S0) (x := x) ?_ ?_; all_goals first | (intro hx; clear_value x) | subst x)
    | (intro x; clear_value x)
    | intro _
    | with_reducible exact may_trans gm (by decide +kernel)
    | with_reducible apply keeps_ite | with_reducible apply transact_keeps | dsimp -zeta -zetaHave only | lift_lets -underBinder | split

def execRead_may : Nat :=
  State.hostRead_may
theorem execRead_keeps {M : Nat} {S0 : State} (h : Hdr) (index sub : Nat) {s : State} (gs : Keeps M S0 s) (gm : execRead_may &&& M = execRead_may := by decide +kernel) :
    KeepsO M S0 (execRead h index sub s) := by
  unfold execRead
  repeat' first
    | with_reducible assumption | intro _
    | with_reducible exact may_trans gm (by decide +kernel)
    | with_reducible apply keeps_ite | with_reducible apply hostRead_keeps | with_reducible apply keepsO_next
    | with_reducible apply keepsO_ite
    | exact keepsO_fault
    | dsimp -zeta -zetaHave only

def State.hostReadBlock_may : Nat :=
  State.count_may ||| State.transact_may
theorem hostReadBlock_keeps {M : Nat} {S0 : State} {s : State} (h : Hdr) (idx sub count : Nat) (gs : Keeps M S0 s) (gm : State.hostReadBlock_may &&& M = State.hostReadBlock_may := by decide +kernel) :
    Keeps M S0 (State.hostReadBlock s h idx sub count) := by
  unfold State.hostReadBlock
  repeat' first
    | with_reducible assumption
    | (intro x; refine keeps_cut (m := M) (s0 := S0) (x := x) ?_ ?_; all_goals first | (intro hx; clear_value x) | subst x)
    | (intro x; clear_value x)
    | intro _
    | with_reducible exact may_trans gm (by decide +kernel)
    | with_reducible apply keeps_ite | with_reducible apply count_keeps | with_reducible apply transact_keeps
    | dsimp -zeta -zetaHave only | lift_lets -underBinder | split

def execReadBlock_may : Nat :=
  State.count_may ||| State.hostReadBlock_may
theorem execReadBlock_keeps {M : Nat} {S0 : State} (h : Hdr) (index sub count : Nat) {s : State} (gs : Keeps M S0 s) (gm : execReadBlock_may &&& M = execReadBlock_may := by decide +kernel) :
    KeepsO M S0 (execReadBlock h index sub count s) := by
  unfold execReadBlock
  repeat' first
    | with_reducible assumption | intro _
    | with_reducible exact may_trans gm (by decide +kernel)
    | with_reducible apply keeps_ite | with_reducible apply count_keeps | with_reducible apply hostReadBlock_keeps
    | with_reducible apply keepsO_next | with_reducible apply keepsO_ite
    | exact keepsO_fault
    | dsimp -zeta -zetaHave only

end Sys2Proof.Machine
end

