-- ==== Sys2Proof/Laws/KeepsHost.lean ====
section
/-! SUPPORT. One lemma per operation: all that it may change, that the waiting commands stay, and that the canonical form is kept. Here:
COMMIT, plan swap, dictionary writes and modes. `X_may` is the mask of what the operation `X` may change. -/
namespace Sys2Proof.Machine

set_option Elab.async false
set_option linter.unusedTactic false
set_option linter.unreachableTactic false

-- Commit.lean

def State.overlay_may : Nat :=
  mayAll
theorem overlay_keeps {M : Nat} {S0 : State} {s : State} (l : List (Nat × Int)) (gs : Keeps M S0 s) (gm : State.overlay_may &&& M = State.overlay_may := by decide +kernel) :
    Keeps M S0 (State.overlay s l) := by
  unfold State.overlay
  repeat' first
    | with_reducible assumption | intro _
    | with_reducible exact may_trans gm (by decide +kernel)
    | with_reducible exact may_trans (may_trans gm (by decide +kernel)) (may_reg _)
    | with_reducible apply keeps_ite | with_reducible apply keeps_foldl | with_reducible apply keeps_wr | dsimp -zeta -zetaHave only
    | split

def State.modeChannel_may : Nat :=
  may .CH_FLAGS ||| may .absErr ||| may .absHave ||| may .edgeAt ||| may .edgeN ||| may .ssiMono ||| may .ssiOld ||| may .ssiState
  ||| State.endCause_may ||| State.devOff_may ||| State.chInvalid_may ||| State.chValid_may
theorem modeChannel_keeps {M : Nat} {S0 : State} {s : State} (c : Nat) (gs : Keeps M S0 s) (gm : State.modeChannel_may &&& M = State.modeChannel_may := by decide +kernel) :
    Keeps M S0 (State.modeChannel s c) := by
  unfold State.modeChannel
  repeat' first
    | with_reducible assumption
    | (intro x; refine keeps_cut (m := M) (s0 := S0) (x := x) ?_ ?_; all_goals first | (intro hx; clear_value x) | subst x)
    | (intro x; clear_value x)
    | intro _
    | with_reducible exact may_trans gm (by decide +kernel)
    | with_reducible apply keeps_ite | with_reducible apply wrBit_keeps | with_reducible apply endCause_keeps
    | with_reducible apply devOff_keeps | with_reducible apply chInvalid_keeps | with_reducible apply chValid_keeps
    | with_reducible apply keeps_wr | dsimp -zeta -zetaHave only | lift_lets -underBinder | split

def State.rebase_may : Nat :=
  may_streams ||| may .srcFrom ||| may .srcGoal ||| may .srcLost ||| may .srcMark ||| may .srcNew ||| may .srcOk ||| may .srcSpan
theorem rebase_keeps {M : Nat} {S0 : State} {s : State} (n : Nat) (gs : Keeps M S0 s) (gm : State.rebase_may &&& M = State.rebase_may := by decide +kernel) :
    Keeps M S0 (State.rebase s n) := by
  unfold State.rebase
  repeat' first
    | with_reducible assumption
    | (intro x; refine keeps_cut (m := M) (s0 := S0) (x := x) ?_ ?_; all_goals first | (intro hx; clear_value x) | subst x)
    | (intro x; clear_value x)
    | intro _
    | with_reducible exact may_trans gm (by decide +kernel)
    | with_reducible apply keeps_ite | with_reducible apply keeps_wr
    | with_reducible exact Tbl.wf_nil
    | with_reducible apply Tbl.wf_tset | with_reducible apply Tbl.wf_filter | with_reducible apply Tbl.wf_tmap
    | with_reducible refine (Keeps.can (m := M) (s := S0) ?_ (by assumption)).streams | dsimp -zeta -zetaHave only
    | lift_lets -underBinder | split | with_reducible apply keeps_streams

def State.adoptAxis_may : Nat :=
  may .LOW_MARK ||| may .SHAPE_RMS ||| State.emptyQueue_may ||| State.limitInputs_may ||| State.resetAdapt_may |||
  State.dropDiag_may ||| State.activateSig_may ||| State.rebase_may
theorem adoptAxis_keeps {M : Nat} {S0 : State} {s : State} {old : State} (l : List (Nat × Int)) (n : Nat) (gs : Keeps M S0 s) (gold : Keeps M S0 old) (gm : State.adoptAxis_may &&& M = State.adoptAxis_may := by decide +kernel) :
    Keeps M S0 (State.adoptAxis s old l n) := by
  unfold State.adoptAxis
  repeat' first
    | with_reducible assumption
    | (intro x; refine keeps_cut (m := M) (s0 := S0) (x := x) ?_ ?_; all_goals first | (intro hx; clear_value x) | subst x)
    | (intro x; clear_value x)
    | intro _
    | with_reducible exact may_trans gm (by decide +kernel)
    | with_reducible apply keeps_ite | with_reducible apply keeps_iff | with_reducible apply emptyQueue_keeps
    | with_reducible apply limitInputs_keeps | with_reducible apply resetAdapt_keeps | with_reducible apply dropDiag_keeps
    | with_reducible apply activateSig_keeps | with_reducible apply rebase_keeps | with_reducible apply keeps_wr
    | dsimp -zeta -zetaHave only | lift_lets -underBinder | split

def State.invertSense_may : Nat :=
  State.senseChange_may
theorem invertSense_keeps {M : Nat} {S0 : State} {s : State} (i : Nat) (gs : Keeps M S0 s) (gm : State.invertSense_may &&& M = State.invertSense_may := by decide +kernel) :
    Keeps M S0 (State.invertSense s i) := by
  unfold State.invertSense
  repeat' first
    | with_reducible assumption
    | (intro x; refine keeps_cut (m := M) (s0 := S0) (x := x) ?_ ?_; all_goals first | (intro hx; clear_value x) | subst x)
    | (intro x; clear_value x)
    | intro _
    | with_reducible exact may_trans gm (by decide +kernel)
    | with_reducible apply keeps_ite | with_reducible apply senseChange_keeps | dsimp -zeta -zetaHave only | lift_lets -underBinder

def State.adoptRest_may : Nat :=
  may .cvUrg ||| may .syncLevel ||| may .syncNext ||| State.emptyQueue_may ||| State.chBounds_may ||| State.cvRejoin_may |||
  State.modeChannel_may ||| State.invertSense_may
theorem adoptRest_keeps {M : Nat} {S0 : State} {s : State} {old : State} (gs : Keeps M S0 s) (gold : Keeps M S0 old) (gm : State.adoptRest_may &&& M = State.adoptRest_may := by decide +kernel) :
    Keeps M S0 (State.adoptRest s old) := by
  unfold State.adoptRest
  repeat' first
    | with_reducible assumption
    | (intro x; refine keeps_cut (m := M) (s0 := S0) (x := x) ?_ ?_; all_goals first | (intro hx; clear_value x) | subst x)
    | (intro x; clear_value x)
    | intro _
    | with_reducible exact may_trans gm (by decide +kernel)
    | with_reducible apply keeps_ite | with_reducible apply keeps_forAll | with_reducible apply keeps_iff
    | with_reducible apply emptyQueue_keeps | with_reducible apply chBounds_keeps | with_reducible apply cvRejoin_keeps
    | with_reducible apply modeChannel_keeps | with_reducible apply invertSense_keeps | with_reducible apply keeps_wr
    | dsimp -zeta -zetaHave only | lift_lets -underBinder | split

def State.adoptPlan_may : Nat :=
  may_progs ||| may .BASIN_BANK ||| may .EFFECTIVE_SPARE ||| may .FALLBACK_FOR ||| may .leaveFallback ||| may .planBuild ||| may
  .planPlaced ||| State.setRed_may ||| State.cfg_may ||| State.switchTo_may ||| State.setFallback_may
theorem adoptPlan_keeps {M : Nat} {S0 : State} {s : State} (x : NewSet) (gs : Keeps M S0 s) (gm : State.adoptPlan_may &&& M = State.adoptPlan_may := by decide +kernel) :
    Keeps M S0 (State.adoptPlan s x) := by
  unfold State.adoptPlan
  repeat' first
    | with_reducible assumption
    | (intro x; refine keeps_cut (m := M) (s0 := S0) (x := x) ?_ ?_; all_goals first | (intro hx; clear_value x) | subst x)
    | (intro x; clear_value x)
    | intro _
    | with_reducible exact may_trans gm (by decide +kernel)
    | with_reducible apply keeps_ite | with_reducible apply keeps_iff | with_reducible apply keeps_foldl
    | with_reducible apply setRed_keeps | with_reducible apply cfg_keeps | with_reducible apply switchTo_keeps
    | with_reducible apply setFallback_keeps | with_reducible apply keeps_wr | dsimp -zeta -zetaHave only | lift_lets -underBinder
    | split | with_reducible apply keeps_progs

def State.adopt_may : Nat :=
  may_newSet ||| State.checkSync_may ||| State.overlay_may ||| State.adoptAxis_may ||| State.adoptRest_may ||| State.adoptPlan_may
theorem adopt_keeps {M : Nat} {S0 : State} {s : State} (x : NewSet) (gs : Keeps M S0 s) (gm : State.adopt_may &&& M = State.adopt_may := by decide +kernel) :
    Keeps M S0 (State.adopt s x) := by
  unfold State.adopt
  repeat' first
    | with_reducible assumption
    | (intro x; refine keeps_cut (m := M) (s0 := S0) (x := x) ?_ ?_; all_goals first | (intro hx; clear_value x) | subst x)
    | (intro x; clear_value x)
    | intro _
    | with_reducible exact may_trans gm (by decide +kernel)
    | with_reducible apply keeps_ite | with_reducible apply keeps_forAll | with_reducible apply checkSync_keeps
    | with_reducible apply overlay_keeps | with_reducible apply adoptAxis_keeps | with_reducible apply adoptRest_keeps
    | with_reducible apply adoptPlan_keeps | dsimp -zeta -zetaHave only | lift_lets -underBinder | split
    | with_reducible apply keeps_newSet

def State.tryCommit_may : Nat :=
  may_newSet ||| may .commitRun ||| may .loadEnd ||| State.overlay_may
theorem tryCommit_keeps0 {S0 : State} {s t : State} (gs : Keeps State.tryCommit_may S0 s) (e : State.tryCommit s = .inr t) : Keeps State.tryCommit_may S0 t := by
  unfold State.tryCommit at e
  dsimp only at e
  split at e
  · cases e
  · split at e
    · cases e
    · split at e
      · cases e
      · cases e
        exact keeps_wr (keeps_wr (keeps_newSet gs (by decide +kernel)) _ _ _ (by decide +kernel)) _ _ _
          (by decide +kernel)
theorem tryCommit_keeps {M : Nat} {S0 s t : State} (gs : Keeps M S0 s) (e : State.tryCommit s = .inr t)
    (gm : State.tryCommit_may &&& M = State.tryCommit_may := by decide +kernel) : Keeps M S0 t :=
  gs.trans ((tryCommit_keeps0 (keeps_refl _ s) e).mono gm)

def State.commit_may : Nat :=
  State.report_may ||| State.tryCommit_may
theorem commit_keeps0 {S0 : State} {s : State} (gs : Keeps State.commit_may S0 s) : Keeps State.commit_may S0 (State.commit s).1 := by
  unfold State.commit
  dsimp only
  refine keeps_ite1 (report_keeps _ gs) (keeps_ite1 (report_keeps _ gs) (keeps_ite1 (report_keeps _ gs) ?_))
  split
  · exact report_keeps _ gs
  · exact tryCommit_keeps gs ‹_›
theorem commit_keeps {M : Nat} {S0 : State} {s : State} (gs : Keeps M S0 s) (gm : State.commit_may &&& M = State.commit_may := by decide +kernel) :
    Keeps M S0 (State.commit s).1 :=
  gs.trans ((commit_keeps0  (keeps_refl _ s)).mono gm)

def execCommit_may : Nat :=
  State.transact_may ||| State.commit_may
theorem execCommit_keeps {M : Nat} {S0 : State} (h : Hdr) {s : State} (gs : Keeps M S0 s) (gm : execCommit_may &&& M = execCommit_may := by decide +kernel) :
    KeepsO M S0 (execCommit h s) := by
  unfold execCommit
  repeat' first
    | with_reducible assumption
    | refine keeps_fst (by with_reducible assumption) ?_
    | refine keeps_snd (by with_reducible assumption) ?_
    | intro _
    | with_reducible exact may_trans gm (by decide +kernel)
    | with_reducible apply keeps_ite | with_reducible apply transact_keeps | with_reducible apply commit_keeps
    | with_reducible apply keepsO_next | with_reducible apply keepsO_ite
    | exact keepsO_fault
    | dsimp -zeta -zetaHave only

def State.saveSet_may : Nat :=
  State.flashConfig_may
theorem saveSet_keeps {M : Nat} {S0 : State} {s : State} (gs : Keeps M S0 s)
    (gm : State.saveSet_may &&& M = State.saveSet_may := by decide +kernel) : Keeps M S0 (State.saveSet s) := by
  unfold State.saveSet
  split
  · exact flashConfig_keeps _ gs ‹_› (may_trans gm (by decide +kernel))
  · exact gs

def execCommitTakesEffect_may : Nat :=
  may_staged ||| may .commitRun ||| State.cfg_may ||| State.finish_may ||| State.report_may ||| State.adopt_may |||
  State.saveSet_may
theorem execCommitTakesEffect_keeps {M : Nat} {S0 : State} {s : State} (gs : Keeps M S0 s) (gm : execCommitTakesEffect_may &&& M = execCommitTakesEffect_may := by decide +kernel) :
    KeepsO M S0 (execCommitTakesEffect s) := by
  unfold execCommitTakesEffect
  repeat' first
    | with_reducible assumption
    | (intro x; refine keeps_cut (m := M) (s0 := S0) (x := x) ?_ ?_; all_goals first | (intro hx; clear_value x) | subst x)
    | (intro x; clear_value x)
    | intro _
    | with_reducible exact may_trans gm (by decide +kernel)
    | with_reducible apply keeps_ite | with_reducible apply cfg_keeps | with_reducible apply finish_keeps
    | with_reducible apply report_keeps | with_reducible apply adopt_keeps | with_reducible apply saveSet_keeps
    | with_reducible apply keeps_wr
    | with_reducible exact Tbl.wf_nil
    | with_reducible apply Tbl.wf_tset | with_reducible apply Tbl.wf_filter | with_reducible apply Tbl.wf_tmap
    | with_reducible refine (Keeps.can (m := M) (s := S0) ?_ (by assumption)).staged | with_reducible apply keepsO_next
    | with_reducible apply keepsO_ite
    | exact keepsO_fault
    | dsimp -zeta -zetaHave only | lift_lets -underBinder | split | with_reducible apply keeps_staged

def State.swapStart_may : Nat :=
  may .SWAP_STATE ||| may .swapImg
theorem swapStart_keeps {M : Nat} {S0 : State} {s : State} (v : Nat) (gs : Keeps M S0 s) (gm : State.swapStart_may &&& M = State.swapStart_may := by decide +kernel) :
    Keeps M S0 (State.swapStart s v) := by
  unfold State.swapStart
  repeat' first
    | with_reducible assumption | intro _
    | with_reducible exact may_trans gm (by decide +kernel)
    | with_reducible apply keeps_ite | with_reducible apply keeps_wr | dsimp -zeta -zetaHave only

def State.trySwap_may : Nat :=
  State.flashConfig_may ||| State.overlay_may
theorem trySwap_keeps0 {S0 : State} {s t : State} {x : NewSet} (v : Nat) (gs : Keeps State.trySwap_may S0 s) (e : State.trySwap s v = .inr (t, x)) :
    Keeps State.trySwap_may S0 t := by
  unfold State.trySwap at e
  dsimp only at e
  split at e
  · cases e
  · split at e
    · cases e
    · split at e
      · cases e
      · split at e
        · cases e
        · rename_i h
          cases e
          exact flashConfig_keeps _ gs h
theorem trySwap_keeps {M : Nat} {S0 s t : State} {x : NewSet} (v : Nat) (gs : Keeps M S0 s) (e : State.trySwap s v = .inr (t, x))
    (gm : State.trySwap_may &&& M = State.trySwap_may := by decide +kernel) : Keeps M S0 t :=
  gs.trans ((trySwap_keeps0 v (keeps_refl _ s) e).mono gm)

def State.imageSelect_may : Nat :=
  may_chunks ||| may .IMAGE_SEL ||| State.showImage_may
theorem imageSelect_keeps {M : Nat} {S0 : State} {s : State} (v : Nat) (gs : Keeps M S0 s) (gm : State.imageSelect_may &&& M = State.imageSelect_may := by decide +kernel) :
    Keeps M S0 (State.imageSelect s v) := by
  unfold State.imageSelect
  repeat' first
    | with_reducible assumption
    | (intro x; refine keeps_cut (m := M) (s0 := S0) (x := x) ?_ ?_; all_goals first | (intro hx; clear_value x) | subst x)
    | (intro x; clear_value x)
    | intro _
    | with_reducible exact may_trans gm (by decide +kernel)
    | with_reducible apply keeps_ite | with_reducible apply keeps_iff | with_reducible apply showImage_keeps
    | with_reducible apply keeps_wr | dsimp -zeta -zetaHave only | lift_lets -underBinder | split | with_reducible apply keeps_chunks

def State.takeChunk_may : Nat :=
  may_chunks ||| may .IMAGE_STATE
theorem takeChunk_keeps {M : Nat} {S0 : State} {s : State} (bs : List Byte) (gs : Keeps M S0 s) (gm : State.takeChunk_may &&& M = State.takeChunk_may := by decide +kernel) :
    Keeps M S0 (State.takeChunk s bs) := by
  unfold State.takeChunk
  repeat' first
    | with_reducible assumption
    | (intro x; refine keeps_cut (m := M) (s0 := S0) (x := x) ?_ ?_; all_goals first | (intro hx; clear_value x) | subst x)
    | (intro x; clear_value x)
    | intro _
    | with_reducible exact may_trans gm (by decide +kernel)
    | with_reducible apply keeps_ite | with_reducible apply keeps_wr | dsimp -zeta -zetaHave only | lift_lets -underBinder
    | with_reducible apply keeps_chunks

def State.imageClose_may : Nat :=
  may .imgBusy ||| may .imgLen ||| may .imgNum
theorem imageClose_keeps {M : Nat} {S0 : State} {s : State} (len : Nat) (gs : Keeps M S0 s) (gm : State.imageClose_may &&& M = State.imageClose_may := by decide +kernel) :
    Keeps M S0 (State.imageClose s len) := by
  unfold State.imageClose
  repeat' first
    | with_reducible assumption | intro _
    | with_reducible exact may_trans gm (by decide +kernel)
    | with_reducible apply keeps_ite | with_reducible apply keeps_wr | dsimp -zeta -zetaHave only

def State.putImage_may : Nat :=
  may_images ||| State.flashWarn_may
theorem putImage_keeps {M : Nat} {S0 : State} {s : State} (n : Nat) (bs : List Byte) (gs : Keeps M S0 s) (gm : State.putImage_may &&& M = State.putImage_may := by decide +kernel) :
    Keeps M S0 (State.putImage s n bs) := by
  unfold State.putImage
  repeat' first
    | with_reducible assumption
    | (intro x; refine keeps_cut (m := M) (s0 := S0) (x := x) ?_ ?_; all_goals first | (intro hx; clear_value x) | subst x)
    | (intro x; clear_value x)
    | intro _
    | with_reducible exact may_trans gm (by decide +kernel)
    | with_reducible apply keeps_ite | with_reducible apply keeps_forList | with_reducible apply flashWarn_keeps
    | with_reducible exact Tbl.wf_nil
    | with_reducible apply Tbl.wf_tset | with_reducible apply Tbl.wf_filter | with_reducible apply Tbl.wf_tmap
    | with_reducible refine (Keeps.can (m := M) (s := S0) ?_ (by assumption)).images | dsimp -zeta -zetaHave only
    | lift_lets -underBinder | split | with_reducible apply keeps_images

def State.closeResult_may : Nat :=
  may_chunks ||| may .IMAGE_GROUND ||| may .IMAGE_PROG ||| may .IMAGE_RESULT ||| may .imgBusy ||| State.finish_may
theorem closeResult_keeps {M : Nat} {S0 : State} {s : State} (code prog ground : Nat) (gs : Keeps M S0 s) (gm : State.closeResult_may &&& M = State.closeResult_may := by decide +kernel) :
    Keeps M S0 (State.closeResult s code prog ground) := by
  unfold State.closeResult
  repeat' first
    | with_reducible assumption
    | (intro x; refine keeps_cut (m := M) (s0 := S0) (x := x) ?_ ?_; all_goals first | (intro hx; clear_value x) | subst x)
    | (intro x; clear_value x)
    | intro _
    | with_reducible exact may_trans gm (by decide +kernel)
    | with_reducible apply keeps_ite | with_reducible apply finish_keeps | with_reducible apply keeps_wr | dsimp -zeta -zetaHave only
    | lift_lets -underBinder | with_reducible apply keeps_chunks

def execImageCloseDone_may : Nat :=
  State.at_may ||| State.showImage_may ||| State.putImage_may ||| State.closeResult_may
theorem execImageCloseDone_keeps {M : Nat} {S0 : State} (t : Nat) {s : State} (gs : Keeps M S0 s) (gm : execImageCloseDone_may &&& M = execImageCloseDone_may := by decide +kernel) :
    KeepsO M S0 (execImageCloseDone t s) := by
  unfold execImageCloseDone
  repeat' first
    | with_reducible assumption
    | (intro x; refine keeps_cut (m := M) (s0 := S0) (x := x) ?_ ?_; all_goals first | (intro hx; clear_value x) | subst x)
    | (intro x; clear_value x)
    | intro _
    | with_reducible exact may_trans gm (by decide +kernel)
    | with_reducible apply keeps_ite | with_reducible apply at_keeps | with_reducible apply showImage_keeps
    | with_reducible apply putImage_keeps | with_reducible apply closeResult_keeps | with_reducible apply keepsO_next
    | with_reducible apply keepsO_ite
    | exact keepsO_fault
    | dsimp -zeta -zetaHave only | lift_lets -underBinder | split

def State.imageErase_may : Nat :=
  State.showImage_may ||| State.putImage_may
theorem imageErase_keeps {M : Nat} {S0 : State} {s : State} (n : Nat) (gs : Keeps M S0 s) (gm : State.imageErase_may &&& M = State.imageErase_may := by decide +kernel) :
    Keeps M S0 (State.imageErase s n) := by
  unfold State.imageErase
  repeat' first
    | with_reducible assumption | intro _
    | with_reducible exact may_trans gm (by decide +kernel)
    | with_reducible apply keeps_ite | with_reducible apply showImage_keeps | with_reducible apply putImage_keeps
    | dsimp -zeta -zetaHave only

-- Requests.lean

def State.askMode_may : Nat :=
  may .aliveStop ||| may .lockoutPending ||| may .modeReq ||| may .tripFrom ||| may .tripPending ||| State.detect_may |||
  State.flashLockout_may
theorem askMode_keeps {M : Nat} {S0 : State} {s : State} (v : Nat) (gs : Keeps M S0 s) (gm : State.askMode_may &&& M = State.askMode_may := by decide +kernel) :
    Keeps M S0 (State.askMode s v).1 := by
  unfold State.askMode
  repeat' first
    | with_reducible assumption
    | (intro x; refine keeps_cut (m := M) (s0 := S0) (x := x) ?_ ?_; all_goals first | (intro hx; clear_value x) | subst x)
    | (intro x; clear_value x)
    | intro _
    | with_reducible exact may_trans gm (by decide +kernel)
    | with_reducible apply keeps_ite | with_reducible apply keeps_ite1 | with_reducible apply keeps_ite2 | with_reducible apply keeps_iff
    | with_reducible apply detect_keeps | with_reducible apply flashLockout_keeps | with_reducible apply keeps_wr
    | dsimp -zeta -zetaHave only | lift_lets -underBinder | split

def State.askReset_may : Nat :=
  may .resetDue ||| may .resetSent
theorem askReset_keeps {M : Nat} {S0 : State} {s : State} (gs : Keeps M S0 s) (gm : State.askReset_may &&& M = State.askReset_may := by decide +kernel) :
    Keeps M S0 (State.askReset s) := by
  unfold State.askReset
  repeat' first
    | with_reducible assumption | intro _
    | with_reducible exact may_trans gm (by decide +kernel)
    | with_reducible apply keeps_ite | with_reducible apply keeps_wr | dsimp -zeta -zetaHave only

def State.askClear_may : Nat :=
  may .clearPending ||| State.detect_may ||| State.flashLockout_may
theorem askClear_keeps {M : Nat} {S0 : State} {s : State} (gs : Keeps M S0 s) (gm : State.askClear_may &&& M = State.askClear_may := by decide +kernel) :
    Keeps M S0 (State.askClear s) := by
  unfold State.askClear
  repeat' first
    | with_reducible assumption | intro _
    | with_reducible exact may_trans gm (by decide +kernel)
    | with_reducible apply keeps_ite | with_reducible apply detect_keeps | with_reducible apply flashLockout_keeps
    | with_reducible apply keeps_wr | dsimp -zeta -zetaHave only | split

-- Dictionary.lean

def State.afterClear_may : Nat :=
  may .RAIL_STATE ||| may .chFreePend ||| State.setRed_may
theorem afterClear_keeps {M : Nat} {S0 : State} {s : State} (r : Reg) (i m : Nat) (gs : Keeps M S0 s) (gm : State.afterClear_may &&& M = State.afterClear_may := by decide +kernel) (gr : may r &&& M = may r := by decide +kernel) :
    Keeps M S0 (State.afterClear s r i m) := by
  unfold State.afterClear
  repeat' first
    | with_reducible assumption
    | (intro x; refine keeps_cut (m := M) (s0 := S0) (x := x) ?_ ?_; all_goals first | (intro hx; clear_value x) | subst x)
    | (intro x; clear_value x)
    | intro _
    | with_reducible exact may_trans gm (by decide +kernel)
    | with_reducible apply keeps_ite | with_reducible apply setRed_keeps | with_reducible apply keeps_wr | dsimp -zeta -zetaHave only
    | lift_lets -underBinder | split

def State.clearBits_may : Nat :=
  may .CAUSES_LATCHED ||| State.afterClear_may ||| mayAll
theorem clearBits_keeps {M : Nat} {S0 : State} {s : State} (r : Reg) (i m : Nat) (gs : Keeps M S0 s) (gm : State.clearBits_may &&& M = State.clearBits_may := by decide +kernel) (gr : may r &&& M = may r := by decide +kernel) :
    Keeps M S0 (State.clearBits s r i m) := by
  unfold State.clearBits
  repeat' first
    | with_reducible assumption
    | (intro x; refine keeps_cut (m := M) (s0 := S0) (x := x) ?_ ?_; all_goals first | (intro hx; clear_value x) | subst x)
    | (intro x; clear_value x)
    | intro _
    | with_reducible exact may_trans gm (by decide +kernel)
    | with_reducible exact may_trans (may_trans gm (by decide +kernel)) (may_reg _)
    | with_reducible apply keeps_ite | with_reducible apply lower_keeps | with_reducible apply afterClear_keeps
    | dsimp -zeta -zetaHave only | lift_lets -underBinder | split

def State.limitWrite_may : Nat :=
  may .limAt ||| may .limNew
theorem limitWrite_keeps {M : Nat} {S0 : State} {s : State} (r : Reg) (n b : Nat) (v : Int) (gs : Keeps M S0 s) (gm : State.limitWrite_may &&& M = State.limitWrite_may := by decide +kernel) (gr : may r &&& M = may r := by decide +kernel) :
    Keeps M S0 (State.limitWrite s r n b v) := by
  unfold State.limitWrite
  repeat' first
    | with_reducible assumption | intro _
    | with_reducible exact may_trans gm (by decide +kernel)
    | with_reducible apply keeps_ite | with_reducible apply wrBit_keeps | with_reducible apply keeps_wr | dsimp -zeta -zetaHave only

def State.askFlush_may : Nat :=
  may .flushAt ||| may .flushPend ||| State.flushQueue_may
theorem askFlush_keeps {M : Nat} {S0 : State} {s : State} (n : Nat) (gs : Keeps M S0 s) (gm : State.askFlush_may &&& M = State.askFlush_may := by decide +kernel) :
    Keeps M S0 (State.askFlush s n) := by
  unfold State.askFlush
  repeat' first
    | with_reducible assumption | intro _
    | with_reducible exact may_trans gm (by decide +kernel)
    | with_reducible apply keeps_ite | with_reducible apply flushQueue_keeps | with_reducible apply keeps_wr | dsimp -zeta -zetaHave only
    | split

def State.pushMoves_may : Nat :=
  State.push_may ||| State.pollWaits_may
theorem pushMoves_keeps {M : Nat} {S0 : State} {s : State} (n : Nat) (rs : List (List Word64)) (gs : Keeps M S0 s) (gm : State.pushMoves_may &&& M = State.pushMoves_may := by decide +kernel) :
    Keeps M S0 (State.pushMoves s n rs) := by
  unfold State.pushMoves
  repeat' first
    | with_reducible assumption
    | refine keeps_fst (by with_reducible assumption) ?_
    | refine keeps_snd (by with_reducible assumption) ?_
    | intro _
    | with_reducible exact may_trans gm (by decide +kernel)
    | with_reducible apply keeps_ite | with_reducible apply keeps_foldl | with_reducible apply push_keeps
    | with_reducible apply pollWaits_keeps | dsimp -zeta -zetaHave only | split

def State.followWrite_may : Nat :=
  may .END_CAUSE ||| may .discAt ||| may .discPend ||| may .followPend
theorem followWrite_keeps {M : Nat} {S0 : State} {s : State} (n : Nat) (v : Int) (gs : Keeps M S0 s) (gm : State.followWrite_may &&& M = State.followWrite_may := by decide +kernel) :
    Keeps M S0 (State.followWrite s n v) := by
  unfold State.followWrite
  repeat' first
    | with_reducible assumption | intro _
    | with_reducible exact may_trans gm (by decide +kernel)
    | with_reducible apply keeps_ite | with_reducible apply keeps_wr | dsimp -zeta -zetaHave only | split

def State.directWrite_may : Nat :=
  may .DIRECT_MODE ||| may .directPend ||| may .firePend ||| may .pulseEnd ||| State.switchAt_may
theorem directWrite_keeps {M : Nat} {S0 : State} {s : State} (n : Nat) (v : Int) (gs : Keeps M S0 s) (gm : State.directWrite_may &&& M = State.directWrite_may := by decide +kernel) :
    Keeps M S0 (State.directWrite s n v) := by
  unfold State.directWrite
  repeat' first
    | with_reducible assumption
    | (intro x; refine keeps_cut (m := M) (s0 := S0) (x := x) ?_ ?_; all_goals first | (intro hx; clear_value x) | subst x)
    | (intro x; clear_value x)
    | intro _
    | with_reducible exact may_trans gm (by decide +kernel)
    | with_reducible apply keeps_ite | with_reducible apply switchAt_keeps | with_reducible apply keeps_wr | dsimp -zeta -zetaHave only
    | lift_lets -underBinder | split

def State.calStore_may : Nat :=
  may .calHas ||| State.wrFlash_may ||| State.flashWarn_may
theorem calStore_keeps {M : Nat} {S0 : State} {s : State} (gs : Keeps M S0 s) (gm : State.calStore_may &&& M = State.calStore_may := by decide +kernel) :
    Keeps M S0 (State.calStore s) := by
  unfold State.calStore
  repeat' first
    | with_reducible assumption
    | (intro x; refine keeps_cut (m := M) (s0 := S0) (x := x) ?_ ?_; all_goals first | (intro hx; clear_value x) | subst x)
    | (intro x; clear_value x)
    | intro _
    | with_reducible exact may_trans gm (by decide +kernel)
    | with_reducible apply keeps_ite | with_reducible apply keeps_forList | with_reducible apply keeps_forAll
    | with_reducible apply wrFlash_keeps | with_reducible apply flashWarn_keeps | with_reducible apply keeps_wr
    | dsimp -zeta -zetaHave only | lift_lets -underBinder | split

def State.traceTime_may : Nat :=
  State.trace_may
theorem traceTime_keeps {M : Nat} {S0 : State} {s : State} (gs : Keeps M S0 s) (gm : State.traceTime_may &&& M = State.traceTime_may := by decide +kernel) :
    Keeps M S0 (State.traceTime s) := by
  unfold State.traceTime
  repeat' first
    | with_reducible assumption
    | (intro x; refine keeps_cut (m := M) (s0 := S0) (x := x) ?_ ?_; all_goals first | (intro hx; clear_value x) | subst x)
    | (intro x; clear_value x)
    | intro _
    | with_reducible exact may_trans gm (by decide +kernel)
    | with_reducible apply keeps_ite | with_reducible apply trace_keeps | dsimp -zeta -zetaHave only | lift_lets -underBinder

def State.applyWrite_may : Nat :=
  may_staged ||| may .ACK_ORDINAL ||| may .ADAPT_ENABLE ||| may .AMAX ||| may .COUNTER_FROZEN ||| may .DIRECT_PATTERN ||| may .DMAX
  ||| may .JMAX ||| may .LATCH_AT ||| may .LATCH_SRC ||| may .TRACE_DEST ||| may .VMAX ||| may .adReset ||| may .fbAlignPend ||| may
  .firePend ||| may .prePend ||| may .preVal ||| may .rearmPend ||| may .setPend ||| may .setVal ||| may .stallRel ||| may .stopAt
  ||| may .stopPend ||| may .tgtAt ||| may .tgtPend ||| may .tgtVal ||| State.checkSync_may ||| State.latchTime_may |||
  State.armLatch_may ||| State.interlock_may ||| State.queueDiag_may ||| State.askDrive_may ||| State.askDisable_may |||
  State.learnAsk_may ||| State.learnEnd_may ||| State.askUrgent_may ||| State.startSelfCheck_may ||| State.startPoint_may |||
  State.calCompute_may ||| State.engineClear_may ||| State.releaseHead_may ||| State.injectArm_may ||| State.releaseQueue_may |||
  State.mailPush_may ||| State.captureFetch_may ||| State.swapStart_may ||| State.imageSelect_may ||| State.takeChunk_may |||
  State.imageClose_may ||| State.imageErase_may ||| State.askMode_may ||| State.askReset_may ||| State.askClear_may |||
  State.clearBits_may ||| State.limitWrite_may ||| State.askFlush_may ||| State.pushMoves_may ||| State.followWrite_may |||
  State.directWrite_may ||| State.calStore_may ||| State.traceTime_may ||| mayAll
theorem applyWrite_keeps {M : Nat} {S0 : State} {s : State} (o : Obj) (i : Nat) (bs : List Byte) (gs : Keeps M S0 s) (gm : State.applyWrite_may &&& M = State.applyWrite_may := by decide +kernel) :
    Keeps M S0 (State.applyWrite s o i bs).1 := by
  unfold State.applyWrite
  repeat' first
    | with_reducible assumption
    | refine keeps_fst (by with_reducible assumption) ?_
    | refine keeps_snd (by with_reducible assumption) ?_
    | (intro x; refine keeps_cut (m := M) (s0 := S0) (x := x) ?_ ?_; all_goals first | (intro hx; clear_value x) | subst x)
    | (intro x; clear_value x)
    | intro _
    | with_reducible exact may_trans gm (by decide +kernel)
    | with_reducible exact may_trans (may_trans gm (by decide +kernel)) (may_reg _)
    | with_reducible apply keeps_ite | with_reducible apply keeps_ite1 | with_reducible apply keeps_ite2
    | with_reducible apply keeps_forAll | with_reducible apply keeps_iff | with_reducible apply checkSync_keeps
    | with_reducible apply latchTime_keeps | with_reducible apply armLatch_keeps | with_reducible apply interlock_keeps
    | with_reducible apply queueDiag_keeps | with_reducible apply askDrive_keeps | with_reducible apply askDisable_keeps
    | with_reducible apply learnAsk_keeps | with_reducible apply learnEnd_keeps | with_reducible apply askUrgent_keeps
    | with_reducible apply startSelfCheck_keeps | with_reducible apply startPoint_keeps | with_reducible apply calCompute_keeps
    | with_reducible apply engineClear_keeps | with_reducible apply releaseHead_keeps | with_reducible apply injectArm_keeps
    | with_reducible apply releaseQueue_keeps | with_reducible apply mailPush_keeps | with_reducible apply captureFetch_keeps
    | with_reducible apply swapStart_keeps | with_reducible apply imageSelect_keeps | with_reducible apply takeChunk_keeps
    | with_reducible apply imageClose_keeps | with_reducible apply imageErase_keeps | with_reducible apply askMode_keeps
    | with_reducible apply askReset_keeps | with_reducible apply askClear_keeps | with_reducible apply clearBits_keeps
    | with_reducible apply limitWrite_keeps | with_reducible apply askFlush_keeps | with_reducible apply pushMoves_keeps
    | with_reducible apply followWrite_keeps | with_reducible apply directWrite_keeps | with_reducible apply calStore_keeps
    | with_reducible apply traceTime_keeps | with_reducible apply keeps_wr
    | with_reducible exact Tbl.wf_nil
    | with_reducible apply Tbl.wf_tset | with_reducible apply Tbl.wf_filter | with_reducible apply Tbl.wf_tmap
    | with_reducible refine (Keeps.can (m := M) (s := S0) ?_ (by assumption)).staged | dsimp -zeta -zetaHave only
    | lift_lets -underBinder | split | with_reducible apply keeps_staged

def State.noteFull_may : Nat :=
  may .REFUSED ||| State.count_may
theorem noteFull_keeps {M : Nat} {S0 : State} {s : State} (o : Obj) (i : Nat) (code : Nat) (gs : Keeps M S0 s) (gm : State.noteFull_may &&& M = State.noteFull_may := by decide +kernel) :
    Keeps M S0 (State.noteFull s o i code) := by
  unfold State.noteFull
  repeat' first
    | with_reducible assumption | intro _
    | with_reducible exact may_trans gm (by decide +kernel)
    | with_reducible apply keeps_ite | with_reducible apply count_keeps | dsimp -zeta -zetaHave only | split

def State.writeOne_may : Nat :=
  State.applyWrite_may ||| State.noteFull_may
theorem writeOne_keeps {M : Nat} {S0 : State} {s : State} (idx sub : Nat) (bs : List Byte) (gs : Keeps M S0 s) (gm : State.writeOne_may &&& M = State.writeOne_may := by decide +kernel) :
    Keeps M S0 (State.writeOne s idx sub bs).1 := by
  unfold State.writeOne
  repeat' first
    | with_reducible assumption
    | refine keeps_fst (by with_reducible assumption) ?_
    | refine keeps_snd (by with_reducible assumption) ?_
    | intro _
    | with_reducible exact may_trans gm (by decide +kernel)
    | with_reducible apply keeps_ite | with_reducible apply keeps_ite1 | with_reducible apply keeps_ite2
    | with_reducible apply applyWrite_keeps | with_reducible apply noteFull_keeps | dsimp -zeta -zetaHave only | split

def State.writeAll_may : Nat :=
  State.noteFull_may ||| State.writeOne_may
theorem writeAll_keeps {M : Nat} {S0 s0 : State} (idx : Nat) (l : List (Nat × List Byte)) (g0 : Keeps M S0 s0)
    (gm : State.writeAll_may &&& M = State.writeAll_may := by decide +kernel) :
    ∀ {s : State}, Keeps M S0 s → Keeps M S0 (State.writeAll s0 idx l s).1 := by
  induction l with
  | nil => intro s h; exact h
  | cons p l ih =>
    intro s h
    have g := writeOne_keeps idx p.1 p.2 h (may_trans gm (by decide +kernel))
    unfold State.writeAll
    split
    · exact ih (keeps_fst ‹_› g)
    · have h2 := ih (keeps_fst ‹_› g)
      split
      · exact keeps_fst ‹_› h2
      · exact h2
    · dsimp only
      split
      · exact noteFull_keeps _ _ _ g0 (may_trans gm (by decide +kernel))
      · exact g0

def State.writeMany_may : Nat :=
  State.writeAll_may
theorem writeMany_keeps {M : Nat} {S0 : State} {s : State} (idx sub : Nat) (bs : List Byte) (gs : Keeps M S0 s)
    (gm : State.writeMany_may &&& M = State.writeMany_may := by decide +kernel) : Keeps M S0 (State.writeMany s idx sub bs).1 := by
  unfold State.writeMany
  exact keeps_ite1 gs (writeAll_keeps idx _ gs (may_trans gm (by decide +kernel)) gs)

def State.hostWrite_may : Nat :=
  State.transact_may ||| State.writeOne_may
theorem hostWrite_keeps {M : Nat} {S0 : State} {s : State} (h : Hdr) (idx sub : Nat) (bs : List Byte) (gs : Keeps M S0 s) (gm : State.hostWrite_may &&& M = State.hostWrite_may := by decide +kernel) :
    Keeps M S0 (State.hostWrite s h idx sub bs) := by
  unfold State.hostWrite
  repeat' first
    | with_reducible assumption
    | refine keeps_fst (by with_reducible assumption) ?_
    | refine keeps_snd (by with_reducible assumption) ?_
    | intro _
    | with_reducible exact may_trans gm (by decide +kernel)
    | with_reducible apply keeps_ite | with_reducible apply transact_keeps | with_reducible apply writeOne_keeps
    | dsimp -zeta -zetaHave only | split

def State.hostByte_may : Nat :=
  State.hostWrite_may
theorem hostByte_keeps {M : Nat} {S0 : State} {s : State} (h : Hdr) (idx sub v : Nat) (gs : Keeps M S0 s) (gm : State.hostByte_may &&& M = State.hostByte_may := by decide +kernel) :
    Keeps M S0 (State.hostByte s h idx sub v) := by
  unfold State.hostByte
  repeat' first
    | with_reducible assumption
    | (intro x; refine keeps_cut (m := M) (s0 := S0) (x := x) ?_ ?_; all_goals first | (intro hx; clear_value x) | subst x)
    | (intro x; clear_value x)
    | intro _
    | with_reducible exact may_trans gm (by decide +kernel)
    | with_reducible apply keeps_ite | with_reducible apply hostWrite_keeps | dsimp -zeta -zetaHave only | lift_lets -underBinder

def execWriteBlock_may : Nat :=
  State.transact_may ||| State.writeMany_may
theorem execWriteBlock_keeps {M : Nat} {S0 : State} (h : Hdr) (index sub : Nat) (data : List Byte) {s : State} (gs : Keeps M S0 s) (gm : execWriteBlock_may &&& M = execWriteBlock_may := by decide +kernel) :
    KeepsO M S0 (execWriteBlock h index sub data s) := by
  unfold execWriteBlock
  repeat' first
    | with_reducible assumption
    | refine keeps_fst (by with_reducible assumption) ?_
    | refine keeps_snd (by with_reducible assumption) ?_
    | intro _
    | with_reducible exact may_trans gm (by decide +kernel)
    | with_reducible apply keeps_ite | with_reducible apply transact_keeps | with_reducible apply writeMany_keeps
    | with_reducible apply keepsO_next | with_reducible apply keepsO_ite
    | exact keepsO_fault
    | dsimp -zeta -zetaHave only | split

def execRegisterWrite_may : Nat :=
  State.hostWrite_may
theorem execRegisterWrite_keeps {M : Nat} {S0 : State} (h : Hdr) (index sub : Nat) (data : List Byte) {s : State} (gs : Keeps M S0 s) (gm : execRegisterWrite_may &&& M = execRegisterWrite_may := by decide +kernel) :
    KeepsO M S0 (execRegisterWrite h index sub data s) := by
  unfold execRegisterWrite
  repeat' first
    | with_reducible assumption | intro _
    | with_reducible exact may_trans gm (by decide +kernel)
    | with_reducible apply keeps_ite | with_reducible apply hostWrite_keeps | with_reducible apply keepsO_next
    | with_reducible apply keepsO_ite
    | exact keepsO_fault
    | dsimp -zeta -zetaHave only

def execRwcWrite_may : Nat :=
  State.hostWrite_may
theorem execRwcWrite_keeps {M : Nat} {S0 : State} (h : Hdr) (index sub : Nat) (data : List Byte) {s : State} (gs : Keeps M S0 s) (gm : execRwcWrite_may &&& M = execRwcWrite_may := by decide +kernel) :
    KeepsO M S0 (execRwcWrite h index sub data s) := by
  unfold execRwcWrite
  repeat' first
    | with_reducible assumption | intro _
    | with_reducible exact may_trans gm (by decide +kernel)
    | with_reducible apply keeps_ite | with_reducible apply hostWrite_keeps | with_reducible apply keepsO_next
    | with_reducible apply keepsO_ite
    | exact keepsO_fault
    | dsimp -zeta -zetaHave only

def execW1cWrite_may : Nat :=
  State.hostWrite_may
theorem execW1cWrite_keeps {M : Nat} {S0 : State} (h : Hdr) (index sub : Nat) (data : List Byte) {s : State} (gs : Keeps M S0 s) (gm : execW1cWrite_may &&& M = execW1cWrite_may := by decide +kernel) :
    KeepsO M S0 (execW1cWrite h index sub data s) := by
  unfold execW1cWrite
  repeat' first
    | with_reducible assumption | intro _
    | with_reducible exact may_trans gm (by decide +kernel)
    | with_reducible apply keeps_ite | with_reducible apply hostWrite_keeps | with_reducible apply keepsO_next
    | with_reducible apply keepsO_ite
    | exact keepsO_fault
    | dsimp -zeta -zetaHave only

def execStageDiscard_may : Nat :=
  State.hostByte_may
theorem execStageDiscard_keeps {M : Nat} {S0 : State} (h : Hdr) (v : Nat) {s : State} (gs : Keeps M S0 s) (gm : execStageDiscard_may &&& M = execStageDiscard_may := by decide +kernel) :
    KeepsO M S0 (execStageDiscard h v s) := by
  unfold execStageDiscard
  repeat' first
    | with_reducible assumption | intro _
    | with_reducible exact may_trans gm (by decide +kernel)
    | with_reducible apply keeps_ite | with_reducible apply hostByte_keeps | with_reducible apply keepsO_next
    | with_reducible apply keepsO_ite
    | exact keepsO_fault
    | dsimp -zeta -zetaHave only

def execAckOrdinal_may : Nat :=
  State.hostWrite_may
theorem execAckOrdinal_keeps {M : Nat} {S0 : State} (h : Hdr) (v : Nat) {s : State} (gs : Keeps M S0 s) (gm : execAckOrdinal_may &&& M = execAckOrdinal_may := by decide +kernel) :
    KeepsO M S0 (execAckOrdinal h v s) := by
  unfold execAckOrdinal
  repeat' first
    | with_reducible assumption | intro _
    | with_reducible exact may_trans gm (by decide +kernel)
    | with_reducible apply keeps_ite | with_reducible apply hostWrite_keeps | with_reducible apply keepsO_next
    | with_reducible apply keepsO_ite
    | exact keepsO_fault
    | dsimp -zeta -zetaHave only

def execLogSeen_may : Nat :=
  State.hostWrite_may
theorem execLogSeen_keeps {M : Nat} {S0 : State} (h : Hdr) (v : Nat) {s : State} (gs : Keeps M S0 s) (gm : execLogSeen_may &&& M = execLogSeen_may := by decide +kernel) :
    KeepsO M S0 (execLogSeen h v s) := by
  unfold execLogSeen
  repeat' first
    | with_reducible assumption | intro _
    | with_reducible exact may_trans gm (by decide +kernel)
    | with_reducible apply keeps_ite | with_reducible apply hostWrite_keeps | with_reducible apply keepsO_next
    | with_reducible apply keepsO_ite
    | exact keepsO_fault
    | dsimp -zeta -zetaHave only

def execTarget_may : Nat :=
  State.hostWrite_may
theorem execTarget_keeps {M : Nat} {S0 : State} (h : Hdr) (n : Fin 64) (v : Int) {s : State} (gs : Keeps M S0 s) (gm : execTarget_may &&& M = execTarget_may := by decide +kernel) :
    KeepsO M S0 (execTarget h n v s) := by
  unfold execTarget
  repeat' first
    | with_reducible assumption | intro _
    | with_reducible exact may_trans gm (by decide +kernel)
    | with_reducible apply keeps_ite | with_reducible apply hostWrite_keeps | with_reducible apply keepsO_next
    | with_reducible apply keepsO_ite
    | exact keepsO_fault
    | dsimp -zeta -zetaHave only

def execStop_may : Nat :=
  State.hostByte_may
theorem execStop_keeps {M : Nat} {S0 : State} (h : Hdr) (n : Fin 64) {s : State} (gs : Keeps M S0 s) (gm : execStop_may &&& M = execStop_may := by decide +kernel) :
    KeepsO M S0 (execStop h n s) := by
  unfold execStop
  repeat' first
    | with_reducible assumption | intro _
    | with_reducible exact may_trans gm (by decide +kernel)
    | with_reducible apply keeps_ite | with_reducible apply hostByte_keeps | with_reducible apply keepsO_next
    | with_reducible apply keepsO_ite
    | exact keepsO_fault
    | dsimp -zeta -zetaHave only

def execStopFlush_may : Nat :=
  State.hostByte_may
theorem execStopFlush_keeps {M : Nat} {S0 : State} (h : Hdr) (n : Fin 64) {s : State} (gs : Keeps M S0 s) (gm : execStopFlush_may &&& M = execStopFlush_may := by decide +kernel) :
    KeepsO M S0 (execStopFlush h n s) := by
  unfold execStopFlush
  repeat' first
    | with_reducible assumption | intro _
    | with_reducible exact may_trans gm (by decide +kernel)
    | with_reducible apply keeps_ite | with_reducible apply hostByte_keeps | with_reducible apply keepsO_next
    | with_reducible apply keepsO_ite
    | exact keepsO_fault
    | dsimp -zeta -zetaHave only

def execSetPosition_may : Nat :=
  State.hostWrite_may
theorem execSetPosition_keeps {M : Nat} {S0 : State} (h : Hdr) (n : Fin 64) (v : Int) {s : State} (gs : Keeps M S0 s) (gm : execSetPosition_may &&& M = execSetPosition_may := by decide +kernel) :
    KeepsO M S0 (execSetPosition h n v s) := by
  unfold execSetPosition
  repeat' first
    | with_reducible assumption | intro _
    | with_reducible exact may_trans gm (by decide +kernel)
    | with_reducible apply keeps_ite | with_reducible apply hostWrite_keeps | with_reducible apply keepsO_next
    | with_reducible apply keepsO_ite
    | exact keepsO_fault
    | dsimp -zeta -zetaHave only

def execMovePush_may : Nat :=
  State.hostWrite_may
theorem execMovePush_keeps {M : Nat} {S0 : State} (h : Hdr) (n : Fin 64) (ws : List Word64) {s : State} (gs : Keeps M S0 s) (gm : execMovePush_may &&& M = execMovePush_may := by decide +kernel) :
    KeepsO M S0 (execMovePush h n ws s) := by
  unfold execMovePush
  repeat' first
    | with_reducible assumption | intro _
    | with_reducible exact may_trans gm (by decide +kernel)
    | with_reducible apply keeps_ite | with_reducible apply hostWrite_keeps | with_reducible apply keepsO_next
    | with_reducible apply keepsO_ite
    | exact keepsO_fault
    | dsimp -zeta -zetaHave only | split

def execQueueFlush_may : Nat :=
  State.hostByte_may
theorem execQueueFlush_keeps {M : Nat} {S0 : State} (h : Hdr) (n : Fin 64) {s : State} (gs : Keeps M S0 s) (gm : execQueueFlush_may &&& M = execQueueFlush_may := by decide +kernel) :
    KeepsO M S0 (execQueueFlush h n s) := by
  unfold execQueueFlush
  repeat' first
    | with_reducible assumption | intro _
    | with_reducible exact may_trans gm (by decide +kernel)
    | with_reducible apply keeps_ite | with_reducible apply hostByte_keeps | with_reducible apply keepsO_next
    | with_reducible apply keepsO_ite
    | exact keepsO_fault
    | dsimp -zeta -zetaHave only

def execLimitChange_may : Nat :=
  State.hostWrite_may
theorem execLimitChange_keeps {M : Nat} {S0 : State} (h : Hdr) (n : Fin 64) (which : Fin 4) (v : Nat) {s : State} (gs : Keeps M S0 s) (gm : execLimitChange_may &&& M = execLimitChange_may := by decide +kernel) :
    KeepsO M S0 (execLimitChange h n which v s) := by
  unfold execLimitChange
  repeat' first
    | with_reducible assumption | intro _
    | with_reducible exact may_trans gm (by decide +kernel)
    | with_reducible apply keeps_ite | with_reducible apply hostWrite_keeps | with_reducible apply keepsO_next
    | with_reducible apply keepsO_ite
    | exact keepsO_fault
    | dsimp -zeta -zetaHave only

def execLowMark_may : Nat :=
  State.hostWrite_may
theorem execLowMark_keeps {M : Nat} {S0 : State} (h : Hdr) (n : Fin 64) (v : Nat) {s : State} (gs : Keeps M S0 s) (gm : execLowMark_may &&& M = execLowMark_may := by decide +kernel) :
    KeepsO M S0 (execLowMark h n v s) := by
  unfold execLowMark
  repeat' first
    | with_reducible assumption | intro _
    | with_reducible exact may_trans gm (by decide +kernel)
    | with_reducible apply keeps_ite | with_reducible apply hostWrite_keeps | with_reducible apply keepsO_next
    | with_reducible apply keepsO_ite
    | exact keepsO_fault
    | dsimp -zeta -zetaHave only

def execFollowEngage_may : Nat :=
  State.hostByte_may
theorem execFollowEngage_keeps {M : Nat} {S0 : State} (h : Hdr) (n : Fin 64) {s : State} (gs : Keeps M S0 s) (gm : execFollowEngage_may &&& M = execFollowEngage_may := by decide +kernel) :
    KeepsO M S0 (execFollowEngage h n s) := by
  unfold execFollowEngage
  repeat' first
    | with_reducible assumption | intro _
    | with_reducible exact may_trans gm (by decide +kernel)
    | with_reducible apply keeps_ite | with_reducible apply hostByte_keeps | with_reducible apply keepsO_next
    | with_reducible apply keepsO_ite
    | exact keepsO_fault
    | dsimp -zeta -zetaHave only

def execFollowDisengage_may : Nat :=
  State.hostByte_may
theorem execFollowDisengage_keeps {M : Nat} {S0 : State} (h : Hdr) (n : Fin 64) {s : State} (gs : Keeps M S0 s) (gm : execFollowDisengage_may &&& M = execFollowDisengage_may := by decide +kernel) :
    KeepsO M S0 (execFollowDisengage h n s) := by
  unfold execFollowDisengage
  repeat' first
    | with_reducible assumption | intro _
    | with_reducible exact may_trans gm (by decide +kernel)
    | with_reducible apply keeps_ite | with_reducible apply hostByte_keeps | with_reducible apply keepsO_next
    | with_reducible apply keepsO_ite
    | exact keepsO_fault
    | dsimp -zeta -zetaHave only

def execRatioChange_may : Nat :=
  State.hostWrite_may
theorem execRatioChange_keeps {M : Nat} {S0 : State} (h : Hdr) (n : Fin 64) (den : Bool) (v : Int) {s : State} (gs : Keeps M S0 s) (gm : execRatioChange_may &&& M = execRatioChange_may := by decide +kernel) :
    KeepsO M S0 (execRatioChange h n den v s) := by
  unfold execRatioChange
  repeat' first
    | with_reducible assumption | intro _
    | with_reducible exact may_trans gm (by decide +kernel)
    | with_reducible apply keeps_ite | with_reducible apply hostWrite_keeps | with_reducible apply keepsO_next
    | with_reducible apply keepsO_ite
    | exact keepsO_fault
    | dsimp -zeta -zetaHave only | split

def execAdaptReset_may : Nat :=
  State.hostByte_may
theorem execAdaptReset_keeps {M : Nat} {S0 : State} (h : Hdr) (n : Fin 64) {s : State} (gs : Keeps M S0 s) (gm : execAdaptReset_may &&& M = execAdaptReset_may := by decide +kernel) :
    KeepsO M S0 (execAdaptReset h n s) := by
  unfold execAdaptReset
  repeat' first
    | with_reducible assumption | intro _
    | with_reducible exact may_trans gm (by decide +kernel)
    | with_reducible apply keeps_ite | with_reducible apply hostByte_keeps | with_reducible apply keepsO_next
    | with_reducible apply keepsO_ite
    | exact keepsO_fault
    | dsimp -zeta -zetaHave only

def execAdaptEnable_may : Nat :=
  State.hostByte_may
theorem execAdaptEnable_keeps {M : Nat} {S0 : State} (h : Hdr) (n : Fin 64) (v : Nat) {s : State} (gs : Keeps M S0 s) (gm : execAdaptEnable_may &&& M = execAdaptEnable_may := by decide +kernel) :
    KeepsO M S0 (execAdaptEnable h n v s) := by
  unfold execAdaptEnable
  repeat' first
    | with_reducible assumption | intro _
    | with_reducible exact may_trans gm (by decide +kernel)
    | with_reducible apply keeps_ite | with_reducible apply hostByte_keeps | with_reducible apply keepsO_next
    | with_reducible apply keepsO_ite
    | exact keepsO_fault
    | dsimp -zeta -zetaHave only

def execLearnStart_may : Nat :=
  State.hostByte_may
theorem execLearnStart_keeps {M : Nat} {S0 : State} (h : Hdr) (n : Fin 64) {s : State} (gs : Keeps M S0 s) (gm : execLearnStart_may &&& M = execLearnStart_may := by decide +kernel) :
    KeepsO M S0 (execLearnStart h n s) := by
  unfold execLearnStart
  repeat' first
    | with_reducible assumption | intro _
    | with_reducible exact may_trans gm (by decide +kernel)
    | with_reducible apply keeps_ite | with_reducible apply hostByte_keeps | with_reducible apply keepsO_next
    | with_reducible apply keepsO_ite
    | exact keepsO_fault
    | dsimp -zeta -zetaHave only

def execLearnAbort_may : Nat :=
  State.hostByte_may
theorem execLearnAbort_keeps {M : Nat} {S0 : State} (h : Hdr) (n : Fin 64) {s : State} (gs : Keeps M S0 s) (gm : execLearnAbort_may &&& M = execLearnAbort_may := by decide +kernel) :
    KeepsO M S0 (execLearnAbort h n s) := by
  unfold execLearnAbort
  repeat' first
    | with_reducible assumption | intro _
    | with_reducible exact may_trans gm (by decide +kernel)
    | with_reducible apply keeps_ite | with_reducible apply hostByte_keeps | with_reducible apply keepsO_next
    | with_reducible apply keepsO_ite
    | exact keepsO_fault
    | dsimp -zeta -zetaHave only

def execStallRelease_may : Nat :=
  State.hostByte_may
theorem execStallRelease_keeps {M : Nat} {S0 : State} (h : Hdr) (n : Fin 64) {s : State} (gs : Keeps M S0 s) (gm : execStallRelease_may &&& M = execStallRelease_may := by decide +kernel) :
    KeepsO M S0 (execStallRelease h n s) := by
  unfold execStallRelease
  repeat' first
    | with_reducible assumption | intro _
    | with_reducible exact may_trans gm (by decide +kernel)
    | with_reducible apply keeps_ite | with_reducible apply hostByte_keeps | with_reducible apply keepsO_next
    | with_reducible apply keepsO_ite
    | exact keepsO_fault
    | dsimp -zeta -zetaHave only

def execDriveEnable_may : Nat :=
  State.hostByte_may
theorem execDriveEnable_keeps {M : Nat} {S0 : State} (h : Hdr) (n : Fin 64) {s : State} (gs : Keeps M S0 s) (gm : execDriveEnable_may &&& M = execDriveEnable_may := by decide +kernel) :
    KeepsO M S0 (execDriveEnable h n s) := by
  unfold execDriveEnable
  repeat' first
    | with_reducible assumption | intro _
    | with_reducible exact may_trans gm (by decide +kernel)
    | with_reducible apply keeps_ite | with_reducible apply hostByte_keeps | with_reducible apply keepsO_next
    | with_reducible apply keepsO_ite
    | exact keepsO_fault
    | dsimp -zeta -zetaHave only

def execDriveDisable_may : Nat :=
  State.hostByte_may
theorem execDriveDisable_keeps {M : Nat} {S0 : State} (h : Hdr) (n : Fin 64) {s : State} (gs : Keeps M S0 s) (gm : execDriveDisable_may &&& M = execDriveDisable_may := by decide +kernel) :
    KeepsO M S0 (execDriveDisable h n s) := by
  unfold execDriveDisable
  repeat' first
    | with_reducible assumption | intro _
    | with_reducible exact may_trans gm (by decide +kernel)
    | with_reducible apply keeps_ite | with_reducible apply hostByte_keeps | with_reducible apply keepsO_next
    | with_reducible apply keepsO_ite
    | exact keepsO_fault
    | dsimp -zeta -zetaHave only

def execRearm_may : Nat :=
  State.hostByte_may
theorem execRearm_keeps {M : Nat} {S0 : State} (h : Hdr) (n : Fin 64) {s : State} (gs : Keeps M S0 s) (gm : execRearm_may &&& M = execRearm_may := by decide +kernel) :
    KeepsO M S0 (execRearm h n s) := by
  unfold execRearm
  repeat' first
    | with_reducible assumption | intro _
    | with_reducible exact may_trans gm (by decide +kernel)
    | with_reducible apply keeps_ite | with_reducible apply hostByte_keeps | with_reducible apply keepsO_next
    | with_reducible apply keepsO_ite
    | exact keepsO_fault
    | dsimp -zeta -zetaHave only

def execDiagStart_may : Nat :=
  State.hostByte_may
theorem execDiagStart_keeps {M : Nat} {S0 : State} (h : Hdr) (n : Fin 64) {s : State} (gs : Keeps M S0 s) (gm : execDiagStart_may &&& M = execDiagStart_may := by decide +kernel) :
    KeepsO M S0 (execDiagStart h n s) := by
  unfold execDiagStart
  repeat' first
    | with_reducible assumption | intro _
    | with_reducible exact may_trans gm (by decide +kernel)
    | with_reducible apply keeps_ite | with_reducible apply hostByte_keeps | with_reducible apply keepsO_next
    | with_reducible apply keepsO_ite
    | exact keepsO_fault
    | dsimp -zeta -zetaHave only

def execDiagAll_may : Nat :=
  State.hostByte_may
theorem execDiagAll_keeps {M : Nat} {S0 : State} (h : Hdr) {s : State} (gs : Keeps M S0 s) (gm : execDiagAll_may &&& M = execDiagAll_may := by decide +kernel) :
    KeepsO M S0 (execDiagAll h s) := by
  unfold execDiagAll
  repeat' first
    | with_reducible assumption | intro _
    | with_reducible exact may_trans gm (by decide +kernel)
    | with_reducible apply keeps_ite | with_reducible apply hostByte_keeps | with_reducible apply keepsO_next
    | with_reducible apply keepsO_ite
    | exact keepsO_fault
    | dsimp -zeta -zetaHave only

def execDirectModeEnter_may : Nat :=
  State.hostByte_may
theorem execDirectModeEnter_keeps {M : Nat} {S0 : State} (h : Hdr) (n : Fin 64) {s : State} (gs : Keeps M S0 s) (gm : execDirectModeEnter_may &&& M = execDirectModeEnter_may := by decide +kernel) :
    KeepsO M S0 (execDirectModeEnter h n s) := by
  unfold execDirectModeEnter
  repeat' first
    | with_reducible assumption | intro _
    | with_reducible exact may_trans gm (by decide +kernel)
    | with_reducible apply keeps_ite | with_reducible apply hostByte_keeps | with_reducible apply keepsO_next
    | with_reducible apply keepsO_ite
    | exact keepsO_fault
    | dsimp -zeta -zetaHave only

def execDirectModeExit_may : Nat :=
  State.hostByte_may
theorem execDirectModeExit_keeps {M : Nat} {S0 : State} (h : Hdr) (n : Fin 64) {s : State} (gs : Keeps M S0 s) (gm : execDirectModeExit_may &&& M = execDirectModeExit_may := by decide +kernel) :
    KeepsO M S0 (execDirectModeExit h n s) := by
  unfold execDirectModeExit
  repeat' first
    | with_reducible assumption | intro _
    | with_reducible exact may_trans gm (by decide +kernel)
    | with_reducible apply keeps_ite | with_reducible apply hostByte_keeps | with_reducible apply keepsO_next
    | with_reducible apply keepsO_ite
    | exact keepsO_fault
    | dsimp -zeta -zetaHave only

def execDirectFire_may : Nat :=
  State.hostByte_may
theorem execDirectFire_keeps {M : Nat} {S0 : State} (h : Hdr) (n : Fin 64) {s : State} (gs : Keeps M S0 s) (gm : execDirectFire_may &&& M = execDirectFire_may := by decide +kernel) :
    KeepsO M S0 (execDirectFire h n s) := by
  unfold execDirectFire
  repeat' first
    | with_reducible assumption | intro _
    | with_reducible exact may_trans gm (by decide +kernel)
    | with_reducible apply keeps_ite | with_reducible apply hostByte_keeps | with_reducible apply keepsO_next
    | with_reducible apply keepsO_ite
    | exact keepsO_fault
    | dsimp -zeta -zetaHave only

def execChPreset_may : Nat :=
  State.hostWrite_may
theorem execChPreset_keeps {M : Nat} {S0 : State} (h : Hdr) (c : Fin 16) (v : Int) {s : State} (gs : Keeps M S0 s) (gm : execChPreset_may &&& M = execChPreset_may := by decide +kernel) :
    KeepsO M S0 (execChPreset h c v s) := by
  unfold execChPreset
  repeat' first
    | with_reducible assumption | intro _
    | with_reducible exact may_trans gm (by decide +kernel)
    | with_reducible apply keeps_ite | with_reducible apply hostWrite_keeps | with_reducible apply keepsO_next
    | with_reducible apply keepsO_ite
    | exact keepsO_fault
    | dsimp -zeta -zetaHave only

def execFbAlign_may : Nat :=
  State.hostByte_may
theorem execFbAlign_keeps {M : Nat} {S0 : State} (h : Hdr) (n : Fin 64) {s : State} (gs : Keeps M S0 s) (gm : execFbAlign_may &&& M = execFbAlign_may := by decide +kernel) :
    KeepsO M S0 (execFbAlign h n s) := by
  unfold execFbAlign
  repeat' first
    | with_reducible assumption | intro _
    | with_reducible exact may_trans gm (by decide +kernel)
    | with_reducible apply keeps_ite | with_reducible apply hostByte_keeps | with_reducible apply keepsO_next
    | with_reducible apply keepsO_ite
    | exact keepsO_fault
    | dsimp -zeta -zetaHave only

def execLatchSrc_may : Nat :=
  State.hostByte_may
theorem execLatchSrc_keeps {M : Nat} {S0 : State} (h : Hdr) (c : Fin 16) (v : Nat) {s : State} (gs : Keeps M S0 s) (gm : execLatchSrc_may &&& M = execLatchSrc_may := by decide +kernel) :
    KeepsO M S0 (execLatchSrc h c v s) := by
  unfold execLatchSrc
  repeat' first
    | with_reducible assumption | intro _
    | with_reducible exact may_trans gm (by decide +kernel)
    | with_reducible apply keeps_ite | with_reducible apply hostByte_keeps | with_reducible apply keepsO_next
    | with_reducible apply keepsO_ite
    | exact keepsO_fault
    | dsimp -zeta -zetaHave only

def execUrgentReq_may : Nat :=
  State.hostByte_may
theorem execUrgentReq_keeps {M : Nat} {S0 : State} (h : Hdr) (c : Fin 16) (v : Nat) {s : State} (gs : Keeps M S0 s) (gm : execUrgentReq_may &&& M = execUrgentReq_may := by decide +kernel) :
    KeepsO M S0 (execUrgentReq h c v s) := by
  unfold execUrgentReq
  repeat' first
    | with_reducible assumption | intro _
    | with_reducible exact may_trans gm (by decide +kernel)
    | with_reducible apply keeps_ite | with_reducible apply hostByte_keeps | with_reducible apply keepsO_next
    | with_reducible apply keepsO_ite
    | exact keepsO_fault
    | dsimp -zeta -zetaHave only

def execCvRestart_may : Nat :=
  State.hostByte_may
theorem execCvRestart_keeps {M : Nat} {S0 : State} (h : Hdr) (c : Fin 16) {s : State} (gs : Keeps M S0 s) (gm : execCvRestart_may &&& M = execCvRestart_may := by decide +kernel) :
    KeepsO M S0 (execCvRestart h c s) := by
  unfold execCvRestart
  repeat' first
    | with_reducible assumption | intro _
    | with_reducible exact may_trans gm (by decide +kernel)
    | with_reducible apply keeps_ite | with_reducible apply hostByte_keeps | with_reducible apply keepsO_next
    | with_reducible apply keepsO_ite
    | exact keepsO_fault
    | dsimp -zeta -zetaHave only

def execCalZeroPoint_may : Nat :=
  State.hostByte_may
theorem execCalZeroPoint_keeps {M : Nat} {S0 : State} (h : Hdr) {s : State} (gs : Keeps M S0 s) (gm : execCalZeroPoint_may &&& M = execCalZeroPoint_may := by decide +kernel) :
    KeepsO M S0 (execCalZeroPoint h s) := by
  unfold execCalZeroPoint
  repeat' first
    | with_reducible assumption | intro _
    | with_reducible exact may_trans gm (by decide +kernel)
    | with_reducible apply keeps_ite | with_reducible apply hostByte_keeps | with_reducible apply keepsO_next
    | with_reducible apply keepsO_ite
    | exact keepsO_fault
    | dsimp -zeta -zetaHave only

def execCalFullPoint_may : Nat :=
  State.hostByte_may
theorem execCalFullPoint_keeps {M : Nat} {S0 : State} (h : Hdr) {s : State} (gs : Keeps M S0 s) (gm : execCalFullPoint_may &&& M = execCalFullPoint_may := by decide +kernel) :
    KeepsO M S0 (execCalFullPoint h s) := by
  unfold execCalFullPoint
  repeat' first
    | with_reducible assumption | intro _
    | with_reducible exact may_trans gm (by decide +kernel)
    | with_reducible apply keeps_ite | with_reducible apply hostByte_keeps | with_reducible apply keepsO_next
    | with_reducible apply keepsO_ite
    | exact keepsO_fault
    | dsimp -zeta -zetaHave only

def execCalCompute_may : Nat :=
  State.hostByte_may
theorem execCalCompute_keeps {M : Nat} {S0 : State} (h : Hdr) {s : State} (gs : Keeps M S0 s) (gm : execCalCompute_may &&& M = execCalCompute_may := by decide +kernel) :
    KeepsO M S0 (execCalCompute h s) := by
  unfold execCalCompute
  repeat' first
    | with_reducible assumption | intro _
    | with_reducible exact may_trans gm (by decide +kernel)
    | with_reducible apply keeps_ite | with_reducible apply hostByte_keeps | with_reducible apply keepsO_next
    | with_reducible apply keepsO_ite
    | exact keepsO_fault
    | dsimp -zeta -zetaHave only

def execCalStore_may : Nat :=
  State.hostByte_may
theorem execCalStore_keeps {M : Nat} {S0 : State} (h : Hdr) {s : State} (gs : Keeps M S0 s) (gm : execCalStore_may &&& M = execCalStore_may := by decide +kernel) :
    KeepsO M S0 (execCalStore h s) := by
  unfold execCalStore
  repeat' first
    | with_reducible assumption | intro _
    | with_reducible exact may_trans gm (by decide +kernel)
    | with_reducible apply keeps_ite | with_reducible apply hostByte_keeps | with_reducible apply keepsO_next
    | with_reducible apply keepsO_ite
    | exact keepsO_fault
    | dsimp -zeta -zetaHave only

def execImageSel_may : Nat :=
  State.hostByte_may
theorem execImageSel_keeps {M : Nat} {S0 : State} (h : Hdr) (v : Nat) {s : State} (gs : Keeps M S0 s) (gm : execImageSel_may &&& M = execImageSel_may := by decide +kernel) :
    KeepsO M S0 (execImageSel h v s) := by
  unfold execImageSel
  repeat' first
    | with_reducible assumption | intro _
    | with_reducible exact may_trans gm (by decide +kernel)
    | with_reducible apply keeps_ite | with_reducible apply hostByte_keeps | with_reducible apply keepsO_next
    | with_reducible apply keepsO_ite
    | exact keepsO_fault
    | dsimp -zeta -zetaHave only

def execImageOffset_may : Nat :=
  State.hostWrite_may
theorem execImageOffset_keeps {M : Nat} {S0 : State} (h : Hdr) (v : Nat) {s : State} (gs : Keeps M S0 s) (gm : execImageOffset_may &&& M = execImageOffset_may := by decide +kernel) :
    KeepsO M S0 (execImageOffset h v s) := by
  unfold execImageOffset
  repeat' first
    | with_reducible assumption | intro _
    | with_reducible exact may_trans gm (by decide +kernel)
    | with_reducible apply keeps_ite | with_reducible apply hostWrite_keeps | with_reducible apply keepsO_next
    | with_reducible apply keepsO_ite
    | exact keepsO_fault
    | dsimp -zeta -zetaHave only

def execImageChunk_may : Nat :=
  State.hostWrite_may
theorem execImageChunk_keeps {M : Nat} {S0 : State} (h : Hdr) (bytes : List Byte) {s : State} (gs : Keeps M S0 s) (gm : execImageChunk_may &&& M = execImageChunk_may := by decide +kernel) :
    KeepsO M S0 (execImageChunk h bytes s) := by
  unfold execImageChunk
  repeat' first
    | with_reducible assumption | intro _
    | with_reducible exact may_trans gm (by decide +kernel)
    | with_reducible apply keeps_ite | with_reducible apply hostWrite_keeps | with_reducible apply keepsO_next
    | with_reducible apply keepsO_ite
    | exact keepsO_fault
    | dsimp -zeta -zetaHave only

def execImageClose_may : Nat :=
  State.hostWrite_may
theorem execImageClose_keeps {M : Nat} {S0 : State} (h : Hdr) (len : Nat) {s : State} (gs : Keeps M S0 s) (gm : execImageClose_may &&& M = execImageClose_may := by decide +kernel) :
    KeepsO M S0 (execImageClose h len s) := by
  unfold execImageClose
  repeat' first
    | with_reducible assumption | intro _
    | with_reducible exact may_trans gm (by decide +kernel)
    | with_reducible apply keeps_ite | with_reducible apply hostWrite_keeps | with_reducible apply keepsO_next
    | with_reducible apply keepsO_ite
    | exact keepsO_fault
    | dsimp -zeta -zetaHave only

def execImageErase_may : Nat :=
  State.hostByte_may
theorem execImageErase_keeps {M : Nat} {S0 : State} (h : Hdr) (v : Nat) {s : State} (gs : Keeps M S0 s) (gm : execImageErase_may &&& M = execImageErase_may := by decide +kernel) :
    KeepsO M S0 (execImageErase h v s) := by
  unfold execImageErase
  repeat' first
    | with_reducible assumption | intro _
    | with_reducible exact may_trans gm (by decide +kernel)
    | with_reducible apply keeps_ite | with_reducible apply hostByte_keeps | with_reducible apply keepsO_next
    | with_reducible apply keepsO_ite
    | exact keepsO_fault
    | dsimp -zeta -zetaHave only

def execSwapStart_may : Nat :=
  State.hostByte_may
theorem execSwapStart_keeps {M : Nat} {S0 : State} (h : Hdr) (v : Nat) {s : State} (gs : Keeps M S0 s) (gm : execSwapStart_may &&& M = execSwapStart_may := by decide +kernel) :
    KeepsO M S0 (execSwapStart h v s) := by
  unfold execSwapStart
  repeat' first
    | with_reducible assumption | intro _
    | with_reducible exact may_trans gm (by decide +kernel)
    | with_reducible apply keeps_ite | with_reducible apply hostByte_keeps | with_reducible apply keepsO_next
    | with_reducible apply keepsO_ite
    | exact keepsO_fault
    | dsimp -zeta -zetaHave only

def execEngineClear_may : Nat :=
  State.hostByte_may
theorem execEngineClear_keeps {M : Nat} {S0 : State} (h : Hdr) (v : Nat) {s : State} (gs : Keeps M S0 s) (gm : execEngineClear_may &&& M = execEngineClear_may := by decide +kernel) :
    KeepsO M S0 (execEngineClear h v s) := by
  unfold execEngineClear
  repeat' first
    | with_reducible assumption | intro _
    | with_reducible exact may_trans gm (by decide +kernel)
    | with_reducible apply keeps_ite | with_reducible apply hostByte_keeps | with_reducible apply keepsO_next
    | with_reducible apply keepsO_ite
    | exact keepsO_fault
    | dsimp -zeta -zetaHave only

def execRelease_may : Nat :=
  State.hostByte_may
theorem execRelease_keeps {M : Nat} {S0 : State} (h : Hdr) (q : Fin 80) {s : State} (gs : Keeps M S0 s) (gm : execRelease_may &&& M = execRelease_may := by decide +kernel) :
    KeepsO M S0 (execRelease h q s) := by
  unfold execRelease
  repeat' first
    | with_reducible assumption | intro _
    | with_reducible exact may_trans gm (by decide +kernel)
    | with_reducible apply keeps_ite | with_reducible apply hostByte_keeps | with_reducible apply keepsO_next
    | with_reducible apply keepsO_ite
    | exact keepsO_fault
    | dsimp -zeta -zetaHave only

def execMailPush_may : Nat :=
  State.hostWrite_may
theorem execMailPush_keeps {M : Nat} {S0 : State} (h : Hdr) (m : Fin 4) (bytes : List Byte) {s : State} (gs : Keeps M S0 s) (gm : execMailPush_may &&& M = execMailPush_may := by decide +kernel) :
    KeepsO M S0 (execMailPush h m bytes s) := by
  unfold execMailPush
  repeat' first
    | with_reducible assumption | intro _
    | with_reducible exact may_trans gm (by decide +kernel)
    | with_reducible apply keeps_ite | with_reducible apply hostWrite_keeps | with_reducible apply keepsO_next
    | with_reducible apply keepsO_ite
    | exact keepsO_fault
    | dsimp -zeta -zetaHave only

def execCaptureFetch_may : Nat :=
  State.hostByte_may
theorem execCaptureFetch_keeps {M : Nat} {S0 : State} (h : Hdr) (v : Nat) {s : State} (gs : Keeps M S0 s) (gm : execCaptureFetch_may &&& M = execCaptureFetch_may := by decide +kernel) :
    KeepsO M S0 (execCaptureFetch h v s) := by
  unfold execCaptureFetch
  repeat' first
    | with_reducible assumption | intro _
    | with_reducible exact may_trans gm (by decide +kernel)
    | with_reducible apply keeps_ite | with_reducible apply hostByte_keeps | with_reducible apply keepsO_next
    | with_reducible apply keepsO_ite
    | exact keepsO_fault
    | dsimp -zeta -zetaHave only

def execInjectArm_may : Nat :=
  State.hostByte_may
theorem execInjectArm_keeps {M : Nat} {S0 : State} (h : Hdr) (v : Nat) {s : State} (gs : Keeps M S0 s) (gm : execInjectArm_may &&& M = execInjectArm_may := by decide +kernel) :
    KeepsO M S0 (execInjectArm h v s) := by
  unfold execInjectArm
  repeat' first
    | with_reducible assumption | intro _
    | with_reducible exact may_trans gm (by decide +kernel)
    | with_reducible apply keeps_ite | with_reducible apply hostByte_keeps | with_reducible apply keepsO_next
    | with_reducible apply keepsO_ite
    | exact keepsO_fault
    | dsimp -zeta -zetaHave only

def execCounterFreeze_may : Nat :=
  State.hostByte_may
theorem execCounterFreeze_keeps {M : Nat} {S0 : State} (h : Hdr) {s : State} (gs : Keeps M S0 s) (gm : execCounterFreeze_may &&& M = execCounterFreeze_may := by decide +kernel) :
    KeepsO M S0 (execCounterFreeze h s) := by
  unfold execCounterFreeze
  repeat' first
    | with_reducible assumption | intro _
    | with_reducible exact may_trans gm (by decide +kernel)
    | with_reducible apply keeps_ite | with_reducible apply hostByte_keeps | with_reducible apply keepsO_next
    | with_reducible apply keepsO_ite
    | exact keepsO_fault
    | dsimp -zeta -zetaHave only

def execLockoutClear_may : Nat :=
  State.hostByte_may
theorem execLockoutClear_keeps {M : Nat} {S0 : State} (h : Hdr) (v : Nat) {s : State} (gs : Keeps M S0 s) (gm : execLockoutClear_may &&& M = execLockoutClear_may := by decide +kernel) :
    KeepsO M S0 (execLockoutClear h v s) := by
  unfold execLockoutClear
  repeat' first
    | with_reducible assumption | intro _
    | with_reducible exact may_trans gm (by decide +kernel)
    | with_reducible apply keeps_ite | with_reducible apply hostByte_keeps | with_reducible apply keepsO_next
    | with_reducible apply keepsO_ite
    | exact keepsO_fault
    | dsimp -zeta -zetaHave only

def execResetRequest_may : Nat :=
  State.hostByte_may
theorem execResetRequest_keeps {M : Nat} {S0 : State} (h : Hdr) (v : Nat) {s : State} (gs : Keeps M S0 s) (gm : execResetRequest_may &&& M = execResetRequest_may := by decide +kernel) :
    KeepsO M S0 (execResetRequest h v s) := by
  unfold execResetRequest
  repeat' first
    | with_reducible assumption | intro _
    | with_reducible exact may_trans gm (by decide +kernel)
    | with_reducible apply keeps_ite | with_reducible apply hostByte_keeps | with_reducible apply keepsO_next
    | with_reducible apply keepsO_ite
    | exact keepsO_fault
    | dsimp -zeta -zetaHave only

def State.hostMode_may : Nat :=
  State.hostByte_may
theorem hostMode_keeps {M : Nat} {S0 : State} {s : State} (h : Hdr) (v : Nat) (gs : Keeps M S0 s) (gm : State.hostMode_may &&& M = State.hostMode_may := by decide +kernel) :
    Keeps M S0 (State.hostMode s h v) := by
  unfold State.hostMode
  repeat' first
    | with_reducible assumption
    | (intro x; refine keeps_cut (m := M) (s0 := S0) (x := x) ?_ ?_; all_goals first | (intro hx; clear_value x) | subst x)
    | (intro x; clear_value x)
    | intro _
    | with_reducible exact may_trans gm (by decide +kernel)
    | with_reducible apply keeps_ite | with_reducible apply hostByte_keeps | dsimp -zeta -zetaHave only | lift_lets -underBinder

def execModeRequestConfigure_may : Nat :=
  State.hostMode_may
theorem execModeRequestConfigure_keeps {M : Nat} {S0 : State} (h : Hdr) {s : State} (gs : Keeps M S0 s) (gm : execModeRequestConfigure_may &&& M = execModeRequestConfigure_may := by decide +kernel) :
    KeepsO M S0 (execModeRequestConfigure h s) := by
  unfold execModeRequestConfigure
  repeat' first
    | with_reducible assumption | intro _
    | with_reducible exact may_trans gm (by decide +kernel)
    | with_reducible apply keeps_ite | with_reducible apply hostMode_keeps | with_reducible apply keepsO_next
    | with_reducible apply keepsO_ite
    | exact keepsO_fault
    | dsimp -zeta -zetaHave only

def execModeRequestCalibrate_may : Nat :=
  State.hostMode_may
theorem execModeRequestCalibrate_keeps {M : Nat} {S0 : State} (h : Hdr) {s : State} (gs : Keeps M S0 s) (gm : execModeRequestCalibrate_may &&& M = execModeRequestCalibrate_may := by decide +kernel) :
    KeepsO M S0 (execModeRequestCalibrate h s) := by
  unfold execModeRequestCalibrate
  repeat' first
    | with_reducible assumption | intro _
    | with_reducible exact may_trans gm (by decide +kernel)
    | with_reducible apply keeps_ite | with_reducible apply hostMode_keeps | with_reducible apply keepsO_next
    | with_reducible apply keepsO_ite
    | exact keepsO_fault
    | dsimp -zeta -zetaHave only

def execModeRequestArmed_may : Nat :=
  State.hostMode_may
theorem execModeRequestArmed_keeps {M : Nat} {S0 : State} (h : Hdr) {s : State} (gs : Keeps M S0 s) (gm : execModeRequestArmed_may &&& M = execModeRequestArmed_may := by decide +kernel) :
    KeepsO M S0 (execModeRequestArmed h s) := by
  unfold execModeRequestArmed
  repeat' first
    | with_reducible assumption | intro _
    | with_reducible exact may_trans gm (by decide +kernel)
    | with_reducible apply keeps_ite | with_reducible apply hostMode_keeps | with_reducible apply keepsO_next
    | with_reducible apply keepsO_ite
    | exact keepsO_fault
    | dsimp -zeta -zetaHave only

def execModeRequestRun_may : Nat :=
  State.hostMode_may
theorem execModeRequestRun_keeps {M : Nat} {S0 : State} (h : Hdr) {s : State} (gs : Keeps M S0 s) (gm : execModeRequestRun_may &&& M = execModeRequestRun_may := by decide +kernel) :
    KeepsO M S0 (execModeRequestRun h s) := by
  unfold execModeRequestRun
  repeat' first
    | with_reducible assumption | intro _
    | with_reducible exact may_trans gm (by decide +kernel)
    | with_reducible apply keeps_ite | with_reducible apply hostMode_keeps | with_reducible apply keepsO_next
    | with_reducible apply keepsO_ite
    | exact keepsO_fault
    | dsimp -zeta -zetaHave only

def execModeRequestSafe_may : Nat :=
  State.hostMode_may
theorem execModeRequestSafe_keeps {M : Nat} {S0 : State} (h : Hdr) {s : State} (gs : Keeps M S0 s) (gm : execModeRequestSafe_may &&& M = execModeRequestSafe_may := by decide +kernel) :
    KeepsO M S0 (execModeRequestSafe h s) := by
  unfold execModeRequestSafe
  repeat' first
    | with_reducible assumption | intro _
    | with_reducible exact may_trans gm (by decide +kernel)
    | with_reducible apply keeps_ite | with_reducible apply hostMode_keeps | with_reducible apply keepsO_next
    | with_reducible apply keepsO_ite
    | exact keepsO_fault
    | dsimp -zeta -zetaHave only

def execModeRequestLockout_may : Nat :=
  State.hostMode_may
theorem execModeRequestLockout_keeps {M : Nat} {S0 : State} (h : Hdr) {s : State} (gs : Keeps M S0 s) (gm : execModeRequestLockout_may &&& M = execModeRequestLockout_may := by decide +kernel) :
    KeepsO M S0 (execModeRequestLockout h s) := by
  unfold execModeRequestLockout
  repeat' first
    | with_reducible assumption | intro _
    | with_reducible exact may_trans gm (by decide +kernel)
    | with_reducible apply keeps_ite | with_reducible apply hostMode_keeps | with_reducible apply keepsO_next
    | with_reducible apply keepsO_ite
    | exact keepsO_fault
    | dsimp -zeta -zetaHave only

def execModeRequestStandby_may : Nat :=
  State.hostMode_may
theorem execModeRequestStandby_keeps {M : Nat} {S0 : State} (h : Hdr) {s : State} (gs : Keeps M S0 s) (gm : execModeRequestStandby_may &&& M = execModeRequestStandby_may := by decide +kernel) :
    KeepsO M S0 (execModeRequestStandby h s) := by
  unfold execModeRequestStandby
  repeat' first
    | with_reducible assumption | intro _
    | with_reducible exact may_trans gm (by decide +kernel)
    | with_reducible apply keeps_ite | with_reducible apply hostMode_keeps | with_reducible apply keepsO_next
    | with_reducible apply keepsO_ite
    | exact keepsO_fault
    | dsimp -zeta -zetaHave only

-- Modes.lean

def State.leaveCalibrate_may : Nat :=
  State.voidPoint_may ||| State.cvRejoin_may
theorem leaveCalibrate_keeps {M : Nat} {S0 : State} {s : State} (gs : Keeps M S0 s) (gm : State.leaveCalibrate_may &&& M = State.leaveCalibrate_may := by decide +kernel) :
    Keeps M S0 (State.leaveCalibrate s) := by
  unfold State.leaveCalibrate
  repeat' first
    | with_reducible assumption | intro _
    | with_reducible exact may_trans gm (by decide +kernel)
    | with_reducible apply keeps_ite | with_reducible apply voidPoint_keeps | with_reducible apply cvRejoin_keeps
    | dsimp -zeta -zetaHave only | split

def State.energise_may : Nat :=
  State.alignFb_may ||| State.refMark_may ||| State.startPhases_may
theorem energise_keeps {M : Nat} {S0 : State} {s : State} (n : Nat) (gs : Keeps M S0 s) (gm : State.energise_may &&& M = State.energise_may := by decide +kernel) :
    Keeps M S0 (State.energise s n) := by
  unfold State.energise
  repeat' first
    | with_reducible assumption
    | (intro x; refine keeps_cut (m := M) (s0 := S0) (x := x) ?_ ?_; all_goals first | (intro hx; clear_value x) | subst x)
    | (intro x; clear_value x)
    | intro _
    | with_reducible exact may_trans gm (by decide +kernel)
    | with_reducible apply keeps_ite | with_reducible apply keeps_iff | with_reducible apply alignFb_keeps
    | with_reducible apply refMark_keeps | with_reducible apply startPhases_keeps | dsimp -zeta -zetaHave only | lift_lets -underBinder
    | split

def State.runFromArmed_may : Nat :=
  may .islandFrom ||| State.enableNow_may ||| State.energise_may
theorem runFromArmed_keeps {M : Nat} {S0 : State} {s : State} (gs : Keeps M S0 s) (gm : State.runFromArmed_may &&& M = State.runFromArmed_may := by decide +kernel) :
    Keeps M S0 (State.runFromArmed s) := by
  unfold State.runFromArmed
  repeat' first
    | with_reducible assumption
    | (intro x; refine keeps_cut (m := M) (s0 := S0) (x := x) ?_ ?_; all_goals first | (intro hx; clear_value x) | subst x)
    | (intro x; clear_value x)
    | intro _
    | with_reducible exact may_trans gm (by decide +kernel)
    | with_reducible apply keeps_ite | with_reducible apply keeps_forAll | with_reducible apply keeps_iff
    | with_reducible apply enableNow_keeps | with_reducible apply energise_keeps | with_reducible apply keeps_wr
    | dsimp -zeta -zetaHave only | lift_lets -underBinder | split

def State.runFromSafe_may : Nat :=
  may .STILL_PASSES ||| may .islandFrom ||| State.setAxis_may ||| State.halt_may
theorem runFromSafe_keeps {M : Nat} {S0 : State} {s : State} (gs : Keeps M S0 s) (gm : State.runFromSafe_may &&& M = State.runFromSafe_may := by decide +kernel) :
    Keeps M S0 (State.runFromSafe s) := by
  unfold State.runFromSafe
  repeat' first
    | with_reducible assumption
    | (intro x; refine keeps_cut (m := M) (s0 := S0) (x := x) ?_ ?_; all_goals first | (intro hx; clear_value x) | subst x)
    | (intro x; clear_value x)
    | intro _
    | with_reducible exact may_trans gm (by decide +kernel)
    | with_reducible apply keeps_ite | with_reducible apply keeps_forAll | with_reducible apply setAxis_keeps
    | with_reducible apply halt_keeps | with_reducible apply keeps_wr | dsimp -zeta -zetaHave only | lift_lets -underBinder | split

def State.arm_may : Nat :=
  may .ARM_STATE ||| may .armAuto ||| State.queueDiag_may
theorem arm_keeps {M : Nat} {S0 : State} {s : State} (auto : Bool) (gs : Keeps M S0 s) (gm : State.arm_may &&& M = State.arm_may := by decide +kernel) :
    Keeps M S0 (State.arm s auto) := by
  unfold State.arm
  repeat' first
    | with_reducible assumption
    | (intro x; refine keeps_cut (m := M) (s0 := S0) (x := x) ?_ ?_; all_goals first | (intro hx; clear_value x) | subst x)
    | (intro x; clear_value x)
    | intro _
    | with_reducible exact may_trans gm (by decide +kernel)
    | with_reducible apply keeps_ite | with_reducible apply keeps_forAll | with_reducible apply queueDiag_keeps
    | with_reducible apply keeps_wr | dsimp -zeta -zetaHave only | lift_lets -underBinder | split

def State.leaveSafe_may : Nat :=
  may .ANGLE_INC ||| may .incShadow ||| State.wrPlanner_may
theorem leaveSafe_keeps {M : Nat} {S0 : State} {s : State} (gs : Keeps M S0 s) (gm : State.leaveSafe_may &&& M = State.leaveSafe_may := by decide +kernel) :
    Keeps M S0 (State.leaveSafe s) := by
  unfold State.leaveSafe
  repeat' first
    | with_reducible assumption
    | (intro x; refine keeps_cut (m := M) (s0 := S0) (x := x) ?_ ?_; all_goals first | (intro hx; clear_value x) | subst x)
    | (intro x; clear_value x)
    | intro _
    | with_reducible exact may_trans gm (by decide +kernel)
    | with_reducible apply keeps_ite | with_reducible apply keeps_forAll | with_reducible apply wrPlanner_keeps
    | with_reducible apply keeps_wr | dsimp -zeta -zetaHave only | lift_lets -underBinder | split

def State.enter_may : Nat :=
  may .END_CAUSE ||| may .STANDBY_ORIGIN ||| may .aliveStop ||| may .contactPending ||| may .islandExp ||| may .islandInSwap ||| may
  .modeMark ||| may .wakeSince ||| State.detect_may ||| State.setMode_may ||| State.bridgesOff_may ||| State.busAtEntry_may |||
  State.leaveCalibrate_may ||| State.runFromArmed_may ||| State.runFromSafe_may ||| State.arm_may ||| State.leaveSafe_may
theorem enter_keeps {M : Nat} {S0 : State} {s : State} (m c : Nat) (gs : Keeps M S0 s) (gm : State.enter_may &&& M = State.enter_may := by decide +kernel) :
    Keeps M S0 (State.enter s m c) := by
  unfold State.enter
  repeat' first
    | with_reducible assumption
    | (intro x; refine keeps_cut (m := M) (s0 := S0) (x := x) ?_ ?_; all_goals first | (intro hx; clear_value x) | subst x)
    | (intro x; clear_value x)
    | intro _
    | with_reducible exact may_trans gm (by decide +kernel)
    | with_reducible apply keeps_ite | with_reducible apply keeps_forAll | with_reducible apply keeps_iff
    | with_reducible apply detect_keeps | with_reducible apply setMode_keeps | with_reducible apply bridgesOff_keeps
    | with_reducible apply busAtEntry_keeps | with_reducible apply leaveCalibrate_keeps | with_reducible apply runFromArmed_keeps
    | with_reducible apply runFromSafe_keeps | with_reducible apply arm_keeps | with_reducible apply leaveSafe_keeps
    | with_reducible apply keeps_wr | dsimp -zeta -zetaHave only | lift_lets -underBinder | split

def State.enterIsland_may : Nat :=
  may .ISLAND_COUNT ||| may .islandMark ||| may .stopAt ||| may .stopPend ||| State.count_may ||| State.detect_may |||
  State.enter_may
theorem enterIsland_keeps {M : Nat} {S0 : State} {s : State} (gs : Keeps M S0 s) (gm : State.enterIsland_may &&& M = State.enterIsland_may := by decide +kernel) :
    Keeps M S0 (State.enterIsland s) := by
  unfold State.enterIsland
  repeat' first
    | with_reducible assumption
    | (intro x; refine keeps_cut (m := M) (s0 := S0) (x := x) ?_ ?_; all_goals first | (intro hx; clear_value x) | subst x)
    | (intro x; clear_value x)
    | intro _
    | with_reducible exact may_trans gm (by decide +kernel)
    | with_reducible apply keeps_ite | with_reducible apply keeps_forAll | with_reducible apply keeps_iff
    | with_reducible apply count_keeps | with_reducible apply detect_keeps | with_reducible apply enter_keeps
    | with_reducible apply keeps_wr | dsimp -zeta -zetaHave only | lift_lets -underBinder | split

def execIslandTimeout_may : Nat :=
  may .islandInSwap ||| State.enterIsland_may
theorem execIslandTimeout_keeps {M : Nat} {S0 : State} {s : State} (gs : Keeps M S0 s) (gm : execIslandTimeout_may &&& M = execIslandTimeout_may := by decide +kernel) :
    KeepsO M S0 (execIslandTimeout s) := by
  unfold execIslandTimeout
  repeat' first
    | with_reducible assumption | intro _
    | with_reducible exact may_trans gm (by decide +kernel)
    | with_reducible apply keeps_ite | with_reducible apply enterIsland_keeps | with_reducible apply keeps_wr
    | with_reducible apply keepsO_next | with_reducible apply keepsO_ite
    | exact keepsO_fault
    | dsimp -zeta -zetaHave only | split

def execIslandHold_may : Nat :=
  State.detect_may
theorem execIslandHold_keeps {M : Nat} {S0 : State} {s : State} (gs : Keeps M S0 s) (gm : execIslandHold_may &&& M = execIslandHold_may := by decide +kernel) :
    KeepsO M S0 (execIslandHold s) := by
  unfold execIslandHold
  repeat' first
    | with_reducible assumption | intro _
    | with_reducible exact may_trans gm (by decide +kernel)
    | with_reducible apply keeps_ite | with_reducible apply detect_keeps | with_reducible apply keepsO_next
    | with_reducible apply keepsO_ite
    | exact keepsO_fault
    | dsimp -zeta -zetaHave only | split

def execSwapComplete_may : Nat :=
  may .SWAP_MARK ||| State.cfg_may ||| State.report_may ||| State.endSwap_may ||| State.adopt_may ||| State.trySwap_may |||
  State.enterIsland_may
theorem execSwapComplete_keeps0 {S0 : State} {s : State} (gs : Keeps execSwapComplete_may S0 s) : KeepsO execSwapComplete_may S0 (execSwapComplete s) := by
  unfold execSwapComplete
  dsimp only
  refine keepsO_next (keeps_ite ?_ gs)
  split
  · exact keeps_iff (endSwap_keeps _ (report_keeps _ gs)) (fun _ h => enterIsland_keeps h)
  · rename_i h
    exact keeps_iff (endSwap_keeps _ (report_keeps _ (keeps_wr (cfg_keeps _ (adopt_keeps _ (trySwap_keeps _ gs h))) _ _ _
      (by decide +kernel))))
      (fun _ h => enterIsland_keeps h)
theorem execSwapComplete_keeps {M : Nat} {S0 : State} {s : State} (gs : Keeps M S0 s) (gm : execSwapComplete_may &&& M = execSwapComplete_may := by decide +kernel) :
    KeepsO M S0 (execSwapComplete s) :=
  ⟨fun t e => gs.trans (((execSwapComplete_keeps0  (keeps_refl _ s)).next t e).mono gm)⟩

def State.safeAxis_may : Nat :=
  may .ANGLE_INC ||| may .END_CAUSE ||| may .incShadow ||| State.stopAxis_may ||| State.learnEnd_may
theorem safeAxis_keeps {M : Nat} {S0 : State} {s : State} (n : Nat) (gs : Keeps M S0 s) (gm : State.safeAxis_may &&& M = State.safeAxis_may := by decide +kernel) :
    Keeps M S0 (State.safeAxis s n) := by
  unfold State.safeAxis
  repeat' first
    | with_reducible assumption
    | (intro x; refine keeps_cut (m := M) (s0 := S0) (x := x) ?_ ?_; all_goals first | (intro hx; clear_value x) | subst x)
    | (intro x; clear_value x)
    | intro _
    | with_reducible exact may_trans gm (by decide +kernel)
    | with_reducible apply keeps_ite | with_reducible apply keeps_iff | with_reducible apply stopAxis_keeps
    | with_reducible apply learnEnd_keeps | with_reducible apply keeps_wr | dsimp -zeta -zetaHave only | lift_lets -underBinder | split

def State.safeWords_may : Nat :=
  State.wrLed_may ||| State.ledRead_may
theorem safeWords_keeps {M : Nat} {S0 : State} {s : State} (n : Nat) (gs : Keeps M S0 s) (gm : State.safeWords_may &&& M = State.safeWords_may := by decide +kernel) :
    Keeps M S0 (State.safeWords s n) := by
  unfold State.safeWords
  repeat' first
    | with_reducible assumption
    | refine keeps_fst (by with_reducible assumption) ?_
    | refine keeps_snd (by with_reducible assumption) ?_
    | (intro x; refine keeps_cut (m := M) (s0 := S0) (x := x) ?_ ?_; all_goals first | (intro hx; clear_value x) | subst x)
    | (intro x; clear_value x)
    | intro _
    | with_reducible exact may_trans gm (by decide +kernel)
    | with_reducible apply keeps_ite | with_reducible apply wrLed_keeps | with_reducible apply ledRead_keeps | dsimp -zeta -zetaHave only
    | lift_lets -underBinder | split

def State.enterSafe_may : Nat :=
  may_safes ||| may .SAFE_COUNT ||| may .tripPending ||| State.count_may ||| State.finish_may ||| State.enter_may |||
  State.safeAxis_may ||| State.safeWords_may
theorem enterSafe_keeps {M : Nat} {S0 : State} {s : State} (gs : Keeps M S0 s) (gm : State.enterSafe_may &&& M = State.enterSafe_may := by decide +kernel) :
    Keeps M S0 (State.enterSafe s) := by
  unfold State.enterSafe
  repeat' first
    | with_reducible assumption
    | (intro x; refine keeps_cut (m := M) (s0 := S0) (x := x) ?_ ?_; all_goals first | (intro hx; clear_value x) | subst x)
    | (intro x; clear_value x)
    | intro _
    | with_reducible exact may_trans gm (by decide +kernel)
    | with_reducible apply keeps_ite | with_reducible apply keeps_forAll | with_reducible apply count_keeps
    | with_reducible apply finish_keeps | with_reducible apply enter_keeps | with_reducible apply safeAxis_keeps
    | with_reducible apply safeWords_keeps | with_reducible apply keeps_wr | dsimp -zeta -zetaHave only | lift_lets -underBinder
    | with_reducible apply keeps_safes

def State.tripLimit_may : Nat :=
  may .lockoutPending ||| State.flashLockout_may
theorem tripLimit_keeps {M : Nat} {S0 : State} {s : State} (gs : Keeps M S0 s) (gm : State.tripLimit_may &&& M = State.tripLimit_may := by decide +kernel) :
    Keeps M S0 (State.tripLimit s) := by
  unfold State.tripLimit
  repeat' first
    | with_reducible assumption | intro _
    | with_reducible exact may_trans gm (by decide +kernel)
    | with_reducible apply keeps_ite | with_reducible apply flashLockout_keeps | with_reducible apply keeps_wr
    | dsimp -zeta -zetaHave only | split

def execSafeEntry_may : Nat :=
  State.enterSafe_may ||| State.tripLimit_may
theorem execSafeEntry_keeps {M : Nat} {S0 : State} {s : State} (gs : Keeps M S0 s) (gm : execSafeEntry_may &&& M = execSafeEntry_may := by decide +kernel) :
    KeepsO M S0 (execSafeEntry s) := by
  unfold execSafeEntry
  repeat' first
    | with_reducible assumption | intro _
    | with_reducible exact may_trans gm (by decide +kernel)
    | with_reducible apply keeps_ite | with_reducible apply enterSafe_keeps | with_reducible apply tripLimit_keeps
    | with_reducible apply keepsO_next | with_reducible apply keepsO_ite
    | exact keepsO_fault
    | dsimp -zeta -zetaHave only | split

def execArmingComplete_may : Nat :=
  may .ARM_STATE ||| may .armAt
theorem execArmingComplete_keeps {M : Nat} {S0 : State} {s : State} (gs : Keeps M S0 s) (gm : execArmingComplete_may &&& M = execArmingComplete_may := by decide +kernel) :
    KeepsO M S0 (execArmingComplete s) := by
  unfold execArmingComplete
  repeat' first
    | with_reducible assumption | intro _
    | with_reducible exact may_trans gm (by decide +kernel)
    | with_reducible apply keeps_ite | with_reducible apply keeps_wr | with_reducible apply keepsO_next | with_reducible apply keepsO_ite
    | exact keepsO_fault
    | dsimp -zeta -zetaHave only | split

def execAutoRun_may : Nat :=
  State.enter_may
theorem execAutoRun_keeps {M : Nat} {S0 : State} {s : State} (gs : Keeps M S0 s) (gm : execAutoRun_may &&& M = execAutoRun_may := by decide +kernel) :
    KeepsO M S0 (execAutoRun s) := by
  unfold execAutoRun
  repeat' first
    | with_reducible assumption | intro _
    | with_reducible exact may_trans gm (by decide +kernel)
    | with_reducible apply keeps_ite | with_reducible apply enter_keeps | with_reducible apply keepsO_next
    | with_reducible apply keepsO_ite
    | exact keepsO_fault
    | dsimp -zeta -zetaHave only | split

def execStandbyEntered_may : Nat :=
  State.enter_may
theorem execStandbyEntered_keeps {M : Nat} {S0 : State} {s : State} (gs : Keeps M S0 s) (gm : execStandbyEntered_may &&& M = execStandbyEntered_may := by decide +kernel) :
    KeepsO M S0 (execStandbyEntered s) := by
  unfold execStandbyEntered
  repeat' first
    | with_reducible assumption | intro _
    | with_reducible exact may_trans gm (by decide +kernel)
    | with_reducible apply keeps_ite | with_reducible apply enter_keeps | with_reducible apply keepsO_next
    | with_reducible apply keepsO_ite
    | exact keepsO_fault
    | dsimp -zeta -zetaHave only | split

def execWake_may : Nat :=
  State.detect_may ||| State.enter_may
theorem execWake_keeps {M : Nat} {S0 : State} {s : State} (gs : Keeps M S0 s) (gm : execWake_may &&& M = execWake_may := by decide +kernel) :
    KeepsO M S0 (execWake s) := by
  unfold execWake
  repeat' first
    | with_reducible assumption
    | (intro x; refine keeps_cut (m := M) (s0 := S0) (x := x) ?_ ?_; all_goals first | (intro hx; clear_value x) | subst x)
    | (intro x; clear_value x)
    | intro _
    | with_reducible exact may_trans gm (by decide +kernel)
    | with_reducible apply keeps_ite | with_reducible apply detect_keeps | with_reducible apply enter_keeps
    | with_reducible apply keepsO_next | with_reducible apply keepsO_ite
    | exact keepsO_fault
    | dsimp -zeta -zetaHave only | lift_lets -underBinder | split

def State.toReset_may : Nat :=
  mayAll ||| may_ledger ||| may_staged ||| may_queues ||| may_log ||| may_opens ||| may_shadows ||| may_fresh ||| may_freshAt |||
  may_planners ||| may_streams ||| may_slopes ||| may_bankA ||| may_bankB ||| may_planCopy ||| may_fallback ||| may_loading |||
  may_progs ||| may_runs ||| may_cutoffs ||| may_safes ||| may_calls ||| may_diag ||| may_images ||| may_chunks ||| may_flash |||
  may_newSet ||| may_tags ||| may_deferred ||| may_gateway ||| may_wire ||| may_delays ||| may_traceBuf ||| may_traceOut |||
  may_freeCtr ||| may_was
theorem toReset_keeps {M : Nat} {S0 s : State} (gs : Keeps M S0 s) (gm : State.toReset_may &&& M = State.toReset_may := by decide +kernel) :
    Keeps M S0 (State.toReset s) := by
  have h := interruptClose_keeps (M := State.toReset_may) (keeps_refl State.toReset_may s)
  have c := reset_canonical
  have b : ∀ {k : Nat} {P : Prop}, 2 ^ k &&& State.toReset_may = 2 ^ k → M.testBit k = false → P := fun e e2 =>
    absurd ((may_bit (may_trans gm e)).symm.trans e2) Bool.noConfusion
  have g : Keeps M S0 { State.reset with
      flash := s.interruptClose.flash, images := s.interruptClose.images, freeCtr := s.interruptClose.freeCtr,
      pending := s.interruptClose.pending } :=
    ⟨h.pend.trans gs.pend, fun c0 => let d := h.can (gs.can c0); ⟨c.regs, c.ledger, c.staged, c.queues, c.opens, c.fresh, c.planners,
      c.streams, c.slopes, c.runs, c.cutoffs, c.calls, c.diag, d.images, d.flash, c.tags, c.gateway, c.wire, c.delays, c.log, c.traceBuf,
      c.each, c.wasRegs, c.wasLedger⟩, fun r i e => b (may_trans (b := mayAll) (by decide +kernel) (may_reg r)) e,
      b (k := 2001) (by decide +kernel), b (k := 2002) (by decide +kernel), b (k := 2003) (by decide +kernel),
      b (k := 2004) (by decide +kernel), b (k := 2005) (by decide +kernel), b (k := 2006) (by decide +kernel),
      b (k := 2007) (by decide +kernel), b (k := 2008) (by decide +kernel), b (k := 2009) (by decide +kernel),
      b (k := 2010) (by decide +kernel), b (k := 2011) (by decide +kernel), b (k := 2012) (by decide +kernel),
      b (k := 2013) (by decide +kernel), b (k := 2014) (by decide +kernel), b (k := 2015) (by decide +kernel),
      b (k := 2016) (by decide +kernel), b (k := 2017) (by decide +kernel), b (k := 2018) (by decide +kernel),
      b (k := 2019) (by decide +kernel), b (k := 2020) (by decide +kernel), b (k := 2021) (by decide +kernel),
      b (k := 2022) (by decide +kernel), b (k := 2023) (by decide +kernel), b (k := 2024) (by decide +kernel),
      b (k := 2025) (by decide +kernel), b (k := 2026) (by decide +kernel), b (k := 2027) (by decide +kernel),
      b (k := 2028) (by decide +kernel), b (k := 2029) (by decide +kernel), b (k := 2030) (by decide +kernel),
      b (k := 2031) (by decide +kernel), b (k := 2032) (by decide +kernel), b (k := 2033) (by decide +kernel),
      b (k := 2034) (by decide +kernel), b (k := 2035) (by decide +kernel)⟩
  unfold State.toReset
  dsimp only
  refine keeps_wr (keeps_wr ?_ .flashBad 0 _ (may_trans gm (by decide +kernel))) .flashCur 0 _ (may_trans gm (by decide +kernel))
  exact g

def execResetNLow_may : Nat :=
  State.toReset_may
theorem execResetNLow_keeps {M : Nat} {S0 : State} {s : State} (gs : Keeps M S0 s) (gm : execResetNLow_may &&& M = execResetNLow_may := by decide +kernel) :
    KeepsO M S0 (execResetNLow s) := by
  unfold execResetNLow
  repeat' first
    | with_reducible assumption | intro _
    | with_reducible exact may_trans gm (by decide +kernel)
    | with_reducible apply keeps_ite | with_reducible apply toReset_keeps | with_reducible apply keepsO_next
    | with_reducible apply keepsO_ite
    | exact keepsO_fault
    | dsimp -zeta -zetaHave only

def execLogicSupplyLost_may : Nat :=
  State.toReset_may
theorem execLogicSupplyLost_keeps {M : Nat} {S0 : State} {s : State} (gs : Keeps M S0 s) (gm : execLogicSupplyLost_may &&& M = execLogicSupplyLost_may := by decide +kernel) :
    KeepsO M S0 (execLogicSupplyLost s) := by
  unfold execLogicSupplyLost
  repeat' first
    | with_reducible assumption | intro _
    | with_reducible exact may_trans gm (by decide +kernel)
    | with_reducible apply keeps_ite | with_reducible apply toReset_keeps | with_reducible apply keepsO_next
    | with_reducible apply keepsO_ite
    | exact keepsO_fault
    | dsimp -zeta -zetaHave only

def execBothPllsLoseLock_may : Nat :=
  State.toReset_may
theorem execBothPllsLoseLock_keeps {M : Nat} {S0 : State} {s : State} (gs : Keeps M S0 s) (gm : execBothPllsLoseLock_may &&& M = execBothPllsLoseLock_may := by decide +kernel) :
    KeepsO M S0 (execBothPllsLoseLock s) := by
  unfold execBothPllsLoseLock
  repeat' first
    | with_reducible assumption | intro _
    | with_reducible exact may_trans gm (by decide +kernel)
    | with_reducible apply keeps_ite | with_reducible apply toReset_keeps | with_reducible apply keepsO_next
    | with_reducible apply keepsO_ite
    | exact keepsO_fault
    | dsimp -zeta -zetaHave only | split

def execRequestedResetEntry_may : Nat :=
  State.at_may ||| State.toReset_may
theorem execRequestedResetEntry_keeps {M : Nat} {S0 : State} (t : Nat) {s : State} (gs : Keeps M S0 s) (gm : execRequestedResetEntry_may &&& M = execRequestedResetEntry_may := by decide +kernel) :
    KeepsO M S0 (execRequestedResetEntry t s) := by
  unfold execRequestedResetEntry
  repeat' first
    | with_reducible assumption
    | (intro x; refine keeps_cut (m := M) (s0 := S0) (x := x) ?_ ?_; all_goals first | (intro hx; clear_value x) | subst x)
    | (intro x; clear_value x)
    | intro _
    | with_reducible exact may_trans gm (by decide +kernel)
    | with_reducible apply keeps_ite | with_reducible apply at_keeps | with_reducible apply toReset_keeps
    | with_reducible apply keepsO_next | with_reducible apply keepsO_ite
    | exact keepsO_fault
    | dsimp -zeta -zetaHave only | lift_lets -underBinder | split

def State.showPolicy_may : Nat :=
  State.setRed_may
theorem showPolicy_keeps {M : Nat} {S0 : State} {s : State} (gs : Keeps M S0 s) (gm : State.showPolicy_may &&& M = State.showPolicy_may := by decide +kernel) :
    Keeps M S0 (State.showPolicy s) := by
  unfold State.showPolicy
  repeat' first
    | with_reducible assumption
    | (intro x; refine keeps_cut (m := M) (s0 := S0) (x := x) ?_ ?_; all_goals first | (intro hx; clear_value x) | subst x)
    | (intro x; clear_value x)
    | intro _
    | with_reducible exact may_trans gm (by decide +kernel)
    | with_reducible apply keeps_ite | with_reducible apply setRed_keeps | dsimp -zeta -zetaHave only | lift_lets -underBinder

def State.takeCommitted_may : Nat :=
  State.activateSig_may ||| State.overlay_may ||| State.adoptAxis_may ||| State.adoptRest_may ||| State.showPolicy_may
theorem takeCommitted_keeps {M : Nat} {S0 : State} {s : State} (l : List (Nat × Int)) (gs : Keeps M S0 s) (gm : State.takeCommitted_may &&& M = State.takeCommitted_may := by decide +kernel) :
    Keeps M S0 (State.takeCommitted s l) := by
  unfold State.takeCommitted
  repeat' first
    | with_reducible assumption
    | (intro x; refine keeps_cut (m := M) (s0 := S0) (x := x) ?_ ?_; all_goals first | (intro hx; clear_value x) | subst x)
    | (intro x; clear_value x)
    | intro _
    | with_reducible exact may_trans gm (by decide +kernel)
    | with_reducible apply keeps_ite | with_reducible apply keeps_forAll | with_reducible apply activateSig_keeps
    | with_reducible apply overlay_keeps | with_reducible apply adoptAxis_keeps | with_reducible apply adoptRest_keeps
    | with_reducible apply showPolicy_keeps | dsimp -zeta -zetaHave only | lift_lets -underBinder | split

def State.dropCommitted_may : Nat :=
  State.setTable_may ||| State.adoptAxis_may ||| State.adoptRest_may ||| State.showPolicy_may ||| mayAll
theorem dropCommitted_keeps0 {S0 : State} {s : State} (gs : Keeps State.dropCommitted_may S0 s) : Keeps State.dropCommitted_may S0 (State.dropCommitted s) := by
  unfold State.dropCommitted
  extract_lets old keep s1
  have h1 : Keeps State.dropCommitted_may S0 s1 := keeps_regs gs (by decide +kernel) (fun c0 => regsWf_filter (gs.can c0).regs)
  clear_value s1
  exact showPolicy_keeps (adoptRest_keeps (keeps_forAll h1 (fun _ _ h => setTable_keeps _ _ _ _ (adoptAxis_keeps _ _ h gs))) gs)
theorem dropCommitted_keeps {M : Nat} {S0 : State} {s : State} (gs : Keeps M S0 s) (gm : State.dropCommitted_may &&& M = State.dropCommitted_may := by decide +kernel) :
    Keeps M S0 (State.dropCommitted s) :=
  gs.trans ((dropCommitted_keeps0  (keeps_refl _ s)).mono gm)

def State.readFlash_may : Nat :=
  may .LOCKOUT_FLAG ||| may .NODE_NUMBER ||| may .bootBank ||| may .flashRead ||| State.detect_may ||| State.setRed_may |||
  State.showImage_may ||| State.overlay_may ||| State.takeCommitted_may
theorem readFlash_keeps {M : Nat} {S0 : State} {s : State} (gs : Keeps M S0 s) (gm : State.readFlash_may &&& M = State.readFlash_may := by decide +kernel) :
    Keeps M S0 (State.readFlash s) := by
  unfold State.readFlash
  repeat' first
    | with_reducible assumption
    | (intro x; refine keeps_cut (m := M) (s0 := S0) (x := x) ?_ ?_; all_goals first | (intro hx; clear_value x) | subst x)
    | (intro x; clear_value x)
    | intro _
    | with_reducible exact may_trans gm (by decide +kernel)
    | with_reducible apply keeps_ite | with_reducible apply keeps_forAll | with_reducible apply keeps_iff
    | with_reducible apply detect_keeps | with_reducible apply setRed_keeps | with_reducible apply showImage_keeps
    | with_reducible apply overlay_keeps | with_reducible apply takeCommitted_keeps | with_reducible apply keeps_wr
    | dsimp -zeta -zetaHave only | lift_lets -underBinder | split

def execResetRelease_may : Nat :=
  may .CLK_SOURCE ||| may .ENA_STATE ||| may .aliveBoot ||| may .enaDiffFrom ||| may .feedSeen ||| may .lockDelay ||| may .pllLocked
  ||| may .pllTrim ||| may .pllTrimAt ||| may .rootKind ||| State.setMode_may ||| State.setRed_may ||| State.queueDiag_may |||
  State.lock_may ||| State.readFlash_may
theorem execResetRelease_keeps {M : Nat} {S0 : State} (w : ReleaseIn) {s : State} (gs : Keeps M S0 s) (gm : execResetRelease_may &&& M = execResetRelease_may := by decide +kernel) :
    KeepsO M S0 (execResetRelease w s) := by
  unfold execResetRelease
  repeat' first
    | with_reducible assumption
    | (intro x; refine keeps_cut (m := M) (s0 := S0) (x := x) ?_ ?_; all_goals first | (intro hx; clear_value x) | subst x)
    | (intro x; clear_value x)
    | intro _
    | with_reducible exact may_trans gm (by decide +kernel)
    | with_reducible apply keeps_ite | with_reducible apply keeps_forAll | with_reducible apply keeps_iff
    | with_reducible apply wrBit_keeps | with_reducible apply setMode_keeps | with_reducible apply setRed_keeps
    | with_reducible apply queueDiag_keeps | with_reducible apply lock_keeps | with_reducible apply readFlash_keeps
    | with_reducible apply keeps_wr | with_reducible apply keepsO_next | with_reducible apply keepsO_ite
    | exact keepsO_fault
    | dsimp -zeta -zetaHave only | lift_lets -underBinder | split

def State.failedParts_may : Nat :=
  may .ENGINE_STATE ||| may .takeover ||| may .tsOut ||| State.detect_may ||| State.setRed_may ||| State.endAtMark_may
theorem failedParts_keeps {M : Nat} {S0 : State} {s : State} (w : BootIn) (gs : Keeps M S0 s) (gm : State.failedParts_may &&& M = State.failedParts_may := by decide +kernel) :
    Keeps M S0 (State.failedParts s w) := by
  unfold State.failedParts
  repeat' first
    | with_reducible assumption
    | (intro x; refine keeps_cut (m := M) (s0 := S0) (x := x) ?_ ?_; all_goals first | (intro hx; clear_value x) | subst x)
    | (intro x; clear_value x)
    | intro _
    | with_reducible exact may_trans gm (by decide +kernel)
    | with_reducible apply keeps_ite | with_reducible apply keeps_forAll | with_reducible apply detect_keeps
    | with_reducible apply setRed_keeps | with_reducible apply endAtMark_keeps | with_reducible apply keeps_wr
    | dsimp -zeta -zetaHave only | lift_lets -underBinder | split

def State.failedDie_may : Nat :=
  may .DIAG_AXIS ||| may .DIAG_RESULT ||| may .DISABLE_CAUSE ||| may .DRIVE_STATE ||| may .dieOff ||| State.detectShadow_may |||
  State.contain_may ||| State.setDiag_may
theorem failedDie_keeps {M : Nat} {S0 : State} {s : State} (k : Nat) (gs : Keeps M S0 s) (gm : State.failedDie_may &&& M = State.failedDie_may := by decide +kernel) :
    Keeps M S0 (State.failedDie s k) := by
  unfold State.failedDie
  repeat' first
    | with_reducible assumption
    | (intro x; refine keeps_cut (m := M) (s0 := S0) (x := x) ?_ ?_; all_goals first | (intro hx; clear_value x) | subst x)
    | (intro x; clear_value x)
    | intro _
    | with_reducible exact may_trans gm (by decide +kernel)
    | with_reducible apply keeps_ite | with_reducible apply keeps_forList | with_reducible apply keeps_iff
    | with_reducible apply detectShadow_keeps | with_reducible apply contain_keeps | with_reducible apply setDiag_keeps
    | with_reducible apply keeps_wr | dsimp -zeta -zetaHave only | lift_lets -underBinder | split

def State.bootPlan_may : Nat :=
  may .ACTIVE_BANK ||| may .planPlaced ||| State.detect_may ||| State.report_may ||| State.adoptPlan_may ||| State.dropCommitted_may
theorem bootPlan_keeps {M : Nat} {S0 : State} {s : State} (gs : Keeps M S0 s) (gm : State.bootPlan_may &&& M = State.bootPlan_may := by decide +kernel) :
    Keeps M S0 (State.bootPlan s).1 := by
  unfold State.bootPlan
  repeat' first
    | with_reducible assumption
    | (intro x; refine keeps_cut (m := M) (s0 := S0) (x := x) ?_ ?_; all_goals first | (intro hx; clear_value x) | subst x)
    | (intro x; clear_value x)
    | intro _
    | with_reducible exact may_trans gm (by decide +kernel)
    | with_reducible apply keeps_ite | with_reducible apply keeps_ite1 | with_reducible apply keeps_ite2
    | with_reducible apply detect_keeps | with_reducible apply report_keeps | with_reducible apply adoptPlan_keeps
    | with_reducible apply dropCommitted_keeps | with_reducible apply keeps_wr | dsimp -zeta -zetaHave only | lift_lets -underBinder
    | split

def execBootEnd_may : Nat :=
  may .ARM_STATE ||| may .BOOT_DURATION ||| may .BOOT_RESULT ||| may .aliveBoot ||| may .armAt ||| may .armAuto ||| may .bootStuck
  ||| may .modeMark ||| State.setMode_may ||| State.setRed_may ||| State.failedParts_may ||| State.failedDie_may |||
  State.bootPlan_may
theorem execBootEnd_keeps {M : Nat} {S0 : State} (w : BootIn) {s : State} (gs : Keeps M S0 s) (gm : execBootEnd_may &&& M = execBootEnd_may := by decide +kernel) :
    KeepsO M S0 (execBootEnd w s) := by
  unfold execBootEnd
  repeat' first
    | with_reducible assumption
    | refine keeps_fst (by with_reducible assumption) ?_
    | refine keeps_snd (by with_reducible assumption) ?_
    | (intro x; refine keeps_cut (m := M) (s0 := S0) (x := x) ?_ ?_; all_goals first | (intro hx; clear_value x) | subst x)
    | (intro x; clear_value x)
    | intro _
    | with_reducible exact may_trans gm (by decide +kernel)
    | with_reducible apply keeps_ite | with_reducible apply keeps_forAll | with_reducible apply setMode_keeps
    | with_reducible apply setRed_keeps | with_reducible apply failedParts_keeps | with_reducible apply failedDie_keeps
    | with_reducible apply bootPlan_keeps | with_reducible apply keeps_wr | with_reducible apply keepsO_next
    | with_reducible apply keepsO_ite
    | exact keepsO_fault
    | dsimp -zeta -zetaHave only | lift_lets -underBinder | split

end Sys2Proof.Machine
end

