-- ==== Sys2Proof/Laws/KeepsRing.lean ====
section
/-! SUPPORT. One lemma per operation: all that it may change, that the waiting commands stay, and that the canonical form is kept. Here:
the trace unit, the ring and the pass. `X_may` is the mask of what the operation `X` may change. -/
namespace Sys2Proof.Machine

set_option Elab.async false
set_option linter.unusedTactic false
set_option linter.unreachableTactic false

-- Observe.lean

def State.traceWord_may : Nat :=
  may_traceBuf ||| may_traceOut ||| may .TRACE_BUF_NEWEST ||| may .traceNext ||| State.count_may
theorem traceWord_keeps0 {S0 : State} {s : State} (w : Word64) (gs : Keeps State.traceWord_may S0 s) : Keeps State.traceWord_may S0 (State.traceWord s w) := by
  unfold State.traceWord
  dsimp only
  have h1 : Keeps State.traceWord_may S0 (if s.rdN .TRACE_DEST 0 % 2 = 1 then { s with traceOut := some w } else s) := keeps_ite (keeps_traceOut gs (by decide +kernel)) gs
  refine keeps_wr (keeps_ite (count_keeps _ _ _ _ (keeps_traceBuf h1 (by decide +kernel) (fun c0 => ?_))) h1) _ _ _ (by decide +kernel)
  rw [List.length_take]
  exact Nat.min_le_left _ _
theorem traceWord_keeps {M : Nat} {S0 : State} {s : State} (w : Word64) (gs : Keeps M S0 s) (gm : State.traceWord_may &&& M = State.traceWord_may := by decide +kernel) :
    Keeps M S0 (State.traceWord s w) :=
  gs.trans ((traceWord_keeps0 _ (keeps_refl _ s)).mono gm)

def execTraceWordOut_may : Nat :=
  State.at_may ||| State.pop_may ||| State.traceWord_may
theorem execTraceWordOut_keeps {M : Nat} {S0 : State} (t : Nat) {s : State} (gs : Keeps M S0 s) (gm : execTraceWordOut_may &&& M = execTraceWordOut_may := by decide +kernel) :
    KeepsO M S0 (execTraceWordOut t s) := by
  unfold execTraceWordOut
  repeat' first
    | with_reducible assumption
    | refine keeps_fst (by with_reducible assumption) ?_
    | refine keeps_snd (by with_reducible assumption) ?_
    | (intro x; refine keeps_cut (m := M) (s0 := S0) (x := x) ?_ ?_; all_goals first | (intro hx; clear_value x) | subst x)
    | (intro x; clear_value x)
    | intro _
    | with_reducible exact may_trans gm (by decide +kernel)
    | with_reducible apply keeps_ite | with_reducible apply at_keeps | with_reducible apply pop_keeps
    | with_reducible apply traceWord_keeps | with_reducible apply keepsO_next | with_reducible apply keepsO_ite
    | exact keepsO_fault
    | dsimp -zeta -zetaHave only | lift_lets -underBinder | split

def execDropRecord_may : Nat :=
  may .dropPending ||| State.tally_may ||| State.at_may ||| State.push_may
theorem execDropRecord_keeps {M : Nat} {S0 : State} (t : Nat) {s : State} (gs : Keeps M S0 s) (gm : execDropRecord_may &&& M = execDropRecord_may := by decide +kernel) :
    KeepsO M S0 (execDropRecord t s) := by
  unfold execDropRecord
  repeat' first
    | with_reducible assumption
    | refine keeps_fst (by with_reducible assumption) ?_
    | refine keeps_snd (by with_reducible assumption) ?_
    | (intro x; refine keeps_cut (m := M) (s0 := S0) (x := x) ?_ ?_; all_goals first | (intro hx; clear_value x) | subst x)
    | (intro x; clear_value x)
    | intro _
    | with_reducible exact may_trans gm (by decide +kernel)
    | with_reducible apply keeps_ite | with_reducible apply tally_keeps | with_reducible apply at_keeps | with_reducible apply push_keeps
    | with_reducible apply keeps_wr | with_reducible apply keepsO_next | with_reducible apply keepsO_ite
    | exact keepsO_fault
    | dsimp -zeta -zetaHave only | lift_lets -underBinder | split

-- Ring.lean

def State.traceFrame_may : Nat :=
  State.traceIf_may
theorem traceFrame_keeps {M : Nat} {S0 : State} {s : State} (p act addr : Nat) (f : Frame) (bad : Bool) (gs : Keeps M S0 s) (gm : State.traceFrame_may &&& M = State.traceFrame_may := by decide +kernel) :
    Keeps M S0 (State.traceFrame s p act addr f bad) := by
  unfold State.traceFrame
  repeat' first
    | with_reducible assumption | intro _
    | with_reducible exact may_trans gm (by decide +kernel)
    | with_reducible apply keeps_ite | with_reducible apply traceIf_keeps | dsimp -zeta -zetaHave only | split

def State.through_may : Nat :=
  may_fresh ||| may .POPPED ||| State.count_may ||| State.wrQueue_may ||| State.push_may
theorem through_keeps {M : Nat} {S0 : State} {s : State} (q : Nat) (f : Frame) (gs : Keeps M S0 s) (gm : State.through_may &&& M = State.through_may := by decide +kernel) :
    Keeps M S0 (State.through s q f).1 := by
  unfold State.through
  repeat' first
    | with_reducible assumption
    | refine keeps_fst (by with_reducible assumption) ?_
    | refine keeps_snd (by with_reducible assumption) ?_
    | (intro x; refine keeps_cut (m := M) (s0 := S0) (x := x) ?_ ?_; all_goals first | (intro hx; clear_value x) | subst x)
    | (intro x; clear_value x)
    | intro _
    | with_reducible exact may_trans gm (by decide +kernel)
    | with_reducible apply keeps_ite | with_reducible apply keeps_ite1 | with_reducible apply keeps_ite2
    | with_reducible apply count_keeps | with_reducible apply wrQueue_keeps | with_reducible apply push_keeps
    | with_reducible exact Tbl.wf_nil
    | with_reducible apply Tbl.wf_tset | with_reducible apply Tbl.wf_filter | with_reducible apply Tbl.wf_tmap
    | with_reducible refine (Keeps.can (m := M) (s := S0) ?_ (by assumption)).fresh | dsimp -zeta -zetaHave only | lift_lets -underBinder
    | split | with_reducible apply keeps_fresh

def State.onWire_may : Nat :=
  may_wire ||| may .FRAMES_OUT ||| may .wireBad ||| State.count_may ||| State.traceFrame_may
theorem onWire_keeps {M : Nat} {S0 : State} {s : State} (p : Nat) (f : Frame) (bad : Bool) (gs : Keeps M S0 s) (gm : State.onWire_may &&& M = State.onWire_may := by decide +kernel) :
    Keeps M S0 (State.onWire s p f bad) := by
  unfold State.onWire
  repeat' first
    | with_reducible assumption
    | (intro x; refine keeps_cut (m := M) (s0 := S0) (x := x) ?_ ?_; all_goals first | (intro hx; clear_value x) | subst x)
    | (intro x; clear_value x)
    | intro _
    | with_reducible exact may_trans gm (by decide +kernel)
    | with_reducible apply keeps_ite | with_reducible apply count_keeps | with_reducible apply traceFrame_keeps
    | with_reducible apply keeps_wr
    | with_reducible exact Tbl.wf_nil
    | with_reducible apply Tbl.wf_tset | with_reducible apply Tbl.wf_filter | with_reducible apply Tbl.wf_tmap
    | with_reducible refine (Keeps.can (m := M) (s := S0) ?_ (by assumption)).wire | dsimp -zeta -zetaHave only | lift_lets -underBinder
    | with_reducible apply keeps_wire

def State.transmit_may : Nat :=
  may .REWIND_VALID ||| may .lastTx ||| State.through_may ||| State.onWire_may
theorem transmit_keeps {M : Nat} {S0 : State} {s : State} (p : Nat) (f : Frame) (bad : Bool) (gs : Keeps M S0 s) (gm : State.transmit_may &&& M = State.transmit_may := by decide +kernel) :
    Keeps M S0 (State.transmit s p f bad) := by
  unfold State.transmit
  repeat' first
    | with_reducible assumption
    | refine keeps_fst (by with_reducible assumption) ?_
    | refine keeps_snd (by with_reducible assumption) ?_
    | intro _
    | with_reducible exact may_trans gm (by decide +kernel)
    | with_reducible apply keeps_ite | with_reducible apply through_keeps | with_reducible apply onWire_keeps
    | with_reducible apply keeps_wr | dsimp -zeta -zetaHave only | split

def State.discardFrame_may : Nat :=
  State.traceFrame_may
theorem discardFrame_keeps {M : Nat} {S0 : State} {s : State} (p : Nat) (f : Frame) (bad : Bool) (gs : Keeps M S0 s) (gm : State.discardFrame_may &&& M = State.discardFrame_may := by decide +kernel) :
    Keeps M S0 (State.discardFrame s p f bad) := by
  unfold State.discardFrame
  repeat' first
    | with_reducible assumption
    | (intro x; refine keeps_cut (m := M) (s0 := S0) (x := x) ?_ ?_; all_goals first | (intro hx; clear_value x) | subst x)
    | (intro x; clear_value x)
    | intro _
    | with_reducible exact may_trans gm (by decide +kernel)
    | with_reducible apply keeps_ite | with_reducible apply traceFrame_keeps | dsimp -zeta -zetaHave only | lift_lets -underBinder

def State.request_may : Nat :=
  State.refuse_may ||| State.transact_may ||| State.hostRead_may ||| State.hostReadBlock_may ||| State.commit_may |||
  State.writeMany_may ||| State.hostWrite_may
theorem request_keeps {M : Nat} {S0 : State} {s : State} (h : Hdr) (f : Frame) (gs : Keeps M S0 s) (gm : State.request_may &&& M = State.request_may := by decide +kernel) :
    Keeps M S0 (State.request s h f) := by
  unfold State.request
  repeat' first
    | with_reducible assumption
    | refine keeps_fst (by with_reducible assumption) ?_
    | refine keeps_snd (by with_reducible assumption) ?_
    | (intro x; refine keeps_cut (m := M) (s0 := S0) (x := x) ?_ ?_; all_goals first | (intro hx; clear_value x) | subst x)
    | (intro x; subst x)
    | intro _
    | with_reducible exact may_trans gm (by decide +kernel)
    | with_reducible apply keeps_ite | with_reducible apply refuse_keeps | with_reducible apply transact_keeps
    | with_reducible apply hostRead_keeps | with_reducible apply hostReadBlock_keeps | with_reducible apply commit_keeps
    | with_reducible apply writeMany_keeps | with_reducible apply hostWrite_keeps | dsimp -zeta -zetaHave only | lift_lets -underBinder
    | split

def State.deliverFrame_may : Nat :=
  may .NO_REPLY ||| State.count_may ||| State.contact_may ||| State.traceFrame_may ||| State.through_may ||| State.request_may
theorem deliverFrame_keeps {M : Nat} {S0 : State} {s : State} (p : Fin 3) (f : Frame) (fcsOk : Bool) (gs : Keeps M S0 s) (gm : State.deliverFrame_may &&& M = State.deliverFrame_may := by decide +kernel) :
    Keeps M S0 (State.deliverFrame s p f fcsOk) := by
  unfold State.deliverFrame
  repeat' first
    | with_reducible assumption
    | refine keeps_fst (by with_reducible assumption) ?_
    | refine keeps_snd (by with_reducible assumption) ?_
    | (intro x; refine keeps_cut (m := M) (s0 := S0) (x := x) ?_ ?_; all_goals first | (intro hx; clear_value x) | subst x)
    | (intro x; clear_value x)
    | intro _
    | with_reducible exact may_trans gm (by decide +kernel)
    | with_reducible apply keeps_ite | with_reducible apply keeps_iff | with_reducible apply count_keeps
    | with_reducible apply contact_keeps | with_reducible apply traceFrame_keeps | with_reducible apply through_keeps
    | with_reducible apply request_keeps | dsimp -zeta -zetaHave only | lift_lets -underBinder | split

def State.toHead_may : Nat :=
  may_gateway ||| may .GW_DUPLICATES ||| State.count_may ||| State.push_may ||| State.transmit_may ||| State.discardFrame_may
theorem toHead_keeps {M : Nat} {S0 : State} {s : State} (p : Nat) (f : Frame) (bad : Bool) (gs : Keeps M S0 s) (gm : State.toHead_may &&& M = State.toHead_may := by decide +kernel) :
    Keeps M S0 (State.toHead s p f bad) := by
  unfold State.toHead
  repeat' first
    | with_reducible assumption
    | refine keeps_fst (by with_reducible assumption) ?_
    | refine keeps_snd (by with_reducible assumption) ?_
    | (intro x; refine keeps_cut (m := M) (s0 := S0) (x := x) ?_ ?_; all_goals first | (intro hx; clear_value x) | subst x)
    | (intro x; clear_value x)
    | intro _
    | with_reducible exact may_trans gm (by decide +kernel)
    | with_reducible apply keeps_ite | with_reducible apply count_keeps | with_reducible apply push_keeps
    | with_reducible apply transmit_keeps | with_reducible apply discardFrame_keeps
    | with_reducible exact Tbl.wf_nil
    | with_reducible apply Tbl.wf_tset | with_reducible apply Tbl.wf_filter | with_reducible apply Tbl.wf_tmap
    | with_reducible refine (Keeps.can (m := M) (s := S0) ?_ (by assumption)).gateway | dsimp -zeta -zetaHave only
    | lift_lets -underBinder | split | with_reducible apply keeps_gateway

def State.enumerate_may : Nat :=
  may .NODE_NUMBER
theorem enumerate_keeps {M : Nat} {S0 : State} {s : State} (f : Frame) (gs : Keeps M S0 s) (gm : State.enumerate_may &&& M = State.enumerate_may := by decide +kernel) :
    Keeps M S0 (State.enumerate s f).1 := by
  unfold State.enumerate
  repeat' first
    | with_reducible assumption
    | (intro x; refine keeps_cut (m := M) (s0 := S0) (x := x) ?_ ?_; all_goals first | (intro hx; clear_value x) | subst x)
    | (intro x; clear_value x)
    | intro _
    | with_reducible exact may_trans gm (by decide +kernel)
    | with_reducible apply keeps_ite | with_reducible apply keeps_ite1 | with_reducible apply keeps_ite2 | with_reducible apply keeps_wr
    | dsimp -zeta -zetaHave only | lift_lets -underBinder | split

def State.writeSlot_may : Nat :=
  may .SWEEPS ||| may .SWEEP_TIME ||| may .hopSlow ||| may .sweepEnd ||| State.count_may ||| State.tally_may ||| State.detect_may
  ||| State.dueContact_may ||| State.contact_may
theorem writeSlot_keeps {M : Nat} {S0 : State} {s : State} (f : Frame) (arriving : Bool) (gs : Keeps M S0 s) (gm : State.writeSlot_may &&& M = State.writeSlot_may := by decide +kernel) :
    Keeps M S0 (State.writeSlot s f arriving).1 := by
  unfold State.writeSlot
  repeat' first
    | with_reducible assumption
    | (intro x; refine keeps_cut (m := M) (s0 := S0) (x := x) ?_ ?_; all_goals first | (intro hx; clear_value x) | subst x)
    | (intro x; clear_value x)
    | intro _
    | with_reducible exact may_trans gm (by decide +kernel)
    | with_reducible apply keeps_ite | with_reducible apply keeps_ite1 | with_reducible apply keeps_ite2 | with_reducible apply keeps_iff
    | with_reducible apply count_keeps | with_reducible apply tally_keeps | with_reducible apply detect_keeps
    | with_reducible apply dueContact_keeps | with_reducible apply contact_keeps | with_reducible apply keeps_wr
    | dsimp -zeta -zetaHave only | lift_lets -underBinder | split

def State.sweepPass_may : Nat :=
  State.enumerate_may ||| State.writeSlot_may
theorem sweepPass_keeps {M : Nat} {S0 : State} {s : State} (f : Frame) (arriving : Bool) (gs : Keeps M S0 s) (gm : State.sweepPass_may &&& M = State.sweepPass_may := by decide +kernel) :
    Keeps M S0 (State.sweepPass s f arriving).1 := by
  unfold State.sweepPass
  repeat' first
    | with_reducible assumption
    | refine keeps_fst (by with_reducible assumption) ?_
    | refine keeps_snd (by with_reducible assumption) ?_
    | (intro x; refine keeps_cut (m := M) (s0 := S0) (x := x) ?_ ?_; all_goals first | (intro hx; clear_value x) | subst x)
    | (intro x; clear_value x)
    | intro _
    | with_reducible exact may_trans gm (by decide +kernel)
    | with_reducible apply keeps_ite | with_reducible apply keeps_ite1 | with_reducible apply keeps_ite2
    | with_reducible apply enumerate_keeps | with_reducible apply writeSlot_keeps | dsimp -zeta -zetaHave only | lift_lets -underBinder
    | split

def State.takeNote_may : Nat :=
  may .NOTES_TAKEN ||| State.count_may ||| State.takeSample_may ||| State.traceFrame_may ||| State.through_may
theorem takeNote_keeps {M : Nat} {S0 : State} {s : State} (p : Nat) (f : Frame) (fcsOk : Bool) (gs : Keeps M S0 s) (gm : State.takeNote_may &&& M = State.takeNote_may := by decide +kernel) :
    Keeps M S0 (State.takeNote s p f fcsOk) := by
  unfold State.takeNote
  repeat' first
    | with_reducible assumption
    | refine keeps_fst (by with_reducible assumption) ?_
    | refine keeps_snd (by with_reducible assumption) ?_
    | (intro x; refine keeps_cut (m := M) (s0 := S0) (x := x) ?_ ?_; all_goals first | (intro hx; clear_value x) | subst x)
    | (intro x; clear_value x)
    | intro _
    | with_reducible exact may_trans gm (by decide +kernel)
    | with_reducible apply keeps_ite | with_reducible apply keeps_forList | with_reducible apply count_keeps
    | with_reducible apply takeSample_keeps | with_reducible apply traceFrame_keeps | with_reducible apply through_keeps
    | dsimp -zeta -zetaHave only | lift_lets -underBinder | split

def State.measureHop_may : Nat :=
  may .HOP_MAX ||| may .PORT_HOP_SLOW ||| may .hopSlow ||| State.count_may ||| State.tally_may ||| State.detect_may
theorem measureHop_keeps {M : Nat} {S0 : State} {s : State} (p hop : Nat) (gs : Keeps M S0 s) (gm : State.measureHop_may &&& M = State.measureHop_may := by decide +kernel) :
    Keeps M S0 (State.measureHop s p hop) := by
  unfold State.measureHop
  repeat' first
    | with_reducible assumption
    | (intro x; refine keeps_cut (m := M) (s0 := S0) (x := x) ?_ ?_; all_goals first | (intro hx; clear_value x) | subst x)
    | (intro x; clear_value x)
    | intro _
    | with_reducible exact may_trans gm (by decide +kernel)
    | with_reducible apply keeps_ite | with_reducible apply count_keeps | with_reducible apply tally_keeps
    | with_reducible apply keepMax_keeps | with_reducible apply detect_keeps | with_reducible apply keeps_wr | dsimp -zeta -zetaHave only
    | lift_lets -underBinder | split

def State.forward_may : Nat :=
  may .CIRCLED ||| may .NO_REPLY ||| State.count_may ||| State.detect_may ||| State.transmit_may ||| State.discardFrame_may |||
  State.measureHop_may
theorem forward_keeps {M : Nat} {S0 : State} {s : State} (p : Nat) (f : Frame) (bad : Bool) (hop : Nat) (gs : Keeps M S0 s) (gm : State.forward_may &&& M = State.forward_may := by decide +kernel) :
    Keeps M S0 (State.forward s p f bad hop) := by
  unfold State.forward
  repeat' first
    | with_reducible assumption
    | (intro x; refine keeps_cut (m := M) (s0 := S0) (x := x) ?_ ?_; all_goals first | (intro hx; clear_value x) | subst x)
    | (intro x; clear_value x)
    | intro _
    | with_reducible exact may_trans gm (by decide +kernel)
    | with_reducible apply keeps_ite | with_reducible apply keeps_iff | with_reducible apply count_keeps
    | with_reducible apply detect_keeps | with_reducible apply transmit_keeps | with_reducible apply discardFrame_keeps
    | with_reducible apply measureHop_keeps | dsimp -zeta -zetaHave only | lift_lets -underBinder | split

def State.receive_may : Nat :=
  may .DROPPED ||| may .FCS_ERRORS ||| may .FRAMES_IN ||| State.count_may ||| State.traceFrame_may ||| State.through_may |||
  State.discardFrame_may
theorem receive_keeps {M : Nat} {S0 : State} {s : State} (p : Nat) (f : Frame) (fcsOk : Bool) (gs : Keeps M S0 s) (gm : State.receive_may &&& M = State.receive_may := by decide +kernel) :
    Keeps M S0 (State.receive s p f fcsOk).1 := by
  unfold State.receive
  repeat' first
    | with_reducible assumption
    | refine keeps_fst (by with_reducible assumption) ?_
    | refine keeps_snd (by with_reducible assumption) ?_
    | (intro x; refine keeps_cut (m := M) (s0 := S0) (x := x) ?_ ?_; all_goals first | (intro hx; clear_value x) | subst x)
    | (intro x; clear_value x)
    | intro _
    | with_reducible exact may_trans gm (by decide +kernel)
    | with_reducible apply keeps_ite | with_reducible apply keeps_ite1 | with_reducible apply keeps_ite2 | with_reducible apply keeps_iff
    | with_reducible apply count_keeps | with_reducible apply traceFrame_keeps | with_reducible apply through_keeps
    | with_reducible apply discardFrame_keeps | dsimp -zeta -zetaHave only | lift_lets -underBinder | split

def State.gorge_may : Nat :=
  State.discardFrame_may ||| State.deliverFrame_may ||| State.toHead_may ||| State.sweepPass_may ||| State.takeNote_may |||
  State.forward_may ||| State.receive_may
theorem gorge_keeps {M : Nat} {S0 : State} {s : State} (port : Fin 2) (f : Frame) (fcsOk : Bool) (hop : Nat) (gs : Keeps M S0 s) (gm : State.gorge_may &&& M = State.gorge_may := by decide +kernel) :
    Keeps M S0 (State.gorge s port f fcsOk hop) := by
  unfold State.gorge
  repeat' first
    | with_reducible assumption
    | refine keeps_fst (by with_reducible assumption) ?_
    | refine keeps_snd (by with_reducible assumption) ?_
    | (intro x; refine keeps_cut (m := M) (s0 := S0) (x := x) ?_ ?_; all_goals first | (intro hx; clear_value x) | subst x)
    | (intro x; clear_value x)
    | intro _
    | with_reducible exact may_trans gm (by decide +kernel)
    | with_reducible apply keeps_ite | with_reducible apply discardFrame_keeps | with_reducible apply deliverFrame_keeps
    | with_reducible apply toHead_keeps | with_reducible apply sweepPass_keeps | with_reducible apply takeNote_keeps
    | with_reducible apply forward_keeps | with_reducible apply receive_keeps | dsimp -zeta -zetaHave only | lift_lets -underBinder
    | split

def execFrameArrival_may : Nat :=
  State.at_may ||| State.gorge_may
theorem execFrameArrival_keeps {M : Nat} {S0 : State} (t : Nat) (port : Fin 2) (f : Frame) (fcsOk : Bool) (hop : Nat) {s : State} (gs : Keeps M S0 s) (gm : execFrameArrival_may &&& M = execFrameArrival_may := by decide +kernel) :
    KeepsO M S0 (execFrameArrival t port f fcsOk hop s) := by
  unfold execFrameArrival
  repeat' first
    | with_reducible assumption
    | (intro x; refine keeps_cut (m := M) (s0 := S0) (x := x) ?_ ?_; all_goals first | (intro hx; clear_value x) | subst x)
    | (intro x; clear_value x)
    | intro _
    | with_reducible exact may_trans gm (by decide +kernel)
    | with_reducible apply keeps_ite | with_reducible apply at_keeps | with_reducible apply gorge_keeps
    | with_reducible apply keepsO_next | with_reducible apply keepsO_ite
    | exact keepsO_fault
    | dsimp -zeta -zetaHave only | lift_lets -underBinder | split

def execSweep_may : Nat :=
  State.at_may ||| State.gorge_may
theorem execSweep_keeps {M : Nat} {S0 : State} (t : Nat) (port : Fin 2) (f : Frame) (fcsOk : Bool) (hop : Nat) {s : State} (gs : Keeps M S0 s) (gm : execSweep_may &&& M = execSweep_may := by decide +kernel) :
    KeepsO M S0 (execSweep t port f fcsOk hop s) := by
  unfold execSweep
  repeat' first
    | with_reducible assumption
    | (intro x; refine keeps_cut (m := M) (s0 := S0) (x := x) ?_ ?_; all_goals first | (intro hx; clear_value x) | subst x)
    | (intro x; clear_value x)
    | intro _
    | with_reducible exact may_trans gm (by decide +kernel)
    | with_reducible apply keeps_ite | with_reducible apply at_keeps | with_reducible apply gorge_keeps
    | with_reducible apply keepsO_next | with_reducible apply keepsO_ite
    | exact keepsO_fault
    | dsimp -zeta -zetaHave only | lift_lets -underBinder | split

def execNote_may : Nat :=
  State.at_may ||| State.gorge_may
theorem execNote_keeps {M : Nat} {S0 : State} (t : Nat) (port : Fin 2) (f : Frame) (fcsOk : Bool) (hop : Nat) {s : State} (gs : Keeps M S0 s) (gm : execNote_may &&& M = execNote_may := by decide +kernel) :
    KeepsO M S0 (execNote t port f fcsOk hop s) := by
  unfold execNote
  repeat' first
    | with_reducible assumption
    | (intro x; refine keeps_cut (m := M) (s0 := S0) (x := x) ?_ ?_; all_goals first | (intro hx; clear_value x) | subst x)
    | (intro x; clear_value x)
    | intro _
    | with_reducible exact may_trans gm (by decide +kernel)
    | with_reducible apply keeps_ite | with_reducible apply at_keeps | with_reducible apply gorge_keeps
    | with_reducible apply keepsO_next | with_reducible apply keepsO_ite
    | exact keepsO_fault
    | dsimp -zeta -zetaHave only | lift_lets -underBinder | split

def State.insertFrame_may : Nat :=
  may_gateway ||| may .NO_REPLY ||| State.count_may ||| State.push_may
theorem insertFrame_keeps {M : Nat} {S0 : State} {s : State} (f : Frame) (gs : Keeps M S0 s) (gm : State.insertFrame_may &&& M = State.insertFrame_may := by decide +kernel) :
    Keeps M S0 (State.insertFrame s f) := by
  unfold State.insertFrame
  repeat' first
    | with_reducible assumption
    | refine keeps_fst (by with_reducible assumption) ?_
    | refine keeps_snd (by with_reducible assumption) ?_
    | (intro x; refine keeps_cut (m := M) (s0 := S0) (x := x) ?_ ?_; all_goals first | (intro hx; clear_value x) | subst x)
    | (intro x; clear_value x)
    | intro _
    | with_reducible exact may_trans gm (by decide +kernel)
    | with_reducible apply keeps_ite | with_reducible apply keeps_iff | with_reducible apply count_keeps
    | with_reducible apply push_keeps
    | with_reducible exact Tbl.wf_nil
    | with_reducible apply Tbl.wf_tset | with_reducible apply Tbl.wf_filter | with_reducible apply Tbl.wf_tmap
    | with_reducible refine (Keeps.can (m := M) (s := S0) ?_ (by assumption)).gateway | dsimp -zeta -zetaHave only
    | lift_lets -underBinder | split | with_reducible apply keeps_gateway

def State.receiveLp_may : Nat :=
  may .DROPPED ||| may .FCS_ERRORS ||| may .FRAMES_IN ||| State.count_may ||| State.traceFrame_may ||| State.through_may |||
  State.discardFrame_may
theorem receiveLp_keeps {M : Nat} {S0 : State} {s : State} (f : Frame) (fcsOk : Bool) (gs : Keeps M S0 s) (gm : State.receiveLp_may &&& M = State.receiveLp_may := by decide +kernel) :
    Keeps M S0 (State.receiveLp s f fcsOk).1 := by
  unfold State.receiveLp
  repeat' first
    | with_reducible assumption
    | refine keeps_fst (by with_reducible assumption) ?_
    | refine keeps_snd (by with_reducible assumption) ?_
    | (intro x; refine keeps_cut (m := M) (s0 := S0) (x := x) ?_ ?_; all_goals first | (intro hx; clear_value x) | subst x)
    | (intro x; clear_value x)
    | intro _
    | with_reducible exact may_trans gm (by decide +kernel)
    | with_reducible apply keeps_ite | with_reducible apply keeps_ite1 | with_reducible apply keeps_ite2
    | with_reducible apply count_keeps | with_reducible apply traceFrame_keeps | with_reducible apply through_keeps
    | with_reducible apply discardFrame_keeps | dsimp -zeta -zetaHave only | lift_lets -underBinder | split

def execGatewayFrameIn_may : Nat :=
  State.at_may ||| State.deliverFrame_may ||| State.insertFrame_may ||| State.receiveLp_may
theorem execGatewayFrameIn_keeps {M : Nat} {S0 : State} (t : Nat) (f : Frame) (fcsOk : Bool) {s : State} (gs : Keeps M S0 s) (gm : execGatewayFrameIn_may &&& M = execGatewayFrameIn_may := by decide +kernel) :
    KeepsO M S0 (execGatewayFrameIn t f fcsOk s) := by
  unfold execGatewayFrameIn
  repeat' first
    | with_reducible assumption
    | refine keeps_fst (by with_reducible assumption) ?_
    | refine keeps_snd (by with_reducible assumption) ?_
    | (intro x; refine keeps_cut (m := M) (s0 := S0) (x := x) ?_ ?_; all_goals first | (intro hx; clear_value x) | subst x)
    | (intro x; clear_value x)
    | intro _
    | with_reducible exact may_trans gm (by decide +kernel)
    | with_reducible apply keeps_ite | with_reducible apply at_keeps | with_reducible apply deliverFrame_keeps
    | with_reducible apply insertFrame_keeps | with_reducible apply receiveLp_keeps | with_reducible apply keepsO_next
    | with_reducible apply keepsO_ite
    | exact keepsO_fault
    | dsimp -zeta -zetaHave only | lift_lets -underBinder | split

def execGwTimeout_may : Nat :=
  may_gateway ||| may .GW_GIVEN_UP ||| may .GW_RETRIES_SENT ||| State.count_may ||| State.at_may ||| State.push_may |||
  State.detect_may
theorem execGwTimeout_keeps {M : Nat} {S0 : State} (t : Nat) (tag : Fin 128) {s : State} (gs : Keeps M S0 s) (gm : execGwTimeout_may &&& M = execGwTimeout_may := by decide +kernel) :
    KeepsO M S0 (execGwTimeout t tag s) := by
  unfold execGwTimeout
  repeat' first
    | with_reducible assumption
    | refine keeps_fst (by with_reducible assumption) ?_
    | refine keeps_snd (by with_reducible assumption) ?_
    | (intro x; refine keeps_cut (m := M) (s0 := S0) (x := x) ?_ ?_; all_goals first | (intro hx; clear_value x) | subst x)
    | (intro x; clear_value x)
    | intro _
    | with_reducible exact may_trans gm (by decide +kernel)
    | with_reducible apply keeps_ite | with_reducible apply count_keeps | with_reducible apply at_keeps | with_reducible apply push_keeps
    | with_reducible apply detect_keeps
    | with_reducible exact Tbl.wf_nil
    | with_reducible apply Tbl.wf_tset | with_reducible apply Tbl.wf_filter | with_reducible apply Tbl.wf_tmap
    | with_reducible refine (Keeps.can (m := M) (s := S0) ?_ (by assumption)).gateway | with_reducible apply keepsO_next
    | with_reducible apply keepsO_ite
    | exact keepsO_fault
    | dsimp -zeta -zetaHave only | lift_lets -underBinder | split | with_reducible apply keeps_gateway

def State.afterSend_may : Nat :=
  may_gateway ||| may .resetSent
theorem afterSend_keeps {M : Nat} {S0 : State} {s : State} (p : Nat) (f : Frame) (gs : Keeps M S0 s) (gm : State.afterSend_may &&& M = State.afterSend_may := by decide +kernel) :
    Keeps M S0 (State.afterSend s p f) := by
  unfold State.afterSend
  repeat' first
    | with_reducible assumption
    | (intro x; refine keeps_cut (m := M) (s0 := S0) (x := x) ?_ ?_; all_goals first | (intro hx; clear_value x) | subst x)
    | (intro x; clear_value x)
    | intro _
    | with_reducible exact may_trans gm (by decide +kernel)
    | with_reducible apply keeps_ite | with_reducible apply keeps_iff | with_reducible apply keeps_wr
    | with_reducible exact Tbl.wf_nil
    | with_reducible apply Tbl.wf_tset | with_reducible apply Tbl.wf_filter | with_reducible apply Tbl.wf_tmap
    | with_reducible refine (Keeps.can (m := M) (s := S0) ?_ (by assumption)).gateway | dsimp -zeta -zetaHave only
    | lift_lets -underBinder | split | with_reducible apply keeps_gateway

def State.sendRing_may : Nat :=
  may .INSERT_WAIT_MAX ||| may .lastTx ||| State.onWire_may ||| State.sweepPass_may ||| State.afterSend_may
theorem sendRing_keeps {M : Nat} {S0 : State} {s : State} (p waited : Nat) (f : Frame) (gs : Keeps M S0 s) (gm : State.sendRing_may &&& M = State.sendRing_may := by decide +kernel) :
    Keeps M S0 (State.sendRing s p waited f) := by
  unfold State.sendRing
  repeat' first
    | with_reducible assumption
    | refine keeps_fst (by with_reducible assumption) ?_
    | refine keeps_snd (by with_reducible assumption) ?_
    | (intro x; refine keeps_cut (m := M) (s0 := S0) (x := x) ?_ ?_; all_goals first | (intro hx; clear_value x) | subst x)
    | (intro x; clear_value x)
    | intro _
    | with_reducible exact may_trans gm (by decide +kernel)
    | with_reducible apply keeps_ite | with_reducible apply keepMax_keeps | with_reducible apply onWire_keeps
    | with_reducible apply sweepPass_keeps | with_reducible apply afterSend_keeps | with_reducible apply keeps_wr
    | dsimp -zeta -zetaHave only | lift_lets -underBinder | split

def State.sendOwnFrame_may : Nat :=
  State.pop_may ||| State.popSend_may ||| State.transmit_may ||| State.afterSend_may ||| State.sendRing_may
theorem sendOwnFrame_keeps {M : Nat} {S0 : State} {s : State} (waited : Nat) (f : Frame) (gs : Keeps M S0 s) (gm : State.sendOwnFrame_may &&& M = State.sendOwnFrame_may := by decide +kernel) :
    Keeps M S0 (State.sendOwnFrame s waited f) := by
  unfold State.sendOwnFrame
  repeat' first
    | with_reducible assumption
    | refine keeps_fst (by with_reducible assumption) ?_
    | refine keeps_snd (by with_reducible assumption) ?_
    | (intro x; refine keeps_cut (m := M) (s0 := S0) (x := x) ?_ ?_; all_goals first | (intro hx; clear_value x) | subst x)
    | (intro x; clear_value x)
    | intro _
    | with_reducible exact may_trans gm (by decide +kernel)
    | with_reducible apply keeps_ite | with_reducible apply pop_keeps | with_reducible apply popSend_keeps
    | with_reducible apply transmit_keeps | with_reducible apply afterSend_keeps | with_reducible apply sendRing_keeps
    | dsimp -zeta -zetaHave only | lift_lets -underBinder | split

def execOwnFrameSend_may : Nat :=
  State.at_may ||| State.sendOwnFrame_may
theorem execOwnFrameSend_keeps {M : Nat} {S0 : State} (t : Nat) (waited : Nat) {s : State} (gs : Keeps M S0 s) (gm : execOwnFrameSend_may &&& M = execOwnFrameSend_may := by decide +kernel) :
    KeepsO M S0 (execOwnFrameSend t waited s) := by
  unfold execOwnFrameSend
  repeat' first
    | with_reducible assumption
    | (intro x; refine keeps_cut (m := M) (s0 := S0) (x := x) ?_ ?_; all_goals first | (intro hx; clear_value x) | subst x)
    | (intro x; clear_value x)
    | intro _
    | with_reducible exact may_trans gm (by decide +kernel)
    | with_reducible apply keeps_ite | with_reducible apply at_keeps | with_reducible apply sendOwnFrame_keeps
    | with_reducible apply keepsO_next | with_reducible apply keepsO_ite
    | exact keepsO_fault
    | dsimp -zeta -zetaHave only | lift_lets -underBinder | split

def State.resend_may : Nat :=
  may .RESENDS ||| may .REWIND_LOST ||| may .lastTx ||| State.count_may ||| State.detect_may ||| State.onWire_may
theorem resend_keeps {M : Nat} {S0 : State} {s : State} (p : Nat) (gs : Keeps M S0 s) (gm : State.resend_may &&& M = State.resend_may := by decide +kernel) :
    Keeps M S0 (State.resend s p) := by
  unfold State.resend
  repeat' first
    | with_reducible assumption
    | (intro x; refine keeps_cut (m := M) (s0 := S0) (x := x) ?_ ?_; all_goals first | (intro hx; clear_value x) | subst x)
    | (intro x; clear_value x)
    | intro _
    | with_reducible exact may_trans gm (by decide +kernel)
    | with_reducible apply keeps_ite | with_reducible apply count_keeps | with_reducible apply detect_keeps
    | with_reducible apply onWire_keeps | with_reducible apply keeps_wr | dsimp -zeta -zetaHave only | lift_lets -underBinder | split

def execLinkLost_may : Nat :=
  may .ABANDONED ||| may .LINK ||| may .LINK_LOSSES ||| may .PORT_AMPLITUDE ||| may .WRAPPED ||| State.count_may ||| State.at_may
  ||| State.detectShadow_may ||| State.setRed_may ||| State.resend_may
theorem execLinkLost_keeps {M : Nat} {S0 : State} (t : Nat) (port : Fin 2) (partly : Bool) {s : State} (gs : Keeps M S0 s) (gm : execLinkLost_may &&& M = execLinkLost_may := by decide +kernel) :
    KeepsO M S0 (execLinkLost t port partly s) := by
  unfold execLinkLost
  repeat' first
    | with_reducible assumption
    | (intro x; refine keeps_cut (m := M) (s0 := S0) (x := x) ?_ ?_; all_goals first | (intro hx; clear_value x) | subst x)
    | (intro x; clear_value x)
    | intro _
    | with_reducible exact may_trans gm (by decide +kernel)
    | with_reducible apply keeps_ite | with_reducible apply keeps_iff | with_reducible apply count_keeps | with_reducible apply at_keeps
    | with_reducible apply detectShadow_keeps | with_reducible apply setRed_keeps | with_reducible apply resend_keeps
    | with_reducible apply keeps_wr | with_reducible apply keepsO_next | with_reducible apply keepsO_ite
    | exact keepsO_fault
    | dsimp -zeta -zetaHave only | lift_lets -underBinder | split

def execLpLinkLost_may : Nat :=
  may .LINK ||| may .LINK_LOSSES ||| may .PORT_AMPLITUDE ||| State.count_may ||| State.at_may ||| State.detect_may |||
  State.setRed_may
theorem execLpLinkLost_keeps {M : Nat} {S0 : State} (t : Nat) {s : State} (gs : Keeps M S0 s) (gm : execLpLinkLost_may &&& M = execLpLinkLost_may := by decide +kernel) :
    KeepsO M S0 (execLpLinkLost t s) := by
  unfold execLpLinkLost
  repeat' first
    | with_reducible assumption
    | (intro x; refine keeps_cut (m := M) (s0 := S0) (x := x) ?_ ?_; all_goals first | (intro hx; clear_value x) | subst x)
    | (intro x; clear_value x)
    | intro _
    | with_reducible exact may_trans gm (by decide +kernel)
    | with_reducible apply keeps_ite | with_reducible apply count_keeps | with_reducible apply at_keeps
    | with_reducible apply detect_keeps | with_reducible apply setRed_keeps | with_reducible apply keeps_wr
    | with_reducible apply keepsO_next | with_reducible apply keepsO_ite
    | exact keepsO_fault
    | dsimp -zeta -zetaHave only | lift_lets -underBinder | split

def State.drainLp_may : Nat :=
  may .lastTx ||| State.popSend_may ||| State.onWire_may
theorem drainLp_keeps0 {S0 : State} (k : Nat) : ∀ {s : State}, Keeps State.drainLp_may S0 s → Keeps State.drainLp_may S0 (State.drainLp s k) := by
  induction k with
  | zero => intro s gs; exact gs
  | succ k ih =>
    intro s gs
    unfold State.drainLp
    split <;> rename_i h <;> have h := keeps_fst h (popSend_keeps 70 gs)
    · exact ih (onWire_keeps _ _ _ (keeps_wr h _ _ _ (by decide +kernel)))
    · exact h
theorem drainLp_keeps {M : Nat} {S0 s : State} (k : Nat) (gs : Keeps M S0 s)
    (gm : State.drainLp_may &&& M = State.drainLp_may := by decide +kernel) : Keeps M S0 (State.drainLp s k) :=
  gs.trans ((drainLp_keeps0 k (keeps_refl _ s)).mono gm)

def execLinkUp_may : Nat :=
  may .LINK ||| may .PORT_AMPLITUDE ||| may .linkAt ||| may .portSeen ||| may .probeAt ||| State.at_may ||| State.endCause_may |||
  State.setRed_may ||| State.drainLp_may
theorem execLinkUp_keeps {M : Nat} {S0 : State} (t : Nat) (port : Fin 3) (amplitude : Fin 4) {s : State} (gs : Keeps M S0 s) (gm : execLinkUp_may &&& M = execLinkUp_may := by decide +kernel) :
    KeepsO M S0 (execLinkUp t port amplitude s) := by
  unfold execLinkUp
  repeat' first
    | with_reducible assumption
    | (intro x; refine keeps_cut (m := M) (s0 := S0) (x := x) ?_ ?_; all_goals first | (intro hx; clear_value x) | subst x)
    | (intro x; clear_value x)
    | intro _
    | with_reducible exact may_trans gm (by decide +kernel)
    | with_reducible apply keeps_ite | with_reducible apply keeps_iff | with_reducible apply wrBit_keeps | with_reducible apply at_keeps
    | with_reducible apply endCause_keeps | with_reducible apply setRed_keeps | with_reducible apply drainLp_keeps
    | with_reducible apply keeps_wr | with_reducible apply keepsO_next | with_reducible apply keepsO_ite
    | exact keepsO_fault
    | dsimp -zeta -zetaHave only | lift_lets -underBinder | split

def execLinkHeld_may : Nat :=
  may .LINK ||| may .WRAPPED ||| State.at_may ||| State.endCause_may ||| State.detect_may ||| State.setRed_may
theorem execLinkHeld_keeps {M : Nat} {S0 : State} (t : Nat) (port : Fin 3) {s : State} (gs : Keeps M S0 s) (gm : execLinkHeld_may &&& M = execLinkHeld_may := by decide +kernel) :
    KeepsO M S0 (execLinkHeld t port s) := by
  unfold execLinkHeld
  repeat' first
    | with_reducible assumption
    | (intro x; refine keeps_cut (m := M) (s0 := S0) (x := x) ?_ ?_; all_goals first | (intro hx; clear_value x) | subst x)
    | (intro x; clear_value x)
    | intro _
    | with_reducible exact may_trans gm (by decide +kernel)
    | with_reducible apply keeps_ite | with_reducible apply at_keeps | with_reducible apply endCause_keeps
    | with_reducible apply detect_keeps | with_reducible apply setRed_keeps | with_reducible apply keeps_wr
    | with_reducible apply keepsO_next | with_reducible apply keepsO_ite
    | exact keepsO_fault
    | dsimp -zeta -zetaHave only | lift_lets -underBinder | split

def execLinkProbeSend_may : Nat :=
  may .probeAt ||| State.at_may ||| State.transmit_may
theorem execLinkProbeSend_keeps {M : Nat} {S0 : State} (t : Nat) (port : Fin 3) (phase : Nat) {s : State} (gs : Keeps M S0 s) (gm : execLinkProbeSend_may &&& M = execLinkProbeSend_may := by decide +kernel) :
    KeepsO M S0 (execLinkProbeSend t port phase s) := by
  unfold execLinkProbeSend
  repeat' first
    | with_reducible assumption
    | (intro x; refine keeps_cut (m := M) (s0 := S0) (x := x) ?_ ?_; all_goals first | (intro hx; clear_value x) | subst x)
    | (intro x; clear_value x)
    | intro _
    | with_reducible exact may_trans gm (by decide +kernel)
    | with_reducible apply keeps_ite | with_reducible apply at_keeps | with_reducible apply transmit_keeps
    | with_reducible apply keeps_wr | with_reducible apply keepsO_next | with_reducible apply keepsO_ite
    | exact keepsO_fault
    | dsimp -zeta -zetaHave only | lift_lets -underBinder | split

def State.probeIn_may : Nat :=
  may .FRAMES_IN ||| State.count_may ||| State.traceFrame_may ||| State.through_may
theorem probeIn_keeps {M : Nat} {S0 : State} {s : State} (p : Nat) (f : Frame) (gs : Keeps M S0 s) (gm : State.probeIn_may &&& M = State.probeIn_may := by decide +kernel) :
    Keeps M S0 (State.probeIn s p f).1 := by
  unfold State.probeIn
  repeat' first
    | with_reducible assumption
    | refine keeps_fst (by with_reducible assumption) ?_
    | refine keeps_snd (by with_reducible assumption) ?_
    | intro _
    | with_reducible exact may_trans gm (by decide +kernel)
    | with_reducible apply keeps_ite | with_reducible apply keeps_ite1 | with_reducible apply keeps_ite2
    | with_reducible apply count_keeps | with_reducible apply traceFrame_keeps | with_reducible apply through_keeps
    | dsimp -zeta -zetaHave only | split

def execLinkProbe_may : Nat :=
  State.at_may ||| State.transmit_may ||| State.probeIn_may
theorem execLinkProbe_keeps {M : Nat} {S0 : State} (t : Nat) (port : Fin 3) (t1 t2 phase : Nat) {s : State} (gs : Keeps M S0 s) (gm : execLinkProbe_may &&& M = execLinkProbe_may := by decide +kernel) :
    KeepsO M S0 (execLinkProbe t port t1 t2 phase s) := by
  unfold execLinkProbe
  repeat' first
    | with_reducible assumption
    | refine keeps_fst (by with_reducible assumption) ?_
    | refine keeps_snd (by with_reducible assumption) ?_
    | (intro x; refine keeps_cut (m := M) (s0 := S0) (x := x) ?_ ?_; all_goals first | (intro hx; clear_value x) | subst x)
    | (intro x; clear_value x)
    | intro _
    | with_reducible exact may_trans gm (by decide +kernel)
    | with_reducible apply keeps_ite | with_reducible apply at_keeps | with_reducible apply transmit_keeps
    | with_reducible apply probeIn_keeps | with_reducible apply keepsO_next | with_reducible apply keepsO_ite
    | exact keepsO_fault
    | dsimp -zeta -zetaHave only | lift_lets -underBinder | split

def State.meanDelay_may : Nat :=
  may .LINK_DELAY ||| State.draw_may
theorem meanDelay_keeps {M : Nat} {S0 : State} {s : State} (p : Nat) (l : List Int) (gs : Keeps M S0 s) (gm : State.meanDelay_may &&& M = State.meanDelay_may := by decide +kernel) :
    Keeps M S0 (State.meanDelay s p l) := by
  unfold State.meanDelay
  repeat' first
    | with_reducible assumption
    | refine keeps_fst (by with_reducible assumption) ?_
    | refine keeps_snd (by with_reducible assumption) ?_
    | (intro x; refine keeps_cut (m := M) (s0 := S0) (x := x) ?_ ?_; all_goals first | (intro hx; clear_value x) | subst x)
    | (intro x; clear_value x)
    | intro _
    | with_reducible exact may_trans gm (by decide +kernel)
    | with_reducible apply keeps_ite | with_reducible apply draw_keeps | with_reducible apply keeps_wr | dsimp -zeta -zetaHave only
    | lift_lets -underBinder | split

def execLinkProbeAnswer_may : Nat :=
  may_delays ||| State.at_may ||| State.probeIn_may ||| State.meanDelay_may
theorem execLinkProbeAnswer_keeps0 {S0 : State} {s : State} (t : Nat) (port : Fin 3) (t1 t2 t3 phase : Nat) (gs : Keeps execLinkProbeAnswer_may S0 s) :
    KeepsO execLinkProbeAnswer_may S0 (execLinkProbeAnswer t port t1 t2 t3 phase s) := by
  unfold execLinkProbeAnswer
  dsimp only
  have h0 := at_keeps t gs
  refine keepsO_next (keeps_ite h0 ?_)
  split
  · exact keeps_fst (by with_reducible assumption) (probeIn_keeps _ _ h0)
  · rename_i h
    have h := keeps_fst h (probeIn_keeps _ _ h0)
    refine meanDelay_keeps _ _ (keeps_delays h (by decide +kernel) (fun c0 => Tbl.wf_tset (h.can c0).delays) (fun c0 p hp => ?_))
    unfold tset at hp
    split at hp
    · exact (h.can c0).each p (List.mem_filter.mp hp).1
    · rcases mem_tins hp with rfl | hp
      · exact (List.length_take .. ▸ Nat.min_le_left ..)
      · exact (h.can c0).each p (List.mem_filter.mp hp).1
theorem execLinkProbeAnswer_keeps {M : Nat} {S0 : State} (t : Nat) (port : Fin 3) (t1 t2 t3 : Nat) (phase : Nat) {s : State} (gs : Keeps M S0 s) (gm : execLinkProbeAnswer_may &&& M = execLinkProbeAnswer_may := by decide +kernel) :
    KeepsO M S0 (execLinkProbeAnswer t port t1 t2 t3 phase s) :=
  ⟨fun t e => gs.trans (((execLinkProbeAnswer_keeps0 _ _ _ _ _ _ (keeps_refl _ s)).next t e).mono gm)⟩

def State.findHead_may : Nat :=
  may .TIME_HEAD
theorem findHead_keeps {M : Nat} {S0 : State} {s : State} (gs : Keeps M S0 s) (gm : State.findHead_may &&& M = State.findHead_may := by decide +kernel) :
    Keeps M S0 (State.findHead s) := by
  unfold State.findHead
  repeat' first
    | with_reducible assumption | intro _
    | with_reducible exact may_trans gm (by decide +kernel)
    | with_reducible apply keeps_ite | with_reducible apply keeps_wr | dsimp -zeta -zetaHave only | split

def execActiveHeadLapse_may : Nat :=
  State.at_may ||| State.findHead_may
theorem execActiveHeadLapse_keeps {M : Nat} {S0 : State} (t : Nat) {s : State} (gs : Keeps M S0 s) (gm : execActiveHeadLapse_may &&& M = execActiveHeadLapse_may := by decide +kernel) :
    KeepsO M S0 (execActiveHeadLapse t s) := by
  unfold execActiveHeadLapse
  repeat' first
    | with_reducible assumption | intro _
    | with_reducible exact may_trans gm (by decide +kernel)
    | with_reducible apply keeps_ite | with_reducible apply at_keeps | with_reducible apply findHead_keeps
    | with_reducible apply keepsO_next | with_reducible apply keepsO_ite
    | exact keepsO_fault
    | dsimp -zeta -zetaHave only

def State.rebaseRing_may : Nat :=
  may .rtAt ||| may .rtOffset ||| may .rtSlewEnd ||| may .rtSlewLeft
theorem rebaseRing_keeps {M : Nat} {S0 : State} {s : State} (gs : Keeps M S0 s) (gm : State.rebaseRing_may &&& M = State.rebaseRing_may := by decide +kernel) :
    Keeps M S0 (State.rebaseRing s) := by
  unfold State.rebaseRing
  repeat' first
    | with_reducible assumption
    | (intro x; refine keeps_cut (m := M) (s0 := S0) (x := x) ?_ ?_; all_goals first | (intro hx; clear_value x) | subst x)
    | (intro x; clear_value x)
    | intro _
    | with_reducible exact may_trans gm (by decide +kernel)
    | with_reducible apply keeps_ite | with_reducible apply keeps_wr | dsimp -zeta -zetaHave only | lift_lets -underBinder

def State.stepPast_may : Nat :=
  may .SYNC_SKIPPED ||| may .relLate ||| may .syncNext ||| State.count_may ||| State.capture_may
theorem stepPast_keeps {M : Nat} {S0 : State} {s : State} (a b : Nat) (gs : Keeps M S0 s) (gm : State.stepPast_may &&& M = State.stepPast_may := by decide +kernel) :
    Keeps M S0 (State.stepPast s a b) := by
  unfold State.stepPast
  repeat' first
    | with_reducible assumption
    | (intro x; refine keeps_cut (m := M) (s0 := S0) (x := x) ?_ ?_; all_goals first | (intro hx; clear_value x) | subst x)
    | (intro x; clear_value x)
    | intro _
    | with_reducible exact may_trans gm (by decide +kernel)
    | with_reducible apply keeps_ite | with_reducible apply keeps_forAll | with_reducible apply keeps_iff
    | with_reducible apply count_keeps | with_reducible apply capture_keeps | with_reducible apply keeps_wr | dsimp -zeta -zetaHave only
    | lift_lets -underBinder | split

def State.stepRing_may : Nat :=
  may .RT_STEPS ||| may .SYNC_STATE ||| may .rtBad ||| may .rtGood ||| may .rtOffset ||| State.count_may ||| State.rebaseRing_may
  ||| State.stepPast_may
theorem stepRing_keeps {M : Nat} {S0 : State} {s : State} (e : Int) (gs : Keeps M S0 s) (gm : State.stepRing_may &&& M = State.stepRing_may := by decide +kernel) :
    Keeps M S0 (State.stepRing s e) := by
  unfold State.stepRing
  repeat' first
    | with_reducible assumption
    | (intro x; refine keeps_cut (m := M) (s0 := S0) (x := x) ?_ ?_; all_goals first | (intro hx; clear_value x) | subst x)
    | (intro x; clear_value x)
    | intro _
    | with_reducible exact may_trans gm (by decide +kernel)
    | with_reducible apply keeps_ite | with_reducible apply keeps_iff | with_reducible apply count_keeps
    | with_reducible apply rebaseRing_keeps | with_reducible apply stepPast_keeps | with_reducible apply keeps_wr
    | dsimp -zeta -zetaHave only | lift_lets -underBinder | split

def State.slewRing_may : Nat :=
  may .RT_RATE ||| may .rtRateFine ||| may .rtSlewEnd ||| may .rtSlewLeft ||| State.rebaseRing_may
theorem slewRing_keeps {M : Nat} {S0 : State} {s : State} (e : Int) (dt : Nat) (gs : Keeps M S0 s) (gm : State.slewRing_may &&& M = State.slewRing_may := by decide +kernel) :
    Keeps M S0 (State.slewRing s e dt) := by
  unfold State.slewRing
  repeat' first
    | with_reducible assumption
    | (intro x; refine keeps_cut (m := M) (s0 := S0) (x := x) ?_ ?_; all_goals first | (intro hx; clear_value x) | subst x)
    | (intro x; clear_value x)
    | intro _
    | with_reducible exact may_trans gm (by decide +kernel)
    | with_reducible apply keeps_ite | with_reducible apply rebaseRing_keeps | with_reducible apply keeps_wr | dsimp -zeta -zetaHave only
    | lift_lets -underBinder | split

def State.slewState_may : Nat :=
  may .SYNC_STATE ||| may .holdoverFrom ||| may .rtBad ||| may .rtGood ||| may .rtOnce
theorem slewState_keeps {M : Nat} {S0 : State} {s : State} (e : Int) (gs : Keeps M S0 s) (gm : State.slewState_may &&& M = State.slewState_may := by decide +kernel) :
    Keeps M S0 (State.slewState s e) := by
  unfold State.slewState
  repeat' first
    | with_reducible assumption
    | (intro x; refine keeps_cut (m := M) (s0 := S0) (x := x) ?_ ?_; all_goals first | (intro hx; clear_value x) | subst x)
    | (intro x; clear_value x)
    | intro _
    | with_reducible exact may_trans gm (by decide +kernel)
    | with_reducible apply keeps_ite | with_reducible apply keeps_wr | dsimp -zeta -zetaHave only | lift_lets -underBinder | split

def State.followTrim_may : Nat :=
  may .pllTrim ||| may .pllTrimAt
theorem followTrim_keeps {M : Nat} {S0 : State} {s : State} (gs : Keeps M S0 s) (gm : State.followTrim_may &&& M = State.followTrim_may := by decide +kernel) :
    Keeps M S0 (State.followTrim s) := by
  unfold State.followTrim
  repeat' first
    | with_reducible assumption
    | (intro x; refine keeps_cut (m := M) (s0 := S0) (x := x) ?_ ?_; all_goals first | (intro hx; clear_value x) | subst x)
    | (intro x; clear_value x)
    | intro _
    | with_reducible exact may_trans gm (by decide +kernel)
    | with_reducible apply keeps_ite | with_reducible apply keeps_wr | dsimp -zeta -zetaHave only | lift_lets -underBinder | split

def State.useTime_may : Nat :=
  may .LAST_TIME_FRAME ||| may .RT_ERROR ||| may .TIME_FRAMES ||| State.draw_may ||| State.count_may ||| State.checkSync_may |||
  State.pollWaits_may ||| State.stepRing_may ||| State.slewRing_may ||| State.slewState_may ||| State.followTrim_may
theorem useTime_keeps {M : Nat} {S0 : State} {s : State} (p : Nat) (f : Frame) (x : Nat) (gs : Keeps M S0 s) (gm : State.useTime_may &&& M = State.useTime_may := by decide +kernel) :
    Keeps M S0 (State.useTime s p f x) := by
  unfold State.useTime
  repeat' first
    | with_reducible assumption
    | refine keeps_fst (by with_reducible assumption) ?_
    | refine keeps_snd (by with_reducible assumption) ?_
    | (intro x; refine keeps_cut (m := M) (s0 := S0) (x := x) ?_ ?_; all_goals first | (intro hx; clear_value x) | subst x)
    | (intro x; clear_value x)
    | intro _
    | with_reducible exact may_trans gm (by decide +kernel)
    | with_reducible apply keeps_ite | with_reducible apply draw_keeps | with_reducible apply count_keeps
    | with_reducible apply checkSync_keeps | with_reducible apply pollWaits_keeps | with_reducible apply stepRing_keeps
    | with_reducible apply slewRing_keeps | with_reducible apply slewState_keeps | with_reducible apply followTrim_keeps
    | with_reducible apply keeps_wr | dsimp -zeta -zetaHave only | lift_lets -underBinder | split

def State.hearTime_may : Nat :=
  may .headAt ||| State.findHead_may ||| State.useTime_may
theorem hearTime_keeps {M : Nat} {S0 : State} {s : State} (p : Nat) (f : Frame) (x : Nat) (gs : Keeps M S0 s) (gm : State.hearTime_may &&& M = State.hearTime_may := by decide +kernel) :
    Keeps M S0 (State.hearTime s p f x) := by
  unfold State.hearTime
  repeat' first
    | with_reducible assumption
    | (intro x; refine keeps_cut (m := M) (s0 := S0) (x := x) ?_ ?_; all_goals first | (intro hx; clear_value x) | subst x)
    | (intro x; clear_value x)
    | intro _
    | with_reducible exact may_trans gm (by decide +kernel)
    | with_reducible apply keeps_ite | with_reducible apply findHead_keeps | with_reducible apply useTime_keeps
    | with_reducible apply keeps_wr | dsimp -zeta -zetaHave only | lift_lets -underBinder | split

def State.timeOnRing_may : Nat :=
  State.traceFrame_may ||| State.through_may ||| State.discardFrame_may ||| State.forward_may ||| State.receive_may |||
  State.hearTime_may
theorem timeOnRing_keeps {M : Nat} {S0 : State} {s : State} (p : Nat) (f : Frame) (fcsOk : Bool) (hop : Nat) (idle : Bool) (x : Nat) (gs : Keeps M S0 s) (gm : State.timeOnRing_may &&& M = State.timeOnRing_may := by decide +kernel) :
    Keeps M S0 (State.timeOnRing s p f fcsOk hop idle x) := by
  unfold State.timeOnRing
  repeat' first
    | with_reducible assumption
    | refine keeps_fst (by with_reducible assumption) ?_
    | refine keeps_snd (by with_reducible assumption) ?_
    | (intro x; refine keeps_cut (m := M) (s0 := S0) (x := x) ?_ ?_; all_goals first | (intro hx; clear_value x) | subst x)
    | (intro x; clear_value x)
    | intro _
    | with_reducible exact may_trans gm (by decide +kernel)
    | with_reducible apply keeps_ite | with_reducible apply traceFrame_keeps | with_reducible apply through_keeps
    | with_reducible apply discardFrame_keeps | with_reducible apply forward_keeps | with_reducible apply receive_keeps
    | with_reducible apply hearTime_keeps | dsimp -zeta -zetaHave only | lift_lets -underBinder | split

def State.timeOnLp_may : Nat :=
  may_gateway ||| may .REWIND_VALID ||| State.through_may ||| State.receiveLp_may ||| State.sendRing_may ||| State.hearTime_may
theorem timeOnLp_keeps {M : Nat} {S0 : State} {s : State} (f : Frame) (fcsOk : Bool) (hop x : Nat) (gs : Keeps M S0 s) (gm : State.timeOnLp_may &&& M = State.timeOnLp_may := by decide +kernel) :
    Keeps M S0 (State.timeOnLp s f fcsOk hop x) := by
  unfold State.timeOnLp
  repeat' first
    | with_reducible assumption
    | refine keeps_fst (by with_reducible assumption) ?_
    | refine keeps_snd (by with_reducible assumption) ?_
    | (intro x; refine keeps_cut (m := M) (s0 := S0) (x := x) ?_ ?_; all_goals first | (intro hx; clear_value x) | subst x)
    | (intro x; clear_value x)
    | intro _
    | with_reducible exact may_trans gm (by decide +kernel)
    | with_reducible apply keeps_ite | with_reducible apply through_keeps | with_reducible apply receiveLp_keeps
    | with_reducible apply sendRing_keeps | with_reducible apply hearTime_keeps | with_reducible apply keeps_wr
    | with_reducible exact Tbl.wf_nil
    | with_reducible apply Tbl.wf_tset | with_reducible apply Tbl.wf_filter | with_reducible apply Tbl.wf_tmap
    | with_reducible refine (Keeps.can (m := M) (s := S0) ?_ (by assumption)).gateway | dsimp -zeta -zetaHave only
    | lift_lets -underBinder | split | with_reducible apply keeps_gateway

def execTimeDistribution_may : Nat :=
  State.at_may ||| State.timeOnRing_may ||| State.timeOnLp_may
theorem execTimeDistribution_keeps {M : Nat} {S0 : State} (t : Nat) (port : Fin 3) (f : Frame) (fcsOk : Bool) (hop : Nat) (idle : Bool) (stamp : Nat) {s : State} (gs : Keeps M S0 s) (gm : execTimeDistribution_may &&& M = execTimeDistribution_may := by decide +kernel) :
    KeepsO M S0 (execTimeDistribution t port f fcsOk hop idle stamp s) := by
  unfold execTimeDistribution
  repeat' first
    | with_reducible assumption
    | (intro x; refine keeps_cut (m := M) (s0 := S0) (x := x) ?_ ?_; all_goals first | (intro hx; clear_value x) | subst x)
    | (intro x; clear_value x)
    | intro _
    | with_reducible exact may_trans gm (by decide +kernel)
    | with_reducible apply keeps_ite | with_reducible apply at_keeps | with_reducible apply timeOnRing_keeps
    | with_reducible apply timeOnLp_keeps | with_reducible apply keepsO_next | with_reducible apply keepsO_ite
    | exact keepsO_fault
    | dsimp -zeta -zetaHave only | lift_lets -underBinder | split

-- Pass.lean

def State.tick_may : Nat :=
  may .PASS_COUNT ||| may .PASS_MARK_TIME ||| State.goOn_may
theorem tick_keeps {M : Nat} {S0 : State} {s : State} (gs : Keeps M S0 s) (gm : State.tick_may &&& M = State.tick_may := by decide +kernel) :
    Keeps M S0 (State.tick s) := by
  unfold State.tick
  repeat' first
    | with_reducible assumption
    | (intro x; refine keeps_cut (m := M) (s0 := S0) (x := x) ?_ ?_; all_goals first | (intro hx; clear_value x) | subst x)
    | (intro x; clear_value x)
    | intro _
    | with_reducible exact may_trans gm (by decide +kernel)
    | with_reducible apply keeps_ite | with_reducible apply goOn_keeps | with_reducible apply keeps_wr | dsimp -zeta -zetaHave only
    | lift_lets -underBinder

def State.traceMark_may : Nat :=
  may .tfAxes ||| may .tfConvs ||| may .tfEngines ||| may .tfMinSev ||| may .tfPorts ||| State.traceTime_may
theorem traceMark_keeps {M : Nat} {S0 : State} {s : State} (gs : Keeps M S0 s) (gm : State.traceMark_may &&& M = State.traceMark_may := by decide +kernel) :
    Keeps M S0 (State.traceMark s) := by
  unfold State.traceMark
  repeat' first
    | with_reducible assumption
    | (intro x; refine keeps_cut (m := M) (s0 := S0) (x := x) ?_ ?_; all_goals first | (intro hx; clear_value x) | subst x)
    | (intro x; clear_value x)
    | intro _
    | with_reducible exact may_trans gm (by decide +kernel)
    | with_reducible apply keeps_ite | with_reducible apply keeps_iff | with_reducible apply traceTime_keeps
    | with_reducible apply keeps_wr | dsimp -zeta -zetaHave only | lift_lets -underBinder | split

def State.supplyMark_may : Nat :=
  may .AUX_VOLTAGE ||| may .BUS_VM ||| may .HUB_TEMP ||| may .LOGIC_POWER ||| may .VMA_CURRENT ||| may .VMA_VOLTAGE ||| may
  .VMB_CURRENT ||| may .VMB_VOLTAGE ||| State.seeBus_may
theorem supplyMark_keeps {M : Nat} {S0 : State} {s : State} (w : MarkIn) (gs : Keeps M S0 s) (gm : State.supplyMark_may &&& M = State.supplyMark_may := by decide +kernel) :
    Keeps M S0 (State.supplyMark s w) := by
  unfold State.supplyMark
  repeat' first
    | with_reducible assumption
    | (intro x; refine keeps_cut (m := M) (s0 := S0) (x := x) ?_ ?_; all_goals first | (intro hx; clear_value x) | subst x)
    | (intro x; subst x)
    | intro _
    | with_reducible exact may_trans gm (by decide +kernel)
    | with_reducible apply keeps_ite | with_reducible apply seeBus_keeps | with_reducible apply keeps_wr | dsimp -zeta -zetaHave only
    | lift_lets -underBinder

def State.cutLate_may : Nat :=
  may_runs ||| may .PASS_LATE ||| State.count_may ||| State.tally_may
theorem cutLate_keeps {M : Nat} {S0 : State} {s : State} (gs : Keeps M S0 s) (gm : State.cutLate_may &&& M = State.cutLate_may := by decide +kernel) :
    Keeps M S0 (State.cutLate s) := by
  unfold State.cutLate
  repeat' first
    | with_reducible assumption
    | (intro x; refine keeps_cut (m := M) (s0 := S0) (x := x) ?_ ?_; all_goals first | (intro hx; clear_value x) | subst x)
    | (intro x; clear_value x)
    | intro _
    | with_reducible exact may_trans gm (by decide +kernel)
    | with_reducible apply keeps_ite | with_reducible apply count_keeps | with_reducible apply tally_keeps
    | with_reducible exact Tbl.wf_nil
    | with_reducible apply Tbl.wf_tset | with_reducible apply Tbl.wf_filter | with_reducible apply Tbl.wf_tmap
    | with_reducible refine (Keeps.can (m := M) (s := S0) ?_ (by assumption)).runs | dsimp -zeta -zetaHave only | lift_lets -underBinder
    | split | with_reducible apply keeps_runs

def State.depthMark_may : Nat :=
  may_queues
theorem depthMark_keeps {M : Nat} {S0 : State} {s : State} (gs : Keeps M S0 s) (gm : State.depthMark_may &&& M = State.depthMark_may := by decide +kernel) :
    Keeps M S0 (State.depthMark s) := by
  unfold State.depthMark
  repeat' first
    | with_reducible assumption
    | (intro x; refine keeps_cut (m := M) (s0 := S0) (x := x) ?_ ?_; all_goals first | (intro hx; clear_value x) | subst x)
    | (intro x; clear_value x)
    | intro _
    | with_reducible exact may_trans gm (by decide +kernel)
    | with_reducible apply keeps_ite
    | with_reducible exact Tbl.wf_nil
    | with_reducible apply Tbl.wf_tset | with_reducible apply Tbl.wf_filter | with_reducible apply Tbl.wf_tmap
    | with_reducible refine (Keeps.can (m := M) (s := S0) ?_ (by assumption)).queues | dsimp -zeta -zetaHave only
    | lift_lets -underBinder | split | with_reducible apply keeps_queues

def State.fallbackMark_may : Nat :=
  may .FALLBACK_FOR ||| may .leaveFallback ||| State.cfg_may
theorem fallbackMark_keeps {M : Nat} {S0 : State} {s : State} (gs : Keeps M S0 s) (gm : State.fallbackMark_may &&& M = State.fallbackMark_may := by decide +kernel) :
    Keeps M S0 (State.fallbackMark s) := by
  unfold State.fallbackMark
  repeat' first
    | with_reducible assumption | intro _
    | with_reducible exact may_trans gm (by decide +kernel)
    | with_reducible apply keeps_ite | with_reducible apply cfg_keeps | with_reducible apply keeps_wr | dsimp -zeta -zetaHave only
    | split

def State.dieMark_may : Nat :=
  State.tally_may
theorem dieMark_keeps {M : Nat} {S0 : State} {s : State} (k : Nat) (gs : Keeps M S0 s) (gm : State.dieMark_may &&& M = State.dieMark_may := by decide +kernel) :
    Keeps M S0 (State.dieMark s k) := by
  unfold State.dieMark
  repeat' first
    | with_reducible assumption | intro _
    | with_reducible exact may_trans gm (by decide +kernel)
    | with_reducible apply keeps_ite | with_reducible apply keeps_iff | with_reducible apply tally_keeps | dsimp -zeta -zetaHave only
    | split

def State.takePlanned_may : Nat :=
  may .CMD_ACC ||| may .CMD_POS ||| may .CMD_VEL ||| may .SEGMENT ||| may .ampOld ||| may .angleOld ||| may .incOld ||| may .posQ
  ||| may .relWas ||| State.wr48_may
theorem takePlanned_keeps {M : Nat} {S0 : State} {s : State} (n : Nat) (gs : Keeps M S0 s) (gm : State.takePlanned_may &&& M = State.takePlanned_may := by decide +kernel) :
    Keeps M S0 (State.takePlanned s n) := by
  unfold State.takePlanned
  repeat' first
    | with_reducible assumption
    | (intro x; refine keeps_cut (m := M) (s0 := S0) (x := x) ?_ ?_; all_goals first | (intro hx; clear_value x) | subst x)
    | (intro x; clear_value x)
    | intro _
    | with_reducible exact may_trans gm (by decide +kernel)
    | with_reducible apply keeps_ite | with_reducible apply wr48_keeps | with_reducible apply keeps_wr | dsimp -zeta -zetaHave only
    | lift_lets -underBinder

def State.saddleMark_may : Nat :=
  may .SADDLE_PENDING ||| may .SADDLE_TIME ||| may .sadDue ||| State.event_may
theorem saddleMark_keeps {M : Nat} {S0 : State} {s : State} (n : Nat) (gs : Keeps M S0 s) (gm : State.saddleMark_may &&& M = State.saddleMark_may := by decide +kernel) :
    Keeps M S0 (State.saddleMark s n) := by
  unfold State.saddleMark
  repeat' first
    | with_reducible assumption
    | (intro x; refine keeps_cut (m := M) (s0 := S0) (x := x) ?_ ?_; all_goals first | (intro hx; clear_value x) | subst x)
    | (intro x; clear_value x)
    | intro _
    | with_reducible exact may_trans gm (by decide +kernel)
    | with_reducible apply keeps_ite | with_reducible apply event_keeps | with_reducible apply keeps_wr | dsimp -zeta -zetaHave only
    | lift_lets -underBinder | split

def State.lateEnd_may : Nat :=
  State.homeMark_may ||| State.arrive_may
theorem lateEnd_keeps {M : Nat} {S0 : State} {s : State} (n : Nat) (gs : Keeps M S0 s) (gm : State.lateEnd_may &&& M = State.lateEnd_may := by decide +kernel) :
    Keeps M S0 (State.lateEnd s n) := by
  unfold State.lateEnd
  repeat' first
    | with_reducible assumption
    | (intro x; refine keeps_cut (m := M) (s0 := S0) (x := x) ?_ ?_; all_goals first | (intro hx; clear_value x) | subst x)
    | (intro x; clear_value x)
    | intro _
    | with_reducible exact may_trans gm (by decide +kernel)
    | with_reducible apply keeps_ite | with_reducible apply keeps_iff | with_reducible apply homeMark_keeps
    | with_reducible apply arrive_keeps | dsimp -zeta -zetaHave only | lift_lets -underBinder | split

def State.finishMark_may : Nat :=
  may .finHome ||| may .finPend ||| State.event_may ||| State.setAxis_may ||| State.endDeferral_may ||| State.homeResult_may |||
  State.finRec_may
theorem finishMark_keeps {M : Nat} {S0 : State} {s : State} (n : Nat) (gs : Keeps M S0 s) (gm : State.finishMark_may &&& M = State.finishMark_may := by decide +kernel) :
    Keeps M S0 (State.finishMark s n) := by
  unfold State.finishMark
  repeat' first
    | with_reducible assumption
    | (intro x; refine keeps_cut (m := M) (s0 := S0) (x := x) ?_ ?_; all_goals first | (intro hx; clear_value x) | subst x)
    | (intro x; clear_value x)
    | intro _
    | with_reducible exact may_trans gm (by decide +kernel)
    | with_reducible apply keeps_ite | with_reducible apply keeps_iff | with_reducible apply event_keeps
    | with_reducible apply setAxis_keeps | with_reducible apply endDeferral_keeps | with_reducible apply homeResult_keeps
    | with_reducible apply finRec_keeps | with_reducible apply keeps_wr | dsimp -zeta -zetaHave only | lift_lets -underBinder | split

def State.stallMark_may : Nat :=
  may .STALL_RUN ||| may .stallRel ||| State.setAxis_may
theorem stallMark_keeps {M : Nat} {S0 : State} {s : State} (n : Nat) (gs : Keeps M S0 s) (gm : State.stallMark_may &&& M = State.stallMark_may := by decide +kernel) :
    Keeps M S0 (State.stallMark s n) := by
  unfold State.stallMark
  repeat' first
    | with_reducible assumption | intro _
    | with_reducible exact may_trans gm (by decide +kernel)
    | with_reducible apply keeps_ite | with_reducible apply keeps_iff | with_reducible apply setAxis_keeps
    | with_reducible apply keeps_wr | dsimp -zeta -zetaHave only | split

def State.engageMark_may : Nat :=
  may .followPend ||| State.engage_may
theorem engageMark_keeps {M : Nat} {S0 : State} {s : State} (n : Nat) (gs : Keeps M S0 s) (gm : State.engageMark_may &&& M = State.engageMark_may := by decide +kernel) :
    Keeps M S0 (State.engageMark s n) := by
  unfold State.engageMark
  repeat' first
    | with_reducible assumption | intro _
    | with_reducible exact may_trans gm (by decide +kernel)
    | with_reducible apply keeps_ite | with_reducible apply engage_keeps | with_reducible apply keeps_wr | dsimp -zeta -zetaHave only
    | split

def State.incMark_may : Nat :=
  may .ANGLE_INC ||| may .incHeld ||| may .incMissed ||| State.wrPlanner_may
theorem incMark_keeps {M : Nat} {S0 : State} {s : State} (n : Nat) (gs : Keeps M S0 s) (gm : State.incMark_may &&& M = State.incMark_may := by decide +kernel) :
    Keeps M S0 (State.incMark s n) := by
  unfold State.incMark
  repeat' first
    | with_reducible assumption
    | (intro x; refine keeps_cut (m := M) (s0 := S0) (x := x) ?_ ?_; all_goals first | (intro hx; clear_value x) | subst x)
    | (intro x; clear_value x)
    | intro _
    | with_reducible exact may_trans gm (by decide +kernel)
    | with_reducible apply keeps_ite | with_reducible apply wrPlanner_keeps | with_reducible apply keeps_wr | dsimp -zeta -zetaHave only
    | lift_lets -underBinder | split

def State.staleMark_may : Nat :=
  may .incOk ||| State.endCause_may
theorem staleMark_keeps {M : Nat} {S0 : State} {s : State} (n : Nat) (gs : Keeps M S0 s) (gm : State.staleMark_may &&& M = State.staleMark_may := by decide +kernel) :
    Keeps M S0 (State.staleMark s n) := by
  unfold State.staleMark
  repeat' first
    | with_reducible assumption
    | (intro x; refine keeps_cut (m := M) (s0 := S0) (x := x) ?_ ?_; all_goals first | (intro hx; clear_value x) | subst x)
    | (intro x; clear_value x)
    | intro _
    | with_reducible exact may_trans gm (by decide +kernel)
    | with_reducible apply keeps_ite | with_reducible apply keeps_iff | with_reducible apply endCause_keeps
    | with_reducible apply keeps_wr | dsimp -zeta -zetaHave only | lift_lets -underBinder | split

def State.safeDrive_may : Nat :=
  may .DISABLE_CAUSE ||| State.setAxis_may ||| State.disable_may ||| State.preset_may
theorem safeDrive_keeps {M : Nat} {S0 : State} {s : State} (n : Nat) (gs : Keeps M S0 s) (gm : State.safeDrive_may &&& M = State.safeDrive_may := by decide +kernel) :
    Keeps M S0 (State.safeDrive s n) := by
  unfold State.safeDrive
  repeat' first
    | with_reducible assumption
    | (intro x; refine keeps_cut (m := M) (s0 := S0) (x := x) ?_ ?_; all_goals first | (intro hx; clear_value x) | subst x)
    | (intro x; clear_value x)
    | intro _
    | with_reducible exact may_trans gm (by decide +kernel)
    | with_reducible apply keeps_ite | with_reducible apply setAxis_keeps | with_reducible apply disable_keeps
    | with_reducible apply preset_keeps | with_reducible apply keeps_wr | dsimp -zeta -zetaHave only | lift_lets -underBinder | split

def State.safeTake_may : Nat :=
  may .ANGLE_INC ||| may .incMissed ||| State.wrPlanner_may ||| State.setAmp_may ||| State.safeDrive_may
theorem safeTake_keeps {M : Nat} {S0 : State} {s : State} (n : Nat) (gs : Keeps M S0 s) (gm : State.safeTake_may &&& M = State.safeTake_may := by decide +kernel) :
    Keeps M S0 (State.safeTake s n) := by
  unfold State.safeTake
  repeat' first
    | with_reducible assumption
    | (intro x; refine keeps_cut (m := M) (s0 := S0) (x := x) ?_ ?_; all_goals first | (intro hx; clear_value x) | subst x)
    | (intro x; clear_value x)
    | intro _
    | with_reducible exact may_trans gm (by decide +kernel)
    | with_reducible apply keeps_ite | with_reducible apply keeps_iff | with_reducible apply wrPlanner_keeps
    | with_reducible apply setAmp_keeps | with_reducible apply safeDrive_keeps | with_reducible apply keeps_wr
    | dsimp -zeta -zetaHave only | lift_lets -underBinder | split

def State.valuesMark_may : Nat :=
  State.setAmp_may ||| State.incMark_may ||| State.staleMark_may ||| State.safeTake_may
theorem valuesMark_keeps {M : Nat} {S0 : State} {s : State} (n : Nat) (gs : Keeps M S0 s) (gm : State.valuesMark_may &&& M = State.valuesMark_may := by decide +kernel) :
    Keeps M S0 (State.valuesMark s n) := by
  unfold State.valuesMark
  repeat' first
    | with_reducible assumption
    | (intro x; refine keeps_cut (m := M) (s0 := S0) (x := x) ?_ ?_; all_goals first | (intro hx; clear_value x) | subst x)
    | (intro x; clear_value x)
    | intro _
    | with_reducible exact may_trans gm (by decide +kernel)
    | with_reducible apply keeps_ite | with_reducible apply keeps_iff | with_reducible apply setAmp_keeps
    | with_reducible apply incMark_keeps | with_reducible apply staleMark_keeps | with_reducible apply safeTake_keeps
    | dsimp -zeta -zetaHave only | lift_lets -underBinder | split

def State.angleMark_may : Nat :=
  may .angleQ
theorem angleMark_keeps {M : Nat} {S0 : State} {s : State} (n : Nat) (gs : Keeps M S0 s) (gm : State.angleMark_may &&& M = State.angleMark_may := by decide +kernel) :
    Keeps M S0 (State.angleMark s n) := by
  unfold State.angleMark
  repeat' first
    | with_reducible assumption
    | (intro x; refine keeps_cut (m := M) (s0 := S0) (x := x) ?_ ?_; all_goals first | (intro hx; clear_value x) | subst x)
    | (intro x; clear_value x)
    | intro _
    | with_reducible exact may_trans gm (by decide +kernel)
    | with_reducible apply keeps_ite | with_reducible apply keeps_wr | dsimp -zeta -zetaHave only | lift_lets -underBinder

def State.chopperMark_may : Nat :=
  may .adCnt ||| may .adMag ||| may .adSum ||| State.adaptMark_may ||| State.signatureMark_may ||| State.widenMark_may |||
  State.takeChopper_may ||| State.refMark_may ||| State.settledMark_may ||| State.startPhases_may ||| State.stepMark_may
theorem chopperMark_keeps {M : Nat} {S0 : State} {s : State} (n : Nat) (gs : Keeps M S0 s) (gm : State.chopperMark_may &&& M = State.chopperMark_may := by decide +kernel) :
    Keeps M S0 (State.chopperMark s n) := by
  unfold State.chopperMark
  repeat' first
    | with_reducible assumption
    | (intro x; refine keeps_cut (m := M) (s0 := S0) (x := x) ?_ ?_; all_goals first | (intro hx; clear_value x) | subst x)
    | (intro x; subst x)
    | intro _
    | with_reducible exact may_trans gm (by decide +kernel)
    | with_reducible apply keeps_ite | simp only [List.foldl_cons, List.foldl_nil] | with_reducible apply adaptMark_keeps
    | with_reducible apply signatureMark_keeps | with_reducible apply widenMark_keeps | with_reducible apply takeChopper_keeps
    | with_reducible apply refMark_keeps | with_reducible apply settledMark_keeps | with_reducible apply startPhases_keeps
    | with_reducible apply stepMark_keeps | with_reducible apply keeps_wr | dsimp -zeta -zetaHave only | lift_lets -underBinder | split

def State.releaseMark_may : Nat :=
  may .relFrom ||| may .relWait
theorem releaseMark_keeps {M : Nat} {S0 : State} {s : State} (n : Nat) (gs : Keeps M S0 s) (gm : State.releaseMark_may &&& M = State.releaseMark_may := by decide +kernel) :
    Keeps M S0 (State.releaseMark s n) := by
  unfold State.releaseMark
  repeat' first
    | with_reducible assumption | intro _
    | with_reducible exact may_trans gm (by decide +kernel)
    | with_reducible apply keeps_ite | with_reducible apply keeps_wr | dsimp -zeta -zetaHave only | split

def State.ledgerMark_may : Nat :=
  may .mkDev ||| may .mkFbPos ||| may .mkLoad ||| may .mkTarget
theorem ledgerMark_keeps {M : Nat} {S0 : State} {s : State} (n : Nat) (gs : Keeps M S0 s) (gm : State.ledgerMark_may &&& M = State.ledgerMark_may := by decide +kernel) :
    Keeps M S0 (State.ledgerMark s n) := by
  unfold State.ledgerMark
  repeat' first
    | with_reducible assumption
    | (intro x; refine keeps_cut (m := M) (s0 := S0) (x := x) ?_ ?_; all_goals first | (intro hx; clear_value x) | subst x)
    | (intro x; clear_value x)
    | intro _
    | with_reducible exact may_trans gm (by decide +kernel)
    | with_reducible apply keeps_ite | with_reducible apply keeps_wr | dsimp -zeta -zetaHave only | lift_lets -underBinder

def State.axisMark_may : Nat :=
  State.followMark_may ||| State.pollInstant_may ||| State.alignFb_may ||| State.seenPass_may ||| State.ranks_may |||
  State.openMark_may ||| State.driveMark_may ||| State.reassignMark_may ||| State.learnMark_may ||| State.loadCauses_may |||
  State.takePlanned_may ||| State.saddleMark_may ||| State.lateEnd_may ||| State.finishMark_may ||| State.stallMark_may |||
  State.engageMark_may ||| State.valuesMark_may ||| State.angleMark_may ||| State.chopperMark_may ||| State.releaseMark_may |||
  State.ledgerMark_may
theorem axisMark_keeps {M : Nat} {S0 : State} {s : State} (n : Nat) (gs : Keeps M S0 s) (gm : State.axisMark_may &&& M = State.axisMark_may := by decide +kernel) :
    Keeps M S0 (State.axisMark s n) := by
  unfold State.axisMark
  repeat' first
    | with_reducible assumption
    | (intro x; refine keeps_cut (m := M) (s0 := S0) (x := x) ?_ ?_; all_goals first | (intro hx; clear_value x) | subst x)
    | (intro x; clear_value x)
    | intro _
    | with_reducible exact may_trans gm (by decide +kernel)
    | with_reducible apply keeps_ite | with_reducible apply keeps_iff | with_reducible apply followMark_keeps
    | with_reducible apply pollInstant_keeps | with_reducible apply alignFb_keeps | with_reducible apply seenPass_keeps
    | with_reducible apply ranks_keeps | with_reducible apply openMark_keeps | with_reducible apply driveMark_keeps
    | with_reducible apply reassignMark_keeps | with_reducible apply learnMark_keeps | with_reducible apply loadCauses_keeps
    | with_reducible apply takePlanned_keeps | with_reducible apply saddleMark_keeps | with_reducible apply lateEnd_keeps
    | with_reducible apply finishMark_keeps | with_reducible apply stallMark_keeps | with_reducible apply engageMark_keeps
    | with_reducible apply valuesMark_keeps | with_reducible apply angleMark_keeps | with_reducible apply chopperMark_keeps
    | with_reducible apply releaseMark_keeps | with_reducible apply ledgerMark_keeps | dsimp -zeta -zetaHave only
    | lift_lets -underBinder | split

def State.publish_may : Nat :=
  may .NOTES_SENT ||| may .PUBLISH_SEQ ||| State.count_may ||| State.sendOwn_may
theorem publish_keeps {M : Nat} {S0 : State} {s : State} (n : Nat) (gs : Keeps M S0 s) (gm : State.publish_may &&& M = State.publish_may := by decide +kernel) :
    Keeps M S0 (State.publish s n) := by
  unfold State.publish
  repeat' first
    | with_reducible assumption
    | (intro x; refine keeps_cut (m := M) (s0 := S0) (x := x) ?_ ?_; all_goals first | (intro hx; clear_value x) | subst x)
    | (intro x; clear_value x)
    | intro _
    | with_reducible exact may_trans gm (by decide +kernel)
    | with_reducible apply keeps_ite | with_reducible apply count_keeps | with_reducible apply sendOwn_keeps
    | with_reducible apply keeps_wr | dsimp -zeta -zetaHave only | lift_lets -underBinder | split

def State.rmsMark_may : Nat :=
  may .IRMS_DIE ||| may .IRMS_MODULE
theorem rmsMark_keeps {M : Nat} {S0 : State} {s : State} (gs : Keeps M S0 s) (gm : State.rmsMark_may &&& M = State.rmsMark_may := by decide +kernel) :
    Keeps M S0 (State.rmsMark s) := by
  unfold State.rmsMark
  repeat' first
    | with_reducible assumption | intro _
    | with_reducible exact may_trans gm (by decide +kernel)
    | with_reducible apply keeps_ite | with_reducible apply keeps_forAll | with_reducible apply keeps_wr | dsimp -zeta -zetaHave only
    | split

def State.standbyMark_may : Nat :=
  may .standbySince ||| may .wakeSince
theorem standbyMark_keeps {M : Nat} {S0 : State} {s : State} (gs : Keeps M S0 s) (gm : State.standbyMark_may &&& M = State.standbyMark_may := by decide +kernel) :
    Keeps M S0 (State.standbyMark s) := by
  unfold State.standbyMark
  repeat' first
    | with_reducible assumption
    | (intro x; refine keeps_cut (m := M) (s0 := S0) (x := x) ?_ ?_; all_goals first | (intro hx; clear_value x) | subst x)
    | (intro x; subst x)
    | intro _
    | with_reducible exact may_trans gm (by decide +kernel)
    | with_reducible apply keeps_ite | with_reducible apply keeps_wr | dsimp -zeta -zetaHave only | lift_lets -underBinder | split

def State.aliveMark_may : Nat :=
  may .alive ||| State.tally_may
theorem aliveMark_keeps {M : Nat} {S0 : State} {s : State} (was : Bool) (gs : Keeps M S0 s) (gm : State.aliveMark_may &&& M = State.aliveMark_may := by decide +kernel) :
    Keeps M S0 (State.aliveMark s was) := by
  unfold State.aliveMark
  repeat' first
    | with_reducible assumption | intro _
    | with_reducible exact may_trans gm (by decide +kernel)
    | with_reducible apply keeps_ite | with_reducible apply tally_keeps | with_reducible apply keeps_wr | dsimp -zeta -zetaHave only
    | split

def State.dropRequest_may : Nat :=
  may .modeReq ||| State.finish_may
theorem dropRequest_keeps {M : Nat} {S0 : State} {s : State} (gs : Keeps M S0 s) (gm : State.dropRequest_may &&& M = State.dropRequest_may := by decide +kernel) :
    Keeps M S0 (State.dropRequest s) := by
  unfold State.dropRequest
  repeat' first
    | with_reducible assumption | intro _
    | with_reducible exact may_trans gm (by decide +kernel)
    | with_reducible apply keeps_ite | with_reducible apply finish_keeps | with_reducible apply keeps_wr | dsimp -zeta -zetaHave only
    | split

def State.lockoutMark_may : Nat :=
  may .lockoutPending ||| may .tripPending ||| State.finish_may ||| State.enter_may ||| State.dropRequest_may
theorem lockoutMark_keeps {M : Nat} {S0 : State} {s : State} (gs : Keeps M S0 s) (gm : State.lockoutMark_may &&& M = State.lockoutMark_may := by decide +kernel) :
    Keeps M S0 (State.lockoutMark s) := by
  unfold State.lockoutMark
  repeat' first
    | with_reducible assumption
    | (intro x; refine keeps_cut (m := M) (s0 := S0) (x := x) ?_ ?_; all_goals first | (intro hx; clear_value x) | subst x)
    | (intro x; clear_value x)
    | intro _
    | with_reducible exact may_trans gm (by decide +kernel)
    | with_reducible apply keeps_ite | with_reducible apply finish_keeps | with_reducible apply enter_keeps
    | with_reducible apply dropRequest_keeps | with_reducible apply keeps_wr | dsimp -zeta -zetaHave only | lift_lets -underBinder
    | split

def State.modeAtMark_may : Nat :=
  may .clearPending ||| may .modeReq ||| may .tripPending ||| State.finish_may ||| State.enter_may ||| State.enterIsland_may |||
  State.dropRequest_may ||| State.lockoutMark_may
theorem modeAtMark_keeps {M : Nat} {S0 : State} {s : State} (gs : Keeps M S0 s) (gm : State.modeAtMark_may &&& M = State.modeAtMark_may := by decide +kernel) :
    Keeps M S0 (State.modeAtMark s) := by
  unfold State.modeAtMark
  repeat' first
    | with_reducible assumption
    | (intro x; refine keeps_cut (m := M) (s0 := S0) (x := x) ?_ ?_; all_goals first | (intro hx; clear_value x) | subst x)
    | (intro x; clear_value x)
    | intro _
    | with_reducible exact may_trans gm (by decide +kernel)
    | with_reducible apply keeps_ite | with_reducible apply keeps_iff | with_reducible apply finish_keeps
    | with_reducible apply enter_keeps | with_reducible apply enterIsland_keeps | with_reducible apply dropRequest_keeps
    | with_reducible apply lockoutMark_keeps | with_reducible apply keeps_wr | dsimp -zeta -zetaHave only | lift_lets -underBinder
    | split

def State.settleAll_may : Nat :=
  State.goOn_may ||| State.settleAxis_may ||| State.pulseDone_may
theorem settleAll_keeps {M : Nat} {S0 : State} {s : State} (gs : Keeps M S0 s) (gm : State.settleAll_may &&& M = State.settleAll_may := by decide +kernel) :
    Keeps M S0 (State.settleAll s) := by
  unfold State.settleAll
  repeat' first
    | with_reducible assumption | intro _
    | with_reducible exact may_trans gm (by decide +kernel)
    | with_reducible apply keeps_ite | with_reducible apply keeps_forAll | with_reducible apply goOn_keeps
    | with_reducible apply settleAxis_keeps | with_reducible apply pulseDone_keeps | dsimp -zeta -zetaHave only | split

def State.blocksMark_may : Nat :=
  State.closeAtMark_may ||| State.channelMark_may ||| State.emulate_may ||| State.busMark_may ||| State.calMark_may |||
  State.converterMark_may ||| State.tick_may ||| State.traceMark_may ||| State.supplyMark_may ||| State.cutLate_may |||
  State.depthMark_may ||| State.fallbackMark_may ||| State.dieMark_may ||| State.settleAll_may
theorem blocksMark_keeps {M : Nat} {S0 : State} {s : State} (w : MarkIn) (gs : Keeps M S0 s) (gm : State.blocksMark_may &&& M = State.blocksMark_may := by decide +kernel) :
    Keeps M S0 (State.blocksMark s w) := by
  unfold State.blocksMark
  repeat' first
    | with_reducible assumption
    | (intro x; refine keeps_cut (m := M) (s0 := S0) (x := x) ?_ ?_; all_goals first | (intro hx; clear_value x) | subst x)
    | (intro x; clear_value x)
    | intro _
    | with_reducible exact may_trans gm (by decide +kernel)
    | with_reducible apply keeps_ite | with_reducible apply keeps_forAll | with_reducible apply keeps_iff
    | with_reducible apply closeAtMark_keeps | with_reducible apply channelMark_keeps | with_reducible apply emulate_keeps
    | with_reducible apply busMark_keeps | with_reducible apply calMark_keeps | with_reducible apply converterMark_keeps
    | with_reducible apply tick_keeps | with_reducible apply traceMark_keeps | with_reducible apply supplyMark_keeps
    | with_reducible apply cutLate_keeps | with_reducible apply depthMark_keeps | with_reducible apply fallbackMark_keeps
    | with_reducible apply dieMark_keeps | with_reducible apply settleAll_keeps | dsimp -zeta -zetaHave only | lift_lets -underBinder
    | split

def execPassMark_may : Nat :=
  may_was ||| may .enaPend ||| State.dueContact_may ||| State.axisMark_may ||| State.publish_may ||| State.rmsMark_may |||
  State.standbyMark_may ||| State.aliveMark_may ||| State.modeAtMark_may ||| State.blocksMark_may
theorem execPassMark_keeps {M : Nat} {S0 : State} (w : MarkIn) {s : State} (gs : Keeps M S0 s) (gm : execPassMark_may &&& M = execPassMark_may := by decide +kernel) :
    KeepsO M S0 (execPassMark w s) := by
  unfold execPassMark
  repeat' first
    | with_reducible assumption
    | (intro x; refine keeps_cut (m := M) (s0 := S0) (x := x) ?_ ?_; all_goals first | (intro hx; clear_value x) | subst x)
    | (intro x; clear_value x)
    | intro _
    | with_reducible exact may_trans gm (by decide +kernel)
    | with_reducible apply keeps_ite | with_reducible apply keeps_forAll | with_reducible apply dueContact_keeps
    | with_reducible apply axisMark_keeps | with_reducible apply publish_keeps | with_reducible apply rmsMark_keeps
    | with_reducible apply standbyMark_keeps | with_reducible apply aliveMark_keeps | with_reducible apply modeAtMark_keeps
    | with_reducible apply blocksMark_keeps | with_reducible apply keeps_wr | with_reducible apply keepsO_next
    | with_reducible apply keepsO_ite
    | exact keepsO_fault
    | dsimp -zeta -zetaHave only | lift_lets -underBinder | split

def execStaleIncrement_may : Nat :=
  may .ANGLE_INC ||| may .incMissed ||| State.detect_may ||| State.wrPlanner_may ||| State.contain_may
theorem execStaleIncrement_keeps {M : Nat} {S0 : State} (n : Fin 64) {s : State} (gs : Keeps M S0 s) (gm : execStaleIncrement_may &&& M = execStaleIncrement_may := by decide +kernel) :
    KeepsO M S0 (execStaleIncrement n s) := by
  unfold execStaleIncrement
  repeat' first
    | with_reducible assumption
    | (intro x; refine keeps_cut (m := M) (s0 := S0) (x := x) ?_ ?_; all_goals first | (intro hx; clear_value x) | subst x)
    | (intro x; clear_value x)
    | intro _
    | with_reducible exact may_trans gm (by decide +kernel)
    | with_reducible apply keeps_ite | with_reducible apply detect_keeps | with_reducible apply wrPlanner_keeps
    | with_reducible apply contain_keeps | with_reducible apply keeps_wr | with_reducible apply keepsO_next
    | with_reducible apply keepsO_ite
    | exact keepsO_fault
    | dsimp -zeta -zetaHave only | lift_lets -underBinder | split

end Sys2Proof.Machine
end

