-- ==== Sys2Proof/Tests/Slice0.lean ====
section
/-! SUPPORT. Small tests: an ill-formed term for each check of WellFormed, and, for each statement with hypotheses, concrete states and operands
that meet them, clause by clause. -/
set_option Elab.async false
namespace Sys2Proof.Tests
open Sys2Proof.Machine

-- small states

/-- The registers of `l` put to their values. -/
def put (s : State) (l : List (Reg × Nat × Int)) : State := l.foldl (fun s (p : Reg × Nat × Int) => s.wr p.1 p.2.1 p.2.2) s

/-- The module in mode `m` with its clocks locked and flash read, and the registers of `l` at their values. -/
def st (m : Int) (l : List (Reg × Nat × Int)) : State :=
  put State.reset ([(.MODE, 0, m), (.flashRead, 0, 1), (.pllLocked, 0, 1)] ++ l)

/-- RUN in pass 1, 4,000 cycles after its mark. -/
def mid (l : List (Reg × Nat × Int)) : State :=
  st 5 ([(.PASS_COUNT, 0, 1), (.PASS_MARK_TIME, 0, 5000), (.DEVICE_TIME, 0, 9000)] ++ l)

/-- The same at the mark of pass 1. -/
def mark (m : Int) (l : List (Reg × Nat × Int)) : State := st m ([(.PASS_COUNT, 0, 1), (.PASS_MARK_TIME, 0, 5000), (.DEVICE_TIME, 0, 5000)] ++ l)

/-- The request of tag 5 of the first head, received on RA at device time 7. -/
def hd : Hdr := ⟨7, 0, 0x400, 5, false⟩

/-- The fields of State.Takes, decided. -/
def takes (s : State) (h : Hdr) (op idx sub : Nat) (bs : List Byte) : Bool :=
  s.answering && !(s.tagSt h.tag).busy && decide ((s.tagSt h.tag).digest ≠ some (s.digest h op idx sub bs)) &&
  decide (isWriteOp op = true → s.mode ≠ 1 ∧ (s.mode = 10 → h.port = 2))

theorem takes_spec {s h op idx sub bs} (k : takes s h op idx sub bs = true) : s.Takes h op idx sub bs := by
  simp only [takes, Bool.and_eq_true, Bool.not_eq_true', decide_eq_true_eq] at k
  exact ⟨k.1.1.1, k.1.1.2, k.1.2, k.2⟩

/-- The fields of State.Accepts, decided. -/
def accepts (p : State × Nat × Nat × List Byte) : Bool :=
  takes p.1 hd opWrite p.2.1 p.2.2.1 p.2.2.2 && decide ((p.1.taken hd opWrite p.2.1 p.2.2.1 p.2.2.2).writeCode p.2.1 p.2.2.1 p.2.2.2 = 0)

theorem accepts_all {l : List (State × Nat × Nat × List Byte)} (k : l.all accepts = true) :
    ∀ p ∈ l, p.1.Accepts hd p.2.1 p.2.2.1 p.2.2.2 := by
  intro p hp
  have := List.all_eq_true.mp k p hp
  simp only [accepts, Bool.and_eq_true, decide_eq_true_eq] at this
  exact ⟨takes_spec this.1, this.2⟩

-- requests

/-- RUN with axis 3 used and at rest, its converter running, and a diagnostic of it passed. -/
def run5 (l : List (Reg × Nat × Int)) : State :=
  st 5 ([(.AXIS_USE, 3, 1), (.AXIS_STATE, 3, 0), (.FOLLOW_SOURCE, 3, 1), (.DIAG_RESULT, 3, 1), (.ENA_STATE, 0, 7), (.BUS_VM, 0, 2400)] ++ l)

def motionRequests : List (State × Nat × Nat × List Byte) :=
  [(run5 [], axisIdx 0x14 3, 1, leBytes 8 (unsigned 64 (-2 ^ 47))), (run5 [], axisIdx 0x14 3, 1, leBytes 8 (unsigned 64 (2 ^ 47 - 1))),
   (run5 [], axisIdx 0x1C 3, 1, leBytes 8 (unsigned 64 (-2 ^ 47))), (run5 [], axisIdx 0x1C 3, 1, leBytes 8 (unsigned 64 (2 ^ 47 - 1))),
   (run5 [], axisIdx 0x15 3, 1, [1]), (run5 [], axisIdx 0x15 3, 1, [2]),
   (run5 [], axisIdx 0x13 3, 1, ([4#64, 1#64, 0#64, 0#64] ++ List.replicate 12 0#64).flatMap (fun (w : Word64) => leBytes 8 w.toNat)),
   (run5 [], axisIdx 0x13 3, 2, [1]), (run5 [(.AXIS_STATE, 3, 5)], axisIdx 0x13 3, 2, [1]), (st 2 [], axisIdx 0x13 3, 2, [1]),
   (run5 [], axisIdx 0x10 3, 1, leBytes 4 1), (run5 [], axisIdx 0x10 3, 4, leBytes 4 5000),
   (run5 [], axisIdx 0x12 3, 2, leBytes 2 0), (run5 [], axisIdx 0x32 3, 2, [1]), (run5 [(.AXIS_STATE, 3, 3)], axisIdx 0x32 3, 2, [1]),
   (run5 [], axisIdx 0x32 3, 2, [0]), (run5 [(.FOLLOW_STATE, 3, 2)], axisIdx 0x32 3, 2, [0]),
   (run5 [], axisIdx 0x31 3, 1, leBytes 4 (unsigned 32 (-5))), (run5 [], axisIdx 0x31 3, 2, leBytes 4 5)]

def driveRequests : List (State × Nat × Nat × List Byte) :=
  [(run5 [], axisIdx 0x47 3, 5, [1]), (run5 [], axisIdx 0x47 3, 1, [1]), (run5 [], axisIdx 0x47 3, 1, [0]),
   (run5 [(.ADAPT_SETTLED, 3, 1), (.LEARN_SPEED, 24, 100000), (.LI_LOW_MIN_SPEED, 3, 1), (.VMAX, 3, 1000000), (.SOFT_MAX, 3, 2 ^ 46), (.SOFT_MIN, 3, -2 ^ 46)],
     axisIdx 0x62 3, 12, [1]),
   (run5 [], axisIdx 0x62 3, 12, [0]), (run5 [(.lnOn, 3, 3)], axisIdx 0x62 3, 12, [0]),
   (run5 [(.AXIS_STATE, 3, 5)], axisIdx 0x65 3, 6, [1]), (run5 [(.AXIS_STATE, 3, 7)], axisIdx 0x70 3, 2, [1]),
   (run5 [], axisIdx 0x70 3, 2, [0]), (run5 [(.AXIS_STATE, 3, 2)], axisIdx 0x70 3, 2, [0]),
   (run5 [(.AXIS_STATE, 3, 6), (.DRIVE_STATE, 3, 2)], axisIdx 0x70 3, 2, [0]),
   (run5 [(.AXIS_STATE, 3, 6)], axisIdx 0x76 3, 1, [1]), (run5 [], axisIdx 0x74 3, 1, [1]), (run5 [], 0x1078, 2, [1]),
   (st 3 [], axisIdx 0x75 3, 1, [1]), (st 3 [(.DIRECT_MODE, 3, 1), (.DRIVE_STATE, 3, 4)], axisIdx 0x75 3, 1, [0]),
   (st 3 [(.DIRECT_MODE, 3, 1), (.DRIVE_STATE, 3, 4)], axisIdx 0x75 3, 4, [1])]

def unitRequests : List (State × Nat × Nat × List Byte) :=
  [(run5 [], 0x400F, 0x1B, leBytes 8 (unsigned 64 (-2 ^ 47))), (run5 [], 0x400F, 0x1B, leBytes 8 (unsigned 64 (2 ^ 47 - 1))),
   (run5 [], axisIdx 0x81 3, 6, [1]), (run5 [], 0x4000, 0x17, [0]), (run5 [], 0x4000, 0x17, [3]),
   (run5 [(.CV_MODE, 2, 1)], 0x3102, 0x1C, [0]), (run5 [(.CV_MODE, 2, 1)], 0x3102, 0x1C, [0x3B]),
   (run5 [(.CV_STATE, 2, 3)], 0x3102, 0x20, [1]), (st 3 [], 0x3400, 7, [1]), (st 3 [], 0x3400, 7, [2]), (st 3 [], 0x3400, 7, [3]),
   (st 3 [(.calHave, 0, 3), (.calZero, 0, 0), (.calFull, 0, 65536), (.CAL_EXPECT_FS, 0, 65536)], 0x3400, 7, [3]),
   (st 3 [], 0x3400, 0x0A, [1]), (st 2 [], 0x1030, 4, [1]),
   (run5 [(.NEWEST_ORDINAL, 0, 9), (.HEAD_FIRST, 0, 4), (.HEAD_LAST, 0, 9), (.headDone, 0, 1)], 0x2001, 1, leBytes 4 9),
   (run5 [(.NEWEST_ORDINAL, 0, 9)], 0x2001, 2, leBytes 4 9), (run5 [(.HELD, 79, 1)], 0x504F, 0x0C, [1]),
   (run5 [], 0x5203, 1, leBytes 129 1), (run5 [], 0x5300, 1, [16]),
   (run5 [(.INJECT_ENABLE, 0, 1), (.INJECT_TARGET, 0, 8 * 2 ^ 24 + 79)], 0x2005, 3, [1]), (run5 [], 0x7300, 1, [1])]

def modeRequests : List (State × Nat × Nat × List Byte) :=
  [(run5 [], 0x6000, 1, [6]), (run5 [], 0x6000, 2, leBytes 4 1024), (run5 [], 0x6000, 3, List.replicate 1024 0#8),
   (run5 [], 0x6000, 4, leBytes 4 0), (run5 [], 0x6000, 8, [6]), (run5 [], 0x6808, 1, [7]),
   (run5 [], 0x6803, 9, [7]), (run5 [(.REDUNDANCY, 0, 2 ^ 23)], 0x6803, 9, [7]), (run5 [], 0x1001, 6, [0xA5]),
   (run5 [], 0x1004, 4, [1]),
   (st 4 [(.ARM_STATE, 0, 1)], 0x1001, 2, [2]), (st 2 [], 0x1001, 2, [3]), (st 2 [(.planPlaced, 0, 1)], 0x1001, 2, [4]), (st 4 [(.ARM_STATE, 0, 1)], 0x1001, 2, [5]),
   (run5 [], 0x1001, 2, [5]), (run5 [], 0x1001, 2, [9]), (run5 [], 0x1001, 2, [10]), (st 4 [(.ARM_STATE, 0, 1)], 0x1001, 2, [11])]

theorem witness_motionRequests : ∀ p ∈ motionRequests, p.1.Accepts hd p.2.1 p.2.2.1 p.2.2.2 := accepts_all (by decide +kernel)
theorem witness_driveRequests : ∀ p ∈ driveRequests, p.1.Accepts hd p.2.1 p.2.2.1 p.2.2.2 := accepts_all (by decide +kernel)
theorem witness_unitRequests : ∀ p ∈ unitRequests, p.1.Accepts hd p.2.1 p.2.2.1 p.2.2.2 := accepts_all (by decide +kernel)
theorem witness_modeRequests : ∀ p ∈ modeRequests, p.1.Accepts hd p.2.1 p.2.2.1 p.2.2.2 := accepts_all (by decide +kernel)

-- WellFormed: a term for each check, which the check refuses

/-- A frame of kind `k` and operation `op`, from `src` to `dest`, with `data`. -/
def fr (k op dest src : Nat) (data : List Byte) : Frame :=
  { ether := true, version := 1, kind := k, op := op, dest := dest, src := src, tag := 9, retry := false, wraps := 0, gateway := false
    enum := false, index := 0x1010, sub := 1, result := 0, status := 0, data := data, reserved := false, carried := true }

def timeFrame : Frame := fr 2 opTime 0xFFFF 0x400 (List.replicate 16 0)
def sweepFrame : Frame := { fr 2 opSweep 0xFFFF 0x401 (List.replicate 1160 0) with enum := true }
def noteFrame : Frame := { fr 2 opNote 0xFFFF 0x123 (List.replicate 24 1) with index := 1 }

theorem test_wf_refuses_odd_pairs : (∀ c ∈ [Instr.oAddw .trip 1 2 4, .oAddw .trip 2 3 4, .oAddw .trip 2 4 5, .oSubw .trip 1 2 4, .oSubw .trip 2 3 4,
    .oSubw .trip 2 4 5, .oArg .trip 1, .oMul .trip 3 4 5, .oMulu .trip 3 4 5, .oTime .trip 1, .oRtime .trip 1,
    .oLdlw .trip ⟨1, 0, false, true, 0, false⟩ .clean, .oStlw .trip ⟨1, 0, false, true, 0, false⟩, .oPush .trip 1 64 true, .oPop .trip 1 76],
    c.wf = false) := by decide +kernel
theorem test_wf_refuses_distances : (∀ c ∈ [Instr.oShli .trip 0 0 32, .oShri .trip 0 0 32, .oSrai .trip 0 0 32, .oBeq .trip 0 0 0, .oBne .trip 0 0 0,
    .oBlt .trip 0 0 0, .oBge .trip 0 0 0, .oBltu .trip 0 0 0, .oBgeu .trip 0 0 0, .oBra .trip 0], c.wf = false) := by decide +kernel
theorem test_wf_refuses_half_of_a_whole_word : Instr.wf (.oLdlw .trip ⟨2, 0, true, true, 0, false⟩ .clean) = false ∧
    Instr.wf (.oStlw .trip ⟨2, 0, true, true, 0, false⟩) = false := by decide +kernel
theorem test_wf_refuses_frames_of_other_rows : Instr.wf (.frameArrival 0 0 timeFrame true 0) = false ∧
    Instr.wf (.gatewayFrameIn 0 timeFrame true) = false ∧ Instr.wf (.sweep 0 0 noteFrame true 0) = false ∧
    Instr.wf (.note 0 0 sweepFrame true 0) = false ∧ Instr.wf (.timeDistribution 0 0 noteFrame true 0 false 0) = false := by decide +kernel
theorem test_wf_takes_frames_of_its_rows : Instr.wf (.frameArrival 0 0 noteFrame true 0) = true ∧ Instr.wf (.gatewayFrameIn 0 noteFrame true) = true ∧
    Instr.wf (.sweep 0 0 sweepFrame true 0) = true ∧ Instr.wf (.note 0 0 noteFrame true 0) = true ∧
    Instr.wf (.timeDistribution 0 0 timeFrame true 0 false 0) = true := by decide +kernel

-- the machine as a whole

theorem witness_StepRunsTheFrontCommand : { State.reset with pending := [.rootLost 3, .auxLost 5] }.pending = .rootLost 3 :: [.auxLost 5] := rfl

/-- In RUN, a command waiting. -/
def waiting : State := { st 5 [] with pending := [.rootLost 3] }

theorem witness_StepKeepsCanonical : waiting.Canonical ∧ ∃ t, step waiting = .next t :=
  ⟨by constructor <;> decide +kernel, _, rfl⟩
theorem witness_WellFormedCommands : (∀ c ∈ waiting.pending, c.wf = true) := by decide +kernel

-- Orwyn

/-- Every Orwyn instruction for unit `u`, with operands at the ends of their ranges. -/
def orwynAll (u : RunUnit) : List Instr :=
  [.oNop u, .oAdd u 0 15 7, .oSub u 15 0 7, .oAnd u 1 2 3, .oOr u 1 2 3, .oXor u 1 2 3, .oShl u 1 2 3, .oShr u 1 2 3, .oSra u 1 2 3, .oMin u 1 2 3,
   .oMax u 1 2 3, .oAddw u 14 0 2, .oSubw u 14 0 2, .oCtxn u 3, .oArg u 4, .oCallp u 5, .oAddi u 1 2 0x3FFFF, .oAndi u 1 2 0x3FFFF, .oOri u 1 2 0x20000,
   .oXori u 1 2 0x20000, .oShli u 1 2 31, .oShri u 1 2 31, .oSrai u 1 2 0, .oMovi u 1 0x20000, .oOrhi u 1 2 0x3FFFF, .oDone u, .oMul u 14 15 15,
   .oMulu u 0 1 2, .oEnd u, .oBeq u 1 2 1023, .oBne u 1 2 1, .oBlt u 1 2 1, .oBge u 1 2 1023, .oBltu u 1 2 1, .oBgeu u 1 2 1, .oBra u 1023, .oLoop u 255,
   .oEndl u, .oLidx u 6, .oTime u 2, .oRtime u 2, .oMode u 6, .oLdl u ⟨3, 24, true, true, 0, false⟩ .clean,
   .oLdlw u ⟨2, 63, false, false, 63, true⟩ .clean,
   .oStl u ⟨3, 56, false, true, 0, false⟩, .oStlw u ⟨2, 63, false, false, 63, false⟩, .oPush u 2 64 true, .oPop u 2 76, .oPop u 2 77, .oQdep u 1 79,
   .oObjr u 3 0 true, .oObjw u 3 15]

/-- A run of program 5 for axis 3 that has come to `c`, in a loop, with two words available in mailbox 0. -/
def runOf (c : Instr) : Run :=
  { prog := 5, words := [(orwynEncode c).getD 0], pos := 0, regs := List.replicate 16 0, loops := [⟨0, 2, 1⟩], ctx := 3, slot := 0, start := 5000, cycles := 0
    stores := [((64 * 3 + 56, true), 7)], pushes := [], pops := [], read := [(100, some 2), (200, some 8)], writes := [], called := false }

/-- Program 5, which lists PASS_COUNT at its first object entry. -/
def prog5 : Prog :=
  { num := 5, kind := 1, words := [0x7C000000], wcet := 10, ctxRead := 0, ctxWrite := 0, absAxes := 0, absRead := 0, absWrite := 0, pushes := 0, pops := 0
    flags := 0, objs := [(0x1010, 1, 0)], hash := 0 }

/-- Where that run stands on unit `u`, in the cycle of its mark. -/
def runs (u : RunUnit) (c : Instr) : State :=
  { (mark 5 []).setRun u (some (runOf c)) with progs := [prog5], bankA := [PSlot.word ⟨7, 0, 200, 5, 3, 5, 0, 0, 0⟩] }

def comesTo (u : RunUnit) (c : Instr) : Bool :=
  decide ((runs u c).run u = some (runOf c)) && decide ((runOf c).here u = orwynEncode c) && orwynOk c &&
  decide (((runs u c).at ((runs u c).issueAt u (runOf c))).now = (runs u c).issueAt u (runOf c)) &&
  decide ((runOf c).cycles < slotBudget ((runs u c).activeBank.getD (runOf c).slot 0))

theorem witness_ComesTo (u : RunUnit) (k : (orwynAll u).all (comesTo u) = true) :
    ∀ c ∈ orwynAll u, (runs u c).ComesTo u (runOf c) c ∧ (runs u c).Issues u (runOf c) := by
  intro c hc
  have := List.all_eq_true.mp k c hc
  simp only [comesTo, Bool.and_eq_true, decide_eq_true_eq] at this
  exact ⟨⟨this.1.1.1.1, this.1.1.1.2, this.1.1.2, rfl⟩, this.1.2, fun _ _ => this.2⟩
theorem witness_Orwyn_engine : ∀ c ∈ orwynAll (.engine 7), (runs (.engine 7) c).ComesTo (.engine 7) (runOf c) c ∧
    (runs (.engine 7) c).Issues (.engine 7) (runOf c) := witness_ComesTo _ (by decide +kernel)
theorem witness_Orwyn_trip : ∀ c ∈ orwynAll .trip, (runs .trip c).ComesTo .trip (runOf c) c ∧ (runs .trip c).Issues .trip (runOf c) :=
  witness_ComesTo _ (by decide +kernel)
theorem witness_OrwynLedgerAccesses : (runOf (.oNop .trip)).cell ⟨3, 24, true, true, 0, false⟩ = some (3, 24) ∧
    (runOf (.oNop .trip)).cell ⟨2, 63, false, false, 63, true⟩ = some (63, 0) ∧
    (runOf (.oNop .trip)).own (64 * 3 + 56) true = some 7 ∧ (runOf (.oNop .trip)).own (64 * 3 + 56) false = none := by decide +kernel
theorem witness_OrwynTime_late : ((mid []).setRun .trip (some (runOf (.oTime .trip 2)))).issueAt .trip (runOf (.oTime .trip 2)) < (mid []).now := by
  decide +kernel
theorem witness_OrwynReadsAndTheCommit : (runOf (.oPop .trip 2 76)).avail 76 ≠ 0 ∧ (runOf (.oPop .trip 2 77)).avail 77 = 0 ∧
    findProg (runs .trip (.oEnd .trip)).progs 5 = some prog5 ∧ prog5.objs[(0 : Fin 16).val]? = some (0x1010, 1, 0) ∧ (findObj 0x1010 1).isSome = true ∧
    tget none (runOf (.oEnd .trip)).read 0 = none ∧ (runs .trip (.oEnd .trip)).rd .PROG_RUNS 5 + 1 < 2 ^ 64 := by decide +kernel
theorem witness_OrwynEncodingsAgree : (∀ c ∈ orwynAll (.harvest 15), orwynOk c = true ∧ (orwynEncode c).isSome = true ∧
    orwynDecode (.harvest 15) ((orwynEncode c).getD 0) = some c) ∧ wordOp 0x70000000 = 0x1C ∧ wordOp 0xFFFFFFFF = 0x3F := by decide +kernel
theorem witness_IllFormedOrwynStops : orwynOk (.oBra .trip 0) = false ∧ orwynOk (.oShli .trip 0 0 32) = false ∧ orwynOk (.oArg .trip 15) = false ∧
    orwynOk (.oLdlw .trip ⟨0, 0, true, true, 0, false⟩ .clean) = false := by decide +kernel

-- feedback channels

theorem test_cycles : ((mid []).at 9999).now = 9999 ∧ ((mid []).at 10000).now = 9999 ∧ ((mid []).at 0).now = 9000 ∧ (mark 5 []).atMark = true := by
  decide +kernel

theorem witness_QuadratureEdge : (mid [(.CH_MODE, 15, 1), (.ILLEGAL_COUNT, 15, 2 ^ 32 - 2)]).rd .CH_MODE 15 = 1 ∧
    (mid [(.CH_MODE, 15, 1)]).bit .CH_FLAGS 15 3 = false ∧ (mid []).rd .lineAtA 15 = 0 ∧
    (mid [(.lineAtB, 15, 8001), (.CH_FILTER, 15, 1000)]).rdN .lineAtB 15 + (mid [(.CH_FILTER, 15, 1000)]).rdN .CH_FILTER 15 ≤ (mid []).now + 1 ∧
    (mid [(.ILLEGAL_COUNT, 15, 2 ^ 32 - 2)]).rd .ILLEGAL_COUNT 15 + 1 < 2 ^ 32 ∧
    (∀ q : Fin 4, ∃ a b : Bool, a = !(mid [(.qState, 15, q.val)]).bit .qState 15 1 ∧ b = (mid [(.qState, 15, q.val)]).bit .qState 15 0) ∧
    (∀ q : Fin 4, ∃ a b : Bool, a = (mid [(.qState, 15, q.val)]).bit .qState 15 1 ∧ b = !(mid [(.qState, 15, q.val)]).bit .qState 15 0) ∧
    (mid []).rd .CH_MODE 15 ≠ 1 := by decide +kernel
theorem witness_Index : (∀ m : Fin 3, (mid [(.CH_MODE, 0, 1), (.INDEX_MODE, 0, m.val)]).rd .CH_MODE 0 = 1 ∧
      (mid [(.CH_MODE, 0, 1), (.INDEX_MODE, 0, m.val)]).bit .CH_FLAGS 0 3 = false ∧
      (mid [(.CH_MODE, 0, 1), (.INDEX_MODE, 0, m.val)]).rd .INDEX_MODE 0 = m.val) ∧
    (mid []).rd .lineAtZ 0 = 0 ∧ (mid [(.lineAtZ, 0, 8000), (.CH_FILTER, 0, 1000)]).rdN .lineAtZ 0 + (mid [(.CH_FILTER, 0, 1000)]).rdN .CH_FILTER 0 ≤ (mid []).now ∧
    (mid [(.illegalAt, 0, 9001)]).rdN .illegalAt 0 = (mid []).now + 1 ∧ (mid []).rdN .illegalAt 0 ≠ (mid []).now + 1 ∧
    0 < (mid [(.INDEX_PERIOD, 0, 4000)]).rdN .INDEX_PERIOD 0 ∧ (mid [(.CH_FLAGS, 0, 32)]).bit .CH_FLAGS 0 5 = true ∧
    indexDev 4005 5 4000 = 0 ∧ indexDev 2005 5 4000 = -2000 ∧ indexDev 2004 5 4000 = 1999 ∧ indexDev 2001 0 4001 = -2000 ∧ indexDev 2000 0 4001 = 2000 := by
  decide +kernel
theorem witness_SpeedTimeout : let s := mid [(.CH_MODE, 4, 1), (.edgeAt, 4, 8000), (.SPEED_TIMEOUT, 4, 1000)];
    s.rd .CH_MODE 4 = 1 ∧ s.bit .CH_FLAGS 4 3 = false ∧ s.rd .edgeAt 4 ≠ 0 ∧ s.bit .CH_FLAGS 4 4 = false ∧
    s.rdN .edgeAt 4 + s.rdN .SPEED_TIMEOUT 4 ≤ s.now := by decide +kernel
theorem witness_SerialFrames : (mark 5 [(.CH_MODE, 1, 2)]).rd .CH_MODE 1 = 2 ∧ (mark 5 [(.CH_MODE, 1, 2)]).bit .CH_FLAGS 1 3 = false ∧
    (mark 5 []).mode ≠ 11 ∧ (mark 5 []).atMark = true ∧ (mark 5 [(.ABS_PERIOD, 1, 1)]).pass % (mark 5 [(.ABS_PERIOD, 1, 1)]).rdN .ABS_PERIOD 1 = 0 ∧
    (∀ k : Fin 3, (mark 5 [(.CH_MODE, 1, 2), (.ssiState, 1, k.val)]).rd .ssiState 1 = k.val) ∧ (mark 5 []).rd .ABS_JUMP_MAX 1 = 0 ∧
    (mark 5 []).rd .absHave 1 = 0 ∧ (mark 5 []).rd .FRAME_ERRORS 1 + 1 < 2 ^ 32 := by decide +kernel
/-- A frame of 24 bits at 100 cycles a bit, in its last cycle but one. -/
def serial (l : List (Reg × Nat × Int)) : State :=
  mid ([(.CH_MODE, 1, 2), (.ssiState, 1, 2), (.ssiStamp, 1, 6500), (.SSI_BITS, 1, 24), (.SSI_DIV, 1, 100), (.SSI_DELAY, 1, 20)] ++ l)
theorem witness_SerialFrames_arrival : let s := serial [];
    s.rd .CH_MODE 1 = 2 ∧ s.bit .CH_FLAGS 1 3 = false ∧ s.mode ≠ 11 ∧ s.rd .ssiState 1 = 2 ∧ s.rd .ssiOld 1 = 0 ∧
    (s.rdN .SSI_BITS 1 - 1) * s.rdN .SSI_DIV 1 + s.rdN .SSI_DELAY 1 ≤ s.now - s.rdN .ssiStamp 1 ∧
    s.now - s.rdN .ssiStamp 1 ≤ (s.rdN .SSI_BITS 1 + 1) * s.rdN .SSI_DIV 1 + s.rdN .SSI_DELAY 1 ∧ s.rd .absHave 1 = 0 ∧
    (serial [(.ssiMono, 1, 8000), (.SSI_MONO, 1, 1000)]).rd .ssiMono 1 ≠ 0 ∧
    (serial [(.ssiMono, 1, 8000)]).rdN .ssiMono 1 + (serial [(.SSI_MONO, 1, 1000)]).rdN .SSI_MONO 1 ≤ s.now ∧
    s.atMark = false ∧ (serial [(.ssiOld, 1, 1)]).rd .ssiOld 1 ≠ 0 ∧ s.rd .FRAME_ERRORS 1 + 1 < 2 ^ 32 := by decide +kernel
theorem witness_LineFault : (∀ m : Fin 3, (mid [(.CH_MODE, 2, m.val)]).rd .CH_MODE 2 = m.val ∧ (mid [(.CH_MODE, 2, m.val)]).bit .CAUSES_PRESENT (blkFb 2) 1 = false) ∧
    (mid [(.INDEX_MODE, 2, 1)]).rd .INDEX_MODE 2 ≠ 0 ∧ (mid []).rd .INDEX_MODE 2 = 0 ∧ (mid [(.LATCH_SRC, 2, 1)]).rd .LATCH_SRC 2 = 1 ∧
    (mid []).rd .LATCH_SRC 2 ≠ 1 ∧ (mid [(.CAUSES_PRESENT, blkFb 2, 2)]).bit .CAUSES_PRESENT (blkFb 2) 1 = true := by decide +kernel
theorem witness_SenseEdge : (mid []).now % 100 = 0 ∧ (mid []).rd .senseChg 127 = 0 ∧
    (mid [(.senseChg, 127, 8501), (.SENSE_FILTER, 127, 5)]).rdN .senseChg 127 + 100 * (mid [(.SENSE_FILTER, 127, 5)]).rdN .SENSE_FILTER 127 ≤ (mid []).now + 1 ∧
    (mid []).sense 127 ≠ true ∧ (mid [(.SENSE_HI, 0, 2 ^ 63), (.SENSE_EDGES, 127, 2 ^ 32 - 2)]).sense 127 ≠ false ∧
    (mid [(.SENSE_EDGES, 127, 2 ^ 32 - 2)]).rd .SENSE_EDGES 127 + 1 < 2 ^ 32 := by decide +kernel
theorem witness_LatchCapture :
    (∀ k : Fin 3, let l : List (Reg × Nat × Int) := [(.latchArmed, 7, 1), (.CH_MODE, 7, 1), (.chCount, 7, 2 ^ 47 - 1), (.LATCH_SRC, 7, k.val + 1),
        (.lineAtZ, 7, 9001), (.LATCH_SENSE, 7, 127), (.senseAt, 127, 9001), (.SENSE_HI, 0, 2 ^ 63), (.LATCH_AT, 7, 0)]
      (mid l).rd .latchArmed 7 = 1 ∧ (mid l).rd .CH_MODE 7 ≠ 2 ∧ -2 ^ 47 ≤ (mid l).rd .chCount 7 ∧ (mid l).rd .chCount 7 < 2 ^ 47 ∧
      (mid l).rd .LATCH_COUNT 7 + 1 < 2 ^ 32 ∧
      (((mid l).rdN .LATCH_SRC 7 = 1 ∧ (mid l).rdN .lineAtZ 7 = (mid l).now + 1 ∧ (mid l).rd .CH_MODE 7 = 1 ∧ (mid l).bit .CH_FLAGS 7 3 = false) ∨
       ((mid l).rdN .LATCH_SRC 7 = 2 ∧ (mid l).rdN .senseAt ((mid l).rdN .LATCH_SENSE 7 % 128) = (mid l).now + 1 ∧
         (mid l).sense ((mid l).rdN .LATCH_SENSE 7 % 128) ≠ (mid l).bit .LATCH_SENSE 7 8) ∨
       ((mid l).rdN .LATCH_SRC 7 = 3 ∧ (mid l).rd .latchDone 7 = 0 ∧ (mid l).rdN .LATCH_AT 7 ≤ (mid l).ring))) := by decide +kernel

-- the built-in slots, records

/-- The slot word of KIND `k` for axis 3 on engine 0. -/
def slotWord (k : Nat) : Word64 := PSlot.word ⟨0, 8000, 330, k, 3, 0, 0, 0, 0⟩

/-- Pass 1 in RUN, axis 3 at rest, its fold-in done, and a slot of KIND `k` of it due; the records `q` wait. -/
def atSlot (k : Nat) (l : List (Reg × Nat × Int)) (q : List (List Word64)) : State :=
  { mid ([(.AXIS_USE, 3, 1), (.AXIS_STATE, 3, 0), (.stampFold, 3, 2)] ++ l) with
    bankA := [slotWord k], queues := tset Queue.empty [] 3 { Queue.empty with pkts := q.map .words } }

theorem witness_Slots : ∀ k ∈ [1, 2, 3, 4], (atSlot k [] []).SlotComes k 3 := by
  intro k h
  refine ⟨0, slotWord k, ?_⟩
  revert k
  decide +kernel
theorem witness_FoldIn : (atSlot 1 [(.FB_CHANNEL, 3, 15)] []).rd .ledBad 3 = 0 ∧ (atSlot 1 [(.FB_CHANNEL, 3, 15)] []).rdN .FB_CHANNEL 3 < 16 ∧
    (atSlot 2 [] []).rdN .stampFold 3 = (atSlot 2 [] []).pass + 1 ∧ (atSlot 3 [(.stampProfile, 3, 2)] []).rdN .stampProfile 3 = (atSlot 3 [] []).pass + 1 ∧
    (atSlot 4 [(.stampInterp, 3, 2)] []).rdN .stampInterp 3 = (atSlot 4 [] []).pass + 1 ∧ (atSlot 4 [(.clReady, 3, 1)] []).rd .clReady 3 = 1 ∧
    Ecc.clean ≠ Ecc.uncorrectable ∧ (atSlot 4 [] []).rd .devStop 3 = 0 ∧ (atSlot 4 [] []).rd .LI_VOID 3 + 1 < 2 ^ 32 := by decide +kernel
theorem witness_AtRest : (atSlot 2 [] []).AtRest 3 ∧ (atSlot 2 [] []).headRec 3 = none := ⟨by constructor <;> decide +kernel, by decide +kernel⟩
/-- Axis 3 in the middle of a plan of one segment at a constant speed. -/
def moving : State :=
  (atSlot 2 [(.AXIS_STATE, 3, 2)] []).wrPlanner 3 ⟨⟨0, 0, 0, 0, 0⟩, none, some ⟨[⟨0, 0, 2 ^ 34, 0, 2 ^ 60, 0⟩], 2 ^ 34, 2 ^ 40, none⟩, 0, none, none⟩
theorem witness_Moving : (moving.planner 3).plan = some ⟨[⟨0, 0, 2 ^ 34, 0, 2 ^ 60, 0⟩], 2 ^ 34, 2 ^ 40, none⟩ ∧ (moving.planner 3).act = none ∧
    moving.headRec 3 = none ∧ 0 ≤ (moving.planner 3).age ∧ (moving.planner 3).age < 2 ^ 34 ∧ moving.late 3 = [] ∧ moving.lateLimits 3 = [] ∧ moving.rd .AXIS_STATE 3 = 2 ∧ moving.rd .stopPend 3 = 0 ∧
    moving.rd .tgtPend 3 = 0 ∧ moving.rd .limNew 3 = 0 ∧ moving.rd .relWait 3 = 0 ∧ moving.rd .lnOn 3 = 0 ∧ moving.rd .incHeld 3 = 0 ∧
    moving.rd .flushPend 3 = 0 ∧ moving.limitSeen 3 0 = false ∧ moving.limitSeen 3 1 = false ∧ moving.mode = 5 := by decide +kernel
theorem witness_LearnLegEnd : (mid [(.lnOn, 3, 3), (.LEARN_STEPS, 3, 50), (.lnCnt, 3, 49)]).rd .lnOn 3 = 3 ∧
    (mid [(.LEARN_STEPS, 3, 50), (.lnCnt, 3, 49)]).rdN .lnCnt 3 < (mid [(.LEARN_STEPS, 3, 50), (.lnCnt, 3, 49)]).rdN .LEARN_STEPS 3 ∧
    (mid [(.LEARN_STEPS, 3, 50)]).rdN .LEARN_STEPS 3 ≤ (mid [(.lnCnt, 3, 50)]).rdN .lnCnt 3 ∧ spreads 50 50 50 100 = false ∧ spreads 50 50 5000 1 = true ∧
    (mid []).rd .lnLeg 3 = 0 := by decide +kernel

/-- A record of kind `k` with tag 77 and further bits `f` of its first word. -/
def record (k f w1 w2 w3 : Nat) : List Word64 := [BitVec.ofNat 64 (k + f + 77 * 65536), BitVec.ofNat 64 w1, BitVec.ofNat 64 w2, BitVec.ofNat 64 w3]

/-- The records taken in the witnesses: a plain one of each kind, a released one, a satisfied WAIT, a DWELL of no time. -/
def records : List (List Word64) :=
  [record 1 0 400 0 0, record 1 256 400 200000 0, record 2 0 400 0 0, record 3 512 1000 0 0, record 4 0 9 0 0, record 4 0 0 0 0,
   record 5 0 2 (2 ^ 40) 0, record 5 0 2 0 0, record 6 0 5000 0 0, record 7 0 0xFFFFFFFF0100 0 0, record 8 0 5 9 0, record 8 0 6 9 0]
theorem witness_Records : ∀ w ∈ records, ∃ m, (atSlot 2 [(.SOFT_MAX, 3, 2 ^ 46), (.SOFT_MIN, 3, -2 ^ 46)] [w]).headRec 3 = some m ∧ m.tag = 77 ∧
    1 ≤ m.kind ∧ m.kind ≤ 8 ∧ (m.release = true → (atSlot 2 [] []).nextMark + 5000 ≤ (atSlot 2 [] []).ringToDevice m.w2) := by
  have k : (records.all (fun w => match (atSlot 2 [(.SOFT_MAX, 3, 2 ^ 46), (.SOFT_MIN, 3, -2 ^ 46)] [w]).headRec 3 with
    | some m => decide (m.tag = 77 ∧ 1 ≤ m.kind ∧ m.kind ≤ 8 ∧
        (m.release = true → (atSlot 2 [] []).nextMark + 5000 ≤ (atSlot 2 [] []).ringToDevice m.w2))
    | none => false)) = true := by decide +kernel
  intro w hw
  have := List.all_eq_true.mp k w hw
  split at this
  · exact ⟨_, ‹_›, of_decide_eq_true this⟩
  · cases this
theorem witness_Records_atRest : ∀ w ∈ records, (atSlot 2 [] [w]).AtRest 3 := by
  intro w hw
  constructor <;> revert w <;> decide +kernel
theorem witness_Waits : (atSlot 2 [] []).waitMet ⟨5 + 77 * 65536, 2, 0, 0, 2, false⟩ = true ∧
    (atSlot 2 [] []).waitMet ⟨5 + 77 * 65536, 2, 2 ^ 40, 0, 2, false⟩ = false := by decide +kernel
theorem witness_Call : ({ atSlot 2 [(.WORK_PROG, 255, 5), (.WORK_CTX, 255, 3)] [] with progs := [prog5] }.rdN .WORK_PROG 255 = 5) ∧
    (atSlot 2 [(.WORK_PROG, 255, 5), (.WORK_CTX, 255, 3)] []).rdN .WORK_CTX 255 = 3 ∧ (findProg [prog5] 5).isSome = true ∧
    (findProg [prog5] 6).isSome = false := by decide +kernel
/-- Axis 3 with a reference in both directions, its travel and its limit input. -/
def learned : State := mid [(.SIG_ACTIVE, 48, 2 ^ 63 + 2 ^ 32 * 10000 + 9), (.SIG_ACTIVE, 56, 2 ^ 63 + 2 ^ 32 * 10000 + 9), (.LI_MIN_SPEED, 3, 1),
  (.EX_TRAVEL, 3, 100), (.LIMIT_POS, 3, 127)]
theorem witness_Homes : (∀ k ∈ [0, 1, 2, 3, 4], ∃ m, (atSlot 2 [] [record 9 0 100 k 10000]).headRec 3 = some m ∧ m.kind = 9 ∧ m.method = k) ∧
    (learned.refFor 3 false 10000).isSome = true ∧ (learned.refFor 3 true 10000).isSome = true ∧ learned.rd .EX_TRAVEL 3 ≠ 0 ∧
    learned.rdN .LIMIT_POS 3 < 128 := by
  refine ⟨?_, by decide +kernel⟩
  intro k hk
  refine ⟨⟨9 + 77 * 65536, 100, k, 10000, 2, false⟩, ?_⟩
  revert k
  decide +kernel

-- releases, waits, sources

theorem witness_ReleaseStart : (mid [(.relWait, 63, 3), (.RELEASE_PENDING, 63, 1)]).rd .relWait 63 = 3 ∧
    (mid [(.RELEASE_PENDING, 63, 1)]).rdN .RELEASE_PENDING 63 ≤ (mid []).ring + 1 := by decide +kernel
/-- A WAIT of one pass for a sense input, whose pass is over. -/
def waits (f : Nat) : State := (mark 5 []).wrPlanner 0 ⟨⟨0, 0, 0, 0, 0⟩, none, none, 0, some ⟨5 + f, 2 * 65536 + 1, 0, 1, 0, false⟩, none⟩
theorem witness_WaitTimeout : ∀ f ∈ [0, 1024], ∃ m, (waits f).waitRec 0 = some m ∧ (waits f).waitMet m = false ∧ (waits f).atMark = true ∧ m.timeout ≠ 0 ∧
    m.mark + m.timeout ≤ (waits f).pass ∧ (waits f).rd .WAIT_TIMEOUTS 0 + 1 < 2 ^ 32 := by
  intro f hf
  refine ⟨⟨5 + f, 2 * 65536 + 1, 0, 1, 0, false⟩, ?_⟩
  revert f
  decide +kernel
theorem witness_StepEdge : -2 ^ 47 ≤ (mid [(.STEP_COUNT, 7, 2 ^ 47 - 2)]).rd .STEP_COUNT 7 + 1 ∧ (mid [(.STEP_COUNT, 7, 2 ^ 47 - 2)]).rd .STEP_COUNT 7 + 1 < 2 ^ 47 ∧
    (mid [(.DIR_SETUP_VIOL, 7, 2 ^ 32 - 2)]).rd .DIR_SETUP_VIOL 7 + 1 < 2 ^ 32 ∧ (mid []).rd .OVERRATE 7 + 1 < 2 ^ 32 ∧
    (mid [(.FOLLOW_SOURCE, 63, 1), (.SOURCE_NUM, 63, 7)]).rdN .FOLLOW_SOURCE 63 = 1 ∧ (mid [(.SOURCE_NUM, 63, 7)]).rdN .SOURCE_NUM 63 = 7 ∧
    (mid []).rdN .FOLLOW_SOURCE 63 ≠ 1 ∧ (mid []).rd .srcNew 63 ≠ 1 ∧ (mid [(.srcNew, 63, 1), (.srcAt, 63, 8999)]).rdN .srcAt 63 ≠ (mid []).now := by decide +kernel
theorem witness_StreamTimeout : (mid [(.FOLLOW_SOURCE, 3, 4), (.AXIS_STATE, 3, 3), (.FOLLOW_STATE, 3, 1), (.STREAM_TIMEOUT, 3, 1)]).rd .FOLLOW_SOURCE 3 = 4 ∧
    (mid [(.FOLLOW_SOURCE, 3, 4), (.AXIS_STATE, 3, 3), (.FOLLOW_STATE, 3, 1), (.STREAM_TIMEOUT, 3, 1)]).streamOver 3 = true := by decide +kernel

-- clocks, holdover, SYNC

theorem witness_Clocks : (mid []).rd .CLK_SOURCE 0 ≠ 2 ∧ (mid []).rd .ROOT_LOSSES 0 + 1 < 2 ^ 32 ∧ (mid []).mode = 5 ∧ (mid [(.CLK_SOURCE, 0, 2)]).rd .CLK_SOURCE 0 = 2 ∧
    (mid []).rd .rootKind 0 ≠ 2 ∧ (mid [(.rootLostAt, 0, 0), (.ROOT_RETURN_DELAY, 0, 0)]).rdN .rootLostAt 0 +
      100000 * (mid [(.ROOT_RETURN_DELAY, 0, 0)]).rdN .ROOT_RETURN_DELAY 0 ≤ (mid []).now ∧ (mid []).rd .PLL_IN_USE 0 ≠ 1 := by decide +kernel
/-- Two seconds after the first mark. -/
def late (l : List (Reg × Nat × Int)) : State :=
  st 5 ([(.PASS_COUNT, 0, 40000), (.PASS_MARK_TIME, 0, 200000000), (.DEVICE_TIME, 0, 200000000)] ++ l)
theorem witness_Holdover : (late [(.SYNC_STATE, 0, 2), (.LAST_TIME_FRAME, 0, 100000000)]).rd .SYNC_STATE 0 = 2 ∧
    (late [(.LAST_TIME_FRAME, 0, 100000000)]).rdN .LAST_TIME_FRAME 0 + 100000000 ≤ (late []).now ∧
    (late [(.SYNC_STATE, 0, 3)]).rd .SYNC_STATE 0 = 3 ∧
    (late [(.holdoverFrom, 0, 99999999), (.HOLDOVER_LIMIT, 0, 1000)]).rdN .holdoverFrom 0 + 100000 * (late [(.HOLDOVER_LIMIT, 0, 1000)]).rdN .HOLDOVER_LIMIT 0 <
      (late []).now := by decide +kernel
/-- The SYNC output at its instant. -/
def syncOut (m : Int) (l : List (Reg × Nat × Int)) : State := late ([(.SYNC_MODE, 0, m), (.SYNC_PERIOD, 0, 5000)] ++ l)
theorem witness_Sync : (syncOut 1 []).rd .SYNC_MODE 0 = 1 ∧
    syncInstant (syncOut 1 []).ring ((syncOut 1 []).rdN .SYNC_PERIOD 0) ((syncOut 1 []).rdN .SYNC_PHASE 0) = some 200000000 ∧
    (syncOut 1 []).ring < 200000000 + 2 ∧ (syncOut 1 []).rdN .syncNext 0 < 200000000 ∧ (syncOut 1 []).rd .SYNC_SKIPPED 0 + 1 < 2 ^ 32 ∧
    (syncOut 1 []).tsy = true ∧ (syncOut 1 [(.SYNC_STATE, 0, 2)]).tsy = false ∧ (syncOut 1 [(.SYNC_FREE, 0, 0)]).rd .SYNC_FREE 0 = 0 ∧
    (syncOut 1 [(.SYNC_FREE, 0, 1)]).rd .SYNC_FREE 0 ≠ 0 ∧ (syncOut 1 [(.syncLevel, 0, 1)]).rd .syncLevel 0 = 1 ∧
    (syncOut 1 [(.syncHighFrom, 0, 1), (.SYNC_WIDTH, 0, 1000)]).rdN .syncHighFrom 0 + (syncOut 1 [(.SYNC_WIDTH, 0, 1000)]).rdN .SYNC_WIDTH 0 ≤ (late []).now ∧
    (syncOut 2 []).rd .SYNC_MODE 0 = 2 ∧ (syncOut 2 []).rd .SYNC_EDGES 0 + 1 < 2 ^ 32 := by decide +kernel

-- converters

/-- Every converter in the lockstep group, 0 and 15 with a sequence of one entry, at the mark. -/
def conv (l : List (Reg × Nat × Int)) : State :=
  mark 5 ([(.CV_MODE, 0, 1), (.CV_MODE, 15, 1), (.SEQ_LEN, 0, 1), (.SEQ_LEN, 15, 1), (.SEQ_ENTRY, 0, 1024), (.SEQ_ENTRY, 240, 1024), (.LOCK_TRIGGER, 0, 0),
    (.LOCK_OFFSET, 0, 0)] ++ l)
theorem witness_Trigger : (conv []).markTrigger = true ∧ (conv []).seqMembers ≠ [] ∧ 15 ∈ (conv []).seqMembers ∧ (conv []).rd .trigHeld 0 = 0 ∧
    (conv []).rdN .seqEnd 0 < (conv []).ckaNow + 5 ∧ (conv [(.seqEnd, 0, 20005)]).ckaNow + 5 ≤ (conv [(.seqEnd, 0, 20005)]).rdN .seqEnd 0 ∧
    (conv [(.trigHeld, 0, 1)]).rd .trigHeld 0 = 1 ∧ (conv [(.cvCur, 15, 1)]).rd .cvCur 15 ≠ 0 ∧ (conv []).rd .cvCur 15 = 0 ∧ (conv []).cvRuns 15 = true ∧
    (conv []).rd .cvUrg 15 = 0 ∧ 0 < (conv []).rdN .SEQ_LEN 15 ∧ (conv []).rd .TRIG_LATCHED 15 + 1 < 2 ^ 32 := by decide +kernel
theorem witness_Conversion : (∀ k : Fin 2, (conv [(.cvCur, 15, k.val + 1), (.cvFrom, 15, 0)]).rd .cvCur 15 = k.val + 1 ∧
      (conv [(.cvCur, 15, k.val + 1)]).rdN .cvFrom 15 + 5 * ((conv [(.cvCur, 15, k.val + 1)]).cvSample 15 + 16) ≤ 2 * (conv []).now + 1) ∧
    (conv []).rd .trigHeld 0 = 0 ∧ (conv []).cvRuns 15 = true ∧ (conv []).rd .CONVERSIONS 15 + 1 < 2 ^ 64 ∧ (conv []).rd .URGENT_DONE 15 + 1 < 2 ^ 32 ∧
    (conv [(.hdFull, 15, 1), (.hvFree, 15, 5001)]).hvIdle 15 = false ∧ (conv [(.hdFull, 15, 1)]).rd .hdFull 15 = 1 ∧ (conv []).rd .OVERRUNS 15 + 1 < 2 ^ 32 := by
  decide +kernel
theorem witness_Harvest : (conv [(.hdFull, 15, 1)]).rd .hdFull 15 = 1 ∧ (conv [(.hdFull, 15, 1)]).hvIdle 15 = true ∧
    findProg [prog5] ((conv [(.HARVEST_PROG, 15, 5)]).rdN .HARVEST_PROG 15) = some prog5 ∧ findProg [prog5] ((conv [(.HARVEST_PROG, 15, 6)]).rdN .HARVEST_PROG 15) = none ∧
    (conv [(.hdInput, 15, 9), (.hdFlags, 15, 8)]).rdN .hdInput 15 = 9 ∧ (conv [(.hdFlags, 15, 8)]).rdN .hdFlags 15 % 8 = 0 := by decide +kernel
theorem witness_SelfCheck : (conv [(.scOn, 15, 1)]).rd .scOn 15 ≠ 0 ∧ (conv [(.scOn, 15, 1)]).rdN .scOn 15 + 799 ≤ (conv []).now ∧
    (conv []).rd .CONVERSIONS 15 + 16 < 2 ^ 64 ∧ (conv []).rd .OOR_COUNT 15 + 16 < 2 ^ 32 ∧ (conv []).rd .GROUND_FAILS 15 + 8 < 2 ^ 32 ∧
    (List.replicate 8 (0 : Int)).length = 8 ∧ (∀ r ∈ List.replicate 8 (0 : Int), ((conv []).corrected 15 0 r).natAbs ≤ 16 * (conv []).rdN .GND_TOL 15) ∧
    (∀ r ∈ List.replicate 8 (4096 : Int), ((conv []).corrected 15 0 r - 65536).natAbs ≤ 1024) ∧
    ¬ (∀ r ∈ List.replicate 8 (4161 : Int), ((conv []).corrected 15 0 r - 65536).natAbs ≤ 1024) ∧
    (∀ r ∈ List.replicate 8 (4160 : Int), ((conv []).corrected 15 0 r - 65536).natAbs ≤ 1024) := by decide +kernel
theorem witness_CalPoint : ∀ k : Fin 2, (late [(.calBusy, 0, k.val + 1), (.calAt, 0, 0)]).rd .calBusy 0 = k.val + 1 ∧
    (late [(.calBusy, 0, k.val + 1), (.calAt, 0, 0)]).rdN .calAt 0 + 30720 ≤ (late []).now ∧ (late []).rd .CONVERSIONS ((late []).rdN .calC 0) + 256 < 2 ^ 64 := by
  decide +kernel

-- choppers and protections

/-- Axis 63 chopping at amplitude code 2,000 an eighth of a turn on; `l` says what phase B does. -/
def chop (l : List (Reg × Nat × Int)) : State :=
  mid ([(.AMP_CODE, 63, 2000), (.angleQ, 63, 512 * 65536), (.DRIVE_STATE, 63, 1), (.effBlank, 63, 50), (.effToff, 63, 1000), (.phSign, 127, 1)] ++ l)
theorem witness_Choppers : (∀ k : Fin 3, (chop [(.phState, 127, k.val + 1), (.phOffAt, 127, 4450)]).ChopperReady 63 1) ∧
    (chop [(.phState, 127, 1), (.phSign, 127, -1), (.phOffAt, 127, 4450)]).ChopperReady 63 1 := by
  refine ⟨?_, by constructor <;> decide +kernel⟩
  intro k
  constructor <;> revert k <;> decide +kernel
theorem witness_Choppers_peak : (∀ k : Fin 3, (chop [(.phState, 127, k.val + 1)]).signChanged 63 1 = false ∧ (chop [(.phState, 127, k.val + 1)]).rd .phState 127 = k.val + 1) ∧
    (chop [(.phOnAt, 127, 4450)]).rdN .phOnAt 127 + (chop []).rdN .effBlank 63 ≤ (chop []).ckp ∧
    (chop []).ckp < (chop [(.phOnAt, 127, 4451)]).rdN .phOnAt 127 + (chop []).rdN .effBlank 63 ∧
    (chop []).rd .EARLY_TRIPS 63 + 1 < 2 ^ 32 ∧ (chop [(.phState, 127, 1), (.phSign, 127, -1)]).signChanged 63 1 = true := by decide +kernel
theorem witness_Choppers_off : (chop [(.phState, 127, 2)]).rd .phRev 127 = 0 ∧ (chop [(.phOffAt, 127, 4450)]).rdN .phOffAt 127 + 50 ≤ (chop []).ckp ∧
    (chop []).ckp < (chop [(.phOffAt, 127, 4451)]).rdN .phOffAt 127 + 50 ∧ (chop [(.phRev, 127, 1)]).rd .phRev 127 ≠ 0 ∧ (chop []).rd .phW 127 ≠ 63 ∧
    (chop [(.ENA_STATE, 0, 7)]).forcedOff 63 = false ∧ (chop []).rd .brakeOn (dieOf 63) = 0 ∧ (chop []).driveOf 63 = 1 ∧
    (∀ hb : Fin 2, let s := chop [(.swCmd, 254, 2), (.swCmd, 255, 2)];
      s.rd .refreshOn (4 * 63 + 2 * 1 + hb.val) = 0 ∧ s.rd .swCmd (4 * 63 + 2 * 1 + hb.val) = 2 ∧ s.onFrom 63 (2 * 1 + hb.val) ≤ s.ckp) ∧
    (chop [(.phW, 127, 63)]).rd .phW 127 = 63 ∧ (chop [(.phFlags, 127, 32)]).bit .phFlags 127 5 = true ∧
    (chop []).ckp + (chop []).rdN .DEAD_TIME 63 < (chop [(.phOnAt, 127, 4000)]).rdN .phOnAt 127 + 625 ∧ (chop []).rd .FREQ_CAPS 63 + 1 < 2 ^ 32 := by decide +kernel
theorem witness_Choppers_offTimeMax : let s := chop [(.phState, 127, 2), (.phOffAt, 127, 3499)];
    let x := s.rdN .phOffAt 127 + s.rdN .effToff 63;
    s.rd .phState 127 = 2 ∧ s.rd .phPend 127 = 0 ∧ s.rd .phCmd 127 = 0 ∧ s.rd .phMixEnd 127 = 0 ∧ s.rd .phW 127 ≠ 63 ∧ x < s.ckp ∧ s.refIn 63 1 x ≠ 0 ∧
    s.refNow 63 1 ≠ 0 ∧ (s.refNow 63 1).sign = (s.refIn 63 1 x).sign ∧ (s.refIn 63 1 x).sign = s.rd .phSign 127 ∧
    (∀ hb : Fin 4, s.rd .refreshWait (4 * 63 + hb.val) = 0) ∧ s.rd .OFF_TIMEOUTS 63 + 1 < 2 ^ 32 := by decide +kernel
/-- The same axis with its protections read after its choppers have done what they do by themselves. -/
def guarded (l : List (Reg × Nat × Int)) : State := (chop ([(.ENA_STATE, 0, 7)] ++ l)).settleAxis 63
theorem witness_Protections : (guarded []).latchedNow 63 = false ∧ (guarded []).rd .faultLatch 63 ≠ 1 ∧ (guarded []).rd .OC_COUNT 63 + 1 < 2 ^ 32 ∧
    (guarded [(.phState, 127, 1), (.swCmd, 254, 1), (.swAt, 254, 4400)]).onSince 63 (2 ^ 4) 25 ≠ 0 ∧
    (guarded [(.phState, 127, 1), (.swCmd, 254, 1), (.swAt, 254, 4400)]).switchOn 63 2 true (guarded []).ckp = true ∧
    (guarded [(.phState, 127, 1), (.swCmd, 254, 1)]).rd .swCmd 254 = 1 ∧ (guarded []).rd .BOOT_REFRESHES 63 + 1 < 2 ^ 32 ∧
    (guarded []).rd .refreshAt 254 = 0 ∧ (guarded [(.refreshAt, 254, 7001)]).rdN .refreshAt 254 + 1999 ≤ (guarded []).now ∧
    (guarded [(.refreshAt, 254, 7002)]).rd .refreshAt 254 ≠ 0 ∧ (guarded []).now < (guarded [(.refreshAt, 254, 7002)]).rdN .refreshAt 254 + 1999 ∧
    (guarded [(.refreshOn, 254, 1), (.refreshAt, 254, 8902)]).rd .refreshOn 254 = 1 ∧
    (guarded [(.refreshOn, 254, 1), (.refreshAt, 254, 8902)]).rdN .refreshAt 254 + 99 ≤ (guarded []).now + 1 := by decide +kernel
theorem witness_Diagnostics : let s := { mid [] with diag := [(7, [56, 63])] };
    s.diagQueue 7 = 56 :: [63] ∧ s.driveOf 56 = 0 ∧ s.rd .DIAG_AXIS 7 = 255 ∧ s.dieDown 56 = false ∧ s.rd .brakeOn 7 ≠ 1 ∧
    (mid [(.DIE_STATE, 7, 2)]).dieDown 56 = true ∧ (mid [(.brakeOn, 7, 1)]).rd .brakeOn 7 = 1 := by decide +kernel
theorem witness_Diagnostics_ends : (let s := late [(.DIAG_AXIS, 7, 7), (.diagFrom, 7, 0)]; s.rdN .DIAG_AXIS 7 < 8 ∧ s.rdN .diagFrom 7 + 200000 ≤ s.now) ∧
    (let s := mid [(.DRIVE_STATE, 63, 4), (.pulseEnd, 63, 9000)]; s.rd .pulseEnd 63 ≠ 0 ∧ s.rdN .pulseEnd 63 ≤ s.now ∧ s.driveOf 63 = 4 ∧
      s.rd .brakeOn (dieOf 63) = 0 ∧ ∀ hb : Fin 4, s.rd .refreshOn (4 * 63 + hb.val) = 0) := by decide +kernel
theorem witness_Diagnostics_retries : (let s := mark 5 [(.retryAt, 63, 2), (.AXIS_STATE, 63, 6), (.OC_RETRIES, 63, 1), (.AXIS_USE, 63, 1)];
      s.atMark = true ∧ s.rd .retryAt 63 ≠ 0 ∧ s.rdN .retryAt 63 ≤ s.pass + 1 ∧ s.rd .AXIS_STATE 63 = 6 ∧ s.rd .RETRY_COUNT 63 < s.rd .OC_RETRIES 63 ∧
      s.rd .AXIS_USE 63 ≠ 0 ∧ s.rd .DRIVE_STATE 63 = 0 ∧ s.rd .dieOff (63 / 8) ≠ 1 ∧ s.rd .DIAG_RESULT 63 ≠ 5) ∧
    (let s := mark 5 [(.DRIVE_STATE, 63, 1), (.PASS_COUNT, 0, 1200000)]; s.atMark = true ∧ s.rd .DRIVE_STATE 63 = 1 ∧ s.rdN .chopFrom 63 + 1200000 ≤ s.pass) ∧
    (let s := mark 5 [(.OPEN_DETECT_PASSES, 63, 3), (.openRun, 127, 3)]; s.atMark = true ∧ s.rd .OPEN_DETECT_PASSES 63 ≠ 0 ∧
      s.rd .OPEN_DETECT_PASSES 63 ≤ s.rd .openRun 127) := by decide +kernel
theorem witness_DieBusEnable : (mid []).rd .DIE_STATE 7 ≠ 2 ∧ (mid [(.DIE_STATE, 7, 2)]).rd .DIE_STATE 7 = 2 ∧ (mid []).bridgeMode = true ∧ (mid []).rd .uvOn 0 = 0 ∧
    (mid [(.uvOn, 0, 1)]).rd .uvOn 0 = 1 ∧ (mid [(.DRIVE_STATE, 63, 1)]).driveOf 63 = 1 ∧ (1530 ≤ 1530 ∧ 1530 ≤ 1632 ∧ 1650 < 1651 ∧ 6272 ≤ 6272 ∧ 6299 < 6300) ∧
    (mid [(.ENA_STATE, 0, 7)]).bit .ENA_STATE 0 1 = true ∧ (mid [(.ENA_STATE, 0, 1)]).bit .ENA_STATE 0 1 = false ∧
    (mid [(.ENA_STATE, 0, 1)]).bit .ENA_STATE 0 (1 - 1) = true ∧ (mid []).bit .ENA_STATE 0 0 = false ∧
    2 ≤ (mid []).mode ∧ (mid []).rd .ENA_REMOVALS 0 + 1 < 2 ^ 32 ∧ (late [(.enaDiffFrom, 0, 1)]).rd .enaDiffFrom 0 ≠ 0 ∧
    (late [(.enaDiffFrom, 0, 1)]).rdN .enaDiffFrom 0 + 10000000 ≤ (late []).now + 1 := by decide +kernel
theorem witness_Brake : (let s := mid [(.ENA_STATE, 0, 7), (.DRIVE_STATE, 63, 1)]; 6664 ≤ 6664 ∧ (0x80#8 : Byte).toNat.testBit 7 = true ∧ s.rd .brakeOn 7 = 0 ∧
      s.rd .BRAKE_COUNT 7 + 1 < 2 ^ 32 ∧ (∀ j : Fin 8, s.rd .brakeOn j ≠ 1) ∧ s.forcedOff 63 = false ∧ s.rd .DRIVE_STATE 63 ≠ 3 ∧ s.rd .DRIVE_STATE 63 ≠ 5 ∧
      (mid [(.faultLatch, 63, 1)]).forcedOff 63 = true) ∧
    (let s := late [(.brakeOn, 7, 1), (.brakeFrom, 7, 199900000), (.DRIVE_STATE, 63, 3), (.prevDrive, 63, 1)]; 6399 < 6400 ∧ s.rd .brakeOn 7 = 1 ∧
      s.rdN .brakeFrom 7 + 100000 ≤ s.now ∧
      ∀ j : Fin 8, s.rd .brakeOn j = 1 → (0x80#8 : Byte).toNat.testBit j = true ∧ s.rdN .brakeFrom j + 100000 ≤ s.now) := by decide +kernel


-- the pass mark, programs, engines

theorem witness_PassMark : (late []).rd .pllLocked 0 ≠ 0 ∧ (late []).mode ≠ 0 := by decide +kernel
theorem witness_PassMark_axis : (atSlot 2 [] []).AtRest 3 ∧ (atSlot 2 [] []).NothingDue 3 := ⟨by constructor <;> decide +kernel, by constructor <;> decide +kernel⟩
theorem witness_PassMark_canonical : (atSlot 2 [] []).Canonical := by constructor <;> decide +kernel
theorem witness_PassMark_increments : (atSlot 2 [(.stampInterp, 3, 2)] []).rdN .stampInterp 3 = (atSlot 2 [] []).pass + 1 ∧
    (atSlot 2 [] []).rdN .stampInterp 3 ≠ (atSlot 2 [] []).pass + 1 := by decide +kernel
theorem witness_StaleIncrement : (mark 5 [(.incMissed, 63, 3), (.AXIS_STATE, 63, 2)]).atMark = true ∧ 3 ≤ (mark 5 [(.incMissed, 63, 3)]).rd .incMissed 63 ∧
    (mark 5 [(.AXIS_STATE, 63, 2)]).rd .AXIS_STATE 63 = 2 ∧ (mark 5 [(.DRIVE_STATE, 63, 1)]).rd .DRIVE_STATE 63 = 1 := by decide +kernel

/-- The slot word of program 5 for axis 3 on engine 7, from START `b`. -/
def progWord (b : Nat) : Word64 := PSlot.word ⟨7, b, 200, 5, 3, 5, 0, 0, 0⟩
/-- Pass 1 with that slot in bank A, and a plan loading. -/
def plan (b : Nat) (l : List (Reg × Nat × Int)) : State :=
  { mid ([(.planPlaced, 0, 1)] ++ l) with bankA := [progWord b], progs := [prog5], loading := some [slotWord 1] }
theorem witness_ProgramsStart : let s := plan 8000 [];
    s.kindRuns 5 = true ∧ s.activeBank.getD 0 0 = progWord 8000 ∧ slotKind (progWord 8000) = 5 ∧ s.slotDue 0 (progWord 8000) = true ∧ s.run (.engine 7) = none ∧
    findProg s.progs (slotProg (progWord 8000)) = some prog5 ∧ s.armed 2 0 = none ∧ s.armed 4 7 = none ∧ s.armed 5 7 = none := by decide +kernel
/-- The cycle in which the trip program of axis 3 starts. -/
def tripDue (m p : Int) : State := plan 8000 [(.DEVICE_TIME, 0, 6037), (.MODE, 0, m), (.TRIP_PROG, 3, p)]
theorem witness_ProgramsStart_trip : ∀ m : Fin 2, let s := tripDue (8 + m.val) 5;
    s.rd .planPlaced 0 = 1 ∧ 2 ≤ s.mode ∧ s.rdN .tripAt 3 ≠ s.pass + 1 ∧ s.run .trip = none ∧
    s.now = s.rdN .PASS_MARK_TIME 0 + (1700 + 125 * 3) / 2 ∧ findProg s.progs (s.rdN .TRIP_PROG 3) = some prog5 ∧
    findProg (tripDue 8 6).progs ((tripDue 8 6).rdN .TRIP_PROG 3) = none ∧ s.mode = 8 + m.val := by decide +kernel
theorem witness_Slots_cutOff : let s := (plan 7800 []).setRun (.engine 7) (some (runOf (.oNop .trip)));
    slotRuns (progWord 7800) s.pass = true ∧ s.rd .ENGINE_STATE 7 < 3 ∧ s.stillRuns 0 (progWord 7800) = true ∧
    2 * s.rdN .PASS_MARK_TIME 0 + slotStart (progWord 7800) + slotBudget (progWord 7800) ≤ 2 * s.now ∧
    s.rd .ENGINE_OVERRUNS 7 + 1 < 2 ^ 32 ∧ s.rdN .slotAt 0 ≠ s.pass + 1 ∧ s.rd .loadKind 0 = 0 ∧
    (plan 7800 [(.loadKind, 0, 1)]).rd .loadKind 0 ≠ 0 := by decide +kernel
/-- The same at the mark, with a load of kind `k` ended. -/
def loadEnds (k : Int) : State := { mark 5 [(.loadKind, 0, k)] with bankA := [progWord 0], loading := some [slotWord 1], fallback := [(7, [slotWord 2])] }
theorem witness_Engines : (loadEnds 1).loaded 1 = true ∧ (loadEnds 2).loaded 2 = true ∧ (loadEnds 3).loaded 3 = true ∧
    (loadEnds 1).loading = some [slotWord 1] ∧ (loadEnds 1).rd .REPLACE_COUNT 0 + 1 < 2 ^ 32 ∧ (loadEnds 0).bit .REDUNDANCY 0 (16 + 7) = false ∧
    (loadEnds 0).rd .loadKind 0 ≠ 1 ∧ carries (loadEnds 0).activeBank 7 = true ∧
    (loadEnds 0).fallback.find? (fun p => p.1 = 7) = some (7, [slotWord 2]) ∧ (plan 0 []).fallback.find? (fun p => p.1 = 7) = none ∧
    (plan 0 [(.planBuild, 0, 1)]).rd .planBuild 0 ≠ 0 ∧ (plan 0 []).rd .loadKind 0 = 0 ∧
    (late [(.selfTest, 0, 8), (.selfTestAt, 0, 0)]).rdN .selfTest 0 = (7 : Fin 8) + 1 ∧ (late [(.selfTestAt, 0, 0)]).rdN .selfTestAt 0 + 100000 ≤ (late []).now ∧
    (late []).armed 4 7 = none ∧ (late []).armed 5 7 = none ∧ (late [(.REDUNDANCY_POLICY, 0, 0)]).rd .REDUNDANCY_POLICY 0 = 0 ∧
    (late []).armed 1 (64 * 63 + 63) = none ∧ (late []).covered (blkAxis 63) 7 = false := by decide +kernel
theorem witness_Exhausted : carries (plan 0 []).activeBank 7 = true ∧ (plan 0 [(.AXIS_USE, 3, 1), (.REDUNDANCY, 0, 2 ^ 23 - 2 ^ 16)]).buildFallback.any (fun p => p.1 = 7) = false := by decide +kernel

-- redundant parts, queues

theorem witness_Parts : (mid [(.REDUNDANCY, 0, 31)]).bit .REDUNDANCY 0 1 = true ∧ (mid [(.REDUNDANCY, 0, 31)]).bit .REDUNDANCY 0 (3 + 1) = true ∧
    (mid [(.REDUNDANCY, 0, 31)]).bit .REDUNDANCY 0 2 = true ∧ (mid [(.REDUNDANCY, 0, 0)]).bit .REDUNDANCY 0 0 = false ∧ (mid []).rd .tsOut 0 = 0 ∧
    (mid [(.planPlaced, 0, 1)]).rd .planPlaced 0 = 1 ∧ (mid [(.tsTest, 0, 1)]).rd .tsTest 0 ≠ 0 ∧ (mid []).bit .flashBad 0 1 = false ∧
    (mid []).armed 3 7 = none ∧ (mid []).bit .REDUNDANCY 0 8 = false ∧ (mid []).mode ≠ 0 ∧ (mid [(.takeover, 0, 1)]).rd .takeover 0 ≠ 0 := by decide +kernel
theorem witness_Parts_mismatch : let s := (plan 0 [(.REDUNDANCY, 0, 2 ^ 9)]).setRun .trip (some (runOf (.oNop .trip)));
    s.rd .tsOut 0 = 0 ∧ s.rd .planPlaced 0 = 1 ∧ s.bit .REDUNDANCY 0 9 = true ∧ s.rd .tsTest 0 = 0 ∧ s.run .trip = some (runOf (.oNop .trip)) ∧
    (runOf (.oNop .trip)).ctx = 3 ∧ (runOf (.oNop .trip)).stores ≠ [] := by decide +kernel
theorem witness_QueueFaults : (mid []).rd .RESETS 79 + 1 < 2 ^ 32 ∧ (mid []).armed 8 79 = none ∧ 0 + 16 < (mid [(.BASIN_WORDS, 79, 16)]).capacity 79 ∧
    (mid []).armed 3 ((mid []).rdN .BASIN_BANK 79) = none := by decide +kernel

-- the ring

/-- Node 7 with both ring links up, room in its queues, and head 2 served on LP. -/
def node (l : List (Reg × Nat × Int)) : State :=
  late ([(.NODE_NUMBER, 0, 7), (.LINK, 0, 2), (.LINK, 1, 2), (.LINK, 2, 2), (.WRAPPED, 0, 0), (.WRAPPED, 1, 0), (.GATEWAY_HEAD, 0, 2), (.BASIN_WORDS, 64, 512),
    (.BASIN_WORDS, 65, 512), (.BASIN_WORDS, 66, 512), (.BASIN_WORDS, 67, 512), (.BASIN_WORDS, 68, 512), (.BASIN_WORDS, 69, 512), (.BASIN_WORDS, 70, 512),
    (.BASIN_WORDS, 71, 512)] ++ l)
/-- A READ request of head 0 to node `d`. -/
def ask (d : Nat) : Frame := fr 0 opRead d 0x400 []
theorem witness_FrameArrival : isTimeFrame (ask 8) = false ∧ (node []).mode ≠ 0 ∧ (node []).rd .LINK 1 ≠ 0 ∧ (ask 8).ether = true ∧ (ask 8).version = 1 ∧
    validAddr (ask 8).dest = true ∧ validAddr (ask 8).src = true ∧ (node []).rd .FRAMES_IN 1 + 1 < 2 ^ 64 ∧
    (node []).lapEnds 0 (fr 1 opRead 0x400 7 []) = true ∧ (node []).lapEnds 0 (ask 8) = false ∧ (node []).isOwn (ask 8).dest = false ∧
    (node []).served ≠ some (ask 8).dest ∧ isSweep (ask 8) = false ∧ (node []).noteFollowers (ask 8) = [] ∧ (node []).portDown 1 = false ∧
    (node [(.WRAPPED, 1, 1)]).portDown 1 = true ∧ (ask 8).wraps ≠ 2 ∧ { ask 8 with wraps := 2 }.wraps = 2 ∧ (node []).isOwn (ask 7).dest = true ∧
    (ask 7).data = [] ∧ (ask 7).reserved = false ∧ (ask 7).carried = true := by decide +kernel
theorem witness_Rooms : ∀ q ∈ [64, 65, 66, 67, 68, 69, 70, 71], (node []).Room q (.frame (ask 8)) ∧ (node []).Room q (.frame sweepFrame) ∧
    (node []).Room q (.frame ((node []).probeFrame 1 [1, 2, 3])) := by
  intro q hq
  refine ⟨⟨?_, ?_⟩, ⟨?_, ?_⟩, ?_, ?_⟩ <;> revert q <;> decide +kernel
theorem witness_FrameForUs : (node []).Takes ⟨(node []).now, 0, 0x400, 9, false⟩ opRead 0x1010 1 [] := takes_spec (by decide +kernel)
theorem witness_Sweep : isSweep sweepFrame = true ∧ (node []).lapEnds 0 sweepFrame = false ∧ (node []).rd .NODE_NUMBER 0 = 7 ∧ 7 / 512 = byteAt sweepFrame.data 0 ∧
    bitAt sweepFrame.data 1032 (7 % 512) = false ∧ (node []).rd .SWEEPS 0 + 1 < 2 ^ 64 ∧ (node []).rd .hopSlow 0 = 0 ∧ sweepFrame.enum = true ∧
    (node [(.NODE_MODE, 0, 0)]).rd .NODE_MODE 0 = 0 ∧ (node [(.NODE_NUMBER, 0, 0xFFFF)]).rd .NODE_NUMBER 0 = 0xFFFF ∧
    byteAt sweepFrame.data 2 + 256 * byteAt sweepFrame.data 3 < 1024 := by decide +kernel
/-- Axis 63 follows stream 1 of node 0x123. -/
def follows : State := node [(.FOLLOW_SOURCE, 63, 4), (.SOURCE_NODE, 63, 0x123), (.SOURCE_NUM, 63, 1)]
theorem witness_Note : noteFrame.op = opNote ∧ noteFrame.kind = 2 ∧ follows.noteFollowers noteFrame = [63] ∧ follows.rd .NOTES_TAKEN 0 + 1 < 2 ^ 64 ∧
    (∀ y ∈ follows.samples 63, y.t < (noteSample noteFrame).t) ∧ follows.playAt 63 follows.now ≤ ((noteSample noteFrame).t : Int) * 2 ^ 32 := by decide +kernel
theorem witness_TimeFrame : isTimeFrame timeFrame = true ∧ timeFrame.kind = 2 ∧ timeFrame.src = 0x400 + 0 ∧ timeFrame.data.length = 16 ∧
    (node []).rd .TIME_FRAMES 0 + 1 < 2 ^ 64 ∧ (∀ k, k < 3 → (node []).rd .headAt k = 0 ∨ (node []).rdN .headAt k + second ≤ (node []).now + 1) ∧
    (node []).rd .SYNC_STATE 0 = 0 ∧ { timeFrame with src := 0x403 }.src = 0x400 + 3 := by decide +kernel
/-- A reply to head 0, a reply to the head on LP, and a request of that head. -/
def sends (f : Frame) : State := { node [] with queues := [(71, { Queue.empty with pkts := [.frame f] })] }
theorem witness_OwnFrames : (sends (fr 1 opRead 0x400 7 [])).headFrame = some (fr 1 opRead 0x400 7 []) ∧
    (sends (fr 1 opRead 0x402 7 [])).headFrame = some (fr 1 opRead 0x402 7 []) ∧ (node []).served = some 0x402 ∧ (node []).rd .LINK 2 ≠ 0 ∧
    (node [(.LINK, 1, 0)]).portDown 1 = true ∧ (node [(.LINK, 1, 0)]).portDown 0 = false ∧ (node []).fromServed (fr 0 opRead 8 0x402 []) = true ∧
    (node []).rd .FRAMES_IN 2 + 1 < 2 ^ 64 ∧ tget none (node []).gateway 9 = none := by decide +kernel
theorem witness_Gateway : tget none { node [] with gateway := [(127, some ⟨ask 8, 5, 0⟩)] }.gateway 127 = some ⟨ask 8, 5, 0⟩ ∧ 5 < (node []).now ∧
    0 < (node [(.GW_RETRIES, 0, 1)]).rdN .GW_RETRIES 0 ∧ (node [(.GW_RETRIES, 0, 0)]).rdN .GW_RETRIES 0 ≤ 0 ∧ (node []).rd .GW_RETRIES_SENT 0 + 1 < 2 ^ 32 ∧
    (node []).rd .GW_GIVEN_UP 0 + 1 < 2 ^ 32 := by decide +kernel
theorem witness_Links : (node []).rd .LINK_LOSSES 1 + 1 < 2 ^ 32 ∧ (node []).rd .ABANDONED 1 + 1 < 2 ^ 32 ∧ (node [(.LINK, 2, 0)]).rd .LINK 2 = 0 ∧
    (node [(.LINK, 1, 1), (.linkAt, 1, 1)]).rd .LINK 1 = 1 ∧ (node [(.linkAt, 1, 1)]).rdN .linkAt 1 + 100000 * (node []).rdN .LINK_HOLD 0 ≤ (node []).now + 1 ∧
    (node [(.WRAPPED, 1, 1)]).rd .WRAPPED 1 = 1 ∧ (node []).rd .probeAt 2 = 0 ∧ (node [(.probeAt, 2, 1)]).rdN .probeAt 2 + second ≤ (node []).now + 1 ∧
    (node []).rd .takeover 0 ≠ 1 ∧ (node []).rd .bootStuck 0 ≠ 1 ∧ (node [(.probeAt, 2, 1)]).rd .probeAt 2 ≠ 0 ∧
    (node [(.headAt, 3, 199999999)]).rd .headAt 3 ≠ 0 ∧ (node []).now + 1 < (node [(.headAt, 3, 199999999)]).rdN .headAt 3 + second ∧
    ¬ (node []).rd .headAt 2 ≠ 0 := by decide +kernel

-- modes

theorem witness_Resets : (mid [(.PLL_IN_USE, 0, 1)]).rd .PLL_IN_USE 0 = 1 ∧ (mid []).rd .imgBusy 0 = 0 ∧
    (mid [(.resetDue, 0, 1), (.resetSent, 0, 9000)]).rd .resetDue 0 ≠ 0 ∧ (mid [(.resetSent, 0, 9000)]).rd .resetSent 0 ≠ 0 ∧
    (mid [(.resetSent, 0, 9000)]).rdN .resetSent 0 ≤ (mid []).now ∧ (late [(.resetDue, 0, 1)]).rdN .resetDue 0 + 300000 ≤ (late []).now + 1 := by decide +kernel
/-- Flash with a committed set that uses axis 63, before reset is released. -/
def powered : State := { State.reset with flash := [(0, ⟨true, [(Reg.key .AXIS_USE 63, 1)], [(Reg.key .CAL_OFS 0, 3)], false⟩)] }
theorem witness_ResetRelease : powered.mode = 0 ∧ powered.rd .pllLocked 0 ≠ 1 := by decide +kernel
theorem witness_FlashHoldsSets : powered.FlashHoldsSets := by
  intro p hp
  have : p = (0, ⟨true, [(Reg.key .AXIS_USE 63, 1)], [(Reg.key .CAL_OFS 0, 3)], false⟩) := by simpa [powered] using hp
  subst this
  exact ⟨by decide +kernel, by decide +kernel⟩
theorem witness_BootEnd : (mark 1 []).mode = 1 ∧ (mark 1 []).atMark = true ∧ (mark 1 []).rd .bootStuck 0 ≠ 1 ∧ (mark 1 []).rd .flashRead 0 ≠ 0 ∧
    (mark 1 []).bootDiagDone 0 = true ∧ (mark 1 [(.DIAG_RESULT, 63, 5)]).bootDiagDone 128 = true ∧ (mark 1 [(.LOCKOUT_FLAG, 0, 1)]).rd .LOCKOUT_FLAG 0 = 1 ∧
    (mark 1 []).rd .LOCKOUT_FLAG 0 ≠ 1 := by decide +kernel
theorem witness_Modes_armed : (mark 4 []).atMark = true ∧ (mark 4 []).mode = 4 ∧ (mark 4 []).rd .ARM_STATE 0 = 0 ∧ (mark 4 []).rdN .MODE_TIME 0 < (mark 4 []).now ∧
    (∀ n, n < 64 → (mark 4 []).diagBusy n = false ∧ ((mark 4 []).rd .DIAG_TIME n = 0 ∨ (mark 4 []).rdN .DIAG_TIME n < (mark 4 []).now)) ∧
    (mark 4 []).modeFree = true ∧ (mark 4 [(.AUTO_RUN, 0, 1)]).rd .AUTO_RUN 0 = 1 ∧ (mark 4 [(.armAuto, 0, 1)]).rd .armAuto 0 = 1 ∧
    (mark 4 [(.ARM_STATE, 0, 1)]).rd .ARM_STATE 0 = 1 ∧ (mark 4 []).rdN .armAt 0 < (mark 4 []).now ∧ (mark 4 []).standbyDue = false ∧
    (mark 4 []).rd .busUvOn 0 ≠ 1 ∧ (mark 4 [(.RUN_ENABLE, 0, 1)]).rd .RUN_ENABLE 0 = 1 ∧
    (mark 4 [(.AXIS_USE, 63, 1), (.AXIS_STATE, 63, 7), (.DIAG_RESULT, 63, 1), (.ENA_STATE, 0, 7), (.BUS_VM, 0, 2400)]).driveBlock 63 = 0 ∧
    (mark 4 [(.AXIS_STATE, 63, 7)]).rd .AXIS_STATE 63 = 7 := by decide +kernel
theorem witness_Modes_island : (late [(.ISLAND_TIMEOUT, 0, 1)]).modeFree = true ∧ (late [(.ISLAND_TIMEOUT, 0, 1)]).islandDue = true ∧
    (late [(.MODE, 0, 7)]).mode = 7 ∧ (late []).mode ≠ 7 ∧ (late []).rd .ISLAND_COUNT 0 + 1 < 2 ^ 32 ∧
    (∀ k : Fin 4, (late [(.ISLAND_ACTION, 0, k.val)]).rd .ISLAND_ACTION 0 = k.val) ∧ (late [(.AXIS_STATE, 63, 4)]).rd .AXIS_STATE 63 = 4 ∧
    (late [(.MODE, 0, 8)]).mode = 8 ∧ (late []).rd .contactPending 0 = 0 ∧ (late []).rd .tripPending 0 = 0 ∧
    (late [(.islandMark, 0, 0), (.ISLAND_HOLD, 0, 100)]).rdN .islandMark 0 + 100000 * (late [(.ISLAND_HOLD, 0, 100)]).rdN .ISLAND_HOLD 0 ≤ (late []).now := by decide +kernel
theorem witness_Modes_safe : (late [(.tripPending, 0, 8), (.tripFrom, 0, 199999999)]).modeTaken = false ∧ (late []).rd .lockoutPending 0 = 0 ∧
    (late [(.tripPending, 0, 8)]).rd .tripPending 0 ≠ 0 ∧ (late [(.tripFrom, 0, 199999999)]).rdN .tripFrom 0 < (late []).now ∧ (late []).mode ∈ tripModes ∧
    (late []).rd .SAFE_COUNT 0 + 1 < 2 ^ 32 ∧ (late []).rd .AXIS_STATE 3 ≠ 1 ∧ (late [(.AXIS_STATE, 3, 4)]).rd .AXIS_STATE 3 < 5 ∧
    (late [(.TRIP_LIMIT, 0, 1)]).rdN .TRIP_LIMIT 0 ≠ 0 ∧ (late [(.TRIP_LIMIT, 0, 1)]).rdN .TRIP_LIMIT 0 ≤ (late []).recentSafes.length + 1 ∧
    (late [(.TRIP_LIMIT, 0, 0)]).rdN .TRIP_LIMIT 0 = 0 := by decide +kernel
theorem witness_Modes_standby : (mark 9 [(.STANDBY_AUTO, 0, 1), (.standbySince, 0, 1), (.STANDBY_DELAY, 0, 0)]).modeFree = true ∧
    (mark 9 [(.STANDBY_AUTO, 0, 1), (.standbySince, 0, 1), (.STANDBY_DELAY, 0, 0)]).standbyDue = true ∧ (mark 9 [(.DRIVE_STATE, 63, 1)]).rd .DRIVE_STATE 63 = 1 ∧
    (mark 11 []).modeFree = true ∧ (mark 11 []).mode = 11 ∧ (mark 11 [(.STANDBY_ORIGIN, 0, 2)]).rd .STANDBY_ORIGIN 0 = 2 ∧
    (mark 11 [(.wakeSince, 0, 1)]).rd .wakeSince 0 ≠ 0 ∧
    (mark 11 [(.wakeSince, 0, 1), (.WAKE_DELAY, 0, 0)]).rdN .wakeSince 0 + 100000 * (mark 11 [(.WAKE_DELAY, 0, 0)]).rdN .WAKE_DELAY 0 ≤ (mark 11 []).now + 1 := by
  decide +kernel

-- the log, the trace, checks

def someRec : Rec := ⟨0, 1, 0x60, 1, false, false, false, false, true, true, 1, 0, 0, 0⟩
/-- A record in Q72 and a word in Q73. -/
def logs (l : List (Reg × Nat × Int)) : State :=
  { late l with queues := [(72, { Queue.empty with pkts := [.record someRec] }), (73, { Queue.empty with pkts := [.words [5]] })]
                shadows := [⟨1, 0x61, 1, [], .time 5⟩] }
theorem witness_Log : (logs []).rd .takeover 0 ≠ 1 ∧ (logs []).rd .bootStuck 0 ≠ 1 ∧ (logs []).mode ≠ 0 ∧ (logs []).poppable 72 ≠ 0 ∧
    ((logs []).queue 72).pkts = .record someRec :: [] ∧ (logs []).log.length < 4096 ∧ (logs []).rd .LOG_WRAPPED 0 + 1 < 2 ^ 32 ∧ (logs []).atMark = true ∧
    (logs [(.INCIDENT_OPEN, 0, 1)]).rd .INCIDENT_OPEN 0 = 1 ∧
    (logs [(.incidentPass, 0, 1)]).rdN .incidentPass 0 + (logs []).rdN .INCIDENT_QUIET 0 ≤ (logs []).pass ∧
    (logs [(.HEAD_FIRST, 0, 3), (.HEAD_LAST, 0, 4), (.ACK_ORDINAL, 0, 4)]).rd .HEAD_FIRST 0 ≠ 0 ∧
    (logs [(.HEAD_LAST, 0, 4), (.ACK_ORDINAL, 0, 4)]).rd .HEAD_LAST 0 ≤ (logs [(.ACK_ORDINAL, 0, 4)]).rd .ACK_ORDINAL 0 ∧
    (logs []).rd .ACK_ORDINAL 0 < (logs [(.HEAD_LAST, 0, 4)]).rd .HEAD_LAST 0 ∧
    (logs []).shadows.find? (fun y => y.first = 1) = some ⟨1, 0x61, 1, [], .time 5⟩ ∧ (logs []).shadowDue ⟨1, 0x61, 1, [], .time 5⟩ = true := by decide +kernel
theorem witness_FullLog : 4096 ≤ { logs [] with log := List.replicate 4096 someRec }.log.length := by
  exact Nat.le_of_eq (List.length_replicate (n := 4096) (a := someRec)).symm
theorem witness_Trace : (∀ d : Fin 3, (logs [(.TRACE_DEST, 0, d.val + 1)]).rd .TRACE_DEST 0 ≠ 0) ∧ (logs []).mode ≠ 11 ∧ (logs []).rdN .traceNext 0 ≤ (logs []).now ∧
    (logs []).poppable 73 ≠ 0 ∧ ((logs []).queue 73).pkts = .words [5] :: [] ∧ (logs [(.dropPending, 0, 9)]).rd .dropPending 0 ≠ 0 ∧
    ¬ (((logs []).queue 73).pushAt = (logs []).now ∧ ((logs []).queue 73).fresh ≠ 0) := by decide +kernel
theorem witness_DropRoom : (logs []).Room 73 (.words [0]) := ⟨by decide +kernel, by decide +kernel⟩
theorem witness_Checks : (late []).rd .railOn (railOf 7 true) = 0 ∧ (late []).stuck 7 true = false ∧ (late []).armed 7 7 = none ∧ (late []).covered (blkDie 7) 8 = false ∧
    (late [(.railOn, 15, 1)]).rd .railOn (railOf 7 true) ≠ 0 ∧ (late [(.railOn, 15, 1)]).rdN .railOn (railOf 7 true) + 400 ≤ (late []).now + 1 ∧
    (late []).rd .railStuck 7 = 0 ∧ (late []).covered (blkDie 7) 3 = false ∧ (late []).armed 6 7 = none ∧ (late [(.INJECT_STATE, 0, 1)]).rd .INJECT_STATE 0 = 1 ∧
    (late [(.injectAt, 0, 100000000)]).rdN .injectAt 0 + second ≤ (late []).now ∧ (late []).rd .TRIPI_LEVEL 0 ≠ 1 ∧ (late []).rd .TRIPI_COUNT 0 + 1 < 2 ^ 32 ∧
    (late [(.TRIPI_MODE, 0, 1)]).rd .TRIPI_MODE 0 = 1 := by decide +kernel

-- transactions

/-- RUN, with tag 5 in the state `x`. -/
def tagged (m : Int) (x : TagSt) : State := { st m [] with tags := [(5, x)] }
def ours : TagSt := ⟨some ((st 5 []).digest hd opWrite 0x1500 1 [1]), true, some (ask 8)⟩
theorem witness_Transactions : (tagged 5 ours).answering = true ∧ (tagged 0 ours).answering = false ∧
    ((tagged 5 ours).tagSt 5).digest = some ((tagged 5 ours).digest hd opWrite 0x1500 1 [1]) ∧ ((tagged 5 ours).tagSt 5).busy = true ∧
    ((tagged 5 { ours with busy := false }).tagSt 5).busy = false ∧ ((tagged 5 ours).tagSt 5).reply = some (ask 8) ∧
    ((tagged 5 ⟨some 1, true, none⟩).tagSt 5).digest ≠ some ((tagged 5 ours).digest hd opWrite 0x1500 1 [1]) ∧ (tagged 10 ours).mode = 10 ∧ hd.port ≠ 2 ∧
    (tagged 1 ours).mode = 1 := by decide +kernel
theorem witness_Reads : (st 5 []).Takes hd opRead 0x1010 1 [] ∧ (st 5 []).Takes hd opReadBlock 0x1010 1 (leBytes 1 255) ∧
    (st 10 []).Takes hd opRead 0x1010 1 [] ∧ (st 2 []).Takes hd opCommit 0 0 [] ∧ (st 10 []).Takes { hd with port := 2 } opWrite 0x1004 4 [1] :=
  ⟨takes_spec (by decide +kernel), takes_spec (by decide +kernel), takes_spec (by decide +kernel), takes_spec (by decide +kernel), takes_spec (by decide +kernel)⟩
/-- CONFIGURE, axis 3 with an event. -/
def config : State := st 2 [(.AXIS_EVENTS, 3, 3)]
def w (s : State) (op idx sub : Nat) (bs : List Byte) : State := s.taken hd op idx sub bs
theorem witness_Writes : config.Takes hd opWrite (axisIdx 0x00 3) 1 [1] := takes_spec (by decide +kernel)
theorem witness_Writes_codes : (w config opWrite 0x1010 1 [1]).writeCode 0x1010 1 [1] = 3 ∧
    ((objects.find? (fun o => o.reg = .AXIS_USE)).any (fun o => (w config opWrite (o.index 3) (o.subindex 3) [1]).writeCode (o.index 3) (o.subindex 3) [1] = 0 &&
      o.acc = .rwc && decide (config.objAt (o.index 3) (o.subindex 3) = some (o, 3)))) = true ∧
    ((objects.find? (fun o => o.reg = .AXIS_EVENTS)).any (fun o => let bs := leBytes o.ty.size 1
      (w config opWrite (o.index 3) (o.subindex 3) bs).writeCode (o.index 3) (o.subindex 3) bs = 0 &&
      o.acc = .w1c && decide (config.objAt (o.index 3) (o.subindex 3) = some (o, 3)))) = true := by decide +kernel
/-- How the block `bs` at `idx`:`sub` fares on the state that finds it. -/
def block (s : State) (idx sub : Nat) (bs : List Byte) : Answer :=
  let w := w s opWriteBlock idx sub bs
  (w.writeAll idx (w.cut idx (bs.length + 1) sub bs) w).2
theorem witness_WriteBlock : config.Takes hd opWriteBlock 0x1010 1 [1] ∧ config.Takes hd opWriteBlock 0x1010 1 [] ∧
    config.Takes hd opWriteBlock 0x1010 1 (List.replicate 1025 0) ∧ config.Takes hd opWriteBlock 0x1001 4 [1, 7] :=
  ⟨takes_spec (by decide +kernel), takes_spec (by decide +kernel), takes_spec (by decide +kernel), takes_spec (by decide +kernel)⟩
/-- A block of two values of 0x2005 of which the second is refused after the first is taken (R350). -/
theorem witness_WriteBlock_refused : let s := st 5 [(.INJECT_ENABLE, 0, 1)]; let bs := leBytes 4 (200 * 2 ^ 24) ++ [1]; let w := w s opWriteBlock 0x2005 2 bs;
    w.cut 0x2005 (bs.length + 1) 2 bs = [(2, leBytes 4 (200 * 2 ^ 24))] ++ (3, [1]) :: [] ∧
    (w.writeAll 0x2005 [(2, leBytes 4 (200 * 2 ^ 24))] w).2 = .done 0 [] ∧
    (w.writeAll 0x2005 [(2, leBytes 4 (200 * 2 ^ 24))] w).1.writeCode 0x2005 3 [1] ≠ 0 := by decide +kernel
theorem witness_WriteBlock_staged : ((objects.find? (fun o => o.reg = .AXIS_USE)).any (fun o =>
      takes config hd opWriteBlock (o.index 3) (o.subindex 3) [1] && decide (block config (o.index 3) (o.subindex 3) [1] = .done 0 []) &&
      ((w config opWriteBlock (o.index 3) (o.subindex 3) [1]).cut (o.index 3) 2 (o.subindex 3) [1]).all (fun p =>
        (config.objAt (o.index 3) p.1).any (fun q => q.1.acc = .rwc)))) = true := by decide +kernel
theorem witness_LockoutClear : (w (st 10 []) opWrite 0x1004 4 [1]).writeCode 0x1004 4 [1] = 0 ∧ (st 10 []).rd .clearPending 0 ≠ 1 := by decide +kernel
theorem witness_W1c : ((objects.find? (fun o => o.reg = .AXIS_EVENTS)).any (fun o => let s := (st 5 []).raise o.reg 3 5; let bs := leBytes o.ty.size 0xFF
    o.acc = .w1c && decide (s.objAt (o.index 3) (o.subindex 3) = some (o, 3)) && decide ((s.takeUp { hd with t := 0 }).now = s.now) &&
    takes s { hd with t := 0 } opWrite (o.index 3) (o.subindex 3) bs &&
    decide ((s.taken { hd with t := 0 } opWrite (o.index 3) (o.subindex 3) bs).writeCode (o.index 3) (o.subindex 3) bs = 0))) = true := by decide +kernel

-- COMMIT, images, swap

/-- CONFIGURE, with `l` staged. -/
def staging (l : Tbl (Option Int)) : State := { st 2 [] with staged := l }
theorem witness_Commit : (staging []).rd .commitRun 0 ≠ 1 ∧ (staging [(Reg.key .AXIS_USE 0, some 1)]).staged ≠ [] ∧ (staging []).mode = 2 ∧
    (st 2 [(.commitRun, 0, 1)]).rd .commitRun 0 = 1 ∧ (st 5 []).mode ≠ 2 := by decide +kernel
theorem witness_Commit_takes : (staging [(Reg.key .AXIS_USE 0, some 1)]).Takes hd opCommit 0 0 [] := takes_spec (by decide +kernel)
theorem witness_Commit_passes :
    (match (w (staging [(Reg.key .SOFT_MAX 0, some 5)]) opCommit 0 0 []).tryCommit with | .inr _ => true | .inl _ => false) = true := by decide +kernel
theorem witness_Commit_fails :
    (match (w (staging [(Reg.key .PLAN_IMAGE 0, some 7)]) opCommit 0 0 []).tryCommit with | .inr _ => false | .inl _ => true) = true := by decide +kernel
/-- A new set that waits for its mark. -/
def newSet : NewSet := ⟨false, [(Reg.key .SOFT_MAX 0, 5)], [slotWord 1], [], [], [], 7, true⟩
def commits : State := { mark 2 [(.commitRun, 0, 1), (.loadEnd, 0, 5000)] with newSet := some newSet, deferred := [⟨hd, opCommit, 0, 0⟩] }
theorem witness_CommitTakesEffect : commits.newSet = some newSet ∧ commits.atMark = true ∧ commits.rd .commitRun 0 = 1 ∧ commits.rdN .loadEnd 0 ≤ commits.now ∧
    (Reg.obj .SOFT_MAX).any (fun o => decide (o.acc = .rwc)) = true ∧
    newSet.config.reverse.find? (fun p => keyReg p.1 = (Reg.SOFT_MAX, 0)) = some (Reg.key .SOFT_MAX 0, 5) := by decide +kernel
theorem witness_ImageCloseDone : (mid [(.imgBusy, 0, 1)]).rd .imgBusy 0 ≠ 0 ∧ imageGround 3 200 (List.replicate 200 0) = some (1, 0) := by decide +kernel
theorem witness_Swap : (mark 9 [(.SWAP_STATE, 0, 1)]).atMark = true ∧ (mark 9 [(.SWAP_STATE, 0, 1)]).rd .SWAP_STATE 0 ≠ 0 ∧ (mark 9 []).mode = 9 ∧
    (mark 7 []).mode = 7 ∧ (mark 7 []).rdN .MODE_TIME 0 < (mark 7 []).now ∧
    (match (mark 7 []).trySwap 7 with | .inl _ => true | .inr _ => false) = true := by decide +kernel
theorem witness_Swap_passes : (match (mark 7 []).trySwap 9 with | .inl _ => false | .inr _ => true) = true := by decide +kernel

-- two rules

theorem witness_PassesLastFiveThousandCycles : (mid []).now < (mid []).rdN .PASS_MARK_TIME 0 + 5000 ∧ (mid []).rd .pllLocked 0 ≠ 0 ∧ (mid []).mode ≠ 0 := by
  decide +kernel
theorem witness_CommandTimesStayWithinThePass : (mid []).rd .pllLocked 0 = 1 ∧ (mid []).now ≤ (mid []).rdN .PASS_MARK_TIME 0 + 4999 := by
  decide +kernel
theorem witness_EveryIndexTellsItsSubindices : (st 5 []).indexOk 0xC000 = false ∧ (st 5 []).indexOk 0x6405 = false ∧ (st 5 []).indexOk 0x5050 = false ∧
    (st 5 []).indexOk 0x1010 = true ∧ (st 5 []).indexOk 0xBF00 = true ∧ (st 5 []).objAt 0x1010 255 = none ∧ (st 5 []).objAt 0x5000 2 = none ∧
    (st 5 []).indexOk 0x5000 = true := by decide +kernel
theorem witness_Refusals : (st 5 []).Takes hd opRead 0x5000 2 [] ∧ (st 5 []).Takes hd opWrite 0xC000 0 [] ∧ (st 5 []).Takes hd opReadBlock 0x5000 2 [1] ∧
    (st 5 []).Takes hd opWriteBlock 0xC000 1 [1] :=
  ⟨takes_spec (by decide +kernel), takes_spec (by decide +kernel), takes_spec (by decide +kernel), takes_spec (by decide +kernel)⟩

-- worked examples of the spec

/-- The limits of the seven-segment example (03_moves.md). -/
def exLimits : Lim := ⟨204800, 409600, 409600, 1638400⟩
/-- Its move from rest at 0 to 409,600. -/
def exMove : Plan := planTo exLimits ⟨0, 0, 0, 0, 0⟩ (409600 * 65536)
/-- The floor of its position at the mark of pass `p`. -/
def exPos (p : Plan) (k : Nat) : Int := fdiv (p.at (k * passQ)).x 65536
theorem test_sevenSegments : exMove.len = 55000 * passQ ∧ [5000, 10000, 15000, 40000, 45000, 50000, 55000].map (exPos exMove) =
    [4266, 29866, 76800, 332800, 379733, 405333, 409600] := by decide +kernel
theorem test_sevenSegments_states : ([2500, 7500, 12500, 20000, 42000, 47000, 52000].map (fun k => (exMove.at (k * passQ)).seg) = [1, 2, 3, 4, 5, 6, 7]) ∧
    (exMove.at (10000 * passQ)).v = velUnits 153600 ∧ (exMove.at (10000 * passQ)).a = accUnits 409600 := by decide +kernel
/-- The reversal at full speed: at pass 20,000 a new target of 30,720. -/
def exReversal : Plan := planTo exLimits ⟨128000 * 65536, velUnits 204800, 0, 4, 0⟩ (30720 * 65536)
theorem test_reversal : exReversal.len = 42000 * passQ ∧ (exReversal.saddle.map Prod.fst) = some (12500 * passQ) ∧
    (exReversal.saddle.map (fun p => fdiv p.2 65536)) = some 203733 ∧
    [5000, 20000, 25000, 27000, 32000, 37000].map (exPos exReversal) = [174933, 174933, 128000, 107520, 60586, 34986] := by decide +kernel
theorem test_ampCode : ampCode 2828 = 964 ∧ ampCode 3000 = 1023 := by decide +kernel
theorem test_thresholds : (put State.reset [(.AMP_CODE, 5, 964), (.angleQ, 5, 1024 * 65536), (.effBand, 5, 8)]).thresholds 5 0 = (1003, 925) := by decide +kernel

-- frames of events

theorem witness_Frames : ∀ e ∈ [Instr.index 9000 0, .releaseStart 9000 3, .feedbackFoldIn 9000 3 ⟨false, false, .clean⟩, .holdoverEntry 9000, .chopperPeak 9000 3 0, .overcurrent 9000 3 1,
    .busLow 9000 1600, .diagTestStart 9000 0, .feedLost 9000 0 100, .sdramCorrected 9000 0 5, .linkLost 9000 0 true], ∃ u, exec e (mid []) = .next u := by
  simp only [List.mem_cons, List.not_mem_nil, or_false]
  rintro _ (rfl | rfl | rfl | rfl | rfl | rfl | rfl | rfl | rfl | rfl | rfl) <;> exact ⟨_, rfl⟩
theorem witness_Frames_injection : (mid []).rd .INJECT_STATE 0 ≠ 1 := by decide +kernel

end Sys2Proof.Tests
end

section
/-! PROOFS. READ, READ_BLOCK, the WRITEs and WRITE_BLOCK (O51). `State.Quiet` says that nothing has changed but what any request may change; a
request that is taken runs its operation on `State.taken` and answers through `complete'`, and both are quiet, so that each clause is a lemma
about the operation alone: `writeOne` for a value, `writeAll` for a block, by induction over its values. -/
namespace Sys2Proof.Machine

-- bits of numbers

/-- Numbers without a common bit add without a carry. -/
theorem add_eq_or {a b : Nat} (h : a &&& b = 0) : a + b = a ||| b := by
  induction a using Nat.strongRecOn generalizing b with
  | ind a ih =>
    rcases Nat.eq_zero_or_pos a with rfl | ha
    · simp
    · have half : a / 2 + b / 2 = a / 2 ||| b / 2 := ih _ (by omega) (by rw [← Nat.and_div_two, h])
      have parity := Nat.and_mod_two_eq_one (a := a) (b := b)
      rw [h] at parity
      have top : (a ||| b) / 2 = a / 2 ||| b / 2 := Nat.or_div_two
      have low := Nat.or_mod_two_eq_one (a := a) (b := b)
      omega

/-- `x` without the bits of `m`, but for those of `f`. -/
theorem testBit_masked (x m f b : Nat) :
    (x - (x &&& m) + (x &&& m &&& f)).testBit b = (x.testBit b && !(m.testBit b && !f.testBit b)) := by
  have apart : (x &&& m) &&& (x ^^^ (x &&& m)) = 0 := Nat.eq_of_testBit_eq fun i => by
    simp only [Nat.testBit_and, Nat.testBit_xor, Nat.zero_testBit]
    cases x.testBit i <;> cases m.testBit i <;> rfl
  have whole : (x &&& m) ||| (x ^^^ (x &&& m)) = x := Nat.eq_of_testBit_eq fun i => by
    simp only [Nat.testBit_and, Nat.testBit_xor, Nat.testBit_or]
    cases x.testBit i <;> cases m.testBit i <;> rfl
  have rest : x - (x &&& m) = x ^^^ (x &&& m) := by
    have sum := add_eq_or apart
    omega
  have apart' : (x ^^^ (x &&& m)) &&& (x &&& m &&& f) = 0 := by
    rw [← Nat.and_assoc, Nat.and_comm _ (x &&& m), apart, Nat.zero_and]
  rw [rest, add_eq_or apart']
  simp only [Nat.testBit_and, Nat.testBit_xor, Nat.testBit_or]
  cases x.testBit b <;> cases m.testBit b <;> cases f.testBit b <;> rfl

-- the object tables

/-- The rows of the object tables are those of the registers, one each, in their order. -/
theorem objects_regs : objects.map (fun o => o.reg.ctorIdx) = List.range objects.length := by decide +kernel

theorem objects_regs_nodup : (objects.map (fun o => o.reg.ctorIdx)).Nodup := objects_regs ▸ List.nodup_range

theorem w1c_not_requestRegs : ∀ o ∈ objects, o.acc = .w1c → o.reg ∉ requestRegs := by decide +kernel

theorem objAt_congr {s t : State} (h : t.progs = s.progs) (idx sub : Nat) : t.objAt idx sub = s.objAt idx sub := by
  have there : t.indexOk idx = s.indexOk idx := by simp only [State.indexOk, h]
  simp only [State.objAt, State.look, there]

theorem look_of_objAt {s : State} {idx sub : Nat} {o : Obj} {i : Nat} (h : s.objAt idx sub = some (o, i)) : s.look idx sub = .obj o i := by
  unfold State.objAt at h
  split at h
  · next e => cases h; exact e
  · cases h

theorem findObj_of_objAt {s : State} {idx sub : Nat} {o : Obj} {i : Nat} (h : s.objAt idx sub = some (o, i)) : findObj idx sub = some (o, i) := by
  have hl := look_of_objAt h
  unfold State.look at hl
  split_ifs at hl
  split at hl
  · cases hl
  · next found => cases hl; exact found

/-- The unit of `o` at an index. -/
def Obj.unitAt (o : Obj) (idx : Nat) : Nat := if 0x8000 ≤ idx ∧ idx < 0xC000 then (idx - 0x8000) / 256 else idx - o.base

theorem findObj_spec {idx sub : Nat} {o : Obj} {i : Nat} (h : findObj idx sub = some (o, i)) :
    o ∈ objects ∧ o.sub ≤ sub ∧ i = o.unitAt idx * o.nsub + (sub - o.sub) := by
  unfold findObj at h
  unfold Obj.unitAt
  split_ifs at h ⊢
  all_goals
    obtain ⟨o', hf, e⟩ := Option.map_eq_some_iff.mp h
    cases e
    have hp := List.find?_some hf
    simp only [decide_eq_true_eq] at hp
    exact ⟨List.mem_of_find?_eq_some hf, by omega, rfl⟩

/-- Two subindices of one index never name the same register. -/
theorem objAt_key_inj {s : State} {idx a b : Nat} {o q : Obj} {i j : Nat} (ha : s.objAt idx a = some (o, i)) (hb : s.objAt idx b = some (q, j))
    (h : o.reg.key i = q.reg.key j) : a = b := by
  obtain ⟨ho, hoa, hi⟩ := findObj_spec (findObj_of_objAt ha)
  obtain ⟨hq, hqb, hj⟩ := findObj_spec (findObj_of_objAt hb)
  obtain ⟨hr, rfl⟩ := Reg.key_inj.mp h
  obtain rfl : o = q := List.inj_on_of_nodup_map objects_regs_nodup ho hq (congrArg Reg.ctorIdx hr)
  omega

-- what a request costs

/-- From `s` to `t` nothing has changed but what any request may change. -/
structure State.Quiet (s t : State) : Prop where
  regs : s.OnlyRegs t requestRegs
  rest : { t with regs := s.regs, queues := s.queues, tags := s.tags, freeCtr := s.freeCtr, was := s.was } = s

theorem quiet_refl (s : State) : s.Quiet s := ⟨fun _ _ _ => rfl, rfl⟩

theorem State.Quiet.trans {s t u : State} (h : s.Quiet t) (g : t.Quiet u) : s.Quiet u where
  regs r i hr := (g.regs r i hr).trans (h.regs r i hr)
  rest :=
    calc { u with regs := s.regs, queues := s.queues, tags := s.tags, freeCtr := s.freeCtr, was := s.was }
      _ = { t with regs := s.regs, queues := s.queues, tags := s.tags, freeCtr := s.freeCtr, was := s.was } :=
          congrArg (fun x : State =>
            { x with regs := s.regs, queues := s.queues, tags := s.tags, freeCtr := s.freeCtr, was := s.was }) g.rest
      _ = s := h.rest

theorem State.Quiet.ite {s t u : State} {c : Prop} [Decidable c] (ht : s.Quiet t) (hu : s.Quiet u) : s.Quiet (if c then t else u) := by
  split <;> assumption

theorem State.Quiet.ite_fst {α : Type} {s : State} {x y : State × α} {c : Prop} [Decidable c] (hx : s.Quiet x.1) (hy : s.Quiet y.1) :
    s.Quiet (if c then x else y).1 := by
  split <;> assumption

section
variable {s t : State} (h : s.Quiet t)
include h

theorem State.Quiet.staged : t.staged = s.staged := (congrArg State.staged h.rest :)
theorem State.Quiet.progs : t.progs = s.progs := (congrArg State.progs h.rest :)
theorem State.Quiet.rdN (r : Reg) (i : Nat) (hr : r ∉ requestRegs := by decide) : t.rdN r i = s.rdN r i :=
  congrArg Int.toNat (h.regs r i hr)

theorem State.Quiet.wr (r : Reg) (i : Nat) (v : Int) (hr : r ∈ requestRegs := by decide) : s.Quiet (t.wr r i v) where
  regs q j hq := by
    have hne : ¬ (q = r ∧ j = i) := fun e => hq (e.1 ▸ hr)
    rw [State.rd_wr, if_neg hne]
    exact h.regs q j hq
  rest := h.rest

theorem State.Quiet.wrQueue (q : Nat) (x : Queue) : s.Quiet (t.wrQueue q x) := ⟨h.regs, h.rest⟩

theorem State.Quiet.draw (w : Nat) : s.Quiet (t.draw w).2 := ⟨h.regs, h.rest⟩

theorem State.Quiet.count (r : Reg) (i n w : Nat) (hr : r ∈ requestRegs := by decide) : s.Quiet (t.count r i n w) := by
  unfold State.count
  split
  · exact h.wr r i _ hr
  · exact (h.draw w).wr r i _ hr

theorem State.Quiet.tally (k n : Nat) : s.Quiet (t.tally k n) := h.wr .COUNTER k _

theorem State.Quiet.wrTag (k : Nat) (x : TagSt) : s.Quiet (t.wrTag k x) :=
  State.Quiet.wr (t := { t with tags := tset TagSt.free t.tags k x }) ⟨h.regs, h.rest⟩ _ 0 _

theorem State.Quiet.push (q : Nat) (p : Pkt) : s.Quiet (t.push q p).1 := by
  have dropped (n : Nat) : s.Quiet (t.count .REFUSED q n) := h.count .REFUSED q n 32
  have taken (c : Bool) (n : Nat) (x : Queue) := (((State.Quiet.ite (c := c) ((dropped n).wr .REWIND_VALID q 0) (dropped n)).wrQueue q x).count
    .PUSHED q 1 64).count .PACKETS q 1 64
  exact State.Quiet.ite_fst ((dropped _).count .REFUSED q 1 32) (((taken _ _ _).wr .HIGH_WATER q _).wr .COUNTER _ _)

theorem State.Quiet.goOn (k : Nat) : s.Quiet (t.goOn k) := by
  unfold State.goOn
  split
  · exact h.wr _ 0 _
  · exact State.Quiet.wr (t := { t with was := ⟨t.regs, t.ledger⟩ }) ⟨h.regs, h.rest⟩ _ 0 _

theorem State.Quiet.at (k : Nat) : s.Quiet (t.at k) := State.Quiet.ite (h.goOn _) h

theorem State.Quiet.takeUp (hd : Hdr) : s.Quiet (t.takeUp hd) :=
  ((State.Quiet.ite ((h.at _).at _) (h.at _)).wr .reqAt 0 _).wr .reqPort 0 _

theorem State.Quiet.contactAt (e : Nat) : s.Quiet (t.contactAt e) := by
  have met (c : Bool) := ((State.Quiet.ite (c := c) (h.wr .islandExp 0 1) h).wr .LAST_CONTACT 0 e).wr .islandFrom 0 e
  exact State.Quiet.ite ((met _).wr .contactPending 0 1) (met _)

theorem State.Quiet.contact : s.Quiet t.contact :=
  (State.Quiet.ite ((h.contactAt _).wr .sweepEnd 0 0) h : s.Quiet t.dueContact).contactAt _

theorem State.Quiet.complete' (hd : Hdr) (op idx sub code : Nat) (data : List Byte) :
    s.Quiet (t.complete' hd op idx sub code data) :=
  (h.wrTag _ _).push _ _

theorem State.Quiet.noteFull (o : Obj) (i code : Nat) : s.Quiet (t.noteFull o i code) :=
  State.Quiet.ite h (State.Quiet.ite (h.count .REFUSED _ _ _) (State.Quiet.ite (h.count .REFUSED _ _ _) h))

theorem State.Quiet.taken (hd : Hdr) (op idx sub : Nat) (data : List Byte) : s.Quiet (t.taken hd op idx sub data) :=
  (((State.Quiet.ite (c := (_ : Bool)) (h.takeUp hd).contact (h.takeUp hd)).count .REQUESTS 0 _ _).tally _ _).wrTag _ _

end

-- a request that is taken

/-- The module that has received the request `hd`, with the contact of a head noted. -/
def State.received (s : State) (hd : Hdr) : State := (s.takeUp hd).iff (isHead hd.src && (s.takeUp hd).mode ≠ 0) State.contact

def received_may : Nat := State.takeUp_may ||| State.contact_may

theorem received_keeps (s : State) (hd : Hdr) : Keeps received_may s (s.received hd) :=
  keeps_iff (takeUp_keeps hd (keeps_refl _ s)) (fun _ g => contact_keeps g)

theorem received_rd (s : State) (hd : Hdr) (r : Reg) (i : Nat) (hr : received_may.testBit r.ctorIdx = false := by decide +kernel) :
    (s.received hd).rd r i = s.rd r i := (received_keeps s hd).rd r i hr

theorem received_tagSt (s : State) (hd : Hdr) (k : Nat) : (s.received hd).tagSt k = s.tagSt k :=
  congrArg (tget TagSt.free · k) ((received_keeps s hd).tags (by decide +kernel))

theorem received_answering (s : State) (hd : Hdr) : (s.received hd).answering = s.answering := by
  simp [State.answering, State.mode, State.rdN, received_rd s hd .MODE 0, received_rd s hd .flashRead 0, received_rd s hd .bootStuck 0,
    received_rd s hd .takeover 0]

theorem received_digest (s : State) (hd : Hdr) (op idx sub : Nat) (data : List Byte) :
    (s.received hd).digest hd op idx sub data = s.digest hd op idx sub data := by
  simp only [State.digest, State.rdN, received_rd s hd .NODE_NUMBER 0]

theorem taken_eq (s : State) (hd : Hdr) (op idx sub : Nat) (data : List Byte) :
    s.taken hd op idx sub data = (((s.received hd).count .REQUESTS 0 1 64).tally 224).wrTag hd.tag
      ⟨some ((s.received hd).digest hd op idx sub data), true, none⟩ := by
  have hm : (s.takeUp hd).mode = s.mode := by
    simp only [State.mode, State.rdN, (takeUp_keeps (M := State.takeUp_may) hd (keeps_refl _ s)).rd .MODE 0 (by decide +kernel)]
  simp only [State.taken, State.received, hm]

theorem taken_mode (s : State) (hd : Hdr) (op idx sub : Nat) (data : List Byte) : (s.taken hd op idx sub data).mode = s.mode :=
  ((quiet_refl s).taken hd op idx sub data).rdN .MODE 0

/-- A request that is taken up runs its operation on the module that has taken it, and completes with what that answers. -/
theorem transact_of_takes {s t : State} {hd : Hdr} {op idx sub code : Nat} {data bytes : List Byte} {f : State → State × Answer}
    (k : s.Takes hd op idx sub data) (hf : f (s.taken hd op idx sub data) = (t, .done code bytes)) :
    s.transact hd op idx sub data f = t.complete' hd op idx sub code bytes := by
  obtain ⟨answers, free, fresh, modes⟩ := k
  rw [← received_answering s hd] at answers
  rw [← received_tagSt s hd] at free fresh
  rw [← received_digest s hd] at fresh
  have hmode := taken_mode s hd op idx sub data
  rw [taken_eq] at hf hmode
  have unlocked : (decide (s.mode = 10) && isWriteOp op && decide (hd.port ≠ 2)) = false := by
    cases hop : isWriteOp op
    · simp
    · simpa using (modes hop).2
  have ready : (decide (s.mode = 1) && isWriteOp op) = false := by
    cases hop : isWriteOp op
    · simp
    · simpa using (modes hop).1
  unfold State.transact
  dsimp only
  rw [show (s.takeUp hd).iff (isHead hd.src && (s.takeUp hd).mode ≠ 0) State.contact = s.received hd from rfl]
  simp only [answers, fresh, free, hmode, unlocked, ready, hf, Bool.not_true, Bool.false_eq_true, if_false, decide_false, Bool.false_and,
    Bool.and_false]

theorem complete'_answers (t : State) (hd : Hdr) (op idx sub code : Nat) (data : List Byte) :
    (t.complete' hd op idx sub code data).Answers hd code data := by
  have tags : (t.complete' hd op idx sub code data).tagSt hd.tag =
      { t.tagSt hd.tag with busy := false, reply := some (t.replyFrame hd op idx sub code data) } := by
    unfold State.complete'
    dsimp only
    have sent (x : State) (f : Frame) : (x.sendOwn f).tags = x.tags :=
      (sendOwn_keeps (M := State.sendOwn_may) f (keeps_refl _ x)).tags (by decide +kernel)
    simp [State.tagSt, sent, State.wrTag, tget_tset]
  simp [State.Answers, tags, State.replyFrame]

section
variable {s t : State} {hd : Hdr} {op idx sub code : Nat} {data bytes : List Byte} {f : State → State × Answer}

theorem transact_answers (k : s.Takes hd op idx sub data) (hf : f (s.taken hd op idx sub data) = (t, .done code bytes)) :
    (s.transact hd op idx sub data f).Answers hd code bytes ∧ t.Quiet (s.transact hd op idx sub data f) := by
  rw [transact_of_takes k hf]
  exact ⟨complete'_answers .., (quiet_refl t).complete' ..⟩

/-- A request whose operation changes nothing more than any request may. -/
theorem transact_quiet (k : s.Takes hd op idx sub data) (hf : f (s.taken hd op idx sub data) = (t, .done code bytes))
    (quiet : (s.taken hd op idx sub data).Quiet t) :
    (s.transact hd op idx sub data f).Answers hd code bytes ∧ s.Quiet (s.transact hd op idx sub data f) := by
  obtain ⟨answer, reply⟩ := transact_answers k hf
  exact ⟨answer, (((quiet_refl s).taken ..).trans quiet).trans reply⟩

end

theorem taken_objAt (s : State) (hd : Hdr) (op idx sub : Nat) (data : List Byte) (i j : Nat) :
    (s.taken hd op idx sub data).objAt i j = s.objAt i j :=
  objAt_congr ((quiet_refl s).taken hd op idx sub data).progs i j

-- reads

theorem hostRead_answers {s : State} {hd : Hdr} {idx sub : Nat} (k : s.Takes hd opRead idx sub []) :
    (s.hostRead hd idx sub).Answers hd ((s.taken hd opRead idx sub []).readOne idx sub).1 ((s.taken hd opRead idx sub []).readOne idx sub).2 ∧
      s.Quiet (s.hostRead hd idx sub) :=
  transact_quiet k rfl (quiet_refl _)

theorem hostReadBlock_answers {s : State} {hd : Hdr} {idx sub n : Nat} (hn : n ≤ 255) (k : s.Takes hd opReadBlock idx sub (leBytes 1 n)) :
    (s.hostReadBlock hd idx sub n).Answers hd ((s.taken hd opReadBlock idx sub (leBytes 1 n)).readBlock idx sub n).1
        ((s.taken hd opReadBlock idx sub (leBytes 1 n)).readBlock idx sub n).2 ∧
      s.Quiet (s.hostReadBlock hd idx sub n) := by
  unfold State.hostReadBlock
  rw [Nat.mod_eq_of_lt (Nat.lt_succ_of_le hn)]
  exact transact_quiet k rfl (quiet_refl _)

theorem readBlock_zero {s : State} {idx sub : Nat} {p : Obj × Nat} (h : s.objAt idx sub = some p) : s.readBlock idx sub 0 = (5, []) := by
  simp [State.readBlock, look_of_objAt h]

-- one value written

theorem writeOne_of_refused {s : State} {idx sub : Nat} {bs : List Byte} (hc : s.writeCode idx sub bs ≠ 0) :
    ∃ t, s.writeOne idx sub bs = (t, .done (s.writeCode idx sub bs) []) ∧ s.Quiet t := by
  unfold State.writeOne
  split
  · exact absurd ‹_› hc
  · exact ⟨_, rfl, (quiet_refl s).noteFull ..⟩
  · exact ⟨_, rfl, quiet_refl s⟩

/-- `s` with the value of `bs` staged for register `i` of `o`. -/
def State.stage (s : State) (o : Obj) (i : Nat) (bs : List Byte) : State :=
  { s with staged := tset none s.staged (o.reg.key i) (some (o.ty.value bs)) }

theorem stage_same (s : State) (o : Obj) (i : Nat) (bs : List Byte) : tget none (s.stage o i bs).staged (o.reg.key i) = some (o.ty.value bs) := by
  rw [State.stage, tget_tset, if_pos rfl]

theorem stage_ne (s : State) (o : Obj) (i : Nat) (bs : List Byte) {k : Nat} (h : k ≠ o.reg.key i) :
    tget none (s.stage o i bs).staged k = tget none s.staged k := by
  rw [State.stage, tget_tset, if_neg h]

theorem writeOne_of_rwc {s : State} {idx sub : Nat} {bs : List Byte} {o : Obj} {i : Nat} (hc : s.writeCode idx sub bs = 0)
    (ho : s.objAt idx sub = some (o, i)) (ha : o.acc = .rwc) :
    s.writeOne idx sub bs = (s.stage o i bs, .done 0 []) := by
  simp [State.writeOne, hc, ho, State.applyWrite, ha, State.stage]

theorem writeOne_of_w1c {s : State} {idx sub : Nat} {bs : List Byte} {o : Obj} {i : Nat} (hc : s.writeCode idx sub bs = 0)
    (ho : s.objAt idx sub = some (o, i)) (ha : o.acc = .w1c) :
    s.writeOne idx sub bs = (s.clearBits o.reg i (o.ty.value bs).toNat, .done 0 []) := by
  simp [State.writeOne, hc, ho, State.applyWrite, ha]

theorem lower_bit (s : State) (r : Reg) (i m b : Nat) :
    (s.lower r i m).bit r i b = (s.bit r i b && !(m.testBit b && !(s.freshBits r i).testBit b)) := by
  simp only [State.lower, State.bit, State.rdN, State.rd_wr, and_self, if_true, Int.toNat_natCast, testBit_masked]

theorem lower_rd_ne (s : State) {r q : Reg} (i m j : Nat) (h : q ≠ r) : (s.lower r i m).rd q j = s.rd q j := by
  simp [State.lower, State.rd_wr, h]

/-- What follows a clearing writes only registers of its own (R170, R348). -/
theorem afterClear_rd (s : State) (r : Reg) (i m : Nat) {q : Reg} (j : Nat)
    (hq : State.afterClear_may.testBit q.ctorIdx = false := by decide +kernel) : (s.afterClear r i m).rd q j = s.rd q j := by
  suffices h : Keeps State.afterClear_may s (s.afterClear r i m) from h.rd q j hq
  have same := keeps_refl State.afterClear_may s
  unfold State.afterClear
  split
  · exact keeps_ite (keeps_wr same _ _ _ (by decide +kernel)) same
  · refine keeps_ite (keeps_ite ?_ same) same
    have rails := keeps_wr same .RAIL_STATE 0
    exact keeps_ite (rails _ (by decide +kernel)) (setRed_keeps _ _ (rails _ (by decide +kernel)))

/-- A W1C write clears in its own object what `lower` clears; the causes and objects that show the same events are others. -/
theorem clearBits_rd (s : State) (r : Reg) (i m j : Nat) : (s.clearBits r i m).rd r j = (s.lower r i m).rd r j := by
  unfold State.clearBits
  dsimp only
  split
  · next h =>
    rcases h with rfl | rfl | rfl <;> rw [afterClear_rd, lower_rd_ne] <;> decide
  · split
    · next _ h =>
      subst h
      split
      · next o k hown =>
        have hne : Reg.CAUSES_LATCHED ≠ o := by
          rintro rfl
          unfold blockOwn at hown
          split_ifs at hown <;> cases hown
        rw [afterClear_rd, lower_rd_ne _ _ _ _ hne, afterClear_rd]
      · exact afterClear_rd ..
    · rfl

-- a block written

theorem writeAll_cons_done {s0 s t : State} {idx : Nat} {p : Nat × List Byte} {l : List (Nat × List Byte)}
    (h : s0.writeAll idx (p :: l) s = (t, .done 0 [])) :
    ∃ s1 d, s.writeOne idx p.1 p.2 = (s1, .done 0 d) ∧ s0.writeAll idx l s1 = (t, .done 0 []) := by
  unfold State.writeAll at h
  split at h
  · exact ⟨_, _, ‹_›, h⟩
  · split at h
    · cases h
    · next other => exact (other _ _ h).elim
  · next refused _ =>
    obtain ⟨-, e⟩ := Prod.mk.inj h
    cases e
    exact (refused rfl).elim

theorem writeAll_append {s0 s t : State} {idx : Nat} {l1 : List (Nat × List Byte)} (l2 : List (Nat × List Byte))
    (h : s0.writeAll idx l1 s = (t, .done 0 [])) : s0.writeAll idx (l1 ++ l2) s = s0.writeAll idx l2 t := by
  induction l1 generalizing s with
  | nil => cases h; rfl
  | cons p l ih =>
    obtain ⟨s1, d, hp, hl⟩ := writeAll_cons_done h
    rw [List.cons_append, State.writeAll, hp]
    exact ih hl

theorem writeAll_refused {s0 s : State} {idx : Nat} {p : Nat × List Byte} (l : List (Nat × List Byte)) (hc : s.writeCode idx p.1 p.2 ≠ 0) :
    ∃ t, s0.writeAll idx (p :: l) s = (t, .done (s.writeCode idx p.1 p.2) []) ∧ s0.Quiet t := by
  obtain ⟨t, ht, -⟩ := writeOne_of_refused hc
  rw [State.writeAll, ht]
  split
  · next e => exact (hc (Answer.done.inj (Prod.mk.inj e).2).1).elim
  · next e => cases e
  · next e =>
    cases e
    refine ⟨_, rfl, ?_⟩
    split
    · exact (quiet_refl s0).noteFull ..
    · exact quiet_refl s0

-- the values of a block

theorem le_of_mem_cut {s : State} {idx f sub : Nat} {bs : List Byte} {p : Nat × List Byte} (h : p ∈ s.cut idx f sub bs) : sub ≤ p.1 := by
  induction f generalizing sub bs with
  | zero => cases h
  | succ f ih =>
    cases bs with
    | nil => cases h
    | cons b bs =>
      unfold State.cut at h
      split at h
      · rcases List.mem_cons.mp h with rfl | h
        · exact Nat.le_refl _
        · exact Nat.le_of_succ_le (ih h)
      · rw [List.mem_singleton.mp h]

/-- The values of a block go to rising subindices. -/
theorem cut_rising (s : State) (idx f sub : Nat) (bs : List Byte) : (s.cut idx f sub bs).Pairwise (fun p q => p.1 < q.1) := by
  induction f generalizing sub bs with
  | zero => exact List.Pairwise.nil
  | succ f ih =>
    cases bs with
    | nil => exact List.Pairwise.nil
    | cons b bs =>
      unfold State.cut
      split
      · exact List.pairwise_cons.mpr ⟨fun q hq => le_of_mem_cut hq, ih ..⟩
      · exact List.pairwise_singleton ..

theorem writeOne_done_of_rwc {s s1 : State} {idx sub : Nat} {bs d : List Byte} {o : Obj} {i : Nat} (h : s.writeOne idx sub bs = (s1, .done 0 d))
    (ho : s.objAt idx sub = some (o, i)) (ha : o.acc = .rwc) :
    s1 = s.stage o i bs := by
  by_cases hc : s.writeCode idx sub bs = 0
  · rw [writeOne_of_rwc hc ho ha] at h
    exact (Prod.mk.inj h).1.symm
  · obtain ⟨t, ht, -⟩ := writeOne_of_refused hc
    exact (hc (Answer.done.inj (Prod.mk.inj (ht.symm.trans h)).2).1).elim

section
variable {s0 s t : State} {idx : Nat} {l : List (Nat × List Byte)}

/-- A block of RWC objects changes nothing but the staged values of its own registers. -/
theorem writeAll_rwc_frame (hs : s.progs = s0.progs) (hl : ∀ p ∈ l, ∃ o i, s0.objAt idx p.1 = some (o, i) ∧ o.acc = .rwc)
    (h : s0.writeAll idx l s = (t, .done 0 [])) :
    { t with staged := s.staged } = s ∧
      ∀ k, (∀ p ∈ l, ∀ o i, s0.objAt idx p.1 = some (o, i) → k ≠ o.reg.key i) → tget none t.staged k = tget none s.staged k := by
  induction l generalizing s with
  | nil => cases h; exact ⟨rfl, fun _ _ => rfl⟩
  | cons p l ih =>
    obtain ⟨s1, d, hp, hrest⟩ := writeAll_cons_done h
    obtain ⟨o, i, ho, ha⟩ := hl p List.mem_cons_self
    obtain rfl := writeOne_done_of_rwc hp ((objAt_congr hs ..).trans ho) ha
    obtain ⟨frame, keys⟩ := ih (s := s.stage o i p.2) hs (fun q hq => hl q (List.mem_cons_of_mem _ hq)) hrest
    refine ⟨congrArg (fun x : State => { x with staged := s.staged }) frame, fun k hk => ?_⟩
    rw [keys k (fun q hq => hk q (List.mem_cons_of_mem _ hq)), stage_ne _ _ _ _ (hk p List.mem_cons_self o i ho)]

/-- A block of RWC objects stages each of its values. -/
theorem writeAll_rwc_stages (hs : s.progs = s0.progs) (hl : ∀ p ∈ l, ∃ o i, s0.objAt idx p.1 = some (o, i) ∧ o.acc = .rwc)
    (hr : l.Pairwise (fun p q => p.1 < q.1)) (h : s0.writeAll idx l s = (t, .done 0 [])) :
    ∀ p ∈ l, ∀ o i, s0.objAt idx p.1 = some (o, i) → tget none t.staged (o.reg.key i) = some (o.ty.value p.2) := by
  induction l generalizing s with
  | nil => intro p hp; cases hp
  | cons p l ih =>
    obtain ⟨s1, d, hp, hrest⟩ := writeAll_cons_done h
    obtain ⟨o, i, ho, ha⟩ := hl p List.mem_cons_self
    obtain rfl := writeOne_done_of_rwc hp ((objAt_congr hs ..).trans ho) ha
    obtain ⟨hlt, hr⟩ := List.pairwise_cons.mp hr
    have hl' := fun q hq => hl q (List.mem_cons_of_mem p hq)
    intro q hq o' i' hq'
    rcases List.mem_cons.mp hq with rfl | hq
    · obtain ⟨rfl, rfl⟩ := Prod.mk.inj (Option.some.inj (ho.symm.trans hq'))
      have later : ∀ p ∈ l, ∀ q j, s0.objAt idx p.1 = some (q, j) → o.reg.key i ≠ q.reg.key j := fun p hp q j hj e =>
        absurd (objAt_key_inj ho hj e) (Nat.ne_of_lt (hlt p hp))
      rw [(writeAll_rwc_frame (s := s.stage o i q.2) hs hl' hrest).2 _ later, stage_same]
    · exact ih (s := s.stage o i p.2) hs hl' hr hrest q hq o' i' hq'

end

-- what a host's write does

/-- The W1C bits set in the cycle in which a request is taken up. -/
theorem taken_freshBits (s : State) (hd : Hdr) (op idx sub : Nat) (data : List Byte) (r : Reg) (i : Nat) :
    (s.taken hd op idx sub data).freshBits r i = (s.takeUp hd).freshBits r i := by
  have kept : Keeps (State.contact_may ||| may .REQUESTS ||| State.count_may ||| State.tally_may ||| State.wrTag_may) (s.takeUp hd)
      (s.taken hd op idx sub data) := by
    rw [taken_eq]
    exact wrTag_keeps _ _ (tally_keeps _ _ (count_keeps _ _ _ _ (keeps_iff (keeps_refl _ _) (fun _ g => contact_keeps g))))
  have time : (s.taken hd op idx sub data).now = (s.takeUp hd).now := congrArg Int.toNat (kept.rd .DEVICE_TIME 0 (by decide +kernel))
  rw [State.freshBits, State.freshBits, time, kept.fresh (by decide +kernel), kept.freshAt (by decide +kernel)]

section
variable {s : State} {hd : Hdr} {idx sub : Nat} {bs : List Byte}

theorem hostWrite_refused (k : s.Takes hd opWrite idx sub bs) (hc : (s.taken hd opWrite idx sub bs).writeCode idx sub bs ≠ 0) :
    (s.hostWrite hd idx sub bs).Answers hd ((s.taken hd opWrite idx sub bs).writeCode idx sub bs) [] ∧ s.Quiet (s.hostWrite hd idx sub bs) := by
  obtain ⟨t, ht, quiet⟩ := writeOne_of_refused hc
  exact transact_quiet k ht quiet

theorem hostWrite_accepted {t : State} (k : s.Takes hd opWrite idx sub bs)
    (h : (s.taken hd opWrite idx sub bs).writeOne idx sub bs = (t, .done 0 [])) :
    (s.hostWrite hd idx sub bs).Answers hd 0 [] ∧ t.Quiet (s.hostWrite hd idx sub bs) :=
  transact_answers k h

section
variable {o : Obj} {i : Nat} (k : s.Takes hd opWrite idx sub bs) (hc : (s.taken hd opWrite idx sub bs).writeCode idx sub bs = 0)
  (ho : s.objAt idx sub = some (o, i))
include k hc ho

theorem hostWrite_stages (ha : o.acc = .rwc) :
    (s.hostWrite hd idx sub bs).Answers hd 0 [] ∧ tget none (s.hostWrite hd idx sub bs).staged (o.reg.key i) = some (o.ty.value bs) ∧
      (∀ k, k ≠ o.reg.key i → tget none (s.hostWrite hd idx sub bs).staged k = tget none s.staged k) ∧
      s.OnlyRegs (s.hostWrite hd idx sub bs) requestRegs := by
  have took := (quiet_refl s).taken hd opWrite idx sub bs
  obtain ⟨answer, reply⟩ := hostWrite_accepted k (writeOne_of_rwc hc ((taken_objAt ..).trans ho) ha)
  refine ⟨answer, ?_, fun j hj => ?_, fun r j hr => (reply.regs r j hr).trans (took.regs r j hr)⟩
  · rw [reply.staged, stage_same]
  · rw [reply.staged, stage_ne _ _ _ _ hj, took.staged]

theorem hostWrite_clears (ha : o.acc = .w1c) :
    (s.hostWrite hd idx sub bs).Answers hd 0 [] ∧ ∀ b, (s.hostWrite hd idx sub bs).bit o.reg i b =
      (s.bit o.reg i b && !((o.ty.value bs).toNat.testBit b && !((s.takeUp hd).freshBits o.reg i).testBit b)) := by
  have took := (quiet_refl s).taken hd opWrite idx sub bs
  have own : o.reg ∉ requestRegs := w1c_not_requestRegs o (findObj_spec (findObj_of_objAt ho)).1 ha
  obtain ⟨answer, reply⟩ := hostWrite_accepted k (writeOne_of_w1c hc ((taken_objAt ..).trans ho) ha)
  refine ⟨answer, fun b => ?_⟩
  have low := lower_bit (s.taken hd opWrite idx sub bs) o.reg i (o.ty.value bs).toNat b
  rw [taken_freshBits] at low
  simp only [State.bit, State.rdN, reply.regs o.reg i own, clearBits_rd, took.regs o.reg i own] at low ⊢
  exact low

end

/-- WRITE_BLOCK of a host (R25). -/
def State.hostWriteBlock (s : State) (hd : Hdr) (idx sub : Nat) (bs : List Byte) : State :=
  s.transact hd opWriteBlock idx sub bs (fun s => s.writeMany idx sub bs)

theorem exec_writeBlock (s : State) (hd : Hdr) (idx sub : Nat) (bs : List Byte) :
    exec (.writeBlock hd idx sub bs) s = .next (s.hostWriteBlock hd idx sub bs) := rfl

theorem writeMany_badLength (s : State) (idx sub : Nat) (h : bs = [] ∨ 1024 < bs.length) : s.writeMany idx sub bs = (s, .done 6 []) := by
  simp only [State.writeMany, List.isEmpty_iff, Bool.or_eq_true, decide_eq_true_eq, h, if_true]

/-- A WRITE_BLOCK of the right length is judged value by value. -/
theorem writeMany_eq (s : State) (idx sub : Nat) (h0 : bs ≠ []) (h1 : bs.length ≤ 1024) :
    s.writeMany idx sub bs = s.writeAll idx (s.cut idx (bs.length + 1) sub bs) s := by
  simp [State.writeMany, h0, Nat.not_lt.mpr h1]

theorem writeMany_refused {t : State} {l1 l2 : List (Nat × List Byte)} {p : Nat × List Byte} (h0 : bs ≠ []) (h1 : bs.length ≤ 1024)
    (hl : s.cut idx (bs.length + 1) sub bs = l1 ++ p :: l2) (hacc : s.writeAll idx l1 s = (t, .done 0 []))
    (hc : t.writeCode idx p.1 p.2 ≠ 0) : ∃ u, s.writeMany idx sub bs = (u, .done (t.writeCode idx p.1 p.2) []) ∧ s.Quiet u := by
  rw [writeMany_eq s idx sub h0 h1, hl, writeAll_append _ hacc]
  exact writeAll_refused l2 hc

theorem hostWriteBlock_badLength (k : s.Takes hd opWriteBlock idx sub bs) (h : bs = [] ∨ 1024 < bs.length) :
    (s.hostWriteBlock hd idx sub bs).Answers hd 6 [] ∧ s.Quiet (s.hostWriteBlock hd idx sub bs) :=
  transact_quiet k (writeMany_badLength _ idx sub h) (quiet_refl _)

section
variable (k : s.Takes hd opWriteBlock idx sub bs) (h0 : bs ≠ []) (h1 : bs.length ≤ 1024)
include k h0 h1

/-- Where a value of a block is refused after those before it have been accepted, nothing of the block is applied. -/
theorem hostWriteBlock_refused {t : State} {l1 l2 : List (Nat × List Byte)} {p : Nat × List Byte}
    (hl : (s.taken hd opWriteBlock idx sub bs).cut idx (bs.length + 1) sub bs = l1 ++ p :: l2)
    (hacc : (s.taken hd opWriteBlock idx sub bs).writeAll idx l1 (s.taken hd opWriteBlock idx sub bs) = (t, .done 0 []))
    (hc : t.writeCode idx p.1 p.2 ≠ 0) :
    (s.hostWriteBlock hd idx sub bs).Answers hd (t.writeCode idx p.1 p.2) [] ∧ s.Quiet (s.hostWriteBlock hd idx sub bs) := by
  obtain ⟨u, hu, quiet⟩ := writeMany_refused h0 h1 hl hacc hc
  exact transact_quiet k hu quiet

variable {t : State} (h : (s.taken hd opWriteBlock idx sub bs).writeAll idx
  ((s.taken hd opWriteBlock idx sub bs).cut idx (bs.length + 1) sub bs) (s.taken hd opWriteBlock idx sub bs) = (t, .done 0 []))
include h

theorem hostWriteBlock_accepted :
    (s.hostWriteBlock hd idx sub bs).Answers hd 0 [] ∧ t.Quiet (s.hostWriteBlock hd idx sub bs) :=
  transact_answers k ((writeMany_eq _ idx sub h0 h1).trans h)

/-- An accepted block of RWC objects stages each of its values. -/
theorem hostWriteBlock_stages
    (hl : ∀ p ∈ (s.taken hd opWriteBlock idx sub bs).cut idx (bs.length + 1) sub bs, ∃ o i, s.objAt idx p.1 = some (o, i) ∧ o.acc = .rwc) :
    s.OnlyRegs (s.hostWriteBlock hd idx sub bs) requestRegs ∧
      ∀ p ∈ (s.taken hd opWriteBlock idx sub bs).cut idx (bs.length + 1) sub bs, ∀ o i, s.objAt idx p.1 = some (o, i) →
        tget none (s.hostWriteBlock hd idx sub bs).staged (o.reg.key i) = some (o.ty.value p.2) := by
  have took := (quiet_refl s).taken hd opWriteBlock idx sub bs
  obtain ⟨-, reply⟩ := hostWriteBlock_accepted k h0 h1 h
  simp only [← taken_objAt s hd opWriteBlock idx sub bs] at hl ⊢
  have regs : t.regs = (s.taken hd opWriteBlock idx sub bs).regs := (congrArg State.regs (writeAll_rwc_frame rfl hl h).1 :)
  refine ⟨fun r i hr => ?_, fun p hp o i ho => ?_⟩
  · rw [reply.regs r i hr, State.rd_congr regs, took.regs r i hr]
  · rw [reply.staged]
    exact writeAll_rwc_stages rfl hl (cut_rising ..) h p hp o i ho

end
end

/-- Settles O51: a taken request answers what its operation gives on the module that has taken it, and taking and answering change only
what any request may. -/
theorem readsAndWritesAnswer : Obligations.ReadsAndWritesAnswer := by
  unfold Obligations.ReadsAndWritesAnswer
  intro hd idx sub s
  refine ⟨fun k => ?_, fun n hn k => ?_, ?_, fun bs k => ?_⟩
  · obtain ⟨answer, regs, rest⟩ := hostRead_answers k
    exact ⟨_, rfl, answer, regs, rest⟩
  · obtain ⟨answer, regs, rest⟩ := hostReadBlock_answers hn k
    refine ⟨_, rfl, answer, fun h0 p hp => ?_, regs, rest⟩
    subst h0
    rwa [readBlock_zero ((taken_objAt ..).trans hp)] at answer
  · intro bs c hc w k
    have run : exec c s = .next (s.hostWrite hd idx sub bs) := by
      simp only [List.mem_cons, List.not_mem_nil, or_false] at hc
      rcases hc with rfl | rfl | rfl <;> rfl
    refine ⟨_, run, fun hcode => ?_, fun o i hcode ho => ⟨hostWrite_stages k hcode ho, hostWrite_clears k hcode ho⟩⟩
    obtain ⟨answer, regs, rest⟩ := hostWrite_refused k hcode
    exact ⟨answer, regs, rest⟩
  · refine ⟨_, exec_writeBlock .., fun hbad => ?_, fun h0 h1 => ⟨fun l1 p l2 t hl hacc hc => ?_, fun hall => ?_⟩⟩
    · obtain ⟨answer, regs, rest⟩ := hostWriteBlock_badLength k hbad
      exact ⟨answer, regs, rest⟩
    · obtain ⟨answer, regs, rest⟩ := hostWriteBlock_refused k h0 h1 hl hacc hc
      exact ⟨answer, regs, rest⟩
    · exact ⟨(hostWriteBlock_accepted k h0 h1 (Prod.ext rfl hall)).1, hostWriteBlock_stages k h0 h1 (Prod.ext rfl hall)⟩

end Sys2Proof.Machine
end

section
/-! PROOFS. Well-formed commands answer a state (O4), and queues of them run safely (O5). `exec_keeps` gathers what the Keeps lemmas say of each
row, so that the rest speaks of `exec` alone. -/
namespace Sys2Proof.Machine

set_option Elab.async false

/-- What each command leaves: the waiting commands, the canonical form, and all that the mask of its row names. -/
theorem exec_keeps : ∀ (c : Instr) (s : State), ∃ m, KeepsO m s (exec c s)
  | .passMark w, s => ⟨_, execPassMark_keeps w (keeps_refl _ s) may_self⟩
  | .staleIncrement n, s => ⟨_, execStaleIncrement_keeps n (keeps_refl _ s) may_self⟩
  | .feedbackFoldIn t n m, s => ⟨_, execFeedbackFoldIn_keeps t n m (keeps_refl _ s) may_self⟩
  | .profileStep t n m, s => ⟨_, execProfileStep_keeps t n m (keeps_refl _ s) may_self⟩
  | .interpolationSetUp t n m, s => ⟨_, execInterpolationSetUp_keeps t n m (keeps_refl _ s) may_self⟩
  | .loadIndexStep t n m, s => ⟨_, execLoadIndexStep_keeps t n m (keeps_refl _ s) may_self⟩
  | .axisProgramRun t slot m, s => ⟨_, execAxisProgramRun_keeps t slot m (keeps_refl _ s) may_self⟩
  | .tripProgramRun t n, s => ⟨_, execTripProgramRun_keeps t n (keeps_refl _ s) may_self⟩
  | .slotCutOff t slot, s => ⟨_, execSlotCutOff_keeps t slot (keeps_refl _ s) may_self⟩
  | .slotUncorrectable t slot, s => ⟨_, execSlotUncorrectable_keeps t slot (keeps_refl _ s) may_self⟩
  | .bankRebuildDone, s => ⟨_, execBankRebuildDone_keeps (keeps_refl _ s) may_self⟩
  | .engineFailing t e storeError, s => ⟨_, execEngineFailing_keeps t e storeError (keeps_refl _ s) may_self⟩
  | .fallbackLoadDone, s => ⟨_, execFallbackLoadDone_keeps (keeps_refl _ s) may_self⟩
  | .fallbackPlansBuilt t, s => ⟨_, execFallbackPlansBuilt_keeps t (keeps_refl _ s) may_self⟩
  | .engineClear h v, s => ⟨_, execEngineClear_keeps h v (keeps_refl _ s) may_self⟩
  | .engineSelfTestDone t e pass, s => ⟨_, execEngineSelfTestDone_keeps t e pass (keeps_refl _ s) may_self⟩
  | .ledgerScrub t n w ecc, s => ⟨_, execLedgerScrub_keeps t n w ecc (keeps_refl _ s) may_self⟩
  | .feedLost t feed volt, s => ⟨_, execFeedLost_keeps t feed volt (keeps_refl _ s) may_self⟩
  | .logicBuckLost t buck volt, s => ⟨_, execLogicBuckLost_keeps t buck volt (keeps_refl _ s) may_self⟩
  | .auxLost t, s => ⟨_, execAuxLost_keeps t (keeps_refl _ s) may_self⟩
  | .stewardLost t, s => ⟨_, execStewardLost_keeps t (keeps_refl _ s) may_self⟩
  | .tsMismatch t n w high out, s => ⟨_, execTsMismatch_keeps t n w high out (keeps_refl _ s) may_self⟩
  | .tsSelfTest t faulty, s => ⟨_, execTsSelfTest_keeps t faulty (keeps_refl _ s) may_self⟩
  | .flashBankLost t bank, s => ⟨_, execFlashBankLost_keeps t bank (keeps_refl _ s) may_self⟩
  | .sdramCorrected t bank addr, s => ⟨_, execSdramCorrected_keeps t bank addr (keeps_refl _ s) may_self⟩
  | .sdramUncorrectable t bank addr, s => ⟨_, execSdramUncorrectable_keeps t bank addr (keeps_refl _ s) may_self⟩
  | .read h index sub, s => ⟨_, execRead_keeps h index sub (keeps_refl _ s) may_self⟩
  | .readBlock h index sub count, s => ⟨_, execReadBlock_keeps h index sub count (keeps_refl _ s) may_self⟩
  | .writeBlock h index sub data, s => ⟨_, execWriteBlock_keeps h index sub data (keeps_refl _ s) may_self⟩
  | .registerWrite h index sub data, s => ⟨_, execRegisterWrite_keeps h index sub data (keeps_refl _ s) may_self⟩
  | .rwcWrite h index sub data, s => ⟨_, execRwcWrite_keeps h index sub data (keeps_refl _ s) may_self⟩
  | .w1cWrite h index sub data, s => ⟨_, execW1cWrite_keeps h index sub data (keeps_refl _ s) may_self⟩
  | .stageDiscard h v, s => ⟨_, execStageDiscard_keeps h v (keeps_refl _ s) may_self⟩
  | .commit h, s => ⟨_, execCommit_keeps h (keeps_refl _ s) may_self⟩
  | .commitTakesEffect, s => ⟨_, execCommitTakesEffect_keeps (keeps_refl _ s) may_self⟩
  | .ackOrdinal h v, s => ⟨_, execAckOrdinal_keeps h v (keeps_refl _ s) may_self⟩
  | .logSeen h v, s => ⟨_, execLogSeen_keeps h v (keeps_refl _ s) may_self⟩
  | .target h n v, s => ⟨_, execTarget_keeps h n v (keeps_refl _ s) may_self⟩
  | .stop h n, s => ⟨_, execStop_keeps h n (keeps_refl _ s) may_self⟩
  | .stopFlush h n, s => ⟨_, execStopFlush_keeps h n (keeps_refl _ s) may_self⟩
  | .setPosition h n v, s => ⟨_, execSetPosition_keeps h n v (keeps_refl _ s) may_self⟩
  | .movePush h n ws, s => ⟨_, execMovePush_keeps h n ws (keeps_refl _ s) may_self⟩
  | .queueFlush h n, s => ⟨_, execQueueFlush_keeps h n (keeps_refl _ s) may_self⟩
  | .limitChange h n which v, s => ⟨_, execLimitChange_keeps h n which v (keeps_refl _ s) may_self⟩
  | .lowMark h n v, s => ⟨_, execLowMark_keeps h n v (keeps_refl _ s) may_self⟩
  | .abs t n, s => ⟨_, execAbs_keeps t n (keeps_refl _ s) may_self⟩
  | .rel t n, s => ⟨_, execRel_keeps t n (keeps_refl _ s) may_self⟩
  | .vel t n, s => ⟨_, execVel_keeps t n (keeps_refl _ s) may_self⟩
  | .dwell t n, s => ⟨_, execDwell_keeps t n (keeps_refl _ s) may_self⟩
  | .wait t n, s => ⟨_, execWait_keeps t n (keeps_refl _ s) may_self⟩
  | .waitTimeout t n, s => ⟨_, execWaitTimeout_keeps t n (keeps_refl _ s) may_self⟩
  | .setLimits t n, s => ⟨_, execSetLimits_keeps t n (keeps_refl _ s) may_self⟩
  | .setCurrents t n, s => ⟨_, execSetCurrents_keeps t n (keeps_refl _ s) may_self⟩
  | .call t n, s => ⟨_, execCall_keeps t n (keeps_refl _ s) may_self⟩
  | .homeHere t n, s => ⟨_, execHomeHere_keeps t n (keeps_refl _ s) may_self⟩
  | .homeEndStop t n, s => ⟨_, execHomeEndStop_keeps t n (keeps_refl _ s) may_self⟩
  | .homeLimitInput t n, s => ⟨_, execHomeLimitInput_keeps t n (keeps_refl _ s) may_self⟩
  | .homeLimitOrEndStop t n, s => ⟨_, execHomeLimitOrEndStop_keeps t n (keeps_refl _ s) may_self⟩
  | .homeExerciseRun t n, s => ⟨_, execHomeExerciseRun_keeps t n (keeps_refl _ s) may_self⟩
  | .releaseStart t n, s => ⟨_, execReleaseStart_keeps t n (keeps_refl _ s) may_self⟩
  | .followEngage h n, s => ⟨_, execFollowEngage_keeps h n (keeps_refl _ s) may_self⟩
  | .followDisengage h n, s => ⟨_, execFollowDisengage_keeps h n (keeps_refl _ s) may_self⟩
  | .ratioChange h n den v, s => ⟨_, execRatioChange_keeps h n den v (keeps_refl _ s) may_self⟩
  | .stepEdge t pair dirHigh dirAge, s => ⟨_, execStepEdge_keeps t pair dirHigh dirAge (keeps_refl _ s) may_self⟩
  | .pairFault t pair on, s => ⟨_, execPairFault_keeps t pair on (keeps_refl _ s) may_self⟩
  | .streamTimeout t n, s => ⟨_, execStreamTimeout_keeps t n (keeps_refl _ s) may_self⟩
  | .chopperPeak t n ph, s => ⟨_, execChopperPeak_keeps t n ph (keeps_refl _ s) may_self⟩
  | .chopperValley t n ph, s => ⟨_, execChopperValley_keeps t n ph (keeps_refl _ s) may_self⟩
  | .offTimeMax t n ph, s => ⟨_, execOffTimeMax_keeps t n ph (keeps_refl _ s) may_self⟩
  | .refSignChange t n ph, s => ⟨_, execRefSignChange_keeps t n ph (keeps_refl _ s) may_self⟩
  | .fastBelowTwoCodes t n ph, s => ⟨_, execFastBelowTwoCodes_keeps t n ph (keeps_refl _ s) may_self⟩
  | .adaptReset h n, s => ⟨_, execAdaptReset_keeps h n (keeps_refl _ s) may_self⟩
  | .adaptEnable h n v, s => ⟨_, execAdaptEnable_keeps h n v (keeps_refl _ s) may_self⟩
  | .learnStart h n, s => ⟨_, execLearnStart_keeps h n (keeps_refl _ s) may_self⟩
  | .learnAbort h n, s => ⟨_, execLearnAbort_keeps h n (keeps_refl _ s) may_self⟩
  | .learnLegEnd t n, s => ⟨_, execLearnLegEnd_keeps t n (keeps_refl _ s) may_self⟩
  | .stallRelease h n, s => ⟨_, execStallRelease_keeps h n (keeps_refl _ s) may_self⟩
  | .driveEnable h n, s => ⟨_, execDriveEnable_keeps h n (keeps_refl _ s) may_self⟩
  | .driveDisable h n, s => ⟨_, execDriveDisable_keeps h n (keeps_refl _ s) may_self⟩
  | .rearm h n, s => ⟨_, execRearm_keeps h n (keeps_refl _ s) may_self⟩
  | .diagStart h n, s => ⟨_, execDiagStart_keeps h n (keeps_refl _ s) may_self⟩
  | .diagAll h, s => ⟨_, execDiagAll_keeps h (keeps_refl _ s) may_self⟩
  | .diagTestStart t k, s => ⟨_, execDiagTestStart_keeps t k (keeps_refl _ s) may_self⟩
  | .diagEnd t k volts busLow, s => ⟨_, execDiagEnd_keeps t k volts busLow (keeps_refl _ s) may_self⟩
  | .ocRetry n, s => ⟨_, execOcRetry_keeps n (keeps_refl _ s) may_self⟩
  | .retryCountReset n, s => ⟨_, execRetryCountReset_keeps n (keeps_refl _ s) may_self⟩
  | .directModeEnter h n, s => ⟨_, execDirectModeEnter_keeps h n (keeps_refl _ s) may_self⟩
  | .directModeExit h n, s => ⟨_, execDirectModeExit_keeps h n (keeps_refl _ s) may_self⟩
  | .directFire h n, s => ⟨_, execDirectFire_keeps h n (keeps_refl _ s) may_self⟩
  | .directPulseEnd t n, s => ⟨_, execDirectPulseEnd_keeps t n (keeps_refl _ s) may_self⟩
  | .overcurrent t n switches, s => ⟨_, execOvercurrent_keeps t n switches (keeps_refl _ s) may_self⟩
  | .bootstrapRefresh t n hs vbs, s => ⟨_, execBootstrapRefresh_keeps t n hs vbs (keeps_refl _ s) may_self⟩
  | .bootstrapRefreshEnd t n hs vbs, s => ⟨_, execBootstrapRefreshEnd_keeps t n hs vbs (keeps_refl _ s) may_self⟩
  | .bootstrapLow t n hs vbs, s => ⟨_, execBootstrapLow_keeps t n hs vbs (keeps_refl _ s) may_self⟩
  | .pumpFail t k, s => ⟨_, execPumpFail_keeps t k (keeps_refl _ s) may_self⟩
  | .openPhase n ph, s => ⟨_, execOpenPhase_keeps n ph (keeps_refl _ s) may_self⟩
  | .dieHot t k, s => ⟨_, execDieHot_keeps t k (keeps_refl _ s) may_self⟩
  | .dieShutdown t k, s => ⟨_, execDieShutdown_keeps t k (keeps_refl _ s) may_self⟩
  | .dieCooled t k, s => ⟨_, execDieCooled_keeps t k (keeps_refl _ s) may_self⟩
  | .busLow t v, s => ⟨_, execBusLow_keeps t v (keeps_refl _ s) may_self⟩
  | .busUndervoltage t v, s => ⟨_, execBusUndervoltage_keeps t v (keeps_refl _ s) may_self⟩
  | .busRecovered t v, s => ⟨_, execBusRecovered_keeps t v (keeps_refl _ s) may_self⟩
  | .busHigh t v, s => ⟨_, execBusHigh_keeps t v (keeps_refl _ s) may_self⟩
  | .busOvervoltage t dies v, s => ⟨_, execBusOvervoltage_keeps t dies v (keeps_refl _ s) may_self⟩
  | .shortBrakeEnd t dies v, s => ⟨_, execShortBrakeEnd_keeps t dies v (keeps_refl _ s) may_self⟩
  | .enaRemoved t input, s => ⟨_, execEnaRemoved_keeps t input (keeps_refl _ s) may_self⟩
  | .enaRestored t input, s => ⟨_, execEnaRestored_keeps t input (keeps_refl _ s) may_self⟩
  | .enaDiscrepancy t, s => ⟨_, execEnaDiscrepancy_keeps t (keeps_refl _ s) may_self⟩
  | .quadratureEdge t c a b, s => ⟨_, execQuadratureEdge_keeps t c a b (keeps_refl _ s) may_self⟩
  | .index t c, s => ⟨_, execIndex_keeps t c (keeps_refl _ s) may_self⟩
  | .speedTimeout t c, s => ⟨_, execSpeedTimeout_keeps t c (keeps_refl _ s) may_self⟩
  | .ssiFrameStart t c dataHigh, s => ⟨_, execSsiFrameStart_keeps t c dataHigh (keeps_refl _ s) may_self⟩
  | .ssiFrameArrival t c word mono, s => ⟨_, execSsiFrameArrival_keeps t c word mono (keeps_refl _ s) may_self⟩
  | .ssiMonoTimeout t c, s => ⟨_, execSsiMonoTimeout_keeps t c (keeps_refl _ s) may_self⟩
  | .ssiDeadline t c, s => ⟨_, execSsiDeadline_keeps t c (keeps_refl _ s) may_self⟩
  | .lineFault t c pair, s => ⟨_, execLineFault_keeps t c pair (keeps_refl _ s) may_self⟩
  | .chPreset h c v, s => ⟨_, execChPreset_keeps h c v (keeps_refl _ s) may_self⟩
  | .fbAlign h n, s => ⟨_, execFbAlign_keeps h n (keeps_refl _ s) may_self⟩
  | .latchSrc h c v, s => ⟨_, execLatchSrc_keeps h c v (keeps_refl _ s) may_self⟩
  | .latchCapture t c, s => ⟨_, execLatchCapture_keeps t c (keeps_refl _ s) may_self⟩
  | .senseEdge t i0 high, s => ⟨_, execSenseEdge_keeps t i0 high (keeps_refl _ s) may_self⟩
  | .conversionTrigger t, s => ⟨_, execConversionTrigger_keeps t (keeps_refl _ s) may_self⟩
  | .conversionComplete t c code, s => ⟨_, execConversionComplete_keeps t c code (keeps_refl _ s) may_self⟩
  | .harvest t c, s => ⟨_, execHarvest_keeps t c (keeps_refl _ s) may_self⟩
  | .urgentReq h c v, s => ⟨_, execUrgentReq_keeps h c v (keeps_refl _ s) may_self⟩
  | .cvRestart h c, s => ⟨_, execCvRestart_keeps h c (keeps_refl _ s) may_self⟩
  | .cvSelfCheckDone t c ground dac, s => ⟨_, execCvSelfCheckDone_keeps t c ground dac (keeps_refl _ s) may_self⟩
  | .calZeroPoint h, s => ⟨_, execCalZeroPoint_keeps h (keeps_refl _ s) may_self⟩
  | .calFullPoint h, s => ⟨_, execCalFullPoint_keeps h (keeps_refl _ s) may_self⟩
  | .calCompute h, s => ⟨_, execCalCompute_keeps h (keeps_refl _ s) may_self⟩
  | .calPointDone t mean oor, s => ⟨_, execCalPointDone_keeps t mean oor (keeps_refl _ s) may_self⟩
  | .calStore h, s => ⟨_, execCalStore_keeps h (keeps_refl _ s) may_self⟩
  | .oNop u, s => ⟨_, execONop_keeps u (keeps_refl _ s) may_self⟩
  | .oAdd u d a b, s => ⟨_, execOAdd_keeps u d a b (keeps_refl _ s) may_self⟩
  | .oSub u d a b, s => ⟨_, execOSub_keeps u d a b (keeps_refl _ s) may_self⟩
  | .oAnd u d a b, s => ⟨_, execOAnd_keeps u d a b (keeps_refl _ s) may_self⟩
  | .oOr u d a b, s => ⟨_, execOOr_keeps u d a b (keeps_refl _ s) may_self⟩
  | .oXor u d a b, s => ⟨_, execOXor_keeps u d a b (keeps_refl _ s) may_self⟩
  | .oShl u d a b, s => ⟨_, execOShl_keeps u d a b (keeps_refl _ s) may_self⟩
  | .oShr u d a b, s => ⟨_, execOShr_keeps u d a b (keeps_refl _ s) may_self⟩
  | .oSra u d a b, s => ⟨_, execOSra_keeps u d a b (keeps_refl _ s) may_self⟩
  | .oMin u d a b, s => ⟨_, execOMin_keeps u d a b (keeps_refl _ s) may_self⟩
  | .oMax u d a b, s => ⟨_, execOMax_keeps u d a b (keeps_refl _ s) may_self⟩
  | .oAddw u d a b, s => ⟨_, execOAddw_keeps u d a b (keeps_refl _ s) may_self⟩
  | .oSubw u d a b, s => ⟨_, execOSubw_keeps u d a b (keeps_refl _ s) may_self⟩
  | .oCtxn u d, s => ⟨_, execOCtxn_keeps u d (keeps_refl _ s) may_self⟩
  | .oArg u d, s => ⟨_, execOArg_keeps u d (keeps_refl _ s) may_self⟩
  | .oCallp u d, s => ⟨_, execOCallp_keeps u d (keeps_refl _ s) may_self⟩
  | .oAddi u d a imm, s => ⟨_, execOAddi_keeps u d a imm (keeps_refl _ s) may_self⟩
  | .oAndi u d a imm, s => ⟨_, execOAndi_keeps u d a imm (keeps_refl _ s) may_self⟩
  | .oOri u d a imm, s => ⟨_, execOOri_keeps u d a imm (keeps_refl _ s) may_self⟩
  | .oXori u d a imm, s => ⟨_, execOXori_keeps u d a imm (keeps_refl _ s) may_self⟩
  | .oShli u d a imm, s => ⟨_, execOShli_keeps u d a imm (keeps_refl _ s) may_self⟩
  | .oShri u d a imm, s => ⟨_, execOShri_keeps u d a imm (keeps_refl _ s) may_self⟩
  | .oSrai u d a imm, s => ⟨_, execOSrai_keeps u d a imm (keeps_refl _ s) may_self⟩
  | .oMovi u d imm, s => ⟨_, execOMovi_keeps u d imm (keeps_refl _ s) may_self⟩
  | .oOrhi u d a imm, s => ⟨_, execOOrhi_keeps u d a imm (keeps_refl _ s) may_self⟩
  | .oDone u, s => ⟨_, execODone_keeps u (keeps_refl _ s) may_self⟩
  | .oMul u d a b, s => ⟨_, execOMul_keeps u d a b (keeps_refl _ s) may_self⟩
  | .oMulu u d a b, s => ⟨_, execOMulu_keeps u d a b (keeps_refl _ s) may_self⟩
  | .oEnd u, s => ⟨_, execOEnd_keeps u (keeps_refl _ s) may_self⟩
  | .oBeq u a b off, s => ⟨_, execOBeq_keeps u a b off (keeps_refl _ s) may_self⟩
  | .oBne u a b off, s => ⟨_, execOBne_keeps u a b off (keeps_refl _ s) may_self⟩
  | .oBlt u a b off, s => ⟨_, execOBlt_keeps u a b off (keeps_refl _ s) may_self⟩
  | .oBge u a b off, s => ⟨_, execOBge_keeps u a b off (keeps_refl _ s) may_self⟩
  | .oBltu u a b off, s => ⟨_, execOBltu_keeps u a b off (keeps_refl _ s) may_self⟩
  | .oBgeu u a b off, s => ⟨_, execOBgeu_keeps u a b off (keeps_refl _ s) may_self⟩
  | .oBra u off, s => ⟨_, execOBra_keeps u off (keeps_refl _ s) may_self⟩
  | .oLoop u count, s => ⟨_, execOLoop_keeps u count (keeps_refl _ s) may_self⟩
  | .oEndl u, s => ⟨_, execOEndl_keeps u (keeps_refl _ s) may_self⟩
  | .oLidx u d, s => ⟨_, execOLidx_keeps u d (keeps_refl _ s) may_self⟩
  | .oTime u d, s => ⟨_, execOTime_keeps u d (keeps_refl _ s) may_self⟩
  | .oRtime u d, s => ⟨_, execORtime_keeps u d (keeps_refl _ s) may_self⟩
  | .oMode u d, s => ⟨_, execOMode_keeps u d (keeps_refl _ s) may_self⟩
  | .oLdl u l ecc, s => ⟨_, execOLdl_keeps u l ecc (keeps_refl _ s) may_self⟩
  | .oLdlw u l ecc, s => ⟨_, execOLdlw_keeps u l ecc (keeps_refl _ s) may_self⟩
  | .oStl u l, s => ⟨_, execOStl_keeps u l (keeps_refl _ s) may_self⟩
  | .oStlw u l, s => ⟨_, execOStlw_keeps u l (keeps_refl _ s) may_self⟩
  | .oPush u d q e, s => ⟨_, execOPush_keeps u d q e (keeps_refl _ s) may_self⟩
  | .oPop u d q, s => ⟨_, execOPop_keeps u d q (keeps_refl _ s) may_self⟩
  | .oQdep u d q, s => ⟨_, execOQdep_keeps u d q (keeps_refl _ s) may_self⟩
  | .oObjr u d entry half, s => ⟨_, execOObjr_keeps u d entry half (keeps_refl _ s) may_self⟩
  | .oObjw u d entry, s => ⟨_, execOObjw_keeps u d entry (keeps_refl _ s) may_self⟩
  | .imageSel h v, s => ⟨_, execImageSel_keeps h v (keeps_refl _ s) may_self⟩
  | .imageOffset h v, s => ⟨_, execImageOffset_keeps h v (keeps_refl _ s) may_self⟩
  | .imageChunk h bytes, s => ⟨_, execImageChunk_keeps h bytes (keeps_refl _ s) may_self⟩
  | .imageClose h len, s => ⟨_, execImageClose_keeps h len (keeps_refl _ s) may_self⟩
  | .imageCloseDone t, s => ⟨_, execImageCloseDone_keeps t (keeps_refl _ s) may_self⟩
  | .imageErase h v, s => ⟨_, execImageErase_keeps h v (keeps_refl _ s) may_self⟩
  | .swapStart h v, s => ⟨_, execSwapStart_keeps h v (keeps_refl _ s) may_self⟩
  | .swapComplete, s => ⟨_, execSwapComplete_keeps (keeps_refl _ s) may_self⟩
  | .queuePointer t q ptr, s => ⟨_, execQueuePointer_keeps t q ptr (keeps_refl _ s) may_self⟩
  | .basinEcc t q off, s => ⟨_, execBasinEcc_keeps t q off (keeps_refl _ s) may_self⟩
  | .release h q, s => ⟨_, execRelease_keeps h q (keeps_refl _ s) may_self⟩
  | .mailPush h m bytes, s => ⟨_, execMailPush_keeps h m bytes (keeps_refl _ s) may_self⟩
  | .captureFetch h v, s => ⟨_, execCaptureFetch_keeps h v (keeps_refl _ s) may_self⟩
  | .frameArrival t port f fcsOk hop, s => ⟨_, execFrameArrival_keeps t port f fcsOk hop (keeps_refl _ s) may_self⟩
  | .gatewayFrameIn t f fcsOk, s => ⟨_, execGatewayFrameIn_keeps t f fcsOk (keeps_refl _ s) may_self⟩
  | .ownFrameSend t waited, s => ⟨_, execOwnFrameSend_keeps t waited (keeps_refl _ s) may_self⟩
  | .sweep t port f fcsOk hop, s => ⟨_, execSweep_keeps t port f fcsOk hop (keeps_refl _ s) may_self⟩
  | .timeDistribution t port f fcsOk hop idle stamp, s => ⟨_, execTimeDistribution_keeps t port f fcsOk hop idle stamp (keeps_refl _ s) may_self⟩
  | .linkProbeSend t port phase, s => ⟨_, execLinkProbeSend_keeps t port phase (keeps_refl _ s) may_self⟩
  | .linkProbe t port t1 t2 phase, s => ⟨_, execLinkProbe_keeps t port t1 t2 phase (keeps_refl _ s) may_self⟩
  | .linkProbeAnswer t port t1 t2 t3 phase, s => ⟨_, execLinkProbeAnswer_keeps t port t1 t2 t3 phase (keeps_refl _ s) may_self⟩
  | .note t port f fcsOk hop, s => ⟨_, execNote_keeps t port f fcsOk hop (keeps_refl _ s) may_self⟩
  | .gwTimeout t tag, s => ⟨_, execGwTimeout_keeps t tag (keeps_refl _ s) may_self⟩
  | .linkLost t port partly, s => ⟨_, execLinkLost_keeps t port partly (keeps_refl _ s) may_self⟩
  | .linkUp t port amplitude, s => ⟨_, execLinkUp_keeps t port amplitude (keeps_refl _ s) may_self⟩
  | .linkHeld t port, s => ⟨_, execLinkHeld_keeps t port (keeps_refl _ s) may_self⟩
  | .resetNLow, s => ⟨_, execResetNLow_keeps (keeps_refl _ s) may_self⟩
  | .logicSupplyLost, s => ⟨_, execLogicSupplyLost_keeps (keeps_refl _ s) may_self⟩
  | .resetRequest h v, s => ⟨_, execResetRequest_keeps h v (keeps_refl _ s) may_self⟩
  | .resetRelease w, s => ⟨_, execResetRelease_keeps w (keeps_refl _ s) may_self⟩
  | .bootEnd w, s => ⟨_, execBootEnd_keeps w (keeps_refl _ s) may_self⟩
  | .armingComplete, s => ⟨_, execArmingComplete_keeps (keeps_refl _ s) may_self⟩
  | .autoRun, s => ⟨_, execAutoRun_keeps (keeps_refl _ s) may_self⟩
  | .modeRequestConfigure h, s => ⟨_, execModeRequestConfigure_keeps h (keeps_refl _ s) may_self⟩
  | .modeRequestCalibrate h, s => ⟨_, execModeRequestCalibrate_keeps h (keeps_refl _ s) may_self⟩
  | .modeRequestArmed h, s => ⟨_, execModeRequestArmed_keeps h (keeps_refl _ s) may_self⟩
  | .modeRequestRun h, s => ⟨_, execModeRequestRun_keeps h (keeps_refl _ s) may_self⟩
  | .modeRequestSafe h, s => ⟨_, execModeRequestSafe_keeps h (keeps_refl _ s) may_self⟩
  | .modeRequestLockout h, s => ⟨_, execModeRequestLockout_keeps h (keeps_refl _ s) may_self⟩
  | .modeRequestStandby h, s => ⟨_, execModeRequestStandby_keeps h (keeps_refl _ s) may_self⟩
  | .islandTimeout, s => ⟨_, execIslandTimeout_keeps (keeps_refl _ s) may_self⟩
  | .islandHold, s => ⟨_, execIslandHold_keeps (keeps_refl _ s) may_self⟩
  | .safeEntry, s => ⟨_, execSafeEntry_keeps (keeps_refl _ s) may_self⟩
  | .lockoutClear h v, s => ⟨_, execLockoutClear_keeps h v (keeps_refl _ s) may_self⟩
  | .standbyEntered, s => ⟨_, execStandbyEntered_keeps (keeps_refl _ s) may_self⟩
  | .wake, s => ⟨_, execWake_keeps (keeps_refl _ s) may_self⟩
  | .logWrite t, s => ⟨_, execLogWrite_keeps t (keeps_refl _ s) may_self⟩
  | .incidentClose, s => ⟨_, execIncidentClose_keeps (keeps_refl _ s) may_self⟩
  | .shadowEnd t first, s => ⟨_, execShadowEnd_keeps t first (keeps_refl _ s) may_self⟩
  | .dualRail t k tripPath, s => ⟨_, execDualRail_keeps t k tripPath (keeps_refl _ s) may_self⟩
  | .railTestEnd t k tripPath followsP followsN, s => ⟨_, execRailTestEnd_keeps t k tripPath followsP followsN (keeps_refl _ s) may_self⟩
  | .linkParity t k secondFails, s => ⟨_, execLinkParity_keeps t k secondFails (keeps_refl _ s) may_self⟩
  | .injectArm h v, s => ⟨_, execInjectArm_keeps h v (keeps_refl _ s) may_self⟩
  | .injectionLapse t, s => ⟨_, execInjectionLapse_keeps t (keeps_refl _ s) may_self⟩
  | .tripiRise t, s => ⟨_, execTripiRise_keeps t (keeps_refl _ s) may_self⟩
  | .tripiFall t, s => ⟨_, execTripiFall_keeps t (keeps_refl _ s) may_self⟩
  | .rootLost t, s => ⟨_, execRootLost_keeps t (keeps_refl _ s) may_self⟩
  | .rootRestored t, s => ⟨_, execRootRestored_keeps t (keeps_refl _ s) may_self⟩
  | .backupTrim t ppb, s => ⟨_, execBackupTrim_keeps t ppb (keeps_refl _ s) may_self⟩
  | .pllSwitch t, s => ⟨_, execPllSwitch_keeps t (keeps_refl _ s) may_self⟩
  | .holdoverEntry t, s => ⟨_, execHoldoverEntry_keeps t (keeps_refl _ s) may_self⟩
  | .holdoverLimit t, s => ⟨_, execHoldoverLimit_keeps t (keeps_refl _ s) may_self⟩
  | .syncOutputPulse t, s => ⟨_, execSyncOutputPulse_keeps t (keeps_refl _ s) may_self⟩
  | .syncPulseEnd t, s => ⟨_, execSyncPulseEnd_keeps t (keeps_refl _ s) may_self⟩
  | .syncInputEdge t, s => ⟨_, execSyncInputEdge_keeps t (keeps_refl _ s) may_self⟩
  | .traceWordOut t, s => ⟨_, execTraceWordOut_keeps t (keeps_refl _ s) may_self⟩
  | .dropRecord t, s => ⟨_, execDropRecord_keeps t (keeps_refl _ s) may_self⟩
  | .counterFreeze h, s => ⟨_, execCounterFreeze_keeps h (keeps_refl _ s) may_self⟩
  | .feedRestored t feed, s => ⟨_, execFeedRestored_keeps t feed (keeps_refl _ s) may_self⟩
  | .logicBuckRestored t buck, s => ⟨_, execLogicBuckRestored_keeps t buck (keeps_refl _ s) may_self⟩
  | .auxRestored t, s => ⟨_, execAuxRestored_keeps t (keeps_refl _ s) may_self⟩
  | .flashBankRestored t bank, s => ⟨_, execFlashBankRestored_keeps t bank (keeps_refl _ s) may_self⟩
  | .takeoverComplete t, s => ⟨_, execTakeoverComplete_keeps t (keeps_refl _ s) may_self⟩
  | .bothPllsLoseLock, s => ⟨_, execBothPllsLoseLock_keeps (keeps_refl _ s) may_self⟩
  | .activeHeadLapse t, s => ⟨_, execActiveHeadLapse_keeps t (keeps_refl _ s) may_self⟩
  | .lpLinkLost t, s => ⟨_, execLpLinkLost_keeps t (keeps_refl _ s) may_self⟩
  | .requestedResetEntry t, s => ⟨_, execRequestedResetEntry_keeps t (keeps_refl _ s) may_self⟩
  | .lineFaultEnd t c, s => ⟨_, execLineFaultEnd_keeps t c (keeps_refl _ s) may_self⟩
  | .dieHotEnd t k, s => ⟨_, execDieHotEnd_keeps t k (keeps_refl _ s) may_self⟩
  | .busHighEnd t v, s => ⟨_, execBusHighEnd_keeps t v (keeps_refl _ s) may_self⟩

theorem orwynAt_answers {s : State} {c : Instr} {u : RunUnit} {f : State → Run → State × Run} (h : orwynOk c = true) :
    ∃ t, s.orwynAt c u f = .next t := by
  unfold State.orwynAt
  dsimp only
  split
  · exact ⟨_, if_pos h⟩
  · exact ⟨_, rfl⟩

/-- The state that a command answers is written out in its row; the instructions whose fields may form no word answer one where they do (R242). -/
theorem exec_answers (c : Instr) (s : State) (h : orwynOk c = true) : ∃ t, exec c s = .next t := by
  cases c with
  | oTime | oRtime | oMode | oLdl | oLdlw | oObjr => exact orwynAt_answers h
  | oAddw | oSubw | oArg | oShli | oShri | oSrai | oMul | oMulu | oBeq | oBne | oBlt | oBge | oBltu | oBgeu | oBra | oStlw | oPush | oPop =>
    exact ⟨_, if_pos h⟩
  | _ => exact ⟨_, rfl⟩

/-- A well-formed command is no instruction, or its fields form a word. -/
theorem orwynOk_of_wf {c : Instr} (h : c.wf = true) : orwynOk c = true := by
  cases c with
  | frameArrival | gatewayFrameIn | sweep | note | timeDistribution => rfl
  | _ => exact h

/-- A well-formed command answers a state in which the same commands wait and the canonical form is kept. -/
theorem exec_of_wf {c : Instr} (s : State) (h : c.wf = true) :
    ∃ t, exec c s = .next t ∧ t.pending = s.pending ∧ (s.Canonical → t.Canonical) := by
  obtain ⟨t, run⟩ := exec_answers c s (orwynOk_of_wf h)
  obtain ⟨m, kept⟩ := exec_keeps c s
  exact ⟨t, run, (kept.next t run).pend, (kept.next t run).can⟩

/-- Settles O4: each row answers a state, and no row writes the queue of waiting commands. -/
theorem wellFormedCommandsAnswer : Obligations.WellFormedCommandsAnswer := by
  unfold Obligations.WellFormedCommandsAnswer
  intro c s h
  obtain ⟨t, run, pend, -⟩ := exec_of_wf s h
  exact ⟨t, run, pend⟩

/-- Which commands wait is no part of the canonical form. -/
theorem State.Canonical.of_pending {s : State} (h : s.Canonical) (l : List Instr) : { s with pending := l }.Canonical := by
  cases h
  constructor <;> assumption

/-- One step takes the front command off the queue. -/
theorem step_of_wf {s : State} (can : s.Canonical) (wf : ∀ c ∈ s.pending, c.wf = true) :
    ∃ t, step s = .next t ∧ t.Canonical ∧ t.pending = s.pending.tail := by
  unfold step
  cases hp : s.pending with
  | nil => exact ⟨s, rfl, can, hp⟩
  | cons c rest =>
    obtain ⟨t, run, pend, canon⟩ := exec_of_wf { s with pending := rest } (wf c (hp ▸ List.mem_cons_self))
    exact ⟨t, run, canon (can.of_pending rest), pend⟩

/-- Settles O5, by induction on the number of steps: a step from a canonical state whose waiting commands are well formed leads to such a
state again. -/
theorem wellFormedQueuesRunSafely : Obligations.WellFormedQueuesRunSafely := by
  unfold Obligations.WellFormedQueuesRunSafely
  intro s k can wf
  induction k generalizing s with
  | zero => exact ⟨s, rfl, can, rfl⟩
  | succ k ih =>
    obtain ⟨t, run, canT, pendT⟩ := step_of_wf can wf
    obtain ⟨u, rest, canU, pendU⟩ := ih t canT (fun c hc => wf c (List.mem_of_mem_tail (pendT ▸ hc)))
    refine ⟨u, ?_, canU, by rw [pendU, pendT, List.drop_tail]⟩
    simpa only [Host.Core.run, show core.step s = .next t from run] using rest

end Sys2Proof.Machine
end

section
/-! PROOFS. Masks as lists of registers: `mayRegs l` allows those of `l`, and what a mask allows gives the frames of the statements. -/
namespace Sys2Proof.Machine

set_option Elab.async false

-- masks and lists of registers

/-- The mask of a list of registers. -/
def mayRegs (l : List Reg) : Nat := l.foldr (fun r m => may r ||| m) 0

/-- The tables of the fault log, which a detection may change. -/
def mayLog : Nat := may_queues ||| may_log ||| may_opens ||| may_shadows ||| may_fresh ||| may_freshAt ||| may_freeCtr ||| may_was

/-- Every table. -/
def mayTables : Nat := (2 ^ 35 - 1) * 2 ^ 2001

theorem Reg.ctorIdx_lt_tables (r : Reg) : r.ctorIdx < 2001 :=
  Nat.lt_trans (m := 1500) (by cases r <;> decide) (by decide)

theorem mayTables_testBit (r : Reg) : mayTables.testBit r.ctorIdx = false := by
  rw [mayTables, Nat.testBit_mul_two_pow, decide_eq_false (Nat.not_le.mpr r.ctorIdx_lt_tables), Bool.false_and]

theorem mayRegs_testBit (l : List Reg) (r : Reg) (h : r ∉ l) : (mayRegs l).testBit r.ctorIdx = false := by
  induction l with
  | nil => exact Nat.zero_testBit _
  | cons q l ih =>
    obtain ⟨hq, hl⟩ := List.ne_and_not_mem_of_not_mem_cons h
    have apart : q.ctorIdx ≠ r.ctorIdx := fun e => hq (Reg.ctorIdx_inj e.symm)
    rw [mayRegs, List.foldr_cons, Nat.testBit_or, may, Nat.testBit_two_pow_of_ne apart, Bool.false_or]
    exact ih hl

section
variable {m : Nat} {s t : State} (h : Keeps m s t)
include h

/-- A mask of registers and tables allows no register but those. -/
theorem Keeps.onlyRegs (l : List Reg) (hm : m &&& (mayRegs l ||| mayTables) = m := by decide +kernel) : s.OnlyRegs t l := fun r i hr =>
  (h.mono hm).rd r i (by rw [Nat.testBit_or, mayRegs_testBit l r hr, mayTables_testBit, Bool.or_self])

/-- What is left where neither the fault log nor the ports nor the runs of programs count. -/
theorem Keeps.rest (hm : m &&& (mayAll ||| mayLog ||| may_runs ||| may_wire ||| may_delays ||| may_gateway) = m := by decide +kernel) :
    { t with wire := s.wire, delays := s.delays, gateway := s.gateway, runs := s.runs, regs := s.regs, queues := s.queues, log := s.log
             opens := s.opens, shadows := s.shadows, fresh := s.fresh, freshAt := s.freshAt, freeCtr := s.freeCtr, was := s.was } = s := by
  have h := h.mono hm
  simp only [h.pend, h.ledger (by decide +kernel), h.staged (by decide +kernel), h.planners (by decide +kernel), h.streams (by decide +kernel),
    h.slopes (by decide +kernel), h.bankA (by decide +kernel), h.bankB (by decide +kernel), h.planCopy (by decide +kernel),
    h.fallback (by decide +kernel), h.loading (by decide +kernel), h.progs (by decide +kernel), h.cutoffs (by decide +kernel),
    h.safes (by decide +kernel), h.calls (by decide +kernel), h.diag (by decide +kernel), h.images (by decide +kernel),
    h.chunks (by decide +kernel), h.flash (by decide +kernel), h.newSet (by decide +kernel), h.tags (by decide +kernel),
    h.deferred (by decide +kernel), h.traceBuf (by decide +kernel), h.traceOut (by decide +kernel)]

/-- A mask of the fault log's tables alone. -/
theorem Keeps.logOnly (hm : m &&& (mayAll ||| mayLog) = m := by decide +kernel) : s.LogOnly t := by
  have h := h.mono hm
  have rest := h.rest
  rwa [← h.wire (by decide +kernel), ← h.delays (by decide +kernel), ← h.gateway (by decide +kernel), ← h.runs (by decide +kernel)] at rest

end

end Sys2Proof.Machine
end

section
/-! PROOFS. Rules of the shared operations: what a bit, a counter, a cause, a loss in REDUNDANCY and the mode read after each of them. Every other
register is read through by the mask of the operation's Keeps lemma. -/
namespace Sys2Proof.Machine

set_option Elab.async false

-- bits

theorem State.rd_wr_same (s : State) (r : Reg) (i : Nat) (v : Int) : (s.wr r i v).rd r i = v := by
  rw [State.rd_wr, if_pos ⟨rfl, rfl⟩]

theorem State.rd_wr_ne (s : State) {r q : Reg} (i j : Nat) (v : Int) (h : q ≠ r) : (s.wr r i v).rd q j = s.rd q j := by
  rw [State.rd_wr, if_neg (fun e => h e.1)]

theorem State.bit_congr {s t : State} {r : Reg} {i : Nat} (h : t.rd r i = s.rd r i) (b : Nat) : t.bit r i b = s.bit r i b := by
  rw [State.bit, State.bit, State.rdN, State.rdN, h]

theorem State.bit_wrBit (s : State) (r : Reg) (i b : Nat) (v : Bool) (j c : Nat) :
    (s.wrBit r i b v).bit r j c = if j = i ∧ c = b then v else s.bit r j c := by
  by_cases hj : j = i
  · subst hj
    rw [State.wrBit, State.bit, State.rdN, State.rd_wr_same, Int.toNat_natCast, State.bit]
    by_cases hc : c = b <;> cases v <;> simp [Nat.testBit_or, Nat.testBit_xor, Nat.testBit_and, hc, Ne.symm]
  · rw [if_neg (fun e => hj e.1)]
    exact State.bit_congr (by rw [State.wrBit, State.rd_wr, if_neg (fun e => hj e.2)]) c

theorem State.rd_wrBit_ne (s : State) {r q : Reg} (i b : Nat) (v : Bool) (j : Nat) (h : q ≠ r) : (s.wrBit r i b v).rd q j = s.rd q j :=
  State.rd_wr_ne s i j _ h

theorem State.bit_raise (s : State) (r : Reg) (i m j c : Nat) :
    (s.raise r i m).bit r j c = (s.bit r j c || (decide (j = i) && m.testBit c)) := by
  have e : (s.raise r i m).rd r j = (s.wr r i (s.rdN r i ||| m : Nat)).rd r j := rfl
  by_cases hj : j = i
  · subst hj
    rw [State.bit, State.rdN, e, State.rd_wr_same, Int.toNat_natCast, Nat.testBit_or, State.bit, decide_eq_true rfl, Bool.true_and]
  · rw [State.bit, State.rdN, e, State.rd_wr, if_neg (fun h => hj h.2), State.bit, State.rdN, decide_eq_false hj, Bool.false_and, Bool.or_false]

theorem State.rd_raise_ne (s : State) {r q : Reg} (i m j : Nat) (h : q ≠ r) : (s.raise r i m).rd q j = s.rd q j := State.rd_wr_ne s i j _ h

/-- A counter of 32 bits below its top counts one on. -/
theorem State.count_one {s : State} {r : Reg} {i : Nat} (h : s.rd r i + 1 < 2 ^ 32) : s.count r i = s.wr r i (s.rd r i + 1) := if_pos h

theorem State.rd_tally_ne (s : State) {q : Reg} (k n j : Nat) (h : q ≠ .COUNTER) : (s.tally k n).rd q j = s.rd q j := State.rd_wr_ne s k j _ h

-- detections

/-- What `detect` writes of the cause itself, before the record. -/
def State.noteCause (s : State) (b c : Nat) : State :=
  let s := s.raise .CAUSES_LATCHED b (2 ^ c)
  if persists b c then s.wrBit .CAUSES_PRESENT b c true else s

/-- A detection notes its cause, then merges into the open record of its block or posts one (R336–R339). -/
theorem detect_cases (s : State) (b c data : Nat) (opens : Bool) :
    (∃ o, s.detect b c data opens = (s.noteCause b c).mergeInto b c o) ∨ s.detect b c data opens = (s.noteCause b c).post b c data opens := by
  unfold State.detect
  lift_lets
  intro raised noted
  split
  · split
    · exact .inl ⟨_, rfl⟩
    · exact .inr rfl
  · exact .inr rfl

/-- The record of a detection leaves the causes alone. -/
theorem detect_keeps_causes (s : State) (b c data : Nat) (opens : Bool) :
    Keeps (State.mergeInto_may ||| State.post_may) (s.noteCause b c) (s.detect b c data opens) := by
  have same := keeps_refl (State.mergeInto_may ||| State.post_may) (s.noteCause b c)
  obtain ⟨o, e⟩ | e := detect_cases s b c data opens <;> rw [e]
  · exact mergeInto_keeps b c o same
  · exact post_keeps b c data opens same

theorem noteCause_present (s : State) (b c a k : Nat) :
    (s.noteCause b c).bit .CAUSES_PRESENT a k = if (a = b ∧ k = c) ∧ persists b c = true then true else s.bit .CAUSES_PRESENT a k := by
  have raised : (s.raise .CAUSES_LATCHED b (2 ^ c)).bit .CAUSES_PRESENT a k = s.bit .CAUSES_PRESENT a k :=
    State.bit_congr (State.rd_raise_ne s b _ a (by decide)) k
  unfold State.noteCause
  dsimp only
  split
  · next p => simp only [State.bit_wrBit, raised, p, and_true]
  · next p => rw [raised, if_neg (fun e => p e.2)]

theorem noteCause_latched (s : State) (b c a k : Nat) :
    (s.noteCause b c).bit .CAUSES_LATCHED a k = (s.bit .CAUSES_LATCHED a k || (decide (a = b) && decide (c = k))) := by
  rw [← Nat.testBit_two_pow (n := c), ← State.bit_raise]
  unfold State.noteCause
  dsimp only
  split
  · exact State.bit_congr (State.rd_wrBit_ne _ b c true a (by decide)) k
  · rfl

section
variable (s : State) (b c data : Nat) (opens : Bool) (a k : Nat)

/-- A cause that persists is present from its detection on; every other cause stays as it was. -/
theorem detect_present : (s.detect b c data opens).bit .CAUSES_PRESENT a k =
    if (a = b ∧ k = c) ∧ persists b c = true then true else s.bit .CAUSES_PRESENT a k := by
  rw [← noteCause_present]
  exact State.bit_congr ((detect_keeps_causes s b c data opens).rd _ _ (by decide +kernel)) k

theorem detect_latched : (s.detect b c data opens).bit .CAUSES_LATCHED a k =
    (s.bit .CAUSES_LATCHED a k || (decide (a = b) && decide (c = k))) := by
  rw [← noteCause_latched]
  exact State.bit_congr ((detect_keeps_causes s b c data opens).rd _ _ (by decide +kernel)) k

theorem detect_latches : (s.detect b c data opens).bit .CAUSES_LATCHED b c = true := by
  rw [detect_latched, decide_eq_true rfl, decide_eq_true rfl, Bool.and_self, Bool.or_true]

theorem detect_rd (r : Reg) (i : Nat) (h : State.detect_may.testBit r.ctorIdx = false) :
    (s.detect b c data opens).rd r i = s.rd r i := (detect_keeps b c data opens (keeps_refl _ s)).rd r i h

end

section
variable (s : State) (b c data : Nat) (covers : List (Nat × List Nat)) (ends : ShadowEnd)

/-- A detection with a shadow writes the registers of the detection alone. -/
theorem detectShadow_rd_eq (r : Reg) (i : Nat) :
    (s.detectShadow b c data covers ends).rd r i = (s.detect b c data (!s.covered b c)).rd r i := by
  unfold State.detectShadow
  dsimp only
  split <;> rfl

theorem detectShadow_present (h : persists b c = true) : (s.detectShadow b c data covers ends).bit .CAUSES_PRESENT b c = true := by
  rw [State.bit_congr (detectShadow_rd_eq ..), detect_present, if_pos ⟨⟨rfl, rfl⟩, h⟩]

theorem detectShadow_rd (r : Reg) (i : Nat) (h : State.detectShadow_may.testBit r.ctorIdx = false) :
    (s.detectShadow b c data covers ends).rd r i = s.rd r i := (detectShadow_keeps b c data covers ends (keeps_refl _ s)).rd r i h

end

/-- A cause that has ended is not present; every other cause stays as it was. -/
theorem endCause_present (s : State) (b c a k : Nat) :
    (s.endCause b c).bit .CAUSES_PRESENT a k = if a = b ∧ k = c then false else s.bit .CAUSES_PRESENT a k := by
  have closed (x : State) : (x.closeRec b).rd .CAUSES_PRESENT a = x.rd .CAUSES_PRESENT a :=
    (closeRec_keeps (M := State.closeRec_may) b (keeps_refl _ x)).rd _ _ (by decide +kernel)
  rw [← State.bit_wrBit]
  unfold State.endCause
  dsimp only
  split
  · split
    · exact State.bit_congr (closed _) k
    · rfl
  · rfl

theorem endCause_rd (s : State) (b c : Nat) (r : Reg) (i : Nat) (h : State.endCause_may.testBit r.ctorIdx = false) :
    (s.endCause b c).rd r i = s.rd r i := (endCause_keeps b c (keeps_refl _ s)).rd r i h

-- REDUNDANCY and the mode that follows it

theorem followDeg_rd (s : State) (r : Reg) (i : Nat) (h : State.followDeg_may.testBit r.ctorIdx = false) :
    s.followDeg.rd r i = s.rd r i := (followDeg_keeps (keeps_refl _ s)).rd r i h

theorem setRed_bit (s : State) (b : Nat) (v : Bool) (c : Nat) :
    (s.setRed b v).bit .REDUNDANCY 0 c = if c = b then v else s.bit .REDUNDANCY 0 c := by
  exact (State.bit_congr (followDeg_rd _ .REDUNDANCY 0 (by decide +kernel)) c).trans (by rw [State.bit_wrBit]; simp)

theorem setRed_rd (s : State) (b : Nat) (v : Bool) (r : Reg) (i : Nat) (h : State.setRed_may.testBit r.ctorIdx = false) :
    (s.setRed b v).rd r i = s.rd r i := (setRed_keeps b v (keeps_refl _ s)).rd r i h

/-- A loss of bits 5, 6, 8 or 9 counts whatever else is lost (R20). -/
theorem deg_of_bit {s : State} (b : Nat) (hb : b = 5 ∨ b = 6 ∨ b = 8 ∨ b = 9) (h : s.bit .REDUNDANCY 0 b = true) : s.deg = true := by
  unfold State.bit at h
  unfold State.deg lossIn
  rcases hb with rfl | rfl | rfl | rfl <;> simp [h]

/-- A change of mode notes where the mode came from, why and when (R312). -/
theorem setMode_shows (s : State) (m c : Nat) :
    (s.setMode m c).mode = m ∧ (s.setMode m c).rd .MODE_PREV 0 = s.mode ∧ (s.setMode m c).rd .MODE_CAUSE 0 = c ∧
      (s.setMode m c).rd .MODE_TIME 0 = s.now := by
  unfold State.setMode State.iff State.now State.mode State.rdN
  dsimp only
  split <;> simp [State.rd_tally_ne, State.rd_wr]

/-- A loss in RUN leads to RUN-DEGRADED in its own cycle (R312). -/
theorem setRed_degrades (s : State) (b : Nat) (hb : b = 5 ∨ b = 6 ∨ b = 8 ∨ b = 9) (h : s.mode = 5) :
    (s.setRed b true).mode = 6 ∧ (s.setRed b true).rd .MODE_PREV 0 = 5 ∧ (s.setRed b true).rd .MODE_CAUSE 0 = 4 ∧
      (s.setRed b true).rd .MODE_TIME 0 = s.now := by
  have running : (s.wrBit .REDUNDANCY 0 b true).mode = 5 := by
    rw [← h, State.mode, State.rdN, State.rd_wrBit_ne _ _ _ _ _ (by decide), State.mode, State.rdN]
  have timed : (s.wrBit .REDUNDANCY 0 b true).now = s.now := by
    rw [State.now, State.rdN, State.rd_wrBit_ne _ _ _ _ _ (by decide), State.now, State.rdN]
  have lost : (s.wrBit .REDUNDANCY 0 b true).deg = true := deg_of_bit b hb (by rw [State.bit_wrBit, if_pos ⟨rfl, rfl⟩])
  have e : s.setRed b true = (s.wrBit .REDUNDANCY 0 b true).setMode 6 4 := by
    simp [State.setRed, State.followDeg, running, lost]
  obtain ⟨mode, prev, cause, time⟩ := setMode_shows (s.wrBit .REDUNDANCY 0 b true) 6 4
  rw [e]
  exact ⟨mode, by rw [prev, running]; rfl, cause, by rw [time, timed]⟩

end Sys2Proof.Machine
end

section
/-! PROOFS. What the loss and the return of parts, links, probes and the gateway leave alone (O38). -/
namespace Sys2Proof.Machine

set_option Elab.async false

-- parts

/-- The registers of the parts, of the mode that follows DEG and of the fault log. -/
def partRegs : List Reg :=
  faultRegs ++ [.DEVICE_TIME, .REDUNDANCY, .MODE, .MODE_PREV, .MODE_TIME, .MODE_CAUSE, .feedSeen, .tsOut, .tsTest, .flashBad, .contPend, .ledBad,
    .IN_PROGRESS, .INJECT_STATE, .INJECTIONS, .injecting]

/-- What the loss or the return of a part may change. -/
def partMay : Nat := mayRegs partRegs ||| mayLog

theorem partEvent_keeps {t v : Nat} {i : Fin 2} {n w : Fin 64} {o : Option (Fin 2)} {x : Ecc} {e : Instr} (s : State)
    (he : e ∈ [Instr.feedLost t i.castSucc v, .feedLost t 2 v, .feedRestored t i, .logicBuckLost t i v, .logicBuckRestored t i, .auxLost t,
      .auxRestored t, .tsSelfTest t o, .flashBankLost t i, .flashBankRestored t i, .ledgerScrub t n w x]) :
    KeepsO partMay s (exec e s) := by
  have same := keeps_refl partMay s
  simp only [List.mem_cons, List.not_mem_nil, or_false] at he
  rcases he with rfl | rfl | rfl | rfl | rfl | rfl | rfl | rfl | rfl | rfl | rfl
  · exact execFeedLost_keeps t _ v same
  · exact execFeedLost_keeps t _ v same
  · exact execFeedRestored_keeps t i same
  · exact execLogicBuckLost_keeps t i v same
  · exact execLogicBuckRestored_keeps t i same
  · exact execAuxLost_keeps t same
  · exact execAuxRestored_keeps t same
  · exact execTsSelfTest_keeps t o same
  · exact execFlashBankLost_keeps t i same
  · exact execFlashBankRestored_keeps t i same
  · exact execLedgerScrub_keeps t n w x same

/-- A mismatch writes the buffer of no run but that of the trip sequencers. -/
theorem tripOutput_engine (s : State) (n w : Nat) (high : Bool) (out : Word32) (e : Fin 8) :
    (s.tripOutput n w high out).run (.engine e) = s.run (.engine e) := by
  have apart : unitKey (.engine e) ≠ unitKey .trip := Nat.ne_of_lt e.isLt
  unfold State.tripOutput
  split
  · split
    · simp only [State.run, State.setRun, tget_tset, if_neg apart]
    · rfl
  · rfl

/-- What an uncorrectable SDRAM word may change: beside what a part's loss changes, the entry that it held. -/
def sdramMay : Nat := partMay ||| may_planCopy ||| may_fallback ||| may_loading ||| may_tags ||| may_traceBuf

theorem sdramEvent_keeps {t v : Nat} {b : Fin 8} {e : Instr} (s : State)
    (he : e ∈ [Instr.sdramCorrected t b v, .sdramUncorrectable t b v]) : KeepsO sdramMay s (exec e s) := by
  have same := keeps_refl sdramMay s
  simp only [List.mem_cons, List.not_mem_nil, or_false] at he
  rcases he with rfl | rfl
  · exact execSdramCorrected_keeps t b v same
  · exact execSdramUncorrectable_keeps t b v same

/-- Two sequencers that differ change the run of the trip program, and no run of an engine. -/
theorem tsMismatch_engine {t : Nat} {n w : Fin 64} {high : Bool} {out : Word32} {s u : State} (h : exec (.tsMismatch t n w high out) s = .next u)
    (e : Fin 8) : u.run (.engine e) = s.run (.engine e) := by
  have told (x : State) : (((x.detect 0x66 1).wr .tsTest 0 1).setRed 9 true).run (.engine e) = x.run (.engine e) :=
    congrArg (tget none · (unitKey (.engine e))) ((setRed_keeps (M := State.detect_may ||| State.setRed_may ||| may .tsTest) 9 true
      (keeps_wr (detect_keeps 0x66 1 0 false (keeps_refl _ x)) .tsTest 0 1 (by decide +kernel))).runs (by decide +kernel))
  have timed : (s.at t).run (.engine e) = s.run (.engine e) :=
    congrArg (tget none · (unitKey (.engine e))) ((at_keeps (M := State.at_may) t (keeps_refl _ s)).runs (by decide +kernel))
  cases h
  split
  · rw [told]
    unfold State.iff
    split
    · rw [tripOutput_engine]
      exact timed
    · exact timed
  · exact timed

-- links

/-- The registers of the ports, of the mode that follows DEG and of the fault log. -/
def linkRegs : List Reg :=
  faultRegs ++ [.DEVICE_TIME, .REWIND_LOST, .RESENDS, .LINK, .PORT_AMPLITUDE, .WRAPPED, .FRAMES_IN, .FRAMES_OUT, .ABANDONED, .LINK_LOSSES, .MODE,
    .MODE_PREV, .MODE_TIME, .MODE_CAUSE, .REDUNDANCY, .POPPED, .LINK_DELAY, .GW_RETRIES_SENT, .GW_GIVEN_UP, .portSeen, .linkAt, .probeAt, .lastTx,
    .wireBad]

/-- What links, probes and the gateway may change. -/
def linkMay : Nat := mayRegs linkRegs ||| mayLog ||| may_wire ||| may_delays ||| may_gateway

theorem linkEvent_keeps {t x y z k : Nat} {p : Fin 2} {q : Fin 3} {a : Fin 4} {b : Bool} {g : Fin 128} {e : Instr} (s : State)
    (he : e ∈ [.linkLost t p b, .lpLinkLost t, .linkUp t q a, .linkHeld t q, .linkProbeSend t q k, .linkProbe t q x y k,
      .linkProbeAnswer t q x y z k, .gwTimeout t g]) : KeepsO linkMay s (exec e s) := by
  have same := keeps_refl linkMay s
  simp only [List.mem_cons, List.not_mem_nil, or_false] at he
  rcases he with rfl | rfl | rfl | rfl | rfl | rfl | rfl | rfl
  · exact execLinkLost_keeps t p b same
  · exact execLpLinkLost_keeps t same
  · exact execLinkUp_keeps t q a same
  · exact execLinkHeld_keeps t q same
  · exact execLinkProbeSend_keeps t q k same
  · exact execLinkProbe_keeps t q x y k same
  · exact execLinkProbeAnswer_keeps t q x y z k same
  · exact execGwTimeout_keeps t g same

/-- Settles O38: every clause reads the mask of the command's Keeps lemma. -/
theorem partsAndLinksFrame : Obligations.PartsAndLinksFrame := by
  unfold Obligations.PartsAndLinksFrame
  refine ⟨fun t v i n w o b x s u => ⟨fun e he run => ?_, fun high out run => ?_, fun e he run => ?_⟩,
    fun t x y z k p q a b g e s u he run => ?_⟩
  · have kept := (partEvent_keeps s he).next u run
    exact ⟨kept.onlyRegs partRegs, kept.logOnly⟩
  · have kept := (execTsMismatch_keeps (M := partMay ||| may_runs) t n w high out (keeps_refl _ s)).next u run
    have rest := kept.rest
    rw [← kept.wire (by decide +kernel), ← kept.delays (by decide +kernel), ← kept.gateway (by decide +kernel)] at rest
    exact ⟨kept.onlyRegs partRegs, rest, tsMismatch_engine run⟩
  · have kept := (sdramEvent_keeps s he).next u run
    exact ⟨kept.onlyRegs partRegs, kept.ledger (by decide +kernel), kept.planners (by decide +kernel), kept.staged (by decide +kernel),
      kept.flash (by decide +kernel), kept.images (by decide +kernel), kept.bankA (by decide +kernel), kept.bankB (by decide +kernel),
      kept.progs (by decide +kernel), kept.runs (by decide +kernel), kept.pend⟩
  · have kept := (linkEvent_keeps s he).next u run
    have rest := kept.rest
    rw [← kept.runs (by decide +kernel)] at rest
    exact ⟨kept.onlyRegs linkRegs, rest⟩

end Sys2Proof.Machine
end

section
/-! PROOFS. The clock events, holdover and the SYNC terminal (O23). -/
namespace Sys2Proof.Machine

set_option Elab.async false

-- clocks

/-- The clocks move to the backup oscillator and its trim (R360). -/
def State.toBackup (s : State) : State :=
  let s := ((s.wr .CLK_SOURCE 0 2).count .ROOT_LOSSES 0).tally 238
  ((s.wr .pllTrim 0 s.backupStart).wr .pllTrimAt 0 s.now).wr .rootLostAt 0 s.now

def toBackup_may : Nat :=
  may .CLK_SOURCE ||| may .ROOT_LOSSES ||| may .pllTrim ||| may .pllTrimAt ||| may .rootLostAt ||| State.count_may ||| State.tally_may

theorem toBackup_rd (s : State) (r : Reg) (i : Nat) (h : toBackup_may.testBit r.ctorIdx = false) :
    s.toBackup.rd r i = s.rd r i := by
  have counted := count_keeps (M := toBackup_may) .ROOT_LOSSES 0 1 32 (keeps_wr (keeps_refl _ s) .CLK_SOURCE 0 2 (by decide +kernel))
  exact (keeps_wr (keeps_wr (keeps_wr (tally_keeps 238 1 counted) .pllTrim 0 _ (by decide +kernel)) .pllTrimAt 0 _ (by decide +kernel))
    .rootLostAt 0 _ (by decide +kernel)).rd r i h

theorem toBackup_shows {s : State} (h : s.rd .ROOT_LOSSES 0 + 1 < 2 ^ 32) :
    s.toBackup.rd .CLK_SOURCE 0 = 2 ∧ s.toBackup.rd .ROOT_LOSSES 0 = s.rd .ROOT_LOSSES 0 + 1 ∧ s.toBackup.rd .pllTrim 0 = s.backupStart ∧
      s.toBackup.rd .rootLostAt 0 = s.now := by
  have counted : (s.wr .CLK_SOURCE 0 2).count .ROOT_LOSSES 0 = (s.wr .CLK_SOURCE 0 2).wr .ROOT_LOSSES 0 (s.rd .ROOT_LOSSES 0 + 1) := by
    have same : (s.wr .CLK_SOURCE 0 2).rd .ROOT_LOSSES 0 = s.rd .ROOT_LOSSES 0 := State.rd_wr_ne _ _ _ _ (by decide)
    rw [State.count_one (by rwa [same]), same]
  simp [State.toBackup, counted, State.rd_wr, State.rd_tally_ne, State.backupStart, State.now, State.rdN]

section
variable (t : Nat) (s0 : State)

theorem exec_rootLost (h : (s0.at t).rd .CLK_SOURCE 0 ≠ 2) :
    exec (.rootLost t) s0 =
      .next (((s0.at t).detectShadow 0x60 1 0 clockCovers (.time ((s0.at t).now + second))).toBackup.setRed 5 true) :=
  congrArg Host.Outcome.next (if_neg h)

theorem rootLost_clause :
    let s := s0.at t
    s.rd .CLK_SOURCE 0 ≠ 2 → s.rd .ROOT_LOSSES 0 + 1 < 2 ^ 32 →
    ∃ u, exec (.rootLost t) s0 = .next u ∧ u.rd .CLK_SOURCE 0 = 2 ∧ u.rd .ROOT_LOSSES 0 = s.rd .ROOT_LOSSES 0 + 1 ∧
      u.rd .pllTrim 0 = (if s.rd .trimKnown 0 = 1 then s.rd .BACKUP_TRIM 0 else Config.factoryTrim) ∧
      u.rd .rootLostAt 0 = (s.now : Int) ∧ u.bit .REDUNDANCY 0 5 = true ∧ u.bit .CAUSES_PRESENT 0x60 1 = true ∧
      (s.mode = 5 → u.mode = 6 ∧ u.rd .MODE_PREV 0 = 5 ∧ u.rd .MODE_CAUSE 0 = 4 ∧ u.rd .MODE_TIME 0 = (s.now : Int)) := by
  intro s hc hn
  refine ⟨_, exec_rootLost t s0 hc, ?_⟩
  generalize hd : (s0.at t).detectShadow 0x60 1 0 clockCovers (.time ((s0.at t).now + second)) = d
  have kept (r : Reg) (i : Nat) (h : State.detectShadow_may.testBit r.ctorIdx = false) : d.rd r i = s.rd r i := by
    rw [← hd, detectShadow_rd _ _ _ _ _ _ _ _ h]
  have present : d.bit .CAUSES_PRESENT 0x60 1 = true := by rw [← hd, detectShadow_present _ _ _ _ _ _ rfl]
  have time : d.now = s.now := congrArg Int.toNat (kept .DEVICE_TIME 0 (by decide +kernel))
  have time' : d.toBackup.now = d.now := congrArg Int.toNat (toBackup_rd d .DEVICE_TIME 0 (by decide +kernel))
  have mode : d.toBackup.mode = s.mode := by
    simp (disch := decide +kernel) only [State.mode, State.rdN, toBackup_rd, kept]
  obtain ⟨source, losses, trim, lostAt⟩ := toBackup_shows (s := d) (by rwa [kept _ _ (by decide +kernel)])
  refine ⟨?_, ?_, ?_, ?_, by rw [setRed_bit, if_pos rfl], ?_, fun h => ?_⟩
  · rw [setRed_rd _ _ _ _ _ (by decide +kernel), source]
  · rw [setRed_rd _ _ _ _ _ (by decide +kernel), losses, kept _ _ (by decide +kernel)]
  · simp (disch := decide +kernel) only [setRed_rd, trim, State.backupStart, kept]
  · rw [setRed_rd _ _ _ _ _ (by decide +kernel), lostAt, time]
  · rw [← present]
    exact State.bit_congr ((setRed_rd _ _ _ _ _ (by decide +kernel)).trans (toBackup_rd _ _ _ (by decide +kernel))) 1
  · rw [← time, ← time']
    exact setRed_degrades d.toBackup 5 (by decide) (mode.trans h)

theorem rootRestored_clause :
    let s := s0.at t
    s.rd .CLK_SOURCE 0 = 2 → s.rd .rootKind 0 ≠ 2 → s.rdN .rootLostAt 0 + 100000 * s.rdN .ROOT_RETURN_DELAY 0 ≤ s.now →
    ∃ u, exec (.rootRestored t) s0 = .next u ∧ u.rd .CLK_SOURCE 0 = s.rd .rootKind 0 ∧ u.rd .pllTrim 0 = 0 ∧
      u.bit .REDUNDANCY 0 5 = false ∧ u.bit .CAUSES_PRESENT 0x60 1 = false ∧ u.bit .CAUSES_LATCHED 0x60 0x20 = true := by
  intro s hc hk ha
  have run : exec (.rootRestored t) s0 =
      .next (((((s.wr .CLK_SOURCE 0 (s.rd .rootKind 0)).wr .pllTrim 0 0).endCause 0x60 1).detect 0x60 0x20).setRed 5 false) :=
    congrArg Host.Outcome.next (if_pos (by simp [s] at *; exact ⟨⟨hc, hk⟩, ha⟩))
  refine ⟨_, run, ?_, ?_, by rw [setRed_bit, if_pos rfl], ?_, ?_⟩
  · simp (disch := decide +kernel) [setRed_rd, detect_rd, endCause_rd, State.rd_wr]
  · simp (disch := decide +kernel) [setRed_rd, detect_rd, endCause_rd, State.rd_wr]
  · rw [State.bit_congr (setRed_rd _ _ _ _ _ (by decide +kernel)), detect_present, if_neg (by decide), endCause_present, if_pos ⟨rfl, rfl⟩]
  · rw [State.bit_congr (setRed_rd _ _ _ _ _ (by decide +kernel)), detect_latches]

theorem pllSwitch_clause :
    let s := s0.at t
    s.rd .PLL_IN_USE 0 ≠ 1 →
    ∃ u, exec (.pllSwitch t) s0 = .next u ∧ u.rd .PLL_IN_USE 0 = 1 ∧ u.bit .REDUNDANCY 0 6 = true ∧
      u.bit .CAUSES_PRESENT 0x60 2 = true ∧ (s.mode = 5 → u.mode = 6) := by
  intro s hp
  generalize hd : s.detectShadow 0x60 2 0 clockCovers (.time (s.now + second)) = d
  have run : exec (.pllSwitch t) s0 = .next (((d.wr .PLL_IN_USE 0 1).tally 239).setRed 6 true) := by
    subst hd
    exact congrArg Host.Outcome.next (if_neg hp)
  have through (r : Reg) (i : Nat) (h : r ≠ .COUNTER) (g : r ≠ .PLL_IN_USE) : ((d.wr .PLL_IN_USE 0 1).tally 239).rd r i = d.rd r i := by
    rw [State.rd_tally_ne _ _ _ _ h, State.rd_wr_ne _ _ _ _ g]
  have mode : d.mode = s.mode := by
    rw [← hd]
    exact congrArg Int.toNat (detectShadow_rd _ _ _ _ _ _ _ _ (by decide +kernel))
  refine ⟨_, run, ?_, by rw [setRed_bit, if_pos rfl], ?_, fun h => ?_⟩
  · rw [setRed_rd _ _ _ _ _ (by decide +kernel), State.rd_tally_ne _ _ _ _ (by decide), State.rd_wr_same]
  · rw [State.bit_congr ((setRed_rd _ _ _ _ _ (by decide +kernel)).trans (through _ _ (by decide) (by decide))), ← hd, detectShadow_present _ _ _ _ _ _ rfl]
  · refine (setRed_degrades _ 6 (by decide) ?_).1
    rw [State.mode, State.rdN, through _ _ (by decide) (by decide)]
    exact mode.trans h

/-- A number in range survives two's complement of 32 bits. -/
theorem signed_unsigned {v : Int} (lo : -2 ^ 31 ≤ v) (hi : v < 2 ^ 31) : signed 32 (unsigned 32 v) = v := by
  unfold signed unsigned
  rw [Nat.mod_eq_of_lt (by omega)]
  split <;> omega

theorem backupTrim_clause :
    let s := s0.at t
    ∀ ppb : Int, s.rd .CLK_SOURCE 0 ≠ 2 → -2 ^ 31 ≤ ppb → ppb < 2 ^ 31 →
      exec (.backupTrim t ppb) s0 = .next ((s.wr .BACKUP_TRIM 0 ppb).wr .trimKnown 0 1) := by
  intro s ppb hc lo hi
  have e : signed 32 (unsigned 32 ppb) = ppb := signed_unsigned lo hi
  exact congrArg Host.Outcome.next ((if_neg hc).trans (by rw [e]))

-- holdover

theorem holdoverEntry_clause :
    let s := s0.at t
    s.rd .SYNC_STATE 0 = 1 ∨ s.rd .SYNC_STATE 0 = 2 → s.rdN .LAST_TIME_FRAME 0 + 100000000 ≤ s.now →
      exec (.holdoverEntry t) s0 = .next ((((s.wr .SYNC_STATE 0 3).wr .holdoverFrom 0 s.now).wr .rtGood 0 0).wr .rtBad 0 0) := by
  intro s hs ha
  exact congrArg Host.Outcome.next (if_pos (by simp only [Bool.and_eq_true, Bool.or_eq_true, decide_eq_true_eq]; exact ⟨hs, ha⟩))

theorem checkSync_present (s : State) :
    s.checkSync.bit .CAUSES_PRESENT 0x60 0x10 = (s.tsy && decide (s.rd .rtOnce 0 = 1) && s.ringUsed) := by
  unfold State.checkSync
  split
  · next h =>
    rw [h]
    unfold State.detectHeld
    split
    · next p => exact p
    · rw [detect_present, if_pos ⟨⟨rfl, rfl⟩, rfl⟩]
  · next h => rw [endCause_present, if_pos ⟨rfl, rfl⟩, Bool.eq_false_iff.mpr h]

theorem checkSync_rd (s : State) (r : Reg) (i : Nat) (h : State.checkSync_may.testBit r.ctorIdx = false) :
    s.checkSync.rd r i = s.rd r i := (checkSync_keeps (keeps_refl _ s)).rd r i h

theorem holdoverLimit_clause :
    let s := s0.at t
    s.rd .SYNC_STATE 0 = 3 → s.rdN .holdoverFrom 0 + 100000 * s.rdN .HOLDOVER_LIMIT 0 < s.now →
    ∃ u, exec (.holdoverLimit t) s0 = .next u ∧ u.rd .SYNC_STATE 0 = 0 ∧
      u.bit .CAUSES_PRESENT 0x60 0x10 = (decide (s.rd .rtOnce 0 = 1) && s.ringUsed) := by
  intro s hs ha
  have run : exec (.holdoverLimit t) s0 = .next (s.wr .SYNC_STATE 0 0).checkSync :=
    congrArg Host.Outcome.next (if_pos (by simpa using ⟨hs, ha⟩))
  have lost : (s.wr .SYNC_STATE 0 0).tsy = true := by simp [State.tsy, State.rd_wr]
  have used : (s.wr .SYNC_STATE 0 0).ringUsed = s.ringUsed := by simp [State.ringUsed, State.rd_wr]
  refine ⟨_, run, by rw [checkSync_rd _ _ _ (by decide +kernel), State.rd_wr_same], ?_⟩
  rw [checkSync_present, lost, used, State.rd_wr_ne _ _ _ _ (by decide), Bool.true_and]

-- the SYNC terminal

theorem syncOutputPulse_clause :
    let s := s0.at t
    ∀ i, s.rd .SYNC_MODE 0 = 1 → syncInstant s.ring (s.rdN .SYNC_PERIOD 0) (s.rdN .SYNC_PHASE 0) = some i → s.ring < i + 2 →
      s.rdN .syncNext 0 < i → s.rd .SYNC_SKIPPED 0 + 1 < 2 ^ 32 →
      ∃ u, exec (.syncOutputPulse t) s0 = .next u ∧ u.rd .syncNext 0 = i ∧
        (s.tsy = false ∨ s.rd .SYNC_FREE 0 ≠ 0 →
          u.rd .syncLevel 0 = 1 ∧ u.rd .syncHighFrom 0 = (s.now : Int) ∧ u.rd .SYNC_SKIPPED 0 = s.rd .SYNC_SKIPPED 0) ∧
        (s.tsy = true → s.rd .SYNC_FREE 0 = 0 →
          u.rd .syncLevel 0 = s.rd .syncLevel 0 ∧ u.rd .SYNC_SKIPPED 0 = s.rd .SYNC_SKIPPED 0 + 1) := by
  intro s i hm hi near later room
  have run : exec (.syncOutputPulse t) s0 = .next (if (s.wr .syncNext 0 i).tsy && (s.wr .syncNext 0 i).rd .SYNC_FREE 0 = 0
      then (s.wr .syncNext 0 i).count .SYNC_SKIPPED 0
      else ((s.wr .syncNext 0 i).wr .syncLevel 0 1).wr .syncHighFrom 0 (s.wr .syncNext 0 i).now) := by
    have due : (decide (s.ring < i + 2) && decide (s.rdN .syncNext 0 < i)) = true := by simp [near, later]
    refine congrArg Host.Outcome.next ((if_neg (not_not.mpr hm)).trans ?_)
    simp only [show (s0.at t) = s from rfl, hi]
    exact if_pos due
  have free : (s.wr .syncNext 0 i).rd .SYNC_FREE 0 = s.rd .SYNC_FREE 0 := State.rd_wr_ne _ _ _ _ (by decide)
  have held : (s.wr .syncNext 0 i).tsy = s.tsy := by
    simp (disch := decide) only [State.tsy, State.now, State.rdN, State.rd_wr_ne]
    rfl
  have skip : (s.wr .syncNext 0 i).count .SYNC_SKIPPED 0 = (s.wr .syncNext 0 i).wr .SYNC_SKIPPED 0 (s.rd .SYNC_SKIPPED 0 + 1) := by
    have e : (s.wr .syncNext 0 i).rd .SYNC_SKIPPED 0 = s.rd .SYNC_SKIPPED 0 := State.rd_wr_ne _ _ _ _ (by decide)
    rw [State.count_one (by rwa [e]), e]
  rw [free, held, skip] at run
  refine ⟨_, run, ?_, fun h => ?_, fun h1 h2 => ?_⟩
  · split <;> simp [State.rd_wr]
  · have pulse : ¬ (s.tsy && decide (s.rd .SYNC_FREE 0 = 0)) = true := by
      rcases h with h | h <;> simp [h]
    rw [if_neg pulse]
    simp [State.rd_wr, State.now, State.rdN]
  · rw [if_pos (by simp [h1, h2])]
    simp [State.rd_wr]

theorem syncPulseEnd_clause :
    let s := s0.at t
    s.rd .syncLevel 0 = 1 → s.rdN .syncHighFrom 0 + s.rdN .SYNC_WIDTH 0 ≤ s.now →
      exec (.syncPulseEnd t) s0 = .next (s.wr .syncLevel 0 0) := by
  intro s hl ha
  exact congrArg Host.Outcome.next (if_pos (by simpa using And.intro hl ha))

/-- The trigger that an edge may give leaves the stamps of the edge alone. -/
theorem trigger_rd (s : State) (r : Reg) (i : Nat) (h : State.trigger_may.testBit r.ctorIdx = false) : s.trigger.rd r i = s.rd r i :=
  (trigger_keeps (keeps_refl _ s)).rd r i h

theorem syncInputEdge_clause :
    let s := s0.at t
    s.rd .SYNC_MODE 0 = 2 → s.rd .SYNC_EDGES 0 + 1 < 2 ^ 32 →
    ∃ u, exec (.syncInputEdge t) s0 = .next u ∧ u.rd .SYNC_IN_DEVICE 0 = (s.now : Int) ∧ u.rd .SYNC_IN_RING 0 = (s.ring : Int) ∧
      u.rd .SYNC_EDGES 0 = s.rd .SYNC_EDGES 0 + 1 := by
  intro s hm room
  have run : exec (.syncInputEdge t) s0 = .next (
      let w := ((s.wr .SYNC_IN_DEVICE 0 s.now).wr .SYNC_IN_RING 0 s.ring).count .SYNC_EDGES 0
      if w.rd .LOCK_TRIGGER 0 = 1 && w.mode ≠ 11 && decide (2 ≤ w.mode) then w.trigger else w) :=
    congrArg Host.Outcome.next (if_neg (not_not.mpr hm))
  have edges : ((s.wr .SYNC_IN_DEVICE 0 s.now).wr .SYNC_IN_RING 0 s.ring).rd .SYNC_EDGES 0 = s.rd .SYNC_EDGES 0 := by simp [State.rd_wr]
  have counted : ((s.wr .SYNC_IN_DEVICE 0 s.now).wr .SYNC_IN_RING 0 s.ring).count .SYNC_EDGES 0 =
      ((s.wr .SYNC_IN_DEVICE 0 s.now).wr .SYNC_IN_RING 0 s.ring).wr .SYNC_EDGES 0 (s.rd .SYNC_EDGES 0 + 1) := by
    rw [State.count_one (by rw [edges]; exact room), edges]
  rw [counted] at run
  refine ⟨_, run, ?_⟩
  dsimp only
  split <;> simp (disch := decide +kernel) [trigger_rd, State.rd_wr]

/-- Settles O23: each event by the equation of its command, read register by register. -/
theorem clocksHoldoverAndSync : Obligations.ClocksHoldoverAndSync := by
  unfold Obligations.ClocksHoldoverAndSync
  exact ⟨fun t s0 => ⟨rootLost_clause t s0, rootRestored_clause t s0, pllSwitch_clause t s0, backupTrim_clause t s0⟩,
    fun t s0 => ⟨holdoverEntry_clause t s0, holdoverLimit_clause t s0, syncOutputPulse_clause t s0, syncPulseEnd_clause t s0,
      syncInputEdge_clause t s0⟩⟩

end
end Sys2Proof.Machine
end

section
/-! PROOFS. Redundant parts and the takeover of the standby steward core (O37). -/
namespace Sys2Proof.Machine

set_option Elab.async false

section
variable (t v : Nat) (i : Fin 2) (s0 : State)

-- feeds, bucks and AUX

theorem feedLost_clause :
    let s := s0.at t
    s.bit .REDUNDANCY 0 i = true → ∃ u, exec (.feedLost t i.castSucc v) s0 = .next u ∧ u.bit .REDUNDANCY 0 i = false ∧
      u.bit .CAUSES_PRESENT 0x61 8 = (s.bit .REDUNDANCY 0 (1 - i) && s.bit .feedSeen 0 i) := by
  intro s h
  have single : i.castSucc ≠ 2 := Fin.ne_of_lt (Fin.castSucc_lt_last i)
  refine ⟨_, congrArg Host.Outcome.next ((if_neg single).trans (if_neg (by simpa [s] using h))), ?_, ?_⟩
  · exact (setRed_bit ..).trans (if_pos rfl)
  · rw [State.bit_congr (setRed_rd _ _ _ _ _ (by decide +kernel))]
    simp only [Fin.val_castSucc]
    split
    · next seen => rw [detect_present, if_pos ⟨⟨rfl, rfl⟩, rfl⟩, seen]
    · next unseen => rw [endCause_present, if_pos ⟨rfl, rfl⟩, Bool.eq_false_iff.mpr unseen]

theorem bothFeedsLost_clause :
    ∃ u, exec (.feedLost t 2 v) s0 = .next u ∧ u.bit .REDUNDANCY 0 0 = false ∧ u.bit .REDUNDANCY 0 1 = false ∧
      u.bit .CAUSES_PRESENT 0x61 8 = false := by
  refine ⟨_, congrArg Host.Outcome.next (if_pos rfl), ?_, ?_, ?_⟩
  · rw [setRed_bit, if_neg (by decide), setRed_bit, if_pos rfl]
  · rw [setRed_bit, if_pos rfl]
  · rw [State.bit_congr ((setRed_rd _ _ _ _ _ (by decide +kernel)).trans (setRed_rd _ _ _ _ _ (by decide +kernel))), endCause_present, if_pos ⟨rfl, rfl⟩]

theorem feedRestored_clause :
    let s := s0.at t
    ∃ u, exec (.feedRestored t i) s0 = .next u ∧ u.bit .REDUNDANCY 0 i = true ∧ u.bit .feedSeen 0 i = true ∧
      (s.bit .REDUNDANCY 0 i = false → u.bit .CAUSES_PRESENT 0x61 8 = false) := by
  intro s
  refine ⟨_, rfl, ?_, ?_, fun h => ?_⟩
  · rw [setRed_bit, if_pos rfl]
  · rw [State.bit_congr (setRed_rd _ _ _ _ _ (by decide +kernel)), State.bit_wrBit, if_pos ⟨rfl, rfl⟩]
  · rw [State.bit_congr ((setRed_rd _ _ _ _ _ (by decide +kernel)).trans (State.rd_wrBit_ne _ _ _ _ _ (by decide))),
      if_neg (by rw [h]; decide), endCause_present, if_pos ⟨rfl, rfl⟩]

theorem logicBuckLost_clause :
    let s := s0.at t
    s.bit .REDUNDANCY 0 (3 + i) = true → ∃ u, exec (.logicBuckLost t i v) s0 = .next u ∧ u.bit .REDUNDANCY 0 (3 + i) = false ∧
      u.bit .CAUSES_PRESENT 0x61 9 = true := by
  intro s h
  refine ⟨_, congrArg Host.Outcome.next (if_pos h), ?_, ?_⟩
  · rw [setRed_bit, if_pos rfl]
  · rw [State.bit_congr (setRed_rd _ _ _ _ _ (by decide +kernel)), detect_present, if_pos ⟨⟨rfl, rfl⟩, rfl⟩]

theorem logicBuckRestored_clause :
    let s := s0.at t
    ∃ u, exec (.logicBuckRestored t i) s0 = .next u ∧ u.bit .REDUNDANCY 0 (3 + i) = true ∧
      (s.bit .REDUNDANCY 0 (3 + (1 - i)) = true → u.bit .CAUSES_PRESENT 0x61 9 = false) := by
  intro s
  have on (c : Nat) := setRed_bit s (3 + i) true c
  refine ⟨_, rfl, ?_, fun h => ?_⟩
  · split
    · rw [State.bit_congr (endCause_rd _ _ _ _ _ (by decide +kernel))]
      exact (on _).trans (if_pos rfl)
    · exact (on _).trans (if_pos rfl)
  · have both : (((s0.at t).setRed (3 + i) true).bit .REDUNDANCY 0 3 && ((s0.at t).setRed (3 + i) true).bit .REDUNDANCY 0 4) = true := by
      rw [on, on]
      fin_cases i <;> simpa using h
    rw [if_pos both, endCause_present, if_pos ⟨rfl, rfl⟩]

theorem auxLost_clause :
    let s := s0.at t
    s.bit .REDUNDANCY 0 2 = true → ∃ u, exec (.auxLost t) s0 = .next u ∧ u.bit .REDUNDANCY 0 2 = false ∧ u.bit .CAUSES_LATCHED 0x61 0x20 = true := by
  intro s h
  refine ⟨_, congrArg Host.Outcome.next (if_pos h), ?_, ?_⟩
  · rw [setRed_bit, if_pos rfl]
  · rw [State.bit_congr (setRed_rd _ _ _ _ _ (by decide +kernel)), detect_latches]

theorem auxRestored_clause : ∃ u, exec (.auxRestored t) s0 = .next u ∧ u.bit .REDUNDANCY 0 2 = true :=
  ⟨_, rfl, (setRed_bit ..).trans (if_pos rfl)⟩

-- trip sequencers

/-- What a mismatch leaves once the outputs of the sequencers have been compared: the cause, the self-tests that are due, the lost redundancy. -/
def State.mismatched (s : State) : State := ((s.detect 0x66 1).wr .tsTest 0 1).setRed 9 true

theorem mismatched_keeps (s : State) : Keeps (State.detect_may ||| State.setRed_may ||| may .tsTest) s s.mismatched :=
  setRed_keeps 9 true (keeps_wr (detect_keeps 0x66 1 0 false (keeps_refl _ s)) .tsTest 0 1 (by decide +kernel))

theorem mismatched_shows (s : State) :
    s.mismatched.rd .tsTest 0 = 1 ∧ s.mismatched.bit .REDUNDANCY 0 9 = true ∧ s.mismatched.bit .CAUSES_PRESENT 0x66 1 = true := by
  refine ⟨?_, (setRed_bit ..).trans (if_pos rfl), ?_⟩
  · rw [State.mismatched, setRed_rd _ _ _ _ _ (by decide +kernel), State.rd_wr_same]
  · rw [State.mismatched, State.bit_congr ((setRed_rd _ _ _ _ _ (by decide +kernel)).trans (State.rd_wr_ne _ _ _ _ (by decide))),
      detect_present, if_pos ⟨⟨rfl, rfl⟩, rfl⟩]

/-- The store of the trip run of axis `n` in which the sequencers differ takes the safe value (R19). -/
theorem tripOutput_run {s : State} {r : Run} {n : Nat} (w : Nat) (high : Bool) (out : Word32) (hr : s.run .trip = some r) (hn : r.ctx = n) :
    (s.tripOutput n w high out).run .trip =
      some { r with stores := r.stores.map (fun p => if p.1 = (64 * n + w, high) then (p.1, out) else p) } := by
  simp only [State.tripOutput, hr, if_pos hn]
  simp only [State.run, State.setRun, tget_tset, if_pos]

theorem tsMismatch_clause (n w : Fin 64) (high : Bool) (out : Word32) :
    let s := s0.at t
    s.rd .tsOut 0 = 0 → s.rd .planPlaced 0 = 1 →
    ∃ u, exec (.tsMismatch t n w high out) s0 = .next u ∧ u.rd .tsTest 0 = 1 ∧ u.bit .REDUNDANCY 0 9 = true ∧ u.bit .CAUSES_PRESENT 0x66 1 = true ∧
      (s.bit .REDUNDANCY 0 9 = true → s.rd .tsTest 0 = 0 → ∀ r, s.run .trip = some r → r.ctx = n →
        u.run .trip = some { r with stores := r.stores.map (fun p => if p.1 = (64 * n.val + w.val, high) then (p.1, out) else p) }) := by
  intro s hout hplan
  have run : exec (.tsMismatch t n w high out) s0 = .next (((s.draw 1).2.iff (s.bit .REDUNDANCY 0 9 && s.rd .tsTest 0 = 0 || (s.draw 1).1 = 1)
      (fun s => s.tripOutput n w high out)).mismatched) :=
    congrArg Host.Outcome.next (if_pos (by simpa using And.intro hout hplan))
  obtain ⟨test, red, cause⟩ := mismatched_shows ((s.draw 1).2.iff (s.bit .REDUNDANCY 0 9 && s.rd .tsTest 0 = 0 || (s.draw 1).1 = 1)
    (fun s => s.tripOutput n w high out))
  refine ⟨_, run, test, red, cause, fun known tested r hr hn => ?_⟩
  have taken : (s.draw 1).2.iff (s.bit .REDUNDANCY 0 9 && s.rd .tsTest 0 = 0 || (s.draw 1).1 = 1) (fun s => s.tripOutput n w high out) =
      (s.draw 1).2.tripOutput n w high out := if_pos (by simp [known, tested])
  rw [taken, ← tripOutput_run (s := (s.draw 1).2) w high out hr hn]
  exact congrArg (tget none · (unitKey .trip)) ((mismatched_keeps _).runs (by decide +kernel))

theorem tsSelfTest_clause :
    let s := s0.at t
    s.rd .tsTest 0 ≠ 0 →
      (∃ u, exec (.tsSelfTest t (some i)) s0 = .next u ∧ u.rd .tsTest 0 = 0 ∧ u.rd .tsOut 0 = (i.val + 1 : Nat) ∧
        u.bit .CAUSES_PRESENT 0x66 1 = false ∧ u.bit .CAUSES_PRESENT (0x66 + i) 2 = true) ∧
      exec (.tsSelfTest t none) s0 = .next (s.wr .tsTest 0 0) := by
  intro s h
  refine ⟨⟨_, congrArg Host.Outcome.next (if_neg h), ?_, ?_, ?_, ?_⟩, congrArg Host.Outcome.next (if_neg h)⟩
  · rw [detect_rd _ _ _ _ _ _ _ (by decide +kernel), State.rd_wr_ne _ _ _ _ (by decide), endCause_rd _ _ _ _ _ (by decide +kernel),
      State.rd_wr_same]
  · rw [detect_rd _ _ _ _ _ _ _ (by decide +kernel), State.rd_wr_same]
  · rw [detect_present, if_neg (by omega), State.bit_congr (State.rd_wr_ne _ _ _ _ (by decide)), endCause_present, if_pos ⟨rfl, rfl⟩]
  · exact (detect_present ..).trans (if_pos ⟨⟨rfl, rfl⟩, by revert i; decide⟩)

-- flash and SDRAM

theorem flashBankLost_clause :
    let s := s0.at t
    s.bit .flashBad 0 i = false → ∃ u, exec (.flashBankLost t i) s0 = .next u ∧ u.bit .flashBad 0 i = true ∧ u.bit .REDUNDANCY 0 14 = true ∧
      u.bit .CAUSES_PRESENT 0x63 1 = true := by
  intro s h
  refine ⟨_, congrArg Host.Outcome.next (if_neg (Bool.eq_false_iff.mp h)), ?_, ?_, ?_⟩
  · rw [State.bit_congr ((setRed_rd _ _ _ _ _ (by decide +kernel)).trans (detect_rd _ _ _ _ _ _ _ (by decide +kernel))), State.bit_wrBit,
      if_pos ⟨rfl, rfl⟩]
  · rw [setRed_bit, if_pos rfl]
  · rw [State.bit_congr (setRed_rd _ _ _ _ _ (by decide +kernel)), detect_present, if_pos ⟨⟨rfl, rfl⟩, rfl⟩]

theorem flashBankRestored_clause :
    ∃ u, exec (.flashBankRestored t i) s0 = .next u ∧ u.bit .flashBad 0 i = false ∧
      (u.rd .flashBad 0 = 0 → u.bit .REDUNDANCY 0 14 = false ∧ u.bit .CAUSES_PRESENT 0x63 1 = false) := by
  have good : ((s0.at t).wrBit .flashBad 0 i false).bit .flashBad 0 i = false := (State.bit_wrBit ..).trans (if_pos ⟨rfl, rfl⟩)
  refine ⟨_, rfl, ?_, fun h => ?_⟩
  · split
    · rwa [State.bit_congr ((setRed_rd _ _ _ _ _ (by decide +kernel)).trans (endCause_rd _ _ _ _ _ (by decide +kernel)))]
    · exact good
  · split at h
    · next none => 
      rw [if_pos none]
      refine ⟨(setRed_bit ..).trans (if_pos rfl), ?_⟩
      rw [State.bit_congr (setRed_rd _ _ _ _ _ (by decide +kernel)), endCause_present, if_pos ⟨rfl, rfl⟩]
    · next some => exact absurd h some

theorem slotGone_latched {s : State} {a k : Nat} (w : Word64) (h : s.bit .CAUSES_LATCHED a k = true) :
    (s.slotGone w).bit .CAUSES_LATCHED a k = true := by
  have noted : (s.detect (blkAxis (slotCtx w)) 8).bit .CAUSES_LATCHED a k = true := by rw [detect_latched, h, Bool.true_or]
  unfold State.slotGone
  dsimp only
  split
  · exact h
  · split
    · exact noted
    · rwa [State.bit_congr ((holdAxis_keeps (M := State.holdAxis_may) _ (keeps_refl _ _)).rd _ _ (by decide +kernel))]

/-- The loss of an entry may detect a cause of an axis; it takes no latched cause back. -/
theorem loseEntry_latched {s : State} {a k : Nat} (h : s.bit .CAUSES_LATCHED a k = true) : s.loseEntry.bit .CAUSES_LATCHED a k = true := by
  unfold State.loseEntry
  dsimp only
  split
  · exact h
  · exact h
  · split
    · exact h
    · exact (State.bit_congr (State.rd_wr_ne _ _ _ _ (by decide)) k).trans h
  · split
    · exact slotGone_latched _ h
    · exact h
  · exact h
  · exact h
  · exact h

theorem sdram_clause (b : Fin 8) (a : Nat) :
    let s := s0.at t
    s.armed 3 b = none →
      (∃ u, exec (.sdramCorrected t b a) s0 = .next u ∧ u.bit .CAUSES_LATCHED 0x62 0x20 = true ∧ s.LogOnly u) ∧
      (∃ u, exec (.sdramUncorrectable t b a) s0 = .next u ∧ u.bit .CAUSES_LATCHED 0x62 1 = true ∧ (b.val < 4 → s.LogOnly u)) := by
  intro s h
  have fixed : exec (.sdramCorrected t b a) s0 = .next s.sdramFixed := by simp only [exec, execSdramCorrected, h, s]
  have lost : exec (.sdramUncorrectable t b a) s0 = .next (s.sdramLost b a) := by simp only [exec, execSdramUncorrectable, h, s]
  refine ⟨⟨_, fixed, ?_, (sdramFixed_keeps (M := State.sdramFixed_may) (keeps_refl _ s)).logOnly⟩, ⟨_, lost, ?_, fun hb => ?_⟩⟩
  · exact detect_latches ..
  · unfold State.sdramLost
    dsimp only
    split
    · exact loseEntry_latched (detect_latches ..)
    · exact detect_latches ..
  · rw [show s.sdramLost b a = s.detect 0x62 1 (dataOf [(1, b), (4, a)]) from if_neg (Nat.not_le.mpr hb)]
    exact (detect_keeps (M := State.detect_may) _ _ _ _ (keeps_refl _ s)).logOnly

-- the steward

/-- The loss of the active core as it shows: its cause, the takeover that begins, both changes of REDUNDANCY (R18). -/
def State.coreLost (s : State) : State :=
  let s := (s.detectShadow s.blkSteward 1 0 portCovers .waiting).wr .takeover 0 1
  let s := (s.wr .takeoverAt 0 s.now).setRed 8 true
  s.setRed 7 (!s.bit .REDUNDANCY 0 7)

/-- What was in progress is discarded (R18). -/
def State.workDropped (s : State) : State :=
  let s := ((s.dropTransactions.endSwap 0x07).wr .commitRun 0 0).wr .modeReq 0 0
  { s with newSet := none }.interruptClose

theorem exec_stewardLost (h8 : (s0.at t).bit .REDUNDANCY 0 8 = false) (hm : (s0.at t).mode ≠ 0) :
    exec (.stewardLost t) s0 = .next (s0.at t).coreLost.workDropped :=
  congrArg Host.Outcome.next (if_neg (by simp [h8, hm]))

def coreLost_may : Nat := State.detectShadow_may ||| State.setRed_may ||| may .takeover ||| may .takeoverAt

theorem coreLost_keeps (s : State) : Keeps coreLost_may s s.coreLost := by
  have begun := keeps_wr (detectShadow_keeps (M := coreLost_may) s.blkSteward 1 0 portCovers .waiting (keeps_refl _ s)) .takeover 0 1
    (by decide +kernel)
  exact setRed_keeps 7 _ (setRed_keeps 8 true (keeps_wr begun .takeoverAt 0 _ (by decide +kernel)))

theorem coreLost_shows (s : State) :
    s.coreLost.rd .takeover 0 = 1 ∧ s.coreLost.bit .REDUNDANCY 0 8 = true ∧ s.coreLost.bit .REDUNDANCY 0 7 = !s.bit .REDUNDANCY 0 7 ∧
      s.coreLost.bit .CAUSES_PRESENT s.blkSteward 1 = true := by
  have held : persists s.blkSteward 1 = true := by
    unfold State.blkSteward
    split <;> rfl
  refine ⟨?_, ?_, ?_, ?_⟩
  · simp (disch := decide +kernel) [State.coreLost, setRed_rd, State.rd_wr]
  · simp [State.coreLost, setRed_bit]
  · rw [State.coreLost, setRed_bit, if_pos rfl, setRed_bit, if_neg (by decide)]
    rw [State.bit_congr ((State.rd_wr_ne _ _ _ _ (by decide)).trans ((State.rd_wr_ne _ _ _ _ (by decide)).trans
      (detectShadow_rd _ _ _ _ _ _ _ _ (by decide +kernel))))]
  · rw [← detectShadow_present s s.blkSteward 1 0 portCovers .waiting held]
    apply State.bit_congr
    simp (disch := decide +kernel) [State.coreLost, setRed_rd, State.rd_wr]

theorem tagSt_wrTag (s : State) (k j : Nat) (x : TagSt) : (s.wrTag k x).tagSt j = if j = k then x else s.tagSt j := by
  simp only [State.tagSt, State.wrTag, State.wr_fields, tget_tset]

/-- Every transaction that waited is discarded, and no tag is taken anew. -/
theorem freedTags (l : List Deferred) (s : State) (k : Nat) (h : (∃ d ∈ l, d.hdr.tag.val = k) ∨ s.tagSt k = TagSt.free) :
    (l.foldl (fun (s : State) d => s.wrTag d.hdr.tag TagSt.free) s).tagSt k = TagSt.free := by
  induction l generalizing s with
  | nil => simpa using h
  | cons d l ih =>
    refine ih _ ?_
    rw [tagSt_wrTag]
    rcases h with ⟨e, he, hk⟩ | h
    · rcases List.mem_cons.mp he with rfl | he
      · exact .inr (if_pos hk.symm)
      · exact .inl ⟨e, he, hk⟩
    · exact .inr (by rw [h, ite_self])

theorem dropTransactions_deferred (s : State) : s.dropTransactions.deferred = [] :=
  (keeps_foldl (m := State.wrTag_may) (keeps_refl _ { s with deferred := [] }) (fun _ _ h => wrTag_keeps _ _ h)).deferred (by decide +kernel)

theorem finish_of_none {s : State} (index sub code : Nat) (h : s.deferred = []) : s.finish index sub code = s := by
  unfold State.finish
  simp only [h, List.filter_nil, List.foldl_nil]
  rw [← h]

/-- With no transaction in progress the end of a swap touches no tag. -/
theorem endSwap_quiet {s : State} (code : Nat) (h : s.deferred = []) :
    (s.endSwap code).tags = s.tags ∧ (s.endSwap code).deferred = [] ∧ (s.endSwap code).rd .SWAP_STATE 0 = 0 := by
  have kept (x : State) (m : Nat) := setMode_keeps (M := State.setMode_may) m 5 (keeps_refl _ x)
  have idle : ((((s.wr .SWAP_STATE 0 0).wr .swapImg 0 0).wr .SWAP_RESULT 0 code)).rd .SWAP_STATE 0 = 0 := by simp [State.rd_wr]
  unfold State.endSwap
  split
  · next e => exact ⟨rfl, h, e⟩
  · simp only [finish_of_none, h, State.wr_fields]
    split
    · exact ⟨(kept _ _).tags (by decide +kernel), (kept _ _).deferred (by decide +kernel),
        ((kept _ _).rd .SWAP_STATE 0 (by decide +kernel)).trans idle⟩
    · exact ⟨rfl, rfl, idle⟩

theorem interruptClose_chunks (s : State) : s.interruptClose.chunks = [] := by
  have shown (x : State) (n none' : Nat) : (x.showImage n none').chunks = x.chunks :=
    (showImage_keeps (M := State.showImage_may) n none' (keeps_refl _ x)).chunks (by decide +kernel)
  unfold State.interruptClose
  split
  · rfl
  · exact shown ..

def workDropped_may : Nat :=
  State.dropTransactions_may ||| State.endSwap_may ||| State.interruptClose_may ||| may .commitRun ||| may .modeReq

theorem workDropped_keeps (s : State) : Keeps workDropped_may s s.workDropped := by
  have ended := endSwap_keeps (M := workDropped_may) 0x07 (dropTransactions_keeps (keeps_refl _ s))
  exact interruptClose_keeps (keeps_newSet (keeps_wr (keeps_wr ended .commitRun 0 0 (by decide +kernel)) .modeReq 0 0 (by decide +kernel))
    (by decide +kernel))

theorem workDropped_shows (s : State) :
    s.workDropped.deferred = [] ∧ s.workDropped.newSet = none ∧ s.workDropped.chunks = [] ∧ s.workDropped.rd .commitRun 0 = 0 ∧
      s.workDropped.rd .modeReq 0 = 0 ∧ s.workDropped.rd .SWAP_STATE 0 = 0 ∧
      ∀ d ∈ s.deferred, s.workDropped.tagSt d.hdr.tag = TagSt.free := by
  obtain ⟨ended, deferred, swap⟩ := endSwap_quiet 0x07 (dropTransactions_deferred s)
  have closed (x : State) := interruptClose_keeps (M := State.interruptClose_may) (keeps_refl _ x)
  have tags : s.workDropped.tags = s.dropTransactions.tags := ((closed _).tags (by decide +kernel)).trans ended
  refine ⟨((closed _).deferred (by decide +kernel)).trans deferred, (closed _).newSet (by decide +kernel), interruptClose_chunks _,
    ((closed _).rd .commitRun 0 (by decide +kernel)).trans ?_, ((closed _).rd .modeReq 0 (by decide +kernel)).trans ?_,
    ((closed _).rd .SWAP_STATE 0 (by decide +kernel)).trans ?_, fun d hd => ?_⟩
  · simp [State.rd_wr]
  · simp [State.rd_wr]
  · simpa [State.rd_wr] using swap
  · exact (congrArg (tget TagSt.free · d.hdr.tag.val) tags).trans (freedTags s.deferred _ d.hdr.tag (.inl ⟨d, hd, rfl⟩))

theorem stewardLost_clause :
    let s := s0.at t
    s.bit .REDUNDANCY 0 8 = false → s.mode ≠ 0 →
    ∃ u, exec (.stewardLost t) s0 = .next u ∧ u.rd .takeover 0 = 1 ∧ u.answering = false ∧ u.bit .REDUNDANCY 0 8 = true ∧
      u.bit .REDUNDANCY 0 7 = !s.bit .REDUNDANCY 0 7 ∧ u.bit .CAUSES_PRESENT s.blkSteward 1 = true ∧ u.deferred = [] ∧ u.newSet = none ∧
      u.chunks = [] ∧ u.rd .commitRun 0 = 0 ∧ u.rd .modeReq 0 = 0 ∧ u.rd .SWAP_STATE 0 = 0 ∧
      (∀ d ∈ s.deferred, u.tagSt d.hdr.tag = TagSt.free) ∧ u.staged = s.staged ∧ u.flash = s.flash := by
  intro s h8 hm
  have lost := coreLost_keeps s
  have dropped := workDropped_keeps s.coreLost
  obtain ⟨takeover, red8, red7, cause⟩ := coreLost_shows s
  obtain ⟨deferred, newSet, chunks, commit, modeReq, swap, freed⟩ := workDropped_shows s.coreLost
  have through (r : Reg) (i : Nat) (h : workDropped_may.testBit r.ctorIdx = false) := dropped.rd r i h
  have taking : s.coreLost.workDropped.rd .takeover 0 = 1 := (through .takeover 0 (by decide +kernel)).trans takeover
  have silent : s.coreLost.workDropped.answering = false := by simp [State.answering, taking]
  refine ⟨_, exec_stewardLost t s0 h8 hm, taking, silent, ?_, ?_, ?_, deferred, newSet, chunks, commit, modeReq, swap,
    fun d hd => freed d (by rwa [lost.deferred (by decide +kernel)]),
    (dropped.staged (by decide +kernel)).trans (lost.staged (by decide +kernel)),
    (dropped.flash (by decide +kernel)).trans (lost.flash (by decide +kernel))⟩
  · exact (State.bit_congr (through _ _ (by decide +kernel)) 8).trans red8
  · exact (State.bit_congr (through _ _ (by decide +kernel)) 7).trans red7
  · exact (State.bit_congr (through _ _ (by decide +kernel)) 1).trans cause

theorem closeRec_openRec (s : State) (b : Nat) : (s.closeRec b).openRec b = none := by
  unfold State.closeRec
  split
  · next h => exact h
  · simp only [State.openRec, State.wr_fields, State.setOpen, tget_tset, if_pos]

theorem takeoverComplete_clause :
    let s := s0.at t
    s.rd .takeover 0 ≠ 0 →
    ∃ u, exec (.takeoverComplete t) s0 = .next u ∧ u.rd .takeover 0 = 0 ∧ u.bit .CFG_CHANGED 0 4 = true ∧
      u.openRec (0x64 + (if s.bit .REDUNDANCY 0 7 then 0 else 1)) = none ∧ (∀ n, u.tagSt n = s.tagSt n) ∧ u.deferred = s.deferred := by
  intro s h
  have closed (x : State) (b : Nat) := closeRec_keeps (M := State.closeRec_may) b (keeps_refl _ x)
  refine ⟨_, congrArg Host.Outcome.next (if_neg h), ?_, ?_, closeRec_openRec _ _, fun n => ?_, ?_⟩
  · refine ((closed _ _).rd .takeover 0 (by decide +kernel)).trans ?_
    exact (State.rd_raise_ne _ _ _ _ (by decide)).trans (State.rd_wr_same ..)
  · refine (State.bit_congr ((closed _ _).rd .CFG_CHANGED 0 (by decide +kernel)) 4).trans ?_
    exact (State.bit_raise (s.wr .takeover 0 0) .CFG_CHANGED 0 (2 ^ 4) 0 4).trans
      (by rw [decide_eq_true rfl, Nat.testBit_two_pow_self, Bool.true_and, Bool.or_true])
  · exact congrArg (tget TagSt.free · n) ((closed _ _).tags (by decide +kernel))
  · exact (closed _ _).deferred (by decide +kernel)

/-- Settles O37: each part by the equation of its command, with the rules of causes and of REDUNDANCY. -/
theorem partsAndStewardTakeover : Obligations.PartsAndStewardTakeover := by
  unfold Obligations.PartsAndStewardTakeover
  exact ⟨fun t v i n w high out s0 => ⟨feedLost_clause t v i s0, bothFeedsLost_clause t v s0, feedRestored_clause t i s0,
      logicBuckLost_clause t v i s0, logicBuckRestored_clause t i s0, auxLost_clause t s0, auxRestored_clause t s0,
      tsMismatch_clause t s0 n w high out, tsSelfTest_clause t i s0, flashBankLost_clause t i s0, flashBankRestored_clause t i s0,
      sdram_clause t s0⟩,
    fun t s0 => ⟨stewardLost_clause t s0, takeoverComplete_clause t s0⟩⟩

end
end Sys2Proof.Machine
end

section
/-! PROOFS. The pass mark and the time it keeps (O57). -/
namespace Sys2Proof.Machine

set_option Elab.async false

/-- What a mark does once there are marks: the blocks, the axes, then what is taken of them (R10–R15). -/
def State.markWork (s : State) (w : MarkIn) : State :=
  let a := ((s.blocksMark w).dueContact.forAll 64 State.axisMark).wr .enaPend 0 0
  ((a.forAll 64 State.publish).rmsMark.standbyMark.modeAtMark).aliveMark s.aliveOn

theorem exec_passMark {s : State} (w : MarkIn) (hl : s.rd .pllLocked 0 ≠ 0) (hm : s.mode ≠ 0) : exec (.passMark w) s = .next (s.markWork w) :=
  congrArg Host.Outcome.next (if_neg (by simp [hl, hm]))

/-- What the blocks do at a mark once its cycle has begun. -/
def blocksAfterTick_may : Nat :=
  State.traceMark_may ||| State.supplyMark_may ||| State.cutLate_may ||| State.closeAtMark_may ||| State.channelMark_may ||| State.calMark_may |||
  State.converterMark_may ||| State.busMark_may ||| State.emulate_may ||| State.depthMark_may ||| State.fallbackMark_may ||| State.dieMark_may

theorem blocksMark_after_tick (s : State) (w : MarkIn) : Keeps blocksAfterTick_may s.settleAll.tick (s.blocksMark w) := by
  have read := closeAtMark_keeps (M := blocksAfterTick_may) (cutLate_keeps (supplyMark_keeps w (traceMark_keeps (keeps_refl _ s.settleAll.tick))))
  have fed := calMark_keeps (keeps_forAll (n := 16) read (fun _ c g => channelMark_keeps c g))
  have converted (c : Bool) := keeps_iff (c := c) fed (fun _ g => keeps_forAll (n := 16) g (fun _ c g => converterMark_keeps c g))
  have shown (c : Bool) := keeps_forAll (n := 4) (keeps_forAll (n := 8) (converted c) (fun _ k g => busMark_keeps k g))
    (fun _ k g => emulate_keeps k g)
  exact keeps_forAll (n := 8) (fallbackMark_keeps (depthMark_keeps (shown _))) (fun _ k g => dieMark_keeps k g)

/-- What a mark does once its cycle has begun. -/
def afterTick_may : Nat :=
  blocksAfterTick_may ||| State.dueContact_may ||| State.axisMark_may ||| may .enaPend ||| State.publish_may ||| State.rmsMark_may |||
  State.standbyMark_may ||| State.modeAtMark_may ||| State.aliveMark_may

theorem markWork_after_tick (s : State) (w : MarkIn) : Keeps afterTick_may s.settleAll.tick (s.markWork w) := by
  have blocks := (blocksMark_after_tick s w).mono (m' := afterTick_may) (by decide +kernel)
  have axes := keeps_wr (keeps_forAll (n := 64) (dueContact_keeps blocks) (fun _ n g => axisMark_keeps n g)) .enaPend 0 0 (by decide +kernel)
  have sent := keeps_forAll (n := 64) axes (fun _ n g => publish_keeps n g)
  exact aliveMark_keeps _ (modeAtMark_keeps (standbyMark_keeps (rmsMark_keeps sent)))

theorem settleAll_rd (s : State) (r : Reg) (i : Nat) (h : State.settleAll_may.testBit r.ctorIdx = false) : s.settleAll.rd r i = s.rd r i :=
  (settleAll_keeps (keeps_refl _ s)).rd r i h

/-- The registers of the time at a mark (R10, R363). -/
theorem tick_shows (s : State) :
    s.tick.rd .PASS_COUNT 0 = s.rd .PASS_COUNT 0 + 1 ∧ s.tick.rd .PASS_MARK_TIME 0 = (s.rdN .PASS_MARK_TIME 0 + 5000 : Nat) ∧
      s.tick.rd .DEVICE_TIME 0 = s.tick.rd .PASS_MARK_TIME 0 := by
  simp [State.tick, State.goOn, State.nextMark, State.rd_wr]

theorem markWork_time (s : State) (w : MarkIn) :
    (s.markWork w).rd .PASS_COUNT 0 = s.rd .PASS_COUNT 0 + 1 ∧
      (s.markWork w).rd .PASS_MARK_TIME 0 = (s.rdN .PASS_MARK_TIME 0 + 5000 : Nat) ∧
      (s.markWork w).rd .DEVICE_TIME 0 = (s.markWork w).rd .PASS_MARK_TIME 0 := by
  have rest := markWork_after_tick s w
  obtain ⟨count, mark, time⟩ := tick_shows s.settleAll
  rw [rest.rd .PASS_COUNT 0 (by decide +kernel), rest.rd .PASS_MARK_TIME 0 (by decide +kernel), rest.rd .DEVICE_TIME 0 (by decide +kernel), count,
    time, mark, settleAll_rd s .PASS_COUNT 0 (by decide +kernel), State.rdN, settleAll_rd s .PASS_MARK_TIME 0 (by decide +kernel), State.rdN]
  exact ⟨rfl, rfl, rfl⟩

/-- Subindex 1 of index 0x1010 is the pass counter (R15). -/
theorem look_passCount (s : State) : s.look 0x1010 1 = .obj ⟨.PASS_COUNT, 0x1010, 0x1, 1, 1, 1, .u64, .ro, []⟩ 0 := by
  have there : (maxSub 0x1010).isSome = true := by decide +kernel
  have found : findObj 0x1010 1 = some (⟨.PASS_COUNT, 0x1010, 0x1, 1, 1, 1, .u64, .ro, []⟩, 0) := by decide +kernel
  simp [State.look, State.indexOk, subMissing, there, found]

/-- Settles O57: the time of a mark is written by `tick`, and nothing that follows in its cycle writes it. -/
theorem passesLastFiveThousandCycles : Obligations.PassesLastFiveThousandCycles := by
  unfold Obligations.PassesLastFiveThousandCycles
  refine ⟨fun w s hl hm => ⟨_, exec_passMark w hl hm, markWork_time s w⟩, fun s => ?_⟩
  simp [State.readOne, look_passCount, State.bytes, State.value, Ty.size]

end Sys2Proof.Machine
end

section
/-! PROOFS. The move queues Q0–Q63: what records and traces push goes to Q72, Q73 and Q74 and leaves them alone. -/
namespace Sys2Proof.Machine

set_option Elab.async false

/-- Between `s` and `t` no move queue has changed. -/
structure State.SameMoves (s t : State) : Prop where
  queue : ∀ q < 64, t.queue q = s.queue q

theorem sameMoves_refl (s : State) : s.SameMoves s := ⟨fun _ _ => rfl⟩

namespace State.SameMoves

theorem trans {s t u : State} (h : s.SameMoves t) (g : t.SameMoves u) : s.SameMoves u :=
  ⟨fun q hq => (g.queue q hq).trans (h.queue q hq)⟩

section
variable {S s t : State}

/-- What leaves the queues alone leaves the move queues alone. -/
theorem same (h : S.SameMoves s) (e : t.queues = s.queues) : S.SameMoves t := by
  constructor
  intro q hq
  rw [← h.queue q hq, State.queue, State.queue, e]

theorem keeps {m : Nat} (h : S.SameMoves s) (k : Keeps m s t) (hm : m.testBit 2003 = false := by decide +kernel) : S.SameMoves t :=
  h.same (k.queues hm)

theorem ite {c : Prop} {_ : Decidable c} (h : S.SameMoves s) (g : S.SameMoves t) : S.SameMoves (if c then s else t) := by
  split <;> assumption

theorem iff {c : Bool} {f : State → State} (h : S.SameMoves s) (g : S.SameMoves (f s)) : S.SameMoves (s.iff c f) := g.ite h

theorem wr (h : S.SameMoves s) (r : Reg) (i : Nat) (v : Int) : S.SameMoves (s.wr r i v) := h.same rfl

theorem tally (h : S.SameMoves s) (k n : Nat) : S.SameMoves (s.tally k n) := h.same rfl

theorem wrQueue (h : S.SameMoves s) {q : Nat} (hq : 64 ≤ q) (x : Queue) : S.SameMoves (s.wrQueue q x) := by
  constructor
  intro p hp
  rw [State.queue_wrQueue, if_neg (by omega), h.queue p hp]

theorem count (h : S.SameMoves s) (r : Reg) (i n w : Nat) : S.SameMoves (s.count r i n w) := (h.wr r i _).ite (h.same rfl)

theorem push (h : S.SameMoves s) {q : Nat} (hq : 64 ≤ q) (p : Pkt) : S.SameMoves (s.push q p).1 := by
  unfold State.push
  extract_lets x0 cap x s1 y s2 s3 s4 s5 s6
  have counted : S.SameMoves s1 := h.count .REFUSED q _ 32
  by_cases hv : (s1.qVoided q || decide (cap < x.depth + p.len)) = true
  · rw [if_pos hv]
    exact counted.count .REFUSED q 1 32
  · rw [if_neg hv]
    have pushed : S.SameMoves s3 := ((counted.wr .REWIND_VALID q 0).ite counted).wrQueue hq y
    exact (((pushed.count .PUSHED q 1 64).count .PACKETS q 1 64).wr .HIGH_WATER q _).wr .COUNTER (16 + q) _

theorem trace (h : S.SameMoves s) (src v : Nat) : S.SameMoves (s.trace src v) := by
  unfold State.trace
  split
  · exact h
  · extract_lets w
    have pushed := h.push (q := 73) (by decide) (.words [w])
    split
    · next x e =>
      rw [e] at pushed
      exact (pushed.tally 203 1).ite pushed
    · next x e =>
      rw [e] at pushed
      have dropped := pushed.count .TRACE_DROPS 0 1 32
      exact (dropped.iff (dropped.tally (195 + src) 1)).wr .dropPending 0 _

theorem traceIf (h : S.SameMoves s) (src : Nat) (pass : Bool) (v : Nat) : S.SameMoves (s.traceIf src pass v) := (h.trace src v).ite h

theorem event (h : S.SameMoves s) (n b : Nat) : S.SameMoves (s.event n b) :=
  traceIf (s := s.raise .AXIS_EVENTS n (2 ^ b)) (h.same rfl) 3 _ _

theorem setAxis (h : S.SameMoves s) (n : Nat) (v : Int) : S.SameMoves (s.setAxis n v) := h.ite ((h.wr .AXIS_STATE n v).traceIf 3 _ _)

theorem onRecord (h : S.SameMoves s) (o : Nat) (f : Rec → Rec) : S.SameMoves (s.onRecord o f) := same (h.wrQueue (q := 72) (by decide) _) rfl

theorem closeRec (h : S.SameMoves s) (b : Nat) : S.SameMoves (s.closeRec b) := by
  unfold State.closeRec
  split
  · exact h
  · exact (h.onRecord _ _).same rfl

theorem endCause (h : S.SameMoves s) (b c : Nat) : S.SameMoves (s.endCause b c) := by
  have lowered : S.SameMoves (s.wrBit .CAUSES_PRESENT b c false) := h.same rfl
  unfold State.endCause
  dsimp only
  split
  · exact (lowered.closeRec b).ite lowered
  · exact lowered

theorem mergeInto (h : S.SameMoves s) (b c : Nat) (o : OpenRec) : S.SameMoves (s.mergeInto b c o) := by
  have merged (f : Rec → Rec) : S.SameMoves ((s.onRecord o.ordinal f).wrBit .OPEN_CAUSES b c true) := (h.onRecord o.ordinal f).same rfl
  exact ((merged _).count .MERGES b 1 32).tally 221 1

theorem post (h : S.SameMoves s) (b c data : Nat) (opens : Bool) : S.SameMoves (s.post b c data opens) := by
  unfold State.post
  lift_lets
  intro s1 sev o cons severe begins
  have closed : S.SameMoves s1 := h.closeRec b
  intro s2 s3 s4
  have opened : S.SameMoves s3 := (((closed.wr .INCIDENT_OPEN 0 1).wr .incidentFirst 0 o).count .INCIDENTS 0 1 32).tally 223 1
  have begun : S.SameMoves s4 := (((opened.wr .HEAD_FIRST 0 o).wr .headDone 0 0).ite opened).ite closed
  intro s5 inHead
  have passed : S.SameMoves s5 := (begun.wr .incidentPass 0 _).ite begun
  intro s6 s7 link r
  have last : S.SameMoves s6 := passed.wr .HEAD_LAST 0 o
  have headed : S.SameMoves s7 := ((last.wr .headDone 0 1).ite last).ite passed
  intro s8 s9
  have newest : S.SameMoves s8 := headed.wr .NEWEST_ORDINAL 0 o
  have ranked : S.SameMoves s9 := (newest.wr .NEWEST_SEVERE 0 o).ite ((newest.wr .NEWEST_WARN 0 o).ite newest)
  intro s10 s11 s12
  have numbered : S.SameMoves s11 :=
    ((((ranked.wr .OPEN_ORDINAL b o).wr .OPEN_CAUSES b _).wr .LAST_ORDINAL b o).count .RECORDS b 1 32).tally 220 1
  have noted : S.SameMoves s12 := numbered.same rfl
  intro s13
  have queued : S.SameMoves s13 := by
    have pushed := noted.push (q := 72) (by decide) (.record r)
    unfold s13
    split
    · next x e => rwa [e] at pushed
    · next x e =>
      rw [e] at pushed
      exact (pushed.count .POST_DROPS 0 1 32).tally 222 1
  intro s14 s15 s16
  have traced : S.SameMoves s15 := (queued.push (q := 74) (by decide) _).traceIf 5 _ _
  have stopped : S.SameMoves s16 := traced.wr .aliveStop 0 1
  with_reducible refine .ite (.ite ?_ stopped) traced
  exact (stopped.wr .tripPending 0 _).wr .tripFrom 0 _

theorem detect (h : S.SameMoves s) (b c data : Nat) (opens : Bool) : S.SameMoves (s.detect b c data opens) := by
  have noted : S.SameMoves (s.noteCause b c) := ite (h.same rfl) (h.same rfl)
  obtain ⟨o, e⟩ | e := detect_cases s b c data opens <;> rw [e]
  · exact noted.mergeInto b c o
  · exact noted.post b c data opens

theorem detectHeld (h : S.SameMoves s) (b c data : Nat) : S.SameMoves (s.detectHeld b c data) := h.ite (h.detect b c data false)

end

end State.SameMoves

end Sys2Proof.Machine
end

section
/-! PROOFS. The built-in slots (O18): what the start of a slot leaves for the step that it runs, and the steps themselves. -/
namespace Sys2Proof.Machine

set_option Elab.async false

-- the start of a slot

/-- What the start of a slot may change: the slot's number, the trace and what a corrected word leaves in the fault log. -/
def slotStart_may : Nat := may .slotAt ||| State.traceIf_may ||| State.detect_may ||| State.tally_may ||| State.draw_may

/-- From `s` to `x` a slot has started, and its step has yet to write. -/
structure State.Started (s x : State) : Prop where
  keeps : Keeps slotStart_may s x
  moves : s.SameMoves x

/-- An error that was corrected is recorded in the fault log and counted. -/
theorem started_corrected {s x : State} (h : s.Started x) (c : Bool) (b k data : Nat) :
    s.Started (x.iff c (fun x => (x.detect b 0x20 data).tally k)) :=
  ⟨keeps_iff h.keeps (fun _ g => tally_keeps k 1 (detect_keeps b 0x20 data false g)), h.moves.iff ((h.moves.detect b 0x20 data false).tally k 1)⟩

theorem started_traceIf {s x : State} (h : s.Started x) (src : Nat) (p : Bool) (v : Nat) : s.Started (x.traceIf src p v) :=
  ⟨traceIf_keeps src p v h.keeps, h.moves.traceIf src p v⟩

/-- The injection that is armed stays armed while a slot starts. -/
theorem started_armed {s x : State} (h : s.Started x) (c k : Nat) : x.armed c k = s.armed c k := by
  have e (r : Reg) (i : Nat) := h.keeps.rd r i
  simp only [State.armed, State.now, State.rdN, e .INJECT_TARGET 0 (by decide +kernel), e .INJECT_STATE 0 (by decide +kernel),
    e .injectAt 0 (by decide +kernel), e .DEVICE_TIME 0 (by decide +kernel)]
  rfl

theorem slotCheck_of_unarmed {s : State} {i : Nat} (h : s.armed 2 i = none) (c : Bool) :
    s.slotCheck i c = (s.iff c (fun x => (x.detect 0x70 0x20).tally 234), false) := by
  rw [State.slotCheck, h]

theorem engineChecks_of_unarmed {s : State} {e : Nat} (h4 : s.armed 4 e = none) (h5 : s.armed 5 e = none) (c : Bool) :
    s.engineChecks e c = (s.iff c (fun x => (x.detect (blkEngine e) 0x20).tally 235), false) := by
  rw [State.engineChecks, h4, h5]

/-- A slot that no injection strikes is issued. -/
theorem issue_of_unarmed {s : State} {i e : Nat} (m : SlotIn) (h2 : s.armed 2 i = none) (h4 : s.armed 4 e = none) (h5 : s.armed 5 e = none) :
    ∃ x, s.issue i e m = (x, true) ∧ s.Started x := by
  have read : s.Started (s.iff m.word (fun x => (x.detect 0x70 0x20).tally 234)) :=
    started_corrected ⟨keeps_refl _ s, sameMoves_refl s⟩ m.word 0x70 234 0
  have numbered (y : State) (g : s.Started y) : s.Started (y.wr .slotAt i (y.pass + 1)) :=
    ⟨keeps_wr g.keeps .slotAt i _ (by decide +kernel), g.moves.wr .slotAt i _⟩
  unfold State.issue
  rw [slotCheck_of_unarmed h2]
  generalize State.iff s m.word _ = y at read ⊢
  have traced := started_traceIf (numbered y read) 1 (y.bit .tfEngines 0 e) (i + 2 ^ 12 * e)
  dsimp only
  rw [if_neg Bool.false_ne_true, engineChecks_of_unarmed ((started_armed traced 4 e).trans h4) ((started_armed traced 5 e).trans h5)]
  exact ⟨_, rfl, started_corrected traced m.store (blkEngine e) 235 0⟩

/-- A ledger read that is not uncorrectable is recorded at most. -/
theorem started_ledgerEcc {s x : State} (h : s.Started x) (n : Nat) {ecc : Ecc} (he : ecc ≠ .uncorrectable) : s.Started (x.ledgerEcc n ecc) := by
  cases ecc with
  | clean => exact h
  | corrected => exact ⟨detect_keeps 0x70 0x21 0 false (tally_keeps 232 1 h.keeps), (h.moves.tally 232 1).detect 0x70 0x21 0 false⟩
  | uncorrectable => exact absurd rfl he

/-- A built-in slot that comes runs its step on a state that differs from `s` in the fault log, the trace and the slot's number alone. -/
theorem builtin_of_comes {s : State} {k n : Nat} (h : s.SlotComes k n) {m : SlotIn} (hm : m.ledger ≠ .uncorrectable) :
    ∃ x, s.Started x ∧ ∀ f, ∃ p v, s.builtin k n m f = (f x).traceIf 2 p v := by
  obtain ⟨i, w, slot, h2, h4, h5⟩ := h
  obtain ⟨y, issued, start⟩ := issue_of_unarmed m h2 h4 h5
  have counted (used : Nat) : s.Started ((y.draw 14).2.tally (slotEngine w) used) :=
    ⟨tally_keeps _ _ (draw_keeps 14 start.keeps), (State.SameMoves.same (t := (y.draw 14).2) start.moves rfl).tally _ _⟩
  refine ⟨_, started_ledgerEcc (counted (1 + (y.draw 14).1 % max (slotBudget w) 1)) n hm, fun f => ?_⟩
  unfold State.builtin
  rw [slot]
  dsimp only
  rw [issued]
  dsimp only
  rw [decide_eq_true hm]
  exact ⟨_, _, rfl⟩

end Sys2Proof.Machine
end

section
/-! PROOFS. The fold-in slots (O18). -/
namespace Sys2Proof.Machine

set_option Elab.async false

theorem State.Started.rd {s x : State} (h : s.Started x) (r : Reg) (i : Nat) (hr : slotStart_may.testBit r.ctorIdx = false := by decide +kernel) :
    x.rd r i = s.rd r i := h.keeps.rd r i hr

theorem traceIf_rd (s : State) (src : Nat) (p : Bool) (v : Nat) (r : Reg) (i : Nat)
    (hr : State.traceIf_may.testBit r.ctorIdx = false := by decide +kernel) : (s.traceIf src p v).rd r i = s.rd r i :=
  (traceIf_keeps src p v (keeps_refl _ s)).rd r i hr

theorem traceIf_planner (s : State) (src : Nat) (p : Bool) (v n : Nat) : (s.traceIf src p v).planner n = s.planner n := by
  rw [State.planner, (traceIf_keeps (M := State.traceIf_may) src p v (keeps_refl _ s)).planners (by decide +kernel), State.planner]

-- the fold-in

theorem wr48_of_range (s : State) (r : Reg) (i : Nat) {v : Int} (lo : -2 ^ 47 ≤ v) (hi : v < 2 ^ 47) : s.wr48 r i v = s.wr r i v := by
  rw [State.wr48, if_pos (by simp; omega)]

/-- The position that the fold-in of axis `n` forms of its channel (R180). -/
def State.foldPos (s : State) (n : Nat) : Int :=
  s.rd .fbCmd n + fdiv ((s.rd .CH_POS (s.rdN .FB_CHANNEL n) - s.rd .fbCh n) * s.rd .FB_NUM n) (s.rd .FB_DEN n)

/-- What the fold-in writes once position and deviation stand. -/
def afterFold_may : Nat := may .DEV_VALID ||| may .DEV_PEAK ||| may .devStop ||| State.detect_may

theorem foldIn_writes {s : State} {n : Nat} (hc : s.rdN .FB_CHANNEL n < 16) :
    Keeps afterFold_may ((s.wr48 .FB_POS n (s.foldPos n)).wr48 .DEVIATION n (s.foldPos n - s.rd .CMD_POS n)) (s.foldIn n) := by
  unfold State.foldIn
  extract_lets _ _ _ _ z
  rw [if_pos hc]
  have valid : Keeps afterFold_may ((s.wr48 .FB_POS n (s.foldPos n)).wr48 .DEVIATION n (s.foldPos n - s.rd .CMD_POS n)) z :=
    keepMax_keeps .DEV_PEAK n _ (keeps_wr (keeps_refl _ _) .DEV_VALID n _ (by decide +kernel))
  have found := detect_keeps (blkAxis n) 0x19 0 false valid
  exact keeps_ite (keeps_ite (keeps_wr found .devStop n 1 (by decide +kernel)) found) valid

/-- What the fold-in forms where both values lie within 48 bits. -/
theorem foldIn_shows {s : State} {n : Nat} (hc : s.rdN .FB_CHANNEL n < 16) (lo : -2 ^ 47 ≤ s.foldPos n) (hi : s.foldPos n < 2 ^ 47)
    (dlo : -2 ^ 47 ≤ s.foldPos n - s.rd .CMD_POS n) (dhi : s.foldPos n - s.rd .CMD_POS n < 2 ^ 47) :
    (s.foldIn n).rd .FB_POS n = s.foldPos n ∧ (s.foldIn n).rd .DEVIATION n = s.foldPos n - s.rd .CMD_POS n := by
  have rest := foldIn_writes hc
  rw [rest.rd .FB_POS n (by decide +kernel), rest.rd .DEVIATION n (by decide +kernel), wr48_of_range _ _ _ lo hi, wr48_of_range _ _ _ dlo dhi]
  exact ⟨by rw [State.rd_wr_ne _ _ _ _ (by decide), State.rd_wr_same], State.rd_wr_same ..⟩

/-- What the slot of KIND 1 commits: nothing while the ledger record of the axis is bad. -/
def State.foldStep (n : Nat) (s : State) : State := if s.rd .ledBad n = 0 then (s.wr .stampFold n (s.pass + 1)).foldIn n else s

section
variable {s : State} {n : Nat} {m : SlotIn} (ok : s.rd .ledBad n = 0) (hm : m.ledger ≠ .uncorrectable)
include ok hm

theorem foldStep_commits (h : s.SlotComes 1 n) (hc : s.rdN .FB_CHANNEL n < 16) (lo : -2 ^ 47 ≤ s.foldPos n) (hi : s.foldPos n < 2 ^ 47)
    (dlo : -2 ^ 47 ≤ s.foldPos n - s.rd .CMD_POS n) (dhi : s.foldPos n - s.rd .CMD_POS n < 2 ^ 47) :
    (s.builtin 1 n m (State.foldStep n)).rd .FB_POS n = s.foldPos n ∧
      (s.builtin 1 n m (State.foldStep n)).rd .DEVIATION n = s.foldPos n - s.rd .CMD_POS n ∧
      (s.builtin 1 n m (State.foldStep n)).rdN .stampFold n = s.pass + 1 := by
  obtain ⟨x, start, run⟩ := builtin_of_comes h hm
  obtain ⟨p, v, e⟩ := run (State.foldStep n)
  let y := x.wr .stampFold n (x.pass + 1)
  have step : State.foldStep n x = y.foldIn n := if_pos ((start.rd .ledBad n).trans ok)
  have read (r : Reg) (i : Nat) (hr : slotStart_may.testBit r.ctorIdx = false) (hne : r ≠ .stampFold) : y.rd r i = s.rd r i := by
    rw [State.rd_wr_ne _ _ _ _ hne, start.rd r i hr]
  have pos : y.foldPos n = s.foldPos n := by
    simp only [State.foldPos, State.rdN]
    simp (disch := decide +kernel) only [read]
  have cmd : y.rd .CMD_POS n = s.rd .CMD_POS n := read _ _ (by decide +kernel) (by decide)
  have chan : y.rdN .FB_CHANNEL n < 16 := by rwa [State.rdN, read _ _ (by decide +kernel) (by decide)]
  obtain ⟨fb, dev⟩ := foldIn_shows chan (pos ▸ lo) (pos ▸ hi) (by rwa [pos, cmd]) (by rwa [pos, cmd])
  rw [e, step, State.rdN, traceIf_rd _ _ _ _ .FB_POS, traceIf_rd _ _ _ _ .DEVIATION, traceIf_rd _ _ _ _ .stampFold, fb, dev, pos, cmd,
    (foldIn_keeps (M := State.foldIn_may) n (keeps_refl _ _)).rd .stampFold n (by decide +kernel), State.rd_wr_same, State.pass, State.rdN,
    start.rd .PASS_COUNT 0]
  exact ⟨rfl, rfl, rfl⟩

end

end Sys2Proof.Machine
end

section
/-! PROOFS. The planner under the profile step (O18). -/
namespace Sys2Proof.Machine

set_option Elab.async false

-- the profile step

/-- No input asks anything of axis `n` in its profile step: no stop, target, record, limit or release, no limit input, no end of a move (R62). -/
structure State.StepQuiet (s : State) (n : Nat) : Prop where
  mode  : s.mode ≠ 9
  axis  : s.rd .AXIS_STATE n = 0 ∨ s.rd .AXIS_STATE n = 1 ∨ s.rd .AXIS_STATE n = 2
  act   : (s.planner n).act = none
  stop  : s.rd .stopPend n = 0
  tgt   : s.rd .tgtPend n = 0
  flush : s.rd .flushPend n = 0
  lim   : s.rd .limNew n = 0
  rel   : s.rd .relWait n = 0
  learn : s.rd .lnOn n = 0
  head  : s.headRec n = none
  input : s.limitSeen n 0 = false ∧ s.limitSeen n 1 = false
  runs  : s.rd .goalKind n = 0 ∨ (s.planner n).arrived = false ∧ s.rd .incHeld n = 0

section
variable {s : State} {n : Nat} (h : s.StepQuiet n)
include h

theorem limitAhead_of_quiet : s.limitAhead n = false := by
  obtain ⟨low, high⟩ := h.input
  simp [State.limitAhead, State.limitBits, low, high]

theorem takeFlush_of_quiet : s.takeFlush n = s := if_neg (by rw [h.flush]; decide)

theorem takeRec_of_quiet : s.takeRec n = s := by
  unfold State.takeRec
  rw [h.head]
  dsimp only
  rw [takeFlush_of_quiet h, ite_self]

theorem homeStep_of_quiet : s.homeStep n = s := by simp [State.homeStep, State.homeRec, h.act]

theorem findEnds_of_quiet : s.findEnds n = s := by
  unfold State.findEnds
  rw [h.act]
  rcases h.runs with goal | ⟨far, -⟩
  · simp [goal]
  · simp [far]

theorem takeInputs_of_quiet : s.takeInputs n = s := by
  simp [State.takeInputs, limitAhead_of_quiet h, h.stop, h.tgt, h.rel, homeStep_of_quiet h, findEnds_of_quiet h, takeRec_of_quiet h, h.learn]

theorem pollInstant_of_quiet : s.pollInstant n = s := by simp [State.pollInstant, State.waitRec, h.act]

end

/-- The profile step of a quiet axis goes one pass on along the plan. -/
theorem moveStep_of_quiet {s : State} {n : Nat} (h : (s.noteSaddle n).StepQuiet n) (held : s.rd .incHeld n = (s.noteSaddle n).rd .incHeld n) :
    s.moveStep n = (s.noteSaddle n).advance n := by
  have limits : (List.range 4).any (fun b => (s.noteSaddle n).bit .limNew n b && decide ((s.noteSaddle n).rdN .limAt (4 * n + b) < (s.noteSaddle n).now)) = false := by
    simp [State.bit, State.rdN, h.lim]
  unfold State.moveStep
  rw [pollInstant_of_quiet h, takeInputs_of_quiet h, held]
  dsimp only
  rw [limits, if_neg Bool.false_ne_true]
  rcases h.runs with goal | ⟨-, free⟩
  · simp [goal]
  · simp [free]

end Sys2Proof.Machine
end

section
/-! PROOFS. The profile steps of an axis at rest and of one on its plan (O18). -/
namespace Sys2Proof.Machine

set_option Elab.async false

-- the state in which the step takes its inputs

/-- What changes from the cycle of the slot to the taking of the inputs. -/
def toStep_may : Nat := slotStart_may ||| may .stampProfile ||| State.formGear_may ||| State.noteSaddle_may

/-- The state in which axis `n` takes the inputs of its profile step: its source is formed and a saddle noted. -/
def State.atInputs (s : State) (n : Nat) : State :=
  (((s.wr .stampProfile n (s.pass + 1)).formGear n ((s.wr .stampProfile n (s.pass + 1)).rdN .PASS_MARK_TIME 0)).noteSaddle n)

theorem atInputs_keeps {s x : State} (h : s.Started x) (n : Nat) : Keeps toStep_may s (x.atInputs n) :=
  noteSaddle_keeps n (formGear_keeps n _ (keeps_wr (h.keeps.mono (by decide +kernel)) .stampProfile n _ (by decide +kernel)))

theorem formGear_moves (s : State) (n t : Nat) : s.SameMoves (s.formGear n t) :=
  (sameMoves_refl s).keeps (formGear_keeps (M := State.formGear_may) n t (keeps_refl _ s))

theorem atInputs_moves {s x : State} (h : s.Started x) (n : Nat) : s.SameMoves (x.atInputs n) :=
  ((h.moves.wr .stampProfile n _).trans (formGear_moves _ n _)).trans
    ((sameMoves_refl _).keeps (noteSaddle_keeps (M := State.noteSaddle_may) n (keeps_refl _ _)))

section
variable {m : Nat} {s z : State} (h : Keeps m s z)
include h

theorem Keeps.planner (n : Nat) (hm : m.testBit 2009 = false := by decide +kernel) : z.planner n = s.planner n := by
  rw [State.planner, State.planner, h.planners hm]

end

/-- What a quiet axis is asked does not change on the way to its inputs. -/
theorem stepQuiet_atInputs {s x : State} {n : Nat} (hn : n < 64) (h : s.Started x) (q : s.StepQuiet n) : (x.atInputs n).StepQuiet n := by
  have k := atInputs_keeps h n
  have e (r : Reg) (i : Nat) (hr : toStep_may.testBit r.ctorIdx = false) : (x.atInputs n).rd r i = s.rd r i := k.rd r i hr
  have moves : (x.atInputs n).queue n = s.queue n := (atInputs_moves h n).queue n hn
  have head : (x.atInputs n).headRec n = s.headRec n := by
    simp only [State.headRec, State.poppable, State.qVoided, State.now, State.pass, State.rdN, moves]
    simp (disch := decide +kernel) only [e]
    rfl
  have limit (b : Nat) : (x.atInputs n).limitSeen n b = s.limitSeen n b := by
    simp only [State.limitSeen, State.sense, State.bit, State.now, State.rdN]
    simp (disch := decide +kernel) only [e]
    rfl
  constructor
  case mode => rw [State.mode, State.rdN, e .MODE 0 (by decide +kernel)]; exact q.mode
  case axis => rw [e .AXIS_STATE n (by decide +kernel)]; exact q.axis
  case act => rw [k.planner]; exact q.act
  case stop => rw [e .stopPend n (by decide +kernel)]; exact q.stop
  case tgt => rw [e .tgtPend n (by decide +kernel)]; exact q.tgt
  case flush => rw [e .flushPend n (by decide +kernel)]; exact q.flush
  case lim => rw [e .limNew n (by decide +kernel)]; exact q.lim
  case rel => rw [e .relWait n (by decide +kernel)]; exact q.rel
  case learn => rw [e .lnOn n (by decide +kernel)]; exact q.learn
  case head => rw [head]; exact q.head
  case input => rw [limit, limit]; exact q.input
  case runs => rw [e .goalKind n (by decide +kernel), k.planner, e .incHeld n (by decide +kernel)]; exact q.runs

-- what the step writes

/-- What the profile step writes once the axis has been carried on. -/
def afterAdvance_may : Nat := may .limSeen ||| may .incHeld ||| State.writeAmplitude_may ||| State.dropStep_may

theorem noteSaddle_rd (s : State) (n : Nat) (r : Reg) (i : Nat) (hr : State.noteSaddle_may.testBit r.ctorIdx = false := by decide +kernel) :
    (s.noteSaddle n).rd r i = s.rd r i := (noteSaddle_keeps n (keeps_refl _ s)).rd r i hr

/-- The profile step of a quiet axis is one pass on along its plan. -/
theorem plannerStep_of_quiet {x : State} {n : Nat} (q : (x.atInputs n).StepQuiet n) :
    Keeps afterAdvance_may ((x.atInputs n).advance n) (x.plannerStep n) := by
  have mode : (x.wr .stampProfile n (x.pass + 1)).mode ≠ 9 := by
    have same : (x.atInputs n).mode = (x.wr .stampProfile n (x.pass + 1)).mode := by
      rw [State.mode, State.mode, State.rdN, State.rdN, State.atInputs, noteSaddle_rd _ n .MODE,
        (formGear_keeps (M := State.formGear_may) n _ (keeps_refl _ _)).rd .MODE 0 (by decide +kernel)]
    exact same ▸ q.mode
  unfold State.plannerStep
  extract_lets y z w
  rw [if_neg mode]
  have step : w = (x.atInputs n).advance n := by
    have state : z.rdN .AXIS_STATE n = 0 ∨ z.rdN .AXIS_STATE n = 1 ∨ z.rdN .AXIS_STATE n = 2 := by
      have axis := q.axis
      rw [State.atInputs, noteSaddle_rd _ n .AXIS_STATE] at axis
      rw [State.rdN]
      rcases axis with e | e | e <;> rw [e] <;> decide
    have moved : z.moveStep n = (x.atInputs n).advance n := moveStep_of_quiet q (noteSaddle_rd _ n .incHeld n).symm
    rcases state with e | e | e <;> simp [w, e, moved]
  rw [← step]
  exact dropStep_keeps n (keeps_iff (keeps_wr (keeps_wr (keeps_refl _ _) .limSeen n _ (by decide +kernel)) .incHeld n 0 (by decide +kernel))
    (fun _ g => writeAmplitude_keeps n g))

/-- A step that no write of its own cycle hides anything from sees the state as it is (R45). -/
theorem profile_of_seen {s : State} {n : Nat} (late : s.late n = []) (limits : s.lateLimits n = []) : s.profile n = s.plannerStep n := by
  simp [State.profile, State.seeing, late, limits]

/-- What the slot of KIND 2 commits. -/
def State.profileCommit (n : Nat) (s : State) : State :=
  if s.rdN .stampFold n = s.pass + 1 && s.rd .ledBad n = 0 then s.profile n else s

/-- The inputs of a step look the same once its slot has started. -/
theorem late_of_started {s x : State} (h : s.Started x) (n : Nat) : x.late n = s.late n ∧ x.lateLimits n = s.lateLimits n := by
  have was (r : Reg) (i : Nat) : x.rdWas r i = s.rdWas r i := by rw [State.rdWas, State.rdWas, h.keeps.was (by decide +kernel)]
  have own : ∀ r ∈ Reg.LEARN_SPEED :: stepObjects, slotStart_may.testBit r.ctorIdx = false := by decide +kernel
  constructor
  · unfold State.late
    simp (disch := decide +kernel) only [State.now, State.rdN, h.keeps.rd, was]
    refine congrArg _ (List.filter_congr fun p hp => ?_)
    have known : p.1 ∈ Reg.LEARN_SPEED :: stepObjects := by
      rcases List.mem_append.mp hp with hp | hp <;> obtain ⟨r, hr, rfl⟩ := List.mem_map.mp hp
      · exact List.mem_cons_of_mem _ hr
      · exact List.mem_cons_self
    rw [h.rd p.1 p.2 (own p.1 known)]
  · unfold State.lateLimits
    simp (disch := decide +kernel) only [State.now, State.rdN, h.keeps.rd]
    rfl

section
variable {s : State} {n : Nat} {m : SlotIn} (hn : n < 64) (ok : s.rd .ledBad n = 0) (hm : m.ledger ≠ .uncorrectable)
  (h : s.SlotComes 2 n) (folded : s.rdN .stampFold n = s.pass + 1) (q : s.StepQuiet n) (late : s.late n = []) (limits : s.lateLimits n = [])
include hn ok hm h folded q late limits

/-- The profile slot of a quiet axis carries it on along its plan; everything else that it writes is the step's own. -/
theorem profileCommit_of_quiet :
    ∃ z, Keeps toStep_may s z ∧ Keeps (afterAdvance_may ||| State.traceIf_may) (z.advance n) (s.builtin 2 n m (State.profileCommit n)) ∧
      z.rdN .stampProfile n = s.pass + 1 := by
  obtain ⟨x, start, run⟩ := builtin_of_comes h hm
  obtain ⟨p, v, e⟩ := run (State.profileCommit n)
  have stamped : (decide (x.rdN .stampFold n = x.pass + 1) && decide (x.rd .ledBad n = 0)) = true := by
    rw [State.rdN, start.rd .stampFold n, State.pass, State.rdN, start.rd .PASS_COUNT 0, start.rd .ledBad n, decide_eq_true ok, Bool.and_true]
    exact decide_eq_true folded
  have step : State.profileCommit n x = x.plannerStep n := by
    rw [State.profileCommit, if_pos stamped, profile_of_seen ((late_of_started start n).1.trans late) ((late_of_started start n).2.trans limits)]
  have done := plannerStep_of_quiet (stepQuiet_atInputs hn start q)
  refine ⟨x.atInputs n, atInputs_keeps start n, ?_, ?_⟩
  · rw [e, step]
    exact traceIf_keeps 2 p v (done.mono (by decide +kernel))
  · rw [State.rdN, State.atInputs, noteSaddle_rd _ n .stampProfile,
      (formGear_keeps (M := State.formGear_may) n _ (keeps_refl _ _)).rd .stampProfile n (by decide +kernel), State.rd_wr_same, State.pass,
      State.rdN, start.rd .PASS_COUNT 0]
    rfl

end

theorem State.planner_wr (s : State) (r : Reg) (i : Nat) (v : Int) (n : Nat) : (s.wr r i v).planner n = s.planner n := rfl

/-- One pass on along the plan: the state two marks ahead and the increment; the plan goes on. -/
theorem advance_shows (s : State) (n : Nat) :
    ((s.advance n).planner n).plan = (s.planner n).plan ∧
      (∀ pl, (s.planner n).plan = some pl → 0 ≤ (s.planner n).age →
        ((s.advance n).planner n).aft = some (pl.at ((s.planner n).age + passQ).toNat) ∧
          (s.advance n).rd .incPlan n = (pl.at ((s.planner n).age + passQ).toNat).x - (s.planner n).nxt.x) ∧
      ((s.planner n).plan = none → ((s.advance n).planner n).aft = some ⟨(s.planner n).nxt.x, 0, 0, 0, 0⟩ ∧ (s.advance n).rd .incPlan n = 0) := by
  unfold State.advance
  extract_lets p age k
  have planner (q : Planner) (v : Int) : ((s.wrPlanner n q).wr .incPlan n v).planner n = q := by
    rw [State.planner_wr, State.planner_wrPlanner, if_pos rfl]
  rw [planner, State.rd_wr_same]
  refine ⟨rfl, fun pl hp ha => ?_, fun hp => ?_⟩
  · have ahead : ¬ age < 0 := by
      have pass : (0 : Int) ≤ passQ := Int.natCast_nonneg _
      have late : 0 ≤ p.age := ha
      omega
    have reached : k = pl.at age.toNat := by simp [k, p, hp, ahead]
    exact ⟨congrArg some reached, by rw [reached]⟩
  · have stays : k = ⟨(s.planner n).nxt.x, 0, 0, 0, 0⟩ := by simp [k, p, hp]
    exact ⟨congrArg some stays, by rw [stays]; exact Int.sub_self _⟩

-- the three profile clauses of O18

section
variable {s : State} {n : Nat} {m : SlotIn} (hn : n < 64) (ok : s.rd .ledBad n = 0) (hm : m.ledger ≠ .uncorrectable)
  (h : s.SlotComes 2 n) (folded : s.rdN .stampFold n = s.pass + 1)
include hn ok hm h folded

/-- The profile slot of a resting axis leaves it where it is. -/
theorem profileCommit_of_rest (rest : s.AtRest n) (head : s.headRec n = none) :
    let u := s.builtin 2 n m (State.profileCommit n)
    u.rdN .stampProfile n = s.pass + 1 ∧ u.rd .incPlan n = 0 ∧ (u.planner n).aft = some ⟨(s.planner n).nxt.x, 0, 0, 0, 0⟩ ∧
      (u.planner n).plan = none ∧ u.rd .AXIS_STATE n = s.rd .AXIS_STATE n := by
  obtain ⟨stop, tgt, flush, lim, -⟩ := rest.asked
  obtain ⟨late, limits⟩ := rest.early
  obtain ⟨low, high, -⟩ := rest.input
  have quiet : s.StepQuiet n :=
    { mode := by rcases rest.mode with e | e <;> rw [e] <;> decide
      axis := rest.axis.imp_right .inl
      act := rest.act, stop, tgt, flush, lim, rel := rest.rel.1, learn := rest.learn, head, input := ⟨low, high⟩, runs := .inl rest.goal }
  obtain ⟨z, before, after, stamp⟩ := profileCommit_of_quiet hn ok hm h folded quiet late limits
  obtain ⟨plan, -, stays⟩ := advance_shows z n
  have same := before.planner n
  have moved := advance_keeps (M := State.advance_may) n (keeps_refl _ z)
  obtain ⟨aft, inc⟩ := stays (by rw [same]; exact rest.plan)
  dsimp only
  rw [State.rdN, after.rd .stampProfile n (by decide +kernel), moved.rd .stampProfile n (by decide +kernel), after.rd .incPlan n (by decide +kernel),
    after.planner n, after.rd .AXIS_STATE n (by decide +kernel), moved.rd .AXIS_STATE n (by decide +kernel),
    before.rd .AXIS_STATE n (by decide +kernel), aft, plan, same]
  exact ⟨stamp, inc, rfl, rest.plan, rfl⟩

/-- The profile slot of a moving axis that nothing is asked of goes on along its plan. -/
theorem profileCommit_of_moving {pl : Plan} (mode : s.mode = 5 ∨ s.mode = 6) (axis : s.rd .AXIS_STATE n = 2) (plan : (s.planner n).plan = some pl)
    (act : (s.planner n).act = none) (head : s.headRec n = none) (begun : 0 ≤ (s.planner n).age) (far : (s.planner n).age < pl.len)
    (stop : s.rd .stopPend n = 0) (tgt : s.rd .tgtPend n = 0) (lim : s.rd .limNew n = 0) (rel : s.rd .relWait n = 0) (learn : s.rd .lnOn n = 0)
    (held : s.rd .incHeld n = 0) (flush : s.rd .flushPend n = 0) (low : s.limitSeen n 0 = false) (high : s.limitSeen n 1 = false)
    (late : s.late n = []) (limits : s.lateLimits n = []) :
    let next := pl.at ((s.planner n).age + passQ).toNat
    let u := s.builtin 2 n m (State.profileCommit n)
    (u.planner n).aft = some next ∧ u.rd .incPlan n = next.x - (s.planner n).nxt.x ∧ (u.planner n).plan = some pl ∧
      u.rd .TARGET n = s.rd .TARGET n := by
  have runs : (s.planner n).arrived = false := by
    rw [Planner.arrived, plan]
    exact decide_eq_false (by omega)
  have quiet : s.StepQuiet n :=
    { mode := by rcases mode with e | e <;> rw [e] <;> decide
      axis := .inr (.inr axis)
      act, stop, tgt, flush, lim, rel, learn, head, input := ⟨low, high⟩, runs := .inr ⟨runs, held⟩ }
  obtain ⟨z, before, after, -⟩ := profileCommit_of_quiet hn ok hm h folded quiet late limits
  obtain ⟨goes, steps, -⟩ := advance_shows z n
  have same := before.planner n
  have moved := advance_keeps (M := State.advance_may) n (keeps_refl _ z)
  rw [same] at goes steps
  obtain ⟨aft, inc⟩ := steps pl plan begun
  dsimp only
  rw [after.rd .incPlan n (by decide +kernel), after.planner n, after.rd .TARGET n (by decide +kernel), moved.rd .TARGET n (by decide +kernel),
    before.rd .TARGET n (by decide +kernel), aft, goes]
  exact ⟨rfl, inc, plan, rfl⟩

end

-- the interpolation set-up

/-- What the slot of KIND 3 commits. -/
def State.interpolate (n : Nat) (s : State) : State :=
  if s.rdN .stampProfile n = s.pass + 1 && s.rd .ledBad n = 0 then
    let s := s.wr .stampInterp n (s.pass + 1)
    if s.mode = 9 then s else s.wr .incShadow n (s.rd .incPlan n)
  else s

/-- The interpolation set-up hands the increment to the shadow, but in SAFE. -/
theorem interpolate_commits {s : State} {n : Nat} {m : SlotIn} (ok : s.rd .ledBad n = 0) (hm : m.ledger ≠ .uncorrectable) (h : s.SlotComes 3 n)
    (stepped : s.rdN .stampProfile n = s.pass + 1) :
    let u := s.builtin 3 n m (State.interpolate n)
    u.rdN .stampInterp n = s.pass + 1 ∧ u.rd .incShadow n = if s.mode = 9 then s.rd .incShadow n else s.rd .incPlan n := by
  obtain ⟨x, start, run⟩ := builtin_of_comes h hm
  obtain ⟨p, v, e⟩ := run (State.interpolate n)
  have pass : x.pass = s.pass := by rw [State.pass, State.rdN, start.rd .PASS_COUNT 0, State.pass, State.rdN]
  have stamped : (decide (x.rdN .stampProfile n = x.pass + 1) && decide (x.rd .ledBad n = 0)) = true := by
    rw [State.rdN, start.rd .stampProfile n, pass, start.rd .ledBad n, decide_eq_true ok, Bool.and_true]
    exact decide_eq_true stepped
  have mode : (x.wr .stampInterp n (x.pass + 1)).mode = s.mode := by
    rw [State.mode, State.rdN, State.rd_wr_ne _ _ _ _ (by decide), start.rd .MODE 0, State.mode, State.rdN]
  dsimp only
  rw [e, State.rdN, traceIf_rd _ _ _ _ .stampInterp, traceIf_rd _ _ _ _ .incShadow, State.interpolate, if_pos stamped]
  dsimp only
  rw [mode, pass]
  by_cases safe : s.mode = 9
  · rw [if_pos safe, if_pos safe, State.rd_wr_same, State.rd_wr_ne _ _ _ _ (by decide), start.rd .incShadow n]
    exact ⟨rfl, rfl⟩
  · rw [if_neg safe, if_neg safe, State.rd_wr_ne _ _ _ _ (by decide), State.rd_wr_same, State.rd_wr_same, State.rd_wr_ne _ _ _ _ (by decide),
      start.rd .incPlan n]
    exact ⟨rfl, rfl⟩

end Sys2Proof.Machine
end

section
/-! PROOFS. Load-index steps and learning legs, and the built-in slots together (O18). -/
namespace Sys2Proof.Machine

set_option Elab.async false

-- the load-index step

/-- The mean speed of the closed step of axis `n`, rounded down (R115). -/
def State.stepSpeed (s : State) (n : Nat) : Nat := (s.rd .clSum n).natAbs * 20000 / (65536 * s.rdN .clPasses n)

/-- A closed step takes its speed, and then forms an index or none. -/
theorem evalStep_writes (s : State) (n : Nat) :
    Keeps (State.voidStep_may ||| State.formStep_may) (s.wr .LI_SPEED n (s.stepSpeed n)) (s.evalStep n) := by
  have same := keeps_refl (State.voidStep_may ||| State.formStep_may) (s.wr .LI_SPEED n (s.stepSpeed n))
  have none (st : Nat) := voidStep_keeps n st same
  have formed (meth : Nat) (ref : Option (Nat × Nat)) (num den : Int) := formStep_keeps n meth ref num den same
  unfold State.evalStep
  extract_lets
  refine keeps_ite (none 8) (keeps_ite (none 2) (keeps_ite (none 4) (keeps_ite (none 3) (keeps_ite (none 5) (keeps_ite ?_ ?_)))))
  · exact keeps_ite (none 7) (keeps_ite (none 6) (formed 0 _ _ _))
  · exact keeps_ite (none 9) (keeps_ite (none 7) (formed 1 _ _ _))

/-- A step in which the axis accelerated, or that was too slow, forms no index (R117). -/
theorem evalStep_void (s : State) (n : Nat) :
    (s.rd .clAcc n = 1 → s.evalStep n = (s.wr .LI_SPEED n (s.stepSpeed n)).voidStep n 8) ∧
      (s.rd .clAcc n ≠ 1 → s.stepSpeed n < s.rdN .LI_LOW_MIN_SPEED n → s.evalStep n = (s.wr .LI_SPEED n (s.stepSpeed n)).voidStep n 2) := by
  have acc : (s.wr .LI_SPEED n (s.stepSpeed n)).rd .clAcc n = s.rd .clAcc n := State.rd_wr_ne _ _ _ _ (by decide)
  have low : (s.wr .LI_SPEED n (s.stepSpeed n)).rdN .LI_LOW_MIN_SPEED n = s.rdN .LI_LOW_MIN_SPEED n := by
    rw [State.rdN, State.rd_wr_ne _ _ _ _ (by decide), State.rdN]
  refine ⟨fun h => ?_, fun h slow => ?_⟩
  · exact if_pos (acc.trans h)
  · exact (if_neg (fun e => h (acc.symm.trans e))).trans (if_pos (low ▸ slow))

theorem voidStep_shows {s : State} {n : Nat} (st : Nat) (room : s.rd .LI_VOID n + 1 < 2 ^ 32) :
    (s.voidStep n st).rd .LI_STATE n = st ∧ (s.voidStep n st).rd .LI_VOID n = s.rd .LI_VOID n + 1 := by
  have void : (s.wr .LI_STATE n st).rd .LI_VOID n = s.rd .LI_VOID n := State.rd_wr_ne _ _ _ _ (by decide)
  rw [State.voidStep, State.count_one (by rw [void]; exact room), State.rd_wr_ne _ _ _ _ (by decide), State.rd_wr_same, State.rd_wr_same, void]
  exact ⟨rfl, rfl⟩

/-- What the slot of KIND 4 commits. -/
def State.loadStep (n : Nat) (s : State) : State :=
  if s.rdN .stampInterp n = s.pass + 1 && s.rd .ledBad n = 0 then
    let s := s.wr .stampLoad n (s.pass + 1)
    let s := if s.rd .clReady n = 1 then (s.wr .clReady n 0).evalStep n else s
    if s.rd .devStop n = 1 then s.deviationStop n else s
  else s

theorem loadStep_commits {s : State} {n : Nat} {m : SlotIn} (ok : s.rd .ledBad n = 0) (hm : m.ledger ≠ .uncorrectable) (h : s.SlotComes 4 n)
    (handed : s.rdN .stampInterp n = s.pass + 1) (ready : s.rd .clReady n = 1) (free : s.rd .devStop n = 0) :
    let u := s.builtin 4 n m (State.loadStep n)
    u.rdN .stampLoad n = s.pass + 1 ∧ u.rd .clReady n = 0 ∧ u.rd .LI_SPEED n = s.stepSpeed n ∧
      (s.rd .LI_VOID n + 1 < 2 ^ 32 →
        (s.rd .clAcc n = 1 → u.rd .LI_STATE n = 8 ∧ u.rd .LI_VOID n = s.rd .LI_VOID n + 1) ∧
        (s.rd .clAcc n ≠ 1 → s.stepSpeed n < s.rdN .LI_LOW_MIN_SPEED n → u.rd .LI_STATE n = 2 ∧ u.rd .LI_VOID n = s.rd .LI_VOID n + 1)) := by
  obtain ⟨x, start, run⟩ := builtin_of_comes h hm
  obtain ⟨p, v, e⟩ := run (State.loadStep n)
  have pass : x.pass = s.pass := by rw [State.pass, State.rdN, start.rd .PASS_COUNT 0, State.pass, State.rdN]
  have stamped : (decide (x.rdN .stampInterp n = x.pass + 1) && decide (x.rd .ledBad n = 0)) = true := by
    rw [State.rdN, start.rd .stampInterp n, pass, start.rd .ledBad n, decide_eq_true ok, Bool.and_true]
    exact decide_eq_true handed
  let y := (x.wr .stampLoad n (x.pass + 1)).wr .clReady n 0
  have read (r : Reg) (hr : slotStart_may.testBit r.ctorIdx = false) (h1 : r ≠ .stampLoad) (h2 : r ≠ .clReady) : y.rd r n = s.rd r n := by
    rw [State.rd_wr_ne _ _ _ _ h2, State.rd_wr_ne _ _ _ _ h1, start.rd r n hr]
  have speed : y.stepSpeed n = s.stepSpeed n := by
    rw [State.stepSpeed, State.rdN, read .clSum (by decide +kernel) (by decide) (by decide), read .clPasses (by decide +kernel) (by decide) (by decide),
      State.stepSpeed, State.rdN]
  have writes := evalStep_writes y n
  have still : (y.evalStep n).rd .devStop n ≠ 1 := by
    rw [writes.rd .devStop n (by decide +kernel), State.rd_wr_ne _ _ _ _ (by decide), read .devStop (by decide +kernel) (by decide) (by decide), free]
    decide
  have step : State.loadStep n x = y.evalStep n := by
    have ready' : (x.wr .stampLoad n (x.pass + 1)).rd .clReady n = 1 := by rw [State.rd_wr_ne _ _ _ _ (by decide), start.rd .clReady n, ready]
    rw [State.loadStep, if_pos stamped]
    dsimp only
    rw [if_pos ready']
    exact if_neg still
  have void : y.rd .LI_VOID n = s.rd .LI_VOID n := read .LI_VOID (by decide +kernel) (by decide) (by decide)
  have void' : (y.wr .LI_SPEED n (y.stepSpeed n)).rd .LI_VOID n = s.rd .LI_VOID n := (State.rd_wr_ne _ _ _ _ (by decide)).trans void
  obtain ⟨accel, slow⟩ := evalStep_void y n
  rw [read .clAcc (by decide +kernel) (by decide) (by decide)] at accel slow
  rw [speed, State.rdN, read .LI_LOW_MIN_SPEED (by decide +kernel) (by decide) (by decide)] at slow
  rw [speed] at accel void'
  dsimp only
  rw [e, step, State.rdN, traceIf_rd _ _ _ _ .stampLoad, traceIf_rd _ _ _ _ .clReady, traceIf_rd _ _ _ _ .LI_SPEED, traceIf_rd _ _ _ _ .LI_STATE,
    traceIf_rd _ _ _ _ .LI_VOID, writes.rd .stampLoad n (by decide +kernel), writes.rd .clReady n (by decide +kernel),
    writes.rd .LI_SPEED n (by decide +kernel), State.rd_wr_ne _ _ _ _ (by decide), State.rd_wr_ne _ _ _ _ (by decide), State.rd_wr_same,
    State.rd_wr_ne _ _ _ _ (by decide), State.rd_wr_same, State.rd_wr_same, speed, pass]
  refine ⟨rfl, rfl, rfl, fun room => ⟨fun acc => ?_, fun acc low => ?_⟩⟩
  · rw [accel acc, ← void']
    exact voidStep_shows 8 (void' ▸ room)
  · rw [slow acc low, ← void']
    exact voidStep_shows 2 (void' ▸ room)

-- the legs of a learning run

theorem learnEnd_shows (s : State) (n r : Nat) :
    (s.learnEnd n r).rd .LEARN_RESULT n = r ∧ (s.learnEnd n r).rd .lnOn n = 0 ∧ (s.learnEnd n r).rd .LEARN_FAIL_POINT n = s.rd .LEARN_FAIL_POINT n := by
  let y := ((s.wr .lnOn n 0).wr .lnGo n 0).wr .LEARN_RESULT n r
  let M := State.detect_may ||| State.setAxis_may ||| may .stopPend ||| may .stopAt
  have rest : Keeps M y (s.learnEnd n r) := by
    have found : Keeps M y (y.detect (blkAxis n) 0x17) := detect_keeps (blkAxis n) 0x17 0 false (keeps_refl _ y)
    exact keeps_ite found (keeps_ite (setAxis_keeps n 1 found)
      (keeps_wr (keeps_wr found .stopPend n 1 (by decide +kernel)) .stopAt n _ (by decide +kernel)))
  rw [rest.rd .LEARN_RESULT n (by decide +kernel), rest.rd .lnOn n (by decide +kernel), rest.rd .LEARN_FAIL_POINT n (by decide +kernel)]
  simp [y, State.rd_wr]

theorem learnLegEnd_shows (s : State) (n : Nat) :
    (s.rdN .lnCnt n < s.rdN .LEARN_STEPS n → (s.learnLegEnd n).rd .LEARN_RESULT n = 5 ∧ (s.learnLegEnd n).rd .lnOn n = 0) ∧
      (s.rdN .LEARN_STEPS n ≤ s.rdN .lnCnt n → spreads (s.rd .lnCnt n) (s.rd .lnR1 n) (s.rd .lnR2 n) (s.rd .LEARN_SPREAD n) = true →
        (s.learnLegEnd n).rd .LEARN_RESULT n = 4 ∧ (s.learnLegEnd n).rd .LEARN_FAIL_POINT n = s.rd .lnPoint n + 1 ∧ (s.learnLegEnd n).rd .lnOn n = 0) ∧
      (s.rdN .LEARN_STEPS n ≤ s.rdN .lnCnt n → spreads (s.rd .lnCnt n) (s.rd .lnR1 n) (s.rd .lnR2 n) (s.rd .LEARN_SPREAD n) = false →
        s.rd .lnLeg n = 0 → (s.learnLegEnd n).rd .lnLeg n = 1 ∧ (s.learnLegEnd n).rd .lnOn n = 2 ∧ (s.learnLegEnd n).rd .lnGo n = 1 ∧
          (s.learnLegEnd n).rd .lnCnt n = 0) := by
  refine ⟨fun few => ?_, fun enough wide => ?_, fun enough close out => ?_⟩
  · have e : s.learnLegEnd n = s.learnEnd n 5 := if_pos few
    obtain ⟨result, off, -⟩ := learnEnd_shows s n 5
    rw [e]
    exact ⟨result, off⟩
  · have e : s.learnLegEnd n = (s.wr .LEARN_FAIL_POINT n (s.rd .lnPoint n + 1)).learnEnd n 4 := (if_neg (by omega)).trans (if_pos wide)
    obtain ⟨result, off, point⟩ := learnEnd_shows (s.wr .LEARN_FAIL_POINT n (s.rd .lnPoint n + 1)) n 4
    rw [e, point, State.rd_wr_same]
    exact ⟨result, rfl, off⟩
  · let y := (s.learnEntry n).clearLeg n
    have noted : Keeps (State.learnEntry_may ||| State.clearLeg_may) s y := clearLeg_keeps n (learnEntry_keeps n (keeps_refl _ s))
    have first : y.rd .lnLeg n = 0 := (noted.rd .lnLeg n (by decide +kernel)).trans out
    have e : s.learnLegEnd n = ((y.wr .lnLeg n 1).wr .lnOn n 2).wr .lnGo n 1 :=
      (if_neg (by omega)).trans ((if_neg (by rw [close]; decide)).trans (if_pos first))
    have cleared : y.rd .lnCnt n = 0 := by simp [y, State.clearLeg, State.rd_wr]
    rw [e]
    simp [State.rd_wr, cleared]

/-- Settles O18: each slot's step runs on a state that its start has left as it was, and the step's own lemma says what it commits. -/
theorem builtInSlotsAndLoadSteps : Obligations.BuiltInSlotsAndLoadSteps := by
  unfold Obligations.BuiltInSlotsAndLoadSteps
  refine ⟨fun t n m s0 ok hm => ⟨?fold, ?rest, ?moving, ?hand⟩, fun t n m s0 => ⟨?load, ?leg⟩⟩
  case fold =>
    intro h hc p lo hi dlo dhi
    exact ⟨_, rfl, foldStep_commits ok hm h hc lo hi dlo dhi⟩
  case rest =>
    intro h folded rest head
    exact ⟨_, rfl, profileCommit_of_rest n.isLt ok hm h folded rest head⟩
  case moving =>
    intro pl h folded mode axis plan act head begun far stop tgt lim rel learn held flush low high late limits next
    exact ⟨_, rfl, profileCommit_of_moving n.isLt ok hm h folded mode axis plan act head begun far stop tgt lim rel learn held flush low high late limits⟩
  case hand =>
    intro h stepped
    exact ⟨_, rfl, interpolate_commits ok hm h stepped⟩
  case load =>
    intro ok hm h handed ready free v
    exact ⟨_, rfl, loadStep_commits ok hm h handed ready free⟩
  case leg =>
    intro on
    exact ⟨_, congrArg Host.Outcome.next (if_pos on), learnLegEnd_shows (s0.at t) n⟩

end Sys2Proof.Machine
end

section
/-! PROOFS. What the operations of one axis leave alone (O33): the motion of every other axis, and the depths noted of the move queues. -/
namespace Sys2Proof.Machine

set_option Elab.async false

-- the relation

/-- The registers of an axis on which its motion at a mark rests. -/
def axisOwn : List Reg :=
  [.AXIS_STATE, .ANGLE_INC, .incShadow, .stampInterp, .ANGLE_ORIGIN, .CMD_POS, .posQ, .angleQ, .finPend, .finHome, .asgPend, .setPend, .contPend,
   .diePend, .disPend, .rearmPend, .drivePend, .directPend, .firePend, .followPend, .stallRel, .lnOn]

/-- From `s` to `t` only axis `k` has moved: its own registers and planner apart, no axis is changed, and every move queue keeps the depth noted
at the latest mark. -/
structure State.OwnOnly (k : Nat) (s t : State) : Prop where
  rd      : ∀ n, n ≠ k → ∀ r ∈ axisOwn, t.rd r n = s.rd r n
  planner : ∀ n, n ≠ k → t.planner n = s.planner n
  marks   : ∀ q < 64, (t.queue q).markDepth = (s.queue q).markDepth

/-- The mask of what the relation speaks of, the queues left out. -/
def axisOwn_may : Nat := mayRegs axisOwn ||| may_planners

theorem mayRegs_testBit_mem {l : List Reg} {r : Reg} (h : r ∈ l) : (mayRegs l).testBit r.ctorIdx = true := by
  induction l with
  | nil => cases h
  | cons q l ih =>
    rw [mayRegs, List.foldr_cons, Nat.testBit_or]
    rcases List.mem_cons.mp h with rfl | h
    · rw [may, Nat.testBit_two_pow_self, Bool.true_or]
    · exact (congrArg _ (ih h)).trans (Bool.or_true _)

theorem testBit_of_apart {m a k : Nat} (h : m &&& a = 0) (ha : a.testBit k = true) : m.testBit k = false := by
  have both := congrArg (fun x => x.testBit k) h
  simpa [Nat.testBit_and, ha] using both

theorem axisOwn_free {m : Nat} (h : m &&& axisOwn_may = 0) : (∀ r ∈ axisOwn, m.testBit r.ctorIdx = false) ∧ m.testBit 2009 = false := by
  refine ⟨fun r hr => testBit_of_apart h ?_, testBit_of_apart h (by decide +kernel)⟩
  rw [axisOwn_may, Nat.testBit_or, mayRegs_testBit_mem hr, Bool.true_or]

theorem ownOnly_refl (k : Nat) (s : State) : State.OwnOnly k s s := ⟨fun _ _ _ _ => rfl, fun _ _ => rfl, fun _ _ => rfl⟩

namespace State.OwnOnly

section
variable {k : Nat} {S s t : State} (h : OwnOnly k S s)
include h

/-- A change that leaves the motion of all axes and the move queues alone. -/
theorem same {m : Nat} (e : Keeps m s t) (moves : s.SameMoves t) (hm : m &&& axisOwn_may = 0 := by decide +kernel) : OwnOnly k S t := by
  obtain ⟨regs, plans⟩ := axisOwn_free hm
  refine ⟨fun n hn r hr => ?_, fun n hn => ?_, fun q hq => ?_⟩
  · rw [e.rd r n (regs r hr), h.rd n hn r hr]
  · rw [e.planner n plans, h.planner n hn]
  · rw [moves.queue q hq, h.marks q hq]

theorem keeps {m : Nat} (e : Keeps m s t) (hm : m &&& axisOwn_may = 0 := by decide +kernel) (hq : m.testBit 2003 = false := by decide +kernel) :
    OwnOnly k S t := h.same e ((sameMoves_refl s).keeps e hq) hm

/-- A register of axis `k` takes a value. -/
theorem own (r : Reg) (v : Int) : OwnOnly k S (s.wr r k v) :=
  ⟨fun n hn q hq => by rw [State.rd_wr, if_neg (fun e => hn e.2), h.rd n hn q hq], h.planner, h.marks⟩

/-- A register that is none of an axis's motion takes a value. -/
theorem free (r : Reg) (i : Nat) (v : Int) (hr : r ∉ axisOwn := by decide) : OwnOnly k S (s.wr r i v) :=
  ⟨fun n hn q hq => by rw [State.rd_wr_ne _ _ _ _ (ne_of_mem_of_not_mem hq hr), h.rd n hn q hq], h.planner, h.marks⟩

theorem wrPlanner (p : Planner) : OwnOnly k S (s.wrPlanner k p) :=
  ⟨h.rd, fun n hn => by rw [State.planner_wrPlanner, if_neg hn, h.planner n hn], h.marks⟩

theorem wrQueue (q : Nat) (x : Queue) (hx : x.markDepth = (s.queue q).markDepth) : OwnOnly k S (s.wrQueue q x) := by
  refine ⟨h.rd, h.planner, fun p hp => ?_⟩
  rw [State.queue_wrQueue]
  split
  · next e => rw [hx, ← e, h.marks p hp]
  · exact h.marks p hp

theorem draw (w : Nat) : OwnOnly k S (s.draw w).2 := ⟨h.rd, h.planner, h.marks⟩

theorem ite {c : Prop} {_ : Decidable c} (g : OwnOnly k S t) : OwnOnly k S (if c then s else t) := by
  split <;> assumption

theorem thenIf {c : Prop} {_ : Decidable c} (g : OwnOnly k S s → OwnOnly k S t) : OwnOnly k S (if c then t else s) := (g h).ite h

theorem elseIf {c : Prop} {_ : Decidable c} (g : OwnOnly k S s → OwnOnly k S t) : OwnOnly k S (if c then s else t) := h.ite (g h)

theorem iff {c : Bool} {f : State → State} (g : ∀ y, OwnOnly k S y → OwnOnly k S (f y)) : OwnOnly k S (s.iff c f) := h.thenIf (g s)

theorem forList {l : List Nat} {f : State → Nat → State} (g : ∀ y j, OwnOnly k S y → OwnOnly k S (f y j)) : OwnOnly k S (s.forList l f) := by
  induction l generalizing s with
  | nil => exact h
  | cons j l ih => exact ih (g s j h)

theorem count (r : Reg) (i n w : Nat) (hr : r ∉ axisOwn := by decide) : OwnOnly k S (s.count r i n w) :=
  (h.free r i _ hr).ite ((h.draw w).free r i _ hr)

theorem tally (i n : Nat) : OwnOnly k S (s.tally i n) := h.free .COUNTER i _

theorem wr48 (r : Reg) (v : Int) : OwnOnly k S (s.wr48 r k v) := (h.own r v).ite ((h.draw 48).own r _)

theorem traceIf (src : Nat) (pass : Bool) (v : Nat) : OwnOnly k S (s.traceIf src pass v) :=
  h.same (traceIf_keeps (M := State.traceIf_may) src pass v (keeps_refl _ s)) ((sameMoves_refl s).traceIf src pass v)

theorem event (n b : Nat) : OwnOnly k S (s.event n b) :=
  h.same (event_keeps (M := State.event_may) n b (keeps_refl _ s)) ((sameMoves_refl s).event n b)

theorem setAxis (v : Int) : OwnOnly k S (s.setAxis k v) := h.ite ((h.own .AXIS_STATE v).traceIf 3 _ _)

theorem detect (b c data : Nat) (opens : Bool) : OwnOnly k S (s.detect b c data opens) :=
  h.same (detect_keeps (M := State.detect_may) b c data opens (keeps_refl _ s)) ((sameMoves_refl s).detect b c data opens)

theorem detectHeld (b c data : Nat) : OwnOnly k S (s.detectHeld b c data) := h.ite (h.detect b c data false)

theorem endCause (b c : Nat) : OwnOnly k S (s.endCause b c) :=
  h.same (endCause_keeps (M := State.endCause_may) b c (keeps_refl _ s)) ((sameMoves_refl s).endCause b c)

end

end State.OwnOnly

end Sys2Proof.Machine
end

section
/-! PROOFS. Records, stops and drives of one axis leave every other axis alone (O33). -/
namespace Sys2Proof.Machine

set_option Elab.async false

namespace State.OwnOnly

variable {k : Nat} {S s : State} (h : OwnOnly k S s)
include h

-- records

theorem flushQueue : OwnOnly k S (s.flushQueue k) := h.wrQueue k _ rfl

theorem completeRec : OwnOnly k S (s.completeRec k) := by
  unfold State.completeRec
  split
  · exact h
  · exact thenIf ((((h.wrPlanner _).own .LAST_DONE_TAG _).own .ACTIVE_KIND 0).own .readyAt _) (fun g => g.event k 4)

theorem completeAtMark : OwnOnly k S (s.completeAtMark k) := by
  unfold State.completeAtMark
  split
  · exact h
  · exact ((h.wrPlanner _).own .finTag _).own .finPend _

theorem dropCall : OwnOnly k S (s.dropCall k) := h.keeps (dropCall_keeps (M := State.dropCall_may) k (keeps_refl _ s))

theorem dropRelease : OwnOnly k S (s.dropRelease k) := h.keeps (dropRelease_keeps (M := State.dropRelease_may) k (keeps_refl _ s))

theorem dropAssign : OwnOnly k S (s.dropAssign k) := (h.own .asgPend 0).own .asgStall 0

theorem mergePend : OwnOnly k S (s.mergePend k) := (h.own .EX_MIN_INDEX _).own .exPend 1023

theorem exerciseEnd (r : Nat) : OwnOnly k S (s.exerciseEnd k r) :=
  ((iff (count ((h.mergePend.own .EX_RESULT r).own .EX_TIME _) .EX_COUNT k 1 32) (fun _ g => g.count .EX_FAILS k 1 32)).event k 10).detect
    (blkAxis k) _ _ false

theorem homeResult (m r : Nat) : OwnOnly k S (s.homeResult k m r) := by
  have begun := (h.own .hmPhase 0).own .hmFoundAt 0
  have shown := (begun.own .HOME_RESULT r).event k 6
  exact (begun.exerciseEnd r).ite ((shown.own .brPersist _).ite (shown.detect (blkAxis k) 0x15 0 false))

theorem dropHome : OwnOnly k S (s.dropHome k) := by
  unfold State.dropHome
  split
  · exact (h.dropAssign.homeResult _ _).ite h
  · exact h

theorem abandon : OwnOnly k S (s.abandon k) := h.dropCall.dropHome.completeRec.dropRelease

theorem halt : OwnOnly k S (s.halt k) :=
  own (own (own (own (own (own (own (own (h.wrPlanner _) .goalKind 0) .goalQ _) .TARGET _) .incPlan 0) .incShadow 0) .incHeld 0)
    .SADDLE_PENDING 0) .DEFERRED 0

theorem finRec : OwnOnly k S (s.finRec k) :=
  iff (h.iff (fun _ g => (g.own .LAST_DONE_TAG _).iff (fun _ g => g.own .ACTIVE_KIND 0))) (fun _ g => g.event k 4)

theorem dropFin : OwnOnly k S (s.dropFin k) := own (own (thenIf h.finRec (fun g => g.homeResult _ _)) .finHome 0) .finPend 0

theorem stopAxis (v : Int) : OwnOnly k S (s.stopAxis k v) :=
  setAxis (own (own (halt (dropFin (own (own (own (h.thenIf (fun g => g.abandon)) .FOLLOW_STATE 0) .followPend 0) .discPend 0))) .stopPend 0)
    .tgtPend 0) v

end State.OwnOnly

end Sys2Proof.Machine
end

section
/-! PROOFS. The steps of the mark of one axis leave every other axis alone (O33). -/
namespace Sys2Proof.Machine

set_option Elab.async false

namespace State.OwnOnly

variable {k : Nat} {S s : State} (h : OwnOnly k S s)
include h

-- what has ended at the mark

theorem pollInstant : OwnOnly k S (s.pollInstant k) := by
  unfold State.pollInstant
  split
  · exact thenIf h (fun g => iff g.completeRec (fun _ g => g.own .readyAt _))
  · exact h

theorem mergeLow (idx : Int) : OwnOnly k S (s.mergeLow k idx) := h.thenIf (fun g => g.mergePend.own .EX_MIN_INDEX _)

theorem homeMark : OwnOnly k S (s.homeMark k) := by
  unfold State.homeMark
  split
  · exact h
  · dsimp only
    split
    · exact h
    · exact ((((h.mergeLow 1023).homeResult _ _).completeRec).own .goalKind 0).setAxis 1

theorem arrive : OwnOnly k S (s.arrive k) :=
  wrPlanner (own (thenIf (own (h.iff (fun _ g => g.completeAtMark)) .finPend _) (fun g => g.own .lnOn 3)) .goalKind 0) _

theorem lateEnd : OwnOnly k S (s.lateEnd k) :=
  h.elseIf (fun _ => (h.iff (fun _ g => g.homeMark)).ite (h.thenIf (fun g => g.arrive)))

theorem finishMark : OwnOnly k S (s.finishMark k) :=
  own (own (iff (iff (finRec (iff (iff (iff h (fun _ g => g.event k 0)) (fun _ g => g.setAxis 1)) (fun _ g => g.event k 3)))
    (fun _ g => g.homeResult _ _)) (fun _ g => g.own .DEFERRED 0)) .finPend 0) .finHome 0

-- reassignment

theorem shiftSource (n : Nat) (d : Int) : OwnOnly k S (s.shiftSource n d) :=
  h.keeps (shiftSource_keeps (M := State.shiftSource_may) n d (keeps_refl _ s))

theorem reassign (d : Int) : OwnOnly k S (s.reassign k d) := by
  unfold State.reassign
  extract_lets q s1 s2 s3 s4 s5 s6 s7 s8
  have moved : OwnOnly k S s5 :=
    own (own (own (own (own (own (wr48 (wr48 (h.wrPlanner _) .CMD_POS _) .TARGET _) .posQ _) .goalQ _) .hmStart _) .lnStart _) .fsPos _) .fbCmd _
  have followed : OwnOnly k S s7 := thenIf (thenIf moved (fun g => g.wr48 .SADDLE_POS _)) (fun g => g.own .foOrg _)
  exact forList (followed.own .ANGLE_ORIGIN _) (fun _ j g => g.shiftSource j d)

theorem posSure : OwnOnly k S (s.posSure k) := h.own .brPersist _

theorem reassignMark : OwnOnly k S (s.reassignMark k) := by
  unfold State.reassignMark
  extract_lets d y z w v
  have moved : OwnOnly k S y := (h.reassign d).own .asgPend 0
  have noted : OwnOnly k S z := by
    unfold z
    split
    · exact (moved.wr48 .STALL_SHIFT d).posSure
    · exact moved.wr48 .HOME_SHIFT d
    · exact (moved.wr48 .HOME_SHIFT d).posSure
    · exact moved
  have assigned : OwnOnly k S w := h.ite (noted.own .asgStall 0)
  exact assigned.elseIf (fun g => ((g.reassign v).own .setPend 0).wr48 .SET_SHIFT v)

-- the drive

theorem goOpen : OwnOnly k S (s.goOpen k) := h.keeps (goOpen_keeps (M := State.goOpen_may) k (keeps_refl _ s))

theorem setDrive (v : Int) : OwnOnly k S (s.setDrive k v) := h.keeps (setDrive_keeps (M := State.setDrive_may) k v (keeps_refl _ s))

theorem preset : OwnOnly k S (s.preset k) := h.keeps (preset_keeps (M := State.preset_may) k (keeps_refl _ s))

theorem disable (c : Nat) : OwnOnly k S (s.disable k c) := (((h.stopAxis 7).goOpen.own .DISABLE_CAUSE c).own .drivePend 0).own .disPend 0

theorem contain (toOpen : Bool) : OwnOnly k S (s.contain k toOpen) := by
  unfold State.contain
  extract_lets was s1 s2 s3
  have stopped : OwnOnly k S s3 := own (own (own (own (iff (h.stopAxis 6) (fun _ g => g.event k 7)) .contPend 0) .drivePend 0) .disPend 0) .rearmPend 0
  exact ite (stopped.elseIf (fun g => g.goOpen)) (stopped.thenIf (fun g => ((g.setDrive 2).own .ampShadow _).own .ampSrcShadow _))

theorem ledgerRestore : OwnOnly k S (s.ledgerRestore k) := by
  unfold State.ledgerRestore
  extract_lets s1 s2
  have blank : OwnOnly k S s1 := ⟨h.rd, h.planner, h.marks⟩
  have limits : OwnOnly k S s2 := own (blank.halt.keeps (takeLimits_keeps (M := State.takeLimits_may) k (keeps_refl _ _))) .TRIP_STATE 0
  exact h.elseIf (fun _ => ((limits.own .adReset 1).own .fbAlignPend 1).own .ledBad 0)

theorem retryFail : OwnOnly k S (s.retryFail k) := h.keeps (retryFail_keeps (M := State.retryFail_may) k (keeps_refl _ s))

theorem rearmNow : OwnOnly k S (s.rearmNow k) := by
  unfold State.rearmNow
  extract_lets host s1 s2 s3 s4
  have asked : OwnOnly k S s1 := h.own .rearmPend 0
  have armed : OwnOnly k S s3 := ite (((asked.own .faultLatch 0).setDrive 1).own .chopFrom _) (asked.own .faultLatch 0).preset
  have freed : OwnOnly k S s4 := armed.iff (fun _ g => g.own .RETRY_COUNT 0)
  exact asked.elseIf (fun g => (g.elseIf (fun g => g.retryFail)).ite (freed.ledgerRestore.setAxis 1))

theorem enableNow : OwnOnly k S (s.enableNow k) :=
  elseIf (h.own .drivePend 0) (fun g => (g.own .DISABLE_CAUSE _).ite ((g.preset.setAxis 0).own .DISABLE_CAUSE 0))

theorem pulseDone : OwnOnly k S (s.pulseDone k) := h.keeps (pulseDone_keeps (M := State.pulseDone_may) k (keeps_refl _ s))

theorem directMark : OwnOnly k S (s.directMark k) := by
  unfold State.directMark
  extract_lets s1 s2 s3
  have entered : OwnOnly k S s2 := by
    unfold s2
    split
    · exact h.elseIf (fun g => thenIf (g.own .directPend 0) (fun g => g.setDrive 4))
    · exact own (h.thenIf (fun g => ((g.setDrive 0).own .pulseEnd 0).own .firePend 0)) .directPend 0
    · exact h
  exact entered.thenIf (fun g => thenIf (g.own .firePend 0) (fun g => g.own .pulseEnd _))

theorem driveMark : OwnOnly k S (s.driveMark k) := by
  unfold State.driveMark
  extract_lets s1 s2 s3 s4 s5 s6
  have hot : OwnOnly k S s1 := h.thenIf (fun g => (g.own .diePend 0).detect (blkAxis k) 9 _ false)
  have contained : OwnOnly k S s2 := by
    unfold s2
    split
    · exact hot.contain true
    · exact hot.contain false
    · exact hot
  have removed : OwnOnly k S s3 := contained.thenIf (fun g => (g.disable 3).ite (g.thenIf (fun g => g.goOpen)))
  have disabled : OwnOnly k S s4 := by
    unfold s4
    split
    · exact (removed.own .disPend 0).ite (removed.disable 2)
    · exact removed.elseIf (fun g => (g.own .disPend 0).ite (g.disable 2))
    · exact own (removed.thenIf (fun g => g.goOpen)) .disPend 0
    · exact removed
  have enabled : OwnOnly k S s6 := elseIf (disabled.elseIf (fun g => g.rearmNow)) (fun g => g.enableNow)
  exact enabled.pulseDone.directMark

end State.OwnOnly

end Sys2Proof.Machine
end

section
/-! PROOFS. The mark of one axis leaves every other axis alone (O33). -/
namespace Sys2Proof.Machine

set_option Elab.async false

namespace State.OwnOnly

variable {k : Nat} {S s : State} (h : OwnOnly k S s)
include h

-- the planned state of the mark

theorem openMark (ph : Nat) : OwnOnly k S (s.openMark k ph) := by
  unfold State.openMark
  extract_lets p s1 s2
  have begun : OwnOnly k S s1 := h.free .phPeak p 0
  have ended : OwnOnly k S s2 := (begun.free .openRun p 0).own .brPersist _
  exact begun.elseIf (fun g => (g.free .openRun p _).ite (ended.thenIf (fun g => g.endCause _ _)))

theorem seenPass (ph : Nat) : OwnOnly k S (s.seenPass k ph) := h.iff (fun _ g => g.free .adSeen _ 1)

theorem takePlanned : OwnOnly k S (s.takePlanned k) := by
  unfold State.takePlanned
  extract_lets p s1 s2 s3
  have kept : OwnOnly k S s2 := (((h.own .angleOld _).own .incOld _).own .ampOld _).own .relWas _
  exact (((wr48 (kept.own .posQ _) .CMD_POS _).own .CMD_VEL _).own .CMD_ACC _).own .SEGMENT _

theorem saddleMark : OwnOnly k S (s.saddleMark k) :=
  h.elseIf (fun g => event (own ((g.own .SADDLE_TIME _).own .SADDLE_PENDING _) .sadDue 0) k 1)

theorem stallMark : OwnOnly k S (s.stallMark k) :=
  h.elseIf (fun g => iff (g.own .stallRel 0) (fun _ g => (g.setAxis 1).own .STALL_RUN 0))

theorem engage (x : Int) : OwnOnly k S (s.engage k x) := by
  unfold State.engage
  extract_lets s1 s2 s3 s4
  have begun : OwnOnly k S s2 := own (own (own (h.own .followPend 0).abandon .foOrg x) .FOLLOW_LAG 0) .END_CAUSE 0
  have geared : OwnOnly k S s4 := (((begun.own .effNum _).own .effDen _).own .srcNew 0).own .origWait 1 |>.own .engagedAt _
  exact (geared.own .FOLLOW_STATE 1).setAxis 3

theorem engageMark : OwnOnly k S (s.engageMark k) := h.elseIf (fun g => ite (g.engage _) (g.own .followPend 0))

-- learning

theorem learnBegin : OwnOnly k S (s.learnBegin k) := by
  unfold State.learnBegin
  extract_lets s1
  have pointed : OwnOnly k S s1 := ((h.own .lnPoint _).own .lnLeg 0).own .lnStart _
  exact (((pointed.keeps (clearLeg_keeps (M := State.clearLeg_may) k (keeps_refl _ _))).own .lnOn 2).own .lnGo 1).setAxis 2

theorem learnEnd (r : Nat) : OwnOnly k S (s.learnEnd k r) := by
  unfold State.learnEnd
  extract_lets s1
  have ended : OwnOnly k S s1 := (((h.own .lnOn 0).own .lnGo 0).own .LEARN_RESULT _).detect _ _ _ _
  exact ended.elseIf (fun g => (g.setAxis 1).ite ((g.own .stopPend 1).own .stopAt _))

theorem learnDone : OwnOnly k S (s.learnDone k) := by
  unfold State.learnDone
  extract_lets ofs s1
  have placed : OwnOnly k S s1 := h.keeps (setTable_keeps (M := State.setTable_may) k 2 _ _ (keeps_refl _ s))
  exact ((placed.own .lnOn 0).own .LEARN_RESULT 2).setAxis 1

theorem learnMark : OwnOnly k S (s.learnMark k) :=
  h.elseIf (fun g => (g.learnEnd 3).ite (ite (g.learnBegin.ite (g.learnEnd 3))
    ((g.learnEnd 3).ite ((g.learnEnd 6).ite (g.learnDone.ite g)))))

-- the values of the pass that begins

theorem staleMark : OwnOnly k S (s.staleMark k) := iff (h.own .incOk _) (fun _ g => g.endCause _ _)

theorem safeDrive : OwnOnly k S (s.safeDrive k) := by
  unfold State.safeDrive
  extract_lets on
  refine ite ?_ (h.thenIf (fun g => g.disable 7))
  exact (h.own .DISABLE_CAUSE _).ite ((h.preset.setAxis 1).own .DISABLE_CAUSE 0)

theorem setAmp (mA src : Nat) : OwnOnly k S (s.setAmp k mA src) := ((h.own .AMPLITUDE _).own .AMP_CODE _).own .AMP_SOURCE _

theorem safeTake : OwnOnly k S (s.safeTake k) := by
  unfold State.safeTake
  extract_lets s1 d s2 p s3
  have stepped : OwnOnly k S s3 := ((h.safeDrive.own .ANGLE_INC d).own .incMissed 0).wrPlanner _
  exact stepped.iff (fun _ g => g.setAmp _ _)

theorem incMark : OwnOnly k S (s.incMark k) :=
  ite (((h.own .ANGLE_INC 0).own .incMissed 0).wrPlanner _)
    (ite ((((h.own .ANGLE_INC _).own .incMissed 0).own .incHeld 0).wrPlanner _) (((h.own .incHeld 1).own .incMissed _).wrPlanner _))

theorem valuesMark : OwnOnly k S (s.valuesMark k) :=
  ite h.staleMark.safeTake (h.staleMark.incMark.iff (fun _ g => g.setAmp _ _))

theorem angleMark : OwnOnly k S (s.angleMark k) := h.own .angleQ _

-- the chopper and what drives the bridge

theorem resetAdapt : OwnOnly k S (s.resetAdapt k) := by
  refine h.same (resetAdapt_keeps (M := State.resetAdapt_may) k (keeps_refl _ s)) ?_
  unfold State.resetAdapt
  refine .endCause ?_ _ _
  repeat refine .wr ?_ _ _ _
  exact sameMoves_refl s

theorem adaptPhase (ph : Nat) : OwnOnly k S (s.adaptPhase k ph).1 :=
  h.keeps (adaptPhase_keeps (M := State.adaptPhase_may) k ph (keeps_refl _ s))

theorem adaptMark : OwnOnly k S (s.adaptMark k) := by
  unfold State.adaptMark
  have learned : OwnOnly k S ((s.adaptPhase k 0).1.adaptPhase k 1).1 := (h.adaptPhase 0).adaptPhase 1
  exact (own (own (iff (iff (iff learned (fun _ g => (g.count .ADAPT_SAT_PASSES k 1 32).detectHeld _ _ _)) (fun _ g => g.endCause _ _))
    (fun _ g => g.resetAdapt)) .ADAPT_OFFSET_A _) .ADAPT_OFFSET_B _)

/-- The mask of what the chopper takes at a mark, the offsets left out. -/
def chopperTakes_may : Nat :=
  State.signatureMark_may ||| State.widenMark_may ||| State.takeChopper_may ||| State.refMark_may ||| State.settledMark_may |||
  State.stepMark_may ||| State.startPhases_may

theorem chopperMark : OwnOnly k S (s.chopperMark k) := by
  unfold State.chopperMark
  extract_lets s1 s2 s3
  have summed : OwnOnly k S s2 :=
    free (free (free (free (free (free h.adaptMark .adSum _ 0) .adSum _ 0) .adMag _ 0) .adMag _ 0) .adCnt _ 0) .adCnt _ 0
  have taken : Keeps chopperTakes_may s2 s3 :=
    takeChopper_keeps k (widenMark_keeps k 1 (widenMark_keeps k 0 (signatureMark_keeps k (keeps_refl _ s2))))
  exact summed.keeps (startPhases_keeps k (stepMark_keeps k _ (settledMark_keeps k (refMark_keeps k taken))))

theorem releaseMark : OwnOnly k S (s.releaseMark k) := ((h.own .relWait 3).own .relFrom 1).ite (h.own .relFrom 0)

theorem brakeSync : OwnOnly k S (s.brakeSync k) := h.keeps (brakeSync_keeps (M := State.brakeSync_may) k (keeps_refl _ s))

theorem latch (b : Nat) : OwnOnly k S (s.latch k b) := by
  unfold State.latch
  extract_lets s1
  have opened : OwnOnly k S s1 :=
    ((h.own .faultLatch 1).own .latchAt _).keeps
      (bridgeBit_keeps (M := State.openPhases_may ||| State.bridgeBit_may) k b (openPhases_keeps k (keeps_refl _ _)))
  exact (((opened.own .contPend 1).own .pulseEnd 0).brakeSync).detect _ _ _ _

theorem interlock : OwnOnly k S (s.interlock k) :=
  ite (latch (h.count .SHOOT_COUNT k 1 32) 0) (h.keeps (switchAt_keeps (M := State.switchAt_may) k _ (keeps_refl _ s)))

theorem ranks : OwnOnly k S (s.ranks k) := h.brakeSync.interlock

-- what the next pass starts from

theorem followMark : OwnOnly k S (s.followMark k) := h.keeps (followMark_keeps (M := State.followMark_may) k (keeps_refl _ s))

theorem loadCauses : OwnOnly k S (s.loadCauses k) := by
  have marked : OwnOnly k S (if s.sigVoid k then s.detectHeld (blkAxis k) 0x18 else s.endCause (blkAxis k) 0x18) :=
    (h.detectHeld _ _ _).ite (h.endCause _ _)
  exact (marked.detectHeld _ _ _).ite (marked.endCause _ _)

theorem alignFb : OwnOnly k S (s.alignFb k) :=
  ((((h.own .fbCmd _).own .fbCh _).own .fbAlignPend 0).own .fbAligned 1).own .DEV_PEAK 0

theorem ledgerMark : OwnOnly k S (s.ledgerMark k) := (((h.own .mkTarget _).own .mkFbPos _).own .mkLoad _).own .mkDev _

theorem axisMark : OwnOnly k S (s.axisMark k) := by
  have taken := (((h.openMark 0).openMark 1).seenPass 0).seenPass 1 |>.pollInstant.takePlanned.saddleMark.lateEnd
  have driven := taken.finishMark.reassignMark.driveMark.stallMark.engageMark.learnMark.valuesMark
  have ranked := driven.angleMark.chopperMark.releaseMark.ranks.followMark.loadCauses
  exact (ranked.iff (fun _ g => g.alignFb)).ledgerMark

end State.OwnOnly

end Sys2Proof.Machine
end

section
/-! PROOFS. The depths noted of the move queues at a mark (O33): no change of mode rewrites them. -/
namespace Sys2Proof.Machine

set_option Elab.async false

-- blocks of the module and the move queues

namespace State.SameMoves

variable {S s t : State} (h : S.SameMoves s)
include h

theorem foldl {α : Type} {l : List α} {f : State → α → State} (g : ∀ y a, S.SameMoves y → S.SameMoves (f y a)) : S.SameMoves (l.foldl f s) := by
  induction l generalizing s with
  | nil => exact h
  | cons a l ih => exact ih (g s a h)

theorem forAll {n : Nat} {f : State → Nat → State} (g : ∀ y j, S.SameMoves y → S.SameMoves (f y j)) : S.SameMoves (s.forAll n f) := h.foldl g

theorem sendOwn (f : Frame) : S.SameMoves (s.sendOwn f) := h.push (q := 71) (by decide) _

theorem complete' (d : Hdr) (op index sub code : Nat) (data : List Byte) : S.SameMoves (s.complete' d op index sub code data) :=
  (h.keeps (wrTag_keeps (M := State.wrTag_may) d.tag _ (keeps_refl _ s))).sendOwn _

theorem finish (index sub code : Nat) : S.SameMoves (s.finish index sub code) := by
  have dropped (l : List Deferred) : S.SameMoves { s with deferred := l } := h.same rfl
  exact (dropped _).foldl (fun _ d g => g.complete' d.hdr d.op index sub code [])

theorem raise (r : Reg) (i m : Nat) : S.SameMoves (s.raise r i m) := h.same rfl

theorem traceMark : S.SameMoves s.traceMark := by
  unfold State.traceMark
  extract_lets s1 s2
  have taken : S.SameMoves s2 := h.same rfl
  exact taken.iff (taken.trace 0 _)

theorem closeAtMark : S.SameMoves s.closeAtMark := by
  refine h.foldl (fun y p g => ?_)
  split
  · exact g
  · split
    · exact g.closeRec _
    · exact g.closeRec _
    · exact g.closeRec _
    · exact g.closeRec _
    · exact ite (g.same rfl) (g.closeRec _)
    · exact (g.closeRec _).ite g
    · exact g

end State.SameMoves

-- the relation

/-- Between `s` and `t` every move queue keeps the depth noted at the latest mark. -/
structure State.SameDepths (s t : State) : Prop where
  marks : ∀ q < 64, (t.queue q).markDepth = (s.queue q).markDepth

theorem sameDepths_refl (s : State) : s.SameDepths s := ⟨fun _ _ => rfl⟩

namespace State.SameDepths

section
variable {S s t : State} (h : S.SameDepths s)
include h

theorem moves (g : s.SameMoves t) : S.SameDepths t := ⟨fun q hq => by rw [g.queue q hq, h.marks q hq]⟩

theorem axis {k : Nat} (g : OwnOnly k s t) : S.SameDepths t := ⟨fun q hq => by rw [g.marks q hq, h.marks q hq]⟩

theorem keeps {m : Nat} (e : Keeps m s t) (hm : m.testBit 2003 = false := by decide +kernel) : S.SameDepths t :=
  h.moves ((sameMoves_refl s).keeps e hm)

theorem wr (r : Reg) (i : Nat) (v : Int) : S.SameDepths (s.wr r i v) := ⟨h.marks⟩

theorem ite {c : Prop} {_ : Decidable c} (g : S.SameDepths t) : S.SameDepths (if c then s else t) := by
  split <;> assumption

theorem thenIf {c : Prop} {_ : Decidable c} (g : S.SameDepths s → S.SameDepths t) : S.SameDepths (if c then t else s) := (g h).ite h

theorem elseIf {c : Prop} {_ : Decidable c} (g : S.SameDepths s → S.SameDepths t) : S.SameDepths (if c then s else t) := h.ite (g h)

theorem iff {c : Bool} {f : State → State} (g : ∀ y, S.SameDepths y → S.SameDepths (f y)) : S.SameDepths (s.iff c f) := h.thenIf (g s)

theorem forAll {n : Nat} {f : State → Nat → State} (g : ∀ y j, S.SameDepths y → S.SameDepths (f y j)) : S.SameDepths (s.forAll n f) := by
  unfold State.forAll
  induction List.range n generalizing s with
  | nil => exact h
  | cons j l ih => exact ih (g s j h)

theorem detect (b c data : Nat) (opens : Bool) : S.SameDepths (s.detect b c data opens) := h.moves ((sameMoves_refl s).detect b c data opens)

theorem detectShadow (b c data : Nat) (covers : List (Nat × List Nat)) (ends : ShadowEnd) :
    S.SameDepths (s.detectShadow b c data covers ends) :=
  (h.detect b c data _).elseIf (fun g => g.keeps (openShadow_keeps (M := State.openShadow_may) _ _ _ _ (keeps_refl _ _)))

theorem finish (index sub code : Nat) : S.SameDepths (s.finish index sub code) := h.moves ((sameMoves_refl s).finish index sub code)

theorem setMode (m c : Nat) : S.SameDepths (s.setMode m c) := h.keeps (setMode_keeps (M := State.setMode_may) m c (keeps_refl _ s))

-- changes of mode

theorem bridgesOff : S.SameDepths s.bridgesOff := by
  refine h.forAll (fun y n g => ?_)
  extract_lets d y1 y2
  have alone : OwnOnly n y y := ownOnly_refl n y
  have dropped : OwnOnly n y y1 := (alone.own .drivePend 0).own .rearmPend 0
  have off : OwnOnly n y y2 := (dropped.disable 7).ite (dropped.thenIf (fun g => g.goOpen))
  have undirected {z : State} (g : OwnOnly n y z) (e : Nat) : OwnOnly n y ((((z.setDrive n 0).wr .pulseEnd n 0).wr .firePend n 0).switchAt n e) :=
    (((g.setDrive 0).own .pulseEnd 0).own .firePend 0).keeps (switchAt_keeps (M := State.switchAt_may) n e (keeps_refl _ _))
  exact g.axis (off.thenIf (fun g => undirected g _))

theorem busUv : S.SameDepths s.busUv := by
  unfold State.busUv
  extract_lets s1
  have held : S.SameDepths s1 := (h.wr .uvOn 0 1).detectShadow _ _ _ _ _
  refine held.forAll (fun y n g => g.axis (k := n) ?_)
  have alone : OwnOnly n y y := ownOnly_refl n y
  have off : OwnOnly n y ((y.raise .BRIDGE_FAULT n (2 ^ 8)).disable n 4) :=
    (alone.keeps (raise_keeps (M := may .BRIDGE_FAULT ||| State.raise_may) .BRIDGE_FAULT n _ (keeps_refl _ y))).disable 4
  exact (off.ite (alone.thenIf (fun g => g.goOpen))).ranks

theorem busAtEntry : S.SameDepths s.busAtEntry :=
  ((h.iff (fun _ g => g.detect _ _ _ _)).iff (fun _ g => g.busUv)).iff (fun _ g => g.detect _ _ _ _)

theorem leaveCalibrate : S.SameDepths s.leaveCalibrate := h.keeps (leaveCalibrate_keeps (M := State.leaveCalibrate_may) (keeps_refl _ s))

theorem leaveSafe : S.SameDepths s.leaveSafe := h.keeps (leaveSafe_keeps (M := State.leaveSafe_may) (keeps_refl _ s))

theorem arm (auto : Bool) : S.SameDepths (s.arm auto) := h.keeps (arm_keeps (M := State.arm_may) auto (keeps_refl _ s))

theorem runFromArmed : S.SameDepths s.runFromArmed := by
  unfold State.runFromArmed
  extract_lets s1
  have noted : S.SameDepths s1 := h.wr .islandFrom 0 _
  refine noted.iff (fun y g => g.forAll (fun z n g => g.thenIf (fun g => ?_)))
  exact (g.axis (ownOnly_refl n z).enableNow).keeps (energise_keeps (M := State.energise_may) n (keeps_refl _ _))

theorem runFromSafe : S.SameDepths s.runFromSafe := by
  unfold State.runFromSafe
  extract_lets s1
  have noted : S.SameDepths s1 := h.wr .islandFrom 0 _
  refine noted.forAll (fun y n g => g.elseIf (fun g => ?_))
  have rested := (ownOnly_refl n y).halt.setAxis 1
  exact g.axis (rested.own .STILL_PASSES _)

theorem enter (m c : Nat) : S.SameDepths (s.enter m c) := by
  unfold State.enter
  extract_lets old s1 s2 s3 s4 s5 s6 s7
  have entered : S.SameDepths s2 := ((((h.setMode m c).wr .modeMark 0 _).wr .islandExp 0 0).wr .contactPending 0 0).iff (fun _ g => g.wr .islandInSwap 0 0)
  have left : S.SameDepths s4 := ((entered.iff (fun _ g => g.leaveCalibrate)).iff (fun _ g => g.leaveSafe)).iff (fun _ g => g.wr .aliveStop 0 0)
  have unfollowed : S.SameDepths s5 := left.iff (fun _ g => g.forAll (fun _ n g => g.iff (fun _ g => g.wr .END_CAUSE n 6)))
  have bridged : S.SameDepths s7 := (unfollowed.iff (fun _ g => g.bridgesOff)).iff (fun _ g => g.busAtEntry)
  clear_value s7
  split
  · exact bridged.arm _
  · exact bridged.runFromArmed.ite (bridged.runFromSafe.ite bridged)
  · exact bridged.runFromArmed.ite (bridged.runFromSafe.ite bridged)
  · exact bridged.detect _ _ _ _
  · exact ((bridged.wr .STANDBY_ORIGIN 0 _).wr .wakeSince 0 0).detect _ _ _ _
  · exact bridged

theorem enterIsland : S.SameDepths s.enterIsland := by
  unfold State.enterIsland
  extract_lets s1 s2
  have entered : S.SameDepths s1 := (h.enter 8 6).iff (fun _ g => g.detect _ _ _ _)
  have counted : S.SameDepths s2 :=
    ((entered.detect _ _ _ _).keeps (count_keeps (M := may .ISLAND_COUNT ||| State.count_may) .ISLAND_COUNT 0 1 32 (keeps_refl _ _))).wr .islandMark 0 _
  exact counted.iff (fun _ g => g.forAll (fun _ n g => g.thenIf (fun g => (g.wr .stopPend n 1).wr .stopAt n _)))

theorem dropRequest : S.SameDepths s.dropRequest := h.elseIf (fun g => (g.wr .modeReq 0 0).finish _ _ _)

theorem lockoutMark : S.SameDepths s.lockoutMark := (((h.dropRequest.wr .lockoutPending 0 0).wr .tripPending 0 0).enter 10 _).finish _ _ _

theorem modeAtMark : S.SameDepths s.modeAtMark := by
  unfold State.modeAtMark
  extract_lets s1 m
  have begun : S.SameDepths s1 := h.iff (fun _ g => g.wr .tripPending 0 0)
  clear_value s1
  have asked : S.SameDepths (((s1.wr .modeReq 0 0).enter (if m = 5 then s1.runMode else m) 2).finish 0x1001 2 0) :=
    ((begun.wr .modeReq 0 0).enter _ 2).finish _ _ _
  exact begun.lockoutMark.ite (begun.dropRequest.ite (asked.ite ((begun.enter _ 7).ite (((begun.wr .clearPending 0 0).enter _ 12).ite
    ((begun.enter 7 5).ite (begun.enterIsland.ite begun))))))

theorem publish (n : Nat) : S.SameDepths (s.publish n) := by
  refine h.elseIf (fun g => ?_)
  have sent : s.SameMoves ((s.wr .PUBLISH_SEQ n ((s.rdN .PUBLISH_SEQ n + 1) % 256 : Nat)).sendOwn
      (s.noteFrame n ((s.rdN .PUBLISH_SEQ n + 1) % 256))) :=
    ((sameMoves_refl s).wr .PUBLISH_SEQ n _).sendOwn _
  exact (g.moves sent).keeps (count_keeps (M := may .NOTES_SENT ||| State.count_may) .NOTES_SENT 0 1 64 (keeps_refl _ _))

end

end State.SameDepths

end Sys2Proof.Machine
end

section
/-! PROOFS. What the blocks of a mark before the axes do to the move queues (O33): they leave them alone, but for the depths that they note. -/
namespace Sys2Proof.Machine

set_option Elab.async false

-- the blocks that may post records

namespace State.SameMoves

variable {S s : State} (h : S.SameMoves s)
include h

theorem wrBit (r : Reg) (i b : Nat) (v : Bool) : S.SameMoves (s.wrBit r i b v) := h.wr r i _

theorem chInvalid (c : Nat) : S.SameMoves (s.chInvalid c) := by
  have off : S.SameMoves (s.devOff c) := h.keeps (devOff_keeps (M := State.devOff_may) c (keeps_refl _ s))
  exact (off.wrBit .CH_FLAGS c 0 false).detectHeld _ _ _

theorem badFrame (c : Nat) : S.SameMoves (s.badFrame c) := by
  unfold State.badFrame
  extract_lets s1
  have counted : S.SameMoves s1 := (((h.raise .CH_EVENTS c (2 ^ 3)).count .FRAME_ERRORS c 1 32).detect _ _ _ _).wr .absErr c _
  exact (counted.chInvalid c).ite counted

theorem ssiMark (c : Nat) : S.SameMoves (s.ssiMark c) := by
  unfold State.ssiMark
  extract_lets s1
  have late : S.SameMoves s1 := h.keeps (ssiLate_keeps (M := State.ssiLate_may) c (keeps_refl _ s))
  exact h.ite (((late.wr .ssiState c 0).badFrame c).ite (((late.wr .ssiState c 0).wr .ssiOld c _).ite late))

theorem chSet (c : Nat) (v : Int) : S.SameMoves (s.chSet c v) := by
  unfold State.chSet
  extract_lets lo hi w s1
  have taken : S.SameMoves s1 := h.wr .chCount c w
  have held : S.SameMoves (((s1.count .SAT_EDGES c (v - w).natAbs).wrBit .CH_FLAGS c 2 true).detectHeld (blkFb c) 0x14) :=
    ((taken.count .SAT_EDGES c _ 32).wrBit .CH_FLAGS c 2 true).detectHeld _ _ _
  have free : S.SameMoves ((s1.wrBit .CH_FLAGS c 2 false).endCause (blkFb c) 0x14) := (taken.wrBit .CH_FLAGS c 2 false).endCause _ _
  exact held.ite (free.ite taken)

theorem chValid (c : Nat) : S.SameMoves (s.chValid c) := by
  unfold State.chValid
  extract_lets s1
  have valid : S.SameMoves s1 := ((h.wrBit .CH_FLAGS c 0 true).wrBit .CH_FLAGS c 5 false).endCause _ _
  exact h.ite (valid.foldl (fun _ n g => g.wr .fbAlignPend n 1))

theorem channelMark (c : Nat) : S.SameMoves (s.channelMark c) := by
  unfold State.channelMark
  extract_lets s1 s2 was s3 s4 s5
  have freed : S.SameMoves s1 := ((h.wr .chFreePend c 0).wrBit .CH_FLAGS c 3 _).ite h
  have framed : S.SameMoves s2 := freed.iff (freed.ssiMark c)
  have set : S.SameMoves s3 := ((framed.wr .prePend c 0).chSet c (s2.rd .preVal c)).wrBit .CH_FLAGS c 5 false
  have shifted : S.SameMoves (s3.forList (s3.followers 2 c) fun y n => y.shiftSource n ((y.rd .chCount c - was) * y.rd .COARSE_SIZE n)) :=
    set.foldl (fun y n g => g.keeps (shiftSource_keeps (M := State.shiftSource_may) n _ (keeps_refl _ y)))
  have preset : S.SameMoves s4 := (shifted.chValid c).ite framed
  have opened : S.SameMoves s5 := (preset.wr .illegalWin c 0).ite preset
  exact (opened.wr .CH_POS c _).keeps (speedAtMark_keeps (M := State.speedAtMark_may) c (keeps_refl _ _))

theorem converterMark (c : Nat) : S.SameMoves (s.converterMark c) := by
  unfold State.converterMark
  extract_lets s1 s2
  have opened : S.SameMoves s1 := (h.wr .ovrWin c 0).ite h
  have missed : S.SameMoves s2 := ite (opened.ite ((opened.raise .CV_EVENTS c 32).detect _ _ _ _)) (opened.endCause _ _)
  exact (missed.keeps (cvNext_keeps (M := State.cvNext_may) c _ (keeps_refl _ _))).ite missed

theorem emulate (e : Nat) : S.SameMoves (s.emulate e) := by
  unfold State.emulate
  extract_lets k j frozen src E c most d left s1 s2
  have shown : S.SameMoves s2 := by
    refine wr (wr (wr ?_ .emE e E) .emNext e (c + d)) .EM_BACKLOG e _
    exact h.keeps (wr48_keeps (M := may .EM_COUNT ||| State.wr48_may) .EM_COUNT e c (keeps_refl _ s))
  exact h.ite (shown.ite ((shown.count .EM_OVERRATE e 1 32).detect _ _ _ _))

end State.SameMoves

-- the depths that a mark notes

theorem tget_of_below {α : Type} {d : α} {l : Tbl α} {j : Nat} (h : ∀ p ∈ l, j < p.1) : tget d l j = d := by
  induction l with
  | nil => rfl
  | cons p l ih => rw [tget, if_neg (h p (List.mem_cons_self ..)).ne', ih (fun q hq => h q (List.mem_cons_of_mem _ hq))]

/-- A table of rising keys read after a map that leaves the default alone. -/
theorem tget_tmap {α : Type} [DecidableEq α] {d : α} {f : Nat → α → α} {l : Tbl α} (h : Rising l) (hf : ∀ k, f k d = d) (j : Nat) :
    tget d (tmap d f l) j = f j (tget d l j) := by
  induction l with
  | nil => rw [tget, hf]; rfl
  | cons p l ih =>
    obtain ⟨first, rest⟩ := List.pairwise_cons.mp h
    have tail := ih rest
    unfold tmap at tail ⊢
    rw [List.map_cons, List.filter_cons, tget]
    by_cases hj : p.1 = j
    · subst hj
      split
      · rw [tget, if_pos rfl, if_pos rfl]
      · next e =>
        rw [tail, tget_of_below first, if_pos rfl, hf]
        exact (not_not.mp (mt decide_eq_true e)).symm
    · rw [if_neg hj, ← tail]
      split
      · rw [tget, if_neg hj]
      · rfl

/-- A queue with its present depth noted. -/
def Queue.noted (x : Queue) : Queue := { x with markDepth := x.depth }

theorem depthMark_notes {s : State} (h : s.Canonical) (q : Nat) : (s.depthMark.queue q).markDepth = (s.queue q).depth := by
  have rising : Rising s.queues := of_decide_eq_true (Bool.and_eq_true_iff.mp h.queues).1
  exact congrArg Queue.markDepth (tget_tmap (d := Queue.empty) (f := fun _ x => x.noted) rising (fun _ => rfl) q)

/-- What the blocks of a mark do before the depths are noted. -/
def State.beforeDepths (s : State) (w : MarkIn) : State :=
  let s := ((s.settleAll.tick.traceMark.supplyMark w).cutLate).closeAtMark
  let s := (s.forAll 16 State.channelMark).calMark
  let s := s.iff (2 ≤ s.mode) (fun s => s.forAll 16 State.converterMark)
  (s.forAll 8 State.busMark).forAll 4 State.emulate

theorem beforeDepths_sameMoves (s : State) (w : MarkIn) : s.SameMoves (s.beforeDepths w) := by
  unfold State.beforeDepths
  extract_lets s1 s2 s3
  have begun : s.SameMoves s.settleAll.tick :=
    ((sameMoves_refl s).keeps (settleAll_keeps (M := State.settleAll_may) (keeps_refl _ s))).keeps (tick_keeps (M := State.tick_may) (keeps_refl _ _))
  have read := begun.traceMark.keeps (supplyMark_keeps (M := State.supplyMark_may) w (keeps_refl _ _))
  have closed : s.SameMoves s1 := (read.keeps (cutLate_keeps (M := State.cutLate_may) (keeps_refl _ _))).closeAtMark
  have fed : s.SameMoves s2 := (closed.forAll (fun _ c g => g.channelMark c)).keeps (calMark_keeps (M := State.calMark_may) (keeps_refl _ _))
  have converted : s.SameMoves s3 := fed.iff (fed.forAll (fun _ c g => g.converterMark c))
  have shown := converted.forAll (n := 8) (f := State.busMark) (fun y k g => g.keeps (busMark_keeps (M := State.busMark_may) k (keeps_refl _ y)))
  exact shown.forAll (fun _ e g => g.emulate e)

/-- What the blocks of a mark may change before the depths are noted. -/
def beforeDepths_may : Nat := State.settleAll_may ||| State.tick_may ||| blocksAfterTick_may

theorem beforeDepths_keeps (s : State) (w : MarkIn) : Keeps beforeDepths_may s (s.beforeDepths w) := by
  have begun := tick_keeps (settleAll_keeps (keeps_refl beforeDepths_may s))
  have read := closeAtMark_keeps (cutLate_keeps (supplyMark_keeps w (traceMark_keeps begun)))
  have fed := calMark_keeps (keeps_forAll (n := 16) read (fun _ c g => channelMark_keeps c g))
  have converted (c : Bool) := keeps_iff (c := c) fed (fun _ g => keeps_forAll (n := 16) g (fun _ c g => converterMark_keeps c g))
  exact keeps_forAll (n := 4) (keeps_forAll (n := 8) (converted _) (fun _ k g => busMark_keeps k g)) (fun _ k g => emulate_keeps k g)

theorem blocksMark_notes {s : State} (w : MarkIn) (h : s.Canonical) {q : Nat} (hq : q < 64) :
    ((s.blocksMark w).queue q).markDepth = (s.queue q).depth := by
  have noted := depthMark_notes ((beforeDepths_keeps s w).can h) q
  rw [(beforeDepths_sameMoves s w).queue q hq] at noted
  have rest : Keeps (State.fallbackMark_may ||| State.dieMark_may) (s.beforeDepths w).depthMark (s.blocksMark w) :=
    keeps_forAll (n := 8) (fallbackMark_keeps (keeps_refl _ _)) (fun _ k g => dieMark_keeps k g)
  rw [State.queue, rest.queues (by decide +kernel)]
  exact noted

end Sys2Proof.Machine
end

section
/-! PROOFS. The mark of an axis at rest (O33): nothing is due, so that the mark shows the planned position and takes the increment of the pass. -/
namespace Sys2Proof.Machine

set_option Elab.async false

/-- What may be due for an axis at a mark. -/
def dueRegs : List Reg :=
  [.finPend, .finHome, .asgPend, .setPend, .contPend, .diePend, .disPend, .rearmPend, .drivePend, .directPend, .firePend, .stallRel, .followPend, .lnOn]

/-- Axis `n` stands in IDLE or HOLD in RUN or RUN-DEGRADED without a plan and a record, and nothing is due for it. -/
structure State.Undue (s : State) (n : Nat) : Prop where
  mode : s.mode = 5 ∨ s.mode = 6
  axis : s.rd .AXIS_STATE n = 0 ∨ s.rd .AXIS_STATE n = 1
  act  : (s.planner n).act = none
  plan : (s.planner n).plan = none
  ena  : s.rd .enaPend 0 = 0
  clear : ∀ r ∈ dueRegs, s.rd r n = 0

/-- The mask of what `Undue` speaks of. -/
def undue_may : Nat := mayRegs (.MODE :: .AXIS_STATE :: .enaPend :: dueRegs) ||| may_planners

theorem undue_free {m : Nat} (h : m &&& undue_may = 0) :
    (∀ r ∈ Reg.MODE :: .AXIS_STATE :: .enaPend :: dueRegs, m.testBit r.ctorIdx = false) ∧ m.testBit 2009 = false := by
  refine ⟨fun r hr => testBit_of_apart h ?_, testBit_of_apart h (by decide +kernel)⟩
  rw [undue_may, Nat.testBit_or, mayRegs_testBit_mem hr, Bool.true_or]

namespace State.Undue

variable {s t : State} {n : Nat} (h : s.Undue n)
include h

theorem keeps {m : Nat} (e : Keeps m s t) (hm : m &&& undue_may = 0 := by decide +kernel) : t.Undue n := by
  obtain ⟨regs, plans⟩ := undue_free hm
  have same (r : Reg) (i : Nat) (hr : r ∈ Reg.MODE :: .AXIS_STATE :: .enaPend :: dueRegs) : t.rd r i = s.rd r i := e.rd r i (regs r hr)
  have planned : t.planner n = s.planner n := e.planner n plans
  have moded : t.mode = s.mode := congrArg Int.toNat (same .MODE 0 (by simp))
  exact ⟨moded ▸ h.mode, (same .AXIS_STATE n (by simp)).symm ▸ h.axis, planned ▸ h.act, planned ▸ h.plan,
    (same .enaPend 0 (by simp)).trans h.ena, fun r hr => (same r n (by simp [hr])).trans (h.clear r hr)⟩

/-- Nothing changes where what is due is noted as done. -/
theorem wr_due (r : Reg) (hr : r ∈ dueRegs) : (s.wr r n 0).Undue n := by
  have ne (q : Reg) (hq : q ∉ dueRegs := by decide) : q ≠ r := fun e => hq (e ▸ hr)
  refine ⟨?_, ?_, h.act, h.plan, ?_, fun q hq => ?_⟩
  · rw [State.mode, State.rdN, State.rd_wr_ne _ _ _ _ (ne .MODE)]
    exact h.mode
  · rw [State.rd_wr_ne _ _ _ _ (ne .AXIS_STATE)]
    exact h.axis
  · rw [State.rd_wr_ne _ _ _ _ (ne .enaPend), h.ena]
  · rw [State.rd_wr]
    split
    · rfl
    · exact h.clear q hq

theorem due (r : Reg) (hr : r ∈ dueRegs := by decide) : s.rd r n = 0 := h.clear r hr

theorem dueN (r : Reg) (hr : r ∈ dueRegs := by decide) : s.rdN r n = 0 := congrArg Int.toNat (h.clear r hr)

-- the steps of its mark that find nothing to do

theorem pollInstant : s.pollInstant n = s := by
  have none : s.waitRec n = none := by rw [State.waitRec, h.act]; rfl
  rw [State.pollInstant, none]

theorem lateEnd : s.lateEnd n = s := by
  have lasting : (s.planner n).endsNow = false := by rw [Planner.endsNow, h.plan]
  simp [State.lateEnd, lasting]

theorem finishMark : s.finishMark n = (s.wr .finPend n 0).wr .finHome n 0 := by
  simp [State.finishMark, State.finRec, State.iff, h.dueN .finPend, h.dueN .finHome]

theorem reassignMark : s.reassignMark n = s := by
  simp [State.reassignMark, h.due .asgPend, h.due .setPend]

theorem driveMark : s.driveMark n = s.pulseDone n := by
  have done : (s.pulseDone n).Undue n := h.keeps (pulseDone_keeps (M := State.pulseDone_may) n (keeps_refl _ s))
  have free : (s.pulseDone n).directMark n = s.pulseDone n := by
    simp [State.directMark, done.dueN .directPend, done.due .firePend]
  simp [State.driveMark, h.due .diePend, h.dueN .contPend, h.ena, h.dueN .disPend, h.due .rearmPend, h.due .drivePend, free]

theorem stallMark : s.stallMark n = s := by simp [State.stallMark, h.due .stallRel]

theorem engageMark : s.engageMark n = s := by simp [State.engageMark, h.due .followPend]

theorem learnMark : s.learnMark n = s := by simp [State.learnMark, h.dueN .lnOn]

end State.Undue

-- the mark as a whole

/-- The mark of an axis for which nothing is due, up to the planned values. -/
def State.unduePlanned (s : State) (n : Nat) : State :=
  (((((s.openMark n 0).openMark n 1).seenPass n 0).seenPass n 1).takePlanned n).saddleMark n

/-- The mark of an axis for which nothing is due, up to the values of the pass. -/
def State.undueDriven (s : State) (n : Nat) : State := (((s.unduePlanned n).wr .finPend n 0).wr .finHome n 0).pulseDone n

/-- What the mark of an axis does after its values have been taken. -/
def State.afterValues (s : State) (n : Nat) : State :=
  let s := (((s.chopperMark n).releaseMark n).ranks n).followMark n
  let s := s.loadCauses n
  let s := s.iff (s.rd .fbAlignPend n = 1) (fun s => s.alignFb n)
  s.ledgerMark n

/-- What a mark may change of an axis before its planned state is taken. -/
def opened_may : Nat := State.openMark_may ||| State.seenPass_may

theorem opened_keeps (s : State) (n : Nat) : Keeps opened_may s ((((s.openMark n 0).openMark n 1).seenPass n 0).seenPass n 1) :=
  seenPass_keeps n 1 (seenPass_keeps n 0 (openMark_keeps n 1 (openMark_keeps n 0 (keeps_refl _ s))))

theorem unduePlanned_undue {s : State} {n : Nat} (h : s.Undue n) : (s.unduePlanned n).Undue n :=
  (h.keeps (opened_keeps s n)).keeps
    (saddleMark_keeps (M := State.takePlanned_may ||| State.saddleMark_may) n (takePlanned_keeps n (keeps_refl _ _)))

theorem undueDriven_undue {s : State} {n : Nat} (h : s.Undue n) : (s.undueDriven n).Undue n :=
  (((unduePlanned_undue h).wr_due .finPend (by decide)).wr_due .finHome (by decide)).keeps
    (pulseDone_keeps (M := State.pulseDone_may) n (keeps_refl _ _))

theorem axisMark_of_undue {s : State} {n : Nat} (h : s.Undue n) :
    s.axisMark n = (((s.undueDriven n).valuesMark n).angleMark n).afterValues n := by
  have opened := h.keeps (opened_keeps s n)
  have planned := unduePlanned_undue h
  have noted := (planned.wr_due .finPend (by decide)).wr_due .finHome (by decide)
  have driven := undueDriven_undue h
  have taken : ((((s.unduePlanned n).lateEnd n).finishMark n).reassignMark n).driveMark n = s.undueDriven n := by
    rw [planned.lateEnd, planned.finishMark, noted.reassignMark, noted.driveMark]
    rfl
  have rested : ((((s.undueDriven n).stallMark n).engageMark n).learnMark n) = s.undueDriven n := by
    rw [driven.stallMark, driven.engageMark, driven.learnMark]
  have polled : ((((((s.openMark n 0).openMark n 1).seenPass n 0).seenPass n 1).pollInstant n).takePlanned n).saddleMark n = s.unduePlanned n := by
    rw [opened.pollInstant]
    rfl
  unfold State.axisMark
  simp only [polled, taken, rested]
  rfl

-- the values that it shows

theorem takePlanned_shows (s : State) (n : Nat) (lo : -2 ^ 63 ≤ (s.planner n).nxt.x) (hi : (s.planner n).nxt.x < 2 ^ 63) :
    (s.takePlanned n).rd .posQ n = (s.planner n).nxt.x ∧ (s.takePlanned n).rd .CMD_POS n = fdiv (s.planner n).nxt.x 65536 := by
  have low : -2 ^ 47 ≤ fdiv (s.planner n).nxt.x 65536 := by rw [fdiv, Int.fdiv_eq_ediv_of_nonneg _ (by omega)]; omega
  have high : fdiv (s.planner n).nxt.x 65536 < 2 ^ 47 := by rw [fdiv, Int.fdiv_eq_ediv_of_nonneg _ (by omega)]; omega
  unfold State.takePlanned
  extract_lets k s1 s2 s3
  rw [show s3 = _ from wr48_of_range _ _ _ low high]
  simp [State.rd_wr, k]

/-- What a mark for which nothing is due may change before the values of the pass. -/
def undueDriven_may : Nat :=
  opened_may ||| State.takePlanned_may ||| State.saddleMark_may ||| may .finPend ||| may .finHome ||| State.pulseDone_may

theorem undueDriven_keeps (s : State) (n : Nat) : Keeps undueDriven_may s (s.undueDriven n) := by
  have planned := saddleMark_keeps n (takePlanned_keeps n ((opened_keeps s n).mono (m' := undueDriven_may) (by decide +kernel)))
  exact pulseDone_keeps n (keeps_wr (keeps_wr planned .finPend n 0 (by decide +kernel)) .finHome n 0 (by decide +kernel))

/-- The same once the planned state has been taken. -/
def noted_may : Nat := State.saddleMark_may ||| may .finPend ||| may .finHome ||| State.pulseDone_may

theorem undueDriven_shows {s : State} {n : Nat} (lo : -2 ^ 63 ≤ (s.planner n).nxt.x) (hi : (s.planner n).nxt.x < 2 ^ 63) :
    (s.undueDriven n).rd .posQ n = (s.planner n).nxt.x ∧ (s.undueDriven n).rd .CMD_POS n = fdiv (s.planner n).nxt.x 65536 := by
  let opened := (((s.openMark n 0).openMark n 1).seenPass n 0).seenPass n 1
  have planned : opened.planner n = s.planner n := (opened_keeps s n).planner n
  have taken := takePlanned_shows opened n (planned ▸ lo) (planned ▸ hi)
  have rest : Keeps noted_may (opened.takePlanned n) (s.undueDriven n) :=
    pulseDone_keeps n (keeps_wr (keeps_wr (saddleMark_keeps n (keeps_refl _ _)) .finPend n 0 (by decide +kernel)) .finHome n 0 (by decide +kernel))
  rwa [planned, ← rest.rd .posQ n (by decide +kernel), ← rest.rd .CMD_POS n (by decide +kernel)] at taken

theorem incMark_shows {s : State} {n : Nat} (h : s.Undue n) :
    (s.incMark n).rd .ANGLE_INC n = if s.rdN .stampInterp n = s.pass then s.rd .incShadow n else s.rd .ANGLE_INC n := by
  have moving : ¬ 5 ≤ s.rd .AXIS_STATE n := by rcases h.axis with e | e <;> rw [e] <;> decide
  unfold State.incMark
  extract_lets p d x y
  rw [if_neg moving]
  split
  · simp [State.rd_wrPlanner, State.rd_wr]
    rfl
  · simp [y, State.rd_wrPlanner, State.rd_wr]

theorem valuesMark_shows {s : State} {n : Nat} (h : s.Undue n) :
    (s.valuesMark n).rd .ANGLE_INC n = if s.rdN .stampInterp n = s.pass then s.rd .incShadow n else s.rd .ANGLE_INC n := by
  have stale : Keeps State.staleMark_may s (s.staleMark n) := staleMark_keeps n (keeps_refl _ s)
  have undue : (s.staleMark n).Undue n := h.keeps stale
  have running : (s.staleMark n).mode ≠ 9 := by rcases undue.mode with e | e <;> rw [e] <;> decide
  have inc := incMark_shows undue
  have amp : Keeps State.setAmp_may ((s.staleMark n).incMark n) (s.valuesMark n) := by
    unfold State.valuesMark
    extract_lets s1 s2
    rw [if_neg running]
    exact keeps_iff (keeps_refl _ _) (fun _ g => setAmp_keeps n _ _ g)
  rw [amp.rd .ANGLE_INC n (by decide +kernel), inc, State.rdN, State.pass, State.rdN, stale.rd .stampInterp n (by decide +kernel),
    stale.rd .PASS_COUNT 0 (by decide +kernel), stale.rd .incShadow n (by decide +kernel), stale.rd .ANGLE_INC n (by decide +kernel)]
  rfl

/-- What the mark of an axis may change once its values have been taken. -/
def afterValues_may : Nat :=
  State.chopperMark_may ||| State.releaseMark_may ||| State.ranks_may ||| State.followMark_may ||| State.loadCauses_may ||| State.alignFb_may |||
  State.ledgerMark_may

theorem afterValues_keeps (s : State) (n : Nat) : Keeps afterValues_may s (s.afterValues n) := by
  have ranked := followMark_keeps n (ranks_keeps n (releaseMark_keeps n (chopperMark_keeps (M := afterValues_may) n (keeps_refl _ s))))
  exact ledgerMark_keeps n (keeps_iff (loadCauses_keeps n ranked) (fun _ g => alignFb_keeps n g))

/-- The mark of an axis for which nothing is due: the position planned for it, and the increment of the pass that begins. -/
theorem axisMark_shows {s : State} {n : Nat} (h : s.Undue n) (lo : -2 ^ 63 ≤ (s.planner n).nxt.x) (hi : (s.planner n).nxt.x < 2 ^ 63) :
    (s.axisMark n).rd .posQ n = (s.planner n).nxt.x ∧ (s.axisMark n).rd .CMD_POS n = fdiv (s.planner n).nxt.x 65536 ∧
      (s.axisMark n).rd .angleQ n = unsigned 28 ((s.planner n).nxt.x + s.rd .ANGLE_ORIGIN n * 65536) ∧
      (s.axisMark n).rd .ANGLE_INC n = (if s.rdN .stampInterp n = s.pass then s.rd .incShadow n else s.rd .ANGLE_INC n) := by
  obtain ⟨pos, cmd⟩ := undueDriven_shows lo hi
  have inc := valuesMark_shows (undueDriven_undue h)
  have before := undueDriven_keeps s n
  have values : Keeps State.valuesMark_may (s.undueDriven n) ((s.undueDriven n).valuesMark n) := valuesMark_keeps n (keeps_refl _ _)
  have after := afterValues_keeps (((s.undueDriven n).valuesMark n).angleMark n) n
  have angle (y : State) (r : Reg) (hr : r ≠ .angleQ := by decide) : (y.angleMark n).rd r n = y.rd r n := State.rd_wr_ne _ _ _ _ hr
  rw [axisMark_of_undue h, after.rd .posQ n (by decide +kernel), after.rd .CMD_POS n (by decide +kernel), after.rd .angleQ n (by decide +kernel),
    after.rd .ANGLE_INC n (by decide +kernel), angle _ .posQ, angle _ .CMD_POS, angle _ .ANGLE_INC]
  refine ⟨?_, ?_, ?_, ?_⟩
  · rw [values.rd .posQ n (by decide +kernel), pos]
  · rw [values.rd .CMD_POS n (by decide +kernel), cmd]
  · rw [State.angleMark, State.rd_wr_same, values.rd .posQ n (by decide +kernel), pos, values.rd .ANGLE_ORIGIN n (by decide +kernel),
      before.rd .ANGLE_ORIGIN n (by decide +kernel)]
  · rw [inc, State.rdN, State.pass, State.rdN, before.rd .stampInterp n (by decide +kernel), before.rd .PASS_COUNT 0 (by decide +kernel),
      before.rd .incShadow n (by decide +kernel), before.rd .ANGLE_INC n (by decide +kernel)]
    rfl

end Sys2Proof.Machine
end

section
/-! PROOFS. The pass mark as a whole (O33). -/
namespace Sys2Proof.Machine

set_option Elab.async false

theorem Keeps.mode_eq {m : Nat} {s t : State} (h : Keeps m s t) (hm : m.testBit Reg.MODE.ctorIdx = false := by decide +kernel) : t.mode = s.mode := by
  rw [State.mode, State.mode, State.rdN, State.rdN, h.rd .MODE 0 hm]

-- one axis among the 64

theorem axisMarks_apart {l : List Nat} {n : Nat} (hn : n ∉ l) (s : State) :
    (∀ r ∈ axisOwn, (l.foldl State.axisMark s).rd r n = s.rd r n) ∧ (l.foldl State.axisMark s).planner n = s.planner n := by
  induction l generalizing s with
  | nil => exact ⟨fun _ _ => rfl, rfl⟩
  | cons k l ih =>
    have ne : n ≠ k := fun e => hn (e ▸ List.mem_cons_self ..)
    have own : State.OwnOnly k s (s.axisMark k) := (ownOnly_refl k s).axisMark
    obtain ⟨regs, plan⟩ := ih (fun h => hn (List.mem_cons_of_mem _ h)) (s.axisMark k)
    rw [List.foldl_cons]
    exact ⟨fun r hr => by rw [regs r hr, own.rd n ne r hr], by rw [plan, own.planner n ne]⟩

/-- Axis `n` comes to its mark as it was before the marks of the axes, and keeps what its own mark gives it. -/
theorem axisMarks_at {n : Nat} (hn : n < 64) (s : State) :
    ∃ y, Keeps State.axisMark_may s y ∧ (∀ r ∈ axisOwn, y.rd r n = s.rd r n) ∧ y.planner n = s.planner n ∧
      ∀ r ∈ axisOwn, (s.forAll 64 State.axisMark).rd r n = (y.axisMark n).rd r n := by
  obtain ⟨l, l', e⟩ := List.append_of_mem (List.mem_range.mpr hn)
  have once : (l ++ n :: l').Nodup := e ▸ List.nodup_range
  obtain ⟨-, after, apart⟩ := List.nodup_append.mp once
  obtain ⟨regs, plan⟩ := axisMarks_apart (fun h => apart n h n (List.mem_cons_self ..) rfl) s
  refine ⟨l.foldl State.axisMark s, keeps_foldl (keeps_refl _ s) (fun _ k g => axisMark_keeps k g), regs, plan, fun r hr => ?_⟩
  rw [State.forAll, e, List.foldl_append, List.foldl_cons]
  exact (axisMarks_apart (List.nodup_cons.mp after).1 _).1 r hr

theorem axisMarks_depths {S s : State} (h : S.SameDepths s) : S.SameDepths (s.forAll 64 State.axisMark) :=
  h.forAll (fun y k g => g.axis (ownOnly_refl k y).axisMark)

-- an axis at rest comes to its mark

theorem undue_of_atRest {s : State} {n : Nat} (rest : s.AtRest n) (due : s.NothingDue n) : s.Undue n := by
  refine ⟨rest.mode, rest.axis, rest.act, rest.plan, due.cont.2.2, ?_⟩
  simp only [dueRegs, List.forall_mem_cons]
  obtain ⟨fin, home⟩ := due.found
  obtain ⟨asg, set⟩ := due.assign
  obtain ⟨cont, die, -⟩ := due.cont
  obtain ⟨rearm, drive, direct, fire⟩ := due.drive
  obtain ⟨follow, stall⟩ := due.engage
  obtain ⟨-, -, -, -, dis⟩ := rest.asked
  exact ⟨fin, home, asg, set, cont, die, dis, rearm, drive, direct, fire, stall, follow, rest.learn, List.forall_mem_nil _⟩

theorem dueRegs_own : ∀ r ∈ dueRegs, r ∈ axisOwn := by decide

theorem undue_at_turn {s y : State} {n : Nat} (h : s.Undue n) (e : Keeps State.axisMark_may s y) (regs : ∀ r ∈ axisOwn, y.rd r n = s.rd r n)
    (plan : y.planner n = s.planner n) : y.Undue n := by
  have mode : y.mode = s.mode := e.mode_eq
  exact ⟨mode ▸ h.mode, (regs .AXIS_STATE (by decide)).symm ▸ h.axis, plan ▸ h.act, plan ▸ h.plan, (e.rd .enaPend 0 (by decide +kernel)).trans h.ena,
    fun r hr => (regs r (dueRegs_own r hr)).trans (h.clear r hr)⟩

-- changes of mode out of RUN

/-- What a change of mode may change that enters SWAP or ISLAND from RUN. -/
def enterRunning_may : Nat :=
  State.setMode_may ||| may .modeMark ||| may .islandExp ||| may .contactPending ||| may .islandInSwap ||| may .aliveStop

/-- SWAP and ISLAND entered from RUN or RUN-DEGRADED change nothing of the axes. -/
theorem enter_of_running {s : State} (hs : s.mode = 5 ∨ s.mode = 6) {m : Nat} (hm : m = 7 ∨ m = 8) (c : Nat) : Keeps enterRunning_may s (s.enter m c) := by
  have e : s.enter m c =
      (((((s.setMode m c).wr .modeMark 0 (s.pass + 1)).wr .islandExp 0 0).wr .contactPending 0 0).wr .islandInSwap 0 0).wr .aliveStop 0 0 := by
    rcases hs with hs | hs <;> rcases hm with rfl | rfl <;> simp [State.enter, State.iff, hs, isBridgeMode]
  rw [e]
  have moded := setMode_keeps (M := enterRunning_may) m c (keeps_refl _ s)
  have noted := keeps_wr (keeps_wr moded .modeMark 0 (s.pass + 1) (by decide +kernel)) .islandExp 0 0 (by decide +kernel)
  exact keeps_wr (keeps_wr (keeps_wr noted .contactPending 0 0 (by decide +kernel)) .islandInSwap 0 0 (by decide +kernel)) .aliveStop 0 0
    (by decide +kernel)

/-- The same of ISLAND with its records and its stops. -/
def enterIslandRunning_may : Nat :=
  enterRunning_may ||| State.detect_may ||| may .ISLAND_COUNT ||| State.count_may ||| may .islandMark ||| may .stopPend ||| may .stopAt

theorem enterIsland_of_running {s : State} (hs : s.mode = 5 ∨ s.mode = 6) : Keeps enterIslandRunning_may s s.enterIsland := by
  unfold State.enterIsland
  extract_lets s1 s2
  have entered : Keeps enterIslandRunning_may s (s.enter 8 6) := (enter_of_running hs (.inr rfl) 6).mono (by decide +kernel)
  have posted : Keeps enterIslandRunning_may s s1 := keeps_iff entered (fun y g => detect_keeps y.blkSteward 2 0 false g)
  have marked : Keeps enterIslandRunning_may s s2 :=
    keeps_wr (count_keeps .ISLAND_COUNT 0 1 32 (detect_keeps _ 0x12 0 false posted)) .islandMark 0 _ (by decide +kernel)
  exact keeps_iff marked (fun _ g => keeps_forAll g (fun _ n g =>
    keeps_ite (keeps_wr (keeps_wr g .stopPend n 1 (by decide +kernel)) .stopAt n _ (by decide +kernel)) g))

/-- The same of every change of mode that this mark may make of itself. -/
def leaveRunning_may : Nat := may .tripPending ||| enterIslandRunning_may

/-- No change of mode that neither a host nor a LOCKOUT has asked for changes anything of an axis that runs. -/
theorem modeAtMark_of_running {s : State} (hs : s.mode = 5 ∨ s.mode = 6) (hl : s.rd .lockoutPending 0 = 0) (hr : s.rd .modeReq 0 = 0) :
    Keeps leaveRunning_may s s.modeAtMark := by
  unfold State.modeAtMark
  extract_lets s1 m
  have trip : Keeps (may .tripPending) s s1 := keeps_iff (keeps_refl _ s) (fun _ g => keeps_wr g .tripPending 0 0 (by decide +kernel))
  have kept : Keeps leaveRunning_may s s1 := trip.mono (by decide +kernel)
  have mode : s1.mode = s.mode := trip.mode_eq
  have locked : s1.rd .lockoutPending 0 = 0 := (trip.rd .lockoutPending 0 (by decide +kernel)).trans hl
  have asked : s1.rd .modeReq 0 = 0 := (trip.rd .modeReq 0 (by decide +kernel)).trans hr
  clear_value s1
  have dropped : s1.dropRequest = s1 := if_pos asked
  have runs : s1.mode = 5 ∨ s1.mode = 6 := mode ▸ hs
  have contact : ¬ (s1.rd .contactPending 0 = 1 && s1.mode = 8) = true := by rcases runs with e | e <;> simp [e]
  have clearing : ¬ (s1.rd .clearPending 0 = 1 && s1.mode = 10) = true := by rcases runs with e | e <;> simp [e]
  rw [if_neg (not_not.mpr locked), dropped, if_neg (not_not.mpr asked), if_neg contact, if_neg clearing]
  have swap : Keeps leaveRunning_may s1 (s1.enter 7 5) := (enter_of_running runs (.inl rfl) 5).mono (by decide +kernel)
  have island : Keeps leaveRunning_may s1 s1.enterIsland := (enterIsland_of_running runs).mono (by decide +kernel)
  exact keeps_ite kept (keeps_ite (kept.trans swap) (keeps_ite (kept.trans island) kept))

-- the mark

/-- The mask of what precedes the marks of the axes. -/
def beforeAxes_may : Nat := beforeDepths_may ||| State.dueContact_may

theorem beforeAxes_keeps (s : State) (w : MarkIn) : Keeps beforeAxes_may s (s.blocksMark w).dueContact := by
  have shown := depthMark_keeps ((beforeDepths_keeps s w).mono (m' := beforeAxes_may) (by decide +kernel))
  exact dueContact_keeps (keeps_forAll (n := 8) (fallbackMark_keeps shown) (fun _ k g => dieMark_keeps k g))

/-- The state once the axes have taken their marks and what they publish has been queued. -/
def State.axesDone (s : State) (w : MarkIn) : State :=
  ((((s.blocksMark w).dueContact.forAll 64 State.axisMark).wr .enaPend 0 0).forAll 64 State.publish).rmsMark.standbyMark

theorem markWork_eq (s : State) (w : MarkIn) : s.markWork w = ((s.axesDone w).modeAtMark).aliveMark s.aliveOn := rfl

/-- The mask of what follows the marks of the axes but for the change of mode. -/
def afterAxes_may : Nat := may .enaPend ||| State.publish_may ||| State.rmsMark_may ||| State.standbyMark_may

theorem axesDone_keeps (s : State) (w : MarkIn) : Keeps afterAxes_may ((s.blocksMark w).dueContact.forAll 64 State.axisMark) (s.axesDone w) :=
  standbyMark_keeps (rmsMark_keeps (keeps_forAll (n := 64) (keeps_wr (keeps_refl _ _) .enaPend 0 0 (by decide +kernel)) (fun _ n g => publish_keeps n g)))

/-- The depths noted at a mark. -/
theorem markWork_notes {s : State} (w : MarkIn) (h : s.Canonical) {q : Nat} (hq : q < 64) :
    ((s.markWork w).queue q).markDepth = (s.queue q).depth := by
  have contacted : (s.blocksMark w).SameDepths (s.blocksMark w).dueContact :=
    (sameDepths_refl _).keeps (dueContact_keeps (M := State.dueContact_may) (keeps_refl _ _))
  have axes := (axisMarks_depths contacted).wr .enaPend 0 0
  have sent := (axes.forAll (n := 64) (fun _ n g => g.publish n)).keeps (rmsMark_keeps (M := State.rmsMark_may) (keeps_refl _ _))
  have done := (sent.keeps (standbyMark_keeps (M := State.standbyMark_may) (keeps_refl _ _))).modeAtMark
  have alive := done.keeps (aliveMark_keeps (M := State.aliveMark_may) s.aliveOn (keeps_refl _ _))
  exact (alive.marks q hq).trans (blocksMark_notes w h hq)

-- what an axis at rest shows

/-- What a mark may change before its change of mode. -/
def axesDone_may : Nat := beforeAxes_may ||| State.axisMark_may ||| afterAxes_may

theorem axesDone_keeps_all (s : State) (w : MarkIn) : Keeps axesDone_may s (s.axesDone w) := by
  have before := (beforeAxes_keeps s w).mono (m' := axesDone_may) (by decide +kernel)
  have axes : Keeps axesDone_may s ((s.blocksMark w).dueContact.forAll 64 State.axisMark) :=
    keeps_forAll (n := 64) before (fun _ k g => axisMark_keeps k g)
  exact axes.trans ((axesDone_keeps s w).mono (by decide +kernel))

/-- The mask of what a mark does in RUN after the marks of the axes. -/
def endRunning_may : Nat := afterAxes_may ||| leaveRunning_may ||| State.aliveMark_may

theorem markWork_after_axes {s : State} (w : MarkIn) (hs : s.mode = 5 ∨ s.mode = 6) (hl : s.rd .lockoutPending 0 = 0) (hr : s.rd .modeReq 0 = 0) :
    Keeps endRunning_may ((s.blocksMark w).dueContact.forAll 64 State.axisMark) (s.markWork w) := by
  have whole := axesDone_keeps_all s w
  have mode : (s.axesDone w).mode = s.mode := whole.mode_eq
  have locked : (s.axesDone w).rd .lockoutPending 0 = 0 := by rw [whole.rd .lockoutPending 0 (by decide +kernel), hl]
  have asked : (s.axesDone w).rd .modeReq 0 = 0 := by rw [whole.rd .modeReq 0 (by decide +kernel), hr]
  have left := modeAtMark_of_running (by rwa [mode]) locked asked
  have done := (axesDone_keeps s w).mono (m' := endRunning_may) (by decide +kernel)
  rw [markWork_eq]
  exact aliveMark_keeps s.aliveOn (done.trans (left.mono (m' := endRunning_may) (by decide +kernel)))

theorem markWork_pass {s y : State} {w : MarkIn} (e : Keeps State.axisMark_may (s.blocksMark w).dueContact y) : y.pass = (s.markWork w).pass := by
  have begun := (dueContact_keeps (M := blocksAfterTick_may ||| State.dueContact_may)
    ((blocksMark_after_tick s w).mono (by decide +kernel))).rd .PASS_COUNT 0 (by decide +kernel)
  have ended := (markWork_after_tick s w).rd .PASS_COUNT 0 (by decide +kernel)
  rw [State.pass, State.pass, State.rdN, State.rdN, e.rd .PASS_COUNT 0 (by decide +kernel), begun, ended]

theorem markWork_shows {s : State} (w : MarkIn) {n : Nat} (hn : n < 64) (rest : s.AtRest n) (due : s.NothingDue n) :
    (s.markWork w).rd .CMD_POS n = fdiv (s.planner n).nxt.x 65536 ∧ (s.markWork w).rd .posQ n = (s.planner n).nxt.x ∧
      (s.markWork w).rd .angleQ n = unsigned 28 ((s.markWork w).rd .posQ n + s.rd .ANGLE_ORIGIN n * 65536) ∧
      (s.markWork w).rd .ANGLE_INC n = (if s.rdN .stampInterp n = (s.markWork w).pass then s.rd .incShadow n else s.rd .ANGLE_INC n) := by
  have before := beforeAxes_keeps s w
  obtain ⟨y, turn, regs, plan, shown⟩ := axisMarks_at hn (s.blocksMark w).dueContact
  have undue := undue_at_turn ((undue_of_atRest rest due).keeps before) turn regs plan
  have planned : y.planner n = s.planner n := plan.trans (before.planner n)
  have kept (r : Reg) (hr : r ∈ axisOwn) (hb : beforeAxes_may.testBit r.ctorIdx = false) : y.rd r n = s.rd r n := (regs r hr).trans (before.rd r n hb)
  obtain ⟨lo, hi⟩ := due.room
  obtain ⟨pos, cmd, angle, inc⟩ := axisMark_shows undue (planned.symm ▸ lo) (planned.symm ▸ hi)
  obtain ⟨locked, asked⟩ := due.mode
  have after := markWork_after_axes w rest.mode locked asked
  have final (r : Reg) (hr : r ∈ axisOwn) (hb : endRunning_may.testBit r.ctorIdx = false) : (s.markWork w).rd r n = (y.axisMark n).rd r n :=
    (after.rd r n hb).trans (shown r hr)
  rw [planned, kept .ANGLE_ORIGIN (by decide) (by decide +kernel)] at angle
  rw [markWork_pass turn, State.rdN, kept .stampInterp (by decide) (by decide +kernel), kept .incShadow (by decide) (by decide +kernel),
    kept .ANGLE_INC (by decide) (by decide +kernel)] at inc
  rw [final .CMD_POS (by decide) (by decide +kernel), final .posQ (by decide) (by decide +kernel), final .angleQ (by decide) (by decide +kernel),
    final .ANGLE_INC (by decide) (by decide +kernel), pos, planned]
  exact ⟨planned ▸ cmd, rfl, angle, inc⟩

-- what the mark shows of the module

theorem traceMark_filter (s : State) : s.traceMark.rd .tfAxes 0 = s.rd .TRACE_AXES 0 := by
  unfold State.traceMark
  extract_lets s1 s2
  have taken : s2.rd .tfAxes 0 = s.rd .TRACE_AXES 0 := by simp [s2, s1, State.rd_wr]
  have traced : Keeps State.traceTime_may s2 (s2.iff (s2.pass % 20000 = 0) State.traceTime) := keeps_iff (keeps_refl _ _) (fun _ g => traceTime_keeps g)
  rw [traced.rd .tfAxes 0 (by decide +kernel), taken]

theorem seeBus_shows (s : State) (v : Nat) : Keeps (may .brakeFrom) (s.wr .BUS_VM 0 v) (s.seeBus v) :=
  keeps_iff (keeps_refl _ _) (fun _ g => keeps_forAll g (fun _ k g => keeps_iff g (fun _ g => keeps_wr g .brakeFrom k _ (by decide +kernel))))

theorem supplyMark_shows (s : State) (w : MarkIn) :
    (s.supplyMark w).rd .BUS_VM 0 = (min w.bus 65535 : Nat) ∧ (s.supplyMark w).rd .VMA_VOLTAGE 0 = (min w.vma 65535 : Nat) ∧
      (s.supplyMark w).rd .AUX_VOLTAGE 0 = (min w.aux 65535 : Nat) ∧ (s.supplyMark w).rd .LOGIC_POWER 0 = (min w.power 65535 : Nat) := by
  unfold State.supplyMark
  extract_lets put s1 s2
  have seen := seeBus_shows (s2.wr .HUB_TEMP 0 (clampInt (-2 ^ 31) (2 ^ 31 - 1) w.hubTemp)) (min w.bus 65535)
  rw [seen.rd .BUS_VM 0 (by decide +kernel), seen.rd .VMA_VOLTAGE 0 (by decide +kernel), seen.rd .AUX_VOLTAGE 0 (by decide +kernel),
    seen.rd .LOGIC_POWER 0 (by decide +kernel)]
  simp [s2, s1, put, State.rd_wr]

/-- The mask of what a mark does once the supplies have been read. -/
def afterSupply_may : Nat :=
  State.cutLate_may ||| State.closeAtMark_may ||| State.channelMark_may ||| State.calMark_may ||| State.converterMark_may ||| State.busMark_may |||
  State.emulate_may ||| State.depthMark_may ||| State.fallbackMark_may ||| State.dieMark_may ||| State.dueContact_may ||| State.axisMark_may |||
  may .enaPend ||| State.publish_may ||| State.rmsMark_may ||| State.standbyMark_may ||| State.modeAtMark_may ||| State.aliveMark_may

theorem markWork_after_supply (s : State) (w : MarkIn) : Keeps afterSupply_may (s.settleAll.tick.traceMark.supplyMark w) (s.markWork w) := by
  have read := closeAtMark_keeps (M := afterSupply_may) (cutLate_keeps (keeps_refl _ (s.settleAll.tick.traceMark.supplyMark w)))
  have fed := calMark_keeps (keeps_forAll (n := 16) read (fun _ c g => channelMark_keeps c g))
  have converted (c : Bool) := keeps_iff (c := c) fed (fun _ g => keeps_forAll (n := 16) g (fun _ c g => converterMark_keeps c g))
  have shown (c : Bool) := keeps_forAll (n := 4) (keeps_forAll (n := 8) (converted c) (fun _ k g => busMark_keeps k g))
    (fun _ k g => emulate_keeps k g)
  have blocks : Keeps afterSupply_may (s.settleAll.tick.traceMark.supplyMark w) (s.blocksMark w) :=
    keeps_forAll (n := 8) (fallbackMark_keeps (depthMark_keeps (shown _))) (fun _ k g => dieMark_keeps k g)
  have axes := keeps_wr (keeps_forAll (n := 64) (dueContact_keeps blocks) (fun _ n g => axisMark_keeps n g)) .enaPend 0 0 (by decide +kernel)
  have sent := keeps_forAll (n := 64) axes (fun _ n g => publish_keeps n g)
  exact aliveMark_keeps _ (modeAtMark_keeps (standbyMark_keeps (rmsMark_keeps sent)))

theorem markWork_supplies (s : State) (w : MarkIn) :
    (s.markWork w).rd .BUS_VM 0 = (min w.bus 65535 : Nat) ∧ (s.markWork w).rd .VMA_VOLTAGE 0 = (min w.vma 65535 : Nat) ∧
      (s.markWork w).rd .AUX_VOLTAGE 0 = (min w.aux 65535 : Nat) ∧ (s.markWork w).rd .LOGIC_POWER 0 = (min w.power 65535 : Nat) := by
  have rest := markWork_after_supply s w
  rw [rest.rd .BUS_VM 0 (by decide +kernel), rest.rd .VMA_VOLTAGE 0 (by decide +kernel), rest.rd .AUX_VOLTAGE 0 (by decide +kernel),
    rest.rd .LOGIC_POWER 0 (by decide +kernel)]
  exact supplyMark_shows _ w

theorem markWork_filter (s : State) (w : MarkIn) : (s.markWork w).rd .tfAxes 0 = s.rd .TRACE_AXES 0 := by
  have supplied := supplyMark_keeps (M := State.supplyMark_may) w (keeps_refl _ s.settleAll.tick.traceMark)
  have begun := tick_keeps (M := State.settleAll_may ||| State.tick_may) (settleAll_keeps (keeps_refl _ s))
  rw [(markWork_after_supply s w).rd .tfAxes 0 (by decide +kernel), supplied.rd .tfAxes 0 (by decide +kernel), traceMark_filter,
    begun.rd .TRACE_AXES 0 (by decide +kernel)]

theorem markWork_enaPend (s : State) (w : MarkIn) : (s.markWork w).rd .enaPend 0 = 0 := by
  let taken := ((s.blocksMark w).dueContact.forAll 64 State.axisMark).wr .enaPend 0 0
  have rest : Keeps (State.publish_may ||| State.rmsMark_may ||| State.standbyMark_may ||| State.modeAtMark_may ||| State.aliveMark_may) taken
      (s.markWork w) :=
    aliveMark_keeps _ (modeAtMark_keeps (standbyMark_keeps (rmsMark_keeps (keeps_forAll (n := 64) (keeps_refl _ taken) (fun _ n g => publish_keeps n g)))))
  rw [rest.rd .enaPend 0 (by decide +kernel)]
  exact State.rd_wr_same ..

end Sys2Proof.Machine
end

section
/-! PROOFS. A stale increment contains its axis (R14), and the pass mark with it (O33). -/
namespace Sys2Proof.Machine

set_option Elab.async false

-- a present cause through the stop of an axis

/-- Cause `c` of block `b` is present. -/
structure State.HasCause (b c : Nat) (s : State) : Prop where
  present : s.bit .CAUSES_PRESENT b c = true

namespace State.HasCause

variable {b c n : Nat} {s t : State} (h : HasCause b c s)
include h

theorem keeps {m : Nat} (e : Keeps m s t) (hm : m.testBit Reg.CAUSES_PRESENT.ctorIdx = false := by decide +kernel) : HasCause b c t :=
  ⟨(State.bit_congr (e.rd _ _ hm) c).trans h.present⟩

theorem ite {p : Prop} {_ : Decidable p} (g : HasCause b c t) : HasCause b c (if p then s else t) := by
  split <;> assumption

theorem thenIf {p : Prop} {_ : Decidable p} (g : HasCause b c s → HasCause b c t) : HasCause b c (if p then t else s) := (g h).ite h

theorem wr (r : Reg) (i : Nat) (v : Int) (hr : Reg.CAUSES_PRESENT ≠ r := by decide) : HasCause b c (s.wr r i v) :=
  ⟨(State.bit_congr (State.rd_wr_ne _ _ _ _ hr) c).trans h.present⟩

/-- A detection ends no cause. -/
theorem detect (a k data : Nat) (opens : Bool) : HasCause b c (s.detect a k data opens) :=
  ⟨by rw [detect_present, h.present, ite_self]⟩

theorem exerciseEnd (r : Nat) : HasCause b c (s.exerciseEnd n r) := by
  unfold State.exerciseEnd
  extract_lets s1 s2 s3
  have merged : HasCause b c s1 := h.keeps (mergePend_keeps (M := State.mergePend_may) n (keeps_refl _ s))
  have counted : HasCause b c s2 := ((merged.wr .EX_RESULT n _).wr .EX_TIME n _).keeps
    (count_keeps (M := may .EX_COUNT ||| State.count_may) .EX_COUNT n 1 32 (keeps_refl _ _))
  have shown : HasCause b c s3 := counted.keeps (event_keeps (M := may .EX_FAILS ||| State.count_may ||| State.event_may) n 10
    (keeps_iff (keeps_refl _ _) (fun _ g => count_keeps .EX_FAILS n 1 32 g)))
  exact shown.detect _ _ _ _

theorem homeResult (m r : Nat) : HasCause b c (s.homeResult n m r) := by
  unfold State.homeResult
  extract_lets s1 s2
  have begun : HasCause b c s1 := (h.wr .hmPhase n 0).wr .hmFoundAt n 0
  have shown : HasCause b c s2 := (begun.wr .HOME_RESULT n r).keeps (event_keeps (M := State.event_may) n 6 (keeps_refl _ _))
  exact (begun.exerciseEnd r).ite ((shown.wr .brPersist n _).ite (shown.detect _ _ _ _))

theorem dropHome : HasCause b c (s.dropHome n) := by
  unfold State.dropHome
  split
  · next m _ => exact thenIf h (fun g => homeResult (g.keeps (dropAssign_keeps (M := State.dropAssign_may) n (keeps_refl _ s))) _ _)
  · exact h

theorem abandon : HasCause b c (s.abandon n) := by
  have home : HasCause b c ((s.dropCall n).dropHome n) := dropHome (h.keeps (dropCall_keeps (M := State.dropCall_may) n (keeps_refl _ s)))
  exact home.keeps (dropRelease_keeps (M := State.completeRec_may ||| State.dropRelease_may) n (completeRec_keeps n (keeps_refl _ _)))

theorem dropFin : HasCause b c (s.dropFin n) := by
  have done : HasCause b c (s.finRec n) := h.keeps (finRec_keeps (M := State.finRec_may) n (keeps_refl _ s))
  exact ((done.thenIf (fun g => g.homeResult _ _)).wr .finHome n 0).wr .finPend n 0

theorem stopAxis (v : Int) : HasCause b c (s.stopAxis n v) := by
  unfold State.stopAxis
  extract_lets s1 s2
  have left : HasCause b c s1 := h.thenIf (fun g => g.abandon)
  have freed : HasCause b c (s2.dropFin n) := dropFin (((left.wr .FOLLOW_STATE n 0).wr .followPend n 0).wr .discPend n 0)
  have halted : HasCause b c ((s2.dropFin n).halt n) := freed.keeps (halt_keeps (M := State.halt_may) n (keeps_refl _ _))
  exact ((halted.wr .stopPend n 0).wr .tgtPend n 0).keeps (setAxis_keeps (M := State.setAxis_may) n v (keeps_refl _ _))

end State.HasCause

-- the containment

theorem setAxis_state (s : State) (n : Nat) (v : Int) : (s.setAxis n v).rd .AXIS_STATE n = v := by
  unfold State.setAxis
  split
  · assumption
  · have traced := traceAxis_keeps (M := State.traceAxis_may) n 31 (keeps_refl _ (s.wr .AXIS_STATE n v))
    rw [traced.rd .AXIS_STATE n (by decide +kernel), State.rd_wr_same]

theorem stopAxis_state (s : State) (n : Nat) (v : Int) : (s.stopAxis n v).rd .AXIS_STATE n = v := setAxis_state _ n v

theorem event_sets (s : State) (n b : Nat) : (s.event n b).bit .AXIS_EVENTS n b = true := by
  have traced := traceAxis_keeps (M := State.traceAxis_may) n b (keeps_refl _ (s.raise .AXIS_EVENTS n (2 ^ b)))
  rw [State.event, State.bit_congr (traced.rd .AXIS_EVENTS n (by decide +kernel)), State.bit_raise]
  simp

/-- The state of an axis whose motion has been stopped for a containment, before its drive state follows. -/
def State.containedMotion (s : State) (n : Nat) : State :=
  (((((s.stopAxis n 6).event n 7).wr .contPend n 0).wr .drivePend n 0).wr .disPend n 0).wr .rearmPend n 0

/-- What a containment with HELD does to the drive of a chopping axis (R143). -/
def State.holdDrive (s : State) (n : Nat) : State :=
  if s.driveOf n = 1 then ((s.setDrive n 2).wr .ampShadow n (s.rd .AMPLITUDE n)).wr .ampSrcShadow n (s.rd .AMP_SOURCE n) else s

theorem contain_held {s : State} {n : Nat} (h : s.rd .AXIS_STATE n ≠ 6) : s.contain n false = (s.containedMotion n).holdDrive n := by
  have left : s.contain n false =
      (((((s.stopAxis n 6).iff (s.rd .AXIS_STATE n ≠ 6) (fun s => s.event n 7)).wr .contPend n 0).wr .drivePend n 0).wr .disPend n 0 |>.wr .rearmPend n 0
        |>.holdDrive n) := rfl
  rw [left, decide_eq_true h]
  rfl

/-- What the stop of a containment may change. -/
def containedMotion_may : Nat :=
  State.stopAxis_may ||| State.event_may ||| may .contPend ||| may .drivePend ||| may .disPend ||| may .rearmPend

theorem containedMotion_keeps (s : State) (n : Nat) : Keeps containedMotion_may s (s.containedMotion n) := by
  have stopped := event_keeps n 7 (stopAxis_keeps (M := containedMotion_may) n 6 (keeps_refl _ s))
  have first := keeps_wr (keeps_wr stopped .contPend n 0 (by decide +kernel)) .drivePend n 0 (by decide +kernel)
  exact keeps_wr (keeps_wr first .disPend n 0 (by decide +kernel)) .rearmPend n 0 (by decide +kernel)

/-- The stop of a containment: the axis is CONTAINED, its event is set, and no cause ends. -/
theorem containedMotion_shows (s : State) (n : Nat) :
    (s.containedMotion n).rd .AXIS_STATE n = 6 ∧ (s.containedMotion n).bit .AXIS_EVENTS n 7 = true ∧
      ∀ b c, s.bit .CAUSES_PRESENT b c = true → (s.containedMotion n).bit .CAUSES_PRESENT b c = true := by
  have event := event_keeps (M := State.event_may) n 7 (keeps_refl _ (s.stopAxis n 6))
  have rest : Keeps (mayRegs [.contPend, .drivePend, .disPend, .rearmPend]) ((s.stopAxis n 6).event n 7) (s.containedMotion n) := by
    have first := keeps_wr (keeps_wr (keeps_refl (mayRegs [.contPend, .drivePend, .disPend, .rearmPend]) ((s.stopAxis n 6).event n 7)) .contPend n 0
      (by decide +kernel)) .drivePend n 0 (by decide +kernel)
    exact keeps_wr (keeps_wr first .disPend n 0 (by decide +kernel)) .rearmPend n 0 (by decide +kernel)
  refine ⟨?_, ?_, fun b c h => ?_⟩
  · rw [rest.rd .AXIS_STATE n (by decide +kernel), event.rd .AXIS_STATE n (by decide +kernel), stopAxis_state]
  · rw [State.bit_congr (rest.rd .AXIS_EVENTS n (by decide +kernel)), event_sets]
  · have stopped : State.HasCause b c (s.stopAxis n 6) := State.HasCause.stopAxis ⟨h⟩ 6
    exact ((stopped.keeps event).keeps rest).present

/-- What a containment with HELD may change of the drive. -/
def holdDrive_may : Nat := State.setDrive_may ||| may .ampShadow ||| may .ampSrcShadow

theorem holdDrive_keeps (s : State) (n : Nat) : Keeps holdDrive_may s (s.holdDrive n) := by
  have held := keeps_wr (setDrive_keeps (M := holdDrive_may) n 2 (keeps_refl _ s)) .ampShadow n (s.rd .AMPLITUDE n) (by decide +kernel)
  exact keeps_ite (keeps_wr held .ampSrcShadow n _ (by decide +kernel)) (keeps_refl _ s)

theorem holdDrive_holds {s : State} {n : Nat} (h : s.rd .DRIVE_STATE n = 1) : (s.holdDrive n).rd .DRIVE_STATE n = 2 := by
  have chopping : s.driveOf n = 1 := by simp [State.driveOf, State.rdN, h]
  simp [State.holdDrive, chopping, State.setDrive, h, State.iff, State.rd_wr]

theorem persists_axis (n : Nat) : persists (blkAxis n) 6 = true := by simp [persists, blkAxis]

/-- The axis as STALE_INCREMENT finds it, with its increment gone and the cause noted (R14). -/
def State.staleFound (s : State) (n : Nat) : State :=
  let s := (s.wr .ANGLE_INC n 0).wr .incMissed n 0
  let s := s.wrPlanner n { s.planner n with nxt := ⟨s.rd .posQ n, 0, 0, 0, 0⟩ }
  s.detect (blkAxis n) 6 (dataOf [(6, unsigned 48 (s.rd .CMD_POS n))])

theorem exec_staleIncrement {s : State} {n : Fin 64} (hm : s.atMark = true) (missed : 3 ≤ s.rd .incMissed n)
    (moving : s.rd .AXIS_STATE n = 2 ∨ s.rd .AXIS_STATE n = 3 ∨ s.rd .AXIS_STATE n = 4) :
    exec (.staleIncrement n) s = .next ((s.staleFound n).contain n false) := by
  have moves : [2, 3, 4].contains (s.rdN .AXIS_STATE n) = true := by rcases moving with e | e | e <;> simp [State.rdN, e]
  exact congrArg Host.Outcome.next (if_pos (by rw [hm, decide_eq_true missed, moves]; rfl))

/-- What is noted of a stale increment before the axis is contained. -/
theorem staleFound_shows (s : State) (n : Nat) :
    (s.staleFound n).rd .ANGLE_INC n = 0 ∧ (s.staleFound n).rd .incMissed n = 0 ∧ (s.staleFound n).rd .AXIS_STATE n = s.rd .AXIS_STATE n ∧
      (s.staleFound n).rd .DRIVE_STATE n = s.rd .DRIVE_STATE n ∧ (s.staleFound n).bit .CAUSES_PRESENT (blkAxis n) 6 = true := by
  unfold State.staleFound
  extract_lets s1 p s2
  have kept (r : Reg) (hr : State.detect_may.testBit r.ctorIdx = false) :=
    detect_rd s2 (blkAxis n) 6 (dataOf [(6, unsigned 48 (s2.rd .CMD_POS n))]) false r n hr
  rw [kept .ANGLE_INC (by decide +kernel), kept .incMissed (by decide +kernel), kept .AXIS_STATE (by decide +kernel),
    kept .DRIVE_STATE (by decide +kernel), detect_present, if_pos ⟨⟨rfl, rfl⟩, persists_axis n⟩]
  simp [s2, s1, State.rd_wrPlanner, State.rd_wr]

theorem staleIncrement_contains {s : State} {n : Nat} (moving : s.rd .AXIS_STATE n ≠ 6) :
    let u := (s.staleFound n).contain n false
    u.rd .ANGLE_INC n = 0 ∧ u.rd .AXIS_STATE n = 6 ∧ u.rd .incMissed n = 0 ∧ u.bit .CAUSES_PRESENT (blkAxis n) 6 = true ∧
      u.bit .AXIS_EVENTS n 7 = true ∧ (s.rd .DRIVE_STATE n = 1 → u.rd .DRIVE_STATE n = 2) := by
  intro u
  obtain ⟨inc, missed, axis, drive, cause⟩ := staleFound_shows s n
  obtain ⟨contained, event, causes⟩ := containedMotion_shows (s.staleFound n) n
  have stop := containedMotion_keeps (s.staleFound n) n
  have hold := holdDrive_keeps ((s.staleFound n).containedMotion n) n
  have e : u = ((s.staleFound n).containedMotion n).holdDrive n := contain_held (by rwa [axis])
  rw [e]
  refine ⟨?_, ?_, ?_, ?_, ?_, fun on => holdDrive_holds ?_⟩
  · rw [hold.rd .ANGLE_INC n (by decide +kernel), stop.rd .ANGLE_INC n (by decide +kernel), inc]
  · rw [hold.rd .AXIS_STATE n (by decide +kernel), contained]
  · rw [hold.rd .incMissed n (by decide +kernel), stop.rd .incMissed n (by decide +kernel), missed]
  · rw [State.bit_congr (hold.rd .CAUSES_PRESENT (blkAxis n) (by decide +kernel)), causes _ _ cause]
  · rw [State.bit_congr (hold.rd .AXIS_EVENTS n (by decide +kernel)), event]
  · rw [stop.rd .DRIVE_STATE n (by decide +kernel), drive, on]

/-- Settles O33: the registers of a mark are read through the masks of what follows the step that writes them, an axis at rest comes to its mark as
the mark before left it, and a stale increment is a containment of the state in which its cause is noted. -/
theorem passMarkAndStaleIncrement : Obligations.PassMarkAndStaleIncrement := by
  unfold Obligations.PassMarkAndStaleIncrement
  refine ⟨fun w s hl hm => ?mark, fun n s hm missed moving => ?stale⟩
  case mark =>
    obtain ⟨count, mark, time⟩ := markWork_time s w
    obtain ⟨bus, vma, aux, power⟩ := markWork_supplies s w
    exact ⟨_, exec_passMark w hl hm, count, mark, time, bus, vma, aux, power, markWork_filter s w, markWork_enaPend s w,
      fun canonical q hq => markWork_notes w canonical hq, fun n rest due => markWork_shows w n.isLt rest due⟩
  case stale =>
    have standing : s.rd .AXIS_STATE n ≠ 6 := by rcases moving with e | e | e <;> rw [e] <;> decide
    exact ⟨_, exec_staleIncrement hm missed moving, staleIncrement_contains standing⟩

end Sys2Proof.Machine
end

section
/-! PROOFS. What flash holds (O46) and the state after reset (O2). `State.FlashHoldsSets` speaks of flash alone, so that the mask of a row that
leaves flash alone settles it; a request reaches flash only through its operation (`transact_cases`). -/
namespace Sys2Proof.Machine

set_option Elab.async false

/-- Every mask but that of flash. -/
def noFlash : Nat := 2 ^ 2036 - 1 - may_flash

/-- What the transaction of `h` does with the answer of its operation. -/
def State.answered (h : Hdr) (op idx sub : Nat) : State × Answer → State
  | (s, .done code bytes) => s.complete' h op idx sub code bytes
  | (s, .later) => { s with deferred := s.deferred ++ [⟨h, op, idx, sub⟩] }

theorem answered_keeps (h : Hdr) (op idx sub : Nat) (r : State × Answer) : Keeps State.transact_may r.1 (State.answered h op idx sub r) := by
  obtain ⟨s, _ | _⟩ := r
  · exact complete'_keeps h op idx sub _ _ (keeps_refl _ s)
  · exact keeps_deferred (keeps_refl _ s) (by decide +kernel)

/-- A request either never comes to its operation, or the operation runs on a state that differs in what a transaction may change, and the
transaction ends with its answer (R293–R295). -/
theorem transact_cases (s : State) (h : Hdr) (op idx sub : Nat) (data : List Byte) (f : State → State × Answer) :
    (∀ g, s.transact h op idx sub data f = s.transact h op idx sub data g) ∨
      ∃ x, Keeps State.transact_may s x ∧ s.transact h op idx sub data f = State.answered h op idx sub (f x) := by
  have took : Keeps State.transact_may s (s.received h) := (received_keeps s h).mono (by decide +kernel)
  have busy := wrTag_keeps h.tag ⟨some ((s.received h).digest h op idx sub data), true, none⟩
    (tally_keeps 224 1 (count_keeps .REQUESTS 0 1 64 took))
  unfold State.transact
  dsimp only
  rw [show (s.takeUp h).iff (isHead h.src && (s.takeUp h).mode ≠ 0) State.contact = s.received h from rfl]
  generalize (((s.received h).count .REQUESTS 0 1 64).tally 224).wrTag _ _ = y at busy ⊢
  generalize s.received h = x
  split
  · exact .inl fun _ => rfl
  split
  · exact .inl fun _ => rfl
  split
  · exact .inl fun _ => rfl
  iterate 4
    split
    · exact .inl fun _ => rfl
  exact .inr ⟨y, busy, rfl⟩

-- what flash holds

/-- Committed values of RWC objects alone, and calibration pairs alone (R31, R206). -/
def FlashSet.HoldsSets (x : FlashSet) : Prop :=
  (∀ q ∈ x.config, ((keyReg q.1).1.obj).any (fun o => decide (o.acc = .rwc)) = true) ∧
    (∀ q ∈ x.cal, (keyReg q.1).1 ∈ [Reg.CAL_OFS, .CAL_GAIN_FACTOR, .calHas])

theorem mem_of_mem_tset {α : Type} [DecidableEq α] {d : α} {l : Tbl α} {k : Nat} {v : α} {p : Nat × α} (h : p ∈ tset d l k v) :
    p = (k, v) ∨ p ∈ l := by
  unfold tset at h
  split at h
  · exact .inr (List.mem_filter.mp h).1
  · exact (mem_tins h).imp_right fun g => (List.mem_filter.mp g).1

theorem tget_mem {α : Type} (d : α) (l : Tbl α) (k : Nat) : tget d l k = d ∨ ∃ p ∈ l, tget d l k = p.2 := by
  induction l with
  | nil => exact .inl rfl
  | cons p l ih =>
    unfold tget
    split
    · exact .inr ⟨p, List.mem_cons_self, rfl⟩
    · exact ih.imp_right fun ⟨q, hq, e⟩ => ⟨q, List.mem_cons_of_mem _ hq, e⟩

section
variable {s t : State} (h : s.FlashHoldsSets)
include h

theorem State.FlashHoldsSets.same (e : t.flash = s.flash) : t.FlashHoldsSets := by
  unfold State.FlashHoldsSets
  rw [e]
  exact h

/-- What leaves flash alone leaves it with what it holds. -/
theorem State.FlashHoldsSets.keeps {m : Nat} (k : Keeps m s t) (hm : m.testBit 2025 = false := by decide +kernel) : t.FlashHoldsSets :=
  h.same (k.flash hm)

theorem State.FlashHoldsSets.flashOf (b : Nat) : (s.flashOf b).HoldsSets := by
  obtain e | ⟨p, hp, e⟩ := tget_mem FlashSet.blank s.flash b
  · rw [State.flashOf, e]
    exact ⟨fun _ hq => absurd hq List.not_mem_nil, fun _ hq => absurd hq List.not_mem_nil⟩
  · rw [State.flashOf, e]
    exact h p hp

theorem State.FlashHoldsSets.wrFlash (b : Nat) {x : FlashSet} (hx : x.HoldsSets) : (s.wrFlash b x).FlashHoldsSets := fun p hp => by
  obtain rfl | hp := mem_of_mem_tset hp
  · exact hx
  · exact h p hp

theorem State.FlashHoldsSets.flashWarn : s.flashWarn.FlashHoldsSets := h.keeps (flashWarn_keeps (M := State.flashWarn_may) (keeps_refl _ s))

/-- Each bank of a list written in turn. -/
theorem State.FlashHoldsSets.wrBanks {f : FlashSet → FlashSet} (hf : ∀ x, x.HoldsSets → (f x).HoldsSets) (l : List Nat) :
    (s.forList l (fun s b => s.wrFlash b (f (s.flashOf b)))).FlashHoldsSets := by
  induction l generalizing s with
  | nil => exact h
  | cons b l ih => exact ih (h.wrFlash b (hf _ (h.flashOf b)))

theorem State.FlashHoldsSets.flashConfig {cfg : Tbl Int} (hc : ∀ q ∈ cfg, ((keyReg q.1).1.obj).any (fun o => decide (o.acc = .rwc)) = true)
    (e : s.flashConfig cfg = some t) : t.FlashHoldsSets := by
  unfold State.flashConfig at e
  dsimp only at e
  split at e
  · cases e
  · next b _ _ =>
    cases e
    have written := h.wrFlash b (x := { s.flashOf b with valid := true, config := cfg }) ⟨hc, (h.flashOf b).2⟩
    exact (written.same (t := State.wr _ .flashCur 0 b) rfl).flashWarn

theorem State.FlashHoldsSets.flashLockout (v : Bool) : (s.flashLockout v).FlashHoldsSets :=
  (h.wrBanks (f := fun x => { x with lockout := v }) (fun _ hx => hx) s.goodBanks).flashWarn.same rfl

end

/-- A committed set lists RWC objects alone (R31). -/
theorem committed_rwc (s : State) : ∀ q ∈ s.committed, ((keyReg q.1).1.obj).any (fun o => decide (o.acc = .rwc)) = true := fun _ hq =>
  (List.mem_filter.mp hq).2

-- the operations that write flash

/-- Every pair marked as a stored one. -/
def State.calMarked (s : State) : State := s.forAll 64 (fun s i => s.wr .calHas i 1)

theorem calMarked_keeps (s : State) : Keeps (may .calHas) s s.calMarked := by
  unfold State.calMarked
  exact keeps_forAll (keeps_refl _ s) fun _ _ g => keeps_wr g _ _ _ may_self

/-- The calibration in force, as flash takes it. -/
def State.calPairs (s : State) : Tbl Int :=
  s.regs.filter (fun (p : Nat × Int) =>
    decide ((keyReg p.1).1 = .CAL_OFS ∨ (keyReg p.1).1 = .CAL_GAIN_FACTOR ∨ (keyReg p.1).1 = .calHas))

/-- The calibration in force written to the banks that accept it. -/
def State.saveCal (s : State) : State :=
  (s.forList s.goodBanks (fun x b => x.wrFlash b { x.flashOf b with cal := s.calPairs })).flashWarn

/-- CAL_STORE marks every pair as a stored one and saves them all (R206). -/
theorem calStore_eq (s : State) : s.calStore = s.calMarked.saveCal := rfl

theorem calPairs_regs (s : State) : ∀ q ∈ s.calPairs, (keyReg q.1).1 ∈ [Reg.CAL_OFS, .CAL_GAIN_FACTOR, .calHas] := fun q hq => by
  simpa using (List.mem_filter.mp hq).2

section
variable {s t : State} (h : s.FlashHoldsSets)
include h

theorem saveSet_holdsSets : s.saveSet.FlashHoldsSets := by
  unfold State.saveSet
  split
  · next e => exact h.flashConfig (committed_rwc s) e
  · exact h

/-- A swap writes the committed set of its candidate (R233). -/
theorem trySwap_holdsSets {v : Nat} {x : NewSet} (e : s.trySwap v = .inr (t, x)) : t.FlashHoldsSets := by
  unfold State.trySwap at e
  dsimp only at e
  split at e
  · cases e
  · split at e
    · cases e
    · split at e
      · cases e
      · split at e
        · cases e
        · next e' =>
          cases e
          exact h.flashConfig (committed_rwc _) e'

theorem saveCal_holdsSets : s.saveCal.FlashHoldsSets :=
  (h.wrBanks (f := fun x => { x with cal := s.calPairs }) (fun _ hx => ⟨hx.1, calPairs_regs s⟩) s.goodBanks).flashWarn

theorem calStore_holdsSets : s.calStore.FlashHoldsSets := by
  rw [calStore_eq]
  exact saveCal_holdsSets (h.keeps (calMarked_keeps s))

theorem askMode_holdsSets (v : Nat) : (s.askMode v).1.FlashHoldsSets := by
  unfold State.askMode
  split
  · exact h
  · split
    · have posted : (s.detect s.blkSteward 3).FlashHoldsSets := h.keeps (detect_keeps (M := State.detect_may) _ _ _ _ (keeps_refl _ s))
      unfold State.iff
      dsimp only
      split
      · exact posted.same rfl
      · exact posted
    · exact (h.flashLockout true).same rfl
    · exact h.same rfl

theorem askClear_holdsSets : s.askClear.FlashHoldsSets := by
  unfold State.askClear
  split
  · exact h
  · have cleared : ((s.flashLockout false).detect s.blkSteward 0x20).FlashHoldsSets :=
      (h.flashLockout false).keeps (detect_keeps (M := State.detect_may) _ _ _ _ (keeps_refl _ _))
    exact cleared.same rfl

theorem tripLimit_holdsSets : s.tripLimit.FlashHoldsSets := by
  unfold State.tripLimit
  split
  · exact (h.flashLockout true).same rfl
  · exact h

theorem toReset_holdsSets : s.toReset.FlashHoldsSets := by
  have cut : s.interruptClose.FlashHoldsSets := h.keeps (interruptClose_keeps (M := State.interruptClose_may) (keeps_refl _ s))
  exact cut.same rfl

end

-- host writes

theorem transact_holdsSets {s : State} (h : s.FlashHoldsSets) (hd : Hdr) (op idx sub : Nat) (data : List Byte) {f : State → State × Answer}
    (hf : ∀ x : State, x.FlashHoldsSets → (f x).1.FlashHoldsSets) : (s.transact hd op idx sub data f).FlashHoldsSets := by
  obtain e | ⟨x, k, e⟩ := transact_cases s hd op idx sub data f
  · rw [e fun x => (x, .later)]
    exact h.keeps (transact_keeps (M := State.transact_may) hd op idx sub data _ (keeps_refl _ s) may_self fun _ g => g)
  · rw [e]
    exact (hf x (h.keeps k)).keeps (answered_keeps hd op idx sub (f x))

theorem State.FlashHoldsSets.ite {c : Prop} [Decidable c] {a b : State} (ha : a.FlashHoldsSets) (hb : b.FlashHoldsSets) :
    (if c then a else b).FlashHoldsSets := by
  split <;> assumption

theorem State.FlashHoldsSets.ite1 {α : Type} {c : Prop} [Decidable c] {a b : State × α} (ha : a.1.FlashHoldsSets) (hb : b.1.FlashHoldsSets) :
    (if c then a else b).1.FlashHoldsSets := by
  split <;> assumption

/-- The same of a pair that is written out. -/
theorem State.FlashHoldsSets.orElse {α : Type} {c : Prop} [Decidable c] {a : State} {x : α} {b : State × α} (ha : a.FlashHoldsSets)
    (hb : b.1.FlashHoldsSets) : (if c then (a, x) else b).1.FlashHoldsSets := .ite1 ha hb

section
variable {s : State} (h : s.FlashHoldsSets)
include h

/-- Of the objects only CAL_STORE, MODE_REQUEST and LOCKOUT_CLEAR write flash; the others in their order in `applyWrite`. -/
theorem applyWrite_holdsSets (o : Obj) (i : Nat) (bs : List Byte) : (s.applyWrite o i bs).1.FlashHoldsSets := by
  have same := keeps_refl noFlash s
  have any (r : Reg) : may r &&& noFlash = may r := may_trans (by decide +kernel) (may_reg r)
  unfold State.applyWrite
  dsimp only
  have other {x : State} (k : Keeps noFlash s x) : x.FlashHoldsSets := h.keeps k
  refine .orElse (h.same rfl) ?_
  refine .orElse (other (clearBits_keeps _ _ _ same (by decide +kernel) (any _))) ?_
  refine .orElse (h.same rfl) ?_
  refine .orElse (other (releaseHead_keeps (keeps_wr same _ _ _ (any _)))) ?_
  refine .orElse (other (limitWrite_keeps _ _ _ _ same)) ?_
  refine .orElse (other (limitWrite_keeps _ _ _ _ same)) ?_
  refine .orElse (other (limitWrite_keeps _ _ _ _ same)) ?_
  refine .orElse (other (limitWrite_keeps _ _ _ _ same)) ?_
  refine .orElse (h.same rfl) ?_
  refine .orElse (h.same rfl) ?_
  refine .orElse (h.same rfl) ?_
  refine .orElse (other (pushMoves_keeps _ _ same)) ?_
  refine .orElse (other (askFlush_keeps _ same)) ?_
  refine .orElse (other (followWrite_keeps _ _ same)) ?_
  refine .orElse (other (keeps_wr (keeps_iff same fun _ g => keeps_wr g _ _ _ (any _)) _ _ _ (any _))) ?_
  refine .orElse (h.same rfl) ?_
  refine .orElse (.ite (other (learnAsk_keeps _ same)) (.ite h (other (learnEnd_keeps _ _ same)))) ?_
  refine .orElse (.ite (h.same rfl) h) ?_
  refine .orElse (.ite (other (askDrive_keeps _ same)) (other (askDisable_keeps _ same))) ?_
  refine .orElse (.ite (h.same rfl) h) ?_
  refine .orElse (other (queueDiag_keeps _ same)) ?_
  refine .orElse (other (keeps_forAll same fun _ _ g => queueDiag_keeps _ g)) ?_
  refine .orElse (other (directWrite_keeps _ _ same)) ?_
  refine .orElse (h.same rfl) ?_
  refine .orElse (h.same rfl) ?_
  refine .orElse (other (checkSync_keeps (armLatch_keeps _ (keeps_wr same _ _ _ (any _))))) ?_
  refine .orElse (other (latchTime_keeps _ (keeps_wr same _ _ _ (any _)))) ?_
  refine .orElse (other (interlock_keeps _ (keeps_wr same _ _ _ (any _)))) ?_
  refine .orElse (h.same rfl) ?_
  refine .orElse (other (askUrgent_keeps _ _ same)) ?_
  refine .orElse (other (startSelfCheck_keeps _ same)) ?_
  refine .orElse (.ite (other (calCompute_keeps same)) (other (startPoint_keeps _ same))) ?_
  refine .orElse (calStore_holdsSets h) ?_
  refine .orElse (other (keeps_iff (keeps_wr same _ _ _ (any _)) fun _ g => traceTime_keeps g)) ?_
  refine .orElse (other (keeps_forAll same fun _ _ g => keeps_wr g _ _ _ (any _))) ?_
  refine .orElse (other (releaseQueue_keeps _ same)) ?_
  refine .orElse (other (mailPush_keeps _ _ same)) ?_
  refine .orElse (other (captureFetch_keeps _ same)) ?_
  refine .orElse (other (injectArm_keeps same)) ?_
  refine .orElse (other (imageSelect_keeps _ same)) ?_
  refine .orElse (other (takeChunk_keeps _ same)) ?_
  refine .orElse (other (imageClose_keeps _ same)) ?_
  refine .orElse (other (imageErase_keeps _ same)) ?_
  refine .orElse (other (swapStart_keeps _ same)) ?_
  refine .ite1 (other (engineClear_keeps _ same)) ?_
  refine .ite1 (askMode_holdsSets h _) ?_
  refine .orElse (h.same rfl) ?_
  refine .orElse (askClear_holdsSets h) ?_
  exact h.same rfl

end

-- requests

section
variable {s : State} (h : s.FlashHoldsSets)
include h

theorem writeOne_holdsSets (idx sub : Nat) (bs : List Byte) : (s.writeOne idx sub bs).1.FlashHoldsSets := by
  unfold State.writeOne
  split
  · next o i _ _ =>
    have written := applyWrite_holdsSets h o i bs
    split <;> next e => rwa [e] at written
  · exact h.keeps (noteFull_keeps (M := State.noteFull_may) _ _ _ (keeps_refl _ s))
  · exact h

/-- A block returns to the state before it where a value of it is refused. -/
theorem writeAll_holdsSets {s0 : State} (h0 : s0.FlashHoldsSets) (idx : Nat) (l : List (Nat × List Byte)) :
    (s0.writeAll idx l s).1.FlashHoldsSets := by
  induction l generalizing s with
  | nil => exact h
  | cons p l ih =>
    have written := writeOne_holdsSets h idx p.1 p.2
    unfold State.writeAll
    split
    · next e =>
      rw [e] at written
      exact ih written
    · next e =>
      rw [e] at written
      have rest := ih written
      split
      · next e' => rwa [e'] at rest
      · exact rest
    · split
      · exact h0.keeps (noteFull_keeps (M := State.noteFull_may) _ _ _ (keeps_refl _ s0))
      · exact h0

theorem writeMany_holdsSets (idx sub : Nat) (bs : List Byte) : (s.writeMany idx sub bs).1.FlashHoldsSets := .orElse h (writeAll_holdsSets h h _ _)

theorem hostWrite_holdsSets (hd : Hdr) (idx sub : Nat) (bs : List Byte) : (s.hostWrite hd idx sub bs).FlashHoldsSets :=
  transact_holdsSets h hd _ _ _ _ fun _ g => writeOne_holdsSets g idx sub bs

theorem hostWriteBlock_holdsSets (hd : Hdr) (idx sub : Nat) (bs : List Byte) : (s.hostWriteBlock hd idx sub bs).FlashHoldsSets :=
  transact_holdsSets h hd _ _ _ _ fun _ g => writeMany_holdsSets g idx sub bs

theorem request_holdsSets (hd : Hdr) (f : Frame) : (s.request hd f).FlashHoldsSets := by
  have same := keeps_refl noFlash s
  have wrong (op idx sub : Nat) : (s.transact hd op idx sub f.data (fun s => (s.refuse op 0x06, .done 0x06 []))).FlashHoldsSets :=
    h.keeps (transact_keeps hd op idx sub f.data _ same (by decide +kernel) fun _ g => refuse_keeps _ _ g)
  unfold State.request
  split
  · exact .ite (h.keeps (hostRead_keeps hd _ _ same)) (wrong _ _ _)
  · exact hostWrite_holdsSets h hd _ _ _
  · split
    · exact h.keeps (hostReadBlock_keeps hd _ _ _ same)
    · exact wrong _ _ _
  · exact hostWriteBlock_holdsSets h hd _ _ _
  · exact .ite (h.keeps (transact_keeps hd _ _ _ _ _ same (by decide +kernel) fun _ g => commit_keeps g)) (wrong _ _ _)
  · exact h

theorem deliverFrame_holdsSets (p : Fin 3) (f : Frame) (ok : Bool) : (s.deliverFrame p f ok).FlashHoldsSets := by
  have passed := h.keeps (through_keeps (M := State.through_may) 67 f (keeps_refl _ s))
  unfold State.deliverFrame
  split
  · next e => rwa [e] at passed
  · next t e =>
    rw [e] at passed
    have noted := passed.keeps (traceFrame_keeps (M := State.traceFrame_may) p 1 f.src f (!ok) (keeps_refl _ t))
    dsimp only
    generalize t.traceFrame p 1 f.src f (!ok) = x at noted ⊢
    have met := noted.keeps (keeps_iff (m := State.contact_may) (c := f.kind = 0 && isHead f.src) (keeps_refl _ x) fun _ g => contact_keeps g)
    refine .ite noted (.ite ?_ (.ite (request_holdsSets met _ _) met))
    exact met.keeps (count_keeps (M := may .NO_REPLY ||| State.count_may) _ _ _ _ (keeps_refl _ _))

/-- Of what a ring port does with a frame only its delivery may write flash. -/
theorem gorge_holdsSets (port : Fin 2) (f : Frame) (ok : Bool) (hop : Nat) : (s.gorge port f ok hop).FlashHoldsSets := by
  have received := h.keeps (receive_keeps (M := State.receive_may) port f ok (keeps_refl _ s))
  unfold State.gorge
  refine .ite h ?_
  split
  · next e => rwa [e] at received
  · next t e =>
    rw [e] at received
    exact received.keeps (forward_keeps (M := noFlash) _ _ _ _ (keeps_refl _ t))
  · next t e =>
    rw [e] at received
    have same := keeps_refl noFlash t
    refine .ite (received.keeps (discardFrame_keeps _ _ _ same)) (.ite (deliverFrame_holdsSets received _ _ _)
      (.ite (received.keeps (toHead_keeps _ _ _ same)) ?_))
    have swept := keeps_ite1 (c := port.val = 0) (b := (t, f)) (sweepPass_keeps f true same) same
    exact received.keeps (forward_keeps _ _ _ _ (takeNote_keeps _ _ _ swept))

end

-- every command

section
variable {s : State} (h : s.FlashHoldsSets)
include h

theorem commitTakesEffect_holdsSets (u : State) (e : execCommitTakesEffect s = .next u) : u.FlashHoldsSets := by
  cases e
  split
  · next x _ =>
    refine .ite ?_ h
    have adopted : { s.adopt x with staged := [] }.FlashHoldsSets :=
      (h.keeps (adopt_keeps (M := State.adopt_may) x (keeps_refl _ s))).same rfl
    have same := keeps_refl noFlash { s.adopt x with staged := [] }.saveSet
    exact (saveSet_holdsSets adopted).keeps
      (finish_keeps _ _ _ (report_keeps _ (cfg_keeps _ (keeps_wr same _ _ _ (by decide +kernel)))))
  · exact h

theorem swapComplete_holdsSets (u : State) (e : execSwapComplete s = .next u) : u.FlashHoldsSets := by
  have island {t x : State} (g : t.FlashHoldsSets) (k : Keeps noFlash t x) :
      (x.iff (x.rd .islandInSwap 0 = 1 && x.inMode [5, 6]) State.enterIsland).FlashHoldsSets :=
    g.keeps (keeps_iff k fun _ l => enterIsland_keeps l)
  cases e
  refine .ite ?_ h
  split
  · exact island h (endSwap_keeps _ (report_keeps _ (keeps_refl noFlash s)))
  · next t x e =>
    exact island (trySwap_holdsSets h e)
      (endSwap_keeps _ (report_keeps _ (keeps_wr (cfg_keeps _ (adopt_keeps x (keeps_refl noFlash t))) _ _ _ (by decide +kernel))))

theorem gatewayFrameIn_holdsSets (t : Nat) (f : Frame) (ok : Bool) (u : State) (e : execGatewayFrameIn t f ok s = .next u) :
    u.FlashHoldsSets := by
  have now : (s.at t).FlashHoldsSets := h.keeps (at_keeps (M := State.at_may) t (keeps_refl _ s))
  have received := now.keeps (receiveLp_keeps (M := State.receiveLp_may) f ok (keeps_refl _ _))
  cases e
  refine .ite now ?_
  split
  · next e => rwa [e] at received
  · next x e =>
    rw [e] at received
    exact .ite (deliverFrame_holdsSets received _ _ _) (received.keeps (insertFrame_keeps (M := State.insertFrame_may) f (keeps_refl _ x)))

/-- Of the commands those of the host, of frames that may carry its requests, of COMMIT and swap, of SAFE and of reset write flash; every other
row leaves it alone. -/
theorem exec_holdsSets (c : Instr) (u : State) (e : exec c s = .next u) : u.FlashHoldsSets := by
  have same := keeps_refl noFlash s
  have left {o} (k : KeepsO noFlash s o) (e : o = .next u) : u.FlashHoldsSets := h.keeps (k.next u e)
  have now (t : Nat) : (s.at t).FlashHoldsSets := h.keeps (at_keeps (M := State.at_may) t (keeps_refl _ s))
  revert e
  cases c with
  | engineClear | registerWrite | rwcWrite | w1cWrite | stageDiscard | ackOrdinal | logSeen | target | stop | stopFlush | setPosition |
    movePush | queueFlush | limitChange | lowMark | followEngage | followDisengage | ratioChange | adaptReset | adaptEnable |
    learnStart | learnAbort | stallRelease | driveEnable | driveDisable | rearm | diagStart | diagAll | directModeEnter |
    directModeExit | directFire | chPreset | fbAlign | latchSrc | urgentReq | cvRestart | calZeroPoint | calFullPoint | calCompute |
    calStore | imageSel | imageOffset | imageChunk | imageClose | imageErase | swapStart | release | mailPush | captureFetch |
    resetRequest | modeRequestConfigure | modeRequestCalibrate | modeRequestArmed | modeRequestRun | modeRequestSafe |
    modeRequestLockout | modeRequestStandby | lockoutClear | injectArm | counterFreeze =>
    rintro ⟨⟩
    exact hostWrite_holdsSets h _ _ _ _
  | writeBlock =>
    rintro ⟨⟩
    exact hostWriteBlock_holdsSets h _ _ _ _
  | frameArrival =>
    rintro ⟨⟩
    exact .ite (now _) (gorge_holdsSets (now _) _ _ _ _)
  | sweep | note =>
    rintro ⟨⟩
    exact .ite (gorge_holdsSets (now _) _ _ _ _) (now _)
  | gatewayFrameIn => exact gatewayFrameIn_holdsSets h _ _ _ u
  | commitTakesEffect => exact commitTakesEffect_holdsSets h u
  | swapComplete => exact swapComplete_holdsSets h u
  | safeEntry =>
    rintro ⟨⟩
    exact .ite (tripLimit_holdsSets (h.keeps (enterSafe_keeps same))) h
  | resetNLow | logicSupplyLost =>
    rintro ⟨⟩
    exact toReset_holdsSets h
  | bothPllsLoseLock =>
    rintro ⟨⟩
    exact .ite (toReset_holdsSets h) h
  | requestedResetEntry =>
    rintro ⟨⟩
    exact .ite (toReset_holdsSets (now _)) (now _)
  | passMark w => exact left (execPassMark_keeps w same)
  | staleIncrement n => exact left (execStaleIncrement_keeps n same)
  | feedbackFoldIn t n m => exact left (execFeedbackFoldIn_keeps t n m same)
  | profileStep t n m => exact left (execProfileStep_keeps t n m same)
  | interpolationSetUp t n m => exact left (execInterpolationSetUp_keeps t n m same)
  | loadIndexStep t n m => exact left (execLoadIndexStep_keeps t n m same)
  | axisProgramRun t slot m => exact left (execAxisProgramRun_keeps t slot m same)
  | tripProgramRun t n => exact left (execTripProgramRun_keeps t n same)
  | slotCutOff t slot => exact left (execSlotCutOff_keeps t slot same)
  | slotUncorrectable t slot => exact left (execSlotUncorrectable_keeps t slot same)
  | bankRebuildDone => exact left (execBankRebuildDone_keeps same)
  | engineFailing t e storeError => exact left (execEngineFailing_keeps t e storeError same)
  | fallbackLoadDone => exact left (execFallbackLoadDone_keeps same)
  | fallbackPlansBuilt t => exact left (execFallbackPlansBuilt_keeps t same)
  | engineSelfTestDone t e pass => exact left (execEngineSelfTestDone_keeps t e pass same)
  | ledgerScrub t n w ecc => exact left (execLedgerScrub_keeps t n w ecc same)
  | feedLost t feed volt => exact left (execFeedLost_keeps t feed volt same)
  | logicBuckLost t buck volt => exact left (execLogicBuckLost_keeps t buck volt same)
  | auxLost t => exact left (execAuxLost_keeps t same)
  | stewardLost t => exact left (execStewardLost_keeps t same)
  | tsMismatch t n w high out => exact left (execTsMismatch_keeps t n w high out same)
  | tsSelfTest t faulty => exact left (execTsSelfTest_keeps t faulty same)
  | flashBankLost t bank => exact left (execFlashBankLost_keeps t bank same)
  | sdramCorrected t bank addr => exact left (execSdramCorrected_keeps t bank addr same)
  | sdramUncorrectable t bank addr => exact left (execSdramUncorrectable_keeps t bank addr same)
  | read h index sub => exact left (execRead_keeps h index sub same)
  | readBlock h index sub count => exact left (execReadBlock_keeps h index sub count same)
  | commit h => exact left (execCommit_keeps h same)
  | abs t n => exact left (execAbs_keeps t n same)
  | rel t n => exact left (execRel_keeps t n same)
  | vel t n => exact left (execVel_keeps t n same)
  | dwell t n => exact left (execDwell_keeps t n same)
  | wait t n => exact left (execWait_keeps t n same)
  | waitTimeout t n => exact left (execWaitTimeout_keeps t n same)
  | setLimits t n => exact left (execSetLimits_keeps t n same)
  | setCurrents t n => exact left (execSetCurrents_keeps t n same)
  | call t n => exact left (execCall_keeps t n same)
  | homeHere t n => exact left (execHomeHere_keeps t n same)
  | homeEndStop t n => exact left (execHomeEndStop_keeps t n same)
  | homeLimitInput t n => exact left (execHomeLimitInput_keeps t n same)
  | homeLimitOrEndStop t n => exact left (execHomeLimitOrEndStop_keeps t n same)
  | homeExerciseRun t n => exact left (execHomeExerciseRun_keeps t n same)
  | releaseStart t n => exact left (execReleaseStart_keeps t n same)
  | stepEdge t pair dirHigh dirAge => exact left (execStepEdge_keeps t pair dirHigh dirAge same)
  | pairFault t pair on => exact left (execPairFault_keeps t pair on same)
  | streamTimeout t n => exact left (execStreamTimeout_keeps t n same)
  | chopperPeak t n ph => exact left (execChopperPeak_keeps t n ph same)
  | chopperValley t n ph => exact left (execChopperValley_keeps t n ph same)
  | offTimeMax t n ph => exact left (execOffTimeMax_keeps t n ph same)
  | refSignChange t n ph => exact left (execRefSignChange_keeps t n ph same)
  | fastBelowTwoCodes t n ph => exact left (execFastBelowTwoCodes_keeps t n ph same)
  | learnLegEnd t n => exact left (execLearnLegEnd_keeps t n same)
  | diagTestStart t k => exact left (execDiagTestStart_keeps t k same)
  | diagEnd t k volts busLow => exact left (execDiagEnd_keeps t k volts busLow same)
  | ocRetry n => exact left (execOcRetry_keeps n same)
  | retryCountReset n => exact left (execRetryCountReset_keeps n same)
  | directPulseEnd t n => exact left (execDirectPulseEnd_keeps t n same)
  | overcurrent t n switches => exact left (execOvercurrent_keeps t n switches same)
  | bootstrapRefresh t n hs vbs => exact left (execBootstrapRefresh_keeps t n hs vbs same)
  | bootstrapRefreshEnd t n hs vbs => exact left (execBootstrapRefreshEnd_keeps t n hs vbs same)
  | bootstrapLow t n hs vbs => exact left (execBootstrapLow_keeps t n hs vbs same)
  | pumpFail t k => exact left (execPumpFail_keeps t k same)
  | openPhase n ph => exact left (execOpenPhase_keeps n ph same)
  | dieHot t k => exact left (execDieHot_keeps t k same)
  | dieShutdown t k => exact left (execDieShutdown_keeps t k same)
  | dieCooled t k => exact left (execDieCooled_keeps t k same)
  | busLow t v => exact left (execBusLow_keeps t v same)
  | busUndervoltage t v => exact left (execBusUndervoltage_keeps t v same)
  | busRecovered t v => exact left (execBusRecovered_keeps t v same)
  | busHigh t v => exact left (execBusHigh_keeps t v same)
  | busOvervoltage t dies v => exact left (execBusOvervoltage_keeps t dies v same)
  | shortBrakeEnd t dies v => exact left (execShortBrakeEnd_keeps t dies v same)
  | enaRemoved t input => exact left (execEnaRemoved_keeps t input same)
  | enaRestored t input => exact left (execEnaRestored_keeps t input same)
  | enaDiscrepancy t => exact left (execEnaDiscrepancy_keeps t same)
  | quadratureEdge t c a b => exact left (execQuadratureEdge_keeps t c a b same)
  | index t c => exact left (execIndex_keeps t c same)
  | speedTimeout t c => exact left (execSpeedTimeout_keeps t c same)
  | ssiFrameStart t c dataHigh => exact left (execSsiFrameStart_keeps t c dataHigh same)
  | ssiFrameArrival t c word mono => exact left (execSsiFrameArrival_keeps t c word mono same)
  | ssiMonoTimeout t c => exact left (execSsiMonoTimeout_keeps t c same)
  | ssiDeadline t c => exact left (execSsiDeadline_keeps t c same)
  | lineFault t c pair => exact left (execLineFault_keeps t c pair same)
  | latchCapture t c => exact left (execLatchCapture_keeps t c same)
  | senseEdge t i0 high => exact left (execSenseEdge_keeps t i0 high same)
  | conversionTrigger t => exact left (execConversionTrigger_keeps t same)
  | conversionComplete t c code => exact left (execConversionComplete_keeps t c code same)
  | harvest t c => exact left (execHarvest_keeps t c same)
  | cvSelfCheckDone t c ground dac => exact left (execCvSelfCheckDone_keeps t c ground dac same)
  | calPointDone t mean oor => exact left (execCalPointDone_keeps t mean oor same)
  | oNop u => exact left (execONop_keeps u same)
  | oAdd u d a b => exact left (execOAdd_keeps u d a b same)
  | oSub u d a b => exact left (execOSub_keeps u d a b same)
  | oAnd u d a b => exact left (execOAnd_keeps u d a b same)
  | oOr u d a b => exact left (execOOr_keeps u d a b same)
  | oXor u d a b => exact left (execOXor_keeps u d a b same)
  | oShl u d a b => exact left (execOShl_keeps u d a b same)
  | oShr u d a b => exact left (execOShr_keeps u d a b same)
  | oSra u d a b => exact left (execOSra_keeps u d a b same)
  | oMin u d a b => exact left (execOMin_keeps u d a b same)
  | oMax u d a b => exact left (execOMax_keeps u d a b same)
  | oAddw u d a b => exact left (execOAddw_keeps u d a b same)
  | oSubw u d a b => exact left (execOSubw_keeps u d a b same)
  | oCtxn u d => exact left (execOCtxn_keeps u d same)
  | oArg u d => exact left (execOArg_keeps u d same)
  | oCallp u d => exact left (execOCallp_keeps u d same)
  | oAddi u d a imm => exact left (execOAddi_keeps u d a imm same)
  | oAndi u d a imm => exact left (execOAndi_keeps u d a imm same)
  | oOri u d a imm => exact left (execOOri_keeps u d a imm same)
  | oXori u d a imm => exact left (execOXori_keeps u d a imm same)
  | oShli u d a imm => exact left (execOShli_keeps u d a imm same)
  | oShri u d a imm => exact left (execOShri_keeps u d a imm same)
  | oSrai u d a imm => exact left (execOSrai_keeps u d a imm same)
  | oMovi u d imm => exact left (execOMovi_keeps u d imm same)
  | oOrhi u d a imm => exact left (execOOrhi_keeps u d a imm same)
  | oDone u => exact left (execODone_keeps u same)
  | oMul u d a b => exact left (execOMul_keeps u d a b same)
  | oMulu u d a b => exact left (execOMulu_keeps u d a b same)
  | oEnd u => exact left (execOEnd_keeps u same)
  | oBeq u a b off => exact left (execOBeq_keeps u a b off same)
  | oBne u a b off => exact left (execOBne_keeps u a b off same)
  | oBlt u a b off => exact left (execOBlt_keeps u a b off same)
  | oBge u a b off => exact left (execOBge_keeps u a b off same)
  | oBltu u a b off => exact left (execOBltu_keeps u a b off same)
  | oBgeu u a b off => exact left (execOBgeu_keeps u a b off same)
  | oBra u off => exact left (execOBra_keeps u off same)
  | oLoop u count => exact left (execOLoop_keeps u count same)
  | oEndl u => exact left (execOEndl_keeps u same)
  | oLidx u d => exact left (execOLidx_keeps u d same)
  | oTime u d => exact left (execOTime_keeps u d same)
  | oRtime u d => exact left (execORtime_keeps u d same)
  | oMode u d => exact left (execOMode_keeps u d same)
  | oLdl u l ecc => exact left (execOLdl_keeps u l ecc same)
  | oLdlw u l ecc => exact left (execOLdlw_keeps u l ecc same)
  | oStl u l => exact left (execOStl_keeps u l same)
  | oStlw u l => exact left (execOStlw_keeps u l same)
  | oPush u d q e => exact left (execOPush_keeps u d q e same)
  | oPop u d q => exact left (execOPop_keeps u d q same)
  | oQdep u d q => exact left (execOQdep_keeps u d q same)
  | oObjr u d entry half => exact left (execOObjr_keeps u d entry half same)
  | oObjw u d entry => exact left (execOObjw_keeps u d entry same)
  | imageCloseDone t => exact left (execImageCloseDone_keeps t same)
  | queuePointer t q ptr => exact left (execQueuePointer_keeps t q ptr same)
  | basinEcc t q off => exact left (execBasinEcc_keeps t q off same)
  | ownFrameSend t waited => exact left (execOwnFrameSend_keeps t waited same)
  | timeDistribution t port f fcsOk hop idle stamp => exact left (execTimeDistribution_keeps t port f fcsOk hop idle stamp same)
  | linkProbeSend t port phase => exact left (execLinkProbeSend_keeps t port phase same)
  | linkProbe t port t1 t2 phase => exact left (execLinkProbe_keeps t port t1 t2 phase same)
  | linkProbeAnswer t port t1 t2 t3 phase => exact left (execLinkProbeAnswer_keeps t port t1 t2 t3 phase same)
  | gwTimeout t tag => exact left (execGwTimeout_keeps t tag same)
  | linkLost t port partly => exact left (execLinkLost_keeps t port partly same)
  | linkUp t port amplitude => exact left (execLinkUp_keeps t port amplitude same)
  | linkHeld t port => exact left (execLinkHeld_keeps t port same)
  | resetRelease w => exact left (execResetRelease_keeps w same)
  | bootEnd w => exact left (execBootEnd_keeps w same)
  | armingComplete => exact left (execArmingComplete_keeps same)
  | autoRun => exact left (execAutoRun_keeps same)
  | islandTimeout => exact left (execIslandTimeout_keeps same)
  | islandHold => exact left (execIslandHold_keeps same)
  | standbyEntered => exact left (execStandbyEntered_keeps same)
  | wake => exact left (execWake_keeps same)
  | logWrite t => exact left (execLogWrite_keeps t same)
  | incidentClose => exact left (execIncidentClose_keeps same)
  | shadowEnd t first => exact left (execShadowEnd_keeps t first same)
  | dualRail t k tripPath => exact left (execDualRail_keeps t k tripPath same)
  | railTestEnd t k tripPath followsP followsN => exact left (execRailTestEnd_keeps t k tripPath followsP followsN same)
  | linkParity t k secondFails => exact left (execLinkParity_keeps t k secondFails same)
  | injectionLapse t => exact left (execInjectionLapse_keeps t same)
  | tripiRise t => exact left (execTripiRise_keeps t same)
  | tripiFall t => exact left (execTripiFall_keeps t same)
  | rootLost t => exact left (execRootLost_keeps t same)
  | rootRestored t => exact left (execRootRestored_keeps t same)
  | backupTrim t ppb => exact left (execBackupTrim_keeps t ppb same)
  | pllSwitch t => exact left (execPllSwitch_keeps t same)
  | holdoverEntry t => exact left (execHoldoverEntry_keeps t same)
  | holdoverLimit t => exact left (execHoldoverLimit_keeps t same)
  | syncOutputPulse t => exact left (execSyncOutputPulse_keeps t same)
  | syncPulseEnd t => exact left (execSyncPulseEnd_keeps t same)
  | syncInputEdge t => exact left (execSyncInputEdge_keeps t same)
  | traceWordOut t => exact left (execTraceWordOut_keeps t same)
  | dropRecord t => exact left (execDropRecord_keeps t same)
  | feedRestored t feed => exact left (execFeedRestored_keeps t feed same)
  | logicBuckRestored t buck => exact left (execLogicBuckRestored_keeps t buck same)
  | auxRestored t => exact left (execAuxRestored_keeps t same)
  | flashBankRestored t bank => exact left (execFlashBankRestored_keeps t bank same)
  | takeoverComplete t => exact left (execTakeoverComplete_keeps t same)
  | activeHeadLapse t => exact left (execActiveHeadLapse_keeps t same)
  | lpLinkLost t => exact left (execLpLinkLost_keeps t same)
  | lineFaultEnd t c => exact left (execLineFaultEnd_keeps t c same)
  | dieHotEnd t k => exact left (execDieHotEnd_keeps t k same)
  | busHighEnd t v => exact left (execBusHighEnd_keeps t v same)

end

/-- Settles O2: a state whose tables list nothing. -/
theorem resetIsCanonical : Obligations.ResetIsCanonical := by
  unfold Obligations.ResetIsCanonical
  exact reset_canonical

/-- Settles O46, row by row: the rows that write flash write the RWC objects of `committed` and the pairs of `calPairs` alone. -/
theorem stepKeepsFlashSets : Obligations.StepKeepsFlashSets := by
  unfold Obligations.StepKeepsFlashSets
  intro s u h run
  unfold step at run
  split at run
  · cases run
    exact h
  · next rest _ =>
    have without : { s with pending := rest }.FlashHoldsSets := h
    exact exec_holdsSets without _ u run

end Sys2Proof.Machine
end

section
/-! PROOFS. W1C writes in the cycle of an event (O59). -/
namespace Sys2Proof.Machine

set_option Elab.async false

/-- What an accepted write has passed (R35, ranks 5 to 11). -/
structure State.Passed (s : State) (o : Obj) (i : Nat) (bs : List Byte) : Prop where
  size  : bs.length = o.ty.size
  mode  : s.modeRefused o.reg i (o.ty.value bs) = false
  idle  : s.busy o i (o.ty.value bs) = false
  range : s.outOfRange o i bs = false
  cause : s.causeHolds o.reg i (o.ty.value bs) = false
  room  : s.queueFull o.reg i bs = false

theorem passed_of_writeCode {s : State} {idx sub : Nat} {bs : List Byte} {o : Obj} {i : Nat} (hc : s.writeCode idx sub bs = 0)
    (ho : s.objAt idx sub = some (o, i)) : s.Passed o i bs := by
  unfold State.writeCode at hc
  rw [look_of_objAt ho] at hc
  dsimp only at hc
  split_ifs at hc with ro size mode idle range cause room
  simp only [Bool.or_eq_true, not_or, Bool.not_eq_true] at mode idle range cause room
  exact ⟨not_not.mp size, mode.2, idle.2, range, cause, room⟩

/-- No accepted write names a bit whose cause persists. -/
theorem held_of_causeHolds {s : State} {r : Reg} {i : Nat} {v : Int} (h : s.causeHolds r i v = false) {b : Nat} (hv : v.toNat.testBit b = true) :
    (s.heldBits r i).testBit b = false := by
  have apart {x : Nat} (e : decide (v.toNat &&& x ≠ 0) = false) : x.testBit b = false := by
    have bit := congrArg (·.testBit b) (not_not.mp (of_decide_eq_false e))
    simpa [hv] using bit
  unfold State.causeHolds at h
  split at h
  case h_6 | h_7 | h_8 | h_9 => exact Nat.zero_testBit b
  case h_10 =>
    unfold State.heldBits
    split
    case h_6 => exact Nat.zero_testBit b
    all_goals contradiction
  all_goals exact apart h

/-- No request changes what a W1C object holds set. -/
theorem heldBits_congr {s t : State} (h : s.OnlyRegs t requestRegs) (r : Reg) (i : Nat) : t.heldBits r i = s.heldBits r i := by
  have rd (q : Reg) (j : Nat) (hq : q ∉ requestRegs := by decide) : t.rd q j = s.rd q j := h q j hq
  have rdN (q : Reg) (j : Nat) (hq : q ∉ requestRegs := by decide) : t.rdN q j = s.rdN q j := congrArg Int.toNat (h q j hq)
  cases r with
  | AXIS_EVENTS => simp only [State.heldBits, rd .DEFERRED, rd .AXIS_STATE, rd .END_CAUSE]
  | BRIDGE_FAULT => simp only [State.heldBits, State.bridgeHeld, rd .DIE_STATE, rdN .brPersist, rdN .BUS_VM, rd .brakeOn]
  | CV_EVENTS | CH_EVENTS | CAUSES_LATCHED => simp only [State.heldBits, rdN .CAUSES_PRESENT]
  | _ => rfl

theorem takeUp_freshBits {s : State} {hd : Hdr} (h : (s.takeUp hd).now = s.now) (r : Reg) (i : Nat) :
    (s.takeUp hd).freshBits r i = s.freshBits r i := by
  have kept := takeUp_keeps (M := State.takeUp_may) hd (keeps_refl _ s)
  rw [State.freshBits, State.freshBits, h, kept.fresh (by decide +kernel), kept.freshAt (by decide +kernel)]

/-- The bits that an event sets are set, and noted as set in its cycle. -/
theorem raise_sets (s : State) {r : Reg} (hr : r ≠ .DEVICE_TIME) (i m : Nat) {b : Nat} (hb : m.testBit b = true) :
    (s.raise r i m).bit r i b = true ∧ ((s.raise r i m).freshBits r i).testBit b = true := by
  have now : (s.raise r i m).now = s.now := congrArg Int.toNat (State.rd_raise_ne s i m 0 hr.symm)
  constructor
  · simp [State.bit_raise, hb]
  · rw [State.freshBits, now]
    simp [State.raise, tget_tset, hb]

/-- Settles O59: the write clears in its object what `lower` clears, and `lower` leaves the bits set in this cycle. -/
theorem w1cBitsOfTheCycleStaySet : Obligations.W1cBitsOfTheCycleStaySet := by
  unfold Obligations.W1cBitsOfTheCycleStaySet
  intro hd idx sub m i bs o s0
  dsimp only
  intro ha ho time ⟨takes, code⟩
  have own : o.reg ∉ requestRegs := w1c_not_requestRegs o (findObj_spec (findObj_of_objAt ho)).1 ha
  have took := (quiet_refl (s0.raise o.reg i m)).taken hd opWrite idx sub bs
  have clears := (hostWrite_clears takes code ho ha).2
  simp only [takeUp_freshBits time] at clears
  refine ⟨_, rfl, fun b hb => ?_, clears, fun b set gone => ?_⟩
  · obtain ⟨set, fresh⟩ := raise_sets s0 (ne_of_mem_of_not_mem (by decide) own).symm i m hb
    rw [clears, set, fresh]
    simp
  · rw [clears, set] at gone
    obtain ⟨named, old⟩ : (o.ty.value bs).toNat.testBit b = true ∧ ((s0.raise o.reg i m).freshBits o.reg i).testBit b = false := by simpa using gone
    have held := held_of_causeHolds (passed_of_writeCode code ((taken_objAt ..).trans ho)).cause named
    rw [heldBits_congr took.regs] at held
    exact ⟨named, old, held⟩

end Sys2Proof.Machine
end

section
/-! PROOFS. Indices and their subindices (O60): what the rows of an index say of its highest subindex, and what each operation answers by what
its address names. -/
namespace Sys2Proof.Machine

set_option Elab.async false

-- the rows of an index

/-- Whether a row covers an index (R27). -/
def Obj.atIndex (o : Obj) (idx : Nat) : Bool :=
  if 0x8000 ≤ idx ∧ idx < 0xC000 then decide (o.base = 0x8000 + idx % 256 ∧ o.stride = 256)
  else decide (o.base ≤ idx ∧ idx < o.base + o.units ∧ o.stride = 1)

/-- The last subindex of a row. -/
def Obj.last (o : Obj) : Nat := o.sub + o.nsub - 1

theorem maxSub_eq (idx : Nat) : maxSub idx =
    match objects.filter (·.atIndex idx) with
    | [] => none
    | o :: os => some (os.foldl (fun m p => max m p.last) o.last) := rfl

theorem findObj_isSome (idx sub : Nat) :
    (findObj idx sub).isSome = true ↔ ∃ o ∈ objects, o.atIndex idx = true ∧ o.sub ≤ sub ∧ sub < o.sub + o.nsub := by
  unfold findObj Obj.atIndex
  split <;> simp [and_assoc]

/-- The largest of the values of a list. -/
theorem foldl_max_spec {α : Type} (f : α → Nat) (l : List α) (a : Nat) :
    a ≤ l.foldl (fun m p => max m (f p)) a ∧ (∀ p ∈ l, f p ≤ l.foldl (fun m p => max m (f p)) a) ∧
      (l.foldl (fun m p => max m (f p)) a = a ∨ ∃ p ∈ l, l.foldl (fun m p => max m (f p)) a = f p) := by
  induction l generalizing a with
  | nil => simp
  | cons p l ih =>
    obtain ⟨first, rest, reached⟩ := ih (max a (f p))
    refine ⟨by simp only [List.foldl_cons]; omega, fun q hq => ?_, ?_⟩
    · rcases List.mem_cons.mp hq with rfl | hq
      · simp only [List.foldl_cons]; omega
      · exact rest q hq
    · simp only [List.foldl_cons]
      rcases reached with e | ⟨q, hq, e⟩
      · rcases Nat.le_total a (f p) with h | h
        · exact .inr ⟨p, List.mem_cons_self, by omega⟩
        · exact .inl (by omega)
      · exact .inr ⟨q, List.mem_cons_of_mem _ hq, e⟩

/-- The highest subindex of an index is the last one of some of its rows, and of all of them the highest. -/
theorem maxSub_spec {idx m : Nat} (h : maxSub idx = some m) :
    (∃ o ∈ objects, o.atIndex idx = true ∧ m = o.last) ∧ ∀ o ∈ objects, o.atIndex idx = true → o.last ≤ m := by
  rw [maxSub_eq] at h
  split at h
  · cases h
  · next o os e =>
    cases h
    have mem (p : Obj) : p ∈ objects ∧ p.atIndex idx = true ↔ p ∈ o :: os := by rw [← e, List.mem_filter]
    obtain ⟨first, rest, reached⟩ := foldl_max_spec Obj.last os o.last
    constructor
    · rcases reached with e | ⟨p, hp, e⟩
      · exact ⟨o, ((mem o).mpr List.mem_cons_self).1, ((mem o).mpr List.mem_cons_self).2, e⟩
      · have hp := (mem p).mpr (List.mem_cons_of_mem o hp)
        exact ⟨p, hp.1, hp.2, e⟩
    · intro p hp at'
      rcases List.mem_cons.mp ((mem p).mp ⟨hp, at'⟩) with rfl | hp
      · exact first
      · exact rest p hp

/-- The subindices of a row lie within 1 and 255. -/
theorem objects_sub : ∀ o ∈ objects, 1 ≤ o.sub ∧ 1 ≤ o.nsub ∧ o.last ≤ 255 := by decide +kernel

theorem maxSub_range {idx m : Nat} (h : maxSub idx = some m) : 1 ≤ m ∧ m ≤ 255 := by
  obtain ⟨⟨o, ho, -, rfl⟩, -⟩ := maxSub_spec h
  obtain ⟨low, some', high⟩ := objects_sub o ho
  exact ⟨by unfold Obj.last; omega, high⟩

theorem findObj_maxSub {idx m : Nat} (h : maxSub idx = some m) : (findObj idx m).isSome = true := by
  obtain ⟨⟨o, ho, there, rfl⟩, -⟩ := maxSub_spec h
  obtain ⟨low, some', high⟩ := objects_sub o ho
  exact (findObj_isSome ..).mpr ⟨o, ho, there, by unfold Obj.last; omega, by unfold Obj.last; omega⟩

theorem findObj_above {idx m k : Nat} (h : maxSub idx = some m) (hk : m < k) : findObj idx k = none := by
  rw [← Option.not_isSome_iff_eq_none, findObj_isSome]
  rintro ⟨o, ho, there, -, last⟩
  have most := (maxSub_spec h).2 o ho there
  unfold Obj.last at most
  omega

-- what an address names

/-- The queues that no subindex above 0x0C stands for (R276). -/
def plainQueue (idx : Nat) : Prop := (0x5000 ≤ idx ∧ idx < 0x5050) ∧ ¬(0x5044 ≤ idx ∧ idx < 0x5048)

section
variable {s : State} {idx : Nat} (h : s.indexOk idx = true)
include h

theorem objAt_of_findObj {sub : Nat} (h0 : sub ≠ 0) (hm : subMissing idx sub = false) : s.objAt idx sub = findObj idx sub := by
  unfold State.objAt State.look
  simp only [h, h0, hm, Bool.not_true, Bool.false_eq_true, if_false]
  cases findObj idx sub <;> rfl

theorem maxSub_isSome : ∃ m, maxSub idx = some m := by
  unfold State.indexOk at h
  simp only [Bool.and_eq_true] at h
  exact Option.isSome_iff_exists.mp h.1.1.2

theorem objAt_isSome {sub : Nat} (hf : (findObj idx sub).isSome = true) (h0 : sub ≠ 0) (hm : subMissing idx sub = false) :
    (s.objAt idx sub).isSome = true := by
  rwa [objAt_of_findObj h h0 hm]

end

theorem objAt_eq_none {s : State} {idx sub : Nat} (h : subMissing idx sub = true ∨ findObj idx sub = none) : s.objAt idx sub = none := by
  unfold State.objAt State.look
  rcases h with h | h
  · simp only [h, if_true]
    split_ifs <;> rfl
  · simp only [h]
    split_ifs <;> rfl

-- the highest subindex

theorem plainQueue_findObj : ∀ q < 80, (findObj (0x5000 + q) 0x0C).isSome = true := by decide +kernel

theorem sendQueue_maxSub : ∀ q < 4, maxSub (0x5044 + q) = some 0x0F := by decide +kernel

theorem productId_maxSub : maxSub 0x22 = some 0x0E := by decide +kernel

/-- A plain queue has the subindex 0x0C and none above it (R276). -/
theorem subMissing_plainQueue {idx : Nat} (h : plainQueue idx) : subMissing idx 0x0C = false ∧ ∀ k, 0x0C < k → subMissing idx k = true := by
  obtain ⟨⟨low, high⟩, plain⟩ := h
  have unsent : ¬(68 ≤ idx - 0x5000 ∧ idx - 0x5000 < 72) := by omega
  refine ⟨by simp [subMissing, low, high], fun k hk => ?_⟩
  have beyond : 0x0D ≤ k := hk
  simp [subMissing, low, high, unsent, beyond]

/-- Elsewhere the highest subindex of the rows is present. -/
theorem subMissing_maxSub {idx m : Nat} (h : maxSub idx = some m) (hq : ¬ plainQueue idx) : subMissing idx m = false := by
  unfold subMissing
  split
  · next range =>
    obtain ⟨q, hq4, rfl⟩ : ∃ q < 4, idx = 0x5044 + q := ⟨idx - 0x5044, by unfold plainQueue at hq; omega, by unfold plainQueue at hq; omega⟩
    obtain rfl : 0x0F = m := Option.some.inj ((sendQueue_maxSub q hq4).symm.trans h)
    have sent : 68 ≤ 0x5044 + q - 0x5000 ∧ 0x5044 + q - 0x5000 < 72 := by omega
    simp [sent]
  · by_cases e : idx = 0x22
    · subst e
      obtain rfl : 0x0E = m := Option.some.inj (productId_maxSub.symm.trans h)
      rfl
    · simp [e]

/-- Every index that exists has a highest subindex within 1 and 255, which is present, and none above it (R22). -/
theorem topSub_spec {s : State} {idx : Nat} (h : s.indexOk idx = true) :
    1 ≤ topSub idx ∧ topSub idx ≤ 255 ∧ (s.objAt idx (topSub idx)).isSome = true ∧ ∀ k, topSub idx < k → s.objAt idx k = none := by
  by_cases hq : plainQueue idx
  · have top : topSub idx = 0x0C := if_pos hq
    obtain ⟨present, above⟩ := subMissing_plainQueue hq
    obtain ⟨⟨low, high⟩, -⟩ := hq
    have row := plainQueue_findObj (idx - 0x5000) (by omega)
    rw [Nat.add_sub_cancel' low] at row
    rw [top]
    exact ⟨by omega, by omega, objAt_isSome h row (by omega) present, fun k hk => objAt_eq_none (.inl (above k hk))⟩
  · obtain ⟨m, hm⟩ := maxSub_isSome h
    have top : topSub idx = m := (if_neg hq).trans (by rw [hm, Option.getD_some])
    obtain ⟨low, high⟩ := maxSub_range hm
    rw [top]
    exact ⟨low, high, objAt_isSome h (findObj_maxSub hm) (by omega) (subMissing_maxSub hm hq),
      fun k hk => objAt_eq_none (.inr (findObj_above hm hk))⟩

-- what the operations answer

theorem look_congr {s t : State} (h : t.progs = s.progs) (idx sub : Nat) : t.look idx sub = s.look idx sub := by
  have there : t.indexOk idx = s.indexOk idx := by simp only [State.indexOk, h]
  simp only [State.look, there]

theorem taken_look (s : State) (hd : Hdr) (op i j : Nat) (data : List Byte) (idx sub : Nat) :
    (s.taken hd op i j data).look idx sub = s.look idx sub :=
  look_congr ((quiet_refl s).taken hd op i j data).progs idx sub

section
variable {s : State} {idx sub c : Nat} (h : s.look idx sub = .bad c)
include h

theorem readOne_of_bad : s.readOne idx sub = (c, []) := by
  rw [State.readOne, h]

theorem writeCode_of_bad (bs : List Byte) : s.writeCode idx sub bs = c := by
  rw [State.writeCode, h]

theorem readBlock_of_bad (hc : c ≠ 0) : s.readBlock idx sub 1 = (c, []) := by
  have size : s.blockSize idx 1 sub = 0 := by simp [State.blockSize, h]
  simp only [State.readBlock, size, State.readMany, readOne_of_bad h]
  simp [hc]

theorem cut_of_bad {bs : List Byte} (h0 : bs ≠ []) : s.cut idx (bs.length + 1) sub bs = [(sub, bs)] := by
  cases bs with
  | nil => exact absurd rfl h0
  | cons b bs => simp only [State.cut, h]

end

/-- Every operation on an address that names nothing is refused with the code of what is missing. -/
theorem refused_of_bad {s : State} {hd : Hdr} {idx sub c : Nat} (bs : List Byte) (h : s.look idx sub = .bad c) (hc : c ≠ 0) :
    (s.Takes hd opRead idx sub [] → ∃ u, exec (.read hd idx sub) s = .next u ∧ u.Answers hd c []) ∧
    (s.Takes hd opWrite idx sub bs → ∃ u, exec (.registerWrite hd idx sub bs) s = .next u ∧ u.Answers hd c []) ∧
    (s.Takes hd opReadBlock idx sub [1] → ∃ u, exec (.readBlock hd idx sub 1) s = .next u ∧ u.Answers hd c []) ∧
    (bs ≠ [] → bs.length ≤ 1024 → s.Takes hd opWriteBlock idx sub bs → ∃ u, exec (.writeBlock hd idx sub bs) s = .next u ∧ u.Answers hd c []) := by
  have bad (op : Nat) (data : List Byte) : (s.taken hd op idx sub data).look idx sub = .bad c := (taken_look ..).trans h
  refine ⟨fun k => ⟨_, rfl, ?_⟩, fun k => ⟨_, rfl, ?_⟩, fun k => ⟨_, rfl, ?_⟩, fun h0 h1 k => ⟨_, exec_writeBlock .., ?_⟩⟩
  · have answer := (hostRead_answers k).1
    rwa [readOne_of_bad (bad ..)] at answer
  · have code := writeCode_of_bad (bad opWrite bs) bs
    have answer := (hostWrite_refused k (code ▸ hc)).1
    rwa [code] at answer
  · have answer := (hostReadBlock_answers (n := 1) (by omega) k).1
    rwa [readBlock_of_bad (bad ..) hc] at answer
  · have code := writeCode_of_bad (bad opWriteBlock bs) bs
    have answer := (hostWriteBlock_refused (l1 := []) k h0 h1 (cut_of_bad (bad ..) h0) rfl (code ▸ hc)).1
    rwa [code] at answer

theorem look_top {s : State} {idx : Nat} (h : s.indexOk idx = true) : s.look idx 0 = .top (topSub idx) := by
  simp [State.look, h]

theorem look_missing {s : State} {idx sub : Nat} (h : s.indexOk idx = true) (h0 : sub ≠ 0) (hn : s.objAt idx sub = none) :
    s.look idx sub = .bad 2 := by
  unfold State.objAt at hn
  unfold State.look at hn ⊢
  simp only [h, h0, Bool.not_true, Bool.false_eq_true, if_false] at hn ⊢
  split_ifs at hn ⊢
  · rfl
  · cases hf : findObj idx sub with
    | none => rfl
    | some p => simp [hf] at hn

/-- Settles O60: an operation answers what its address names, and the highest subindex is that of the rows of the index. -/
theorem everyIndexTellsItsSubindices : Obligations.EveryIndexTellsItsSubindices := by
  unfold Obligations.EveryIndexTellsItsSubindices
  intro hd idx sub bs s
  dsimp only
  refine ⟨fun absent => ?_, fun there => ?_⟩
  · have gone : s.look idx sub = .bad 1 := by simp [State.look, absent]
    exact refused_of_bad bs gone (by omega)
  · have top (op : Nat) (data : List Byte) : (s.taken hd op idx 0 data).look idx 0 = .top (topSub idx) := (taken_look ..).trans (look_top there)
    obtain ⟨low, high, present, above⟩ := topSub_spec there
    refine ⟨fun k => ⟨_, rfl, ?_⟩, fun k => ⟨_, rfl, ?_⟩, low, high, present, above, fun h0 hn => ?_⟩
    · have answer := (hostRead_answers k).1
      rwa [State.readOne, top] at answer
    · have code : (s.taken hd opWrite idx 0 bs).writeCode idx 0 bs = 3 := by rw [State.writeCode, top]
      have answer := (hostWrite_refused k (by omega)).1
      rwa [code] at answer
    · exact refused_of_bad bs (look_missing there h0 hn) (by omega)

end Sys2Proof.Machine
end

section
/-! PROOFS. The entries to RESET (O44). -/
namespace Sys2Proof.Machine

set_option Elab.async false

/-- `u` is the module in RESET, with what flash and its images held in `s` (R316). -/
structure State.ClearedFrom (s u : State) : Prop where
  tables : u = { State.reset with
    regs := u.regs, flash := s.flash, images := u.images, freeCtr := u.freeCtr, pending := s.pending }
  regs   : ∀ r i, ¬ (r ∈ [Reg.flashBad, .flashCur] ∧ i = 0) → u.rd r i = r.dflt i
  bad    : u.rd .flashBad 0 = s.rd .flashBad 0
  cur    : u.rd .flashCur 0 = s.rd .flashCur 0
  images : s.rd .imgBusy 0 = 0 → u.images = s.images

theorem toReset_clears (s : State) : s.ClearedFrom s.toReset := by
  have cut := interruptClose_keeps (M := State.interruptClose_may) (keeps_refl _ s)
  constructor
  case tables =>
    rw [← cut.flash (by decide +kernel), ← cut.pend]
    rfl
  case regs =>
    intro r i free
    have cur : ¬(r = .flashCur ∧ i = 0) := fun e => free ⟨by simp [e.1], e.2⟩
    have bad : ¬(r = .flashBad ∧ i = 0) := fun e => free ⟨by simp [e.1], e.2⟩
    rw [State.toReset, State.rd_wr, if_neg cur, State.rd_wr, if_neg bad]
    rfl
  case bad =>
    rw [State.toReset, State.rd_wr_ne _ _ _ _ (by decide), State.rd_wr_same]
    exact cut.rd _ _ (by decide +kernel)
  case cur =>
    rw [State.toReset, State.rd_wr_same]
    exact cut.rd _ _ (by decide +kernel)
  case images =>
    intro idle
    show s.interruptClose.images = s.images
    simp [State.interruptClose, idle]

/-- Time that goes on changes nothing that a reset keeps. -/
theorem State.ClearedFrom.of_at {s u : State} {t : Nat} (h : (s.at t).ClearedFrom u) : s.ClearedFrom u := by
  have time := at_keeps (M := State.at_may) t (keeps_refl _ s)
  obtain ⟨tables, regs, bad, cur, images⟩ := h
  rw [time.flash (by decide +kernel), time.pend] at tables
  rw [time.rd .flashBad 0 (by decide +kernel)] at bad
  rw [time.rd .flashCur 0 (by decide +kernel)] at cur
  rw [time.rd .imgBusy 0 (by decide +kernel), time.images (by decide +kernel)] at images
  exact ⟨tables, regs, bad, cur, images⟩

/-- Settles O44: every entry to RESET is `toReset`. -/
theorem resetsClearEverythingButFlash : Obligations.ResetsClearEverythingButFlash := by
  unfold Obligations.ResetsClearEverythingButFlash
  intro t s
  dsimp only
  obtain ⟨tables, regs, bad, cur, images⟩ := toReset_clears s
  refine ⟨⟨_, rfl, tables, regs, bad, cur, images⟩, ⟨_, rfl, tables, regs, bad, cur, images⟩,
    fun second => ⟨_, congrArg Host.Outcome.next (if_pos second), tables, regs, bad, cur, images⟩, fun asked due => ?_⟩
  obtain ⟨tables, regs, bad, cur, images⟩ := (toReset_clears (s.at t)).of_at
  refine ⟨_, congrArg Host.Outcome.next (if_pos ?_), tables, regs, bad, cur, images⟩
  simpa [asked] using due

end Sys2Proof.Machine
end

section
/-! PROOFS. Accepted writes (O54): an accepted write runs `applyWrite` on the module that has taken it, and its reply changes Q71 alone. -/
namespace Sys2Proof.Machine

set_option Elab.async false

-- queues under a push

theorem count_queue (s : State) (r : Reg) (i n w q : Nat) : (s.count r i n w).queue q = s.queue q := by
  unfold State.count
  split <;> rfl

/-- A push to a queue other than Q74 leaves every other queue alone, and adds the packet as the newest where it is taken (R266). -/
theorem push_spec (s : State) {q : Nat} (h : q ≠ 74) (p : Pkt) :
    (∀ j, j ≠ q → (s.push q p).1.queue j = s.queue j) ∧ ((s.push q p).2 = true → ((s.push q p).1.queue q).pkts = (s.queue q).pkts ++ [p]) := by
  unfold State.push
  extract_lets x0 cap x s1 y s2 s3 s4 s5 s6
  have before (j : Nat) : s1.queue j = s.queue j := count_queue s _ _ _ _ j
  have plain : x = s.queue q := if_neg h
  split
  · exact ⟨fun j _ => (count_queue ..).trans (before j), fun e => nomatch e⟩
  · have unwritten (j : Nat) : s2.queue j = s1.queue j := by
      unfold s2
      split <;> rfl
    have written (j : Nat) : s5.queue j = if j = q then y else s2.queue j := by
      unfold s5 s4 s3
      rw [count_queue, count_queue, State.queue_wrQueue]
    have last (j : Nat) : (s6.wr .COUNTER (16 + q) (max (s6.rd .COUNTER (16 + q)) y.depth)).queue j = s5.queue j := rfl
    refine ⟨fun j hj => ?_, fun _ => ?_⟩
    · rw [last, written, if_neg hj, unwritten, before]
    · rw [last, written, if_pos rfl]
      show x.pkts ++ [p] = _
      rw [plain]

-- the reply

section
variable (s : State) (hd : Hdr) (op idx sub : Nat) (data : List Byte)

theorem taken_queue (q : Nat) : (s.taken hd op idx sub data).queue q = s.queue q := by
  have queues : (s.taken hd op idx sub data).queues = s.queues := by
    rw [taken_eq]
    have received := (received_keeps s hd).queues (by decide +kernel)
    have kept := wrTag_keeps (M := may .REQUESTS ||| State.count_may ||| State.tally_may ||| State.wrTag_may) hd.tag
      ⟨some ((s.received hd).digest hd op idx sub data), true, none⟩
      (tally_keeps 224 1 (count_keeps .REQUESTS 0 1 64 (keeps_refl _ (s.received hd))))
    rw [kept.queues (by decide +kernel), received]
  rw [State.queue, queues, State.queue]

theorem complete'_queue (code : Nat) {q : Nat} (hq : q ≠ 71) : (s.complete' hd op idx sub code data).queue q = s.queue q := by
  unfold State.complete' State.sendOwn
  exact (push_spec _ (by decide) _).1 q hq

/-- The cycle in which a request is taken up. -/
theorem taken_now : (s.taken hd op idx sub data).now = (s.takeUp hd).now := by
  have kept : Keeps (State.contact_may ||| may .REQUESTS ||| State.count_may ||| State.tally_may ||| State.wrTag_may) (s.takeUp hd)
      (s.taken hd op idx sub data) := by
    rw [taken_eq]
    exact wrTag_keeps _ _ (tally_keeps _ _ (count_keeps _ _ _ _ (keeps_iff (keeps_refl _ _) (fun _ g => contact_keeps g))))
  exact congrArg Int.toNat (kept.rd .DEVICE_TIME 0 (by decide +kernel))

end

-- changes at one number

section
variable {s t u : State} {n : Nat} {own free : List Reg}

theorem onlyAt_refl (s : State) (n : Nat) (own free : List Reg) : s.OnlyAt s n own free := fun _ _ _ _ => rfl

theorem State.OnlyAt.wr (h : s.OnlyAt t n own free) (r : Reg) (v : Int) (hr : r ∈ own := by decide) : s.OnlyAt (t.wr r n v) n own free :=
  fun q i hf ho => by
    have apart : ¬(q = r ∧ i = n) := fun e => ho ⟨e.1 ▸ hr, e.2⟩
    rw [State.rd_wr, if_neg apart]
    exact h q i hf ho

theorem State.OnlyAt.wrFree (h : s.OnlyAt t n own free) (r : Reg) (i : Nat) (v : Int) (hr : r ∈ free := by decide) :
    s.OnlyAt (t.wr r i v) n own free := fun q j hf ho => by
  have apart : ¬(q = r ∧ j = i) := fun e => hf (e.1 ▸ hr)
  rw [State.rd_wr, if_neg apart]
  exact h q j hf ho

/-- A mask of the free registers and tables. -/
theorem State.OnlyAt.keeps {m : Nat} (h : s.OnlyAt t n own free) (k : Keeps m t u)
    (hm : m &&& (mayRegs free ||| mayTables) = m := by decide +kernel) : s.OnlyAt u n own free := fun r i hf ho =>
  (k.onlyRegs free hm r i hf).trans (h r i hf ho)

end

-- accepted writes

/-- What a request may change beside registers and queues. -/
def mayRequest : Nat := mayAll ||| may_queues ||| may_tags ||| may_freeCtr ||| may_was

/-- Beside what any request may change no table has changed. -/
def State.RequestRest (s t : State) : Prop :=
  { t with regs := s.regs, queues := s.queues, tags := s.tags, freeCtr := s.freeCtr, was := s.was } = s

theorem Keeps.requestRest {m : Nat} {s t : State} (h : Keeps m s t) (hm : m &&& mayRequest = m := by decide +kernel) : s.RequestRest t := by
  have h := h.mono hm
  unfold State.RequestRest
  simp only [h.pend, h.ledger (by decide +kernel), h.staged (by decide +kernel), h.planners (by decide +kernel), h.streams (by decide +kernel),
    h.slopes (by decide +kernel), h.bankA (by decide +kernel), h.bankB (by decide +kernel), h.planCopy (by decide +kernel),
    h.fallback (by decide +kernel), h.loading (by decide +kernel), h.progs (by decide +kernel), h.cutoffs (by decide +kernel),
    h.safes (by decide +kernel), h.calls (by decide +kernel), h.diag (by decide +kernel), h.images (by decide +kernel),
    h.chunks (by decide +kernel), h.flash (by decide +kernel), h.newSet (by decide +kernel), h.log (by decide +kernel),
    h.deferred (by decide +kernel), h.traceBuf (by decide +kernel), h.traceOut (by decide +kernel), h.opens (by decide +kernel),
    h.shadows (by decide +kernel), h.fresh (by decide +kernel), h.freshAt (by decide +kernel), h.runs (by decide +kernel),
    h.gateway (by decide +kernel), h.wire (by decide +kernel), h.delays (by decide +kernel)]

theorem State.RequestRest.trans {s t u : State} (h : s.RequestRest t) (g : t.RequestRest u) : s.RequestRest u := by
  unfold State.RequestRest at *
  calc { u with regs := s.regs, queues := s.queues, tags := s.tags, freeCtr := s.freeCtr, was := s.was }
    _ = { t with regs := s.regs, queues := s.queues, tags := s.tags, freeCtr := s.freeCtr, was := s.was } :=
        congrArg (fun x : State => { x with regs := s.regs, queues := s.queues, tags := s.tags, freeCtr := s.freeCtr, was := s.was }) g
    _ = s := h

/-- Number `n` of `own` and the registers of `free` written, and nothing else. -/
structure State.Writes (s t : State) (n : Nat) (own free : List Reg) : Prop where
  regs   : s.OnlyAt t n own free
  queues : t.queues = s.queues
  rest   : s.RequestRest t

section
variable {s t u : State} {n : Nat} {own free : List Reg}

theorem writes_refl (s : State) (n : Nat) (own free : List Reg) : s.Writes s n own free := ⟨onlyAt_refl s n own free, rfl, rfl⟩

theorem State.Writes.wr (h : s.Writes t n own free) (r : Reg) (v : Int) (hr : r ∈ own := by decide) : s.Writes (t.wr r n v) n own free :=
  ⟨h.regs.wr r v hr, h.queues, h.rest⟩

theorem State.Writes.wrFree (h : s.Writes t n own free) (r : Reg) (i : Nat) (v : Int) (hr : r ∈ free := by decide) :
    s.Writes (t.wr r i v) n own free := ⟨h.regs.wrFree r i v hr, h.queues, h.rest⟩

theorem State.Writes.ite {c : Prop} [Decidable c] (h : s.Writes t n own free) (g : s.Writes u n own free) :
    s.Writes (if c then t else u) n own free := by
  split <;> assumption

/-- A mask of the free registers, which holds no table but those that every request changes. -/
theorem State.Writes.keeps {m : Nat} (h : s.Writes t n own free) (k : Keeps m t u)
    (hm : m &&& (mayRegs free ||| mayTables) = m := by decide +kernel) (hr : m &&& mayRequest = m := by decide +kernel)
    (hq : m.testBit 2003 = false := by decide +kernel) : s.Writes u n own free where
  regs := h.regs.keeps k hm
  queues := (k.queues hq).trans h.queues
  rest := h.rest.trans (k.requestRest hr)

end

theorem objAt_of_accepted {s : State} {idx sub : Nat} {bs : List Byte} {p : Obj × Nat} (hc : s.writeCode idx sub bs = 0)
    (hf : findObj idx sub = some p) : s.objAt idx sub = some p := by
  unfold State.objAt
  unfold State.writeCode at hc
  unfold State.look at hc ⊢
  rw [hf] at hc ⊢
  split_ifs at hc ⊢
  rfl

section
variable {s t : State} {hd : Hdr} {idx sub : Nat} {bs : List Byte} {o : Obj} {i : Nat}

/-- An accepted write of an object of the tables has passed the ranks of R35. -/
theorem accepts_passed (k : s.Accepts hd idx sub bs) (hf : findObj idx sub = some (o, i)) : (s.taken hd opWrite idx sub bs).Passed o i bs :=
  passed_of_writeCode k.code (objAt_of_accepted k.code hf)

/-- What the host finds after an accepted write that has been applied as `t`. -/
theorem hostWrite_applied (k : s.Accepts hd idx sub bs) (hf : findObj idx sub = some (o, i))
    (ha : (s.taken hd opWrite idx sub bs).applyWrite o i bs = (t, false)) :
    (s.hostWrite hd idx sub bs).Answers hd 0 [] ∧ t.Quiet (s.hostWrite hd idx sub bs) ∧
      ∀ q, q ≠ 71 → (s.hostWrite hd idx sub bs).queue q = t.queue q := by
  have one : (s.taken hd opWrite idx sub bs).writeOne idx sub bs = (t, .done 0 []) := by
    simp [State.writeOne, k.code, objAt_of_accepted k.code hf, ha]
  obtain ⟨answer, quiet⟩ := hostWrite_accepted k.takes one
  refine ⟨answer, quiet, fun q hq => ?_⟩
  rw [State.hostWrite, transact_of_takes k.takes one, complete'_queue _ _ _ _ _ _ _ hq]

theorem onlyAt_applied (k : s.Accepts hd idx sub bs) (hf : findObj idx sub = some (o, i))
    (ha : (s.taken hd opWrite idx sub bs).applyWrite o i bs = (t, false)) {n : Nat} {own free : List Reg}
    (regs : (s.taken hd opWrite idx sub bs).OnlyAt t n own free) : s.OnlyAt (s.hostWrite hd idx sub bs) n own (free ++ requestRegs) := by
  have took := (quiet_refl s).taken hd opWrite idx sub bs
  obtain ⟨-, quiet, -⟩ := hostWrite_applied k hf ha
  intro r j hr ho
  obtain ⟨hfree, hreq⟩ := not_or.mp (mt List.mem_append.mpr hr)
  rw [quiet.regs r j hreq, regs r j hfree ho, took.regs r j hreq]

theorem onlyRegs_applied (k : s.Accepts hd idx sub bs) (hf : findObj idx sub = some (o, i))
    (ha : (s.taken hd opWrite idx sub bs).applyWrite o i bs = (t, false)) {l : List Reg}
    (regs : (s.taken hd opWrite idx sub bs).OnlyRegs t l) : s.OnlyRegs (s.hostWrite hd idx sub bs) (l ++ requestRegs) := fun r j hr =>
  onlyAt_applied (n := 0) (own := []) k hf ha (fun r j hr _ => regs r j hr) r j hr (fun e => absurd e.1 (List.not_mem_nil))

/-- A write that changes registers of its own alone, and the queues that it shares with any request. -/
theorem did_of_applied (k : s.Accepts hd idx sub bs) (hf : findObj idx sub = some (o, i))
    (ha : (s.taken hd opWrite idx sub bs).applyWrite o i bs = (t, false)) {n : Nat} {own free : List Reg}
    (w : (s.taken hd opWrite idx sub bs).Writes t n own free) : s.Did (s.hostWrite hd idx sub bs) hd n own free := by
  have took := (quiet_refl s).taken hd opWrite idx sub bs
  obtain ⟨answer, quiet, others⟩ := hostWrite_applied k hf ha
  constructor
  case answer => exact answer
  case regs => exact onlyAt_applied k hf ha w.regs
  case queue =>
    intro q hq
    rw [others q hq, State.queue, w.queues]
    exact taken_queue ..
  case rest => exact State.RequestRest.trans (State.RequestRest.trans took.rest w.rest) quiet.rest

end

-- values

theorem leNat_leBytes (n v : Nat) : leNat (leBytes n v) = v % 256 ^ n := by
  induction n generalizing v with
  | zero => simp [leBytes, leNat, Nat.mod_one]
  | succ n ih =>
    show (BitVec.ofNat 8 v).toNat + 256 * leNat (leBytes n (v / 256)) = _
    rw [ih, BitVec.toNat_ofNat, pow_succ' 256 n, Nat.mod_mul (a := 256)]

/-- A 48-bit value in its eight bytes survives. -/
theorem i48_leBytes {v : Int} (lo : -2 ^ 47 ≤ v) (hi : v < 2 ^ 47) : Ty.i48.value (leBytes 8 (unsigned 64 v)) = v := by
  have size : (256 : Nat) ^ 8 = 18446744073709551616 := by norm_num
  unfold Ty.value
  rw [leNat_leBytes, size]
  norm_num [signed, unsigned] at *
  omega

end Sys2Proof.Machine
end

section
/-! PROOFS. What the accepted writes to units, queues, the log, injection and counters do (O54). -/
namespace Sys2Proof.Machine

set_option Elab.async false

section
variable {s t : State} {h : Hdr} {idx sub : Nat} {bs : List Byte} {o : Obj} {i : Nat}

theorem taken_rd (hd : Hdr) (op idx sub : Nat) (data : List Byte) (r : Reg) (j : Nat) (hr : r ∉ requestRegs := by decide) :
    (s.taken hd op idx sub data).rd r j = s.rd r j := ((quiet_refl s).taken hd op idx sub data).regs r j hr

theorem taken_rdN (hd : Hdr) (op idx sub : Nat) (data : List Byte) (r : Reg) (j : Nat) (hr : r ∉ requestRegs := by decide) :
    (s.taken hd op idx sub data).rdN r j = s.rdN r j := congrArg Int.toNat (taken_rd hd op idx sub data r j hr)

/-- A register that no request changes by itself reads after the write as the write left it. -/
theorem rd_applied (k : s.Accepts h idx sub bs) (hf : findObj idx sub = some (o, i))
    (ha : (s.taken h opWrite idx sub bs).applyWrite o i bs = (t, false)) {r : Reg} {j : Nat} {v : Int} (hv : t.rd r j = v)
    (hr : r ∉ requestRegs := by decide) : (s.hostWrite h idx sub bs).rd r j = v := by
  obtain ⟨-, quiet, -⟩ := hostWrite_applied k hf ha
  exact (quiet.regs r j hr).trans hv

theorem leBytes_u8 {v : Nat} (hv : v < 256) : Ty.u8.value (leBytes 1 v) = v := by
  show ((leNat (leBytes 1 v) : Nat) : Int) = v
  rw [leNat_leBytes, Nat.mod_eq_of_lt (by omega)]

theorem leBytes_u32 {v : Nat} (hv : v < 2 ^ 32) : Ty.u32.value (leBytes 4 v) = v := by
  show ((leNat (leBytes 4 v) : Nat) : Int) = v
  rw [leNat_leBytes, Nat.mod_eq_of_lt (by omega)]

end

-- writes that note what is asked (R39, R177, R180, R203, R350)

section
variable {s : State} {h : Hdr} {n : Fin 64} {c : Fin 16} {v : Nat}

theorem findObj_chPreset (c : Fin 16) : findObj (0x4000 + c) 0x1B = some (⟨.CH_PRESET, 0x4000, 0x1, 16, 27, 1, .i48, .wo, []⟩, c.val) := by
  revert c
  decide +kernel

theorem chPreset_request {v : Int} (lo : -2 ^ 47 ≤ v) (hi : v < 2 ^ 47) (k : s.Accepts h (0x4000 + c) 0x1B (leBytes 8 (unsigned 64 v))) :
    let u := s.hostWrite h (0x4000 + c) 0x1B (leBytes 8 (unsigned 64 v))
    s.Did u h c [.prePend, .preVal] [] ∧ u.rd .prePend c = 1 ∧ u.rd .preVal c = v := by
  let w := s.taken h opWrite (0x4000 + c) 0x1B (leBytes 8 (unsigned 64 v))
  have applied : w.applyWrite ⟨.CH_PRESET, 0x4000, 0x1, 16, 27, 1, .i48, .wo, []⟩ c (leBytes 8 (unsigned 64 v)) =
      ((w.wr .prePend c 1).wr .preVal c v, false) := by
    show ((w.wr .prePend c 1).wr .preVal c (Ty.i48.value _), false) = _
    rw [i48_leBytes lo hi]
  refine ⟨did_of_applied k (findObj_chPreset c) applied (((writes_refl w c _ _).wr .prePend 1).wr .preVal v), ?_, ?_⟩
  · exact rd_applied k (findObj_chPreset c) applied ((State.rd_wr_ne _ _ _ _ (by decide)).trans (State.rd_wr_same ..))
  · exact rd_applied k (findObj_chPreset c) applied (State.rd_wr_same ..)

theorem findObj_fbAlign (n : Fin 64) : findObj (axisIdx 0x81 n) 6 = some (⟨.FB_ALIGN, 0x8081, 0x100, 64, 6, 1, .bool, .wo, [(1, 1)]⟩, n.val) := by
  revert n
  decide +kernel

theorem fbAlign_request (k : s.Accepts h (axisIdx 0x81 n) 6 [1]) :
    let u := s.hostWrite h (axisIdx 0x81 n) 6 [1]
    s.Did u h n [.fbAlignPend] [] ∧ u.rd .fbAlignPend n = 1 := by
  let w := s.taken h opWrite (axisIdx 0x81 n) 6 [1]
  have applied : w.applyWrite ⟨.FB_ALIGN, 0x8081, 0x100, 64, 6, 1, .bool, .wo, [(1, 1)]⟩ n [1] = (w.wr .fbAlignPend n 1, false) := rfl
  exact ⟨did_of_applied k (findObj_fbAlign n) applied ((writes_refl w n _ _).wr .fbAlignPend 1),
    rd_applied k (findObj_fbAlign n) applied (State.rd_wr_same ..)⟩

theorem findObj_cvRestart (c : Fin 16) : findObj (0x3100 + c) 0x20 = some (⟨.CV_RESTART, 0x3100, 0x1, 16, 32, 1, .bool, .wo, [(1, 1)]⟩, c.val) := by
  revert c
  decide +kernel

theorem cvRestart_request (k : s.Accepts h (0x3100 + c) 0x20 [1]) :
    let u := s.hostWrite h (0x3100 + c) 0x20 [1]
    s.Did u h c [.scOn] [] ∧ u.rd .scOn c = ((s.takeUp h).now : Int) + 1 := by
  let w := s.taken h opWrite (0x3100 + c) 0x20 [1]
  have applied : w.applyWrite ⟨.CV_RESTART, 0x3100, 0x1, 16, 32, 1, .bool, .wo, [(1, 1)]⟩ c [1] = (w.startSelfCheck c, false) := rfl
  have now : ((w.now + 1 : Nat) : Int) = ((s.takeUp h).now : Int) + 1 := by
    rw [taken_now, Nat.cast_add, Nat.cast_one]
  exact ⟨did_of_applied k (findObj_cvRestart c) applied ((writes_refl w c _ _).wr .scOn _),
    rd_applied k (findObj_cvRestart c) applied ((State.rd_wr_same ..).trans now)⟩

theorem findObj_logSeen : findObj 0x2001 2 = some (⟨.LOG_SEEN, 0x2001, 0x1, 1, 2, 1, .u32, .rw, []⟩, 0) := by decide +kernel

theorem logSeen_request (hv : v < 2 ^ 32) (k : s.Accepts h 0x2001 2 (leBytes 4 v)) :
    let u := s.hostWrite h 0x2001 2 (leBytes 4 v)
    s.Did u h 0 [.LOG_SEEN] [] ∧ u.rd .LOG_SEEN 0 = v := by
  let w := s.taken h opWrite 0x2001 2 (leBytes 4 v)
  have applied : w.applyWrite ⟨.LOG_SEEN, 0x2001, 0x1, 1, 2, 1, .u32, .rw, []⟩ 0 (leBytes 4 v) = (w.wr .LOG_SEEN 0 v, false) := by
    show (w.wr .LOG_SEEN 0 (Ty.u32.value _), false) = _
    rw [leBytes_u32 hv]
  exact ⟨did_of_applied k findObj_logSeen applied ((writes_refl w 0 _ _).wr .LOG_SEEN v),
    rd_applied k findObj_logSeen applied (State.rd_wr_same ..)⟩

theorem findObj_injectArm : findObj 0x2005 3 = some (⟨.INJECT_ARM, 0x2005, 0x1, 1, 3, 1, .bool, .wo, [(1, 1)]⟩, 0) := by decide +kernel

theorem injectArm_request (k : s.Accepts h 0x2005 3 (leBytes 1 v)) :
    let u := s.hostWrite h 0x2005 3 (leBytes 1 v)
    s.Did u h 0 [.INJECT_STATE, .injectAt] [] ∧ u.rd .INJECT_STATE 0 = 1 ∧ u.rd .injectAt 0 = (s.takeUp h).now := by
  let w := s.taken h opWrite 0x2005 3 (leBytes 1 v)
  have applied : w.applyWrite ⟨.INJECT_ARM, 0x2005, 0x1, 1, 3, 1, .bool, .wo, [(1, 1)]⟩ 0 (leBytes 1 v) =
      ((w.wr .INJECT_STATE 0 1).wr .injectAt 0 w.now, false) := rfl
  refine ⟨did_of_applied k findObj_injectArm applied (((writes_refl w 0 _ _).wr .INJECT_STATE 1).wr .injectAt w.now), ?_, ?_⟩
  · exact rd_applied k findObj_injectArm applied ((State.rd_wr_ne _ _ _ _ (by decide)).trans (State.rd_wr_same ..))
  · exact rd_applied k findObj_injectArm applied ((State.rd_wr_same ..).trans (congrArg Nat.cast (taken_now ..)))

theorem findObj_stageDiscard : findObj 0x1030 4 = some (⟨.STAGE_DISCARD, 0x1030, 0x1, 1, 4, 1, .bool, .wo, [(1, 1)]⟩, 0) := by decide +kernel

theorem stageDiscard_request (k : s.Accepts h 0x1030 4 [1]) :
    let u := s.hostWrite h 0x1030 4 [1]
    u.Answers h 0 [] ∧ u.staged = [] ∧ s.OnlyRegs u requestRegs := by
  let w := s.taken h opWrite 0x1030 4 [1]
  have applied : w.applyWrite ⟨.STAGE_DISCARD, 0x1030, 0x1, 1, 4, 1, .bool, .wo, [(1, 1)]⟩ 0 [1] = ({ w with staged := [] }, false) := rfl
  obtain ⟨answer, quiet, -⟩ := hostWrite_applied k findObj_stageDiscard applied
  exact ⟨answer, quiet.staged, onlyRegs_applied (l := []) k findObj_stageDiscard applied fun _ _ _ => rfl⟩

theorem findObj_ackOrdinal : findObj 0x2001 1 = some (⟨.ACK_ORDINAL, 0x2001, 0x1, 1, 1, 1, .u32, .rw, []⟩, 0) := by decide +kernel

theorem ackOrdinal_request (hv : v < 2 ^ 32) (k : s.Accepts h 0x2001 1 (leBytes 4 v)) :
    let u := s.hostWrite h 0x2001 1 (leBytes 4 v)
    s.Did u h 0 [.ACK_ORDINAL, .HEAD_FIRST, .HEAD_LAST, .headDone] [] ∧ u.rd .ACK_ORDINAL 0 = v ∧
      (s.rd .HEAD_FIRST 0 ≠ 0 → s.rd .headDone 0 = 1 → s.rd .HEAD_LAST 0 ≤ v → u.rd .HEAD_FIRST 0 = 0 ∧ u.rd .HEAD_LAST 0 = 0) := by
  let w := s.taken h opWrite 0x2001 1 (leBytes 4 v)
  let x := w.wr .ACK_ORDINAL 0 v
  have applied : w.applyWrite ⟨.ACK_ORDINAL, 0x2001, 0x1, 1, 1, 1, .u32, .rw, []⟩ 0 (leBytes 4 v) = (x.releaseHead, false) := by
    show ((w.wr .ACK_ORDINAL 0 (Ty.u32.value _)).releaseHead, false) = _
    rw [leBytes_u32 hv]
  have acked : x.rd .ACK_ORDINAL 0 = v := State.rd_wr_same ..
  have before {r : Reg} (hr : r ∉ requestRegs) (ne : r ≠ .ACK_ORDINAL) : x.rd r 0 = s.rd r 0 :=
    (State.rd_wr_ne _ _ _ _ ne).trans (taken_rd _ _ _ _ _ r 0 hr)
  have own : w.Writes x 0 [.ACK_ORDINAL, .HEAD_FIRST, .HEAD_LAST, .headDone] [] := (writes_refl w 0 _ _).wr .ACK_ORDINAL v
  have kept : Keeps State.releaseHead_may x x.releaseHead := releaseHead_keeps (keeps_refl _ x) may_self
  refine ⟨did_of_applied k findObj_ackOrdinal applied ?_, ?_, fun opened done le => ?_⟩
  · exact ((own.wr .HEAD_FIRST 0).wr .HEAD_LAST 0).wr .headDone 0 |>.ite own
  · exact rd_applied k findObj_ackOrdinal applied ((kept.rd .ACK_ORDINAL 0 (by decide +kernel)).trans acked)
  · have released : x.releaseHead = ((x.wr .HEAD_FIRST 0 0).wr .HEAD_LAST 0 0).wr .headDone 0 0 := by
      have head : x.rd .HEAD_FIRST 0 ≠ 0 := (before (by decide) (by decide)).trans_ne opened
      have complete : x.rd .headDone 0 = 1 := (before (by decide) (by decide)).trans done
      have last : x.rd .HEAD_LAST 0 ≤ v := (before (by decide) (by decide)).trans_le le
      refine if_pos ?_
      simp [head, complete, last, acked]
    constructor
    · exact rd_applied k findObj_ackOrdinal applied (by rw [released, State.rd_wr_ne, State.rd_wr_ne, State.rd_wr_same] <;> decide)
    · exact rd_applied k findObj_ackOrdinal applied (by rw [released, State.rd_wr_ne, State.rd_wr_same]; decide)

theorem findObj_latchSrc (c : Fin 16) : findObj (0x4000 + c) 0x17 = some (⟨.LATCH_SRC, 0x4000, 0x1, 16, 23, 1, .u8, .rw, [(0, 3)]⟩, c.val) := by
  revert c
  decide +kernel

theorem latchSrc_request (hv : v < 256) (k : s.Accepts h (0x4000 + c) 0x17 (leBytes 1 v)) :
    let u := s.hostWrite h (0x4000 + c) 0x17 (leBytes 1 v)
    u.Answers h 0 [] ∧ u.rd .LATCH_SRC c = v ∧ u.rd .latchArmed c = (if v = 0 then 0 else 1) ∧
      s.OnlyAt u c [.LATCH_SRC, .latchArmed, .latchDone] (faultRegs ++ requestRegs) := by
  let w := s.taken h opWrite (0x4000 + c) 0x17 (leBytes 1 v)
  let x := w.wr .LATCH_SRC c v
  let y := x.wr .latchArmed c (ofBool (x.rd .LATCH_SRC c ≠ 0))
  have applied : w.applyWrite ⟨.LATCH_SRC, 0x4000, 0x1, 16, 23, 1, .u8, .rw, [(0, 3)]⟩ c (leBytes 1 v) = ((y.latchTime c).checkSync, false) := by
    show (((w.wr .LATCH_SRC c (Ty.u8.value _)).armLatch c).checkSync, false) = _
    rw [leBytes_u8 hv]
    rfl
  have chosen : x.rd .LATCH_SRC c = v := State.rd_wr_same ..
  have armed : y.rd .latchArmed c = if v = 0 then 0 else 1 := by
    refine (State.rd_wr_same ..).trans ?_
    by_cases zero : v = 0 <;> simp [chosen, ofBool, zero]
  have kept : Keeps State.checkSync_may (y.latchTime c) (y.latchTime c).checkSync := checkSync_keeps (keeps_refl _ _) may_self
  have fromY : Keeps (State.latchTime_may ||| State.checkSync_may) y (y.latchTime c).checkSync :=
    checkSync_keeps (latchTime_keeps c (keeps_refl _ y))
  have own : w.OnlyAt (y.latchTime c) c [.LATCH_SRC, .latchArmed, .latchDone] faultRegs :=
    (((onlyAt_refl w c _ _).wr .LATCH_SRC v).wr .latchArmed _).wr .latchDone _
  obtain ⟨answer, -, -⟩ := hostWrite_applied k (findObj_latchSrc c) applied
  refine ⟨answer, ?_, ?_, onlyAt_applied k (findObj_latchSrc c) applied (own.keeps kept)⟩
  · exact rd_applied k (findObj_latchSrc c) applied
      ((fromY.rd .LATCH_SRC c (by decide +kernel)).trans ((State.rd_wr_ne _ _ _ _ (by decide)).trans chosen))
  · exact rd_applied k (findObj_latchSrc c) applied ((fromY.rd .latchArmed c (by decide +kernel)).trans armed)

theorem findObj_release (q : Fin 80) : findObj (0x5000 + q) 0x0C = some (⟨.RELEASE, 0x5000, 0x1, 80, 12, 1, .bool, .wo, [(1, 1)]⟩, q.val) := by
  revert q
  decide +kernel

theorem setHeld_writes {x y : State} {n : Nat} {own : List Reg} (hy : x.Writes y n own [.HELD_LO, .HELD_HI]) (b : Bool)
    (hn : Reg.HELD ∈ own := by decide) : x.Writes (y.setHeld n b) n own [.HELD_LO, .HELD_HI] :=
  ((hy.wr .HELD (ofBool b) hn).wrFree .HELD_LO 0 _).ite ((hy.wr .HELD (ofBool b) hn).wrFree .HELD_HI 0 _)

theorem setHeld_held (x : State) (q : Nat) (b : Bool) : (x.setHeld q b).rd .HELD q = ofBool b := by
  have written : (x.wr .HELD q (ofBool b)).rd .HELD q = ofBool b := State.rd_wr_same ..
  unfold State.setHeld
  split
  · exact (State.rd_wrBit_ne _ _ _ _ _ (by decide)).trans written
  · exact (State.rd_wrBit_ne _ _ _ _ _ (by decide)).trans written

theorem release_request {q : Fin 80} (k : s.Accepts h (0x5000 + q) 0x0C [1]) :
    let u := s.hostWrite h (0x5000 + q) 0x0C [1]
    s.Did u h q [.HELD, .qVoid] [.HELD_LO, .HELD_HI] ∧
      (s.rd .HELD q = 1 → u.rd .HELD q = 0 ∧ u.rd .qVoid q = (max (s.rdN .qVoid q) ((s.takeUp h).now + 1) : Nat)) := by
  let w := s.taken h opWrite (0x5000 + q) 0x0C [1]
  have applied : w.applyWrite ⟨.RELEASE, 0x5000, 0x1, 80, 12, 1, .bool, .wo, [(1, 1)]⟩ q [1] = (w.releaseQueue q, false) := rfl
  have kept : Keeps State.releaseQueue_may w (w.releaseQueue q) := releaseQueue_keeps q (keeps_refl _ w) may_self
  have eased : Keeps State.setHeld_may w (w.setHeld q false) := setHeld_keeps q false (keeps_refl _ w) may_self
  refine ⟨did_of_applied k (findObj_release q) applied ?_, fun held => ?_⟩
  · exact ((setHeld_writes (writes_refl w q _ _) false).wr .qVoid _).ite (writes_refl w q _ _)
  · have released : w.releaseQueue q = (w.setHeld q false).wr .qVoid q (max (w.rdN .qVoid q) (w.now + 1) : Nat) :=
      if_pos ((taken_rd ..).trans held)
    constructor
    · exact rd_applied k (findObj_release q) applied (by rw [released, State.rd_wr_ne _ _ _ _ (by decide), setHeld_held]; rfl)
    · refine rd_applied k (findObj_release q) applied ?_
      rw [released, State.rd_wr_same, taken_rdN _ _ _ _ _ .qVoid, taken_now]

theorem findObj_counterFreeze : findObj 0x7300 1 = some (⟨.COUNTER_FREEZE, 0x7300, 0x1, 1, 1, 1, .bool, .wo, [(1, 1)]⟩, 0) := by decide +kernel

/-- A register written number by number, each with what the state at the start says of it. -/
theorem rd_forAll_wr (s : State) (r : Reg) {f : State → Nat → Int} (hf : ∀ (y : State) (i j : Nat) (v : Int), f (y.wr r i v) j = f y j) (n : Nat)
    (q : Reg) (j : Nat) : (s.forAll n (fun y i => y.wr r i (f y i))).rd q j = if q = r ∧ j < n then f s j else s.rd q j := by
  have steps (m : Nat) : (s.forAll (m + 1) (fun y i => y.wr r i (f y i))) =
      (s.forAll m (fun y i => y.wr r i (f y i))).wr r m (f (s.forAll m (fun y i => y.wr r i (f y i))) m) := by
    simp [State.forAll, List.range_succ]
  have same (m k : Nat) : f (s.forAll m (fun y i => y.wr r i (f y i))) k = f s k := by
    induction m with
    | zero => rfl
    | succ m ih => rw [steps, hf, ih]
  induction n with
  | zero => simp [State.forAll]
  | succ n ih =>
    rw [steps, same, State.rd_wr, ih]
    by_cases here : q = r ∧ j = n
    · simp [here]
    · grind

theorem counterFreeze_request (k : s.Accepts h 0x7300 1 [1]) :
    let u := s.hostWrite h 0x7300 1 [1]
    s.Did u h 0 [] [.COUNTER_FROZEN] ∧ ∀ k, k < 256 → u.rd .COUNTER_FROZEN k = (s.taken h opWrite 0x7300 1 [1]).rd .COUNTER k := by
  let w := s.taken h opWrite 0x7300 1 [1]
  let x := w.forAll 256 (fun y i => y.wr .COUNTER_FROZEN i (y.rd .COUNTER i))
  have applied : w.applyWrite ⟨.COUNTER_FREEZE, 0x7300, 0x1, 1, 1, 1, .bool, .wo, [(1, 1)]⟩ 0 [1] = (x, false) := rfl
  have kept : Keeps (may .COUNTER_FROZEN) w x := keeps_forAll (keeps_refl _ w) fun _ _ g => keeps_wr g _ _ _ may_self
  have frozen := rd_forAll_wr w .COUNTER_FROZEN (f := fun y i => y.rd .COUNTER i) (fun y _ _ _ => State.rd_wr_ne y _ _ _ (by decide)) 256
  refine ⟨did_of_applied k findObj_counterFreeze applied ?_, fun j hj => ?_⟩
  · exact (writes_refl w 0 _ _).keeps kept
  · exact rd_applied k findObj_counterFreeze applied ((frozen .COUNTER_FROZEN j).trans (if_pos ⟨rfl, hj⟩))

end

end Sys2Proof.Machine
end

section
/-! PROOFS. Urgent requests and calibration (O54; R197, R205, R206). -/
namespace Sys2Proof.Machine

set_option Elab.async false

-- urgent requests (R197)

section
variable (s : State) (c at' : Nat)

/-- The registers of what a converter converts next. -/
def nextRegs : List Reg := [.cvUrg, .cvCur, .cvEnt, .cvFrom, .cvPos]

theorem cvBegin_writes {x : State} (hx : x.Writes s c nextRegs []) (kind ent : Nat) : x.Writes (s.cvBegin c kind ent at') c nextRegs [] :=
  have due := ((hx.wr .cvCur kind).wr .cvEnt ent).wr .cvFrom _
  (due.wr .cvPos _).ite due

theorem cvNext_writes {x : State} (hx : x.Writes s c nextRegs []) : x.Writes (s.cvNext c at') c nextRegs [] := by
  have idle := hx.wr .cvCur 0
  have begins (kind ent a : Nat) := cvBegin_writes (s.wr .cvCur c 0) c a idle kind ent
  exact idle.ite ((begins ..).ite ((begins ..).ite ((begins ..).ite idle)))

theorem cvRuns_congr {x y : State} (mode : y.rd .CV_MODE c = x.rd .CV_MODE c) (state : y.rd .CV_STATE c = x.rd .CV_STATE c)
    (module : y.rd .MODE 0 = x.rd .MODE 0) : y.cvRuns c = x.cvRuns c := by
  unfold State.cvRuns State.mode State.rdN
  rw [mode, state, module]

theorem cvBegin_cvCur (kind ent : Nat) (hk : kind ≠ 1) : (s.cvBegin c kind ent at').rd .cvCur c = kind := by
  unfold State.cvBegin
  rw [if_neg hk, State.rd_wr_ne _ _ _ _ (by decide), State.rd_wr_ne _ _ _ _ (by decide), State.rd_wr_same]

/-- A held urgent request is what a running converter that is free takes next. -/
theorem cvNext_urgent (runs : s.cvRuns c = true) (urgent : s.rd .cvUrg c ≠ 0) : (s.cvNext c at').rd .cvCur c = 2 := by
  have same {r : Reg} (j : Nat) (ne : r ≠ .cvCur) : (s.wr .cvCur c 0).rd r j = s.rd r j := State.rd_wr_ne _ _ _ _ ne
  have going : (s.wr .cvCur c 0).cvRuns c = true :=
    (cvRuns_congr c (same c (by decide)) (same c (by decide)) (same 0 (by decide))).trans runs
  have held : (s.wr .cvCur c 0).rd .cvUrg c ≠ 0 := (same c (by decide)).trans_ne urgent
  have next : s.cvNext c at' = (s.wr .cvCur c 0).cvBegin c 2 15 at' := (if_neg (by simp [going])).trans (if_pos held)
  rw [next, cvBegin_cvCur _ _ _ _ _ (by decide)]
  rfl

theorem askUrgent_cvUrg (v : Nat) : (s.askUrgent c v).rd .cvUrg c = (v : Int) + 1 := by
  have asked : (s.seqCatch.wr .cvUrg c (v + 1 : Nat)).rd .cvUrg c = (v : Int) + 1 := by rw [State.rd_wr_same]; rfl
  have next (x : State) (a : Nat) : (x.cvNext c a).rd .cvUrg c = x.rd .cvUrg c :=
    (cvNext_keeps c a (keeps_refl State.cvNext_may x)).rd .cvUrg c (by decide +kernel)
  unfold State.askUrgent
  dsimp only
  split
  · exact (next ..).trans asked
  · split
    · exact (next ..).trans ((State.rd_wr_ne _ _ _ _ (by decide)).trans asked)
    · exact asked

/-- Entry `cvEnt` of converter `c` only waits for its slot (R197). -/
abbrev State.waitsSlot : Prop := s.rd .cvCur c = 1 ∧ 2 * s.now + cka s.powerUp < s.rdN .cvFrom c

theorem waitsSlot_iff {x y : State} (cur : y.rd .cvCur c = x.rd .cvCur c) (due : y.rd .cvFrom c = x.rd .cvFrom c)
    (module : y.rd .MODE 0 = x.rd .MODE 0) : y.waitsSlot c ↔ x.rd .cvCur c = 1 ∧ 2 * y.now + cka x.powerUp < x.rdN .cvFrom c := by
  unfold State.waitsSlot State.powerUp State.mode State.rdN
  rw [cur, due, module]

section
variable {s} (untriggered : s.rd .trigHeld 0 ≠ 1) (v : Nat)
include untriggered

theorem seqCatch_untriggered : s.seqCatch = s := if_neg (by simp [untriggered])

theorem askUrgent_writes : s.Writes (s.askUrgent c v) c nextRegs [] := by
  have asked := (writes_refl s c nextRegs []).wr .cvUrg (v + 1 : Nat)
  unfold State.askUrgent
  rw [seqCatch_untriggered untriggered]
  exact (cvNext_writes _ c _ asked).ite ((cvNext_writes _ c _ (asked.wr .cvPos _)).ite asked)

/-- What an urgent request asks first: is the converter free, and does its entry only wait for its slot? -/
theorem askUrgent_eq : s.askUrgent c v =
    let x := s.wr .cvUrg c (v + 1 : Nat)
    if s.rd .cvCur c = 0 then x.cvNext c x.ckaNow
    else if s.waitsSlot c then (x.wr .cvPos c (s.rd .cvEnt c + 1)).cvNext c x.ckaNow else x := by
  have same {r : Reg} (j : Nat) (ne : r ≠ .cvUrg) : (s.wr .cvUrg c (v + 1 : Nat)).rd r j = s.rd r j := State.rd_wr_ne _ _ _ _ ne
  have slot := waitsSlot_iff c (same c (by decide)) (same c (by decide)) (same 0 (by decide))
  rw [show (s.wr .cvUrg c (v + 1 : Nat)).now = s.now from congrArg Int.toNat (same 0 (by decide))] at slot
  unfold State.askUrgent
  rw [seqCatch_untriggered untriggered]
  refine if_congr (by rw [same c (by decide)]) rfl (if_congr ?_ ?_ rfl)
  · rw [Bool.and_eq_true, decide_eq_true_eq, decide_eq_true_eq]
    exact slot
  · rw [same c (by decide)]

/-- A running converter that is free, or whose entry only waits for its slot, takes the request at once. -/
theorem askUrgent_takes (runs : s.cvRuns c = true) (h : s.rd .cvCur c = 0 ∨ s.waitsSlot c) : (s.askUrgent c v).rd .cvCur c = 2 := by
  have same {r : Reg} (j : Nat) (ne : r ≠ .cvUrg) : (s.wr .cvUrg c (v + 1 : Nat)).rd r j = s.rd r j := State.rd_wr_ne _ _ _ _ ne
  have going := (cvRuns_congr c (same c (by decide)) (same c (by decide)) (same 0 (by decide))).trans runs
  have urgent : (s.wr .cvUrg c (v + 1 : Nat)).rd .cvUrg c ≠ 0 := by
    rw [State.rd_wr_same]
    omega
  rw [askUrgent_eq c untriggered]
  dsimp only
  split
  · exact cvNext_urgent _ _ _ going urgent
  · next busy =>
    rw [if_pos (h.resolve_left busy)]
    have moved {r : Reg} (j : Nat) (ne : r ≠ .cvPos) (x : Int) : ((s.wr .cvUrg c (v + 1 : Nat)).wr .cvPos c x).rd r j = _ := State.rd_wr_ne _ _ _ _ ne
    exact cvNext_urgent _ _ _ ((cvRuns_congr c (moved c (by decide) _) (moved c (by decide) _) (moved 0 (by decide) _)).trans going)
      ((moved c (by decide) _).trans_ne urgent)

/-- A conversion under way goes on. -/
theorem askUrgent_goesOn (busy : s.rd .cvCur c ≠ 0) (under : ¬ s.waitsSlot c) : s.askUrgent c v = s.wr .cvUrg c (v + 1 : Nat) := by
  rw [askUrgent_eq c untriggered]
  exact (if_neg busy).trans (if_neg under)

end

end

section
variable {s : State} {h : Hdr} {c : Fin 16} {v : Nat}

theorem findObj_urgentReq (c : Fin 16) : findObj (0x3100 + c) 0x1C = some (⟨.URGENT_REQ, 0x3100, 0x1, 16, 28, 1, .u8, .wo, [(0, 63)]⟩, c.val) := by
  revert c
  decide +kernel

theorem urgentReq_request (hv : v < 256) (k : s.Accepts h (0x3100 + c) 0x1C (leBytes 1 v)) :
    let now := (s.takeUp h).now
    let u := s.hostWrite h (0x3100 + c) 0x1C (leBytes 1 v)
    u.Answers h 0 [] ∧ u.rd .cvUrg c = (v : Int) + 1 ∧ (s.rd .trigHeld 0 ≠ 1 →
      let waits := s.rd .cvCur c = 1 ∧ 2 * now + cka s.powerUp < s.rdN .cvFrom c;
      s.Did u h c [.cvUrg, .cvCur, .cvEnt, .cvFrom, .cvPos] [] ∧ (s.cvRuns c = true → s.rd .cvCur c = 0 ∨ waits → u.rd .cvCur c = 2) ∧
        (s.rd .cvCur c ≠ 0 → ¬ waits → u.rd .cvCur c = s.rd .cvCur c ∧ u.rd .cvFrom c = s.rd .cvFrom c)) := by
  let w := s.taken h opWrite (0x3100 + c) 0x1C (leBytes 1 v)
  have applied : w.applyWrite ⟨.URGENT_REQ, 0x3100, 0x1, 16, 28, 1, .u8, .wo, [(0, 63)]⟩ c (leBytes 1 v) = (w.askUrgent c v, false) := by
    show (w.askUrgent c (Ty.u8.value _).toNat, false) = _
    rw [leBytes_u8 hv]
    rfl
  have before (r : Reg) (j : Nat) (hr : r ∉ requestRegs) : w.rd r j = s.rd r j := taken_rd _ _ _ _ _ r j hr
  obtain ⟨answer, -, -⟩ := hostWrite_applied k (findObj_urgentReq c) applied
  refine ⟨answer, rd_applied k (findObj_urgentReq c) applied (askUrgent_cvUrg ..), fun quiet => ?_⟩
  have untriggered : w.rd .trigHeld 0 ≠ 1 := (before .trigHeld 0 (by decide)).trans_ne quiet
  have slot := waitsSlot_iff (y := w) c (before .cvCur c (by decide)) (before .cvFrom c (by decide)) (before .MODE 0 (by decide))
  rw [show w.now = (s.takeUp h).now from taken_now ..] at slot
  refine ⟨did_of_applied k (findObj_urgentReq c) applied (askUrgent_writes c untriggered v), fun runs due => ?_, fun busy under => ?_⟩
  · have going := (cvRuns_congr (y := w) c (before .CV_MODE c (by decide)) (before .CV_STATE c (by decide)) (before .MODE 0 (by decide))).trans runs
    exact rd_applied k (findObj_urgentReq c) applied
      (askUrgent_takes c untriggered v going (due.imp (before .cvCur c (by decide)).trans slot.mpr))
  · have goesOn := askUrgent_goesOn c untriggered v ((before .cvCur c (by decide)).trans_ne busy) (mt slot.mp under)
    constructor
    · refine rd_applied k (findObj_urgentReq c) applied ?_
      rw [goesOn, State.rd_wr_ne _ _ _ _ (by decide), before .cvCur c (by decide)]
    · refine rd_applied k (findObj_urgentReq c) applied ?_
      rw [goesOn, State.rd_wr_ne _ _ _ _ (by decide), before .cvFrom c (by decide)]

end

-- calibration points (R205)

section
variable (s : State) (k : Nat)

/-- The point noted: which one, of which converter and gain, and since when. -/
def State.pointNoted : State :=
  (((s.wr .calBusy 0 k).wr .calAt 0 s.now).wr .calC 0 (s.rdN .CAL_CONV 0)).wr .calG 0 (s.rdN .CAL_GAIN 0)

theorem pointNoted_cvState : (s.pointNoted k).rd .CV_STATE (s.rdN .CAL_CONV 0) = s.rd .CV_STATE (s.rdN .CAL_CONV 0) :=
  (keeps_wr (keeps_wr (keeps_wr (keeps_wr (keeps_refl (may .calBusy ||| may .calAt ||| may .calC ||| may .calG) s) .calBusy 0 k (by decide +kernel))
    .calAt 0 _ (by decide +kernel)) .calC 0 _ (by decide +kernel)) .calG 0 _ (by decide +kernel)).rd .CV_STATE _ (by decide +kernel)

theorem startPoint_eq : s.startPoint k = if s.rd .CV_STATE (s.rdN .CAL_CONV 0) = 3 then (s.pointNoted k).voidPoint
    else ((s.pointNoted k).wr .CV_STATE (s.rdN .CAL_CONV 0) 5).wr .cvCur (s.rdN .CAL_CONV 0) 0 :=
  if_congr (Iff.of_eq (congrArg (· = 3) (pointNoted_cvState s k))) rfl rfl

/-- The point is of the selected converter and gain and starts now, void or not. -/
theorem startPoint_notes : (s.startPoint k).rd .calAt 0 = s.now ∧ (s.startPoint k).rd .calC 0 = s.rdN .CAL_CONV 0 ∧
    (s.startPoint k).rd .calG 0 = s.rdN .CAL_GAIN 0 := by
  have kept : Keeps (State.voidPoint_may ||| may .CV_STATE ||| may .cvCur) (s.pointNoted k) (s.startPoint k) := by
    rw [startPoint_eq]
    split
    · exact voidPoint_keeps (keeps_refl _ _)
    · exact keeps_wr (keeps_wr (keeps_refl _ _) .CV_STATE _ 5 (by decide +kernel)) .cvCur _ 0 (by decide +kernel)
  rw [kept.rd .calAt 0 (by decide +kernel), kept.rd .calC 0 (by decide +kernel), kept.rd .calG 0 (by decide +kernel)]
  simp [State.pointNoted, State.rd_wr]

theorem startPoint_runs (sound : s.rd .CV_STATE (s.rdN .CAL_CONV 0) ≠ 3) :
    (s.startPoint k).rd .calBusy 0 = k ∧ (s.startPoint k).rd .CV_STATE (s.rdN .CAL_CONV 0) = 5 := by
  rw [startPoint_eq, if_neg sound]
  simp [State.pointNoted, State.rd_wr]

end

section
variable {s : State} {h : Hdr}

theorem findObj_calPoint : findObj 0x3400 7 = some (⟨.CAL_POINT, 0x3400, 0x1, 1, 7, 1, .u8, .wo, [(1, 3)]⟩, 0) := by decide +kernel

theorem calPoint_request {k : Nat} (hk : k = 1 ∨ k = 2) (acc : s.Accepts h 0x3400 7 [BitVec.ofNat 8 k]) :
    let u := s.hostWrite h 0x3400 7 [BitVec.ofNat 8 k]
    u.Answers h 0 [] ∧ u.rd .calAt 0 = (s.takeUp h).now ∧ u.rd .calC 0 = s.rdN .CAL_CONV 0 ∧ u.rd .calG 0 = s.rdN .CAL_GAIN 0 ∧
      (s.rd .CV_STATE (s.rdN .CAL_CONV 0) ≠ 3 → u.rd .calBusy 0 = k ∧ u.rd .CV_STATE (s.rdN .CAL_CONV 0) = 5) := by
  let w := s.taken h opWrite 0x3400 7 [BitVec.ofNat 8 k]
  have applied : w.applyWrite ⟨.CAL_POINT, 0x3400, 0x1, 1, 7, 1, .u8, .wo, [(1, 3)]⟩ 0 [BitVec.ofNat 8 k] = (w.startPoint k, false) := by
    have value : Ty.u8.value [BitVec.ofNat 8 k] = k := leBytes_u8 (by omega)
    have point : (k : Int) ≠ 3 := by omega
    show (if Ty.u8.value _ = 3 then w.calCompute else w.startPoint (Ty.u8.value _).toNat, false) = _
    rw [value, if_neg point, Int.toNat_natCast]
  obtain ⟨answer, -, -⟩ := hostWrite_applied acc findObj_calPoint applied
  obtain ⟨since, conv, gain⟩ := startPoint_notes w k
  have same : w.rdN .CAL_CONV 0 = s.rdN .CAL_CONV 0 := taken_rdN _ _ _ _ _ .CAL_CONV 0
  rw [same] at conv
  rw [show w.rdN .CAL_GAIN 0 = s.rdN .CAL_GAIN 0 from taken_rdN _ _ _ _ _ .CAL_GAIN 0] at gain
  rw [show w.now = (s.takeUp h).now from taken_now ..] at since
  refine ⟨answer, rd_applied acc findObj_calPoint applied since, rd_applied acc findObj_calPoint applied conv,
    rd_applied acc findObj_calPoint applied gain, fun sound => ?_⟩
  have runs := startPoint_runs w k (by rwa [same, taken_rd _ _ _ _ _ .CV_STATE])
  rw [same] at runs
  exact ⟨rd_applied acc findObj_calPoint applied runs.1, rd_applied acc findObj_calPoint applied runs.2⟩

end

-- the coefficients (R205)

section
variable (s : State)

/-- The pair that CAL_CONV and CAL_GAIN select. -/
def State.pairNum : Nat := 4 * s.rdN .CAL_CONV 0 + s.rdN .CAL_GAIN 0

/-- A pair computed for the next mark. -/
def State.pairReady (ofs gain : Int) : State :=
  (((((s.wr .calHave s.pairNum 0).wr .calPend s.pairNum 1).wr .calOfsNew s.pairNum ofs).wr .calGainNew s.pairNum gain).wr .calHas s.pairNum 1).wr
    .CAL_STATUS 0 1

/-- CAL_POINT 3 uses up both points; it leaves a pair in its range for the next mark, or a failure. -/
theorem calCompute_cases :
    (∃ ofs gain : Int, s.rd .calHave s.pairNum = 3 ∧ 14746 ≤ gain ∧ gain ≤ 18022 ∧ ofs.natAbs ≤ 4096 ∧ s.calCompute = s.pairReady ofs gain) ∨
    s.calCompute = (s.wr .calHave s.pairNum 0).wr .CAL_STATUS 0 5 := by
  have formula : ∃ ofs gain : Int, s.calCompute =
      if decide (s.rd .calHave s.pairNum = 3) && 14746 ≤ gain && gain ≤ 18022 && decide (ofs.natAbs ≤ 4096) then s.pairReady ofs gain
      else (s.wr .calHave s.pairNum 0).wr .CAL_STATUS 0 5 := by
    unfold State.calCompute
    extract_lets i both x
    generalize (if x.rd .CAL_SOURCE 0 = 0 then ((0, 114688) : Int × Int) else (x.rd .CAL_EXPECT_ZERO 0, x.rd .CAL_EXPECT_FS 0)) = expected
    obtain ⟨e0, ef⟩ := expected
    exact ⟨_, _, rfl⟩
  obtain ⟨ofs, gain, eq⟩ := formula
  split at eq
  · next good =>
    simp only [Bool.and_eq_true, decide_eq_true_eq] at good
    obtain ⟨⟨⟨points, lo⟩, hi⟩, small⟩ := good
    exact .inl ⟨ofs, gain, points, lo, hi, small, eq⟩
  · exact .inr eq

theorem calCompute_writes : s.Writes s.calCompute s.pairNum [.calHave, .calPend, .calOfsNew, .calGainNew, .calHas] [.CAL_STATUS] := by
  have used := (writes_refl s s.pairNum [.calHave, .calPend, .calOfsNew, .calGainNew, .calHas] [.CAL_STATUS]).wr .calHave 0
  obtain ⟨ofs, gain, -, -, -, -, good⟩ | bad := calCompute_cases s
  · rw [good]
    exact ((((used.wr .calPend 1).wr .calOfsNew ofs).wr .calGainNew gain).wr .calHas 1).wrFree .CAL_STATUS 0 1
  · rw [bad]
    exact used.wrFree .CAL_STATUS 0 5

/-- What CAL_POINT 3 leaves: a status, and where that is 1 a pair in its range. -/
theorem calCompute_result : let t := s.calCompute
    t.rd .calHave s.pairNum = 0 ∧ (t.rd .CAL_STATUS 0 = 1 ∨ t.rd .CAL_STATUS 0 = 5) ∧ (s.rd .calHave s.pairNum ≠ 3 → t.rd .CAL_STATUS 0 = 5) ∧
      (t.rd .CAL_STATUS 0 = 1 → t.rd .calPend s.pairNum = 1 ∧ t.rd .calHas s.pairNum = 1 ∧ 14746 ≤ t.rd .calGainNew s.pairNum ∧
        t.rd .calGainNew s.pairNum ≤ 18022 ∧ (t.rd .calOfsNew s.pairNum).natAbs ≤ 4096) := by
  dsimp only
  obtain ⟨ofs, gain, both, lo, hi, small, good⟩ | bad := calCompute_cases s
  · simp [good, State.pairReady, State.rd_wr, both, lo, hi, small]
  · simp [bad, State.rd_wr]

end

section
variable {s : State} {h : Hdr}

theorem calCompute_request (k : s.Accepts h 0x3400 7 [3]) :
    let i := 4 * s.rdN .CAL_CONV 0 + s.rdN .CAL_GAIN 0
    let u := s.hostWrite h 0x3400 7 [3]
    s.Did u h i [.calHave, .calPend, .calOfsNew, .calGainNew, .calHas] [.CAL_STATUS] ∧
      u.rd .calHave i = 0 ∧ (u.rd .CAL_STATUS 0 = 1 ∨ u.rd .CAL_STATUS 0 = 5) ∧ (s.rd .calHave i ≠ 3 → u.rd .CAL_STATUS 0 = 5) ∧
      (u.rd .CAL_STATUS 0 = 1 → u.rd .calPend i = 1 ∧ u.rd .calHas i = 1 ∧ 14746 ≤ u.rd .calGainNew i ∧ u.rd .calGainNew i ≤ 18022 ∧
        (u.rd .calOfsNew i).natAbs ≤ 4096) := by
  let w := s.taken h opWrite 0x3400 7 [3]
  have applied : w.applyWrite ⟨.CAL_POINT, 0x3400, 0x1, 1, 7, 1, .u8, .wo, [(1, 3)]⟩ 0 [3] = (w.calCompute, false) := by
    show (if Ty.u8.value [3] = 3 then w.calCompute else w.startPoint (Ty.u8.value _).toNat, false) = _
    rw [if_pos (by decide)]
  have same : w.pairNum = 4 * s.rdN .CAL_CONV 0 + s.rdN .CAL_GAIN 0 := by
    rw [State.pairNum, taken_rdN _ _ _ _ _ .CAL_CONV, taken_rdN _ _ _ _ _ .CAL_GAIN]
  have now (r : Reg) (j : Nat) (hr : r ∉ requestRegs) := rd_applied k findObj_calPoint applied (r := r) (j := j) rfl hr
  have writes := calCompute_writes w
  have result := calCompute_result w
  rw [same] at writes
  dsimp only at result ⊢
  rw [same, show w.rd .calHave _ = s.rd .calHave _ from taken_rd _ _ _ _ _ .calHave _] at result
  rw [now .calHave _ (by decide), now .CAL_STATUS _ (by decide), now .calPend _ (by decide), now .calHas _ (by decide),
    now .calGainNew _ (by decide), now .calOfsNew _ (by decide)]
  exact ⟨did_of_applied k findObj_calPoint applied writes, result⟩

end

end Sys2Proof.Machine
end

section
/-! PROOFS. The store of the calibration, mailboxes and the capture queue (O54; R206, R277), and O54 itself. -/
namespace Sys2Proof.Machine

set_option Elab.async false

-- CAL_STORE (R206)

section

/-- A table keeps its entries where it is filtered by key. -/
theorem tget_filter_keys {α : Type} (d : α) (P : Nat → Bool) {k : Nat} (hk : P k = true) (l : Tbl α) :
    tget d (l.filter fun p => P p.1) k = tget d l k := by
  induction l with
  | nil => rfl
  | cons p l ih =>
    by_cases key : p.1 = k
    · simp [List.filter, key, hk, tget]
    · cases keep : P p.1 <;> simp [List.filter, keep, key, tget, ih]

variable (s : State)

theorem tget_calPairs {r : Reg} (i : Nat) (hr : r ∈ [Reg.CAL_OFS, .CAL_GAIN_FACTOR, .calHas]) :
    tget (r.dflt i) s.calPairs (r.key i) = s.rd r i :=
  tget_filter_keys _ (fun k => decide ((keyReg k).1 = .CAL_OFS ∨ (keyReg k).1 = .CAL_GAIN_FACTOR ∨ (keyReg k).1 = .calHas))
    (by simpa [keyReg_key] using hr) _

theorem calMarked_calHas {i : Nat} (hi : i < 64) : s.calMarked.rd .calHas i = 1 :=
  (rd_forAll_wr s .calHas (f := fun _ _ => 1) (fun _ _ _ _ => rfl) 64 .calHas i).trans (if_pos ⟨rfl, hi⟩)

theorem flashOf_wrFlash (b c : Nat) (x : FlashSet) : (s.wrFlash b x).flashOf c = if c = b then x else s.flashOf c := tget_tset ..

/-- Banks changed one after the other. -/
theorem flashOf_wrBanks (f : FlashSet → FlashSet) (l : List Nat) (nodup : l.Nodup) (b : Nat) :
    (s.forList l (fun x c => x.wrFlash c (f (x.flashOf c)))).flashOf b = if b ∈ l then f (s.flashOf b) else s.flashOf b := by
  unfold State.forList
  induction l generalizing s with
  | nil => rfl
  | cons c l ih =>
    obtain ⟨apart, rest⟩ := List.nodup_cons.mp nodup
    rw [List.foldl_cons, ih _ rest, flashOf_wrFlash]
    by_cases here : b = c
    · subst here
      simp [apart]
    · simp [here]

theorem goodBanks_nodup : s.goodBanks.Nodup := List.Nodup.filter _ (by decide)

theorem saveCal_flashOf {b : Nat} (hb : b ∈ s.goodBanks) : s.saveCal.flashOf b = { s.flashOf b with cal := s.calPairs } := by
  have warn (x : State) : x.flashWarn.flashOf b = x.flashOf b :=
    congrArg (tget FlashSet.blank · b) ((flashWarn_keeps (keeps_refl State.flashWarn_may x)).flash (by decide +kernel))
  unfold State.saveCal
  rw [warn, flashOf_wrBanks s (fun x => { x with cal := s.calPairs }) _ (goodBanks_nodup s), if_pos hb]

theorem State.Quiet.flashOf {s t : State} (h : s.Quiet t) (b : Nat) : t.flashOf b = s.flashOf b :=
  congrArg (tget FlashSet.blank · b) (congrArg State.flash h.rest :)

end

section
variable {s : State} {h : Hdr}

theorem findObj_calStore : findObj 0x3400 0x0A = some (⟨.CAL_STORE, 0x3400, 0x1, 1, 10, 1, .bool, .wo, [(1, 1)]⟩, 0) := by decide +kernel

theorem calStore_request (k : s.Accepts h 0x3400 0x0A [1]) :
    let u := s.hostWrite h 0x3400 0x0A [1]
    u.Answers h 0 [] ∧ (∀ b ∈ s.goodBanks, (u.flashOf b).config = (s.flashOf b).config ∧
        (∀ r i, r ∈ [Reg.CAL_OFS, .CAL_GAIN_FACTOR] → tget (r.dflt i) (u.flashOf b).cal (r.key i) = s.rd r i) ∧
        ∀ i, i < 64 → tget (Reg.calHas.dflt i) (u.flashOf b).cal (Reg.calHas.key i) = 1) ∧
      s.OnlyRegs u (.calHas :: faultRegs ++ requestRegs) := by
  let w := s.taken h opWrite 0x3400 0x0A [1]
  have applied : w.applyWrite ⟨.CAL_STORE, 0x3400, 0x1, 1, 10, 1, .bool, .wo, [(1, 1)]⟩ 0 [1] = (w.calMarked.saveCal, false) := rfl
  obtain ⟨answer, quiet, -⟩ := hostWrite_applied k findObj_calStore applied
  have marked := calMarked_keeps w
  have banks : w.calMarked.goodBanks = s.goodBanks := by
    unfold State.goodBanks State.bit State.rdN
    rw [marked.rd .flashBad 0 (by decide +kernel), taken_rd _ _ _ _ _ .flashBad]
  have flash (b : Nat) : w.calMarked.flashOf b = s.flashOf b :=
    (congrArg (tget FlashSet.blank · b) (marked.flash (by decide +kernel))).trans (((quiet_refl s).taken h opWrite 0x3400 0x0A [1]).flashOf b)
  have saved : Keeps State.calStore_may w w.calMarked.saveCal := calStore_keeps (keeps_refl _ w) may_self
  refine ⟨answer, fun b hb => ?_, onlyRegs_applied k findObj_calStore applied (saved.onlyRegs (.calHas :: faultRegs))⟩
  rw [← banks] at hb
  have stored : (s.hostWrite h 0x3400 0x0A [1]).flashOf b = { s.flashOf b with cal := w.calMarked.calPairs } := by
    rw [quiet.flashOf, saveCal_flashOf w.calMarked hb, flash]
  rw [stored]
  refine ⟨rfl, fun r i hr => ?_, fun i hi => ?_⟩
  · have kept : ∀ q ∈ [Reg.CAL_OFS, .CAL_GAIN_FACTOR], (may .calHas).testBit q.ctorIdx = false ∧ q ∉ requestRegs := by decide +kernel
    obtain ⟨unmarked, unasked⟩ := kept r hr
    have stored : r ∈ [Reg.CAL_OFS, .CAL_GAIN_FACTOR, .calHas] := List.mem_append_left [Reg.calHas] hr
    rw [tget_calPairs w.calMarked i stored, marked.rd r i unmarked, taken_rd _ _ _ _ _ r i unasked]
  · rw [tget_calPairs w.calMarked i (show Reg.calHas ∈ _ by decide), calMarked_calHas w hi]

end

-- mailboxes (R277)

/-- No queue but `p` has changed. -/
def State.OnlyQueue (s t : State) (p : Nat) : Prop := ∀ q, q ≠ p → t.queue q = s.queue q

section
variable {s t : State} {p : Nat} (h : s.OnlyQueue t p)
include h

theorem State.OnlyQueue.count (r : Reg) (i n w : Nat) : s.OnlyQueue (t.count r i n w) p := fun q hq => (count_queue ..).trans (h q hq)

theorem State.OnlyQueue.push (hp : p ≠ 74) (x : Pkt) : s.OnlyQueue (t.push p x).1 p := fun q hq => ((push_spec t hp x).1 q hq).trans (h q hq)

theorem State.OnlyQueue.ite {u : State} {c : Prop} [Decidable c] (g : s.OnlyQueue u p) : s.OnlyQueue (if c then t else u) p := by
  split <;> assumption

end

section
variable {s t : State} (h : s.OnlyQueue t 73)
include h

/-- A trace record goes to Q73. -/
theorem State.OnlyQueue.trace (src v : Nat) : s.OnlyQueue (t.trace src v) 73 := by
  have pushed (x : Pkt) := h.push (by decide) x
  unfold State.trace
  split
  · exact h
  · extract_lets w
    have sent := pushed (.words [w])
    split
    next x e =>
      rw [e] at sent
      exact State.OnlyQueue.ite (c := src = 0) (t := x.tally 203) sent sent
    next x e =>
      rw [e] at sent
      have dropped := State.OnlyQueue.count sent .TRACE_DROPS 0 1 32
      exact State.OnlyQueue.ite (c := _ = true) (t := (x.count .TRACE_DROPS 0).tally (195 + src)) dropped dropped

theorem State.OnlyQueue.event (n b : Nat) : s.OnlyQueue (t.event n b) 73 :=
  State.OnlyQueue.ite (State.OnlyQueue.trace (t := t.raise .AXIS_EVENTS n (2 ^ b)) h _ _) h

theorem State.OnlyQueue.pollWait (n : Nat) : s.OnlyQueue (t.pollWait n) 73 := by
  have done : s.OnlyQueue (t.completeRec n) 73 := by
    unfold State.completeRec
    split
    · exact h
    · exact State.OnlyQueue.ite (State.OnlyQueue.event (t := (((t.wrPlanner n _).wr .LAST_DONE_TAG n _).wr .ACTIVE_KIND n 0).wr .readyAt n _) h n 4) h
  unfold State.pollWait
  split
  · exact done.ite h
  · exact h

theorem State.OnlyQueue.pollWaits : s.OnlyQueue t.pollWaits 73 := by
  unfold State.pollWaits State.forAll
  induction List.range 64 generalizing t with
  | nil => exact h
  | cons n l ih => exact ih (h.pollWait n)

end

section
variable {s : State} {h : Hdr}

theorem findObj_mailPush (m : Fin 4) : findObj (0x5200 + m) 1 = some (⟨.MAIL_PUSH, 0x5200, 0x1, 4, 1, 1, .oct 129, .wo, []⟩, m.val) := by
  revert m
  decide +kernel

/-- A push to a mailbox that is not held, has a value of the form of R277 and has room, takes the packet. -/
theorem mailPush_pkts {m : Nat} {bs : List Byte} {ws : List Word64} (idle : s.rd .HELD (76 + m) ≠ 1) (form : mailPacket bs = some ws)
    (room : (s.mailPush m bs).1 ≠ 0x0D) (hm : m < 4) :
    ((s.mailPush m bs).2.queue (76 + m)).pkts = (s.queue (76 + m)).pkts ++ [.words ws] := by
  obtain ⟨-, taken⟩ := push_spec s (q := 76 + m) (by omega) (.words ws)
  unfold State.mailPush at room ⊢
  rw [if_neg idle, form] at room ⊢
  dsimp only at room ⊢
  split at room
  next x e =>
    rw [e] at taken
    dsimp only
    rw [State.OnlyQueue.pollWaits (s := x) (fun _ _ => rfl) _ (by omega)]
    exact taken rfl
  next => exact absurd rfl room

theorem mailPush_request {m : Fin 4} {bs : List Byte} (k : s.Accepts h (0x5200 + m) 1 bs) :
    let u := s.hostWrite h (0x5200 + m) 1 bs
    ∃ ws, u.Answers h 0 [] ∧ mailPacket bs = some ws ∧ (u.queue (76 + m)).pkts = (s.queue (76 + m)).pkts ++ [.words ws] := by
  let w := s.taken h opWrite (0x5200 + m) 1 bs
  have applied : w.applyWrite ⟨.MAIL_PUSH, 0x5200, 0x1, 4, 1, 1, .oct 129, .wo, []⟩ m bs = ((w.mailPush m bs).2, false) := rfl
  have passed : w.Passed ⟨.MAIL_PUSH, 0x5200, 0x1, 4, 1, 1, .oct 129, .wo, []⟩ m bs := accepts_passed k (findObj_mailPush m)
  obtain ⟨answer, -, queues⟩ := hostWrite_applied k (findObj_mailPush m) applied
  obtain ⟨ws, form⟩ : ∃ ws, mailPacket bs = some ws := 
    Option.isSome_iff_exists.mp (by simpa [State.outOfRange] using (Bool.or_eq_false_iff.mp passed.range).2)
  have idle : w.rd .HELD (76 + m) ≠ 1 := by simpa [State.busy] using passed.idle
  have room : (w.mailPush m bs).1 ≠ 0x0D := by simpa [State.queueFull] using passed.room
  refine ⟨ws, answer, form, ?_⟩
  rw [queues _ (by omega), mailPush_pkts idle form room m.isLt, taken_queue]

end

-- the capture queue (R277)

/-- What a pop of Q75 depends on. -/
structure State.SamePops (s t : State) : Prop where
  queue : t.queue 75 = s.queue 75
  now   : t.now = s.now
  void  : t.rdN .qVoid 75 = s.rdN .qVoid 75
  words : t.rdN .BASIN_WORDS 75 = s.rdN .BASIN_WORDS 75

theorem pop_rdN (s : State) (q : Nat) (r : Reg) (i : Nat) (hr : State.pop_may.testBit r.ctorIdx = false := by decide +kernel) :
    (s.pop q).1.rdN r i = s.rdN r i := congrArg Int.toNat ((pop_keeps q (keeps_refl State.pop_may s) may_self).rd r i hr)

theorem State.SamePops.pop {s t : State} (h : s.SamePops t) : (t.pop 75).2 = (s.pop 75).2 ∧ (s.pop 75).1.SamePops (t.pop 75).1 := by
  have poppable : t.poppable 75 = s.poppable 75 := by
    unfold State.poppable State.qVoided
    rw [h.queue, h.now, h.void]
  have capacity : t.capacity 75 = s.capacity 75 := congrArg (· + 16) h.words
  obtain ⟨same, queue⟩ : (t.pop 75).2 = (s.pop 75).2 ∧ (t.pop 75).1.queue 75 = (s.pop 75).1.queue 75 := by
    unfold State.pop
    rw [poppable, h.queue, capacity]
    dsimp only
    split
    · exact ⟨rfl, h.queue⟩
    · split
      · exact ⟨rfl, h.queue⟩
      · refine ⟨rfl, ?_⟩
        rw [count_queue, count_queue, State.queue_wrQueue, State.queue_wrQueue, if_pos rfl, if_pos rfl]
  exact ⟨same, queue, (pop_rdN t 75 .DEVICE_TIME 0).trans (h.now.trans (pop_rdN s 75 .DEVICE_TIME 0).symm),
    (pop_rdN t 75 .qVoid 75).trans (h.void.trans (pop_rdN s 75 .qVoid 75).symm),
    (pop_rdN t 75 .BASIN_WORDS 75).trans (h.words.trans (pop_rdN s 75 .BASIN_WORDS 75).symm)⟩

theorem State.SamePops.fetchWords {s t : State} (h : s.SamePops t) (n : Nat) : (t.fetchWords n).1 = (s.fetchWords n).1 := by
  induction n generalizing s t with
  | zero => rfl
  | succ n ih =>
    obtain ⟨same, next⟩ := h.pop
    unfold State.fetchWords
    generalize s.pop 75 = x at same next ⊢
    generalize t.pop 75 = y at same next ⊢
    obtain ⟨s', p⟩ := x
    obtain ⟨t', p'⟩ := y
    obtain rfl : p' = p := same
    rcases p' with - | ws | f | r
    · rfl
    · exact congrArg (ws ++ ·) (ih next)
    · rfl
    · rfl

section
variable {s : State} {h : Hdr}

theorem findObj_captureFetch : findObj 0x5300 1 = some (⟨.CAPTURE_FETCH, 0x5300, 0x1, 1, 1, 1, .u8, .wo, [(1, 16)]⟩, 0) := by decide +kernel

theorem captureFetch_request {v : Nat} (hv : v < 256) (k : s.Accepts h 0x5300 1 (leBytes 1 v)) :
    let u := s.hostWrite h 0x5300 1 (leBytes 1 v)
    u.Answers h 0 [] ∧ (let l := ((s.takeUp h).fetchWords v).1;
      u.rd .CAPTURE_BUF 0 = (dataOf ((1, l.length) :: l.map (fun w => (8, w.toNat))) : Nat) ∧ s.OnlyRegs u ([.CAPTURE_BUF, .POPPED] ++ requestRegs)) := by
  let w := s.taken h opWrite 0x5300 1 (leBytes 1 v)
  have applied : w.applyWrite ⟨.CAPTURE_FETCH, 0x5300, 0x1, 1, 1, 1, .u8, .wo, [(1, 16)]⟩ 0 (leBytes 1 v) = (w.captureFetch v, false) := by
    show (w.captureFetch (Ty.u8.value _).toNat, false) = _
    rw [leBytes_u8 hv]
    rfl
  have took := (quiet_refl s).takeUp h
  have same : (s.takeUp h).SamePops w := {
    queue := (taken_queue ..).trans (congrArg (tget Queue.empty · 75) ((takeUp_keeps h (keeps_refl State.takeUp_may s)).queues (by decide +kernel))).symm
    now := taken_now ..
    void := (taken_rdN _ _ _ _ _ .qVoid 75).trans (took.rdN .qVoid 75).symm
    words := (taken_rdN _ _ _ _ _ .BASIN_WORDS 75).trans (took.rdN .BASIN_WORDS 75).symm }
  have kept : Keeps State.captureFetch_may w (w.captureFetch v) := captureFetch_keeps v (keeps_refl _ w) may_self
  obtain ⟨answer, -, -⟩ := hostWrite_applied k findObj_captureFetch applied
  refine ⟨answer, ?_, onlyRegs_applied k findObj_captureFetch applied (kept.onlyRegs [.CAPTURE_BUF, .POPPED])⟩
  rw [← same.fetchWords v]
  exact rd_applied k findObj_captureFetch applied (State.rd_wr_same ..)

end

-- O54

/-- Settles O54, write by write. -/
theorem unitRequests : Obligations.UnitRequests := by
  unfold Obligations.UnitRequests
  intro h n c s
  refine ⟨fun v lo hi k => ⟨_, rfl, chPreset_request lo hi k⟩, fun k => ⟨_, rfl, fbAlign_request k⟩, fun v hv k => ⟨_, rfl, latchSrc_request hv k⟩,
    fun v hv k => ⟨_, rfl, urgentReq_request hv k⟩, fun k => ⟨_, rfl, cvRestart_request k⟩, fun k hk acc => ⟨_, ?_, calPoint_request hk acc⟩,
    fun k => ⟨_, rfl, calCompute_request k⟩, fun k => ⟨_, rfl, calStore_request k⟩, fun k => ⟨_, rfl, stageDiscard_request k⟩,
    fun v hv k => ⟨_, rfl, ackOrdinal_request hv k⟩, fun v hv k => ⟨_, rfl, logSeen_request hv k⟩, fun q k => ⟨_, rfl, release_request k⟩,
    fun m bs k => ?_, fun v hv k => ⟨_, rfl, captureFetch_request hv k⟩, fun v _ k => ⟨_, rfl, injectArm_request k⟩,
    fun k => ⟨_, rfl, counterFreeze_request k⟩⟩
  · rcases hk with rfl | rfl <;> rfl
  · obtain ⟨ws, facts⟩ := mailPush_request k
    exact ⟨_, ws, rfl, facts⟩

end Sys2Proof.Machine
end

section
/-! PROOFS. A COMMIT whose set marks both flash banks as lost (O56): what takes effect at the mark is then saved nowhere. -/
namespace Sys2Proof.Machine

set_option Elab.async false

/-- A new set with the hidden register of the lost flash banks among its values. No COMMIT builds one, for what the host stages and what an image
brings are objects; O56 speaks of every set that waits. -/
def unsavedSet : NewSet := ⟨false, [(Reg.flashBad.key 0, 3)], [], [], [], [], 255, true⟩

/-- A module at its mark, with good flash banks, where that set waits. -/
def unsavedCommit : State := ({ State.reset with newSet := some unsavedSet }.wr .pllLocked 0 1).wr .commitRun 0 1

/-- The banks are good until the set is in force, and lost from then on. -/
theorem unsavedCommit_banks : unsavedCommit.goodBanks = [0, 1] ∧ (unsavedCommit.adopt unsavedSet).goodBanks = [] := by decide +kernel

theorem unsavedCommit_flash {u : State} (h : exec .commitTakesEffect unsavedCommit = .next u) : u.flash = [] := by
  obtain rfl := Host.Outcome.next.inj h
  decide +kernel

/-- Refutes O56: with `unsavedSet` waiting, the set in force stands in no flash bank, though both read before the mark. -/
theorem not_commitAndSwapTakeEffect : ¬ Obligations.CommitAndSwapTakeEffect := by
  intro h
  unfold Obligations.CommitAndSwapTakeEffect at h
  obtain ⟨-, takesEffect, -, -⟩ := h
  obtain ⟨u, run, -, -, -, -, -, -, -, -, -, saved, -⟩ :=
    takesEffect unsavedCommit unsavedSet rfl (by decide +kernel) (by decide +kernel) (by decide +kernel)
  obtain ⟨b, -, -, valid, -⟩ := saved (by rw [unsavedCommit_banks.1]; decide)
  rw [State.flashOf, unsavedCommit_flash run] at valid
  exact Bool.false_ne_true valid

end Sys2Proof.Machine
end

section
/-! PROOFS. Accepted writes to the objects of an axis that ask for motion (O52): those that leave a request for the next step or mark. -/
namespace Sys2Proof.Machine

set_option Elab.async false

-- values

theorem leBytes_u16 {v : Nat} (hv : v < 2 ^ 16) : Ty.u16.value (leBytes 2 v) = v := by
  show ((leNat (leBytes 2 v) : Nat) : Int) = v
  rw [leNat_leBytes, Nat.mod_eq_of_lt (by omega)]

theorem i32_leBytes {v : Int} (lo : -2 ^ 31 ≤ v) (hi : v < 2 ^ 31) : Ty.i32.value (leBytes 4 (unsigned 32 v)) = v := by
  have size : (256 : Nat) ^ 4 = 4294967296 := by norm_num
  unfold Ty.value
  rw [leNat_leBytes, size]
  norm_num [signed, unsigned] at *
  omega

theorem u32_leBytes {v : Int} (lo : 0 ≤ v) (hi : v < 2 ^ 32) : Ty.u32.value (leBytes 4 (unsigned 32 v)) = v := by
  have same : ((unsigned 32 v : Nat) : Int) = v := by
    unfold unsigned
    omega
  rw [leBytes_u32 (by omega), same]

section
variable {s : State} {h : Hdr} {n : Fin 64}

-- positions and stops (R51, R60, R61)

theorem findObj_target (n : Fin 64) : findObj (axisIdx 0x14 n) 1 = some (⟨.TARGET, 0x8014, 0x100, 64, 1, 1, .i48, .rw, []⟩, n.val) := by
  revert n
  decide +kernel

theorem target_request {v : Int} (lo : -2 ^ 47 ≤ v) (hi : v < 2 ^ 47) (k : s.Accepts h (axisIdx 0x14 n) 1 (leBytes 8 (unsigned 64 v))) :
    let u := s.hostWrite h (axisIdx 0x14 n) 1 (leBytes 8 (unsigned 64 v))
    s.Did u h n [.tgtPend, .tgtVal, .tgtAt] [] ∧ u.rd .tgtPend n = 1 ∧ u.rd .tgtVal n = v ∧ u.rd .tgtAt n = (s.takeUp h).now := by
  let w := s.taken h opWrite (axisIdx 0x14 n) 1 (leBytes 8 (unsigned 64 v))
  have applied : w.applyWrite ⟨.TARGET, 0x8014, 0x100, 64, 1, 1, .i48, .rw, []⟩ n (leBytes 8 (unsigned 64 v)) =
      (((w.wr .tgtPend n 1).wr .tgtVal n v).wr .tgtAt n w.now, false) := by
    show (((w.wr .tgtPend n 1).wr .tgtVal n (Ty.i48.value _)).wr .tgtAt n w.now, false) = _
    rw [i48_leBytes lo hi]
  refine ⟨did_of_applied k (findObj_target n) applied ((((writes_refl w n _ _).wr .tgtPend 1).wr .tgtVal v).wr .tgtAt w.now), ?_, ?_, ?_⟩
  · exact rd_applied k (findObj_target n) applied (by simp [State.rd_wr])
  · exact rd_applied k (findObj_target n) applied (by simp [State.rd_wr])
  · exact rd_applied k (findObj_target n) applied ((State.rd_wr_same ..).trans (congrArg Nat.cast (taken_now ..)))

theorem findObj_setPosition (n : Fin 64) :
    findObj (axisIdx 0x1C n) 1 = some (⟨.SET_POSITION, 0x801C, 0x100, 64, 1, 1, .i48, .wo, []⟩, n.val) := by
  revert n
  decide +kernel

theorem setPosition_request {v : Int} (lo : -2 ^ 47 ≤ v) (hi : v < 2 ^ 47) (k : s.Accepts h (axisIdx 0x1C n) 1 (leBytes 8 (unsigned 64 v))) :
    let u := s.hostWrite h (axisIdx 0x1C n) 1 (leBytes 8 (unsigned 64 v))
    s.Did u h n [.setPend, .setVal] [] ∧ u.rd .setPend n = 1 ∧ u.rd .setVal n = v := by
  let w := s.taken h opWrite (axisIdx 0x1C n) 1 (leBytes 8 (unsigned 64 v))
  have applied : w.applyWrite ⟨.SET_POSITION, 0x801C, 0x100, 64, 1, 1, .i48, .wo, []⟩ n (leBytes 8 (unsigned 64 v)) =
      ((w.wr .setPend n 1).wr .setVal n v, false) := by
    show ((w.wr .setPend n 1).wr .setVal n (Ty.i48.value _), false) = _
    rw [i48_leBytes lo hi]
  refine ⟨did_of_applied k (findObj_setPosition n) applied (((writes_refl w n _ _).wr .setPend 1).wr .setVal v), ?_, ?_⟩
  · exact rd_applied k (findObj_setPosition n) applied ((State.rd_wr_ne _ _ _ _ (by decide)).trans (State.rd_wr_same ..))
  · exact rd_applied k (findObj_setPosition n) applied (State.rd_wr_same ..)

theorem findObj_stop (n : Fin 64) : findObj (axisIdx 0x15 n) 1 = some (⟨.STOP, 0x8015, 0x100, 64, 1, 1, .u8, .wo, [(1, 2)]⟩, n.val) := by
  revert n
  decide +kernel

/-- STOP 1 and 2 wait for the profile step with the cycle of their write. -/
theorem stop_request {b : Byte} (k : s.Accepts h (axisIdx 0x15 n) 1 [b]) :
    let u := s.hostWrite h (axisIdx 0x15 n) 1 [b]
    s.Did u h n [.stopPend, .stopAt] [] ∧ u.rd .stopPend n = b.toNat ∧ u.rd .stopAt n = (s.takeUp h).now := by
  let w := s.taken h opWrite (axisIdx 0x15 n) 1 [b]
  have applied : w.applyWrite ⟨.STOP, 0x8015, 0x100, 64, 1, 1, .u8, .wo, [(1, 2)]⟩ n [b] =
      ((w.wr .stopPend n b.toNat).wr .stopAt n w.now, false) := rfl
  refine ⟨did_of_applied k (findObj_stop n) applied (((writes_refl w n _ _).wr .stopPend b.toNat).wr .stopAt w.now), ?_, ?_⟩
  · exact rd_applied k (findObj_stop n) applied ((State.rd_wr_ne _ _ _ _ (by decide)).trans (State.rd_wr_same ..))
  · exact rd_applied k (findObj_stop n) applied ((State.rd_wr_same ..).trans (congrArg Nat.cast (taken_now ..)))

-- limits (R52, R53)

/-- The limit objects in the order of LIMIT_CHANGE. -/
def limitObj (k : Fin 4) : Reg := [.VMAX, .AMAX, .DMAX, .JMAX][k]

theorem findObj_limit (n : Fin 64) (k : Fin 4) : ∃ top, findObj (axisIdx 0x10 n) (k + 1) =
    some (⟨limitObj k, 0x8010, 0x100, 64, k + 1, 1, .u32, .rw, [(1, top)]⟩, n.val) := by
  refine ⟨if k = 0 then 20480000 else 4294967295, ?_⟩
  revert n k
  decide +kernel

theorem limitWrite_writes {w : State} (k : Fin 4) (v : Int) :
    w.Writes (w.limitWrite (limitObj k) n k v) n [limitObj k, .limNew] [.limAt] :=
  (((writes_refl w n _ _).wr (limitObj k) v List.mem_cons_self).wr .limNew _ (List.mem_cons_of_mem _ List.mem_cons_self)).wrFree .limAt _ _

/-- A written limit shows its value, its bit and its cycle. -/
theorem limitWrite_shows (w : State) (n : Nat) (k : Fin 4) (v : Int) :
    let t := w.limitWrite (limitObj k) n k v
    t.rd (limitObj k) n = v ∧ (∀ b, t.bit .limNew n b = (w.bit .limNew n b || decide (b = k.val))) ∧
      ∀ j, t.rd .limAt j = if j = 4 * n + k.val then (w.now : Int) else w.rd .limAt j := by
  have own : limitObj k ≠ .limNew ∧ limitObj k ≠ .limAt := by
    revert k
    decide
  obtain ⟨bit, time⟩ := own
  unfold State.limitWrite
  refine ⟨?_, fun b => ?_, fun j => ?_⟩
  · rw [State.rd_wr_ne _ _ _ _ time, State.rd_wrBit_ne _ _ _ _ _ bit, State.rd_wr_same]
  · rw [State.bit_congr (State.rd_wr_ne _ _ _ _ (by decide)), State.bit_wrBit, State.bit_congr (State.rd_wr_ne _ _ _ _ bit.symm)]
    by_cases here : b = k.val <;> simp [here]
  · rw [State.rd_wr, State.rd_wrBit_ne _ _ _ _ _ (by decide), State.rd_wr_ne _ _ _ _ time.symm]
    simp

theorem limit_request {k : Fin 4} {v : Nat} (hv : v < 2 ^ 32) (acc : s.Accepts h (axisIdx 0x10 n) (k + 1) (leBytes 4 v)) :
    let u := s.hostWrite h (axisIdx 0x10 n) (k + 1) (leBytes 4 v)
    s.Did u h n [limitObj k, .limNew] [.limAt] ∧ u.rd (limitObj k) n = v ∧
      (∀ b, u.bit .limNew n b = (s.bit .limNew n b || decide (b = k.val))) ∧
      ∀ j, u.rd .limAt j = (if j = 4 * n.val + k.val then ((s.takeUp h).now : Int) else s.rd .limAt j) := by
  let w := s.taken h opWrite (axisIdx 0x10 n) (k + 1) (leBytes 4 v)
  obtain ⟨top, found⟩ := findObj_limit n k
  have applied : w.applyWrite ⟨limitObj k, 0x8010, 0x100, 64, k + 1, 1, .u32, .rw, [(1, top)]⟩ n (leBytes 4 v) =
      (w.limitWrite (limitObj k) n k v, false) := by
    rw [← leBytes_u32 hv]
    fin_cases k <;> rfl
  have own : limitObj k ∉ requestRegs := by
    clear acc found applied
    revert k
    decide
  obtain ⟨value, bits, times⟩ := limitWrite_shows w n k v
  refine ⟨did_of_applied acc found applied (limitWrite_writes k v), rd_applied acc found applied value own, fun b => ?_, fun j => ?_⟩
  · rw [State.bit_congr (rd_applied acc found applied rfl), bits, State.bit_congr (taken_rd _ _ _ _ _ .limNew n)]
  · rw [rd_applied acc found applied (times j), taken_now, taken_rd _ _ _ _ _ .limAt j]

-- objects that take their value at once (R70, R80)

theorem findObj_lowMark (n : Fin 64) : findObj (axisIdx 0x12 n) 2 = some (⟨.LOW_MARK, 0x8012, 0x100, 64, 2, 1, .u16, .rw, [(0, 1024)]⟩, n.val) := by
  revert n
  decide +kernel

theorem lowMark_request {v : Nat} (hv : v < 2 ^ 16) (k : s.Accepts h (axisIdx 0x12 n) 2 (leBytes 2 v)) :
    let u := s.hostWrite h (axisIdx 0x12 n) 2 (leBytes 2 v)
    s.Did u h n [.LOW_MARK] [] ∧ u.rd .LOW_MARK n = v := by
  let w := s.taken h opWrite (axisIdx 0x12 n) 2 (leBytes 2 v)
  have applied : w.applyWrite ⟨.LOW_MARK, 0x8012, 0x100, 64, 2, 1, .u16, .rw, [(0, 1024)]⟩ n (leBytes 2 v) = (w.wr .LOW_MARK n v, false) := by
    show (w.wr .LOW_MARK n (Ty.u16.value _), false) = _
    rw [leBytes_u16 hv]
  exact ⟨did_of_applied k (findObj_lowMark n) applied ((writes_refl w n _ _).wr .LOW_MARK v),
    rd_applied k (findObj_lowMark n) applied (State.rd_wr_same ..)⟩

theorem findObj_ratioNum (n : Fin 64) :
    findObj (axisIdx 0x31 n) 1 = some (⟨.RATIO_NUM, 0x8031, 0x100, 64, 1, 1, .i32, .rw, [(-1048576, -1), (1, 1048576)]⟩, n.val) := by
  revert n
  decide +kernel

theorem ratioNum_request {v : Int} (lo : -2 ^ 31 ≤ v) (hi : v < 2 ^ 31) (k : s.Accepts h (axisIdx 0x31 n) 1 (leBytes 4 (unsigned 32 v))) :
    let u := s.hostWrite h (axisIdx 0x31 n) 1 (leBytes 4 (unsigned 32 v))
    s.Did u h n [.RATIO_NUM] [] ∧ u.rd .RATIO_NUM n = v := by
  let w := s.taken h opWrite (axisIdx 0x31 n) 1 (leBytes 4 (unsigned 32 v))
  have applied : w.applyWrite ⟨.RATIO_NUM, 0x8031, 0x100, 64, 1, 1, .i32, .rw, [(-1048576, -1), (1, 1048576)]⟩ n (leBytes 4 (unsigned 32 v)) =
      (w.wr .RATIO_NUM n v, false) := by
    show (w.wr .RATIO_NUM n (Ty.i32.value _), false) = _
    rw [i32_leBytes lo hi]
  exact ⟨did_of_applied k (findObj_ratioNum n) applied ((writes_refl w n _ _).wr .RATIO_NUM v),
    rd_applied k (findObj_ratioNum n) applied (State.rd_wr_same ..)⟩

theorem findObj_ratioDen (n : Fin 64) :
    findObj (axisIdx 0x31 n) 2 = some (⟨.RATIO_DEN, 0x8031, 0x100, 64, 2, 1, .u32, .rw, [(1, 1048576)]⟩, n.val) := by
  revert n
  decide +kernel

theorem ratioDen_request {v : Int} (lo : 0 ≤ v) (hi : v < 2 ^ 32) (k : s.Accepts h (axisIdx 0x31 n) 2 (leBytes 4 (unsigned 32 v))) :
    let u := s.hostWrite h (axisIdx 0x31 n) 2 (leBytes 4 (unsigned 32 v))
    s.Did u h n [.RATIO_DEN] [] ∧ u.rd .RATIO_DEN n = v := by
  let w := s.taken h opWrite (axisIdx 0x31 n) 2 (leBytes 4 (unsigned 32 v))
  have applied : w.applyWrite ⟨.RATIO_DEN, 0x8031, 0x100, 64, 2, 1, .u32, .rw, [(1, 1048576)]⟩ n (leBytes 4 (unsigned 32 v)) =
      (w.wr .RATIO_DEN n v, false) := by
    show (w.wr .RATIO_DEN n (Ty.u32.value _), false) = _
    rw [u32_leBytes lo hi]
  exact ⟨did_of_applied k (findObj_ratioDen n) applied ((writes_refl w n _ _).wr .RATIO_DEN v),
    rd_applied k (findObj_ratioDen n) applied (State.rd_wr_same ..)⟩

-- FOLLOW_CTRL (R81, R89)

theorem findObj_followCtrl (n : Fin 64) :
    findObj (axisIdx 0x32 n) 2 = some (⟨.FOLLOW_CTRL, 0x8032, 0x100, 64, 2, 1, .u8, .wo, [(0, 1)]⟩, n.val) := by
  revert n
  decide +kernel

theorem followEngage_request (k : s.Accepts h (axisIdx 0x32 n) 2 [1]) :
    let u := s.hostWrite h (axisIdx 0x32 n) 2 [1]
    s.Did u h n [.followPend] [] ∧ (s.rd .AXIS_STATE n ≠ 3 → u.rd .followPend n = 1) := by
  let w := s.taken h opWrite (axisIdx 0x32 n) 2 [1]
  have applied : w.applyWrite ⟨.FOLLOW_CTRL, 0x8032, 0x100, 64, 2, 1, .u8, .wo, [(0, 1)]⟩ n [1] =
      (if w.rd .AXIS_STATE n = 3 then w else w.wr .followPend n 1, false) := rfl
  have own := writes_refl w n [.followPend] []
  refine ⟨did_of_applied k (findObj_followCtrl n) applied (own.ite (own.wr .followPend 1)), fun free => ?_⟩
  have apart : w.rd .AXIS_STATE n ≠ 3 := (taken_rd _ _ _ _ _ .AXIS_STATE n).trans_ne free
  exact rd_applied k (findObj_followCtrl n) applied (by rw [if_neg apart, State.rd_wr_same])

/-- FOLLOW_CTRL 0 drops an engagement that waits, or asks the profile step to end following. -/
theorem followDisengage_request (k : s.Accepts h (axisIdx 0x32 n) 2 [0]) :
    let u := s.hostWrite h (axisIdx 0x32 n) 2 [0]
    s.Did u h n [.END_CAUSE, .followPend, .discPend, .discAt] [] ∧
      (s.rd .FOLLOW_STATE n = 0 → u.rd .END_CAUSE n = 0 ∧ u.rd .followPend n = 0) ∧ (s.rd .FOLLOW_STATE n ≠ 0 → u.rd .discPend n = 1) := by
  let w := s.taken h opWrite (axisIdx 0x32 n) 2 [0]
  have applied : w.applyWrite ⟨.FOLLOW_CTRL, 0x8032, 0x100, 64, 2, 1, .u8, .wo, [(0, 1)]⟩ n [0] =
      (if w.rd .FOLLOW_STATE n = 0 then (w.wr .END_CAUSE n 0).wr .followPend n 0 else (w.wr .discPend n 1).wr .discAt n w.now, false) := rfl
  have own := writes_refl w n [.END_CAUSE, .followPend, .discPend, .discAt] []
  have same : w.rd .FOLLOW_STATE n = s.rd .FOLLOW_STATE n := taken_rd _ _ _ _ _ .FOLLOW_STATE n
  refine ⟨did_of_applied k (findObj_followCtrl n) applied
    (((own.wr .END_CAUSE 0).wr .followPend 0).ite ((own.wr .discPend 1).wr .discAt w.now)), fun apart => ⟨?_, ?_⟩, fun follows => ?_⟩
  · exact rd_applied k (findObj_followCtrl n) applied (by rw [if_pos (same.trans apart), State.rd_wr_ne _ _ _ _ (by decide), State.rd_wr_same])
  · exact rd_applied k (findObj_followCtrl n) applied (by rw [if_pos (same.trans apart), State.rd_wr_same])
  · exact rd_applied k (findObj_followCtrl n) applied
      (by rw [if_neg (same.trans_ne follows), State.rd_wr_ne _ _ _ _ (by decide), State.rd_wr_same])

-- QUEUE_FLUSH (R62, R75)

theorem findObj_queueFlush (n : Fin 64) :
    findObj (axisIdx 0x13 n) 2 = some (⟨.QUEUE_FLUSH, 0x8013, 0x100, 64, 2, 1, .bool, .wo, [(1, 1)]⟩, n.val) := by
  revert n
  decide +kernel

/-- A flush waits for the profile step where one may take a record, and is done at once elsewhere. -/
theorem askFlush_cases (w : State) (n : Nat) :
    (w.motionMode = true ∧ w.rd .AXIS_STATE n ≤ 2 ∧ w.askFlush n = (w.wr .flushPend n 1).wr .flushAt n w.now) ∨
      (¬(w.motionMode = true ∧ w.rd .AXIS_STATE n ≤ 2) ∧ w.askFlush n = w.flushQueue n) := by
  unfold State.askFlush
  split
  · next waits =>
    rw [Bool.and_eq_true, decide_eq_true_eq] at waits
    exact .inl ⟨waits.1, waits.2, rfl⟩
  · next now =>
    rw [Bool.and_eq_true, decide_eq_true_eq] at now
    exact .inr ⟨now, rfl⟩

theorem flushQueue_queue (w : State) (n q : Nat) :
    (w.flushQueue n).queue q = if q = n then { w.queue n with pkts := [], rdPtr := (w.queue n).wrPtr, fresh := 0 } else w.queue q :=
  State.queue_wrQueue ..

theorem queueFlush_request (k : s.Accepts h (axisIdx 0x13 n) 2 [1]) :
    let u := s.hostWrite h (axisIdx 0x13 n) 2 [1]
    u.Answers h 0 [] ∧
      (s.motionMode = true → s.rd .AXIS_STATE n ≤ 2 →
        u.rd .flushPend n = 1 ∧ u.rd .flushAt n = (s.takeUp h).now ∧ u.queue n = s.queue n) ∧
      (s.motionMode = false ∨ 2 < s.rd .AXIS_STATE n → (u.queue n).pkts = []) ∧ s.OnlyAt u n [.flushPend, .flushAt] requestRegs ∧
      (∀ q, q ≠ n.val → q ≠ 71 → u.queue q = s.queue q) ∧ s.RequestRest u := by
  let w := s.taken h opWrite (axisIdx 0x13 n) 2 [1]
  have applied : w.applyWrite ⟨.QUEUE_FLUSH, 0x8013, 0x100, 64, 2, 1, .bool, .wo, [(1, 1)]⟩ n [1] = (w.askFlush n, false) := rfl
  have took := (quiet_refl s).taken h opWrite (axisIdx 0x13 n) 2 [1]
  have mode : w.motionMode = s.motionMode := by
    rw [State.motionMode, State.inMode, State.mode, took.rdN .MODE 0, State.motionMode, State.inMode, State.mode]
  have axis : w.rd .AXIS_STATE n = s.rd .AXIS_STATE n := taken_rd _ _ _ _ _ .AXIS_STATE n
  have before (q : Nat) : w.queue q = s.queue q := taken_queue ..
  obtain ⟨answer, quiet, others⟩ := hostWrite_applied k (findObj_queueFlush n) applied
  have here : n.val ≠ 71 := by omega
  rcases askFlush_cases w n with ⟨moves, free, e⟩ | ⟨still, e⟩
  · rw [mode] at moves
    rw [axis] at free
    have own : w.Writes (w.askFlush n) n [.flushPend, .flushAt] [] := e ▸ ((writes_refl w n _ _).wr .flushPend 1).wr .flushAt w.now
    have queue (q : Nat) (hq : q ≠ 71) : (s.hostWrite h (axisIdx 0x13 n) 2 [1]).queue q = s.queue q := by
      rw [others q hq, State.queue, own.queues]
      exact before q
    refine ⟨answer, fun _ _ => ⟨?_, ?_, queue n here⟩, fun no => ?_, onlyAt_applied k (findObj_queueFlush n) applied own.regs,
      fun q _ hq => queue q hq, (State.RequestRest.trans took.rest own.rest).trans quiet.rest⟩
    · exact rd_applied k (findObj_queueFlush n) applied (by rw [e, State.rd_wr_ne _ _ _ _ (by decide), State.rd_wr_same])
    · exact rd_applied k (findObj_queueFlush n) applied (by rw [e, State.rd_wr_same]; exact congrArg Nat.cast (taken_now ..))
    · rcases no with no | no
      · exact absurd moves (by rw [no]; decide)
      · omega
  · rw [mode, axis] at still
    have flushed (q : Nat) (hq : q ≠ 71) : (s.hostWrite h (axisIdx 0x13 n) 2 [1]).queue q = (w.flushQueue n).queue q := by rw [others q hq, e]
    refine ⟨answer, fun moves free => absurd ⟨moves, free⟩ still, fun _ => ?_, ?_, fun q hn hq => ?_, ?_⟩
    · rw [flushed n here, flushQueue_queue, if_pos rfl]
    · exact onlyAt_applied (free := []) k (findObj_queueFlush n) applied (by rw [e]; exact fun _ _ _ _ => rfl)
    · rw [flushed q hq, flushQueue_queue, if_neg hn, before]
    · have rest : w.RequestRest (w.askFlush n) := by
        rw [e]
        rfl
      exact (State.RequestRest.trans took.rest rest).trans quiet.rest

end

end Sys2Proof.Machine
end

section
/-! PROOFS. MOVE_PUSH (O52; R66): the records that the queue has room for, and the WAIT records that look again. O52 itself. -/
namespace Sys2Proof.Machine

set_option Elab.async false

-- a packet that fits

section
variable {s : State} {q : Nat} {p : Pkt}

theorem push_capacity (s : State) (q n : Nat) (p : Pkt) (hn : n < 64) : (s.push q p).1.capacity n = s.capacity n := by
  have kept := push_keeps (M := State.push_may) q p (keeps_refl _ s)
  rw [State.capacity, State.capacity, if_pos hn, if_pos hn, State.rdN, State.rdN, kept.rd .QUEUE_RECORDS n (by decide +kernel)]

theorem qVoided_congr {s t : State} (now : t.rd .DEVICE_TIME 0 = s.rd .DEVICE_TIME 0) (void : t.rd .qVoid q = s.rd .qVoid q) :
    t.qVoided q = s.qVoided q := by
  have cycle : t.now = s.now := congrArg Int.toNat now
  rw [State.qVoided, cycle, State.rdN, void]
  rfl

theorem push_qVoided (s : State) (q n : Nat) (p : Pkt) : (s.push q p).1.qVoided n = s.qVoided n := by
  have kept := push_keeps (M := State.push_may) q p (keeps_refl _ s)
  exact qVoided_congr (kept.rd .DEVICE_TIME 0 (by decide +kernel)) (kept.rd .qVoid n (by decide +kernel))

/-- A packet that fits is taken as the newest; what is reserved stays reserved. -/
theorem push_fits (hq : q ≠ 74) (opened : s.qVoided q = false) (fits : (s.queue q).depth + p.len ≤ s.capacity q) :
    ((s.push q p).1.queue q).pkts = (s.queue q).pkts ++ [p] ∧ ((s.push q p).1.queue q).resv = (s.queue q).resv := by
  unfold State.push
  extract_lets x0 cap x s1 y s2 s3 s4 s5 s6
  have plain : x = s.queue q := if_neg hq
  have kept := count_keeps (M := State.count_may ||| may .REFUSED) .REFUSED q (x0.pkts.length - x.pkts.length) 32 (keeps_refl _ s)
  have still : s1.qVoided q = false :=
    (qVoided_congr (kept.rd .DEVICE_TIME 0 (by decide +kernel)) (kept.rd .qVoid q (by decide +kernel))).trans opened
  have room : (s1.qVoided q || decide (cap < x.depth + p.len)) = false := by
    rw [still, plain, Bool.false_or]
    exact decide_eq_false (Nat.not_lt.mpr fits)
  rw [if_neg (by rw [room]; exact Bool.false_ne_true)]
  have written : (s6.wr .COUNTER (16 + q) (max (s6.rd .COUNTER (16 + q)) y.depth)).queue q = y := by
    show s5.queue q = y
    unfold s5 s4 s3
    rw [count_queue, count_queue, State.queue_wrQueue, if_pos rfl]
  rw [written]
  show x.pkts ++ [p] = _ ∧ x.resv = _
  rw [plain]
  exact ⟨rfl, rfl⟩

end

-- the records of a push

/-- Records offered to the move queue of axis `n` in turn. -/
def State.pushAll (s : State) (n : Nat) (rs : List (List Word64)) : State := rs.foldl (fun (s : State) ws => (s.push n (.words ws)).1) s

theorem pushMoves_eq (s : State) (n : Nat) (rs : List (List Word64)) : s.pushMoves n rs = (s.pushAll n rs).pollWaits := rfl

theorem pushAll_quiet {s t : State} (h : s.Quiet t) (n : Nat) (rs : List (List Word64)) : s.Quiet (t.pushAll n rs) := by
  induction rs generalizing t with
  | nil => exact h
  | cons ws rs ih => exact ih (h.push n _)

theorem pushAll_onlyQueue {s t : State} {n : Nat} (h : s.OnlyQueue t n) (hn : n ≠ 74) (rs : List (List Word64)) : s.OnlyQueue (t.pushAll n rs) n := by
  induction rs generalizing t with
  | nil => exact h
  | cons ws rs ih => exact ih (State.OnlyQueue.push h hn _)

/-- Records of four words that fit together are all taken, in their order. -/
theorem pushAll_pkts {s : State} {n : Nat} (hn : n < 64) {rs : List (List Word64)} (four : ∀ ws ∈ rs, ws.length = 4) (opened : s.qVoided n = false)
    (fits : (s.queue n).depth + 4 * rs.length ≤ s.capacity n) : ((s.pushAll n rs).queue n).pkts = (s.queue n).pkts ++ rs.map Pkt.words := by
  induction rs generalizing s with
  | nil => exact (List.append_nil _).symm
  | cons ws rs ih =>
    have len : (Pkt.words ws).len = 4 := four ws List.mem_cons_self
    have more := List.length_cons (a := ws) (as := rs)
    obtain ⟨taken, resv⟩ := push_fits (p := .words ws) (show n ≠ 74 by omega) opened (by omega)
    have depth : ((s.push n (.words ws)).1.queue n).depth = (s.queue n).depth + 4 := by
      rw [Queue.depth, Queue.depth, taken, resv, List.map_append, List.sum_append, List.map_singleton, List.sum_singleton, len]
      omega
    have rest := ih (s := (s.push n (.words ws)).1) (fun v hv => four v (List.mem_cons_of_mem _ hv))
      ((push_qVoided ..).trans opened) (by rw [depth, push_capacity _ _ _ _ hn]; omega)
    calc ((s.pushAll n (ws :: rs)).queue n).pkts
      _ = ((s.push n (.words ws)).1.queue n).pkts ++ rs.map Pkt.words := rest
      _ = (s.queue n).pkts ++ (ws :: rs).map Pkt.words := by rw [taken, List.append_assoc]; rfl

/-- Every record of a MOVE_PUSH has four words. -/
theorem pushRecords_length (bs : List Byte) : ∀ ws ∈ pushRecords bs, ws.length = 4 := by
  intro ws hws
  obtain ⟨k, -, rfl⟩ := List.mem_map.mp ((List.takeWhile_sublist _).subset hws)
  rw [List.length_map, List.length_range]

-- the WAIT records

theorem pollWaits_of_none {s : State} (none : ∀ k, k < 64 → s.waitRec k = none) : s.pollWaits = s := by
  have idle : ∀ k ∈ List.range 64, s.pollWait k = s := fun k hk => by
    rw [State.pollWait, none k (List.mem_range.mp hk)]
  unfold State.pollWaits State.forAll
  generalize List.range 64 = l at idle
  induction l with
  | nil => rfl
  | cons k l ih =>
    rw [List.foldl_cons, idle k List.mem_cons_self]
    exact ih fun j hj => idle j (List.mem_cons_of_mem _ hj)

/-- Beside what any request may change, and what a completed WAIT record does, no table has changed. -/
def State.WaitRest (s t : State) : Prop :=
  { t with regs := s.regs, queues := s.queues, tags := s.tags, planners := s.planners, fresh := s.fresh, freshAt := s.freshAt
           freeCtr := s.freeCtr, was := s.was } = s

theorem State.WaitRest.trans {s t u : State} (h : s.WaitRest t) (g : t.WaitRest u) : s.WaitRest u := by
  unfold State.WaitRest at *
  calc { u with regs := s.regs, queues := s.queues, tags := s.tags, planners := s.planners, fresh := s.fresh, freshAt := s.freshAt
                freeCtr := s.freeCtr, was := s.was }
    _ = { t with regs := s.regs, queues := s.queues, tags := s.tags, planners := s.planners, fresh := s.fresh, freshAt := s.freshAt
                 freeCtr := s.freeCtr, was := s.was } :=
        congrArg (fun x : State => { x with regs := s.regs, queues := s.queues, tags := s.tags, planners := s.planners, fresh := s.fresh
                                            freshAt := s.freshAt, freeCtr := s.freeCtr, was := s.was }) g
    _ = s := h

theorem State.RequestRest.waitRest {s t : State} (h : s.RequestRest t) : s.WaitRest t := by
  unfold State.WaitRest
  exact congrArg (fun x : State => { x with planners := s.planners, fresh := s.fresh, freshAt := s.freshAt }) h

/-- What a WAIT record that completes may change beside what any request may. -/
def mayWait : Nat := mayAll ||| may_queues ||| may_planners ||| may_fresh ||| may_freshAt ||| may_freeCtr

theorem Keeps.waitRest {m : Nat} {s t : State} (h : Keeps m s t) (hm : m &&& mayWait = m := by decide +kernel) : s.WaitRest t := by
  have h := h.mono hm
  unfold State.WaitRest
  simp only [h.pend, h.ledger (by decide +kernel), h.staged (by decide +kernel), h.streams (by decide +kernel), h.slopes (by decide +kernel),
    h.bankA (by decide +kernel), h.bankB (by decide +kernel), h.planCopy (by decide +kernel), h.fallback (by decide +kernel),
    h.loading (by decide +kernel), h.progs (by decide +kernel), h.cutoffs (by decide +kernel), h.safes (by decide +kernel),
    h.calls (by decide +kernel), h.diag (by decide +kernel), h.images (by decide +kernel), h.chunks (by decide +kernel),
    h.flash (by decide +kernel), h.newSet (by decide +kernel), h.deferred (by decide +kernel), h.log (by decide +kernel),
    h.traceBuf (by decide +kernel), h.traceOut (by decide +kernel), h.opens (by decide +kernel), h.shadows (by decide +kernel),
    h.runs (by decide +kernel), h.gateway (by decide +kernel), h.wire (by decide +kernel), h.delays (by decide +kernel)]

section
variable {s : State} {h : Hdr} {n : Fin 64}

theorem findObj_movePush (n : Fin 64) : findObj (axisIdx 0x13 n) 1 = some (⟨.MOVE_PUSH, 0x8013, 0x100, 64, 1, 1, .oct 128, .wo, []⟩, n.val) := by
  revert n
  decide +kernel

theorem movePush_request {bs : List Byte} (k : s.Accepts h (axisIdx 0x13 n) 1 bs) :
    let u := s.hostWrite h (axisIdx 0x13 n) 1 bs
    u.Answers h 0 [] ∧ (u.queue n).pkts = (s.queue n).pkts ++ (pushRecords bs).map .words ∧
      (∀ q, q ≠ n.val → q ≠ 71 → q ≠ 73 → u.queue q = s.queue q) ∧
      s.OnlyRegs u ([.AXIS_EVENTS, .LAST_DONE_TAG, .ACTIVE_KIND, .TRACE_DROPS, .dropPending, .readyAt] ++ requestRegs) ∧ s.WaitRest u ∧
      ((∀ k, k < 64 → s.waitRec k = none) → s.OnlyRegs u requestRegs ∧ u.planners = s.planners ∧ u.fresh = s.fresh) := by
  let w := s.taken h opWrite (axisIdx 0x13 n) 1 bs
  let x := w.pushAll n (pushRecords bs)
  have applied : w.applyWrite ⟨.MOVE_PUSH, 0x8013, 0x100, 64, 1, 1, .oct 128, .wo, []⟩ n bs =
      (x.pollWaits, false) := congrArg (·, false) (pushMoves_eq w n _)
  have passed : w.Passed ⟨.MOVE_PUSH, 0x8013, 0x100, 64, 1, 1, .oct 128, .wo, []⟩ n bs := accepts_passed k (findObj_movePush n)
  obtain ⟨opened, fits⟩ : w.qVoided n = false ∧ (w.queue n).depth + 4 * (pushRecords bs).length ≤ w.capacity n := by
    simpa [State.queueFull] using passed.room
  obtain ⟨answer, reply, others⟩ := hostWrite_applied k (findObj_movePush n) applied
  have pushed : s.Quiet x := pushAll_quiet ((quiet_refl s).taken ..) n _
  have polled := State.OnlyQueue.pollWaits (s := x) (t := x) (fun _ _ => rfl)
  have waited := pollWaits_keeps (M := State.pollWaits_may) (keeps_refl _ x)
  have moved : w.OnlyQueue x n := pushAll_onlyQueue (fun _ _ => rfl) (by omega) _
  refine ⟨answer, ?_, fun q hn h71 h73 => ?_, fun r i hr => ?_, ?_, fun none => ?_⟩
  · rw [others n (by omega), polled n (by omega), pushAll_pkts n.isLt (pushRecords_length bs) opened fits, taken_queue]
  · rw [others q h71, polled q h73, moved q hn, taken_queue]
  · have req : r ∉ requestRegs := fun e => hr (List.mem_append_right _ e)
    rw [reply.regs r i req, waited.onlyRegs _ (by decide +kernel) r i hr, pushed.regs r i req]
  · exact ((State.RequestRest.waitRest pushed.rest).trans waited.waitRest).trans (State.RequestRest.waitRest reply.rest)
  · have planners : x.planners = s.planners := (congrArg State.planners pushed.rest :)
    have idle : x.pollWaits = x := pollWaits_of_none fun j hj => by
      rw [State.waitRec, State.planner, planners]
      exact none j hj
    rw [idle] at reply
    have quiet := pushed.trans reply
    exact ⟨quiet.regs, (congrArg State.planners quiet.rest :), (congrArg State.fresh quiet.rest :)⟩

end

-- O52

/-- Settles O52, write by write. -/
theorem motionRequests : Obligations.MotionRequests := by
  unfold Obligations.MotionRequests
  intro h n s
  refine ⟨fun v lo hi => ⟨fun k => ⟨_, rfl, target_request lo hi k⟩, fun k => ⟨_, rfl, setPosition_request lo hi k⟩⟩,
    fun k => ⟨_, rfl, stop_request k⟩, fun k => ⟨_, rfl, stop_request k⟩, fun ws => ?_, fun k => ⟨_, rfl, queueFlush_request k⟩,
    fun k v hv acc => ⟨_, rfl, limit_request hv acc⟩,
    fun v hv k => ⟨_, rfl, lowMark_request hv k⟩, fun k => ⟨_, rfl, followEngage_request k⟩,
    fun k => ⟨_, rfl, followDisengage_request k⟩,
    fun v lo hi k => ⟨_, rfl, ratioNum_request lo hi k⟩, fun v lo hi k => ⟨_, rfl, ratioDen_request lo hi k⟩⟩
  exact fun k => ⟨_, rfl, movePush_request k⟩

end Sys2Proof.Machine
end

section
/-! PROOFS. The completion of a record, releases that begin and WAIT records that time out (O22). -/
namespace Sys2Proof.Machine

set_option Elab.async false

-- the completion of a record (R67)

/-- The active record `m` of axis `n` completed, before QUEUE_EMPTY. -/
def State.recDone (s : State) (n : Nat) (m : Move) : State :=
  let x := ((s.wrPlanner n { s.planner n with act := none }).wr .LAST_DONE_TAG n m.tag).wr .ACTIVE_KIND n 0
  x.wr .readyAt n x.now

section
variable {s : State} {n : Nat} {m : Move} (active : (s.planner n).act = some m)
include active

theorem completeRec_eq : s.completeRec n = if (s.recDone n m).waiting n = 0 then (s.recDone n m).event n 4 else s.recDone n m := by
  unfold State.completeRec
  rw [active]
  rfl

theorem completeRec_of_active : Keeps State.event_may (s.recDone n m) (s.completeRec n) := by
  rw [completeRec_eq active]
  exact keeps_ite (event_keeps n 4 (keeps_refl _ _)) (keeps_refl _ _)

/-- A completed record leaves its TAG, and no record is active. -/
theorem completeRec_shows :
    (s.completeRec n).rd .LAST_DONE_TAG n = m.tag ∧ (s.completeRec n).rd .ACTIVE_KIND n = 0 ∧ ((s.completeRec n).planner n).act = none := by
  have done := completeRec_of_active active
  rw [done.rd .LAST_DONE_TAG n (by decide +kernel), done.rd .ACTIVE_KIND n (by decide +kernel), done.planner n]
  refine ⟨by simp [State.recDone, State.rd_wr], by simp [State.recDone, State.rd_wr], ?_⟩
  rw [State.recDone, State.planner_wr, State.planner_wr, State.planner_wr, State.planner_wrPlanner, if_pos rfl]

end

theorem event_bit (s : State) (n b c : Nat) : (s.event n b).bit .AXIS_EVENTS n c = (s.bit .AXIS_EVENTS n c || decide (b = c)) := by
  have traced := traceAxis_keeps (M := State.traceAxis_may) n b (keeps_refl _ (s.raise .AXIS_EVENTS n (2 ^ b)))
  rw [State.event, State.bit_congr (traced.rd .AXIS_EVENTS n (by decide +kernel)), State.bit_raise, Nat.testBit_two_pow, decide_eq_true rfl, Bool.true_and]

/-- The completion of a record clears no event. -/
theorem completeRec_bit {s : State} {n c : Nat} (h : s.bit .AXIS_EVENTS n c = true) : (s.completeRec n).bit .AXIS_EVENTS n c = true := by
  cases active : (s.planner n).act with
  | none => rwa [State.completeRec, active]
  | some m =>
    have noted : (s.recDone n m).bit .AXIS_EVENTS n c = true := by
      rwa [State.bit_congr (s := s) (by simp [State.recDone, State.rd_wr])]
    rw [completeRec_eq active]
    split
    · rw [event_bit, noted, Bool.true_or]
    · exact noted

theorem State.SameMoves.completeRec {S s : State} (h : S.SameMoves s) (n : Nat) : S.SameMoves (s.completeRec n) := by
  cases active : (s.planner n).act with
  | none => rwa [State.completeRec, active]
  | some m =>
    have noted : S.SameMoves (s.recDone n m) := h.same rfl
    rw [completeRec_eq active]
    exact (noted.event n 4).ite noted

-- RELEASE_START (R72)

section
variable {s : State} {n : Nat}

/-- What a release that begins leaves: nothing waits, and the angle starts with the next CKP cycle. -/
theorem releaseNow_shows (s : State) (n : Nat) :
    (s.releaseNow n).rd .relWait n = 0 ∧ (s.releaseNow n).rd .RELEASE_PENDING n = 0 ∧
      (s.releaseNow n).rd .relFrom n = (if s.rd .relFrom n = 1 then (((s.now - s.rdN .PASS_MARK_TIME 0) / 2 + 2 : Nat) : Int) else s.rd .relFrom n) ∧
      (s.releaseNow n).planner n = s.planner n := by
  unfold State.releaseNow
  extract_lets x y
  have counted : Keeps (may .RELEASE_UNSYNC ||| State.count_may) s x := keeps_iff (keeps_refl _ s) fun _ g => count_keeps .RELEASE_UNSYNC n 1 32 g
  have began := checkSync_keeps (M := State.beginMoving_may ||| State.checkSync_may) (beginMoving_keeps n (keeps_refl _ (y.dropRelease n)))
  have start : y.rd .relFrom n =
      if s.rd .relFrom n = 1 then (((s.now - s.rdN .PASS_MARK_TIME 0) / 2 + 2 : Nat) : Int) else s.rd .relFrom n := by
    have now : x.now = s.now := congrArg Int.toNat (counted.rd .DEVICE_TIME 0 (by decide +kernel))
    have mark : x.rdN .PASS_MARK_TIME 0 = s.rdN .PASS_MARK_TIME 0 := congrArg Int.toNat (counted.rd .PASS_MARK_TIME 0 (by decide +kernel))
    unfold y
    rw [now, mark, counted.rd .relFrom n (by decide +kernel)]
    split
    · rw [State.rd_wr_same]
    · exact counted.rd .relFrom n (by decide +kernel)
  have planner : y.planner n = s.planner n := by
    have same : y.planner n = x.planner n := by
      unfold y
      split <;> rfl
    rw [same, counted.planner n]
  rw [began.rd .relWait n (by decide +kernel), began.rd .RELEASE_PENDING n (by decide +kernel), began.rd .relFrom n (by decide +kernel),
    began.planner n]
  refine ⟨?_, State.rd_wr_same .., ?_, planner⟩
  · simp [State.dropRelease, State.rd_wr]
  · rw [← start]
    simp [State.dropRelease, State.rd_wr]

-- WAIT_TIMEOUT (R68)

theorem waiting_flushQueue (s : State) (n : Nat) : (s.flushQueue n).waiting n = 0 := by
  rw [State.waiting, State.flushQueue, State.queue_wrQueue, if_pos rfl]
  rfl

variable {m : Move} (waits : s.waitRec n = some m)
include waits

theorem act_of_waitRec : (s.planner n).act = some m := (Option.filter_eq_some_iff.mp waits).1

theorem pollWait_of_unmet (unmet : s.waitMet m = false) : s.pollWait n = s := by
  rw [State.pollWait, waits]
  exact if_neg (by rw [unmet]; exact Bool.false_ne_true)

/-- The count of timeouts and the event, before the record completes. -/
theorem timeOut_eq : s.timeOut n =
    ((if m.onTimeout then ((s.event n 9).count .WAIT_TIMEOUTS n).flushQueue n else (s.event n 9).count .WAIT_TIMEOUTS n)).completeRec n := by
  rw [State.timeOut, waits]

/-- A WAIT record that times out completes, and with ON_TIMEOUT no record waits behind it. -/
theorem timeOut_shows (hn : n < 64) (room : s.rd .WAIT_TIMEOUTS n + 1 < 2 ^ 32) :
    (s.timeOut n).rd .WAIT_TIMEOUTS n = s.rd .WAIT_TIMEOUTS n + 1 ∧ (s.timeOut n).bit .AXIS_EVENTS n 9 = true ∧
      (s.timeOut n).rd .LAST_DONE_TAG n = m.tag ∧ ((s.timeOut n).planner n).act = none ∧ (m.onTimeout = true → (s.timeOut n).waiting n = 0) ∧
      (m.onTimeout = false → (s.timeOut n).waiting n = s.waiting n) := by
  have evented := event_keeps (M := State.event_may) n 9 (keeps_refl _ s)
  have before : (s.event n 9).rd .WAIT_TIMEOUTS n = s.rd .WAIT_TIMEOUTS n := evented.rd .WAIT_TIMEOUTS n (by decide +kernel)
  rw [timeOut_eq waits, State.count_one (by rw [before]; exact room)]
  let y := (s.event n 9).wr .WAIT_TIMEOUTS n ((s.event n 9).rd .WAIT_TIMEOUTS n + 1)
  show let z := (if m.onTimeout then y.flushQueue n else y); _
  intro z
  have same : z.regs = y.regs ∧ z.planners = y.planners := by
    unfold z
    split <;> exact ⟨rfl, rfl⟩
  obtain ⟨regs, planners⟩ := same
  have active : (z.planner n).act = some m := by
    rw [State.planner, planners]
    exact (congrArg Planner.act (evented.planner n)).trans (act_of_waitRec waits)
  obtain ⟨tag, -, free⟩ := completeRec_shows active
  have done := completeRec_of_active active
  have queue : ((z.completeRec n).queue n) = z.queue n := ((sameMoves_refl z).completeRec n).queue n hn
  refine ⟨?_, completeRec_bit ?_, tag, free, fun flush => ?_, fun keep => ?_⟩
  · have unwritten : (z.recDone n m).rd .WAIT_TIMEOUTS n = y.rd .WAIT_TIMEOUTS n := by
      simp [State.recDone, State.rd_wr, State.rd_congr regs]
    rw [done.rd .WAIT_TIMEOUTS n (by decide +kernel), unwritten, State.rd_wr_same, before]
  · have noted : (s.event n 9).bit .AXIS_EVENTS n 9 = true := by rw [event_bit, decide_eq_true rfl, Bool.or_true]
    rw [State.bit_congr (s := s.event n 9) ((State.rd_congr regs ..).trans (State.rd_wr_ne _ _ _ _ (by decide))), noted]
  · have flushed : z = y.flushQueue n := if_pos flush
    rw [State.waiting, queue, flushed]
    exact waiting_flushQueue y n
  · have kept : z = y := if_neg (by rw [keep]; exact Bool.false_ne_true)
    rw [State.waiting, queue, kept, State.waiting]
    exact congrArg (fun x : Queue => x.pkts.length) (((sameMoves_refl s).event n 9).queue n hn)

end

end Sys2Proof.Machine
end

section
/-! PROOFS. STEP/DIR edges, faulty pairs and dry streams (O22). -/
namespace Sys2Proof.Machine

set_option Elab.async false

-- registers alone

/-- Number `n` of `own` and the registers of `free` written, and no table. -/
structure State.RegsAt (s t : State) (n : Nat) (own free : List Reg) : Prop where
  regs : s.OnlyAt t n own free
  rest : { t with regs := s.regs } = s

section
variable {s t u : State} {n : Nat} {own free : List Reg}

theorem regsAt_refl (s : State) (n : Nat) (own free : List Reg) : s.RegsAt s n own free := ⟨onlyAt_refl s n own free, rfl⟩

theorem State.RegsAt.wr (h : s.RegsAt t n own free) (r : Reg) (v : Int) (hr : r ∈ own := by decide) : s.RegsAt (t.wr r n v) n own free :=
  ⟨h.regs.wr r v hr, h.rest⟩

theorem State.RegsAt.wrFree (h : s.RegsAt t n own free) (r : Reg) (i : Nat) (v : Int) (hr : r ∈ free := by decide) :
    s.RegsAt (t.wr r i v) n own free := ⟨h.regs.wrFree r i v hr, h.rest⟩

theorem State.RegsAt.ite {c : Prop} [Decidable c] (h : s.RegsAt t n own free) (g : s.RegsAt u n own free) :
    s.RegsAt (if c then t else u) n own free := by
  split <;> assumption

/-- A counter of `own` that counts where `c` holds. -/
theorem State.RegsAt.iffCount (h : s.RegsAt t n own free) (c : Bool) (r : Reg) (room : t.rd r n + 1 < 2 ^ 32) (hr : r ∈ own := by decide) :
    s.RegsAt (t.iff c (fun x => x.count r n)) n own free := by
  show s.RegsAt (if c then t.count r n else t) n own free
  rw [State.count_one room]
  exact (h.wr r _ hr).ite h

end

theorem rd_iff_count {s : State} {r : Reg} {i : Nat} (room : s.rd r i + 1 < 2 ^ 32) (c : Bool) :
    (s.iff c (fun x => x.count r i)).rd r i = s.rd r i + if c then 1 else 0 := by
  cases c with
  | false => exact (Int.add_zero _).symm
  | true => exact (congrArg (State.rd · r i) (State.count_one room)).trans (State.rd_wr_same ..)

-- an update of a source (R78)

/-- The registers of the reconstruction of a source. -/
def srcRegs : List Reg := [.srcGoal, .srcFrom, .srcAt, .srcSpan, .srcNew]

theorem srcUpdate_regsAt {s t : State} (h : s.RegsAt t 0 [] srcRegs) (n : Nat) (P : Int) : s.RegsAt (t.srcUpdate n P) 0 [] srcRegs := by
  unfold State.srcUpdate
  exact (h.wrFree .srcGoal n _).ite (((((h.wrFree .srcGoal n _).wrFree .srcFrom n _).wrFree .srcAt n _).wrFree .srcSpan n _).wrFree .srcNew n 1)

/-- An update of the source of one axis leaves the registers of every other number alone. -/
theorem srcUpdate_onlyAt (s : State) (n : Nat) (P : Int) : s.OnlyAt (s.srcUpdate n P) n srcRegs [] := by
  have same := onlyAt_refl s n srcRegs []
  unfold State.srcUpdate
  split
  · exact same.wr .srcGoal _
  · exact ((((same.wr .srcGoal _).wr .srcFrom _).wr .srcAt _).wr .srcSpan _).wr .srcNew 1

/-- The source goes to its new position; the first update of a cycle starts from where the reconstruction stands. -/
theorem srcUpdate_shows (s : State) (n : Nat) (P : Int) :
    (s.srcUpdate n P).rd .srcGoal n = P * 65536 ∧
      (s.rd .srcNew n ≠ 1 ∨ s.rdN .srcAt n ≠ s.now →
        (s.srcUpdate n P).rd .srcFrom n = s.srcPos n s.now ∧ (s.srcUpdate n P).rd .srcAt n = s.now) := by
  unfold State.srcUpdate
  extract_lets r d x
  split
  · next again =>
    rw [Bool.and_eq_true, decide_eq_true_eq, decide_eq_true_eq] at again
    exact ⟨State.rd_wr_same .., fun first => absurd again (by tauto)⟩
  · have now : x.now = s.now := by simp [x, State.now, State.rdN, State.rd_wr]
    simp [x, State.rd_wr, now, r]

theorem srcPos_congr {s t : State} {n : Nat} (h : ∀ r ∈ srcRegs, t.rd r n = s.rd r n) (k : Nat) : t.srcPos n k = s.srcPos n k := by
  unfold State.srcPos
  rw [State.rdN, State.rdN, State.rdN, State.rdN, h .srcFrom (by decide), h .srcSpan (by decide), h .srcAt (by decide), h .srcGoal (by decide)]

-- the followers of a pair (R76)

/-- The followers `l` take the update to the coarse count `c` in turn. -/
def State.updateAll (s : State) (c : Int) (l : List Nat) : State := s.forList l (fun x n => x.srcUpdate n (c * x.rd .COARSE_SIZE n))

theorem updateFollowers_eq (s : State) (k num : Nat) (c : Int) : s.updateFollowers k num c = s.updateAll c (s.followers k num) := rfl

theorem updateAll_regsAt {s t : State} (h : s.RegsAt t 0 [] srcRegs) (c : Int) (l : List Nat) : s.RegsAt (t.updateAll c l) 0 [] srcRegs := by
  induction l generalizing t with
  | nil => exact h
  | cons n l ih => exact ih (srcUpdate_regsAt h n _)

theorem updateAll_rd_of_notMem (s : State) (c : Int) {l : List Nat} {n : Nat} (hn : n ∉ l) (r : Reg) : (s.updateAll c l).rd r n = s.rd r n := by
  induction l generalizing s with
  | nil => rfl
  | cons j l ih =>
    obtain ⟨apart, rest⟩ := List.ne_and_not_mem_of_not_mem_cons hn
    exact (ih (s.srcUpdate j _) rest).trans (srcUpdate_onlyAt s j _ r n List.not_mem_nil (fun e => apart e.2))

/-- Each follower takes the update once. -/
theorem updateAll_shows {s : State} (c : Int) {l : List Nat} (nodup : l.Nodup) {n : Nat} (hn : n ∈ l) :
    (s.updateAll c l).rd .srcGoal n = c * s.rd .COARSE_SIZE n * 65536 ∧
      (s.rd .srcNew n ≠ 1 ∨ s.rdN .srcAt n ≠ s.now →
        (s.updateAll c l).rd .srcFrom n = s.srcPos n s.now ∧ (s.updateAll c l).rd .srcAt n = s.now) := by
  obtain ⟨l1, l2, rfl⟩ := List.append_of_mem hn
  have apart := List.nodup_middle.mp nodup
  obtain ⟨out, -⟩ := List.nodup_cons.mp apart
  obtain ⟨before, after⟩ := not_or.mp (mt List.mem_append.mpr out)
  let x := s.updateAll c l1
  have same (r : Reg) : x.rd r n = s.rd r n := updateAll_rd_of_notMem s c before r
  have turns : s.updateAll c (l1 ++ n :: l2) = (x.srcUpdate n (c * s.rd .COARSE_SIZE n)).updateAll c l2 := by
    rw [← same, State.updateAll, State.forList, List.foldl_append]
    rfl
  have now : x.now = s.now := congrArg Int.toNat ((updateAll_regsAt (regsAt_refl s 0 [] _) c l1).regs .DEVICE_TIME 0 (by decide) (by simp))
  obtain ⟨goal, start⟩ := srcUpdate_shows x n (c * s.rd .COARSE_SIZE n)
  rw [turns, updateAll_rd_of_notMem _ c after, updateAll_rd_of_notMem _ c after, updateAll_rd_of_notMem _ c after, goal]
  refine ⟨rfl, fun first => ?_⟩
  rw [State.rdN, same, same, now, srcPos_congr (s := s) (fun r _ => same r)] at start
  exact start first

theorem mem_followers {s : State} {k num n : Nat} : n ∈ s.followers k num ↔ n < 64 ∧ s.rdN .FOLLOW_SOURCE n = k ∧ s.rdN .SOURCE_NUM n = num := by
  simp [State.followers]

theorem followers_nodup (s : State) (k num : Nat) : (s.followers k num).Nodup := List.nodup_range.filter _

-- STEP_EDGE (R93)

/-- An edge of a pair counted, before the followers of the pair take it. -/
def State.edgeCounted (s : State) (p : Nat) (dir : Bool) (age : Nat) : State :=
  let up : Bool := dir ≠ (s.rd .DIR_POLARITY p = 1)
  let last := s.rdN .stepAt p
  let s := s.iff (age < 10) (fun s => s.count .DIR_SETUP_VIOL p)
  let s := s.iff (last ≠ 0 && decide (s.now + 1 < last + 45)) (fun s => s.count .OVERRATE p)
  let c := s.rd .STEP_COUNT p + (if up then 1 else -1)
  (s.wr .stepAt p (s.now + 1)).wr48 .STEP_COUNT p c

/-- The registers of the counter of a pair. -/
def edgeRegs : List Reg := [.STEP_COUNT, .DIR_SETUP_VIOL, .OVERRATE, .stepAt]

theorem exec_stepEdge (t : Nat) (p : Fin 8) (dir : Bool) (age : Nat) (s0 : State) : exec (.stepEdge t p dir age) s0 =
    .next (((s0.at t).edgeCounted p dir age).updateFollowers 1 p (((s0.at t).edgeCounted p dir age).rd .STEP_COUNT p)) := rfl

section
variable {s : State} {p : Nat} {dir : Bool} (age : Nat)
  (lo : -2 ^ 47 ≤ s.rd .STEP_COUNT p + if dir = decide (s.rd .DIR_POLARITY p = 1) then -1 else 1)
  (hi : (s.rd .STEP_COUNT p + if dir = decide (s.rd .DIR_POLARITY p = 1) then -1 else 1) < 2 ^ 47)
  (viol : s.rd .DIR_SETUP_VIOL p + 1 < 2 ^ 32) (fast : s.rd .OVERRATE p + 1 < 2 ^ 32)
include lo hi viol fast

/-- What an edge counts, each counter within its range. -/
theorem edgeCounted_shows :
    (s.edgeCounted p dir age).rd .STEP_COUNT p = s.rd .STEP_COUNT p + (if dir = decide (s.rd .DIR_POLARITY p = 1) then -1 else 1) ∧
      (s.edgeCounted p dir age).rd .DIR_SETUP_VIOL p = s.rd .DIR_SETUP_VIOL p + (if age < 10 then 1 else 0) ∧
      (s.edgeCounted p dir age).rd .OVERRATE p =
        s.rd .OVERRATE p + (if s.rdN .stepAt p ≠ 0 ∧ s.now + 1 < s.rdN .stepAt p + 45 then 1 else 0) ∧
      s.RegsAt (s.edgeCounted p dir age) p edgeRegs [] := by
  unfold State.edgeCounted
  extract_lets up last x y c
  have toX : s.RegsAt x p [.DIR_SETUP_VIOL] [] := (regsAt_refl s p _ _).iffCount _ .DIR_SETUP_VIOL viol
  have sameX (r : Reg) (i : Nat) (hr : r ≠ .DIR_SETUP_VIOL) : x.rd r i = s.rd r i := toX.regs r i List.not_mem_nil (by simp [hr])
  have fastX : x.rd .OVERRATE p + 1 < 2 ^ 32 := by rwa [sameX _ _ (by decide)]
  have toY : x.RegsAt y p [.OVERRATE] [] := (regsAt_refl x p _ _).iffCount _ .OVERRATE fastX
  have sameY (r : Reg) (i : Nat) (hr : r ≠ .OVERRATE) : y.rd r i = x.rd r i := toY.regs r i List.not_mem_nil (by simp [hr])
  have count : c = s.rd .STEP_COUNT p + if dir = decide (s.rd .DIR_POLARITY p = 1) then -1 else 1 := by
    have sign : (if up then 1 else -1 : Int) = if dir = decide (s.rd .DIR_POLARITY p = 1) then -1 else 1 := by
      by_cases high : s.rd .DIR_POLARITY p = 1 <;> cases dir <;> simp [up, high]
    unfold c
    rw [sign, sameY _ _ (by decide), sameX _ _ (by decide)]
  have whole : s.RegsAt y p edgeRegs [] :=
    ((regsAt_refl s p edgeRegs []).iffCount _ .DIR_SETUP_VIOL viol).iffCount _ .OVERRATE fastX
  have now : x.now = s.now := congrArg Int.toNat (sameX .DEVICE_TIME 0 (by decide))
  rw [wr48_of_range _ _ _ (count ▸ lo) (count ▸ hi)]
  refine ⟨by rw [State.rd_wr_same, count], ?_, ?_, (whole.wr .stepAt _).wr .STEP_COUNT c⟩
  · rw [State.rd_wr_ne _ _ _ _ (by decide), State.rd_wr_ne _ _ _ _ (by decide), sameY _ _ (by decide), rd_iff_count viol]
    simp
  · rw [State.rd_wr_ne _ _ _ _ (by decide), State.rd_wr_ne _ _ _ _ (by decide), rd_iff_count fastX, sameX _ _ (by decide), now]
    simp [last]

/-- An edge counts, and every follower of the pair goes to the new count from where its reconstruction stands. -/
theorem stepEdge_shows :
    let c := s.rd .STEP_COUNT p + if dir = decide (s.rd .DIR_POLARITY p = 1) then -1 else 1
    let u := (s.edgeCounted p dir age).updateFollowers 1 p ((s.edgeCounted p dir age).rd .STEP_COUNT p)
    u.rd .STEP_COUNT p = c ∧ u.rd .DIR_SETUP_VIOL p = s.rd .DIR_SETUP_VIOL p + (if age < 10 then 1 else 0) ∧
      u.rd .OVERRATE p = s.rd .OVERRATE p + (if s.rdN .stepAt p ≠ 0 ∧ s.now + 1 < s.rdN .stepAt p + 45 then 1 else 0) ∧
      (∀ n, n < 64 → s.rdN .FOLLOW_SOURCE n = 1 → s.rdN .SOURCE_NUM n = p →
        u.rd .srcGoal n = c * s.rd .COARSE_SIZE n * 65536 ∧
        (s.rd .srcNew n ≠ 1 ∨ s.rdN .srcAt n ≠ s.now → u.rd .srcFrom n = s.srcPos n s.now ∧ u.rd .srcAt n = (s.now : Int))) ∧
      (∀ n, s.rdN .FOLLOW_SOURCE n ≠ 1 ∨ s.rdN .SOURCE_NUM n ≠ p → u.rd .srcGoal n = s.rd .srcGoal n ∧ u.rd .srcFrom n = s.rd .srcFrom n) ∧
      s.OnlyAt u p edgeRegs srcRegs ∧ { u with regs := s.regs } = s := by
  obtain ⟨count, setup, rate, counted⟩ := edgeCounted_shows age lo hi viol fast
  generalize s.edgeCounted p dir age = x at count setup rate counted ⊢
  rw [updateFollowers_eq]
  intro c u
  have taken : x.RegsAt u 0 [] srcRegs := updateAll_regsAt (regsAt_refl x 0 [] _) _ _
  have free (r : Reg) (i : Nat) (hr : r ∉ srcRegs) : u.rd r i = x.rd r i := taken.regs r i hr (by simp)
  have same (r : Reg) (i : Nat) (hr : r ∉ edgeRegs) : x.rd r i = s.rd r i := counted.regs r i List.not_mem_nil (fun e => hr e.1)
  have follower (n : Nat) : n ∈ x.followers 1 p ↔ n < 64 ∧ s.rdN .FOLLOW_SOURCE n = 1 ∧ s.rdN .SOURCE_NUM n = p := by
    rw [mem_followers, State.rdN, State.rdN, same .FOLLOW_SOURCE n (by decide), same .SOURCE_NUM n (by decide)]
    rfl
  have now : x.now = s.now := congrArg Int.toNat (same .DEVICE_TIME 0 (by decide))
  refine ⟨by rw [free _ _ (by decide), count], by rw [free _ _ (by decide), setup], by rw [free _ _ (by decide), rate], fun n hn source num => ?_,
    fun n other => ?_, fun r i hf ho => ?_, ?_⟩
  · have shows : u.rd .srcGoal n = x.rd .STEP_COUNT p * x.rd .COARSE_SIZE n * 65536 ∧
        (x.rd .srcNew n ≠ 1 ∨ x.rdN .srcAt n ≠ x.now → u.rd .srcFrom n = x.srcPos n x.now ∧ u.rd .srcAt n = x.now) :=
      updateAll_shows _ (followers_nodup x 1 p) ((follower n).mpr ⟨hn, source, num⟩)
    obtain ⟨goal, start⟩ := shows
    rw [count, same .COARSE_SIZE n (by decide)] at goal
    rw [State.rdN, same .srcNew n (by decide), same .srcAt n (by decide), now,
      srcPos_congr (s := s) (fun r hr => same r n ((by decide : ∀ r ∈ srcRegs, r ∉ edgeRegs) r hr))] at start
    exact ⟨goal, start⟩
  · have out : n ∉ x.followers 1 p := fun e => by
      obtain ⟨-, source, num⟩ := (follower n).mp e
      exact other.elim (· source) (· num)
    have still (r : Reg) : u.rd r n = x.rd r n := updateAll_rd_of_notMem x _ out r
    rw [still, still, same .srcGoal n (by decide), same .srcFrom n (by decide)]
    exact ⟨rfl, rfl⟩
  · rw [free r i hf, counted.regs r i List.not_mem_nil ho]
  · exact (congrArg (fun y : State => { y with regs := s.regs }) taken.rest).trans counted.rest

end

-- PAIR_FAULT (R93)

theorem pairFault_shows (s : State) (p : Nat) (on : Bool) :
    let u := (s.iff (on && s.rd .PAIR_FAULT p = 0) (fun s => s.wr .pairAt p s.now)).wr .PAIR_FAULT p (if on then 1 else 0)
    u.rd .PAIR_FAULT p = (if on then 1 else 0) ∧
      u.rd .pairAt p = (if on = true ∧ s.rd .PAIR_FAULT p = 0 then (s.now : Int) else s.rd .pairAt p) ∧
      s.OnlyAt u p [.PAIR_FAULT, .pairAt] [] ∧ { u with regs := s.regs } = s := by
  have own := regsAt_refl s p [.PAIR_FAULT, .pairAt] []
  have whole := (State.RegsAt.ite (c := (on && decide (s.rd .PAIR_FAULT p = 0)) = true) (own.wr .pairAt s.now) own).wr .PAIR_FAULT (if on then 1 else 0)
  refine ⟨State.rd_wr_same .., ?_, whole.regs, whole.rest⟩
  rw [State.rd_wr_ne _ _ _ _ (by decide)]
  by_cases began : on = true ∧ s.rd .PAIR_FAULT p = 0
  · simp [State.iff, began, State.rd_wr]
  · simp [State.iff, began]

-- O22

/-- Settles O22, event by event. -/
theorem releasesTimeoutsAndSources : Obligations.ReleasesTimeoutsAndSources := by
  unfold Obligations.ReleasesTimeoutsAndSources
  refine ⟨fun t n s0 => ⟨fun planned due => ?_, fun m waits unmet mark timed due room => ?_⟩,
    fun t s0 => ⟨fun p dir age lo hi viol fast => ?_, fun p on => ⟨_, rfl, pairFault_shows (s0.at t) p on⟩, fun n stream fast => ?_⟩⟩
  · have run : exec (.releaseStart t n) s0 = .next ((s0.at t).releaseNow n) := by
      refine congrArg Host.Outcome.next (if_pos ?_)
      rw [decide_eq_true planned, decide_eq_true due, Bool.and_self]
    exact ⟨_, run, releaseNow_shows _ _⟩
  · have run : exec (.waitTimeout t n) s0 = .next ((s0.at t).timeOut n) := by
      show execWaitTimeout t n s0 = _
      rw [execWaitTimeout, pollWait_of_unmet waits unmet, waits]
      simp [mark, timed, due]
    exact ⟨_, run, timeOut_shows waits n.isLt room⟩
  · exact ⟨_, exec_stepEdge .., stepEdge_shows age lo hi viol fast⟩
  · refine congrArg Host.Outcome.next (if_pos ?_)
    rw [decide_eq_true stream, fast, Bool.and_self]

end Sys2Proof.Machine
end

section
/-! PROOFS. What keeps the active record of an axis and the move queues (O19): moves, limits, releases. -/
namespace Sys2Proof.Machine

set_option Elab.async false

-- the objects that records write (R56, R100)

/-- A limit object takes the value `v` of a SET_LIMITS record, unless that is 0 (R56). -/
def State.putLimit (s : State) (n : Nat) (r : Reg) (b v : Nat) : State :=
  if v = 0 then s else ((s.wr r n v).wrBit .limNew n b true).wr .limAt (4 * n + b) s.now

theorem setLimits_eq (s : State) (n : Nat) (m : Move) : s.setLimits n m =
    ((((s.iff (s.rd .limNew n ≠ 0) (fun s => s.applyLimits n)).putLimit n .VMAX 0 (m.w1 % 2 ^ 32)).putLimit n .AMAX 1 (m.w1 / 2 ^ 32)).putLimit n
      .DMAX 2 (m.w2 % 2 ^ 32)).putLimit n .JMAX 3 (m.w2 / 2 ^ 32) := rfl

theorem rd_putLimit (s : State) (n : Nat) (r : Reg) (b v : Nat) {q : Reg} (hn : q ≠ .limNew) (ha : q ≠ .limAt) :
    (s.putLimit n r b v).rd q n = if q = r ∧ v ≠ 0 then (v : Int) else s.rd q n := by
  unfold State.putLimit
  by_cases zero : v = 0
  · simp [zero]
  · rw [if_neg zero, State.rd_wr_ne _ _ _ _ ha, State.rd_wrBit_ne _ _ _ _ _ hn, State.rd_wr]
    simp [zero]

/-- A current object takes the value `v` of a SET_CURRENTS record, unless that is 0xFFFF (R65). -/
def State.putCurrent (s : State) (n : Nat) (r : Reg) (v : Nat) : State := if v = 0xFFFF then s else s.wr r n v

theorem setCurrents_eq (s : State) (n : Nat) (m : Move) : s.setCurrents n m =
    ((s.putCurrent n .RUN_CURRENT (bitsOf m.w1 15 0)).putCurrent n .HOLD_CURRENT (bitsOf m.w1 31 16)).putCurrent n .BOOST_CURRENT
      (bitsOf m.w1 47 32) := rfl

theorem rd_putCurrent (s : State) (n : Nat) (r : Reg) (v : Nat) (q : Reg) :
    (s.putCurrent n r v).rd q n = if q = r ∧ v ≠ 0xFFFF then (v : Int) else s.rd q n := by
  unfold State.putCurrent
  by_cases keep : v = 0xFFFF
  · simp [keep]
  · rw [if_neg keep, State.rd_wr]
    simp [keep]

-- the relation

/-- From `s` to `t` axis `n` keeps its active record, and every move queue its records. -/
structure State.HoldsRec (n : Nat) (s t : State) : Prop where
  act   : (t.planner n).act = (s.planner n).act
  moves : s.SameMoves t

theorem holdsRec_refl (n : Nat) (s : State) : s.HoldsRec n s := ⟨rfl, sameMoves_refl s⟩

namespace State.HoldsRec

section
variable {n : Nat} {S s t : State} (h : S.HoldsRec n s)
include h

theorem trans (g : s.HoldsRec n t) : S.HoldsRec n t := ⟨g.act.trans h.act, h.moves.trans g.moves⟩

/-- A change that leaves planners and move queues alone. -/
theorem same {m : Nat} (e : Keeps m s t) (moves : s.SameMoves t) (hm : m.testBit 2009 = false := by decide +kernel) : S.HoldsRec n t :=
  ⟨(congrArg Planner.act (e.planner n hm)).trans h.act, h.moves.trans moves⟩

theorem keeps {m : Nat} (e : Keeps m s t) (hm : m.testBit 2009 = false := by decide +kernel) (hq : m.testBit 2003 = false := by decide +kernel) :
    S.HoldsRec n t := h.same e ((sameMoves_refl s).keeps e hq) hm

theorem wr (r : Reg) (i : Nat) (v : Int) : S.HoldsRec n (s.wr r i v) := ⟨h.act, h.moves.wr r i v⟩

theorem wrPlanner (p : Planner) (hp : p.act = (s.planner n).act) : S.HoldsRec n (s.wrPlanner n p) := by
  refine ⟨?_, h.moves.same rfl⟩
  rw [State.planner_wrPlanner, if_pos rfl, hp, h.act]

theorem ite {c : Prop} {_ : Decidable c} (g : S.HoldsRec n t) : S.HoldsRec n (if c then s else t) := by
  split <;> assumption

theorem thenIf {c : Prop} {_ : Decidable c} (g : S.HoldsRec n s → S.HoldsRec n t) : S.HoldsRec n (if c then t else s) := (g h).ite h

theorem elseIf {c : Prop} {_ : Decidable c} (g : S.HoldsRec n s → S.HoldsRec n t) : S.HoldsRec n (if c then s else t) := h.ite (g h)

theorem count (r : Reg) (i k w : Nat) : S.HoldsRec n (s.count r i k w) := (h.wr r i _).ite ⟨h.act, h.moves.same rfl⟩

theorem wr48 (r : Reg) (i : Nat) (v : Int) : S.HoldsRec n (s.wr48 r i v) := (h.wr r i v).ite ⟨h.act, h.moves.same rfl⟩

theorem event (k b : Nat) : S.HoldsRec n (s.event k b) :=
  h.same (event_keeps (M := State.event_may) k b (keeps_refl _ s)) ((sameMoves_refl s).event k b)

theorem setAxis (k : Nat) (v : Int) : S.HoldsRec n (s.setAxis k v) :=
  h.same (setAxis_keeps (M := State.setAxis_may) k v (keeps_refl _ s)) ((sameMoves_refl s).setAxis k v)

theorem detect (b c data : Nat) (opens : Bool) : S.HoldsRec n (s.detect b c data opens) :=
  h.same (detect_keeps (M := State.detect_may) b c data opens (keeps_refl _ s)) ((sameMoves_refl s).detect b c data opens)

theorem traceIf (src : Nat) (pass : Bool) (v : Nat) : S.HoldsRec n (s.traceIf src pass v) :=
  h.same (traceIf_keeps (M := State.traceIf_may) src pass v (keeps_refl _ s)) ((sameMoves_refl s).traceIf src pass v)

-- plans (R44–R58)

theorem setPlan (p : Plan) : S.HoldsRec n (s.setPlan n p) := by
  unfold State.setPlan
  extract_lets pl x
  have put : S.HoldsRec n x := h.wrPlanner _ rfl
  split
  · exact (put.wr .SADDLE_POS n _).wr .SADDLE_PENDING n 1
  · exact put.thenIf (fun g => g.wr .SADDLE_PENDING n 0)

theorem replan : S.HoldsRec n (s.replan n) := (h.setPlan _).ite (h.setPlan _)

theorem advance : S.HoldsRec n (s.advance n) := by
  unfold State.advance
  extract_lets p age k
  exact (h.wrPlanner { p with aft := some k, age := age } rfl).wr .incPlan n _

theorem takeLimits : S.HoldsRec n (s.takeLimits n) := h.keeps (takeLimits_keeps (M := State.takeLimits_may) n (keeps_refl _ s))

theorem dropRelease : S.HoldsRec n (s.dropRelease n) := h.keeps (dropRelease_keeps (M := State.dropRelease_may) n (keeps_refl _ s))

theorem clampTarget (k : Kin) (T shift : Int) : S.HoldsRec n (s.clampTarget n k T shift).1 := by
  unfold State.clampTarget
  extract_lets x T1 T2
  split
  · exact h
  · exact ((h.event n 3).wr48 .CLAMP_REQUEST n _).count .CLAMP_COUNT n 1 32

theorem newMove (T : Int) (cap : Nat) (shift : Int) : S.HoldsRec n (s.newMove n T cap shift) :=
  replan ((((clampTarget ((((h.takeLimits).wr .DEFERRED n 0).wr .goalCap n cap).wr .goalKind n 1) (s.planner n).nxt T shift).wr .goalQ n _).wr .TARGET n _))

theorem velMove (v : Int) (neg : Bool) : S.HoldsRec n (s.velMove n v neg) :=
  replan ((((clampTarget (((((h.takeLimits).wr .DEFERRED n 0).wr .goalCap n v.natAbs).wr .goalKind n 2).wr .velGoal n v) (s.planner n).nxt _ 0).wr
    .goalQ n _).wr .TARGET n _))

theorem recordMove (m : Move) : S.HoldsRec n (s.recordMove n m) := by
  unfold State.recordMove
  extract_lets x
  split
  · exact h.newMove _ _ 0
  · exact h.newMove _ _ 0
  · exact h.velMove _ _

theorem beginMoving : S.HoldsRec n (s.beginMoving n) := h.thenIf (fun g => g.setAxis n 2)

theorem startLate (m : Move) : S.HoldsRec n (s.startLate n m) := by
  unfold State.startLate
  extract_lets slip x y
  have late : S.HoldsRec n x := h.dropRelease.count .RELEASE_LATE n 1 32
  have slipped : S.HoldsRec n y := (late.wr .RELEASE_SLIP n slip).ite ⟨late.act, late.moves.same rfl⟩
  exact ((slipped.detect (blkAxis n) 0x1F 0 false).recordMove m).beginMoving

theorem releaseStep (m : Move) : S.HoldsRec n (s.releaseStep n m) := by
  unfold State.releaseStep
  extract_lets d m1 x
  have planned : S.HoldsRec n x := (h.recordMove m).wr .relWait n 2
  exact (h.startLate m).ite ((planned.wrPlanner _ (by rfl)).ite h)

theorem startMove (m : Move) : S.HoldsRec n (s.startMove n m) := by
  unfold State.startMove
  extract_lets x y
  have held : S.HoldsRec n x := (h.wr .relWait n 1).wr .RELEASE_PENDING n m.w2
  exact ((held.thenIf (fun g => g.setAxis n 1)).releaseStep m).ite ((h.recordMove m).beginMoving)

/-- What the limit writes may do before the path is planned afresh. -/
theorem applyLimits : S.HoldsRec n (s.applyLimits n) := by
  unfold State.applyLimits
  extract_lets k T s1 lim1 moving d req1 s2 s3 lim2 j req2 s4 s5 s6
  have eff : S.HoldsRec n s1 := (h.wr .effV n _).wr .effA n _
  have deferredD : S.HoldsRec n s3 := by
    have required : S.HoldsRec n s2 := eff.wr .REQUIRED_DECEL n req1
    exact (eff.thenIf (fun g => g.wr .effD n d)).ite
      ((required.wr .effD n d).ite ((((required.wr .effD n req1).wr .DEFERRED n _).wr .deferMove n 1).event n 2))
  have deferredJ : S.HoldsRec n s5 := by
    have required : S.HoldsRec n s4 := deferredD.wr .REQUIRED_JERK n req2
    exact (deferredD.thenIf (fun g => g.wr .effJ n j)).ite
      ((required.wr .effJ n j).ite ((((required.wr .effJ n req2).wr .DEFERRED n _).wr .deferMove n 1).event n 2))
  have seen : S.HoldsRec n s6 := deferredJ.wr .limNew n 0
  exact seen.replan.ite seen

-- records that write objects (R56, R100)

theorem putLimit (r : Reg) (b v : Nat) : S.HoldsRec n (s.putLimit n r b v) := h.elseIf (fun g => ((g.wr r n v).wr .limNew n _).wr .limAt _ _)

theorem setLimits (m : Move) : S.HoldsRec n (s.setLimits n m) := by
  have seen : S.HoldsRec n (s.iff (s.rd .limNew n ≠ 0) (fun s => s.applyLimits n)) := h.applyLimits.ite h
  exact (((seen.putLimit .VMAX 0 _).putLimit .AMAX 1 _).putLimit .DMAX 2 _).putLimit .JMAX 3 _

theorem putCurrent (r : Reg) (v : Nat) : S.HoldsRec n (s.putCurrent n r v) := h.elseIf (fun g => g.wr r n v)

theorem setCurrents (m : Move) : S.HoldsRec n (s.setCurrents n m) :=
  ((h.putCurrent .RUN_CURRENT _).putCurrent .HOLD_CURRENT _).putCurrent .BOOST_CURRENT _

end

end State.HoldsRec

end Sys2Proof.Machine
end

section
/-! PROOFS. What the records of an axis at rest do once they are taken (O19). -/
namespace Sys2Proof.Machine

set_option Elab.async false

-- targets within the soft limits (R57)

theorem fdiv_mul_microstep (T : Int) : fdiv (T * 65536) 65536 = T := Int.mul_fdiv_cancel T (by decide)

section
variable {s : State} {n : Nat}

/-- A target within the soft limits stays as it is where no limit input is active. -/
theorem clampTarget_inside {k : Kin} {T : Int} (lo : s.rd .SOFT_MIN n * 65536 ≤ T) (hi : T ≤ s.rd .SOFT_MAX n * 65536) (input : s.rd .LIMIT_STATE n = 0) :
    s.clampTarget n k T = (s, T) := by
  have inside : clampGoal ((s.rd .SOFT_MIN n - 0) * 65536) ((s.rd .SOFT_MAX n - 0) * 65536) (fdiv k.x 65536 * 65536) T = T := by
    unfold clampGoal
    omega
  have free (b : Nat) : s.bit .LIMIT_STATE n b = false := by
    rw [State.bit, State.rdN, input]
    exact Nat.zero_testBit b
  have clamped : s.limitClamp n k T = T := by
    unfold State.limitClamp
    simp [free]
  unfold State.clampTarget
  dsimp only
  rw [inside, clamped, Int.sub_self]
  rfl

/-- A new move to a target within the soft limits aims at it. -/
theorem newMove_aims {T : Int} (cap : Nat) (lo : s.rd .SOFT_MIN n ≤ T) (hi : T ≤ s.rd .SOFT_MAX n) (input : s.rd .LIMIT_STATE n = 0) :
    (s.newMove n (T * 65536) cap).rd .TARGET n = T ∧ (s.newMove n (T * 65536) cap).rd .goalQ n = T * 65536 ∧
      (s.newMove n (T * 65536) cap).rd .goalKind n = 1 := by
  let x := (((s.takeLimits n).endDeferral n).wr .goalCap n cap).wr .goalKind n 1
  have limits : Keeps (State.takeLimits_may ||| State.endDeferral_may ||| may .goalCap ||| may .goalKind) s x :=
    keeps_wr (keeps_wr (endDeferral_keeps n (takeLimits_keeps n (keeps_refl _ s))) .goalCap n cap (by decide +kernel)) .goalKind n 1 (by decide +kernel)
  have same : x.clampTarget n (s.planner n).nxt (T * 65536) = (x, T * 65536) :=
    clampTarget_inside (by rw [limits.rd .SOFT_MIN n (by decide +kernel)]; omega) (by rw [limits.rd .SOFT_MAX n (by decide +kernel)]; omega)
      ((limits.rd .LIMIT_STATE n (by decide +kernel)).trans input)
  have move : s.newMove n (T * 65536) cap = ((x.wr .goalQ n (T * 65536)).wr .TARGET n T).replan n := by
    unfold State.newMove
    dsimp only
    rw [show (((s.takeLimits n).endDeferral n).wr .goalCap n cap).wr .goalKind n 1 = x from rfl, same]
    dsimp only
    rw [fdiv_mul_microstep]
  have planned := replan_keeps (M := State.replan_may) n (keeps_refl _ ((x.wr .goalQ n (T * 65536)).wr .TARGET n T))
  rw [move, planned.rd .TARGET n (by decide +kernel), planned.rd .goalQ n (by decide +kernel), planned.rd .goalKind n (by decide +kernel)]
  simp [State.rd_wr, x]

/-- A velocity move runs at its signed speed. -/
theorem velMove_runs (s : State) (n : Nat) (v : Int) (neg : Bool) :
    (s.velMove n v neg).rd .goalKind n = 2 ∧ (s.velMove n v neg).rd .velGoal n = v := by
  unfold State.velMove
  extract_lets k x y T z
  have speed : z.rd .goalKind n = 2 ∧ z.rd .velGoal n = v := by simp [z, State.rd_wr]
  have clamped := clampTarget_keeps (M := State.clampTarget_may) n k T 0 (keeps_refl _ z)
  generalize z.clampTarget n k T 0 = r at clamped ⊢
  obtain ⟨w, T'⟩ := r
  have planned := replan_keeps (M := State.replan_may) n (keeps_refl _ ((w.wr .goalQ n T').wr .TARGET n (fdiv T' 65536)))
  dsimp only
  rw [planned.rd .goalKind n (by decide +kernel), planned.rd .velGoal n (by decide +kernel)]
  simp only [State.rd_wr]
  simpa [clamped.rd .goalKind n (by decide +kernel), clamped.rd .velGoal n (by decide +kernel)] using speed

-- releases (R72)

/-- The estimate of ring time depends on its own registers alone. -/
def ringRegs : List Reg := [.rtOffset, .rtRateFine, .rtAt, .rtSlewEnd, .rtSlewLeft]

theorem ringAt_congr {s t : State} (h : ∀ r ∈ ringRegs, t.rd r 0 = s.rd r 0) (k : Nat) : t.ringAt k = s.ringAt k := by
  have hN (r : Reg) (hr : r ∈ ringRegs) : t.rdN r 0 = s.rdN r 0 := congrArg Int.toNat (h r hr)
  simp only [State.ringAt, State.slewDone, h .rtOffset (by decide), h .rtRateFine (by decide), h .rtAt (by decide), h .rtSlewLeft (by decide),
    hN .rtAt (by decide), hN .rtSlewEnd (by decide)]

theorem ringToDevice_congr {s t : State} (h : ∀ r ∈ ringRegs, t.rd r 0 = s.rd r 0) (now : t.now = s.now) (r : Nat) :
    t.ringToDevice r = s.ringToDevice r := by
  simp only [State.ringToDevice, ringAt_congr h, now]

/-- A release whose instant lies beyond the next pass waits. -/
theorem releaseStep_of_far {m : Move} (prompt : s.rd .relLate n = 0) (far : s.nextMark + 5000 ≤ s.ringToDevice m.w2) : s.releaseStep n m = s := by
  have early : (decide (s.rd .relLate n = 1) || decide (s.ringToDevice m.w2 < s.nextMark)) = false := by
    rw [prompt]
    simp
    omega
  unfold State.releaseStep
  dsimp only
  rw [if_neg (by rw [early]; exact Bool.false_ne_true), if_neg (by omega)]

/-- A released record of a resting axis, whose instant is far, waits for it in HOLD. -/
theorem startMove_waits {m : Move} (released : m.release = true) (rest : s.rd .AXIS_STATE n = 0 ∨ s.rd .AXIS_STATE n = 1) (prompt : s.rd .relLate n = 0)
    (far : s.nextMark + 5000 ≤ s.ringToDevice m.w2) :
    (s.startMove n m).rd .RELEASE_PENDING n = m.w2 ∧ (s.startMove n m).rd .relWait n = 1 ∧ (s.startMove n m).rd .AXIS_STATE n = 1 := by
  let x := (s.wr .relWait n 1).wr .RELEASE_PENDING n m.w2
  let y := if x.rd .AXIS_STATE n = 0 then x.setAxis n 1 else x
  have axis : x.rd .AXIS_STATE n = s.rd .AXIS_STATE n := by simp [x, State.rd_wr]
  have held : Keeps (may .relWait ||| may .RELEASE_PENDING) s x :=
    keeps_wr (keeps_wr (keeps_refl _ s) .relWait n 1 (by decide +kernel)) .RELEASE_PENDING n m.w2 (by decide +kernel)
  have stands : Keeps State.setAxis_may x y := keeps_ite (setAxis_keeps n 1 (keeps_refl _ x)) (keeps_refl _ x)
  have kept : Keeps (may .relWait ||| may .RELEASE_PENDING ||| State.setAxis_may) s y :=
    (held.mono (by decide +kernel)).trans (stands.mono (by decide +kernel))
  have now : y.now = s.now := congrArg Int.toNat (kept.rd .DEVICE_TIME 0 (by decide +kernel))
  have mark : y.nextMark = s.nextMark := congrArg (fun v : Int => v.toNat + 5000) (kept.rd .PASS_MARK_TIME 0 (by decide +kernel))
  have own : ∀ r ∈ ringRegs, (may .relWait ||| may .RELEASE_PENDING ||| State.setAxis_may).testBit r.ctorIdx = false := by decide +kernel
  have ring : y.ringToDevice m.w2 = s.ringToDevice m.w2 := ringToDevice_congr (fun r hr => kept.rd r 0 (own r hr)) now _
  have step : s.startMove n m = y := by
    unfold State.startMove
    rw [if_pos released]
    exact releaseStep_of_far ((kept.rd .relLate n (by decide +kernel)).trans prompt) (by rw [mark, ring]; exact far)
  rw [step, stands.rd .RELEASE_PENDING n (by decide +kernel), stands.rd .relWait n (by decide +kernel)]
  refine ⟨State.rd_wr_same .., by simp [x, State.rd_wr], ?_⟩
  rcases rest with idle | hold
  · have set : y = (x.wr .AXIS_STATE n 1).traceAxis n 31 := by
      have apart : x.rd .AXIS_STATE n ≠ 1 := by rw [axis, idle]; decide
      unfold y
      rw [if_pos (axis.trans idle), State.setAxis, if_neg apart]
    rw [set, (traceAxis_keeps (M := State.traceAxis_may) n 31 (keeps_refl _ _)).rd .AXIS_STATE n (by decide +kernel), State.rd_wr_same]
  · have same : y = x := if_neg (by rw [axis, hold]; decide)
    rw [same, axis, hold]

-- WAIT (R68)

/-- What satisfies a WAIT record: the filtered inputs, the time and the mailboxes. -/
theorem waitMet_congr {s t : State} (regs : ∀ r ∈ [.SENSE_LO, .SENSE_HI, .DEVICE_TIME] ++ ringRegs, t.rd r 0 = s.rd r 0)
    (boxes : ∀ q, 76 ≤ q → t.queue q = s.queue q) (m : Move) : t.waitMet m = s.waitMet m := by
  have sense (i : Nat) : t.sense i = s.sense i := by
    simp only [State.sense, State.bit, State.rdN]
    rw [regs .SENSE_LO (by decide), regs .SENSE_HI (by decide)]
  have now : t.now = s.now := congrArg Int.toNat (regs .DEVICE_TIME (by decide))
  have ring : t.ring = s.ring := by
    rw [State.ring, State.ring, now, ringAt_congr (fun r hr => regs r (List.mem_append_right _ hr))]
  have box : t.hasPacket (76 + m.waitNum) = s.hasPacket (76 + m.waitNum) := by
    rw [State.hasPacket, State.hasPacket, boxes _ (Nat.le_add_right ..)]
  simp only [State.waitMet, sense, now, ring, box]

-- SET_LIMITS and SET_CURRENTS (R56, R100)

/-- The limit objects that a SET_LIMITS record writes, with its values. -/
def Move.limitVals (m : Move) : List (Reg × Nat) :=
  [(.VMAX, m.w1 % 2 ^ 32), (.AMAX, m.w1 / 2 ^ 32), (.DMAX, m.w2 % 2 ^ 32), (.JMAX, m.w2 / 2 ^ 32)]

/-- The current objects that a SET_CURRENTS record writes, with its values. -/
def Move.currentVals (m : Move) : List (Reg × Nat) :=
  [(.RUN_CURRENT, bitsOf m.w1 15 0), (.HOLD_CURRENT, bitsOf m.w1 31 16), (.BOOST_CURRENT, bitsOf m.w1 47 32)]

theorem putLimits_shows (s : State) (n a b c d : Nat) {p : Reg × Nat} (hp : p ∈ [(Reg.VMAX, a), (.AMAX, b), (.DMAX, c), (.JMAX, d)]) :
    ((((s.putLimit n .VMAX 0 a).putLimit n .AMAX 1 b).putLimit n .DMAX 2 c).putLimit n .JMAX 3 d).rd p.1 n =
      if p.2 = 0 then s.rd p.1 n else (p.2 : Int) := by
  obtain ⟨notNew, notAt⟩ : p.1 ≠ .limNew ∧ p.1 ≠ .limAt := by
    simp only [List.mem_cons, List.not_mem_nil, or_false] at hp
    rcases hp with rfl | rfl | rfl | rfl <;> exact ⟨nofun, nofun⟩
  simp only [rd_putLimit _ _ _ _ _ notNew notAt]
  simp only [List.mem_cons, List.not_mem_nil, or_false] at hp
  rcases hp with rfl | rfl | rfl | rfl <;> simp [ite_not]

theorem setLimits_shows (m : Move) (none : s.rd .limNew n = 0) {p : Reg × Nat} (hp : p ∈ m.limitVals) :
    (s.setLimits n m).rd p.1 n = if p.2 = 0 then s.rd p.1 n else (p.2 : Int) := by
  have seen : s.iff (s.rd .limNew n ≠ 0) (fun s => s.applyLimits n) = s := if_neg (by simp [none])
  rw [setLimits_eq, seen]
  exact putLimits_shows s n _ _ _ _ hp

theorem putCurrents_shows (s : State) (n a b c : Nat) {p : Reg × Nat} (hp : p ∈ [(Reg.RUN_CURRENT, a), (.HOLD_CURRENT, b), (.BOOST_CURRENT, c)]) :
    (((s.putCurrent n .RUN_CURRENT a).putCurrent n .HOLD_CURRENT b).putCurrent n .BOOST_CURRENT c).rd p.1 n =
      if p.2 = 0xFFFF then s.rd p.1 n else (p.2 : Int) := by
  simp only [rd_putCurrent]
  simp only [List.mem_cons, List.not_mem_nil, or_false] at hp
  rcases hp with rfl | rfl | rfl <;> simp

theorem setCurrents_shows (m : Move) {p : Reg × Nat} (hp : p ∈ m.currentVals) :
    (s.setCurrents n m).rd p.1 n = if p.2 = 0xFFFF then s.rd p.1 n else (p.2 : Int) := by
  rw [setCurrents_eq]
  exact putCurrents_shows s n _ _ _ hp

end

end Sys2Proof.Machine
end

section
/-! PROOFS. The record at the head of the queue of a resting axis (O19): how the profile step comes to it, takes it, and goes on after it. -/
namespace Sys2Proof.Machine

set_option Elab.async false

-- a slot without a corrected word

/-- A built-in slot that reads clean words writes nothing before its step but its number and the trace. -/
theorem builtin_of_clean {s : State} {k n : Nat} (h : s.SlotComes k n) :
    ∃ x, s.Started x ∧ s.OnlyQueue x 73 ∧ ∀ f, ∃ p v, s.builtin k n ⟨false, false, .clean⟩ f = (f x).traceIf 2 p v := by
  obtain ⟨i, w, slot, h2, h4, h5⟩ := h
  let z := s.wr .slotAt i (s.pass + 1)
  let y := z.traceIf 1 (s.bit .tfEngines 0 (slotEngine w)) (i + 2 ^ 12 * slotEngine w)
  have start : s.Started y := started_traceIf ⟨keeps_wr (keeps_refl _ s) .slotAt i _ (by decide +kernel), (sameMoves_refl s).wr .slotAt i _⟩ 1 _ _
  have queues : s.OnlyQueue y 73 := State.OnlyQueue.ite (State.OnlyQueue.trace (t := z) (fun _ _ => rfl) _ _) (fun _ _ => rfl)
  have issued : s.issue i (slotEngine w) ⟨false, false, .clean⟩ = (y, true) := by
    unfold State.issue
    rw [slotCheck_of_unarmed h2]
    show (match y.engineChecks (slotEngine w) false with | (t, dead) => (t, !dead)) = (y, true)
    rw [engineChecks_of_unarmed ((started_armed start 4 _).trans h4) ((started_armed start 5 _).trans h5)]
    rfl
  let used := 1 + (y.draw 14).1 % max (slotBudget w) 1
  have counted : s.Started ((y.draw 14).2.tally (slotEngine w) used) :=
    ⟨tally_keeps _ _ (draw_keeps 14 start.keeps), (State.SameMoves.same (t := (y.draw 14).2) start.moves rfl).tally _ _⟩
  refine ⟨_, counted, queues, fun f => ?_⟩
  unfold State.builtin
  rw [slot]
  dsimp only
  rw [issued]
  exact ⟨_, _, rfl⟩

-- what the step finds

/-- Nothing but the record `m` at the head of its queue asks anything of axis `n`, which may take it (R62, R67). -/
structure State.RecDue (s : State) (n : Nat) (m : Move) : Prop where
  mode  : s.mode = 5 ∨ s.mode = 6
  axis  : s.rd .AXIS_STATE n = 0 ∨ s.rd .AXIS_STATE n = 1
  act   : (s.planner n).act = none
  goal  : s.rd .goalKind n = 0
  ready : s.rd .readyAt n = 0
  wait  : s.rd .relWait n = 0
  late  : s.rd .relLate n = 0
  learn : s.rd .lnOn n = 0
  stop  : s.rd .stopPend n = 0
  tgt   : s.rd .tgtPend n = 0
  flush : s.rd .flushPend n = 0
  lim   : s.rd .limNew n = 0
  dis   : s.rd .disPend n = 0
  seen  : s.limitSeen n 0 = false ∧ s.limitSeen n 1 = false
  input : s.rd .LIMIT_STATE n = 0
  head  : s.headRec n = some m

theorem recDue_of_rest {s : State} {n : Nat} {m : Move} (rest : s.AtRest n) (head : s.headRec n = some m) : s.RecDue n m := by
  obtain ⟨stop, tgt, flush, lim, dis⟩ := rest.asked
  obtain ⟨low, high, input⟩ := rest.input
  obtain ⟨wait, late⟩ := rest.rel
  exact { mode := rest.mode, axis := rest.axis, act := rest.act, goal := rest.goal, ready := rest.ready, wait, late, learn := rest.learn, stop, tgt,
          flush, lim, dis, seen := ⟨low, high⟩, input, head }

/-- What asks of the axis does not change on the way to its inputs. -/
theorem recDue_atInputs {s x : State} {n : Nat} {m : Move} (hn : n < 64) (h : s.Started x) (due : s.RecDue n m) : (x.atInputs n).RecDue n m := by
  have k := atInputs_keeps h n
  have e (r : Reg) (i : Nat) (hr : toStep_may.testBit r.ctorIdx = false) : (x.atInputs n).rd r i = s.rd r i := k.rd r i hr
  have moves : (x.atInputs n).queue n = s.queue n := (atInputs_moves h n).queue n hn
  have head : (x.atInputs n).headRec n = s.headRec n := by
    simp only [State.headRec, State.poppable, State.qVoided, State.now, State.pass, State.rdN, moves]
    simp (disch := decide +kernel) only [e]
    rfl
  have seen (b : Nat) : (x.atInputs n).limitSeen n b = s.limitSeen n b := by
    simp only [State.limitSeen, State.sense, State.bit, State.now, State.rdN]
    simp (disch := decide +kernel) only [e]
    rfl
  constructor
  case mode => rw [State.mode, State.rdN, e .MODE 0 (by decide +kernel)]; exact due.mode
  case axis => rw [e .AXIS_STATE n (by decide +kernel)]; exact due.axis
  case act => rw [k.planner]; exact due.act
  case goal => rw [e .goalKind n (by decide +kernel)]; exact due.goal
  case ready => rw [e .readyAt n (by decide +kernel)]; exact due.ready
  case wait => rw [e .relWait n (by decide +kernel)]; exact due.wait
  case late => rw [e .relLate n (by decide +kernel)]; exact due.late
  case learn => rw [e .lnOn n (by decide +kernel)]; exact due.learn
  case stop => rw [e .stopPend n (by decide +kernel)]; exact due.stop
  case tgt => rw [e .tgtPend n (by decide +kernel)]; exact due.tgt
  case flush => rw [e .flushPend n (by decide +kernel)]; exact due.flush
  case lim => rw [e .limNew n (by decide +kernel)]; exact due.lim
  case dis => rw [e .disPend n (by decide +kernel)]; exact due.dis
  case seen => rw [seen, seen]; exact due.seen
  case input => rw [e .LIMIT_STATE n (by decide +kernel)]; exact due.input
  case head => rw [head]; exact due.head

-- the record taken

/-- The record `m` taken: it leaves the queue, and ACTIVE_TAG and ACTIVE_KIND show it (R67). -/
def State.recTaken (s : State) (n : Nat) (m : Move) : State :=
  let x := ((s.keepPrior n (s.queue n).pkts.head?).pop n).1
  (((x.wrPlanner n { x.planner n with act := some m }).wr .ACTIVE_TAG n m.tag).wr .ACTIVE_KIND n m.kind).endDeferral n

/-- What the taking of a record may change. -/
def recTaken_may : Nat := State.keepPrior_may ||| State.pop_may ||| may_planners ||| may .ACTIVE_TAG ||| may .ACTIVE_KIND ||| may .DEFERRED

theorem recTaken_keeps (s : State) (n : Nat) (m : Move) : Keeps recTaken_may s (s.recTaken n m) := by
  have popped := pop_keeps (M := recTaken_may) n (keepPrior_keeps n (s.queue n).pkts.head? (keeps_refl _ s))
  exact keeps_wr (keeps_wr (keeps_wr (wrPlanner_keeps n _ popped) .ACTIVE_TAG n _ (by decide +kernel)) .ACTIVE_KIND n _ (by decide +kernel))
    .DEFERRED n 0 (by decide +kernel)

theorem pop_planner (s : State) (q n : Nat) : (s.pop q).1.planner n = s.planner n :=
  (pop_keeps (M := State.pop_may) q (keeps_refl _ s)).planner n

theorem recTaken_planner (s : State) (n : Nat) (m : Move) :
    ((s.recTaken n m).planner n).act = some m ∧ ((s.recTaken n m).planner n).nxt = (s.planner n).nxt := by
  unfold State.recTaken
  extract_lets x
  have before : (x.planner n).nxt = (s.planner n).nxt := by
    unfold x
    rw [pop_planner, State.keepPrior, State.planner_wrPlanner, if_pos rfl]
  rw [State.endDeferral, State.planner_wr, State.planner_wr, State.planner_wr, State.planner_wrPlanner, if_pos rfl]
  exact ⟨rfl, before⟩

theorem headRec_spec {s : State} {n : Nat} {m : Move} (h : s.headRec n = some m) :
    m.mark = s.pass + 1 ∧ s.poppable n ≠ 0 ∧ ∃ p l, (s.queue n).pkts = p :: l := by
  unfold State.headRec at h
  split_ifs at h with void
  split at h
  · next a b c d first =>
    obtain ⟨l, whole⟩ := List.head?_eq_some_iff.mp first
    cases h
    exact ⟨rfl, void, _, l, whole⟩
  · cases h

/-- A packet that may be popped leaves its queue; every other queue stays. -/
theorem pop_queue {s : State} {q : Nat} {p : Pkt} {l : List Pkt} (can : s.poppable q ≠ 0) (whole : (s.queue q).pkts = p :: l) (j : Nat) :
    (j = q → ((s.pop q).1.queue j).pkts = l) ∧ (j ≠ q → (s.pop q).1.queue j = s.queue j) := by
  unfold State.pop
  dsimp only
  rw [if_neg can, whole]
  dsimp only
  rw [count_queue, State.queue_wrQueue]
  exact ⟨fun e => by rw [if_pos e], fun e => if_neg e⟩

theorem recTaken_queue {s : State} {n : Nat} {m : Move} (head : s.headRec n = some m) :
    (s.recTaken n m).waiting n + 1 = s.waiting n ∧ ∀ q, q ≠ n → (s.recTaken n m).queue q = s.queue q := by
  obtain ⟨-, can, p, l, whole⟩ := headRec_spec head
  let k := s.keepPrior n (s.queue n).pkts.head?
  have popped (j : Nat) := pop_queue (s := k) (q := n) can whole j
  have same (j : Nat) : (s.recTaken n m).queue j = (k.pop n).1.queue j := rfl
  refine ⟨?_, fun q hq => (same q).trans ((popped q).2 hq)⟩
  rw [State.waiting, State.waiting, same, (popped n).1 rfl, whole, List.length_cons]

section
variable {s : State} {n : Nat} {m : Move} (due : s.RecDue n m)
include due

theorem takeRec_of_due : s.takeRec n = (s.recTaken n m).startRec n m := by
  obtain ⟨mark, -, -⟩ := headRec_spec due.head
  have taking : s.taking n = true := by
    have modes : s.motionMode = true ∧ s.mode ≠ 8 := by
      rw [State.motionMode, State.inMode]
      rcases due.mode with e | e <;> rw [e] <;> decide
    have states : [0, 1, 2].contains (s.rdN .AXIS_STATE n) = true := by
      rw [State.rdN]
      rcases due.axis with e | e <;> rw [e] <;> rfl
    rw [State.taking, states]
    simp [modes, due.dis, due.learn]
  have ready : s.ready n = true := by simp [State.ready, due.act, due.goal, due.wait, due.ready]
  let x := ((s.keepPrior n (s.queue n).pkts.head?).pop n).1
  have kept : Keeps (State.keepPrior_may ||| State.pop_may) s x := pop_keeps n (keepPrior_keeps n _ (keeps_refl _ s))
  have unflushed : x.takeFlush n = x := if_neg (by rw [kept.rd .flushPend n (by decide +kernel), due.flush]; decide)
  have pass : (s.recTaken n m).pass = s.pass := congrArg Int.toNat ((recTaken_keeps s n m).rd .PASS_COUNT 0 (by decide +kernel))
  have same : { m with mark := (s.recTaken n m).pass + 1 } = m := by rw [pass, ← mark]
  unfold State.takeRec
  rw [taking, ready, due.head]
  show (let s := ((s.keepPrior n (s.queue n).pkts.head?).pop n).1.takeFlush n; _) = _
  rw [show ((s.keepPrior n (s.queue n).pkts.head?).pop n).1 = x from rfl, unflushed]
  show (s.recTaken n m).startRec n { m with mark := (s.recTaken n m).pass + 1 } = _
  rw [same]

theorem takeInputs_of_due : s.takeInputs n = (s.recTaken n m).startRec n m := by
  obtain ⟨low, high⟩ := due.seen
  have ahead : s.limitAhead n = false := by simp [State.limitAhead, State.limitBits, low, high]
  have home : s.homeStep n = s := by simp [State.homeStep, State.homeRec, due.act]
  have ends : s.findEnds n = s := by simp [State.findEnds, due.act, due.goal]
  simp [State.takeInputs, ahead, due.stop, due.tgt, due.wait, home, ends, due.learn, takeRec_of_due due]

theorem pollInstant_of_due : s.pollInstant n = s := by simp [State.pollInstant, State.waitRec, due.act]

end

-- the rest of the step

/-- What the step writes once it has taken its inputs. -/
def carried_may : Nat := State.applyLimits_may ||| State.replan_may ||| State.advance_may ||| afterAdvance_may ||| State.traceIf_may

/-- From `y`, in which the inputs of the profile step of axis `n` are taken, to `u` the step has gone on: the axis is carried one pass on, and its
active record and the move queues stay. -/
structure State.Carried (n : Nat) (y u : State) : Prop where
  keeps : Keeps carried_may y u
  holds : y.HoldsRec n u

theorem moveStep_carried {s y : State} {n : Nat} (h : ((s.noteSaddle n).pollInstant n).takeInputs n = y) : State.Carried n y (s.moveStep n) := by
  unfold State.moveStep
  rw [h]
  have same : State.Carried n y y := ⟨keeps_refl _ y, holdsRec_refl n y⟩
  have limited (c : Bool) : State.Carried n y (if c then y.applyLimits n else y) :=
    ⟨keeps_ite (applyLimits_keeps n same.keeps) same.keeps, same.holds.applyLimits.ite same.holds⟩
  have planned (c d : Bool) : State.Carried n y (if d then (if c then y.applyLimits n else y).replan n else (if c then y.applyLimits n else y)) :=
    ⟨keeps_ite (replan_keeps n (limited c).keeps) (limited c).keeps, (limited c).holds.replan.ite (limited c).holds⟩
  exact ⟨advance_keeps n (planned _ _).keeps, (planned _ _).holds.advance⟩

theorem plannerStep_carried {x y : State} {n : Nat} {m : Move} (due : (x.atInputs n).RecDue n m) (taken : (x.atInputs n).takeInputs n = y) :
    State.Carried n y (x.plannerStep n) := by
  let w := x.wr .stampProfile n (x.pass + 1)
  let z := w.formGear n (w.rdN .PASS_MARK_TIME 0)
  have formed := formGear_keeps (M := State.formGear_may) n (w.rdN .PASS_MARK_TIME 0) (keeps_refl _ w)
  have mode : w.mode ≠ 9 := by
    have same : (x.atInputs n).mode = w.mode := by
      rw [State.mode, State.mode, State.rdN, State.rdN, State.atInputs, noteSaddle_rd _ n .MODE, formed.rd .MODE 0 (by decide +kernel)]
    rw [← same]
    rcases due.mode with e | e <;> rw [e] <;> decide
  have axis : z.rdN .AXIS_STATE n = 0 ∨ z.rdN .AXIS_STATE n = 1 := by
    have same : (x.atInputs n).rd .AXIS_STATE n = z.rd .AXIS_STATE n := noteSaddle_rd _ n .AXIS_STATE n
    rw [State.rdN, ← same]
    rcases due.axis with e | e <;> rw [e] <;> decide
  have moved : State.Carried n y (z.moveStep n) := moveStep_carried (by
    show ((x.atInputs n).pollInstant n).takeInputs n = y
    rw [pollInstant_of_due due, taken])
  have step : (match z.rdN .AXIS_STATE n with
      | 5 | 6 | 7 => (z.idleInputs n).advance n
      | 3 => z.followStep n
      | _ => z.moveStep n) = z.moveStep n := by
    rcases axis with e | e <;> rw [e] <;> rfl
  unfold State.plannerStep
  rw [if_neg mode]
  change State.Carried n y (let s := match z.rdN .AXIS_STATE n with
      | 5 | 6 | 7 => (z.idleInputs n).advance n
      | 3 => z.followStep n
      | _ => z.moveStep n
    let s := (s.wr .limSeen n (s.limitBits n)).wr .incHeld n 0
    (s.iff (decide (s.rd .AXIS_STATE n < 6)) (fun s => s.writeAmplitude n)).dropStep n)
  rw [step]
  let a := z.moveStep n
  let b := (a.wr .limSeen n (a.limitBits n)).wr .incHeld n 0
  have seen : Keeps afterAdvance_may a b := keeps_wr (keeps_wr (keeps_refl _ a) .limSeen n _ (by decide +kernel)) .incHeld n 0 (by decide +kernel)
  have last := dropStep_keeps n (keeps_iff (c := decide (b.rd .AXIS_STATE n < 6)) seen (fun _ g => writeAmplitude_keeps n g (by decide +kernel)))
    (by decide +kernel)
  exact ⟨moved.keeps.trans (last.mono (by decide +kernel)), moved.holds.keeps last⟩

-- the slot

/-- What changes from the cycle of the slot to the start of the record. -/
def toRecord_may : Nat := toStep_may ||| recTaken_may

/-- From `s` to `r` axis `n` has taken the record `m` from the head of its queue, and `m` has not started. -/
structure State.Took (s : State) (n : Nat) (m : Move) (r : State) : Prop where
  keeps : Keeps toRecord_may s r
  act   : (r.planner n).act = some m
  nxt   : (r.planner n).nxt = (s.planner n).nxt
  tag   : r.rd .ACTIVE_TAG n = m.tag
  kind  : r.rd .ACTIVE_KIND n = m.kind
  queue : r.waiting n + 1 = s.waiting n
  boxes : ∀ q, 76 ≤ q → r.queue q = s.queue q

theorem took_of_due {s x : State} {n : Nat} {m : Move} (hn : n < 64) (start : s.Started x) (queues : s.OnlyQueue x 73)
    (due : (x.atInputs n).RecDue n m) : s.Took n m ((x.atInputs n).recTaken n m) := by
  have before := atInputs_keeps start n
  obtain ⟨act, nxt⟩ := recTaken_planner (x.atInputs n) n m
  obtain ⟨waiting, others⟩ := recTaken_queue due.head
  have inputs : (x.atInputs n).queues = x.queues :=
    (noteSaddle_keeps (M := State.noteSaddle_may ||| State.formGear_may ||| may .stampProfile) n
      (formGear_keeps n _ (keeps_wr (keeps_refl _ x) .stampProfile n (x.pass + 1) (by decide +kernel)))).queues (by decide +kernel)
  constructor
  case keeps => exact (before.mono (by decide +kernel)).trans ((recTaken_keeps _ n m).mono (by decide +kernel))
  case act => exact act
  case nxt => rw [nxt, before.planner n]
  case tag => simp [State.recTaken, State.endDeferral, State.rd_wr]
  case kind => simp [State.recTaken, State.endDeferral, State.rd_wr]
  case queue => rw [waiting, State.waiting, State.waiting, (atInputs_moves start n).queue n hn]
  case boxes =>
    intro q hq
    rw [others q (by omega), State.queue, inputs]
    exact queues q (by omega)

/-- The slot of a resting axis takes the record at the head of its queue, and goes on with what that does. -/
theorem profileCommit_takes {s : State} {n : Nat} {m : Move} (hn : n < 64) (ok : s.rd .ledBad n = 0) (h : s.SlotComes 2 n)
    (folded : s.rdN .stampFold n = s.pass + 1) (rest : s.AtRest n) (head : s.headRec n = some m) :
    ∃ r, s.Took n m r ∧ State.Carried n (r.startRec n m) (s.builtin 2 n ⟨false, false, .clean⟩ (State.profileCommit n)) := by
  obtain ⟨x, start, queues, run⟩ := builtin_of_clean h
  obtain ⟨p, v, e⟩ := run (State.profileCommit n)
  obtain ⟨late, limits⟩ := rest.early
  have stamped : (decide (x.rdN .stampFold n = x.pass + 1) && decide (x.rd .ledBad n = 0)) = true := by
    rw [State.rdN, start.rd .stampFold n, State.pass, State.rdN, start.rd .PASS_COUNT 0, start.rd .ledBad n, decide_eq_true ok, Bool.and_true]
    exact decide_eq_true folded
  have step : State.profileCommit n x = x.plannerStep n := by
    rw [State.profileCommit, if_pos stamped, profile_of_seen ((late_of_started start n).1.trans late) ((late_of_started start n).2.trans limits)]
  have due := recDue_atInputs hn start (recDue_of_rest rest head)
  obtain ⟨kept, held⟩ := plannerStep_carried due (takeInputs_of_due due)
  rw [e, step]
  exact ⟨_, took_of_due hn start queues due, traceIf_keeps 2 p v kept, held.traceIf 2 p v⟩

end Sys2Proof.Machine
end

section
/-! PROOFS. The records that the profile step of a resting axis takes, kind by kind (O19). -/
namespace Sys2Proof.Machine

set_option Elab.async false

-- the instructions (R65)

theorem takeIf_of_head {s : State} {n : Nat} {m : Move} {p : Move → Bool} (head : s.headRec n = some m) (hp : p m = true) :
    s.takeIf n p = s.profileSlot n ⟨false, false, .clean⟩ := by
  unfold State.takeIf
  rw [head]
  exact if_pos hp

/-- The instruction of a record's kind runs the profile step, and the kind is one of eight. -/
theorem exec_recordStep {t : Nat} {n : Fin 64} {s0 : State} {m : Move} {e : Instr} (head : (s0.at t).headRec n = some m)
    (kind : (e, m.kind) ∈ [(Instr.abs t n, 1), (.rel t n, 2), (.vel t n, 3), (.dwell t n, 4), (.wait t n, 5), (.setLimits t n, 6),
      (.setCurrents t n, 7), (.call t n, 8)]) :
    exec e s0 = .next ((s0.at t).builtin 2 n ⟨false, false, .clean⟩ (State.profileCommit n)) ∧ 1 ≤ m.kind ∧ m.kind ≤ 8 := by
  have step {k : Nat} (hk : m.kind = k) :
      (s0.at t).takeIf n (fun m => m.kind = k) = (s0.at t).builtin 2 n ⟨false, false, .clean⟩ (State.profileCommit n) :=
    takeIf_of_head head (decide_eq_true hk)
  simp only [List.mem_cons, List.not_mem_nil, or_false, Prod.mk.injEq] at kind
  rcases kind with ⟨rfl, k⟩ | ⟨rfl, k⟩ | ⟨rfl, k⟩ | ⟨rfl, k⟩ | ⟨rfl, k⟩ | ⟨rfl, k⟩ | ⟨rfl, k⟩ | ⟨rfl, k⟩ <;>
    exact ⟨congrArg Host.Outcome.next (step k), by omega, by omega⟩

-- the start of a record

section
variable {s : State} {n : Nat} {m : Move}

theorem startRec_of_move (lo : 1 ≤ m.kind) (hi : m.kind ≤ 3) : s.startRec n m = s.startMove n m := by
  have kinds : m.kind = 1 ∨ m.kind = 2 ∨ m.kind = 3 := by omega
  rcases kinds with k | k | k <;> rw [State.startRec, k] <;> rfl

theorem startRec_of_dwell (k : m.kind = 4) : s.startRec n m = if m.w1 = 0 then s.completeRec n else s := by rw [State.startRec, k]; rfl

theorem startRec_of_wait (k : m.kind = 5) : s.startRec n m = s.pollWait n := by rw [State.startRec, k]; rfl

theorem startRec_of_limits (k : m.kind = 6) : s.startRec n m = (s.setLimits n m).completeRec n := by rw [State.startRec, k]; rfl

theorem startRec_of_currents (k : m.kind = 7) : s.startRec n m = (s.setCurrents n m).completeRec n := by rw [State.startRec, k]; rfl

theorem startRec_of_call (k : m.kind = 8) : s.startRec n m = s.startCall n m := by rw [State.startRec, k]; rfl

theorem startRec_of_free (lo : 1 ≤ m.kind) (hi : m.kind ≤ 3) (free : m.release = false) : s.startRec n m = (s.recordMove n m).beginMoving n := by
  rw [startRec_of_move lo hi, State.startMove, if_neg (by rw [free]; exact Bool.false_ne_true)]

theorem State.SameMoves.pollWait {S s : State} (h : S.SameMoves s) (n : Nat) : S.SameMoves (s.pollWait n) := by
  unfold State.pollWait
  split
  · exact (h.completeRec n).ite h
  · exact h

theorem State.SameMoves.startCall {S s : State} (h : S.SameMoves s) (n : Nat) (m : Move) : S.SameMoves (s.startCall n m) := by
  unfold State.startCall
  extract_lets p works
  split
  · exact h.same rfl
  · exact (h.detect (blkAxis n) 0x1E 0 false).completeRec n

/-- The start of a record other than HOME leaves the move queues alone. -/
theorem startRec_moves (s : State) (n : Nat) (hi : m.kind ≤ 8) : s.SameMoves (s.startRec n m) := by
  have same := sameMoves_refl s
  have held := holdsRec_refl n s
  unfold State.startRec
  split
  · exact (same.completeRec n).ite same
  · exact same.pollWait n
  · exact (held.setLimits m).moves.completeRec n
  · exact (held.setCurrents m).moves.completeRec n
  · exact same.startCall n m
  · next home => omega
  · exact (held.startMove m).moves

/-- DWELL over no time, a satisfied WAIT, SET_LIMITS and SET_CURRENTS complete in the step that takes them. -/
theorem startRec_completes (active : (s.planner n).act = some m)
    (ends : m.kind = 4 ∧ m.w1 = 0 ∨ m.kind = 5 ∧ s.waitMet m = true ∨ m.kind = 6 ∨ m.kind = 7) :
    ∃ x : State, (x.planner n).act = some m ∧ s.startRec n m = x.completeRec n := by
  have held := holdsRec_refl n s
  rcases ends with ⟨k, zero⟩ | ⟨k, met⟩ | k | k
  · exact ⟨s, active, (startRec_of_dwell k).trans (if_pos zero)⟩
  · refine ⟨s, active, ?_⟩
    have waits : s.waitRec n = some m := by rw [State.waitRec, active, Option.filter_some, if_pos (decide_eq_true k)]
    rw [startRec_of_wait k, State.pollWait, waits]
    exact if_pos met
  · exact ⟨s.setLimits n m, (held.setLimits m).act.trans active, startRec_of_limits k⟩
  · exact ⟨s.setCurrents n m, (held.setCurrents m).act.trans active, startRec_of_currents k⟩

/-- A DWELL that takes time and a WAIT that nothing satisfies stay active. -/
theorem startRec_stays (active : (s.planner n).act = some m) (lasts : m.kind = 4 ∧ m.w1 ≠ 0 ∨ m.kind = 5 ∧ s.waitMet m = false) :
    s.startRec n m = s := by
  rcases lasts with ⟨k, time⟩ | ⟨k, unmet⟩
  · exact (startRec_of_dwell k).trans (if_neg time)
  · have waits : s.waitRec n = some m := by rw [State.waitRec, active, Option.filter_some, if_pos (decide_eq_true k)]
    rw [startRec_of_wait k]
    exact pollWait_of_unmet waits unmet

end

-- what the step leaves

section
variable {s r u : State} {n : Nat} {m : Move} (took : s.Took n m r) (carried : State.Carried n (r.startRec n m) u)
include took carried

theorem taken_shows (hn : n < 64) (hi : m.kind ≤ 8) : u.rd .ACTIVE_TAG n = m.tag ∧ u.waiting n + 1 = s.waiting n := by
  have started := startRec_keeps (M := State.startRec_may) n m (keeps_refl _ r)
  have queue : u.queue n = r.queue n := ((startRec_moves r n hi).trans carried.holds.moves).queue n hn
  refine ⟨?_, ?_⟩
  · rw [carried.keeps.rd .ACTIVE_TAG n (by decide +kernel), started.rd .ACTIVE_TAG n (by decide +kernel), took.tag]
  · rw [State.waiting, queue]
    exact took.queue

theorem move_active (lo : 1 ≤ m.kind) (hi : m.kind ≤ 3) (free : m.release = false) : u.rd .ACTIVE_KIND n = m.kind ∧ (u.planner n).act = some m := by
  have start := startRec_of_free (s := r) (n := n) lo hi free
  have moved := beginMoving_keeps (M := State.recordMove_may ||| State.beginMoving_may) n (recordMove_keeps n m (keeps_refl _ r))
  refine ⟨?_, ?_⟩
  · rw [carried.keeps.rd .ACTIVE_KIND n (by decide +kernel), start, moved.rd .ACTIVE_KIND n (by decide +kernel), took.kind]
  · rw [carried.holds.act, start, ((holdsRec_refl n r).recordMove m).beginMoving.act, took.act]

theorem move_aims {T : Int} (input : s.rd .LIMIT_STATE n = 0) (free : m.release = false) (lo : s.rd .SOFT_MIN n ≤ T) (hi : T ≤ s.rd .SOFT_MAX n)
    (lo48 : -2 ^ 47 ≤ T) (hi48 : T < 2 ^ 47)
    (aim : m.kind = 1 ∧ T = signed 48 m.w1 ∨ m.kind = 2 ∧ T = fdiv (s.planner n).nxt.x 65536 + signed 48 m.w1) :
    u.rd .TARGET n = T ∧ u.rd .goalQ n = T * 65536 ∧ u.rd .goalKind n = 1 := by
  have move : r.recordMove n m = r.newMove n (T * 65536) (m.w3 % 2 ^ 32) := by
    rcases aim with ⟨k, rfl⟩ | ⟨k, sum⟩
    · rw [State.recordMove, k]
      rfl
    · have whole : sat48 T = T := by
        unfold sat48 clampInt
        omega
      rw [State.recordMove, k, took.nxt, ← sum]
      show r.newMove n (sat48 T * 65536) _ = _
      rw [whole]
  have start : r.startRec n m = (r.newMove n (T * 65536) (m.w3 % 2 ^ 32)).beginMoving n := by
    rw [startRec_of_free (by omega) (by omega) free, move]
  have aims := newMove_aims (s := r) (n := n) (T := T) (m.w3 % 2 ^ 32) (by rwa [took.keeps.rd .SOFT_MIN n (by decide +kernel)])
    (by rwa [took.keeps.rd .SOFT_MAX n (by decide +kernel)]) ((took.keeps.rd .LIMIT_STATE n (by decide +kernel)).trans input)
  have began := beginMoving_keeps (M := State.beginMoving_may) n (keeps_refl _ (r.newMove n (T * 65536) (m.w3 % 2 ^ 32)))
  have same (q : Reg) (hq : (carried_may ||| State.beginMoving_may).testBit q.ctorIdx = false) :
      u.rd q n = (r.newMove n (T * 65536) (m.w3 % 2 ^ 32)).rd q n := by
    obtain ⟨inCarried, inBegan⟩ := Bool.or_eq_false_iff.mp ((Nat.testBit_or ..).symm.trans hq)
    rw [carried.keeps.rd q n inCarried, start, began.rd q n inBegan]
  rw [same .TARGET (by decide +kernel), same .goalQ (by decide +kernel), same .goalKind (by decide +kernel)]
  exact aims

omit took in
theorem vel_runs (k : m.kind = 3) (free : m.release = false) :
    u.rd .goalKind n = 2 ∧ u.rd .velGoal n = if m.dirNeg then -((m.w1 % 2 ^ 32 : Nat) : Int) else ((m.w1 % 2 ^ 32 : Nat) : Int) := by
  have move : r.recordMove n m = r.velMove n (if m.dirNeg then -(m.w1 % 2 ^ 32 : Nat) else (m.w1 % 2 ^ 32 : Nat)) m.dirNeg := by
    rw [State.recordMove, k]
    rfl
  have began := beginMoving_keeps (M := State.beginMoving_may) n (keeps_refl _ (r.recordMove n m))
  rw [carried.keeps.rd .goalKind n (by decide +kernel), carried.keeps.rd .velGoal n (by decide +kernel),
    startRec_of_free (by omega) (by omega) free, began.rd .goalKind n (by decide +kernel), began.rd .velGoal n (by decide +kernel), move]
  exact velMove_runs ..

theorem release_waits (rest : s.AtRest n) (lo : 1 ≤ m.kind) (hi : m.kind ≤ 3) (released : m.release = true)
    (far : s.nextMark + 5000 ≤ s.ringToDevice m.w2) : u.rd .RELEASE_PENDING n = m.w2 ∧ u.rd .relWait n = 1 ∧ u.rd .AXIS_STATE n = 1 := by
  have mark : r.nextMark = s.nextMark := congrArg (fun v : Int => v.toNat + 5000) (took.keeps.rd .PASS_MARK_TIME 0 (by decide +kernel))
  have now : r.now = s.now := congrArg Int.toNat (took.keeps.rd .DEVICE_TIME 0 (by decide +kernel))
  have own : ∀ q ∈ ringRegs, toRecord_may.testBit q.ctorIdx = false := by decide +kernel
  have ring := ringToDevice_congr (fun q hq => took.keeps.rd q 0 (own q hq)) now m.w2
  obtain ⟨-, late⟩ := rest.rel
  rw [carried.keeps.rd .RELEASE_PENDING n (by decide +kernel), carried.keeps.rd .relWait n (by decide +kernel),
    carried.keeps.rd .AXIS_STATE n (by decide +kernel), startRec_of_move lo hi]
  refine startMove_waits released ?_ ((took.keeps.rd .relLate n (by decide +kernel)).trans late) (by rw [mark, ring]; exact far)
  rw [took.keeps.rd .AXIS_STATE n (by decide +kernel)]
  exact rest.axis

omit carried in
theorem took_waitMet : r.waitMet m = s.waitMet m := by
  have own : ∀ q ∈ [.SENSE_LO, .SENSE_HI, .DEVICE_TIME] ++ ringRegs, toRecord_may.testBit q.ctorIdx = false := by decide +kernel
  exact waitMet_congr (fun q hq => took.keeps.rd q 0 (own q hq)) took.boxes m

theorem record_stays {k : Nat} (kind : m.kind = k) (lasts : m.kind = 4 ∧ m.w1 ≠ 0 ∨ m.kind = 5 ∧ s.waitMet m = false) :
    u.rd .ACTIVE_KIND n = k ∧ (u.planner n).act = some m := by
  rw [← took_waitMet took] at lasts
  have start := startRec_stays took.act lasts
  rw [carried.keeps.rd .ACTIVE_KIND n (by decide +kernel), carried.holds.act, start]
  exact ⟨kind ▸ took.kind, took.act⟩

theorem record_completes (ends : m.kind = 4 ∧ m.w1 = 0 ∨ m.kind = 5 ∧ s.waitMet m = true ∨ m.kind = 6 ∨ m.kind = 7) :
    u.rd .LAST_DONE_TAG n = m.tag ∧ u.rd .ACTIVE_KIND n = 0 ∧ (u.planner n).act = none := by
  rw [← took_waitMet took] at ends
  obtain ⟨x, active, start⟩ := startRec_completes took.act ends
  rw [carried.keeps.rd .LAST_DONE_TAG n (by decide +kernel), carried.keeps.rd .ACTIVE_KIND n (by decide +kernel), carried.holds.act, start]
  exact completeRec_shows active

omit took in
/-- An object that neither the completion nor the rest of the step writes shows what the record has written. -/
theorem rd_of_completed {x : State} (start : r.startRec n m = x.completeRec n) {q : Reg}
    (own : (carried_may ||| State.completeRec_may).testBit q.ctorIdx = false) : u.rd q n = x.rd q n := by
  obtain ⟨inCarried, inDone⟩ := Bool.or_eq_false_iff.mp ((Nat.testBit_or ..).symm.trans own)
  rw [carried.keeps.rd q n inCarried, start]
  exact (completeRec_keeps (M := State.completeRec_may) n (keeps_refl _ x)).rd q n inDone

theorem limits_written (k : m.kind = 6) (none : s.rd .limNew n = 0) {p : Reg × Nat} (hp : p ∈ m.limitVals) :
    u.rd p.1 n = if p.2 = 0 then s.rd p.1 n else (p.2 : Int) := by
  have own : ∀ q ∈ [Reg.VMAX, .AMAX, .DMAX, .JMAX], (carried_may ||| State.completeRec_may).testBit q.ctorIdx = false ∧
      toRecord_may.testBit q.ctorIdx = false := by decide +kernel
  obtain ⟨after, before⟩ := own p.1 (List.mem_map_of_mem (f := Prod.fst) hp)
  rw [rd_of_completed carried (startRec_of_limits k) after,
    setLimits_shows m ((took.keeps.rd .limNew n (by decide +kernel)).trans none) hp, took.keeps.rd _ n before]

theorem currents_written (k : m.kind = 7) {p : Reg × Nat} (hp : p ∈ m.currentVals) :
    u.rd p.1 n = if p.2 = 0xFFFF then s.rd p.1 n else (p.2 : Int) := by
  have own : ∀ q ∈ [Reg.RUN_CURRENT, .HOLD_CURRENT, .BOOST_CURRENT], (carried_may ||| State.completeRec_may).testBit q.ctorIdx = false ∧
      toRecord_may.testBit q.ctorIdx = false := by decide +kernel
  obtain ⟨after, before⟩ := own p.1 (List.mem_map_of_mem (f := Prod.fst) hp)
  rw [rd_of_completed carried (startRec_of_currents k) after, setCurrents_shows m hp, took.keeps.rd _ n before]

theorem call_pends (k : m.kind = 8) (prog : (findProg s.progs (bitsOf m.w1 15 0)).isSome = true) (small : bitsOf m.w1 15 0 < 1024)
    (works : ∃ w, w < 256 ∧ s.rdN .WORK_PROG w = bitsOf m.w1 15 0 ∧ s.rdN .WORK_CTX w = n) :
    tget none u.calls (1024 * n + bitsOf m.w1 15 0) = some m.w2 ∧ (u.planner n).act = some m := by
  obtain ⟨w, hw, num, ctx⟩ := works
  have runs : (List.range 256).any (fun w => r.rdN .WORK_PROG w = bitsOf m.w1 15 0 && r.rdN .WORK_CTX w = n) = true := by
    refine List.any_eq_true.mpr ⟨w, List.mem_range.mpr hw, ?_⟩
    rw [State.rdN, State.rdN, took.keeps.rd .WORK_PROG w (by decide +kernel), took.keeps.rd .WORK_CTX w (by decide +kernel)]
    exact Bool.and_eq_true_iff.mpr ⟨decide_eq_true num, decide_eq_true ctx⟩
  have start : r.startRec n m = { r with calls := tset none r.calls (1024 * n + bitsOf m.w1 15 0 % 1024) (some m.w2) } := by
    rw [startRec_of_call k]
    refine if_pos ?_
    rw [took.keeps.progs (by decide +kernel), prog, runs]
    rfl
  rw [carried.keeps.calls (by decide +kernel), carried.holds.act, start]
  exact ⟨by rw [tget_tset, if_pos (by rw [Nat.mod_eq_of_lt small])], took.act⟩

theorem call_refused (k : m.kind = 8) (prog : (findProg s.progs (bitsOf m.w1 15 0)).isSome = false) :
    u.rd .LAST_DONE_TAG n = m.tag ∧ (u.planner n).act = none ∧ u.bit .CAUSES_LATCHED (blkAxis n) 0x1E = true := by
  have start : r.startRec n m = (r.detect (blkAxis n) 0x1E).completeRec n := by
    rw [startRec_of_call k]
    refine if_neg ?_
    rw [took.keeps.progs (by decide +kernel), prog, Bool.false_and]
    exact Bool.false_ne_true
  have active : ((r.detect (blkAxis n) 0x1E).planner n).act = some m := ((holdsRec_refl n r).detect (blkAxis n) 0x1E 0 false).act.trans took.act
  obtain ⟨tag, -, free⟩ := completeRec_shows active
  have done := completeRec_keeps (M := State.completeRec_may) n (keeps_refl _ (r.detect (blkAxis n) 0x1E))
  refine ⟨?_, ?_, ?_⟩
  · rw [carried.keeps.rd .LAST_DONE_TAG n (by decide +kernel), start, tag]
  · rw [carried.holds.act, start, free]
  · rw [State.bit_congr (carried.keeps.rd .CAUSES_LATCHED _ (by decide +kernel)), start,
      State.bit_congr (done.rd .CAUSES_LATCHED _ (by decide +kernel))]
    exact detect_latches ..

end

-- O19

/-- Settles O19, kind by kind, from the record taken and the rest of the step. -/
theorem moveRecordsAreTaken : Obligations.MoveRecordsAreTaken := by
  unfold Obligations.MoveRecordsAreTaken
  intro t n s0 m e s ok slot folded rest head kind
  obtain ⟨run, lo, hi⟩ := exec_recordStep head kind
  obtain ⟨r, took, carried⟩ := profileCommit_takes n.isLt ok slot folded rest head
  obtain ⟨tag, queue⟩ := taken_shows took carried n.isLt hi
  obtain ⟨-, -, input⟩ := rest.input
  obtain ⟨-, -, -, limNew, -⟩ := rest.asked
  exact ⟨_, run, tag, queue,
    fun move free => move_active took carried lo move free,
    fun T free above below lo48 hi48 aim => move_aims took carried input free above below lo48 hi48 aim,
    fun vel free => vel_runs carried vel free,
    fun move released far => release_waits took carried rest lo move released far,
    fun dwell time => record_stays took carried dwell (.inl ⟨dwell, time⟩),
    fun wait unmet => record_stays took carried wait (.inr ⟨wait, unmet⟩),
    fun ends => record_completes took carried ends,
    fun limits _ hp => limits_written took carried limits limNew hp,
    fun currents _ hp => currents_written took carried currents hp,
    fun call prog small works => call_pends took carried call prog small works,
    fun call prog => call_refused took carried call prog⟩

end Sys2Proof.Machine
end

section
/-! PROOFS. What the operations of the ring do to the queues (O41): records and traces go to Q72, Q73 and Q74, and a frame that passes a queue
leaves every other queue alone. -/
namespace Sys2Proof.Machine

set_option Elab.async false

/-- No queue but those of `l` has changed. -/
structure State.QueuesBut (l : List Nat) (s t : State) : Prop where
  queue : ∀ q, q ∉ l → t.queue q = s.queue q

theorem queuesBut_refl (l : List Nat) (s : State) : State.QueuesBut l s s := ⟨fun _ _ => rfl⟩

theorem count_queues (s : State) (r : Reg) (i n w : Nat) : (s.count r i n w).queues = s.queues := by
  unfold State.count
  split <;> rfl

namespace State.QueuesBut

section
variable {l : List Nat} {S s t : State} (h : QueuesBut l S s)
include h

theorem trans {k : List Nat} (g : QueuesBut k s t) (sub : k ⊆ l := by decide) : QueuesBut l S t :=
  ⟨fun q hq => (g.queue q (fun e => hq (sub e))).trans (h.queue q hq)⟩

/-- What leaves the queues alone. -/
theorem same (e : t.queues = s.queues) : QueuesBut l S t := by
  constructor
  intro q hq
  rw [← h.queue q hq, State.queue, State.queue, e]

theorem keeps {m : Nat} (k : Keeps m s t) (hm : m.testBit 2003 = false := by decide +kernel) : QueuesBut l S t := h.same (k.queues hm)

theorem only {q : Nat} (g : s.OnlyQueue t q) (hq : q ∈ l := by decide) : QueuesBut l S t :=
  ⟨fun p hp => (g p (fun e => hp (e ▸ hq))).trans (h.queue p hp)⟩

theorem ite {c : Prop} {_ : Decidable c} (g : QueuesBut l S t) : QueuesBut l S (if c then s else t) := by
  split <;> assumption

theorem count (r : Reg) (i n w : Nat) : QueuesBut l S (s.count r i n w) := h.same (count_queues ..)

theorem tally (k n : Nat) : QueuesBut l S (s.tally k n) := h.same rfl

theorem wrQueue {q : Nat} (x : Queue) (hq : q ∈ l := by decide) : QueuesBut l S (s.wrQueue q x) := by
  constructor
  intro p hp
  have apart : p ≠ q := fun e => hp (e ▸ hq)
  rw [State.queue_wrQueue, if_neg apart, h.queue p hp]

theorem push {q : Nat} (p : Pkt) (hq : q ∈ l := by decide) : QueuesBut l S (s.push q p).1 := by
  unfold State.push
  extract_lets x0 cap x s1 y s2 s3 s4 s5 s6
  have counted : QueuesBut l S s1 := h.count ..
  split
  · exact counted.count ..
  · have pushed : QueuesBut l S s3 := ((counted.same (t := s1.wr .REWIND_VALID q 0) rfl).ite counted).wrQueue y hq
    exact ((pushed.count .PUSHED q 1 64).count .PACKETS q 1 64).same rfl

theorem traceIf (src : Nat) (pass : Bool) (v : Nat) (hq : 73 ∈ l := by decide) : QueuesBut l S (s.traceIf src pass v) :=
  ite (h.only (State.OnlyQueue.trace (fun _ _ => rfl) src v) hq) h

end

end State.QueuesBut

-- detections

/-- The queues of the fault log and of the trace. -/
abbrev recordQueues : List Nat := [72, 73, 74]

theorem closeRec_queues (s : State) (b : Nat) : State.QueuesBut recordQueues s (s.closeRec b) := by
  unfold State.closeRec
  split
  · exact queuesBut_refl _ s
  · exact ((queuesBut_refl _ s).wrQueue (q := 72) _).same rfl

theorem post_queues (s : State) (b c data : Nat) (opens : Bool) : State.QueuesBut recordQueues s (s.post b c data opens) := by
  unfold State.post
  extract_lets s1 sev o cons severe begins s2 s3 s4 s5 inHead s6 s7 link r s8 s9 s10 s11 s12 s13 s14 s15 s16
  have noted : s12.queues = (s.closeRec b).queues := by
    simp only [s12, s11, s10, s9, s8, s7, s6, s5, s4, s3, s2, s1, apply_ite State.queues, count_queues, State.tally, State.wr_fields, State.setOpen,
      ite_self]
  have before : State.QueuesBut recordQueues s s12 := (closeRec_queues s b).same noted
  have queued : State.QueuesBut recordQueues s s13 := by
    have pushed := before.push (q := 72) (.record r)
    unfold s13
    split
    next x e => rwa [e] at pushed
    next x e =>
      rw [e] at pushed
      exact (pushed.count .POST_DROPS 0 1 32).same rfl
  have traced : State.QueuesBut recordQueues s s15 := (queued.push (q := 74) _).traceIf 5 _ _
  refine .ite (.ite ?_ ?_) traced <;> exact traced.same rfl

theorem noteCause_queues (s : State) (b c : Nat) : (s.noteCause b c).queues = s.queues := by
  unfold State.noteCause
  dsimp only
  split <;> rfl

theorem detect_queues (s : State) (b c data : Nat) (opens : Bool) : State.QueuesBut recordQueues s (s.detect b c data opens) := by
  have noted : State.QueuesBut recordQueues s (s.noteCause b c) := (queuesBut_refl _ s).same (noteCause_queues s b c)
  obtain ⟨o, e⟩ | e := detect_cases s b c data opens <;> rw [e]
  · have merged (f : Rec → Rec) : State.QueuesBut recordQueues s (((s.noteCause b c).onRecord o.ordinal f).wrBit .OPEN_CAUSES b c true) :=
      (noted.wrQueue (q := 72) _).same rfl
    exact ((merged _).count .MERGES b 1 32).tally 221 1
  · exact noted.trans (post_queues _ b c data opens)

theorem endCause_queues (s : State) (b c : Nat) : State.QueuesBut recordQueues s (s.endCause b c) := by
  have lowered : State.QueuesBut recordQueues s (s.wrBit .CAUSES_PRESENT b c false) := (queuesBut_refl _ s).same rfl
  unfold State.endCause
  dsimp only
  split
  · exact .ite (lowered.trans (closeRec_queues _ b)) lowered
  · exact lowered

theorem checkSync_queues (s : State) : State.QueuesBut recordQueues s s.checkSync :=
  .ite (.ite (queuesBut_refl _ s) (detect_queues s 0x60 0x10 0 false)) (endCause_queues s 0x60 0x10)

end Sys2Proof.Machine
end

section
/-! PROOFS. Frames that the gorge takes and sends (O41): a queue with room lets a frame through, and a frame that is neither this node's nor
the served head's is passed on. -/
namespace Sys2Proof.Machine

set_option Elab.async false

-- a queue with room

/-- A packet that fits is taken. -/
theorem push_taken {s : State} {q : Nat} {p : Pkt} (hq : q ≠ 74) (opened : s.qVoided q = false) (fits : (s.queue q).depth + p.len ≤ s.capacity q) :
    (s.push q p).2 = true := by
  unfold State.push
  extract_lets x0 cap x s1 y s2 s3 s4 s5 s6
  have plain : x = s.queue q := if_neg hq
  have kept := count_keeps (M := State.count_may ||| may .REFUSED) .REFUSED q (x0.pkts.length - x.pkts.length) 32 (keeps_refl _ s)
  have still : s1.qVoided q = false :=
    (qVoided_congr (kept.rd .DEVICE_TIME 0 (by decide +kernel)) (kept.rd .qVoid q (by decide +kernel))).trans opened
  have room : (s1.qVoided q || decide (cap < x.depth + p.len)) = false := by
    rw [still, plain, Bool.false_or]
    exact decide_eq_false (Nat.not_lt.mpr fits)
  rw [room]
  rfl

/-- The registers on which the room of a queue depends. -/
def roomRegs : List Reg := [.DEVICE_TIME, .qVoid, .BASIN_WORDS, .QUEUE_RECORDS]

/-- A queue that has not changed keeps its room. -/
theorem room_keeps {m q : Nat} {s t : State} {p : Pkt} (room : s.Room q p) (k : Keeps m s t) (queue : t.queue q = s.queue q)
    (hm : ∀ r ∈ roomRegs, m.testBit r.ctorIdx = false := by decide +kernel) : t.Room q p := by
  obtain ⟨opened, fits⟩ := room
  have same (r : Reg) (i : Nat) (hr : r ∈ roomRegs) : t.rd r i = s.rd r i := k.rd r i (hm r hr)
  refine ⟨(qVoided_congr (same _ _ (by decide)) (same _ _ (by decide))).trans opened, ?_⟩
  rw [queue, State.capacity, State.rdN, State.rdN, same .QUEUE_RECORDS q (by decide), same .BASIN_WORDS q (by decide)]
  exact fits

/-- Room for a frame is room for every frame of its length. -/
theorem room_length {q : Nat} {s : State} {f g : Frame} (room : s.Room q (.frame f)) (len : g.data.length = f.data.length) :
    s.Room q (.frame g) := by
  have same : Pkt.len (.frame g) = Pkt.len (.frame f) := by rw [Pkt.len, Pkt.len, Frame.bytes, Frame.bytes, len]
  rw [State.Room, same]
  exact room

/-- A frame passes a queue that has room for it. -/
theorem through_taken {s : State} {q : Nat} {f : Frame} (hq : q ≠ 74) (room : s.Room q (.frame f)) : (s.through q f).2 = true := by
  obtain ⟨opened, fits⟩ := room
  let w := s.wrQueue q { s.queue q with resv := reserved q f }
  have depth : (w.queue q).depth = ((s.queue q).pkts.map Pkt.len).sum + reserved q f := by
    rw [State.queue_wrQueue, if_pos rfl]
    rfl
  have taken : (w.push q (.frame f)).2 = true := by
    refine push_taken hq opened ?_
    rw [depth]
    refine Nat.le_trans ?_ fits
    unfold reserved Queue.depth
    split <;> split <;> simp_all
    omega
  unfold State.through
  generalize w.push q (.frame f) = r at taken
  obtain ⟨x, b⟩ := r
  cases taken
  rfl

theorem through_queues (s : State) {l : List Nat} {q : Nat} (f : Frame) (hq : q ∈ l := by decide) : State.QueuesBut l s (s.through q f).1 := by
  unfold State.through
  have pushed := ((queuesBut_refl l s).wrQueue { s.queue q with resv := reserved q f } hq).push (.frame f) hq
  split
  next x e =>
    rw [e] at pushed
    exact pushed.wrQueue _ hq
  next x e =>
    rw [e] at pushed
    exact (pushed.wrQueue _ hq).count ..

-- sending

theorem onWire_wire (s : State) (p : Nat) (f : Frame) (bad : Bool) : tget none (s.onWire p f bad).wire p = some f := by
  let x := ({ s with wire := tset none s.wire p (some f) }.wr .wireBad p (ofBool bad)).count .FRAMES_OUT p 1 64
  have counted : x.wire = tset none s.wire p (some f) :=
    (count_keeps (M := State.count_may ||| may .FRAMES_OUT) .FRAMES_OUT p 1 64 (keeps_refl _ _)).wire (by decide +kernel)
  have traced : (s.onWire p f bad).wire = x.wire :=
    (traceFrame_keeps (M := State.traceFrame_may) p 2 f.dest f bad (keeps_refl _ x)).wire (by decide +kernel)
  rw [traced, counted, tget_tset, if_pos rfl]

/-- A frame with room in its transmit queue leaves on its port. -/
theorem transmit_wire {s : State} {p : Nat} {f : Frame} (hp : p ≤ 2) (room : s.Room (68 + p) (.frame f)) (bad : Bool) :
    tget none (s.transmit p f bad).wire p = some f := by
  have taken := through_taken (by omega) room
  unfold State.transmit
  generalize s.through (68 + p) f = r at taken
  obtain ⟨x, b⟩ := r
  cases taken
  exact onWire_wire ..

theorem portDown_keeps {m : Nat} {s t : State} (k : Keeps m s t) (p : Nat)
    (hm : ∀ r ∈ [Reg.LINK, .WRAPPED], m.testBit r.ctorIdx = false := by decide +kernel) : t.portDown p = s.portDown p := by
  rw [State.portDown, k.rd .LINK p (hm _ (by decide)), k.rd .WRAPPED p (hm _ (by decide))]
  rfl

theorem measureHop_queues (s : State) (p hop : Nat) : State.QueuesBut recordQueues s (s.measureHop p hop) := by
  unfold State.measureHop
  extract_lets x
  have told : State.QueuesBut recordQueues s x := (queuesBut_refl _ s).same rfl
  split
  · exact queuesBut_refl _ s
  · split
    · exact told
    · exact ((told.count .PORT_HOP_SLOW p 1 32).trans (detect_queues _ (0x58 + p) 0x10 0 false)).same rfl

theorem otherPort_le (p : Nat) : otherPort p ≤ 1 := Nat.sub_le 1 p

/-- A frame whose other port takes frames leaves on that port (R288). -/
theorem forward_wire {s : State} {p : Nat} {f : Frame} (up : s.portDown (otherPort p) = false) (room : s.Room (68 + otherPort p) (.frame f))
    (bad : Bool) (hop : Nat) : tget none (s.forward p f bad hop).wire (otherPort p) = some f := by
  have le := otherPort_le p
  let x := s.iff (f.kind = 0 && f.dest = 0xFFFF) (fun s => s.count .NO_REPLY 0)
  let may_x := may .NO_REPLY ||| State.count_may
  have noted : Keeps may_x s x := keeps_iff (keeps_refl _ s) (fun _ g => count_keeps .NO_REPLY 0 1 32 g)
  have queued : State.QueuesBut recordQueues s x := .ite ((queuesBut_refl _ s).count ..) (queuesBut_refl _ s)
  have measured := measureHop_keeps (M := may_x ||| State.measureHop_may) p hop (noted.mono (by decide +kernel))
  have e : s.forward p f bad hop = (x.measureHop p hop).transmit (otherPort p) f bad := by
    unfold State.forward
    dsimp only
    rw [portDown_keeps noted, up]
    rfl
  rw [e]
  refine transmit_wire (by omega) (room_keeps room measured ((queued.trans (measureHop_queues x p hop)).queue _ ?_)) bad
  simp only [recordQueues, List.mem_cons, List.not_mem_nil, or_false]
  omega

-- arrival

/-- The registers that hold the addresses which this node answers (R281, R284). -/
def addressRegs : List Reg := [.NODE_NUMBER, .GATEWAY_HEAD]

section
variable {m : Nat} {s t : State} (k : Keeps m s t)
include k

theorem isOwn_keeps (a : Nat) (hm : ∀ r ∈ addressRegs, m.testBit r.ctorIdx = false := by decide +kernel) : t.isOwn a = s.isOwn a := by
  rw [State.isOwn, State.rdN, k.rd .NODE_NUMBER 0 (hm _ (by decide))]
  rfl

theorem served_keeps (hm : ∀ r ∈ addressRegs, m.testBit r.ctorIdx = false := by decide +kernel) : t.served = s.served := by
  rw [State.served, State.rdN, k.rd .GATEWAY_HEAD 0 (hm _ (by decide))]
  rfl

theorem lapEnds_keeps (p : Nat) (f : Frame) (hm : ∀ r ∈ addressRegs, m.testBit r.ctorIdx = false := by decide +kernel) :
    t.lapEnds p f = s.lapEnds p f := by
  rw [State.lapEnds, isOwn_keeps k f.src hm, served_keeps k hm]
  rfl

end

/-- The frame `f` comes in at port `p` of a module that is awake, with room for it, and its lap does not end here (R280, R281, R285, R288). -/
structure State.Arrives (s : State) (p : Fin 2) (f : Frame) : Prop where
  awake : s.mode ≠ 0
  linked : s.rd .LINK p ≠ 0
  ether : f.ether = true
  version : f.version = 1
  dest : validAddr f.dest = true
  src : validAddr f.src = true
  room : s.Room (64 + p) (.frame f)
  lap : s.lapEnds p f = false

/-- The module as the gorge finds it once `f` has come in at port `p`. -/
def State.arrived (s : State) (p : Nat) (f : Frame) : State :=
  ((s.through (64 + p) f).1.count .FRAMES_IN p 1 64).traceFrame p 0 f.src f false

def arrived_may : Nat := State.through_may ||| may .FRAMES_IN ||| State.count_may ||| State.traceFrame_may

theorem arrived_keeps (s : State) (p : Nat) (f : Frame) : Keeps arrived_may s (s.arrived p f) :=
  traceFrame_keeps p 0 f.src f false (count_keeps .FRAMES_IN p 1 64 (through_keeps (64 + p) f (keeps_refl _ s)))

theorem arrived_queues (s : State) (p : Nat) (f : Frame) : State.QueuesBut [64 + p, 73] s (s.arrived p f) :=
  ((through_queues s f List.mem_cons_self).count .FRAMES_IN p 1 64).traceIf 4 _ _ (by simp)

/-- What the module takes along of a frame that comes in at port `p`: a SWEEP on its forward pass. -/
def State.swept (s : State) (p : Nat) (f : Frame) : State × Frame := if p = 0 then s.sweepPass f true else (s, f)

section
variable {s : State} {p : Fin 2} {f : Frame} (h : s.Arrives p f)
include h

theorem receive_arrived : s.receive p f true = (s.arrived p f, some false) := by
  have taken := through_taken (q := 64 + p) (by omega) h.room
  unfold State.receive State.arrived
  rw [h.ether, h.version, h.dest, h.src]
  generalize s.through (64 + p) f = r at taken
  obtain ⟨x, b⟩ := r
  cases taken
  rfl

theorem lapEnds_arrived : (s.arrived p f).lapEnds p f = false := (lapEnds_keeps (arrived_keeps s p f) p f).trans h.lap

/-- A frame for no node here is offered to its followers and passed on (R288). -/
theorem gorge_passes (own : s.isOwn f.dest = false) (broadcast : f.dest ≠ 0xFFFE) (head : s.served ≠ some f.dest) (hop : Nat) :
    s.gorge p f true hop =
      (((s.arrived p f).swept p f).1.takeNote p f true).forward p ((s.arrived p f).swept p f).2 false hop := by
  have kept := arrived_keeps s p f
  have asleep : (decide (s.mode = 0) || decide (s.rd .LINK p = 0)) = false := by simp [h.awake, h.linked]
  unfold State.gorge
  dsimp only
  rw [asleep, receive_arrived h]
  dsimp only
  rw [lapEnds_arrived h, isOwn_keeps kept, own, served_keeps kept, decide_eq_false broadcast, if_neg head]
  rfl

end

end Sys2Proof.Machine
end

section
/-! PROOFS. SWEEP frames on the module's forward pass (O41; R298–R300). -/
namespace Sys2Proof.Machine

set_option Elab.async false

-- bytes

theorem putBytes_length {l v : List Byte} {i : Nat} (h : i + v.length ≤ l.length) : (putBytes l i v).length = l.length := by
  simp only [putBytes, List.length_append, List.length_take, List.length_drop]
  omega

theorem byteAt_putBytes_lt {l v : List Byte} {i j : Nat} (hj : j < i) (hi : i ≤ l.length) : byteAt (putBytes l i v) j = byteAt l j := by
  have taken : j < (l.take i).length := by rw [List.length_take]; omega
  rw [byteAt, byteAt, putBytes, List.append_assoc, List.getD_append _ _ _ _ taken, List.getD_eq_getElem?_getD, List.getElem?_take_of_lt hj,
    List.getD_eq_getElem?_getD]

theorem byteAt_putBytes {l v : List Byte} {i j : Nat} (hj : j < v.length) (hi : i ≤ l.length) : byteAt (putBytes l i v) (i + j) = byteAt v j := by
  have taken : (l.take i).length = i := by rw [List.length_take]; omega
  rw [byteAt, byteAt, putBytes, List.append_assoc, List.getD_append_right _ _ _ _ (by omega), taken, Nat.add_sub_cancel_left,
    List.getD_append _ _ _ _ hj]

/-- `m` has the length of `l` and its first eight bytes. -/
def SameHead (l m : List Byte) : Prop := m.length = l.length ∧ ∀ j < 8, byteAt m j = byteAt l j

theorem SameHead.putBytes {l m v : List Byte} {i : Nat} (h : SameHead l m) (hi : 8 ≤ i) (fits : i + v.length ≤ l.length) :
    SameHead l (putBytes m i v) := by
  obtain ⟨len, head⟩ := h
  rw [← len] at fits
  exact ⟨(putBytes_length fits).trans len, fun j hj => (byteAt_putBytes_lt (by omega) (by omega)).trans (head j hj)⟩

theorem SameHead.putBit {l m : List Byte} {i k : Nat} (h : SameHead l m) (hi : 8 ≤ i) (fits : i + k / 8 < l.length) : SameHead l (putBit m i k) :=
  h.putBytes (by omega) fits

-- numbering (R300)

/-- The number that an enumeration sweep carries. -/
def sweepNumber (f : Frame) : Nat := byteAt f.data 2 + 256 * byteAt f.data 3

section
variable {s : State} {f : Frame}

theorem enumerate_numbered (h : s.rdN .NODE_NUMBER 0 ≠ 0xFFFF) : s.enumerate f = (s, f) := by
  unfold State.enumerate
  dsimp only
  rw [if_neg (by simp [h])]

theorem enumerate_numbers (enum : f.enum = true) (auto : s.rd .NODE_MODE 0 = 0) (bare : s.rdN .NODE_NUMBER 0 = 0xFFFF) (small : sweepNumber f < 1024) :
    s.enumerate f = (s.wr .NODE_NUMBER 0 (sweepNumber f), { f with data := putBytes f.data 2 (leBytes 2 (sweepNumber f + 1)) }) := by
  unfold sweepNumber at small
  unfold State.enumerate
  dsimp only
  rw [if_pos (by simp [enum, auto, bare, small])]
  rfl

theorem sweepNumber_putBytes {l : List Byte} {n : Nat} (hl : 4 ≤ l.length) (hn : n < 65536) :
    byteAt (putBytes l 2 (leBytes 2 n)) 2 + 256 * byteAt (putBytes l 2 (leBytes 2 n)) 3 = n := by
  have low := byteAt_putBytes (l := l) (v := leBytes 2 n) (i := 2) (j := 0) Nat.two_pos (by omega)
  have high := byteAt_putBytes (l := l) (v := leBytes 2 n) (i := 2) (j := 1) Nat.one_lt_two (by omega)
  have bytes : byteAt (leBytes 2 n) 0 = n % 256 ∧ byteAt (leBytes 2 n) 1 = n / 256 % 256 := ⟨rfl, rfl⟩
  rw [low, high, bytes.1, bytes.2]
  omega

theorem enumerate_length (len : f.data.length = 1160) : (s.enumerate f).2.data.length = 1160 := by
  unfold State.enumerate
  dsimp only
  split
  · exact (putBytes_length (show 2 + 2 ≤ f.data.length by omega)).trans len
  · exact len

end

-- the module's slot (R299)

/-- The data of a sweep with the slot of this node written. -/
def State.slotData (s : State) (f : Frame) : List Byte :=
  let k := s.rdN .NODE_NUMBER 0 % 512
  let d := putBit (putBytes f.data (8 + 2 * k) (leBytes 2 s.statusWord)) 1032 k
  if s.rd .hopSlow 0 = 1 then putBit d 1096 k else d

/-- The sweep counted, with its time. -/
def State.sweepCounted (s : State) : State :=
  let x := ((s.wr .hopSlow 0 0).count .SWEEPS 0 1 64).tally 227
  x.wr .SWEEP_TIME 0 x.now

/-- The sweep counted, and its head heard (R321). -/
def State.slotCounted (s : State) (f : Frame) (arriving : Bool) : State :=
  s.sweepCounted.iff (isHead f.src) (fun x =>
    if arriving then x.dueContact.wr .sweepEnd 0 (x.now + sweepRest (s.rdN .NODE_NUMBER 0 % 512) + 1 : Nat) else x.contact)

section
variable {s : State} {f : Frame} (arriving : Bool)

/-- A slot of this node's half that is not yet written is written. -/
theorem writeSlot_open (small : s.rdN .NODE_NUMBER 0 < 1024) (half : s.rdN .NODE_NUMBER 0 / 512 = byteAt f.data 0)
    (free : bitAt f.data 1032 (s.rdN .NODE_NUMBER 0 % 512) = false) :
    s.writeSlot f arriving = (s.slotCounted f arriving, { f with data := s.slotData f }) := by
  have ours : (decide (1024 ≤ s.rdN .NODE_NUMBER 0) || decide (s.rdN .NODE_NUMBER 0 / 512 ≠ byteAt f.data 0)) = false := by
    rw [decide_eq_false (by omega), decide_eq_false (not_not.mpr half), Bool.or_self]
  unfold State.writeSlot
  dsimp only
  rw [ours, free]
  rfl

/-- A sweep finds no slot of this node, or its slot written already, or it takes the status word. -/
theorem writeSlot_cases (s : State) (f : Frame) :
    s.writeSlot f arriving = (s, f) ∨ s.writeSlot f arriving = (s.detect 0x58 0x12, f) ∨
      s.writeSlot f arriving = (s.slotCounted f arriving, { f with data := s.slotData f }) := by
  unfold State.writeSlot
  dsimp only
  split
  · exact .inl rfl
  · split
    · exact .inr (.inl rfl)
    · exact .inr (.inr rfl)

/-- What the contact of the sweep's head may change. -/
def sweepContact_may : Nat := State.dueContact_may ||| State.contact_may ||| may .sweepEnd

theorem slotCounted_keeps (s : State) (f : Frame) : Keeps sweepContact_may s.sweepCounted (s.slotCounted f arriving) :=
  keeps_iff (keeps_refl _ _) (fun _ g => keeps_ite (keeps_wr (dueContact_keeps g) .sweepEnd 0 _ (by decide +kernel)) (contact_keeps g))

/-- A sweep is counted and its time noted (R299). -/
theorem slotCounted_shows (below : s.rd .SWEEPS 0 + 1 < 2 ^ 64) :
    (s.slotCounted f arriving).rd .SWEEPS 0 = s.rd .SWEEPS 0 + 1 ∧ (s.slotCounted f arriving).rd .SWEEP_TIME 0 = s.now := by
  have met := slotCounted_keeps arriving s f
  have counted : (s.wr .hopSlow 0 0).count .SWEEPS 0 1 64 = (s.wr .hopSlow 0 0).wr .SWEEPS 0 (s.rd .SWEEPS 0 + 1) := by
    have apart : (s.wr .hopSlow 0 0).rd .SWEEPS 0 = s.rd .SWEEPS 0 := State.rd_wr_ne s 0 0 0 (by decide)
    rw [← apart] at below ⊢
    exact if_pos below
  rw [met.rd .SWEEPS 0 (by decide +kernel), met.rd .SWEEP_TIME 0 (by decide +kernel), State.sweepCounted, counted]
  simp [State.tally, State.now, State.rdN, State.rd_wr]

theorem slotCounted_queues {l : List Nat} : State.QueuesBut l s (s.slotCounted f arriving) := by
  have counted : State.QueuesBut l s s.sweepCounted :=
    (State.QueuesBut.count (s := s.wr .hopSlow 0 0) ((queuesBut_refl l s).same rfl) .SWEEPS 0 1 64).same rfl
  exact counted.keeps (slotCounted_keeps arriving s f)

theorem slotData_head (len : f.data.length = 1160) : SameHead f.data (s.slotData f) := by
  have small : s.rdN .NODE_NUMBER 0 % 512 < 512 := Nat.mod_lt _ (by decide)
  have status : (leBytes 2 s.statusWord).length = 2 := rfl
  have written : SameHead f.data (putBit (putBytes f.data _ (leBytes 2 s.statusWord)) 1032 (s.rdN .NODE_NUMBER 0 % 512)) :=
    (SameHead.putBytes ⟨rfl, fun _ _ => rfl⟩ (Nat.le_add_right 8 (2 * (s.rdN .NODE_NUMBER 0 % 512))) (by omega)).putBit (by decide) (by omega)
  unfold State.slotData
  dsimp only
  split
  · exact written.putBit (by decide) (by omega)
  · exact written

/-- The first bytes of a sweep, and its length, are those it came with. -/
theorem writeSlot_head (len : f.data.length = 1160) : SameHead f.data (s.writeSlot f arriving).2.data := by
  obtain e | e | e := writeSlot_cases arriving s f <;> rw [e]
  · exact ⟨rfl, fun _ _ => rfl⟩
  · exact ⟨rfl, fun _ _ => rfl⟩
  · exact slotData_head len

theorem writeSlot_queues : State.QueuesBut recordQueues s (s.writeSlot f arriving).1 := by
  obtain e | e | e := writeSlot_cases arriving s f <;> rw [e]
  · exact queuesBut_refl _ s
  · exact detect_queues s 0x58 0x12 0 false
  · exact slotCounted_queues arriving

-- a sweep on its way

theorem sweepPass_of_sweep (h : isSweep f = true) : s.sweepPass f arriving = (s.enumerate f).1.writeSlot (s.enumerate f).2 arriving := if_pos h

theorem sweepPass_length (h : isSweep f = true) : (s.sweepPass f arriving).2.data.length = f.data.length := by
  have len : f.data.length = 1160 := of_decide_eq_true (Bool.and_eq_true_iff.mp h).2
  have numbered := enumerate_length (s := s) len
  rw [sweepPass_of_sweep arriving h, (writeSlot_head arriving numbered).1, numbered, len]

theorem enumerate_queues : (s.enumerate f).1.queues = s.queues := by
  unfold State.enumerate
  dsimp only
  split <;> rfl

theorem sweepPass_queues (h : isSweep f = true) : State.QueuesBut recordQueues s (s.sweepPass f arriving).1 := by
  rw [sweepPass_of_sweep arriving h]
  exact ((queuesBut_refl _ s).same enumerate_queues).trans (writeSlot_queues arriving)

end

/-- A sweep is no stream notice. -/
theorem takeNote_of_sweep {f : Frame} (h : isSweep f = true) (s : State) (p : Nat) (ok : Bool) : s.takeNote p f ok = s := by
  have op : f.op = opSweep := of_decide_eq_true (Bool.and_eq_true_iff.mp (Bool.and_eq_true_iff.mp h).1).1
  have unfollowed : s.noteFollowers f = [] := if_neg (by simp [op, opSweep, opNote])
  unfold State.takeNote
  rw [unfollowed]
  rfl

section
variable {s : State} {f : Frame} (h : s.Arrives 0 f) (sweep : isSweep f = true) (own : s.isOwn f.dest = false) (broadcast : f.dest ≠ 0xFFFE)
  (head : s.served ≠ some f.dest) (hop : Nat)
include h sweep own broadcast head

theorem gorge_of_sweep : s.gorge 0 f true hop = ((s.arrived 0 f).sweepPass f true).1.forward 0 ((s.arrived 0 f).sweepPass f true).2 false hop := by
  refine (gorge_passes h own broadcast head hop).trans ?_
  exact congrArg (State.forward · 0 _ false hop) (takeNote_of_sweep sweep _ 0 true)

/-- A sweep leaves on RB with what it has taken along. -/
theorem gorge_sweep_wire (up : s.portDown 1 = false) (room : s.Room 69 (.frame f)) :
    tget none (s.gorge 0 f true hop).wire 1 = some ((s.arrived 0 f).sweepPass f true).2 := by
  let may_x := arrived_may ||| State.sweepPass_may
  have kept : Keeps may_x s ((s.arrived 0 f).sweepPass f true).1 :=
    sweepPass_keeps f true ((arrived_keeps s 0 f).mono (by decide +kernel))
  have queues : State.QueuesBut [64, 72, 73, 74] s ((s.arrived 0 f).sweepPass f true).1 :=
    ((queuesBut_refl _ s).trans (arrived_queues s 0 f)).trans (sweepPass_queues true sweep)
  rw [gorge_of_sweep h sweep own broadcast head]
  exact forward_wire (p := 0) ((portDown_keeps kept 1).trans up)
    (room_length (room_keeps room kept (queues.queue 69 (by decide))) (sweepPass_length true sweep)) false hop

end

end Sys2Proof.Machine
end

section
/-! PROOFS. The status word of a node in a sweep, and the number an enumeration sweep gives it (O41; R37, R299, R300). -/
namespace Sys2Proof.Machine

set_option Elab.async false

/-- The registers of which the status word tells (R38). -/
def statusRegs : List Reg :=
  [.PASS_COUNT, .MODE, .ACK_ORDINAL, .NEWEST_WARN, .NEWEST_SEVERE, .NEWEST_ORDINAL, .LOG_SEEN, .CAUSES_PRESENT, .SYNC_STATE, .holdoverFrom,
   .HOLDOVER_LIMIT, .DEVICE_TIME, .CFG_CHANGED, .LOW_MARK, .AXIS_EVENTS, .AXE_MASK, .REDUNDANCY, .feedSeen, .portSeen]

/-- What changes none of these registers and no move queue leaves the status word. -/
theorem statusWord_keeps {m : Nat} {s t : State} (k : Keeps m s t) (moves : ∀ q < 64, t.queue q = s.queue q)
    (hm : ∀ r ∈ statusRegs, m.testBit r.ctorIdx = false := by decide +kernel) : t.statusWord = s.statusWord := by
  have e (r : Reg) (hr : r ∈ statusRegs) (i : Nat) : t.rd r i = s.rd r i := k.rd r i (hm r hr)
  have eN (r : Reg) (hr : r ∈ statusRegs) (i : Nat) : t.rdN r i = s.rdN r i := congrArg Int.toNat (e r hr i)
  have waiting : t.qloMap = s.qloMap := by
    refine congrArg List.sum (List.map_congr_left fun n hn => ?_)
    rw [e .LOW_MARK (by decide), eN .LOW_MARK (by decide), State.waiting, State.waiting, moves n (List.mem_range.mp hn)]
  have events : t.axeMap = s.axeMap := by
    simp only [State.axeMap, eN .AXIS_EVENTS (by decide), eN .AXE_MASK (by decide)]
  have warned : t.warnPresent = s.warnPresent := by
    simp only [State.warnPresent, eN .CAUSES_PRESENT (by decide)]
  have synced : t.tsy = s.tsy := by
    simp only [State.tsy, State.now, e .SYNC_STATE (by decide), eN .holdoverFrom (by decide), eN .HOLDOVER_LIMIT (by decide),
      eN .DEVICE_TIME (by decide)]
    rfl
  have lost : t.deg = s.deg := by
    simp only [State.deg, eN .REDUNDANCY (by decide), eN .feedSeen (by decide), eN .portSeen (by decide)]
  simp only [State.statusWord, waiting, events, warned, synced, lost, State.pass, State.mode, e .CFG_CHANGED (by decide),
    eN .PASS_COUNT (by decide), eN .MODE (by decide), eN .ACK_ORDINAL (by decide), eN .NEWEST_WARN (by decide),
    eN .NEWEST_SEVERE (by decide), eN .NEWEST_ORDINAL (by decide), eN .LOG_SEEN (by decide)]

section
variable {s : State} {f : Frame} (h : s.Arrives 0 f) (sweep : isSweep f = true) (own : s.isOwn f.dest = false) (broadcast : f.dest ≠ 0xFFFE)
  (head : s.served ≠ some f.dest) (up : s.portDown 1 = false) (room : s.Room 69 (.frame f)) (hop : Nat)
include h sweep own broadcast head up room

/-- A sweep of this node's half leaves with the status word in the node's slot (R299). -/
theorem gorge_writes_slot {n : Nat} (number : s.rd .NODE_NUMBER 0 = n) (small : n < 1024) (half : n / 512 = byteAt f.data 0)
    (free : bitAt f.data 1032 (n % 512) = false) (below : s.rd .SWEEPS 0 + 1 < 2 ^ 64) (quick : s.rd .hopSlow 0 = 0) :
    (s.gorge 0 f true hop).rd .SWEEPS 0 = s.rd .SWEEPS 0 + 1 ∧ (s.gorge 0 f true hop).rd .SWEEP_TIME 0 = s.now ∧
      tget none (s.gorge 0 f true hop).wire 1 = some { f with
        data := putBit (putBytes f.data (8 + 2 * (n % 512)) (leBytes 2 s.statusWord)) 1032 (n % 512) } := by
  let x := s.arrived 0 f
  have kept : Keeps arrived_may s x := arrived_keeps s 0 f
  have told : x.rdN .NODE_NUMBER 0 = n := by rw [State.rdN, kept.rd .NODE_NUMBER 0 (by decide +kernel), number, Int.toNat_natCast]
  have status : x.statusWord = s.statusWord := statusWord_keeps kept fun q hq => (arrived_queues s 0 f).queue q (by simp; omega)
  have swift : ¬ x.rd .hopSlow 0 = 1 := by rw [kept.rd .hopSlow 0 (by decide +kernel), quick]; decide
  have unnumbered : x.enumerate f = (x, f) := enumerate_numbered (by omega)
  have swept : x.sweepPass f true = (x.slotCounted f true, { f with data := x.slotData f }) := by
    rw [sweepPass_of_sweep true sweep, unnumbered]
    exact writeSlot_open (s := x) (f := f) true (by omega) (by rw [told, half]) (by rw [told, free])
  have data : x.slotData f = putBit (putBytes f.data (8 + 2 * (n % 512)) (leBytes 2 s.statusWord)) 1032 (n % 512) := by
    unfold State.slotData
    dsimp only
    rw [if_neg swift, told, status]
  have sums : x.rd .SWEEPS 0 = s.rd .SWEEPS 0 := kept.rd .SWEEPS 0 (by decide +kernel)
  have now : x.now = s.now := congrArg Int.toNat (kept.rd .DEVICE_TIME 0 (by decide +kernel))
  obtain ⟨counted, timed⟩ := slotCounted_shows (s := x) (f := f) true (by rw [sums]; exact below)
  have wire := gorge_sweep_wire h sweep own broadcast head hop up room
  have sent := forward_keeps (M := State.forward_may) 0 { f with data := x.slotData f } false hop (keeps_refl _ (x.slotCounted f true))
  rw [show ((s.arrived 0 f).sweepPass f true).2 = { f with data := x.slotData f } from congrArg Prod.snd swept, data] at wire
  have gorge : s.gorge 0 f true hop = (x.slotCounted f true).forward 0 { f with data := x.slotData f } false hop := by
    rw [gorge_of_sweep h sweep own broadcast head hop]
    exact congrArg (fun r : State × Frame => r.1.forward 0 r.2 false hop) swept
  refine ⟨?_, ?_, wire⟩
  · rw [gorge, sent.rd .SWEEPS 0 (by decide +kernel), counted, sums]
  · rw [gorge, sent.rd .SWEEP_TIME 0 (by decide +kernel), timed, now]

/-- An enumeration sweep numbers a module without a number and leaves with the next one (R300). -/
theorem gorge_numbers (enum : f.enum = true) (auto : s.rd .NODE_MODE 0 = 0) (bare : s.rd .NODE_NUMBER 0 = 0xFFFF) (small : sweepNumber f < 1024) :
    (s.gorge 0 f true hop).rd .NODE_NUMBER 0 = sweepNumber f ∧
      ∃ g, tget none (s.gorge 0 f true hop).wire 1 = some g ∧ sweepNumber g = sweepNumber f + 1 := by
  let x := s.arrived 0 f
  have kept : Keeps arrived_may s x := arrived_keeps s 0 f
  have len : f.data.length = 1160 := of_decide_eq_true (Bool.and_eq_true_iff.mp sweep).2
  let y := x.wr .NODE_NUMBER 0 (sweepNumber f)
  let g : Frame := { f with data := putBytes f.data 2 (leBytes 2 (sweepNumber f + 1)) }
  have numbered : x.enumerate f = (y, g) := by
    refine enumerate_numbers enum ?_ ?_ small
    · rw [kept.rd .NODE_MODE 0 (by decide +kernel), auto]
    · rw [State.rdN, kept.rd .NODE_NUMBER 0 (by decide +kernel), bare]
      rfl
  have swept : x.sweepPass f true = y.writeSlot g true := by rw [sweepPass_of_sweep true sweep, numbered]
  have gorge := gorge_of_sweep h sweep own broadcast head hop
  have wire := gorge_sweep_wire h sweep own broadcast head hop up room
  change _ = some (x.sweepPass f true).2 at wire
  change _ = (x.sweepPass f true).1.forward 0 (x.sweepPass f true).2 false hop at gorge
  rw [swept] at gorge wire
  have sent : Keeps (State.writeSlot_may ||| State.forward_may) y (s.gorge 0 f true hop) := by
    rw [gorge]
    exact forward_keeps 0 _ false hop (writeSlot_keeps g true (keeps_refl _ y))
  obtain ⟨-, bytes⟩ := writeSlot_head (s := y) (f := g) true ((putBytes_length (show 2 + 2 ≤ f.data.length by omega)).trans len)
  refine ⟨?_, _, wire, ?_⟩
  · rw [sent.rd .NODE_NUMBER 0 (by decide +kernel), State.rd_wr_same]
  · rw [sweepNumber, bytes 2 (by decide), bytes 3 (by decide)]
    exact sweepNumber_putBytes (by omega) (by omega)

end

end Sys2Proof.Machine
end

section
/-! PROOFS. Stream notices (O41; R84, R306): the sample of a subscribed NOTE joins those that each of its followers holds. -/
namespace Sys2Proof.Machine

set_option Elab.async false

-- one follower

/-- The playback instant depends on the estimate of ring time and on the follower's delay. -/
theorem playAt_keeps {m : Nat} {s t : State} (k : Keeps m s t) (n j : Nat)
    (hm : ∀ r ∈ Reg.STREAM_DELAY :: ringRegs, m.testBit r.ctorIdx = false := by decide +kernel) : t.playAt n j = s.playAt n j := by
  rw [State.playAt, ringAt_congr (fun r hr => k.rd r 0 (hm r (List.mem_cons_of_mem _ hr))), State.rdN, k.rd .STREAM_DELAY n (hm _ List.mem_cons_self)]
  rfl

/-- The newest sample is held. -/
theorem mem_pruneSamples_insert {x : Sample} {l : List Sample} (newest : ∀ y ∈ l, y.t < x.t) (q : Int) : x ∈ pruneSamples q (insertSample x l) := by
  have first : insertSample x l = x :: l := by
    cases l with
    | nil => rfl
    | cons y l => exact if_pos (newest y List.mem_cons_self)
  rw [first, pruneSamples]
  split <;> exact List.mem_cons_self

section
variable {s : State} {n : Nat} {x : Sample}

/-- What a sample that is not held yet counts before it is held itself: the gap before it, and its SEQ. -/
def State.sampleCounted (s : State) (n : Nat) (x : Sample) : State :=
  let last := s.rdN .streamSeq n
  (s.iff (last ≠ 0 && x.seq ≠ last % 256 && x.seq ≠ last - 1) (fun s => s.count .STREAM_GAPS n)).wr .streamSeq n (x.seq + 1)

def sampleCounted_may : Nat := may .STREAM_GAPS ||| State.count_may ||| may .streamSeq

theorem sampleCounted_keeps (s : State) (n : Nat) (x : Sample) : Keeps sampleCounted_may s (s.sampleCounted n x) :=
  keeps_wr (keeps_iff (keeps_refl _ s) (fun _ g => count_keeps .STREAM_GAPS n 1 32 g)) .streamSeq n _ (by decide +kernel)

/-- The source of a follower is there once a sample has come. -/
def State.sampleHeard (s : State) (n : Nat) (x : Sample) : State := (s.sampleCounted n x).wr .srcLost n 0

theorem sampleHeard_keeps (s : State) (n : Nat) (x : Sample) : Keeps (sampleCounted_may ||| may .srcLost) s (s.sampleHeard n x) :=
  keeps_wr ((sampleCounted_keeps s n x).mono (by decide +kernel)) .srcLost n 0 (by decide +kernel)

/-- A sample is held already, or late, or joins those held (R85). -/
theorem takeSample_cases (s : State) (n : Nat) (x : Sample) :
    s.takeSample n x = s ∨ s.takeSample n x = (s.sampleHeard n x).count .STREAM_LATE n ∨
      ∃ l, s.takeSample n x = { s.sampleHeard n x with streams := tset [] (s.sampleHeard n x).streams n l } := by
  unfold State.takeSample
  dsimp only
  split
  · exact .inl rfl
  · split
    · exact .inr (.inl rfl)
    · exact .inr (.inr ⟨_, rfl⟩)

/-- A sample newer than all that are held, and not late, joins them (R85). -/
theorem takeSample_joins (newest : ∀ y ∈ s.samples n, y.t < x.t) (due : s.playAt n s.now ≤ (x.t : Int) * 2 ^ 32) :
    x ∈ (s.takeSample n x).samples n ∧ (s.takeSample n x).rd .srcLost n = 0 := by
  have unheld : (s.samples n).any (fun y => y.seq = x.seq && y.t = x.t) = false := by
    rw [List.any_eq_false]
    intro y hy
    have older := newest y hy
    simp
    omega
  let y := s.sampleHeard n x
  have heard : Keeps (sampleCounted_may ||| may .srcLost) s y := sampleHeard_keeps s n x
  have now : y.now = s.now := congrArg Int.toNat (heard.rd .DEVICE_TIME 0 (by decide +kernel))
  have early : ¬ (x.t : Int) * 2 ^ 32 < y.playAt n y.now := by
    rw [now, playAt_keeps heard]
    omega
  have e : s.takeSample n x = { y with
      streams := tset [] y.streams n (pruneSamples (y.playAt n (y.rdN .PASS_MARK_TIME 0)) (insertSample x (s.samples n))) } := by
    unfold State.takeSample
    dsimp only
    rw [unheld]
    exact if_neg early
  rw [e]
  refine ⟨?_, State.rd_wr_same (s.sampleCounted n x) .srcLost n 0⟩
  rw [State.samples, tget_tset, if_pos rfl]
  exact mem_pruneSamples_insert newest _

/-- The sample of one follower leaves another's alone. -/
theorem takeSample_other {k : Nat} (apart : k ≠ n) :
    (s.takeSample n x).samples k = s.samples k ∧ (s.takeSample n x).rd .srcLost k = s.rd .srcLost k := by
  let y := s.sampleHeard n x
  have held : y.samples k = s.samples k := congrArg (tget [] · k) ((sampleHeard_keeps s n x).streams (by decide +kernel))
  have found : y.rd .srcLost k = s.rd .srcLost k := by
    have unwritten : y.rd .srcLost k = (s.sampleCounted n x).rd .srcLost k := by
      simp only [y, State.sampleHeard, State.rd_wr, apart, and_false, if_false]
    rw [unwritten, (sampleCounted_keeps s n x).rd .srcLost k (by decide +kernel)]
  obtain e | e | ⟨l, e⟩ := takeSample_cases s n x <;> rw [e]
  · exact ⟨rfl, rfl⟩
  · have counted : Keeps (State.count_may ||| may .STREAM_LATE) y (y.count .STREAM_LATE n) := count_keeps _ _ _ _ (keeps_refl _ y)
    exact ⟨(congrArg (tget [] · k) (counted.streams (by decide +kernel))).trans held, (counted.rd .srcLost k (by decide +kernel)).trans found⟩
  · exact ⟨(tget_tset_ne _ _ _ _ _ _ apart).trans held, found⟩

end

-- all followers

/-- Followers that are not `n` leave the samples of `n` alone. -/
theorem takeSamples_other {s : State} {n : Nat} {l : List Nat} (hn : n ∉ l) (x : Sample) :
    (s.forList l (fun s k => s.takeSample k x)).samples n = s.samples n ∧
      (s.forList l (fun s k => s.takeSample k x)).rd .srcLost n = s.rd .srcLost n := by
  induction l generalizing s with
  | nil => exact ⟨rfl, rfl⟩
  | cons k l ih =>
    obtain ⟨apart, rest⟩ := List.ne_and_not_mem_of_not_mem_cons hn
    obtain ⟨samples, lost⟩ := takeSample_other (s := s) (x := x) apart
    obtain ⟨samples', lost'⟩ := ih (s := s.takeSample k x) rest
    exact ⟨samples'.trans samples, lost'.trans lost⟩

/-- Each of the followers takes the sample. -/
theorem takeSamples_join {s : State} {n : Nat} {l : List Nat} {x : Sample} (once : l.Nodup) (hn : n ∈ l) (newest : ∀ y ∈ s.samples n, y.t < x.t)
    (due : s.playAt n s.now ≤ (x.t : Int) * 2 ^ 32) :
    x ∈ (s.forList l (fun s k => s.takeSample k x)).samples n ∧ (s.forList l (fun s k => s.takeSample k x)).rd .srcLost n = 0 := by
  induction l generalizing s with
  | nil => exact nomatch hn
  | cons k l ih =>
    obtain ⟨notMem, once⟩ := List.nodup_cons.mp once
    by_cases e : n = k
    · subst e
      obtain ⟨joined, found⟩ := takeSample_joins newest due
      obtain ⟨samples, lost⟩ := takeSamples_other (s := s.takeSample n x) notMem x
      exact ⟨samples ▸ joined, lost.trans found⟩
    · have kept := takeSample_keeps (M := State.takeSample_may) k x (keeps_refl _ s)
      have now : (s.takeSample k x).now = s.now := congrArg Int.toNat (kept.rd .DEVICE_TIME 0 (by decide +kernel))
      refine ih once (List.mem_of_ne_of_mem e hn) ?_ ?_
      · rwa [(takeSample_other e).1]
      · rwa [playAt_keeps kept, now]

-- the notice

/-- The registers that say which streams an axis follows (R306). -/
def followRegs : List Reg := [.FOLLOW_SOURCE, .SOURCE_NODE, .SOURCE_NUM]

theorem noteFollowers_keeps {m : Nat} {s t : State} (k : Keeps m s t) (f : Frame)
    (hm : ∀ r ∈ followRegs, m.testBit r.ctorIdx = false := by decide +kernel) : t.noteFollowers f = s.noteFollowers f := by
  have e (r : Reg) (hr : r ∈ followRegs) (i : Nat) : t.rd r i = s.rd r i := k.rd r i (hm r hr)
  simp only [State.noteFollowers, State.rdN, e .FOLLOW_SOURCE (by decide), e .SOURCE_NODE (by decide), e .SOURCE_NUM (by decide)]
  rfl

theorem noteFollowers_nodup (s : State) (f : Frame) : (s.noteFollowers f).Nodup := by
  unfold State.noteFollowers
  split
  · exact List.nodup_range.filter _
  · exact List.nodup_nil

/-- The module with a notice delivered to it. -/
def State.delivered (s : State) (p : Nat) (f : Frame) : State := (s.through 67 f).1.traceFrame p 1 f.src f false

def delivered_may : Nat := State.through_may ||| State.traceFrame_may

theorem delivered_keeps (s : State) (p : Nat) (f : Frame) : Keeps delivered_may s (s.delivered p f) :=
  traceFrame_keeps p 1 f.src f false (through_keeps 67 f (keeps_refl _ s))

theorem delivered_queues (s : State) (p : Nat) (f : Frame) : State.QueuesBut [67, 73] s (s.delivered p f) :=
  (through_queues s f).traceIf 4 _ _

/-- A notice that has followers goes to each of them and is counted. -/
theorem takeNote_of_room {s : State} {p : Nat} {f : Frame} (followed : s.noteFollowers f ≠ []) (room : s.Room 67 (.frame f)) :
    s.takeNote p f true =
      ((s.delivered p f).forList (s.noteFollowers f) (fun s n => s.takeSample n (noteSample f))).count .NOTES_TAKEN 0 1 64 := by
  have taken := through_taken (by decide) room
  unfold State.takeNote State.delivered
  dsimp only
  rw [if_neg (by simpa using followed)]
  generalize s.through 67 f = r at taken
  obtain ⟨x, b⟩ := r
  cases taken
  rfl

section
variable {s : State} {p : Fin 2} {f : Frame} (h : s.Arrives p f) (own : s.isOwn f.dest = false) (broadcast : f.dest ≠ 0xFFFE)
  (head : s.served ≠ some f.dest) (note : f.op = opNote) (room : s.Room 67 (.frame f)) (below : s.rd .NOTES_TAKEN 0 + 1 < 2 ^ 64)
  (followed : s.noteFollowers f ≠ []) (hop : Nat)
include h own broadcast head note room below followed

/-- A subscribed NOTE is counted, and its sample joins those of each follower that has none as new and has not yet played past it (R306). -/
theorem gorge_takes_note : (s.gorge p f true hop).rd .NOTES_TAKEN 0 = s.rd .NOTES_TAKEN 0 + 1 ∧
    ∀ n ∈ s.noteFollowers f, (∀ y ∈ s.samples n, y.t < (noteSample f).t) → s.playAt n s.now ≤ ((noteSample f).t : Int) * 2 ^ 32 →
      noteSample f ∈ (s.gorge p f true hop).samples n ∧ (s.gorge p f true hop).rd .srcLost n = 0 := by
  have swept (x : State) : x.swept p f = (x, f) := by
    have other : isSweep f = false := by simp [isSweep, note, opNote, opSweep]
    unfold State.swept State.sweepPass
    rw [other]
    exact ite_self _
  let x := s.arrived p f
  let y := x.delivered p f
  let z := y.forList (s.noteFollowers f) (fun s n => s.takeSample n (noteSample f))
  have arrived : Keeps arrived_may s x := arrived_keeps s p f
  have kept : Keeps (arrived_may ||| delivered_may) s y :=
    (arrived.mono (by decide +kernel)).trans ((delivered_keeps x p f).mono (by decide +kernel))
  have sampled : Keeps State.takeSample_may y z := keeps_forList (keeps_refl _ y) (fun _ n g => takeSample_keeps n (noteSample f) g)
  have followers : x.noteFollowers f = s.noteFollowers f := noteFollowers_keeps arrived f
  have roomy : x.Room 67 (.frame f) := room_keeps room arrived ((arrived_queues s p f).queue 67 (by simp; omega))
  have gorge : s.gorge p f true hop = (z.count .NOTES_TAKEN 0 1 64).forward p f false hop := by
    rw [gorge_passes h own broadcast head hop, swept, takeNote_of_room (by rwa [followers]) roomy, followers]
  have passed : Keeps (may .NOTES_TAKEN ||| State.count_may ||| State.forward_may) z (s.gorge p f true hop) := by
    rw [gorge]
    exact forward_keeps p f false hop (count_keeps .NOTES_TAKEN 0 1 64 (keeps_refl _ z))
  have sum : z.rd .NOTES_TAKEN 0 = s.rd .NOTES_TAKEN 0 := by
    rw [sampled.rd .NOTES_TAKEN 0 (by decide +kernel), kept.rd .NOTES_TAKEN 0 (by decide +kernel)]
  refine ⟨?_, fun n hn newest due => ?_⟩
  · have counted : z.count .NOTES_TAKEN 0 1 64 = z.wr .NOTES_TAKEN 0 (z.rd .NOTES_TAKEN 0 + 1) := if_pos (by rw [sum]; exact below)
    rw [gorge, (forward_keeps (M := State.forward_may) p f false hop (keeps_refl _ _)).rd .NOTES_TAKEN 0 (by decide +kernel), counted,
      State.rd_wr_same, sum]
  · have held : y.samples n = s.samples n := congrArg (tget [] · n) (kept.streams (by decide +kernel))
    have now : y.now = s.now := congrArg Int.toNat (kept.rd .DEVICE_TIME 0 (by decide +kernel))
    obtain ⟨joined, found⟩ := takeSamples_join (s := y) (noteFollowers_nodup s f) hn (by rwa [held]) (by rwa [now, playAt_keeps kept])
    have samples : (s.gorge p f true hop).samples n = z.samples n := congrArg (tget [] · n) (passed.streams (by decide +kernel))
    exact ⟨samples ▸ joined, (passed.rd .srcLost n (by decide +kernel)).trans found⟩

end

end Sys2Proof.Machine
end

section
/-! PROOFS. TIME distribution frames (O41; R303, R304, R365, R366), and O41 itself. -/
namespace Sys2Proof.Machine

set_option Elab.async false

-- the active head

/-- The lowest head heard within a second is the active one (R303). -/
theorem findHead_lowest {s : State} {h : Nat} (hh : h < 4) (heard : s.rd .headAt h = (s.now : Int) + 1)
    (lower : ∀ k, k < h → s.rd .headAt k = 0 ∨ s.rdN .headAt k + second ≤ s.now + 1) : s.findHead = s.wr .TIME_HEAD 0 h := by
  have found : (List.range 4).find? (fun k => s.rd .headAt k ≠ 0 && decide (s.now + 1 < s.rdN .headAt k + second)) = some h := by
    rw [List.find?_range_eq_some]
    refine ⟨?_, List.mem_range.mpr hh, fun k hk => ?_⟩
    · have late : s.rdN .headAt h = s.now + 1 := by rw [State.rdN, heard]; rfl
      have some : (s.now : Int) + 1 ≠ 0 := by omega
      simp [heard, late, some, second]
    · rcases lower k hk with silent | old
      · simp [silent]
      · simp [Nat.not_lt.mpr old]
  unfold State.findHead
  rw [found]

-- ring time

/-- A step of the estimate leaves ring time in state 1 (R365, R366). -/
theorem stepRing_state (s : State) (e : Int) : (s.stepRing e).rd .SYNC_STATE 0 = 1 := by
  unfold State.stepRing
  extract_lets x a y z
  have past : Keeps State.stepPast_may z (z.iff (0 < e) (fun s => s.stepPast a s.ring)) :=
    keeps_iff (keeps_refl _ z) (fun w g => stepPast_keeps a w.ring g)
  rw [past.rd .SYNC_STATE 0 (by decide +kernel)]
  simp [z, State.rd_wr]

/-- What a usable frame changes of the estimate. -/
def timeSteered_may : Nat := State.stepRing_may ||| State.slewRing_may ||| State.slewState_may

/-- What a usable frame changes up to the estimate. -/
def timeTaken_may : Nat := may .TIME_FRAMES ||| may .RT_ERROR ||| may .LAST_TIME_FRAME ||| State.draw_may ||| State.count_may ||| timeSteered_may

/-- What looks at the estimate once it has been brought up. -/
def timeSeen_may : Nat := State.followTrim_may ||| State.checkSync_may ||| State.pollWaits_may

/-- A usable frame is counted with its time, steers the estimate, and what depends on the estimate looks at it. -/
theorem useTime_steps (s : State) (p : Nat) (f : Frame) (x : Nat) (below : s.rd .TIME_FRAMES 0 + 1 < 2 ^ 64) :
    ∃ y, s.useTime p f x = y.followTrim.checkSync.pollWaits ∧ Keeps timeTaken_may s y ∧
      y.rd .TIME_FRAMES 0 = s.rd .TIME_FRAMES 0 + 1 ∧ y.rd .LAST_TIME_FRAME 0 = s.now ∧ (s.rd .SYNC_STATE 0 = 0 → y.rd .SYNC_STATE 0 = 1) := by
  unfold State.useTime
  extract_lets e ns s1 s2 dt s3 s4
  have counted : s1 = s.wr .TIME_FRAMES 0 (s.rd .TIME_FRAMES 0 + 1) := if_pos below
  have erred : Keeps (State.draw_may ||| may .RT_ERROR) s1 s2 :=
    keeps_ite (keeps_wr (keeps_refl _ s1) .RT_ERROR 0 _ (by decide +kernel))
      (keeps_wr (draw_keeps 32 (keeps_refl _ s1)) .RT_ERROR 0 _ (by decide +kernel))
  have steered : Keeps timeSteered_may s3 s4 :=
    keeps_ite (stepRing_keeps e (keeps_refl _ s3)) (slewState_keeps e (slewRing_keeps e dt (keeps_refl _ s3)))
  have noted : Keeps (may .TIME_FRAMES) s s1 := counted ▸ keeps_wr (keeps_refl _ s) .TIME_FRAMES 0 _ (by decide +kernel)
  have before : Keeps timeTaken_may s s2 := (noted.mono (by decide +kernel)).trans (erred.mono (by decide +kernel))
  have now : s2.now = s.now := congrArg Int.toNat (before.rd .DEVICE_TIME 0 (by decide +kernel))
  have timed : Keeps timeTaken_may s s3 := keeps_wr before .LAST_TIME_FRAME 0 _ (by decide +kernel)
  refine ⟨s4, rfl, timed.trans (steered.mono (by decide +kernel)), ?_, ?_, fun free => ?_⟩
  · have kept : s3.rd .TIME_FRAMES 0 = s2.rd .TIME_FRAMES 0 := State.rd_wr_ne _ 0 0 _ (by decide)
    rw [steered.rd .TIME_FRAMES 0 (by decide +kernel), kept, erred.rd .TIME_FRAMES 0 (by decide +kernel), counted, State.rd_wr_same]
  · have written : s3.rd .LAST_TIME_FRAME 0 = s2.now := State.rd_wr_same ..
    rw [steered.rd .LAST_TIME_FRAME 0 (by decide +kernel), written, now]
  · have still : s3.rd .SYNC_STATE 0 = 0 := by
      have kept : s3.rd .SYNC_STATE 0 = s2.rd .SYNC_STATE 0 := State.rd_wr_ne _ 0 0 _ (by decide)
      rw [kept, erred.rd .SYNC_STATE 0 (by decide +kernel), noted.rd .SYNC_STATE 0 (by decide +kernel), free]
    have stepped : s4 = s3.stepRing e := if_pos (by rw [still]; rfl)
    rw [stepped, stepRing_state]

theorem timeSeen_keeps (y : State) : Keeps timeSeen_may y y.followTrim.checkSync.pollWaits :=
  pollWaits_keeps (checkSync_keeps (followTrim_keeps (keeps_refl _ y)))

theorem timeSeen_queues (y : State) : State.QueuesBut recordQueues y y.followTrim.checkSync.pollWaits :=
  (((queuesBut_refl _ y).keeps (followTrim_keeps (M := State.followTrim_may) (keeps_refl _ y))).trans (checkSync_queues _)).only
    (State.OnlyQueue.pollWaits (fun _ _ => rfl))

-- a frame that is heard

section
variable {s : State} {f : Frame} {h : Nat} (hh : h < 4) (src : f.src = 0x400 + h) (len : f.data.length = 16)
  (below : s.rd .TIME_FRAMES 0 + 1 < 2 ^ 64) (lower : ∀ k, k < h → s.rd .headAt k = 0 ∨ s.rdN .headAt k + second ≤ s.now + 1)
include hh src len below lower

/-- The frame of the lowest head heard within a second is used (R303, R365, R366). -/
theorem hearTime_uses (p x : Nat) : (s.hearTime p f x).rd .TIME_HEAD 0 = h ∧ (s.hearTime p f x).rd .headAt h = (s.now : Int) + 1 ∧
    (s.hearTime p f x).rd .LAST_TIME_FRAME 0 = s.now ∧ (s.hearTime p f x).rd .TIME_FRAMES 0 = s.rd .TIME_FRAMES 0 + 1 ∧
    (s.rd .SYNC_STATE 0 = 0 → (s.hearTime p f x).rd .SYNC_STATE 0 = 1) ∧ State.QueuesBut recordQueues s (s.hearTime p f x) := by
  let y := s.wr .headAt h (s.now + 1 : Nat)
  let z := y.wr .TIME_HEAD 0 h
  have now : y.now = s.now := congrArg Int.toNat (State.rd_wr_ne s h 0 _ (by decide))
  have others (k : Nat) (hk : k < h) : y.rd .headAt k = s.rd .headAt k := by
    rw [State.rd_wr, if_neg (fun e => Nat.ne_of_lt hk e.2)]
  have active : y.findHead = z := by
    refine findHead_lowest hh ?_ fun k hk => ?_
    · rw [State.rd_wr_same, now]
      rfl
    · rw [State.rdN, others k hk, now]
      exact lower k hk
  have noted : Keeps (may .headAt ||| may .TIME_HEAD) s z :=
    keeps_wr (keeps_wr (keeps_refl _ s) .headAt h _ (by decide +kernel)) .TIME_HEAD 0 h (by decide +kernel)
  have sum : z.rd .TIME_FRAMES 0 = s.rd .TIME_FRAMES 0 := noted.rd .TIME_FRAMES 0 (by decide +kernel)
  have cycle : z.now = s.now := congrArg Int.toNat (noted.rd .DEVICE_TIME 0 (by decide +kernel))
  have e : s.hearTime p f x = z.useTime p f (min x (160 * z.now)) := by
    have chosen : z.rdN .TIME_HEAD 0 = h := by rw [State.rdN, State.rd_wr_same, Int.toNat_natCast]
    have head : (!isHead f.src || decide (f.data.length ≠ 16)) = false := by simp [isHead, src, len]; omega
    have number : f.src - 0x400 = h := by omega
    unfold State.hearTime
    dsimp only
    rw [head, number]
    change (if y.findHead.rdN .TIME_HEAD 0 = h then y.findHead.useTime p f (min x (160 * y.findHead.now)) else y.findHead) = _
    rw [active, if_pos chosen]
  obtain ⟨w, used, taken, frames, last, locked⟩ := useTime_steps z p f (min x (160 * z.now)) (by rw [sum]; exact below)
  have seen := timeSeen_keeps w
  have head : w.rd .TIME_HEAD 0 = h := by rw [taken.rd .TIME_HEAD 0 (by decide +kernel), State.rd_wr_same]
  have heard : w.rd .headAt h = (s.now : Int) + 1 := by
    rw [taken.rd .headAt h (by decide +kernel), State.rd_wr_ne y 0 h _ (by decide), State.rd_wr_same]
    rfl
  rw [e, used]
  refine ⟨?_, ?_, ?_, ?_, fun free => ?_, ?_⟩
  · rw [seen.rd .TIME_HEAD 0 (by decide +kernel), head]
  · rw [seen.rd .headAt h (by decide +kernel), heard]
  · rw [seen.rd .LAST_TIME_FRAME 0 (by decide +kernel), last, cycle]
  · rw [seen.rd .TIME_FRAMES 0 (by decide +kernel), frames, sum]
  · rw [seen.rd .SYNC_STATE 0 (by decide +kernel), locked ((noted.rd .SYNC_STATE 0 (by decide +kernel)).trans free)]
  · exact (((queuesBut_refl _ s).keeps noted).keeps taken).trans (timeSeen_queues w)

end

-- a frame on the ring

theorem addDelay_length {s : State} {p hop : Nat} {f : Frame} (len : f.data.length = 16) : (s.addDelay p hop f).data.length = f.data.length := by
  unfold State.addDelay
  rw [if_neg (not_not.mpr len)]
  exact putBytes_length (show 8 + 4 ≤ f.data.length by omega)

theorem addDelay_keeps {m : Nat} {s t : State} (k : Keeps m s t) (p hop : Nat) (f : Frame)
    (hm : m.testBit Reg.LINK_DELAY.ctorIdx = false := by decide +kernel) : t.addDelay p hop f = s.addDelay p hop f := by
  unfold State.addDelay
  rw [State.rdN, k.rd .LINK_DELAY p hm]
  rfl

/-- A TIME frame that comes in at a ring port is delivered and passed on with the delay of this module (R288, R304). -/
theorem timeOnRing_passes {s : State} {p : Fin 2} {f : Frame} (h : s.Arrives p f) (room : s.Room 67 (.frame f)) (hop : Nat) (idle : Bool) (x : Nat) :
    s.timeOnRing p f true hop idle x =
      (((s.arrived p f).delivered p f).hearTime p f x).forward p (s.addDelay p hop f) false (if idle then hop / 160 else 0) := by
  have kept := arrived_keeps s p f
  have roomy : (s.arrived p f).Room 67 (.frame f) := room_keeps room kept ((arrived_queues s p f).queue 67 (by simp; omega))
  have taken := through_taken (by decide) roomy
  unfold State.timeOnRing
  rw [receive_arrived h]
  dsimp only
  rw [lapEnds_arrived h, addDelay_keeps kept, taken]
  rfl

section
variable {s : State} {p : Fin 2} {f : Frame} (arrives : s.Arrives p f) (room : s.Room 67 (.frame f)) {h : Nat} (hh : h < 4)
  (src : f.src = 0x400 + h) (len : f.data.length = 16) (below : s.rd .TIME_FRAMES 0 + 1 < 2 ^ 64)
  (lower : ∀ k, k < h → s.rd .headAt k = 0 ∨ s.rdN .headAt k + second ≤ s.now + 1) (hop : Nat) (idle : Bool) (x : Nat)
include arrives room hh src len below lower

/-- The TIME frame of the lowest head heard within a second is used, and leaves with the delay of this module added (R303, R304, R365). -/
theorem timeOnRing_uses : let u := s.timeOnRing p f true hop idle x
    u.rd .TIME_HEAD 0 = h ∧ u.rd .headAt h = (s.now : Int) + 1 ∧ u.rd .LAST_TIME_FRAME 0 = s.now ∧
      u.rd .TIME_FRAMES 0 = s.rd .TIME_FRAMES 0 + 1 ∧ (s.rd .SYNC_STATE 0 = 0 → u.rd .SYNC_STATE 0 = 1) ∧
      (s.portDown (otherPort p) = false → s.Room (68 + otherPort p) (.frame f) → tget none u.wire (otherPort p) = some (s.addDelay p hop f)) := by
  let y := (s.arrived p f).delivered p f
  let z := y.hearTime p f x
  have kept : Keeps (arrived_may ||| delivered_may) s y :=
    ((arrived_keeps s p f).mono (by decide +kernel)).trans ((delivered_keeps _ p f).mono (by decide +kernel))
  have same (r : Reg) (i : Nat) (hr : (arrived_may ||| delivered_may).testBit r.ctorIdx = false) : y.rd r i = s.rd r i := kept.rd r i hr
  have now : y.now = s.now := congrArg Int.toNat (same .DEVICE_TIME 0 (by decide +kernel))
  have old (k : Nat) (hk : k < h) : y.rd .headAt k = 0 ∨ y.rdN .headAt k + second ≤ y.now + 1 := by
    rw [now, State.rdN, same .headAt k (by decide +kernel)]
    exact lower k hk
  obtain ⟨head, heard, last, frames, locked, queues⟩ :=
    hearTime_uses (s := y) hh src len (by rw [same .TIME_FRAMES 0 (by decide +kernel)]; exact below) old p x
  have sent := forward_keeps (M := State.forward_may) p (s.addDelay p hop f) false (if idle then hop / 160 else 0) (keeps_refl _ z)
  dsimp only
  rw [timeOnRing_passes arrives room hop idle x]
  refine ⟨?_, ?_, ?_, ?_, fun free => ?_, fun up roomy => ?_⟩
  · rw [sent.rd .TIME_HEAD 0 (by decide +kernel), head]
  · rw [sent.rd .headAt h (by decide +kernel), heard, now]
  · rw [sent.rd .LAST_TIME_FRAME 0 (by decide +kernel), last, now]
  · rw [sent.rd .TIME_FRAMES 0 (by decide +kernel), frames, same .TIME_FRAMES 0 (by decide +kernel)]
  · rw [sent.rd .SYNC_STATE 0 (by decide +kernel), locked ((same .SYNC_STATE 0 (by decide +kernel)).trans free)]
  · have le := otherPort_le p
    have all : Keeps (arrived_may ||| delivered_may ||| State.hearTime_may) s z :=
      hearTime_keeps p f x (kept.mono (by decide +kernel))
    have arrived : State.QueuesBut [64, 65, 67, 72, 73, 74] s (s.arrived p f) := by
      refine (queuesBut_refl _ s).trans (arrived_queues s p f) ?_
      intro q hq
      simp only [List.mem_cons, List.not_mem_nil, or_false] at hq ⊢
      omega
    have moved : State.QueuesBut [64, 65, 67, 72, 73, 74] s z := (arrived.trans (delivered_queues _ p f)).trans queues
    refine forward_wire ((portDown_keeps all _).trans up) (room_length (room_keeps roomy all (moved.queue _ ?_)) (addDelay_length len)) false _
    simp only [List.mem_cons, List.not_mem_nil, or_false]
    omega

end

/-- Settles O41: a sweep and a notice are frames that the gorge passes on, with what the module adds or takes on the way; a TIME frame is delivered
and passed on. -/
theorem sweepsNotesAndTimeAreTaken : Obligations.SweepsNotesAndTimeAreTaken := by
  unfold Obligations.SweepsNotesAndTimeAreTaken
  intro t hop p f s0
  dsimp only
  intro awake linked ether version dest src room lap own
  have arrives : (s0.at t).Arrives p f := ⟨awake, linked, ether, version, dest, src, room, lap⟩
  refine ⟨fun sweep broadcast head port up sendRoom => ?_, fun note kind broadcast head noteRoom below followed => ?_,
    fun h stamp idle time kind source hh len steward below lower => ?_⟩
  · subst port
    have run : exec (.sweep t 0 f true hop) s0 = .next ((s0.at t).gorge 0 f true hop) := congrArg Host.Outcome.next (if_pos sweep)
    refine ⟨fun n number small half free below quick => ⟨_, run, ?_⟩, fun enum auto bare small => ?_⟩
    · exact gorge_writes_slot arrives sweep own broadcast head up sendRoom hop number small half free below quick
    · obtain ⟨numbered, g, wire, next⟩ := gorge_numbers arrives sweep own broadcast head up sendRoom hop enum auto bare small
      exact ⟨_, g, run, numbered, wire, next⟩
  · have run : exec (.note t p f true hop) s0 = .next ((s0.at t).gorge p f true hop) :=
      congrArg Host.Outcome.next (if_pos (by simp [note, kind]))
    exact ⟨_, run, gorge_takes_note arrives own broadcast head note noteRoom below followed hop⟩
  · have ring : (p.castLE (by decide) : Fin 3).val ≠ 2 := by
      rw [Fin.val_castLE]
      omega
    have run : exec (.timeDistribution t (p.castLE (by decide)) f true hop idle stamp) s0 =
        .next ((s0.at t).timeOnRing p f true hop idle stamp) := by
      refine congrArg Host.Outcome.next ((if_neg ?_).trans (if_neg ring))
      simp [awake, linked, time, kind]
    exact ⟨_, run, timeOnRing_uses arrives steward hh source len below lower hop idle stamp⟩

end Sys2Proof.Machine
end

section
/-! PROOFS. The registers within which an operation stays (O28): the switches of an axis, the choppers of its phases. -/
namespace Sys2Proof.Machine

set_option Elab.async false

-- the relation

/-- From `s` to `t` no register outside `P` has changed. -/
def State.Within (s t : State) (P : Reg → Nat → Prop) : Prop := ∀ r i, ¬ P r i → t.rd r i = s.rd r i

theorem within_refl (s : State) (P : Reg → Nat → Prop) : s.Within s P := fun _ _ _ => rfl

namespace State.Within

section
variable {P Q : Reg → Nat → Prop} {S s t : State} (h : S.Within s P)
include h

theorem trans (g : s.Within t P) : S.Within t P := fun r i hr => (g r i hr).trans (h r i hr)

theorem mono (hQ : ∀ r i, P r i → Q r i) : S.Within s Q := fun r i hr => h r i (fun e => hr (hQ r i e))

theorem wr {r : Reg} {i : Nat} (v : Int) (hr : P r i) : S.Within (s.wr r i v) P := fun q j hq => by
  rw [State.rd_wr, if_neg (fun e => hq (by rw [e.1, e.2]; exact hr)), h q j hq]

theorem draw (w : Nat) : S.Within (s.draw w).2 P := h

theorem ite {c : Prop} {_ : Decidable c} (g : S.Within t P) : S.Within (if c then s else t) P := by
  split <;> assumption

theorem thenIf {c : Prop} {_ : Decidable c} (g : S.Within s P → S.Within t P) : S.Within (if c then t else s) P := (g h).ite h

theorem elseIf {c : Prop} {_ : Decidable c} (g : S.Within s P → S.Within t P) : S.Within (if c then s else t) P := h.ite (g h)

theorem iff {c : Bool} {f : State → State} (g : ∀ y, S.Within y P → S.Within (f y) P) : S.Within (s.iff c f) P := h.thenIf (g s)

theorem count {r : Reg} {i : Nat} (n w : Nat) (hr : P r i) : S.Within (s.count r i n w) P := (h.wr _ hr).ite ((h.draw w).wr _ hr)

theorem forAll {n : Nat} {f : State → Nat → State} (g : ∀ y j, j < n → S.Within y P → S.Within (f y j) P) : S.Within (s.forAll n f) P :=
  List.foldlRecOn (List.range n) f h (fun y hy j hj => g y j (List.mem_range.mp hj) hy)

/-- The cycle of a command: device time, and what the cycle before it has left. -/
theorem time (k : Nat) (hk : P .DEVICE_TIME 0) : S.Within (s.at k) P := by
  have noted (x : Was) : S.Within { s with was := x } P := h
  exact h.thenIf fun g => (g.ite (noted _)).wr _ hk

/-- A change within a list of registers that `P` allows throughout. -/
theorem onlyRegs {l : List Reg} (g : s.OnlyRegs t l) (hl : ∀ r ∈ l, ∀ i, P r i) : S.Within t P :=
  h.trans fun r i hr => g r i (fun e => hr (hl r e i))

end

end State.Within

-- the registers of a chopper

/-- The registers of the half-bridges of axis `n`. -/
def SwitchOf (n : Nat) (r : Reg) (i : Nat) : Prop := r ∈ switchRegs ∧ i / 4 = n

/-- The objects in which the choppers of an axis count by themselves (R103, R104, R106, R148). -/
def chopCounts : List Reg := [.THRESH_CLAMPS, .WIDEN_EVENTS, .FREQ_CAPS, .OFF_TIMEOUTS, .BOOT_REFRESHES]

/-- The registers of the chopper of phase `ph` of axis `n`: its switches, what it remembers, what it counts. -/
inductive ChopperOf (n ph : Nat) (r : Reg) (i : Nat) : Prop
  | switch (h : SwitchOf n r i)
  | phase (hr : r ∈ phaseRegs) (hi : i = 2 * n + ph)
  | was (hr : r ∈ [Reg.phWas, .phWasAt]) (hi : i / 4 = 2 * n + ph)
  | counts (hr : r ∈ chopCounts) (hi : i = n)
  | cycles (hr : r = .COUNTER) (hi : i = 132 + n)

namespace State.Within

-- switches

theorem switchHb {P : Reg → Nat → Prop} {n hb : Nat} {S s : State} (own : ∀ r ∈ switchRegs, P r (4 * n + hb)) (h : S.Within s P) (c : Nat) :
    S.Within (s.switchHb n hb c) P := by
  unfold State.switchHb
  extract_lets k p x y
  have high : S.Within x P := h.iff fun _ g => g.wr _ (own .swHighOff (by decide))
  have low : S.Within y P := high.iff fun _ g => g.wr _ (own .swLowOff (by decide))
  exact h.ite ((low.wr _ (own .swCmd (by decide))).wr _ (own .swAt (by decide)))

theorem switchAt {P : Reg → Nat → Prop} {n : Nat} {S s : State} (hP : ∀ r i, SwitchOf n r i → P r i) (h : S.Within s P) (c : Nat) :
    S.Within (s.switchAt n c) P := h.forAll fun _ _ hj g => g.switchHb (fun r hr => hP r _ ⟨hr, by omega⟩) c

-- the choppers

section
variable {P : Reg → Nat → Prop} {n ph : Nat} {S s : State} (hP : ∀ r i, ChopperOf n ph r i → P r i) (h : S.Within s P)
include hP h

theorem phase (r : Reg) (v : Int) (hr : r ∈ phaseRegs := by decide) : S.Within (s.wr r (2 * n + ph) v) P := h.wr v (hP _ _ (.phase hr rfl))

theorem flag (b : Nat) (v : Bool) : S.Within (s.wrBit .phFlags (2 * n + ph) b v) P := h.phase hP .phFlags _

theorem was (r : Reg) (v : Int) (k : Nat) (hk : k < 4 := by decide) (hr : r ∈ [Reg.phWas, .phWasAt] := by decide) :
    S.Within (s.wr r (4 * (2 * n + ph) + k) v) P := h.wr v (hP _ _ (.was hr (by omega)))

theorem counted (r : Reg) (k w : Nat) (hr : r ∈ chopCounts := by decide) : S.Within (s.count r n k w) P := h.count k w (hP _ _ (.counts hr rfl))

theorem startRefresh {hb : Nat} (hhb : hb < 4) (t : Nat) : S.Within (s.startRefresh n hb t) P := by
  have own (r : Reg) (hr : r ∈ switchRegs := by decide) : P r (4 * n + hb) := hP _ _ (.switch ⟨hr, by omega⟩)
  have asked := ((h.wr (t + 1 : Nat) (own .refreshAt)).wr 1 (own .refreshOn)).wr 0 (own .refreshWait)
  exact (asked.counted hP .BOOT_REFRESHES 1 32).switchAt (fun r i e => hP r i (.switch e)) _

theorem dueRefresh : S.Within (s.dueRefresh n) P := by
  refine h.forAll fun y hb hhb g => ?_
  have done : S.Within (y.wr .refreshWait (4 * n + hb) 0) P := g.wr 0 (hP _ _ (.switch ⟨by decide, by omega⟩))
  exact g.ite (done.ite ((g.startRefresh hP hhb _).ite g))

theorem turn (st rev c : Nat) : S.Within (s.turn n ph st rev c) P := by
  unfold State.turn
  extract_lets p x y
  have older : S.Within x P :=
    was hP (was hP (was hP (was hP (was hP (was hP h .phWas _ 3) .phWasAt _ 3) .phWas _ 2) .phWasAt _ 2) .phWas _ 1) .phWasAt _ 1
  have left : S.Within y P := was hP (was hP older .phWas _ 0) .phWasAt _ 0
  exact (((left.phase hP .phSince _).phase hP .phState _).phase hP .phRev _).switchAt (fun r i e => hP r i (.switch e)) c

theorem noteClamp (c : Nat) : S.Within (s.noteClamp n ph c) P := by
  unfold State.noteClamp
  extract_lets p r x
  have looked : S.Within x P := h.phase hP .phLook _
  exact thenIf h fun _ => looked.thenIf fun g => (g.flag hP 6 true).counted hP .THRESH_CLAMPS 1 32

theorem cycleDone (len off : Nat) : S.Within (s.cycleDone n ph len off) P := by
  unfold State.cycleDone
  extract_lets p x y z
  have tallied : S.Within x P := h.wr _ (hP _ _ (.cycles rfl rfl))
  have short : S.Within y P := tallied.iff fun _ g => g.phase hP .phShort 1
  have widened : S.Within z P := short.iff fun _ g => (g.phase hP .phW _).counted hP .WIDEN_EVENTS 1 32
  exact widened.thenIf fun g => ((g.phase hP .phRec _).phase hP .phRecOn _).phase hP .phRecOff _

theorem onStart (c : Nat) : S.Within (s.onStart n ph c) P := by
  unfold State.onStart
  extract_lets p on x y r high z
  have begun : S.Within x P := (h.noteClamp hP on).phase hP .phPend 0
  have done : S.Within y P := begun.iff fun _ g => g.cycleDone hP _ _
  exact h.elseIf fun _ => ((done.phase hP .phOnRef _).phase hP .phLook _).phase hP .phFlags _

theorem commandOn (c : Nat) : S.Within (s.commandOn n ph c) P := by
  unfold State.commandOn
  extract_lets p x y z
  have signed : S.Within x P := h.phase hP .phSign _
  have turned : S.Within y P := (signed.turn hP 1 0 c).phase hP .phOnPrev _
  have commanded : S.Within z P := (turned.phase hP .phOnAt _).phase hP .phPend 1
  exact ((commanded.phase hP .phCmd 0).phase hP .phMixEnd 0).onStart hP c

theorem startOn (c : Nat) : S.Within (s.startOn n ph c) P := by
  unfold State.startOn
  extract_lets p keeps dead prev x
  have ended : S.Within x P := h.phase hP .phOffEnd _
  exact ((ended.counted hP .FREQ_CAPS 1 32).phase hP .phCmd _).ite (ended.commandOn hP c)

theorem startOff (st rev c : Nat) : S.Within (s.startOff n ph st rev c) P := by
  unfold State.startOff
  extract_lets p x y
  have dropped : S.Within x P := h.iff fun _ g => (g.phase hP .phPend 0).phase hP .phOnAt _
  have begun : S.Within y P := ((dropped.turn hP st rev c).phase hP .phOffAt _).phase hP .phOffNum _
  exact ((begun.phase hP .phMixEnd 0).phase hP .phCmd 0).flag hP 1 _

theorem reverse (c : Nat) : S.Within (s.reverse n ph c) P := by
  unfold State.reverse
  extract_lets p x
  have turned : S.Within x P := ite (h.startOff hP 3 1 c) ((((h.turn hP 3 1 c).phase hP .phMixEnd 0).phase hP .phCmd 0).flag hP 1 true)
  exact turned.flag hP 3 true

theorem zeroRef (c : Nat) : S.Within (s.zeroRef n ph c) P := by
  unfold State.zeroRef
  extract_lets st z
  exact thenIf h fun _ => (h.startOff hP 2 0 z).ite ((h.turn hP 2 0 z).phase hP .phMixEnd 0)

theorem mixDone (c : Nat) : S.Within (s.mixDone n ph c) P := h.thenIf fun g => (g.turn hP 2 0 _).phase hP .phMixEnd 0

theorem toffDone (c : Nat) : S.Within (s.toffDone n ph c) P := by
  unfold State.toffDone
  extract_lets p x e y
  have counted : S.Within y P := h.iff fun _ g => g.counted hP .OFF_TIMEOUTS 1 32
  exact h.thenIf fun _ => h.elseIf fun _ => (counted.flag hP 2 true).startOn hP e

theorem capDone (c : Nat) : S.Within (s.capDone n ph c) P := h.thenIf fun g => (g.phase hP .phCmd 0).ite (g.commandOn hP _)

theorem settlePhase (c : Nat) : S.Within (s.settlePhase n ph c) P := by
  have off := ((h.onStart hP c).zeroRef hP c).mixDone hP c
  exact h.elseIf fun _ => (((off.toffDone hP c).capDone hP c).onStart hP c).noteClamp hP c

theorem openPhase : S.Within (s.openPhase n ph) P := by
  unfold State.openPhase
  extract_lets p x
  have opened : S.Within x P := ((h.turn hP 0 0 _).phase hP .phSign 0).phase hP .phFlags 0
  exact ((opened.phase hP .phPend 0).phase hP .phCmd 0).phase hP .phMixEnd 0

theorem enablePhase : S.Within (s.enablePhase n ph) P := h.elseIf fun g => (g.startOff hP 2 0 _).ite (g.startOn hP _)

theorem chopEvent {t : Nat} {f : State → State} (hat : P .DEVICE_TIME 0) (hf : ∀ y, S.Within y P → S.Within (f y) P) :
    S.Within (s.chopEvent t n ph f) P := by
  unfold State.chopEvent
  extract_lets x y
  have timed : S.Within (s.at t) P := h.time t hat
  have settled : S.Within y P := (timed.dueRefresh hP).settlePhase hP _
  exact (settled.reverse hP _).ite (hf y settled)

theorem peak (hearly : P .EARLY_TRIPS n) : S.Within (s.peak n ph) P := by
  unfold State.peak
  extract_lets p c clear x y mix fast
  have noted : S.Within x P := (h.phase hP .phPeak 1).phase hP .phTon _
  have early : S.Within y P := noted.iff fun _ g => (g.count 1 32 hearly).flag hP 2 true
  exact thenIf h fun _ => (early.startOff hP _ 0 c).iff fun _ g => g.phase hP .phMixEnd _

end

end State.Within

-- the events of a chopper

/-- The registers that an event of phase `ph` of axis `n` may change. -/
inductive ChopEventOf (n ph : Nat) (r : Reg) (i : Nat) : Prop
  | time (hr : r = .DEVICE_TIME)
  | early (hr : r = .EARLY_TRIPS) (hi : i = n)
  | chopper (h : ChopperOf n ph r i)

section
variable {t : Nat} {n : Fin 64} {ph : Fin 2} {e : Instr} {s u : State}
  (he : e ∈ [.chopperPeak t n ph, .chopperValley t n ph, .offTimeMax t n ph, .refSignChange t n ph, .fastBelowTwoCodes t n ph])
  (run : exec e s = .next u)
include he run

/-- Each event is what the chopper does by itself, then a reversal or the event's own step. -/
theorem chopEvent_within : s.Within u (ChopEventOf n ph) := by
  have own : ∀ r i, ChopperOf n ph r i → ChopEventOf n ph r i := fun _ _ => .chopper
  have same := within_refl s (ChopEventOf n ph)
  simp only [List.mem_cons, List.not_mem_nil, or_false] at he
  rcases he with rfl | rfl | rfl | rfl | rfl <;> cases run
  case inl => exact same.chopEvent own (.time rfl) fun _ g => g.peak own (.early rfl rfl)
  case inr.inl => exact same.chopEvent own (.time rfl) fun _ g => g.thenIf fun g => g.startOn own _
  case inr.inr.inl => exact same.chopEvent own (.time rfl) fun _ g => g
  case inr.inr.inr.inl => exact same.chopEvent own (.time rfl) fun _ g => g
  case inr.inr.inr.inr =>
    refine same.chopEvent own (.time rfl) fun y g => g.thenIf fun g => ?_
    exact ((g.turn own 2 0 _).phase own .phMixEnd 0).ite (g.thenIf fun g => g.startOn own _)

/-- An event of a chopper changes registers, and no table. -/
theorem chopEvent_rest : { u with regs := s.regs, freeCtr := s.freeCtr, was := s.was } = s := by
  have same := keeps_refl (mayAll ||| may_freeCtr ||| may_was) s
  have kept : Keeps (mayAll ||| may_freeCtr ||| may_was) s u := by
    simp only [List.mem_cons, List.not_mem_nil, or_false] at he
    rcases he with rfl | rfl | rfl | rfl | rfl
    · exact (execChopperPeak_keeps t n ph same).next u run
    · exact (execChopperValley_keeps t n ph same).next u run
    · exact (execOffTimeMax_keeps t n ph same).next u run
    · exact (execRefSignChange_keeps t n ph same).next u run
    · exact (execFastBelowTwoCodes_keeps t n ph same).next u run
  have rest := kept.logOnly
  unfold State.LogOnly at rest
  rwa [← kept.queues (by decide +kernel), ← kept.log (by decide +kernel), ← kept.opens (by decide +kernel), ← kept.shadows (by decide +kernel),
    ← kept.fresh (by decide +kernel), ← kept.freshAt (by decide +kernel)] at rest

end

end Sys2Proof.Machine
end

section
/-! PROOFS. What an overcurrent and the bootstrap protections of an axis leave alone, and O28 itself. -/
namespace Sys2Proof.Machine

set_option Elab.async false

/-- The registers of an axis that its protections write, and those in which its choppers count. -/
def protectRegs : List Reg :=
  [.BRIDGE_FAULT, .FAULT_SWITCHES, .OC_COUNT, .BOOT_REFRESHES, .BOOT_MIN, .DRIVE_STATE, .DEV_VALID, .WIDEN_EVENTS, .FREQ_CAPS, .OFF_TIMEOUTS,
    .THRESH_CLAMPS, .faultLatch, .latchAt, .contPend, .prevDrive, .brPersist, .retryAt, .chopFrom, .pulseEnd]

/-- The registers that a protection of axis `n` may change. -/
inductive ProtectOf (n : Nat) (r : Reg) (i : Nat) : Prop
  | chopper (ph : Nat) (hph : ph < 2) (h : ChopperOf n ph r i)
  | own (hr : r ∈ protectRegs) (hi : i = n)
  | fault (hr : r ∈ .DEVICE_TIME :: faultRegs)

namespace State.Within

variable {n : Nat} {S s : State} (h : S.Within s (ProtectOf n))
include h

theorem own (r : Reg) (v : Int) (hr : r ∈ protectRegs := by decide) : S.Within (s.wr r n v) (ProtectOf n) := h.wr v (.own hr rfl)

theorem raised (r : Reg) (m : Nat) (hr : r ∈ protectRegs := by decide) : S.Within (s.raise r n m) (ProtectOf n) := h.own r _ hr

theorem bridgeBit (b : Nat) : S.Within (s.bridgeBit n b) (ProtectOf n) := (h.raised .BRIDGE_FAULT _).own .brPersist _

theorem switched (c : Nat) : S.Within (s.switchAt n c) (ProtectOf n) := h.switchAt (fun _ _ e => .chopper 0 (by decide) (.switch e)) c

theorem detected (b c data : Nat) : S.Within (s.detect b c data) (ProtectOf n) :=
  h.onlyRegs ((detect_keeps b c data false (keeps_refl State.detect_may s) may_self).onlyRegs faultRegs)
    fun _ hr _ => .fault (List.mem_cons_of_mem _ hr)

theorem settleAxis : S.Within (s.settleAxis n) (ProtectOf n) :=
  (((h.dueRefresh (fun _ _ => .chopper 0 (by decide))).settlePhase (fun _ _ => .chopper 0 (by decide)) _).settlePhase
    (fun _ _ => .chopper 1 (by decide)) _)

theorem openPhases : S.Within (s.openPhases n) (ProtectOf n) :=
  (h.openPhase (fun _ _ => .chopper 0 (by decide))).openPhase (fun _ _ => .chopper 1 (by decide))

theorem startPhases : S.Within (s.startPhases n) (ProtectOf n) :=
  h.thenIf fun g => (g.enablePhase (fun _ _ => .chopper 0 (by decide))).enablePhase (fun _ _ => .chopper 1 (by decide))

theorem brakeSync : S.Within (s.brakeSync n) (ProtectOf n) := by
  unfold State.brakeSync
  extract_lets braked x d y z
  have braking : S.Within x (ProtectOf n) := ((h.own .prevDrive _).own .DRIVE_STATE 3).own .DEV_VALID 0
  have back : S.Within y (ProtectOf n) := (h.own .DRIVE_STATE d).own .prevDrive 0
  have restarted : S.Within z (ProtectOf n) := back.iff fun _ g => g.startPhases.own .chopFrom _
  exact ite ((braking.openPhases.raised .BRIDGE_FAULT _).switched _)
    (ite ((restarted.iff fun _ g => g.bridgeBit 12).switched _) (h.switched _))

theorem latch (b : Nat) : S.Within (s.latch n b) (ProtectOf n) := by
  unfold State.latch
  extract_lets x
  have opened : S.Within x (ProtectOf n) := (((h.own .faultLatch 1).own .latchAt _).openPhases).bridgeBit b
  exact (((opened.own .contPend 1).own .pulseEnd 0).brakeSync).detected _ _ _

end State.Within

section
variable {t v : Nat} {n : Fin 64} {hs : Fin 4} {w : Byte} {s u : State}

theorem settled_within (s : State) (t n : Nat) : s.Within ((s.at t).settleAxis n) (ProtectOf n) :=
  ((within_refl s _).time t (.fault List.mem_cons_self)).settleAxis

theorem seenVbs_within (s : State) (t n v : Nat) : s.Within (((s.at t).settleAxis n).seeVbs n v) (ProtectOf n) :=
  (settled_within s t n).own .BOOT_MIN _

theorem protectOf_switch {n hb : Nat} (hhb : hb < 4) (r : Reg) (hr : r ∈ switchRegs := by decide) : ProtectOf n r (4 * n + hb) :=
  .chopper 0 (by decide) (.switch ⟨hr, by omega⟩)

theorem overcurrent_within (run : execOvercurrent t n w s = .next u) : s.Within u (ProtectOf n) := by
  unfold execOvercurrent at run
  extract_lets x now on b y z l at run
  obtain rfl := Host.Outcome.next.inj run
  have settled : s.Within x (ProtectOf n) := settled_within s t n
  have counted : s.Within y (ProtectOf n) :=
    ((settled.own .FAULT_SWITCHES on).count 1 32 (.own (r := .OC_COUNT) (by decide) rfl)).own .chopFrom _
  have retried : s.Within z (ProtectOf n) := counted.thenIf fun g => g.bridgeBit 11
  exact settled.ite ((retried.latch b).own .retryAt _)

theorem bootstrapRefresh_within (run : execBootstrapRefresh t n hs v s = .next u) : s.Within u (ProtectOf n) := by
  unfold execBootstrapRefresh at run
  extract_lets x at run
  obtain rfl := Host.Outcome.next.inj run
  have seen : s.Within x (ProtectOf n) := seenVbs_within s t n v
  exact State.Within.ite (State.Within.ite (seen.startRefresh (fun _ _ => .chopper 0 (by decide)) hs.isLt _) (seen.wr 1 (protectOf_switch hs.isLt .refreshWait))) seen

theorem bootstrapRefreshEnd_within (run : execBootstrapRefreshEnd t n hs v s = .next u) : s.Within u (ProtectOf n) := by
  unfold execBootstrapRefreshEnd at run
  extract_lets x k y at run
  obtain rfl := Host.Outcome.next.inj run
  have seen : s.Within x (ProtectOf n) := seenVbs_within s t n v
  have ended : s.Within y (ProtectOf n) := (seen.wr 0 (protectOf_switch hs.isLt .refreshOn)).switched _
  exact State.Within.ite (ended.thenIf fun g => g.latch 4) seen

theorem bootstrapLow_within (run : execBootstrapLow t n hs v s = .next u) : s.Within u (ProtectOf n) := by
  unfold execBootstrapLow at run
  extract_lets x at run
  obtain rfl := Host.Outcome.next.inj run
  have seen : s.Within x (ProtectOf n) := seenVbs_within s t n v
  exact seen.thenIf fun g => g.latch 4

end

section
variable {t v : Nat} {n : Fin 64} {hs : Fin 4} {w : Byte} {e : Instr} {s u : State}
  (he : e ∈ [.overcurrent t n w, .bootstrapRefresh t n hs v, .bootstrapRefreshEnd t n hs v, .bootstrapLow t n hs v]) (run : exec e s = .next u)
include he run

theorem protection_within : s.Within u (ProtectOf n) := by
  simp only [List.mem_cons, List.not_mem_nil, or_false] at he
  rcases he with rfl | rfl | rfl | rfl
  · exact overcurrent_within run
  · exact bootstrapRefresh_within run
  · exact bootstrapRefreshEnd_within run
  · exact bootstrapLow_within run

theorem protection_logOnly : s.LogOnly u := by
  have same := keeps_refl (mayAll ||| mayLog) s
  have kept : Keeps (mayAll ||| mayLog) s u := by
    simp only [List.mem_cons, List.not_mem_nil, or_false] at he
    rcases he with rfl | rfl | rfl | rfl
    · exact (execOvercurrent_keeps t n w same).next u run
    · exact (execBootstrapRefresh_keeps t n hs v same).next u run
    · exact (execBootstrapRefreshEnd_keeps t n hs v same).next u run
    · exact (execBootstrapLow_keeps t n hs v same).next u run
  exact kept.logOnly

end

/-- What lies within the registers of a protection leaves the bridges of the other axes alone. -/
theorem State.Within.bridgeOf {n : Nat} {s u : State} (h : s.Within u (ProtectOf n)) : s.BridgeOf u n := by
  have phases : ∀ r ∈ phaseRegs, r ∉ switchRegs ∧ r ∉ [Reg.phWas, .phWasAt] ∧ r ∉ chopCounts ∧ r ≠ .COUNTER ∧ r ∉ protectRegs ∧
    r ∉ .DEVICE_TIME :: faultRegs := by decide
  have earlier : ∀ r ∈ [Reg.phWas, .phWasAt], r ∉ switchRegs ∧ r ∉ phaseRegs ∧ r ∉ chopCounts ∧ r ≠ .COUNTER ∧ r ∉ protectRegs ∧
    r ∉ .DEVICE_TIME :: faultRegs := by decide
  have switches : ∀ r ∈ switchRegs, r ∉ phaseRegs ∧ r ∉ [Reg.phWas, .phWasAt] ∧ r ∉ chopCounts ∧ r ≠ .COUNTER ∧ r ∉ protectRegs ∧
    r ∉ .DEVICE_TIME :: faultRegs := by decide
  refine ⟨fun r i hr hi => h r i ?_, fun r i hr hi => h r i ?_, fun r i hr hi => h r i ?_⟩
  · obtain ⟨noSwitch, noWas, noCount, noCycles, noOwn, noFault⟩ := phases r hr
    rintro (⟨ph, hph, (⟨e, -⟩ | ⟨-, e⟩ | ⟨e, -⟩ | ⟨e, -⟩ | ⟨e, -⟩)⟩ | ⟨e, -⟩ | e)
    case chopper.phase => omega
    all_goals contradiction
  · obtain ⟨noSwitch, noPhase, noCount, noCycles, noOwn, noFault⟩ := earlier r hr
    rintro (⟨ph, hph, (⟨e, -⟩ | ⟨e, -⟩ | ⟨-, e⟩ | ⟨e, -⟩ | ⟨e, -⟩)⟩ | ⟨e, -⟩ | e)
    case chopper.was => omega
    all_goals contradiction
  · obtain ⟨noPhase, noWas, noCount, noCycles, noOwn, noFault⟩ := switches r hr
    rintro (⟨ph, hph, (⟨-, e⟩ | ⟨e, -⟩ | ⟨e, -⟩ | ⟨e, -⟩ | ⟨e, -⟩)⟩ | ⟨e, -⟩ | e)
    case chopper.switch => omega
    all_goals contradiction

/-- Settles O28: every register that an event or a protection writes is one of its chopper, its switches, its axis or the fault log. -/
theorem chopperAndProtectionFrame : Obligations.ChopperAndProtectionFrame := by
  unfold Obligations.ChopperAndProtectionFrame
  refine ⟨fun t n ph e s u he run => ⟨fun r i time cycles counts phase was switch => ?_, chopEvent_rest he run⟩,
    fun t n hs v w e s u he run => ?_⟩
  · refine chopEvent_within he run r i ?_
    rintro (hr | ⟨rfl, hi⟩ | ⟨⟨hr, hi⟩ | ⟨hr, hi⟩ | ⟨hr, hi⟩ | ⟨hr, hi⟩ | ⟨hr, hi⟩⟩)
    · exact time hr
    · exact counts ⟨hi, List.mem_cons_self⟩
    · exact switch ⟨hi, hr⟩
    · exact phase ⟨hi, hr⟩
    · exact was ⟨hi, hr⟩
    · exact counts ⟨hi, List.mem_cons_of_mem _ hr⟩
    · exact cycles ⟨hr, hi⟩
  · have within := protection_within he run
    refine ⟨fun r i free own => within r i ?_, within.bridgeOf, protection_logOnly he run⟩
    simp only [List.mem_append, List.mem_singleton, not_or] at free
    have counts : ∀ r ∈ chopCounts, r ∈ protectRegs := by decide
    obtain ⟨⟨⟨⟨noFault, noTime⟩, noPhase⟩, noWas⟩, noSwitch⟩ := free
    rintro (⟨ph, hph, (⟨hr, -⟩ | ⟨hr, -⟩ | ⟨hr, -⟩ | ⟨hr, hi⟩ | ⟨rfl, -⟩)⟩ | ⟨hr, hi⟩ | hr)
    · exact noSwitch hr
    · exact noPhase hr
    · exact noWas hr
    · exact own ⟨counts r hr, hi⟩
    · exact noFault (by decide)
    · exact own ⟨hr, hi⟩
    · rcases List.mem_cons.mp hr with hr | hr
      · exact noTime hr
      · exact noFault hr

end Sys2Proof.Machine
end

section
/-! PROOFS. Accepted writes to the current, load and bridge objects of an axis (O53): those that leave a request for the next pass or mark. -/
namespace Sys2Proof.Machine

set_option Elab.async false

section
variable {s : State} {h : Hdr} {n : Fin 64} {v : Nat}

-- the adaptive offset (R110)

theorem findObj_adaptReset (n : Fin 64) :
    findObj (axisIdx 0x47 n) 5 = some (⟨.ADAPT_RESET, 0x8047, 0x100, 64, 5, 1, .bool, .wo, [(1, 1)]⟩, n.val) := by
  revert n
  decide +kernel

theorem adaptReset_request (k : s.Accepts h (axisIdx 0x47 n) 5 [1]) :
    let u := s.hostWrite h (axisIdx 0x47 n) 5 [1]
    s.Did u h n [.adReset] [] ∧ u.rd .adReset n = 1 := by
  let w := s.taken h opWrite (axisIdx 0x47 n) 5 [1]
  have applied : w.applyWrite ⟨.ADAPT_RESET, 0x8047, 0x100, 64, 5, 1, .bool, .wo, [(1, 1)]⟩ n [1] = (w.wr .adReset n 1, false) := rfl
  exact ⟨did_of_applied k (findObj_adaptReset n) applied ((writes_refl w n _ _).wr .adReset 1),
    rd_applied k (findObj_adaptReset n) applied (State.rd_wr_same ..)⟩

theorem findObj_adaptEnable (n : Fin 64) :
    findObj (axisIdx 0x47 n) 1 = some (⟨.ADAPT_ENABLE, 0x8047, 0x100, 64, 1, 1, .bool, .rw, [(0, 1)]⟩, n.val) := by
  revert n
  decide +kernel

theorem leBytes_bool (hv : v < 256) : Ty.bool.value (leBytes 1 v) = v := leBytes_u8 hv

/-- ADAPT_ENABLE takes its value; an offset that is enabled anew starts from its start value. -/
theorem adaptEnable_request (hv : v < 256) (k : s.Accepts h (axisIdx 0x47 n) 1 (leBytes 1 v)) :
    let u := s.hostWrite h (axisIdx 0x47 n) 1 (leBytes 1 v)
    s.Did u h n [.adReset, .ADAPT_ENABLE] [] ∧ u.rd .ADAPT_ENABLE n = v ∧ (s.rd .ADAPT_ENABLE n = 0 → v = 1 → u.rd .adReset n = 1) := by
  let w := s.taken h opWrite (axisIdx 0x47 n) 1 (leBytes 1 v)
  let x := w.iff (w.rd .ADAPT_ENABLE n = 0 && (v : Int) = 1) (fun y => y.wr .adReset n 1)
  have applied : w.applyWrite ⟨.ADAPT_ENABLE, 0x8047, 0x100, 64, 1, 1, .bool, .rw, [(0, 1)]⟩ n (leBytes 1 v) = (x.wr .ADAPT_ENABLE n v, false) := by
    show ((w.iff (w.rd .ADAPT_ENABLE n = 0 && Ty.bool.value _ = 1) (fun y => y.wr .adReset n 1)).wr .ADAPT_ENABLE n (Ty.bool.value _), false) = _
    rw [leBytes_bool hv]
  have own := writes_refl w n [.adReset, .ADAPT_ENABLE] []
  have asked : w.Writes x n [.adReset, .ADAPT_ENABLE] [] := (own.wr .adReset 1).ite own
  refine ⟨did_of_applied k (findObj_adaptEnable n) applied (asked.wr .ADAPT_ENABLE v), ?_, fun off on => ?_⟩
  · exact rd_applied k (findObj_adaptEnable n) applied (State.rd_wr_same ..)
  · have resets : x = w.wr .adReset n 1 := if_pos (by simp [on, (taken_rd _ _ _ _ _ .ADAPT_ENABLE n).trans off, w])
    exact rd_applied k (findObj_adaptEnable n) applied (by rw [resets, State.rd_wr_ne _ _ _ _ (by decide), State.rd_wr_same])

-- learning (R123, R124)

theorem findObj_learnStart (n : Fin 64) :
    findObj (axisIdx 0x62 n) 12 = some (⟨.LEARN_START, 0x8062, 0x100, 64, 12, 1, .u8, .wo, [(0, 1)]⟩, n.val) := by
  revert n
  decide +kernel

/-- What LEARN_START 1 writes: its result, the excursion, the conditions and the run itself; the entries are cleared. -/
theorem learnAsk_writes (w : State) (n : Nat) : w.Writes (w.learnAsk n) n [.LEARN_RESULT, .LEARN_EXCURSION, .lnCond, .lnOn] [.lnEntry] := by
  unfold State.learnAsk
  extract_lets x y
  have own : w.Writes y n [.LEARN_RESULT, .LEARN_EXCURSION, .lnCond, .lnOn] [.lnEntry] :=
    ((((writes_refl w n _ _).wr .LEARN_RESULT 1).wr .LEARN_EXCURSION _).wr .lnCond _).wr .lnOn 1
  exact own.keeps (keeps_forAll (m := may .lnEntry) (keeps_refl _ y) fun _ _ g => keeps_wr g _ _ _ may_self)

theorem learnAsk_shows (w : State) (n : Nat) : (w.learnAsk n).rd .lnOn n = 1 ∧ (w.learnAsk n).rd .LEARN_RESULT n = 1 := by
  unfold State.learnAsk
  extract_lets x y
  have cleared : Keeps (may .lnEntry) y (y.forAll 16 (fun z k => z.wr .lnEntry (16 * n + k) 0)) :=
    keeps_forAll (keeps_refl _ y) fun _ _ g => keeps_wr g _ _ _ may_self
  rw [cleared.rd .lnOn n (by decide +kernel), cleared.rd .LEARN_RESULT n (by decide +kernel)]
  refine ⟨State.rd_wr_same .., ?_⟩
  rw [State.rd_wr_ne _ _ _ _ (by decide), State.rd_wr_ne _ _ _ _ (by decide), State.rd_wr_ne _ _ _ _ (by decide), State.rd_wr_same]

theorem learnStart_request (k : s.Accepts h (axisIdx 0x62 n) 12 [1]) :
    let u := s.hostWrite h (axisIdx 0x62 n) 12 [1]
    s.Did u h n [.LEARN_RESULT, .LEARN_EXCURSION, .lnCond, .lnOn] [.lnEntry] ∧ u.rd .lnOn n = 1 ∧ u.rd .LEARN_RESULT n = 1 := by
  let w := s.taken h opWrite (axisIdx 0x62 n) 12 [1]
  have applied : w.applyWrite ⟨.LEARN_START, 0x8062, 0x100, 64, 12, 1, .u8, .wo, [(0, 1)]⟩ n [1] = (w.learnAsk n, false) := rfl
  obtain ⟨runs, result⟩ := learnAsk_shows w n
  exact ⟨did_of_applied k (findObj_learnStart n) applied (learnAsk_writes w n), rd_applied k (findObj_learnStart n) applied runs,
    rd_applied k (findObj_learnStart n) applied result⟩

/-- The end of a learning run without its entries is latched as a cause of its axis. -/
theorem learnEnd_latches (w : State) (n r : Nat) : (w.learnEnd n r).bit .CAUSES_LATCHED (blkAxis n) 0x17 = true := by
  let x := ((w.wr .lnOn n 0).wr .lnGo n 0).wr .LEARN_RESULT n r
  let y := x.detect (blkAxis n) 0x17
  have stops : Keeps (State.setAxis_may ||| may .stopPend ||| may .stopAt) y (w.learnEnd n r) :=
    keeps_ite (keeps_refl _ y) (keeps_ite (setAxis_keeps n 1 (keeps_refl _ y))
      (keeps_wr (keeps_wr (keeps_refl _ y) .stopPend n 1 (by decide +kernel)) .stopAt n _ (by decide +kernel)))
  exact (State.bit_congr (stops.rd .CAUSES_LATCHED _ (by decide +kernel)) _).trans (detect_latches ..)

theorem learnAbort_request (k : s.Accepts h (axisIdx 0x62 n) 12 [0]) :
    let u := s.hostWrite h (axisIdx 0x62 n) 12 [0]
    u.Answers h 0 [] ∧
      (s.rd .lnOn n ≠ 0 → u.rd .lnOn n = 0 ∧ u.rd .LEARN_RESULT n = 3 ∧ u.bit .CAUSES_LATCHED (blkAxis n) 0x17 = true) ∧
      (s.rd .lnOn n = 0 → s.Did u h n [] []) := by
  let w := s.taken h opWrite (axisIdx 0x62 n) 12 [0]
  have applied : w.applyWrite ⟨.LEARN_START, 0x8062, 0x100, 64, 12, 1, .u8, .wo, [(0, 1)]⟩ n [0] =
      (if w.rd .lnOn n = 0 then w else w.learnEnd n 3, false) := rfl
  have same : w.rd .lnOn n = s.rd .lnOn n := taken_rd _ _ _ _ _ .lnOn n
  obtain ⟨answer, -, -⟩ := hostWrite_applied k (findObj_learnStart n) applied
  refine ⟨answer, fun runs => ?_, fun idle => ?_⟩
  · rw [if_neg (same.trans_ne runs)] at applied
    obtain ⟨result, ended, -⟩ := learnEnd_shows w n 3
    exact ⟨rd_applied k (findObj_learnStart n) applied ended, rd_applied k (findObj_learnStart n) applied result,
      (State.bit_congr (rd_applied k (findObj_learnStart n) applied rfl) _).trans (learnEnd_latches w n 3)⟩
  · rw [if_pos (same.trans idle)] at applied
    exact did_of_applied k (findObj_learnStart n) applied (writes_refl w n [] [])

-- requests that the next mark takes (R129, R145, R146, R156)

theorem findObj_stallRelease (n : Fin 64) :
    findObj (axisIdx 0x65 n) 6 = some (⟨.STALL_RELEASE, 0x8065, 0x100, 64, 6, 1, .bool, .wo, [(1, 1)]⟩, n.val) := by
  revert n
  decide +kernel

theorem stallRelease_request (k : s.Accepts h (axisIdx 0x65 n) 6 [1]) :
    let u := s.hostWrite h (axisIdx 0x65 n) 6 [1]
    s.Did u h n [.stallRel] [] ∧ (s.rd .AXIS_STATE n = 5 → u.rd .stallRel n = 1) := by
  let w := s.taken h opWrite (axisIdx 0x65 n) 6 [1]
  have applied : w.applyWrite ⟨.STALL_RELEASE, 0x8065, 0x100, 64, 6, 1, .bool, .wo, [(1, 1)]⟩ n [1] =
      (if w.rd .AXIS_STATE n = 5 then w.wr .stallRel n 1 else w, false) := rfl
  have own := writes_refl w n [.stallRel] []
  refine ⟨did_of_applied k (findObj_stallRelease n) applied ((own.wr .stallRel 1).ite own), fun stalled => ?_⟩
  exact rd_applied k (findObj_stallRelease n) applied (by rw [if_pos ((taken_rd ..).trans stalled), State.rd_wr_same])

theorem findObj_rearm (n : Fin 64) :
    findObj (axisIdx 0x76 n) 1 = some (⟨.REARM, 0x8076, 0x100, 64, 1, 1, .bool, .wo, [(1, 1)]⟩, n.val) := by
  revert n
  decide +kernel

theorem rearm_request (k : s.Accepts h (axisIdx 0x76 n) 1 [1]) :
    let u := s.hostWrite h (axisIdx 0x76 n) 1 [1]
    s.Did u h n [.rearmPend] [] ∧ (s.rd .AXIS_STATE n = 6 → u.rd .rearmPend n = 1) := by
  let w := s.taken h opWrite (axisIdx 0x76 n) 1 [1]
  have applied : w.applyWrite ⟨.REARM, 0x8076, 0x100, 64, 1, 1, .bool, .wo, [(1, 1)]⟩ n [1] =
      (if w.rd .AXIS_STATE n = 6 then w.wr .rearmPend n 1 else w, false) := rfl
  have own := writes_refl w n [.rearmPend] []
  refine ⟨did_of_applied k (findObj_rearm n) applied ((own.wr .rearmPend 1).ite own), fun contained => ?_⟩
  exact rd_applied k (findObj_rearm n) applied (by rw [if_pos ((taken_rd ..).trans contained), State.rd_wr_same])

theorem findObj_driveCtrl (n : Fin 64) :
    findObj (axisIdx 0x70 n) 2 = some (⟨.DRIVE_CTRL, 0x8070, 0x100, 64, 2, 1, .u8, .wo, [(0, 1)]⟩, n.val) := by
  revert n
  decide +kernel

theorem driveEnable_request (k : s.Accepts h (axisIdx 0x70 n) 2 [1]) :
    let u := s.hostWrite h (axisIdx 0x70 n) 2 [1]
    s.Did u h n [.drivePend] [] ∧ (s.rd .AXIS_STATE n = 7 → u.rd .drivePend n = 1) := by
  let w := s.taken h opWrite (axisIdx 0x70 n) 2 [1]
  have applied : w.applyWrite ⟨.DRIVE_CTRL, 0x8070, 0x100, 64, 2, 1, .u8, .wo, [(0, 1)]⟩ n [1] =
      (if w.rd .AXIS_STATE n = 7 then w.wr .drivePend n 1 else w, false) := rfl
  have own := writes_refl w n [.drivePend] []
  refine ⟨did_of_applied k (findObj_driveCtrl n) applied ((own.wr .drivePend 1).ite own), fun disabled => ?_⟩
  exact rd_applied k (findObj_driveCtrl n) applied (by rw [if_pos ((taken_rd ..).trans disabled), State.rd_wr_same])

/-- DRIVE_CTRL 0 writes its request, and asks an axis in motion to stop first. -/
theorem askDisable_writes (w : State) (n : Nat) : w.Writes (w.askDisable n) n [.disPend, .stopPend, .stopAt] [] := by
  have own := writes_refl w n [.disPend, .stopPend, .stopAt] []
  unfold State.askDisable
  split
  · exact own.wr .disPend 1
  · exact own.wr .disPend 1
  · exact own.wr .disPend 1
  · exact ((own.wr .disPend 2).wr .stopPend 1).wr .stopAt _
  · exact ((own.wr .disPend 2).wr .stopPend 1).wr .stopAt _
  · exact ((own.wr .disPend 2).wr .stopPend 1).wr .stopAt _
  · exact (own.wr .disPend 3).ite own
  · exact own

theorem askDisable_rests {w : State} {n : Nat} (rests : w.rd .AXIS_STATE n = 0 ∨ w.rd .AXIS_STATE n = 1 ∨ w.rd .AXIS_STATE n = 5) :
    w.askDisable n = w.wr .disPend n 1 := by
  rcases rests with e | e | e <;> simp [State.askDisable, State.rdN, e]

theorem askDisable_moves {w : State} {n : Nat} (moves : w.rd .AXIS_STATE n = 2 ∨ w.rd .AXIS_STATE n = 3 ∨ w.rd .AXIS_STATE n = 4) :
    w.askDisable n = ((w.wr .disPend n 2).wr .stopPend n 1).wr .stopAt n w.now := by
  rcases moves with e | e | e <;> simp [State.askDisable, State.rdN, e]

theorem askDisable_held {w : State} {n : Nat} (contained : w.rd .AXIS_STATE n = 6) (held : w.driveOf n = 2) :
    w.askDisable n = w.wr .disPend n 3 := by
  simp [State.askDisable, State.rdN, contained, held]

theorem taken_driveOf (hd : Hdr) (op idx sub : Nat) (data : List Byte) (n : Nat) : (s.taken hd op idx sub data).driveOf n = s.driveOf n := by
  simp only [State.driveOf, taken_rd _ _ _ _ _ .DRIVE_STATE n, taken_rdN _ _ _ _ _ .DRIVE_STATE n, taken_rdN _ _ _ _ _ .prevDrive n]

theorem driveDisable_request (k : s.Accepts h (axisIdx 0x70 n) 2 [0]) :
    let u := s.hostWrite h (axisIdx 0x70 n) 2 [0]
    s.Did u h n [.disPend, .stopPend, .stopAt] [] ∧
      (s.rd .AXIS_STATE n = 0 ∨ s.rd .AXIS_STATE n = 1 ∨ s.rd .AXIS_STATE n = 5 → u.rd .disPend n = 1 ∧ u.rd .stopPend n = s.rd .stopPend n) ∧
      (s.rd .AXIS_STATE n = 2 ∨ s.rd .AXIS_STATE n = 3 ∨ s.rd .AXIS_STATE n = 4 → u.rd .disPend n = 2 ∧ u.rd .stopPend n = 1) ∧
      (s.rd .AXIS_STATE n = 6 → s.driveOf n = 2 → u.rd .disPend n = 3) := by
  let w := s.taken h opWrite (axisIdx 0x70 n) 2 [0]
  have applied : w.applyWrite ⟨.DRIVE_CTRL, 0x8070, 0x100, 64, 2, 1, .u8, .wo, [(0, 1)]⟩ n [0] = (w.askDisable n, false) := rfl
  have axis : s.rd .AXIS_STATE n = w.rd .AXIS_STATE n := (taken_rd _ _ _ _ _ .AXIS_STATE n).symm
  have drive : s.driveOf n = w.driveOf n := (taken_driveOf ..).symm
  rw [axis, drive]
  refine ⟨did_of_applied k (findObj_driveCtrl n) applied (askDisable_writes w n), fun rests => ?_, fun moves => ?_, fun contained held => ?_⟩
  · rw [askDisable_rests rests] at applied
    exact ⟨rd_applied k (findObj_driveCtrl n) applied (State.rd_wr_same ..),
      rd_applied k (findObj_driveCtrl n) applied ((State.rd_wr_ne _ _ _ _ (by decide)).trans (taken_rd ..))⟩
  · rw [askDisable_moves moves] at applied
    exact ⟨rd_applied k (findObj_driveCtrl n) applied (by simp [State.rd_wr]), rd_applied k (findObj_driveCtrl n) applied (by simp [State.rd_wr])⟩
  · rw [askDisable_held contained held] at applied
    exact rd_applied k (findObj_driveCtrl n) applied (State.rd_wr_same ..)

-- direct switch mode (R164)

theorem findObj_directMode (n : Fin 64) :
    findObj (axisIdx 0x75 n) 1 = some (⟨.DIRECT_MODE, 0x8075, 0x100, 64, 1, 1, .bool, .rw, [(0, 1)]⟩, n.val) := by
  revert n
  decide +kernel

theorem directModeEnter_request (k : s.Accepts h (axisIdx 0x75 n) 1 [1]) :
    let u := s.hostWrite h (axisIdx 0x75 n) 1 [1]
    s.Did u h n [.DIRECT_MODE, .directPend] [] ∧ u.rd .DIRECT_MODE n = 1 ∧ u.rd .directPend n = 1 := by
  let w := s.taken h opWrite (axisIdx 0x75 n) 1 [1]
  have applied : w.applyWrite ⟨.DIRECT_MODE, 0x8075, 0x100, 64, 1, 1, .bool, .rw, [(0, 1)]⟩ n [1] =
      ((w.wr .DIRECT_MODE n 1).wr .directPend n 1, false) := rfl
  exact ⟨did_of_applied k (findObj_directMode n) applied (((writes_refl w n _ _).wr .DIRECT_MODE 1).wr .directPend 1),
    rd_applied k (findObj_directMode n) applied ((State.rd_wr_ne _ _ _ _ (by decide)).trans (State.rd_wr_same ..)),
    rd_applied k (findObj_directMode n) applied (State.rd_wr_same ..)⟩

theorem findObj_directFire (n : Fin 64) :
    findObj (axisIdx 0x75 n) 4 = some (⟨.DIRECT_FIRE, 0x8075, 0x100, 64, 4, 1, .bool, .wo, [(1, 1)]⟩, n.val) := by
  revert n
  decide +kernel

theorem directFire_request (k : s.Accepts h (axisIdx 0x75 n) 4 [1]) :
    let u := s.hostWrite h (axisIdx 0x75 n) 4 [1]
    s.Did u h n [.firePend] [] ∧ u.rd .firePend n = 1 := by
  let w := s.taken h opWrite (axisIdx 0x75 n) 4 [1]
  have applied : w.applyWrite ⟨.DIRECT_FIRE, 0x8075, 0x100, 64, 4, 1, .bool, .wo, [(1, 1)]⟩ n [1] = (w.wr .firePend n 1, false) := rfl
  exact ⟨did_of_applied k (findObj_directFire n) applied ((writes_refl w n _ _).wr .firePend 1),
    rd_applied k (findObj_directFire n) applied (State.rd_wr_same ..)⟩

end

end Sys2Proof.Machine
end

section
/-! PROOFS. Diagnostics (R159) and the end of direct switch mode (R164), and O53 itself. -/
namespace Sys2Proof.Machine

set_option Elab.async false

section
variable {s : State} {h : Hdr} {n : Fin 64}

-- diagnostics

theorem rd_setDiag (w : State) (k : Nat) (l : List Nat) (r : Reg) (i : Nat) : (w.setDiag k l).rd r i = w.rd r i := rfl

theorem setDiag_diagQueue (w : State) (k : Nat) (l : List Nat) : (w.setDiag k l).diagQueue k = l := (tget_tset ..).trans (if_pos rfl)

theorem queueDiag_idle {w : State} {n : Nat} (free : w.rd .DIAG_RESULT n ≠ 5) (used : w.rd .AXIS_USE n ≠ 0) (openDrive : w.rd .DRIVE_STATE n = 0)
    (powered : w.rd .dieOff (dieOf n) ≠ 1) :
    w.queueDiag n = (w.wr .DIAG_RESULT n 5).setDiag (dieOf n) (insertAsc n (w.diagQueue (dieOf n))) :=
  if_neg (by simp [State.diagBusy, free, used, openDrive, powered])

theorem queueDiag_onlyAt (w : State) (n : Nat) : w.OnlyAt (w.queueDiag n) n [.DIAG_RESULT] [] := by
  unfold State.queueDiag
  split
  · exact onlyAt_refl w n _ _
  · exact (onlyAt_refl w n [.DIAG_RESULT] []).wr .DIAG_RESULT 5

/-- An axis that qualifies has its diagnostic queued after a request, whether it was before or not. -/
theorem queueDiag_result {w : State} {n : Nat} (used : w.rd .AXIS_USE n ≠ 0) (openDrive : w.rd .DRIVE_STATE n = 0)
    (powered : w.rd .dieOff (dieOf n) ≠ 1) : (w.queueDiag n).rd .DIAG_RESULT n = 5 := by
  by_cases free : w.rd .DIAG_RESULT n = 5
  · rwa [State.queueDiag, if_pos (by simp [State.diagBusy, free])]
  · rw [queueDiag_idle free used openDrive powered, rd_setDiag, State.rd_wr_same]

theorem findObj_diagStart (n : Fin 64) :
    findObj (axisIdx 0x74 n) 1 = some (⟨.DIAG_START, 0x8074, 0x100, 64, 1, 1, .bool, .wo, [(1, 1)]⟩, n.val) := by
  revert n
  decide +kernel

theorem diagStart_request (k : s.Accepts h (axisIdx 0x74 n) 1 [1]) :
    let u := s.hostWrite h (axisIdx 0x74 n) 1 [1]
    u.Answers h 0 [] ∧ s.OnlyAt u n [.DIAG_RESULT] requestRegs ∧
      (s.rd .DIAG_RESULT n ≠ 5 → s.rd .AXIS_USE n ≠ 0 → s.rd .DRIVE_STATE n = 0 → s.rd .dieOff (n / 8 : Nat) ≠ 1 →
        u.rd .DIAG_RESULT n = 5 ∧ u.diagQueue (n / 8 : Nat) = insertAsc n (s.diagQueue (n / 8 : Nat))) := by
  let w := s.taken h opWrite (axisIdx 0x74 n) 1 [1]
  have applied : w.applyWrite ⟨.DIAG_START, 0x8074, 0x100, 64, 1, 1, .bool, .wo, [(1, 1)]⟩ n [1] = (w.queueDiag n, false) := rfl
  have took := (quiet_refl s).taken h opWrite (axisIdx 0x74 n) 1 [1]
  obtain ⟨answer, quiet, -⟩ := hostWrite_applied k (findObj_diagStart n) applied
  refine ⟨answer, onlyAt_applied k (findObj_diagStart n) applied (queueDiag_onlyAt w n), fun free used openDrive powered => ?_⟩
  have queued : w.queueDiag n = (w.wr .DIAG_RESULT n 5).setDiag (dieOf n) (insertAsc n (w.diagQueue (dieOf n))) :=
    queueDiag_idle ((taken_rd ..).trans_ne free) ((taken_rd ..).trans_ne used) ((taken_rd ..).trans openDrive) ((taken_rd ..).trans_ne powered)
  have lists : w.diag = s.diag := (congrArg State.diag took.rest :)
  refine ⟨rd_applied k (findObj_diagStart n) applied ?_, ?_⟩
  · rw [queued, rd_setDiag, State.rd_wr_same]
  · rw [State.diagQueue, (congrArg State.diag quiet.rest :), queued]
    refine (setDiag_diagQueue ..).trans ?_
    rw [State.diagQueue, lists]
    rfl

theorem findObj_diagAll : findObj 0x1078 2 = some (⟨.DIAG_ALL, 0x1078, 0x1, 1, 2, 1, .bool, .wo, [(1, 1)]⟩, 0) := by decide +kernel

/-- A diagnostic that every axis asks for is queued for each that qualifies: the requests of the others leave it alone. -/
theorem diagAll_result {w : State} {n : Nat} (m : Nat) (hn : n < m) (used : w.rd .AXIS_USE n ≠ 0) (openDrive : w.rd .DRIVE_STATE n = 0)
    (powered : w.rd .dieOff (dieOf n) ≠ 1) : (w.forAll m State.queueDiag).rd .DIAG_RESULT n = 5 := by
  have steps (m : Nat) : w.forAll (m + 1) State.queueDiag = (w.forAll m State.queueDiag).queueDiag m := by
    simp [State.forAll, List.range_succ]
  have kept (m : Nat) : Keeps State.queueDiag_may w (w.forAll m State.queueDiag) :=
    keeps_forAll (keeps_refl _ w) fun _ j g => queueDiag_keeps j g may_self
  induction m with
  | zero => exact absurd hn (Nat.not_lt_zero n)
  | succ m ih =>
    rw [steps]
    by_cases here : n = m
    · subst here
      exact queueDiag_result (((kept n).rd .AXIS_USE n (by decide +kernel)).trans_ne used)
        (((kept n).rd .DRIVE_STATE n (by decide +kernel)).trans openDrive) (((kept n).rd .dieOff _ (by decide +kernel)).trans_ne powered)
    · exact (queueDiag_onlyAt _ m .DIAG_RESULT n List.not_mem_nil (fun e => here e.2)).trans (ih (by omega))

theorem diagAll_request (k : s.Accepts h 0x1078 2 [1]) :
    let u := s.hostWrite h 0x1078 2 [1]
    u.Answers h 0 [] ∧ s.OnlyRegs u (.DIAG_RESULT :: requestRegs) ∧
      (s.rd .AXIS_USE n ≠ 0 → s.rd .DRIVE_STATE n = 0 → s.rd .dieOff (n / 8 : Nat) ≠ 1 → u.rd .DIAG_RESULT n = 5) := by
  let w := s.taken h opWrite 0x1078 2 [1]
  have applied : w.applyWrite ⟨.DIAG_ALL, 0x1078, 0x1, 1, 2, 1, .bool, .wo, [(1, 1)]⟩ 0 [1] = (w.forAll 64 State.queueDiag, false) := rfl
  have kept : Keeps State.queueDiag_may w (w.forAll 64 State.queueDiag) := keeps_forAll (keeps_refl _ w) fun _ j g => queueDiag_keeps j g may_self
  obtain ⟨answer, -, -⟩ := hostWrite_applied k findObj_diagAll applied
  refine ⟨answer, onlyRegs_applied (l := [.DIAG_RESULT]) k findObj_diagAll applied (kept.onlyRegs _), fun used openDrive powered => ?_⟩
  exact rd_applied k findObj_diagAll applied (diagAll_result 64 n.isLt ((taken_rd ..).trans_ne used) ((taken_rd ..).trans openDrive)
    ((taken_rd ..).trans_ne powered))

-- the end of direct switch mode

/-- DIRECT_MODE 0 asks the mark to leave, ends a pulse at once, and lets the switches follow. -/
def State.leaveDirect (s : State) (n : Nat) : State :=
  (((s.wr .DIRECT_MODE n 0).wr .directPend n 2).wr .pulseEnd n 0).wr .firePend n 0

theorem directWrite_zero (w : State) (n : Nat) : w.directWrite n 0 = (w.leaveDirect n).switchAt n (w.wr .DIRECT_MODE n 0).ckp := by
  unfold State.directWrite
  extract_lets x
  rw [if_neg (by decide)]
  rfl

/-- The switches of axis `n` apart, DIRECT_MODE 0 leaves every chopper and every switch alone. -/
theorem directWrite_bridgeOf (w : State) (n : Nat) : w.BridgeOf (w.directWrite n 0) n := by
  let P : Reg → Nat → Prop := fun r i => SwitchOf n r i ∨ r ∈ [Reg.DIRECT_MODE, .directPend, .pulseEnd, .firePend]
  have within : w.Within (w.directWrite n 0) P := by
    rw [directWrite_zero]
    exact (((((within_refl w P).wr 0 (.inr (by decide))).wr 2 (.inr (by decide))).wr 0 (.inr (by decide))).wr 0 (.inr (by decide))).switchAt
      (fun _ _ => .inl) _
  have phases : ∀ r ∈ phaseRegs ++ [.phWas, .phWasAt], r ∉ switchRegs ∧ r ∉ [Reg.DIRECT_MODE, .directPend, .pulseEnd, .firePend] := by decide
  have switches : ∀ r ∈ switchRegs, r ∉ [Reg.DIRECT_MODE, .directPend, .pulseEnd, .firePend] := by decide
  have phase {r : Reg} (hr : r ∈ phaseRegs ++ [.phWas, .phWasAt]) (i : Nat) : (w.directWrite n 0).rd r i = w.rd r i := by
    obtain ⟨noSwitch, noDirect⟩ := phases r hr
    exact within r i (not_or.mpr ⟨fun e => noSwitch e.1, noDirect⟩)
  exact ⟨fun r i hr _ => phase (List.mem_append_left _ hr) i, fun r i hr _ => phase (List.mem_append_right _ hr) i,
    fun r i hr hi => within r i (not_or.mpr ⟨fun e => hi e.2, switches r hr⟩)⟩

/-- What a request leaves of the bridges is what its write leaves of them. -/
theorem bridgeOf_applied {t : State} {idx sub i : Nat} {bs : List Byte} {o : Obj} (k : s.Accepts h idx sub bs) (hf : findObj idx sub = some (o, i))
    (ha : (s.taken h opWrite idx sub bs).applyWrite o i bs = (t, false)) {n : Nat} (own : (s.taken h opWrite idx sub bs).BridgeOf t n) :
    s.BridgeOf (s.hostWrite h idx sub bs) n := by
  have took := (quiet_refl s).taken h opWrite idx sub bs
  obtain ⟨-, quiet, -⟩ := hostWrite_applied k hf ha
  obtain ⟨phases, earlier, switches⟩ := own
  have apart : ∀ r ∈ phaseRegs ++ [.phWas, .phWasAt] ++ switchRegs, r ∉ requestRegs := by decide
  have through {r : Reg} (hr : r ∈ phaseRegs ++ [.phWas, .phWasAt] ++ switchRegs) {i : Nat}
      (e : t.rd r i = (s.taken h opWrite idx sub bs).rd r i) : (s.hostWrite h idx sub bs).rd r i = s.rd r i :=
    (quiet.regs r i (apart r hr)).trans (e.trans (took.regs r i (apart r hr)))
  exact ⟨fun r i hr hi => through (List.mem_append_left _ (List.mem_append_left _ hr)) (phases r i hr hi),
    fun r i hr hi => through (List.mem_append_left _ (List.mem_append_right _ hr)) (earlier r i hr hi),
    fun r i hr hi => through (List.mem_append_right _ hr) (switches r i hr hi)⟩

theorem directModeExit_request (k : s.Accepts h (axisIdx 0x75 n) 1 [0]) :
    let u := s.hostWrite h (axisIdx 0x75 n) 1 [0]
    s.Did u h n [.DIRECT_MODE, .directPend, .pulseEnd, .firePend] switchRegs ∧ s.BridgeOf u n ∧ u.rd .DIRECT_MODE n = 0 ∧
      u.rd .directPend n = 2 ∧ u.rd .pulseEnd n = 0 := by
  let w := s.taken h opWrite (axisIdx 0x75 n) 1 [0]
  let x := w.leaveDirect n
  have applied : w.applyWrite ⟨.DIRECT_MODE, 0x8075, 0x100, 64, 1, 1, .bool, .rw, [(0, 1)]⟩ n [0] = (w.directWrite n 0, false) := rfl
  have switched : Keeps State.switchAt_may x (w.directWrite n 0) := by
    rw [directWrite_zero]
    exact switchAt_keeps n _ (keeps_refl _ x) may_self
  have own : w.Writes x n [.DIRECT_MODE, .directPend, .pulseEnd, .firePend] switchRegs :=
    ((((writes_refl w n _ _).wr .DIRECT_MODE 0).wr .directPend 2).wr .pulseEnd 0).wr .firePend 0
  refine ⟨did_of_applied k (findObj_directMode n) applied (own.keeps switched), bridgeOf_applied k (findObj_directMode n) applied
    (directWrite_bridgeOf w n), ?_, ?_, ?_⟩
  · exact rd_applied k (findObj_directMode n) applied ((switched.rd .DIRECT_MODE n (by decide +kernel)).trans (by simp [x, State.leaveDirect, State.rd_wr]))
  · exact rd_applied k (findObj_directMode n) applied ((switched.rd .directPend n (by decide +kernel)).trans (by simp [x, State.leaveDirect, State.rd_wr]))
  · exact rd_applied k (findObj_directMode n) applied ((switched.rd .pulseEnd n (by decide +kernel)).trans (by simp [x, State.leaveDirect, State.rd_wr]))

end

/-- Settles O53, write by write. -/
theorem driveRequests : Obligations.DriveRequests := by
  unfold Obligations.DriveRequests
  intro h n s
  exact ⟨fun k => ⟨_, rfl, adaptReset_request k⟩, fun v hv k => ⟨_, rfl, adaptEnable_request hv k⟩, fun k => ⟨_, rfl, learnStart_request k⟩,
    fun k => ⟨_, rfl, learnAbort_request k⟩, fun k => ⟨_, rfl, stallRelease_request k⟩, fun k => ⟨_, rfl, driveEnable_request k⟩,
    fun k => ⟨_, rfl, driveDisable_request k⟩, fun k => ⟨_, rfl, rearm_request k⟩, fun k => ⟨_, rfl, diagStart_request k⟩,
    fun k => ⟨_, rfl, diagAll_request k⟩, fun k => ⟨_, rfl, directModeEnter_request k⟩, fun k => ⟨_, rfl, directModeExit_request k⟩,
    fun k => ⟨_, rfl, directFire_request k⟩⟩

end Sys2Proof.Machine
end

section
/-! PROOFS. What a chopper finds in the cycle of an event (O27): REF, the cycle, and that a chopper that is ready does nothing by itself. -/
namespace Sys2Proof.Machine

set_option Elab.async false

-- REF

/-- The registers on which REF of a phase and the CKP cycle rest (R95–R97, R359). -/
def refRegs : List Reg :=
  [.SHAPE_K3, .SHAPE_LIFT, .AMP_CODE, .ampOld, .relFrom, .relWas, .angleQ, .angleOld, .ANGLE_INC, .incOld, .PASS_MARK_TIME, .DEVICE_TIME]

/-- From `s` to `t` neither REF of any phase nor the cycle has changed. -/
def State.SameRef (s t : State) : Prop := ∀ r ∈ refRegs, ∀ i, t.rd r i = s.rd r i

theorem Keeps.sameRef {m : Nat} {s t : State} (h : Keeps m s t) (hm : m &&& mayRegs refRegs = 0 := by decide +kernel) : s.SameRef t :=
  fun r hr i => h.rd r i (testBit_of_apart hm (mayRegs_testBit_mem hr))

section
variable {s t : State} (h : s.SameRef t)
include h

theorem State.SameRef.rd (r : Reg) (i : Nat) (hr : r ∈ refRegs := by decide) : t.rd r i = s.rd r i := h r hr i

theorem State.SameRef.rdN (r : Reg) (i : Nat) (hr : r ∈ refRegs := by decide) : t.rdN r i = s.rdN r i := congrArg Int.toNat (h r hr i)

theorem State.SameRef.ckp : t.ckp = s.ckp := by
  simp only [State.ckp, State.now, h.rdN .DEVICE_TIME, h.rdN .PASS_MARK_TIME]

theorem State.SameRef.markCkp : t.markCkp = s.markCkp := by
  rw [State.markCkp, h.rdN .PASS_MARK_TIME, State.markCkp]

theorem State.SameRef.refIn (n ph c : Nat) : t.refIn n ph c = s.refIn n ph c := by
  unfold State.refIn State.refOf State.angleCkp
  rw [h.markCkp, h.rd .SHAPE_K3, h.rd .angleQ, h.rd .ANGLE_INC, h.rd .angleOld, h.rd .incOld, h.rdN .SHAPE_LIFT, h.rdN .AMP_CODE, h.rdN .ampOld,
    h.rdN .relFrom, h.rdN .relWas]

theorem State.SameRef.refNow (n ph : Nat) : t.refNow n ph = s.refNow n ph := by
  rw [State.refNow, h.ckp, h.refIn, State.refNow]

end

theorem signChanged_congr {s t : State} {n ph : Nat} (ref : s.SameRef t) (state : t.rd .phState (2 * n + ph) = s.rd .phState (2 * n + ph))
    (rev : t.rd .phRev (2 * n + ph) = s.rd .phRev (2 * n + ph)) (sign : t.rd .phSign (2 * n + ph) = s.rd .phSign (2 * n + ph)) :
    t.signChanged n ph = s.signChanged n ph := by
  simp only [State.signChanged, ref.refNow, state, rev, sign]

-- a chopper with nothing to do by itself

section
variable {s : State} {n ph c : Nat}

theorem dueRefresh_idle (h : ∀ hb, hb < 4 → s.rd .refreshWait (4 * n + hb) = 0) : s.dueRefresh n = s := by
  unfold State.dueRefresh State.forAll
  refine List.foldlRecOn (motive := (· = s)) (List.range 4) _ rfl fun x hx hb hhb => ?_
  rw [hx]
  exact if_pos (h hb (List.mem_range.mp hhb))

theorem onStart_idle (h : s.rd .phPend (2 * n + ph) = 0) : s.onStart n ph c = s := if_pos (by simp [h])

theorem zeroRef_idle (h : s.refIn n ph c ≠ 0) : s.zeroRef n ph c = s := if_neg (by simp [h])

theorem mixDone_idle (h : s.rd .phMixEnd (2 * n + ph) = 0 ∨ c + 1 < s.rdN .phMixEnd (2 * n + ph)) : s.mixDone n ph c = s := by
  refine if_neg ?_
  simp only [Bool.and_eq_true, decide_eq_true_eq, not_and]
  rintro ⟨-, nonzero⟩ ended
  rcases h with h | h
  · exact nonzero h
  · omega

theorem toffDone_idle (h : c ≤ s.rdN .phOffAt (2 * n + ph) + s.rdN .effToff n) : s.toffDone n ph c = s := by
  refine if_neg ?_
  simp only [Bool.and_eq_true, decide_eq_true_eq]
  omega

theorem capDone_idle (h : s.rd .phCmd (2 * n + ph) = 0) : s.capDone n ph c = s := if_neg (by simp [h])

theorem settlePhase_ready (r : s.ChopperReady n ph) (on : s.rd .phState (2 * n + ph) ≠ 0) :
    s.settlePhase n ph s.ckp = s.noteClamp n ph s.ckp := by
  unfold State.settlePhase
  rw [if_neg on, onStart_idle r.pend, zeroRef_idle r.ref, mixDone_idle r.mix]
  dsimp only
  rw [toffDone_idle r.toff, capDone_idle r.cmd, onStart_idle r.pend]

end

-- the state in which an event finds its chopper

/-- The state in which an event of the present cycle finds a chopper that has nothing to do by itself: its thresholds have been looked at (R103). -/
def State.looked (s : State) (n ph : Nat) : State := s.noteClamp n ph s.ckp

section
variable (s : State) (n ph : Nat)

theorem looked_keeps : Keeps State.noteClamp_may s (s.looked n ph) := noteClamp_keeps n ph _ (keeps_refl _ s) may_self

theorem looked_sameRef : s.SameRef (s.looked n ph) := (looked_keeps s n ph).sameRef

theorem looked_rd (r : Reg) (i : Nat) (hr : State.noteClamp_may.testBit r.ctorIdx = false := by decide +kernel) :
    (s.looked n ph).rd r i = s.rd r i := (looked_keeps s n ph).rd r i hr

theorem looked_rdN (r : Reg) (i : Nat) (hr : State.noteClamp_may.testBit r.ctorIdx = false := by decide +kernel) :
    (s.looked n ph).rdN r i = s.rdN r i := congrArg Int.toNat (looked_rd s n ph r i hr)

theorem looked_signChanged : (s.looked n ph).signChanged n ph = s.signChanged n ph :=
  signChanged_congr (looked_sameRef s n ph) (looked_rd ..) (looked_rd ..) (looked_rd ..)

theorem rd_count_ne (r : Reg) (i k w : Nat) {q : Reg} (j : Nat) (h : q ≠ r) : (s.count r i k w).rd q j = s.rd q j := by
  unfold State.count
  split <;> exact State.rd_wr_ne _ _ _ _ h

/-- Whether a first on time has begun is not touched by the look at the thresholds. -/
theorem looked_started : (s.looked n ph).bit .phFlags (2 * n + ph) 5 = s.bit .phFlags (2 * n + ph) 5 := by
  have seen (v : Int) : (s.wr .phLook (2 * n + ph) v).bit .phFlags (2 * n + ph) 5 = s.bit .phFlags (2 * n + ph) 5 :=
    State.bit_congr (State.rd_wr_ne _ _ _ _ (by decide)) 5
  unfold State.looked State.noteClamp
  extract_lets p r x
  split
  · split
    · rw [State.bit_congr (rd_count_ne _ _ _ _ _ _ (by decide)), State.bit_wrBit, if_neg (by simp)]
      exact seen _
    · exact seen _
  · rfl

end

/-- An event of a chopper that is ready and conducts is its own step on the state that it finds, but where REF has changed sign. -/
theorem chopEvent_ready {s0 : State} {t n ph : Nat} {f : State → State} (r : (s0.at t).ChopperReady n ph)
    (on : (s0.at t).rd .phState (2 * n + ph) ≠ 0) :
    s0.chopEvent t n ph f =
      if (s0.at t).signChanged n ph then ((s0.at t).looked n ph).reverse n ph (s0.at t).ckp else f ((s0.at t).looked n ph) := by
  unfold State.chopEvent
  rw [dueRefresh_idle r.wait]
  extract_lets x y
  have found : y = x.looked n ph := settlePhase_ready r on
  rw [found, looked_signChanged, (looked_sameRef x n ph).ckp]

end Sys2Proof.Machine
end

section
/-! PROOFS. What the steps of a chopper write (O27; R102–R106): its state, off times that begin, on commands, reversals. -/
namespace Sys2Proof.Machine

set_option Elab.async false

section
variable (s : State) (n ph : Nat)

-- states and off times

theorem turn_shows (st rev c : Nat) :
    (s.turn n ph st rev c).rd .phState (2 * n + ph) = st ∧ (s.turn n ph st rev c).rd .phRev (2 * n + ph) = rev := by
  unfold State.turn
  extract_lets p x y
  have switched (z : State) := switchAt_keeps (M := State.switchAt_may) n c (keeps_refl _ z)
  rw [(switched _).rd .phState p (by decide +kernel), (switched _).rd .phRev p (by decide +kernel)]
  exact ⟨(State.rd_wr_ne _ _ _ _ (by decide)).trans (State.rd_wr_same ..), State.rd_wr_same ..⟩

/-- An off time shows its kind and its beginning. -/
theorem startOff_shows (st rev c : Nat) : let u := s.startOff n ph st rev c
    u.rd .phState (2 * n + ph) = st ∧ u.rd .phRev (2 * n + ph) = rev ∧ u.rd .phOffAt (2 * n + ph) = c ∧ u.rd .phMixEnd (2 * n + ph) = 0 := by
  unfold State.startOff
  extract_lets p x y u
  obtain ⟨state, reversal⟩ := turn_shows x n ph st rev c
  simp only [u, y, p, State.wrBit, State.rd_wr, reduceCtorEq, false_and, if_false, and_self, if_true]
  exact ⟨state, reversal, trivial⟩

/-- A reversal is FAST, whether it begins an off time or goes on in one. -/
theorem reverse_shows (c : Nat) : (s.reverse n ph c).rd .phState (2 * n + ph) = 3 ∧ (s.reverse n ph c).rd .phRev (2 * n + ph) = 1 := by
  unfold State.reverse
  extract_lets p x
  have turned : x.rd .phState p = 3 ∧ x.rd .phRev p = 1 := by
    unfold x
    split
    · obtain ⟨state, reversal, -, -⟩ := startOff_shows s n ph 3 1 c
      exact ⟨state, reversal⟩
    · simp only [State.wrBit, State.rd_wr, reduceCtorEq, false_and, if_false]
      exact turn_shows s n ph 3 1 c
  exact ⟨(State.rd_wrBit_ne _ _ _ _ _ (by decide)).trans turned.1, (State.rd_wrBit_ne _ _ _ _ _ (by decide)).trans turned.2⟩

-- on commands

/-- The state after an on command in CKP cycle `c`, before it notes when its switches are on: ON in the sign of REF, the on time before kept. -/
def State.turnedOn (s : State) (n ph c : Nat) : State :=
  ((s.wr .phSign (2 * n + ph) (s.refIn n ph c).sign).turn n ph 1 0 c).wr .phOnPrev (2 * n + ph) (s.rd .phOnAt (2 * n + ph))

theorem turnedOn_shows (c : Nat) : let u := s.turnedOn n ph c
    u.rd .phState (2 * n + ph) = 1 ∧ u.rd .phRev (2 * n + ph) = 0 ∧ u.rd .phSign (2 * n + ph) = (s.refIn n ph c).sign ∧
      u.rd .phOnPrev (2 * n + ph) = s.rd .phOnAt (2 * n + ph) := by
  let x := s.wr .phSign (2 * n + ph) (s.refIn n ph c).sign
  obtain ⟨state, reversal⟩ := turn_shows x n ph 1 0 c
  have turned := turn_keeps (M := State.turn_may) n ph 1 0 c (keeps_refl _ x)
  have sign : x.rd .phSign (2 * n + ph) = (s.refIn n ph c).sign := State.rd_wr_same ..
  refine ⟨(State.rd_wr_ne _ _ _ _ (by decide)).trans state, (State.rd_wr_ne _ _ _ _ (by decide)).trans reversal, ?_, State.rd_wr_same ..⟩
  exact (State.rd_wr_ne _ _ _ _ (by decide)).trans ((turned.rd .phSign _ (by decide +kernel)).trans sign)

theorem commandOn_eq (c : Nat) : s.commandOn n ph c =
    (((((s.turnedOn n ph c).wr .phOnAt (2 * n + ph) ((s.turnedOn n ph c).onCycle n ph c)).wr .phPend (2 * n + ph) 1).wr .phCmd (2 * n + ph) 0).wr
      .phMixEnd (2 * n + ph) 0).onStart n ph c := by
  have before : (s.wr .phSign (2 * n + ph) (s.refIn n ph c).sign).rd .phOnAt (2 * n + ph) = s.rd .phOnAt (2 * n + ph) :=
    State.rd_wr_ne _ _ _ _ (by decide)
  unfold State.commandOn State.turnedOn
  extract_lets p x y
  rw [← before]

/-- An on command shows its state and sign, and the cycle in which its switches are on; the on time before is kept. -/
theorem commandOn_shows (c : Nat) : let u := s.commandOn n ph c
    u.rd .phState (2 * n + ph) = 1 ∧ u.rd .phRev (2 * n + ph) = 0 ∧ u.rd .phSign (2 * n + ph) = (s.refIn n ph c).sign ∧
      u.rd .phCmd (2 * n + ph) = 0 ∧ u.rd .phOnPrev (2 * n + ph) = s.rd .phOnAt (2 * n + ph) ∧
      u.rd .phOnAt (2 * n + ph) = ((s.turnedOn n ph c).onCycle n ph c : Nat) := by
  obtain ⟨state, reversal, sign, prev⟩ := turnedOn_shows s n ph c
  have begun (x : State) := onStart_keeps (M := State.onStart_may) n ph c (keeps_refl _ x)
  rw [commandOn_eq]
  dsimp only
  rw [(begun _).rd .phState _ (by decide +kernel), (begun _).rd .phRev _ (by decide +kernel), (begun _).rd .phSign _ (by decide +kernel),
    (begun _).rd .phCmd _ (by decide +kernel), (begun _).rd .phOnPrev _ (by decide +kernel), (begun _).rd .phOnAt _ (by decide +kernel)]
  simp only [State.rd_wr, reduceCtorEq, false_and, if_false, and_self, if_true]
  exact ⟨state, reversal, sign, trivial, prev, trivial⟩

/-- Where W is below 63 an event that ends an off time commands the phase on at once. -/
theorem startOn_free {c : Nat} (free : s.rd .phW (2 * n + ph) ≠ 63) : s.startOn n ph c = (s.wr .phOffEnd (2 * n + ph) c).commandOn n ph c := by
  have width : (s.wr .phOffEnd (2 * n + ph) c).rd .phW (2 * n + ph) ≠ 63 := (State.rd_wr_ne _ _ _ _ (by decide)).trans_ne free
  unfold State.startOn
  extract_lets p keeps dead prev x
  exact if_neg (by simp [x, p, width])

/-- An event that ends an off time of a phase with W below 63 turns it on in the sign of REF. -/
theorem startOn_shows {c : Nat} (free : s.rd .phW (2 * n + ph) ≠ 63) : let u := s.startOn n ph c
    u.rd .phState (2 * n + ph) = 1 ∧ u.rd .phRev (2 * n + ph) = 0 ∧ u.rd .phSign (2 * n + ph) = (s.refIn n ph c).sign ∧
      u.rd .phCmd (2 * n + ph) = 0 ∧ u.rd .phOnPrev (2 * n + ph) = s.rd .phOnAt (2 * n + ph) := by
  have same : s.SameRef (s.wr .phOffEnd (2 * n + ph) c) :=
    (keeps_wr (m := may .phOffEnd) (keeps_refl _ s) .phOffEnd _ _ may_self).sameRef
  obtain ⟨state, reversal, sign, cmd, prev, -⟩ := commandOn_shows (s.wr .phOffEnd (2 * n + ph) c) n ph c
  rw [same.refIn] at sign
  rw [State.rd_wr_ne _ _ _ _ (by decide)] at prev
  rw [startOn_free s n ph free]
  exact ⟨state, reversal, sign, cmd, prev⟩

/-- With W at 63 an event that ends a SLOW off time too soon after the last on time began leaves the phase in it, and the command waits (R106). -/
theorem startOn_capped {c : Nat} (slow : s.rd .phState (2 * n + ph) = 2) (wide : s.rd .phW (2 * n + ph) = 63)
    (started : s.bit .phFlags (2 * n + ph) 5 = true) (soon : c + s.rdN .DEAD_TIME n < s.rdN .phOnAt (2 * n + ph) + 625) :
    s.startOn n ph c = ((s.wr .phOffEnd (2 * n + ph) c).count .FREQ_CAPS n).wr .phCmd (2 * n + ph)
      (s.rdN .phOnAt (2 * n + ph) + 626 - s.rdN .DEAD_TIME n : Nat) := by
  unfold State.startOn
  extract_lets p keeps dead prev x
  have first : dead = s.rdN .DEAD_TIME n := if_neg (by simp [keeps, p, slow])
  have width : x.rd .phW p = 63 := (State.rd_wr_ne _ _ _ _ (by decide)).trans wide
  have flags : x.bit .phFlags p 5 = true := (State.bit_congr (State.rd_wr_ne _ _ _ _ (by decide)) 5).trans started
  rw [first]
  exact if_pos (by simp [width, flags, prev, p, soon])

-- the peak (R104, R105)

/-- A peak during blanking is ignored. -/
theorem peak_early (blank : s.ckp < s.rdN .phOnAt (2 * n + ph) + s.rdN .effBlank n) : s.peak n ph = s := by
  unfold State.peak
  extract_lets p c clear
  exact if_neg (by simp [clear, c, p, blank])

/-- Whether the off time that a peak begins is mixed (R105). -/
def State.decaysMixed (s : State) (n : Nat) : Prop := s.rd .effDecay n = 3 ∧ s.rd .effMix n ≠ 0

/-- Whether the off time that a peak begins is fast: by DECAY_MODE, for MIX_TIME, or as |REF| has fallen since the last on time (R105). -/
def State.decaysFast (s : State) (n ph : Nat) : Prop :=
  s.rd .effDecay n = 2 ∨ s.decaysMixed n ∨ (s.rd .effDecay n = 0 ∧ (s.refNow n ph).natAbs < s.rdN .phOnRef (2 * n + ph))

/-- What a peak notes before the off time begins: the peak, the on time, and that it came in the cycle in which blanking ended. -/
def State.peaked (s : State) (n ph : Nat) : State :=
  let s' := (s.wr .phPeak (2 * n + ph) 1).wr .phTon (2 * n + ph) (s.ckp - s.rdN .phOnAt (2 * n + ph) : Nat)
  s'.iff (s.ckp = s.rdN .phOnAt (2 * n + ph) + s.rdN .effBlank n) (fun y => (y.count .EARLY_TRIPS n).wrBit .phFlags (2 * n + ph) 2 true)

def State.peaked_may : Nat := may .phPeak ||| may .phTon ||| may .EARLY_TRIPS ||| may .phFlags ||| State.count_may

theorem peaked_keeps : Keeps State.peaked_may s (s.peaked n ph) :=
  keeps_iff (keeps_wr (keeps_wr (keeps_refl _ s) .phPeak _ _ (by decide +kernel)) .phTon _ _ (by decide +kernel)) fun _ g =>
    wrBit_keeps .phFlags _ _ _ (count_keeps .EARLY_TRIPS n 1 32 g)

theorem peaked_shows : let u := s.peaked n ph
    u.rd .phPeak (2 * n + ph) = 1 ∧ u.rd .phTon (2 * n + ph) = (s.ckp - s.rdN .phOnAt (2 * n + ph) : Nat) ∧
      (s.rd .EARLY_TRIPS n + 1 < 2 ^ 32 →
        u.rd .EARLY_TRIPS n = s.rd .EARLY_TRIPS n + (if s.ckp = s.rdN .phOnAt (2 * n + ph) + s.rdN .effBlank n then 1 else 0)) := by
  unfold State.peaked
  extract_lets x u
  have peak : x.rd .phPeak (2 * n + ph) = 1 := (State.rd_wr_ne _ _ _ _ (by decide)).trans (State.rd_wr_same ..)
  have ton : x.rd .phTon (2 * n + ph) = (s.ckp - s.rdN .phOnAt (2 * n + ph) : Nat) := State.rd_wr_same ..
  have early : x.rd .EARLY_TRIPS n = s.rd .EARLY_TRIPS n := (State.rd_wr_ne _ _ _ _ (by decide)).trans (State.rd_wr_ne _ _ _ _ (by decide))
  by_cases ends : s.ckp = s.rdN .phOnAt (2 * n + ph) + s.rdN .effBlank n
  · have noted : u = (x.count .EARLY_TRIPS n).wrBit .phFlags (2 * n + ph) 2 true := if_pos (decide_eq_true ends)
    rw [if_pos ends, noted]
    refine ⟨?_, ?_, fun room => ?_⟩
    · rw [State.rd_wrBit_ne _ _ _ _ _ (by decide), rd_count_ne _ _ _ _ _ _ (by decide), peak]
    · rw [State.rd_wrBit_ne _ _ _ _ _ (by decide), rd_count_ne _ _ _ _ _ _ (by decide), ton]
    · rw [State.rd_wrBit_ne _ _ _ _ _ (by decide), State.count_one (by rwa [early]), State.rd_wr_same, early]
  · have plain : u = x := if_neg (by simp [ends])
    rw [if_neg ends, plain]
    exact ⟨peak, ton, fun _ => early.trans (Int.add_zero _).symm⟩

/-- A peak past blanking notes itself, and the off time begins whose decay is chosen in this cycle. -/
theorem peak_eq (on : s.rd .phState (2 * n + ph) = 1) (pend : s.rd .phPend (2 * n + ph) = 0)
    (clear : s.rdN .phOnAt (2 * n + ph) + s.rdN .effBlank n ≤ s.ckp) : ∃ mix fast : Bool,
    (mix = true ↔ s.decaysMixed n) ∧ (fast = true ↔ s.decaysFast n ph) ∧
      s.peak n ph = ((s.peaked n ph).startOff n ph (if fast then 3 else 2) 0 s.ckp).iff mix
        (fun y => y.wr .phMixEnd (2 * n + ph) (s.ckp + y.rdN .effMix n + 1 : Nat)) := by
  have kept := peaked_keeps s n ph
  have decay : (s.peaked n ph).rd .effDecay n = s.rd .effDecay n := kept.rd .effDecay n (by decide +kernel)
  have mixed : (s.peaked n ph).rd .effMix n = s.rd .effMix n := kept.rd .effMix n (by decide +kernel)
  have onRef : (s.peaked n ph).rdN .phOnRef (2 * n + ph) = s.rdN .phOnRef (2 * n + ph) := congrArg Int.toNat (kept.rd .phOnRef _ (by decide +kernel))
  have ref : (s.peaked n ph).refNow n ph = s.refNow n ph := kept.sameRef.refNow n ph
  unfold State.peak
  extract_lets p c blank x y mix fast
  rw [if_pos (by simp [p, on, pend, blank, c, clear])]
  have isMixed : mix = true ↔ s.decaysMixed n := by
    rw [State.decaysMixed, ← decay, ← mixed, Bool.and_eq_true, decide_eq_true_eq, decide_eq_true_eq]
    rfl
  refine ⟨mix, fast, isMixed, ?_, rfl⟩
  rw [State.decaysFast, ← isMixed, ← decay, ← onRef, ← ref]
  simp only [fast, Bool.or_eq_true, Bool.and_eq_true, decide_eq_true_eq, or_assoc]
  rfl

/-- A peak past blanking ends the on time (R104, R105). -/
theorem peak_ends (on : s.rd .phState (2 * n + ph) = 1) (pend : s.rd .phPend (2 * n + ph) = 0)
    (clear : s.rdN .phOnAt (2 * n + ph) + s.rdN .effBlank n ≤ s.ckp) : let u := s.peak n ph
    (s.decaysFast n ph → u.rd .phState (2 * n + ph) = 3) ∧ (¬ s.decaysFast n ph → u.rd .phState (2 * n + ph) = 2) ∧
      (s.decaysMixed n → u.rd .phMixEnd (2 * n + ph) = (s.ckp + s.rdN .effMix n + 1 : Nat)) ∧
      (¬ s.decaysMixed n → u.rd .phMixEnd (2 * n + ph) = 0) ∧ u.rd .phOffAt (2 * n + ph) = s.ckp ∧
      u.rd .phTon (2 * n + ph) = (s.ckp - s.rdN .phOnAt (2 * n + ph) : Nat) ∧ u.rd .phPeak (2 * n + ph) = 1 ∧
      (s.rd .EARLY_TRIPS n + 1 < 2 ^ 32 →
        u.rd .EARLY_TRIPS n = s.rd .EARLY_TRIPS n + (if s.ckp = s.rdN .phOnAt (2 * n + ph) + s.rdN .effBlank n then 1 else 0)) := by
  obtain ⟨mix, fast, isMixed, isFast, e⟩ := peak_eq s n ph on pend clear
  obtain ⟨peak, ton, early⟩ := peaked_shows s n ph
  let w := (s.peaked n ph).startOff n ph (if fast then 3 else 2) 0 s.ckp
  obtain ⟨state, -, offAt, mixEnd⟩ := startOff_shows (s.peaked n ph) n ph (if fast then 3 else 2) 0 s.ckp
  have kept : Keeps State.startOff_may (s.peaked n ph) w := startOff_keeps n ph _ 0 _ (keeps_refl _ _) may_self
  have last (r : Reg) (i : Nat) (hr : r ≠ .phMixEnd := by decide) : (s.peak n ph).rd r i = w.rd r i := by
    rw [e, State.iff]
    split
    · exact State.rd_wr_ne _ _ _ _ hr
    · rfl
  dsimp only
  rw [last .phState, last .phOffAt, last .phTon, last .phPeak, last .EARLY_TRIPS, kept.rd .phTon _ (by decide +kernel),
    kept.rd .phPeak _ (by decide +kernel), kept.rd .EARLY_TRIPS _ (by decide +kernel)]
  refine ⟨fun h => ?_, fun h => ?_, fun h => ?_, fun h => ?_, offAt, ton, peak, early⟩
  · rw [state, if_pos (isFast.mpr h)]
    rfl
  · rw [state, if_neg (fun f => h (isFast.mp f))]
    rfl
  · have time : w.rdN .effMix n = s.rdN .effMix n :=
      congrArg Int.toNat ((kept.rd .effMix n (by decide +kernel)).trans ((peaked_keeps s n ph).rd .effMix n (by decide +kernel)))
    rw [e, State.iff, if_pos (isMixed.mpr h), State.rd_wr_same, time]
  · rw [e, State.iff, if_neg (fun f => h (isMixed.mp f))]
    exact mixEnd

end

end Sys2Proof.Machine
end

section
/-! PROOFS. The switches of a phase that is commanded on (O27; R102, R140–R142): each half-bridge follows its pair, one dead time after the switch
that goes off. -/
namespace Sys2Proof.Machine

set_option Elab.async false

-- pairs

/-- The registers on which the ranks above the chopper rest (R140). -/
def higherRegs : List Reg := [.ENA_STATE, .DIE_STATE, .dieOff, .uvOn, .faultLatch, .brakeOn, .DRIVE_STATE, .prevDrive, .refreshOn]

/-- The registers on which the command pairs of the half-bridges rest (R102, R140). -/
def rankRegs : List Reg := higherRegs ++ [.pulseEnd, .DIRECT_PATTERN, .phState, .phSign]

section
variable {s t : State} (h : ∀ r ∈ higherRegs, ∀ i, t.rd r i = s.rd r i)
include h

theorem driveOf_congr (n : Nat) : t.driveOf n = s.driveOf n := by
  have rdN (r : Reg) (hr : r ∈ higherRegs := by decide) : t.rdN r n = s.rdN r n := congrArg Int.toNat (h r hr n)
  simp only [State.driveOf, h .DRIVE_STATE (by decide), rdN .DRIVE_STATE, rdN .prevDrive]

theorem forcedOff_congr (n : Nat) : t.forcedOff n = s.forcedOff n := by
  simp only [State.forcedOff, State.dieDown, State.bit, State.rdN, h .DIE_STATE (by decide), h .dieOff (by decide), h .uvOn (by decide),
    h .faultLatch (by decide), h .ENA_STATE (by decide)]

end

theorem pairOf_congr {s t : State} (h : ∀ r ∈ rankRegs, ∀ i, t.rd r i = s.rd r i) (n hb : Nat) : t.pairOf n hb = s.pairOf n hb := by
  have higher : ∀ r ∈ higherRegs, ∀ i, t.rd r i = s.rd r i := fun r hr => h r (List.mem_append_left _ hr)
  have chop : t.chopCmd n hb = s.chopCmd n hb := by
    simp only [State.chopCmd, State.rdN, h .phState (by decide), h .phSign (by decide)]
  unfold State.pairOf State.rdN
  rw [forcedOff_congr higher, driveOf_congr higher, chop, h .brakeOn (by decide), h .refreshOn (by decide), h .pulseEnd (by decide),
    h .DIRECT_PATTERN (by decide)]

/-- Where no higher rank is active the chopper commands the half-bridge (R140). -/
theorem pairOf_chopping {s : State} {n hb : Nat} (forced : s.forcedOff n = false) (brake : s.rd .brakeOn (dieOf n) = 0)
    (drive : s.driveOf n = 1 ∨ s.driveOf n = 2) (refresh : s.rd .refreshOn (4 * n + hb) = 0) : s.pairOf n hb = s.chopCmd n hb := by
  rcases drive with e | e <;> simp [State.pairOf, forced, brake, refresh, e]

-- one half-bridge

/-- The registers of the switches of a half-bridge (R141). -/
def hbRegs : List Reg := [.swCmd, .swAt, .swHighOff, .swLowOff]

theorem onFrom_congr {s t : State} {n hb : Nat} (h : ∀ r ∈ hbRegs, t.rd r (4 * n + hb) = s.rd r (4 * n + hb))
    (dead : t.rd .DEAD_TIME n = s.rd .DEAD_TIME n) : t.onFrom n hb = s.onFrom n hb := by
  unfold State.onFrom State.rdN
  dsimp only
  rw [h .swCmd (by decide), h .swAt (by decide), h .swHighOff (by decide), h .swLowOff (by decide), dead]

/-- From `s` to `t` half-bridge `hb` of axis `n` stands as it did, and the same pair is commanded. -/
structure State.SameBridge (n hb : Nat) (s t : State) : Prop where
  regs : ∀ r ∈ hbRegs, t.rd r (4 * n + hb) = s.rd r (4 * n + hb)
  dead : t.rd .DEAD_TIME n = s.rd .DEAD_TIME n
  pair : t.pairOf n hb = s.pairOf n hb

namespace State.SameBridge

section
variable {n hb : Nat} {s t : State} (h : State.SameBridge n hb s t)
include h

theorem cmd : t.rd .swCmd (4 * n + hb) = s.rd .swCmd (4 * n + hb) := h.regs .swCmd (by decide)

theorem onFrom : t.onFrom n hb = s.onFrom n hb := onFrom_congr h.regs h.dead

/-- Another half-bridge takes its pair. -/
theorem switchOther {j : Nat} (hj : j ≠ hb) (c : Nat) : State.SameBridge n hb s (t.switchHb n j c) := by
  have kept : Keeps State.switchHb_may t (t.switchHb n j c) := switchHb_keeps n j c (keeps_refl _ t) may_self
  have within := State.Within.switchHb (P := fun _ i => i = 4 * n + j) (fun _ _ => rfl) (within_refl t _) c
  have apart : 4 * n + hb ≠ 4 * n + j := by omega
  refine ⟨fun r hr => (within r _ apart).trans (h.regs r hr), (kept.rd .DEAD_TIME n (by decide +kernel)).trans h.dead, ?_⟩
  have ranks : ∀ r ∈ rankRegs, State.switchHb_may.testBit r.ctorIdx = false := fun r hr =>
    testBit_of_apart (a := mayRegs rankRegs) (by decide +kernel) (mayRegs_testBit_mem hr)
  exact (pairOf_congr (fun r hr i => kept.rd r i (ranks r hr)) n hb).trans h.pair

theorem switchOthers (l : List Nat) (hl : hb ∉ l) (c : Nat) : State.SameBridge n hb s (l.foldl (fun y j => y.switchHb n j c) t) := by
  induction l generalizing t with
  | nil => exact h
  | cons j l ih =>
    obtain ⟨first, others⟩ := not_or.mp (mt List.mem_cons.mpr hl)
    exact ih (h.switchOther (fun e => first e.symm) c) others

end

end State.SameBridge

theorem sameBridge_refl (n hb : Nat) (s : State) : State.SameBridge n hb s s := ⟨fun _ _ => rfl, rfl, rfl⟩

/-- The half-bridges of an axis take their pairs in turn, and none changes what another finds. -/
theorem switchAt_bridge (s : State) (n c : Nat) {hb : Nat} (hhb : hb < 4) :
    ∃ y, State.SameBridge n hb s y ∧ State.SameBridge n hb (y.switchHb n hb c) (s.switchAt n c) := by
  obtain ⟨l1, l2, e⟩ := List.append_of_mem (List.mem_range.mpr hhb)
  have once : (hb :: (l1 ++ l2)).Nodup := List.nodup_middle.mp (e ▸ List.nodup_range)
  obtain ⟨before, after⟩ := not_or.mp (mt List.mem_append.mpr (List.nodup_cons.mp once).1)
  refine ⟨_, (sameBridge_refl n hb s).switchOthers l1 before c, ?_⟩
  unfold State.switchAt State.forAll
  rw [e, List.foldl_append, List.foldl_cons]
  exact (sameBridge_refl n hb _).switchOthers l2 after c

/-- A half-bridge whose pair is commanded already stays as it is. -/
theorem switchAt_stays {s : State} {n hb : Nat} (hhb : hb < 4) (c : Nat) (same : s.rdN .swCmd (4 * n + hb) = s.pairOf n hb) :
    (s.switchAt n c).rd .swCmd (4 * n + hb) = s.rd .swCmd (4 * n + hb) ∧ (s.switchAt n c).onFrom n hb = s.onFrom n hb := by
  obtain ⟨y, before, after⟩ := switchAt_bridge s n c hhb
  have cmd : y.rdN .swCmd (4 * n + hb) = y.pairOf n hb := by
    rw [before.pair, ← same]
    exact congrArg Int.toNat before.cmd
  have stays : y.switchHb n hb c = y := if_pos cmd
  rw [stays] at after
  exact ⟨after.cmd.trans before.cmd, after.onFrom.trans before.onFrom⟩

/-- A half-bridge whose low switch is on and whose high one is commanded switches over: the high one is on one dead time later (R141, R142). -/
theorem switchHb_rises {y : State} {n hb c : Nat} (low : y.rd .swCmd (4 * n + hb) = 2) (pair : y.pairOf n hb = 1) (on : y.onFrom n hb ≤ c) :
    (y.switchHb n hb c).rd .swCmd (4 * n + hb) = 1 ∧ (y.switchHb n hb c).onFrom n hb = c + y.rdN .DEAD_TIME n := by
  have risen : y.switchHb n hb c =
      ((y.wr .swLowOff (4 * n + hb) (c + 1 : Nat)).wr .swCmd (4 * n + hb) (1 : Nat)).wr .swAt (4 * n + hb) c := by
    unfold State.switchHb
    extract_lets k p x z
    have plain : x = y := if_neg (by simp [State.switchOn, low])
    have off : z = y.wr .swLowOff k (c + 1 : Nat) := by
      unfold z
      rw [plain]
      exact if_pos (by simp [State.switchOn, low, on])
    rw [if_neg (by simp [State.rdN, k, p, low, pair]), off]
    unfold p
    rw [pair]
  rw [risen]
  unfold State.onFrom State.rdN
  simp only [State.rd_wr, reduceCtorEq, false_and, if_false, and_self, if_true, Int.toNat_natCast, Nat.cast_one]
  exact ⟨trivial, by omega⟩

theorem switchAt_rises {s : State} {n hb c : Nat} (hhb : hb < 4) (low : s.rd .swCmd (4 * n + hb) = 2) (pair : s.pairOf n hb = 1)
    (on : s.onFrom n hb ≤ c) :
    (s.switchAt n c).rd .swCmd (4 * n + hb) = 1 ∧ (s.switchAt n c).onFrom n hb = c + s.rdN .DEAD_TIME n := by
  obtain ⟨y, before, after⟩ := switchAt_bridge s n c hhb
  obtain ⟨cmd, time⟩ := switchHb_rises (before.cmd.trans low) (before.pair.trans pair) (before.onFrom.trans_le on)
  refine ⟨after.cmd.trans cmd, after.onFrom.trans (time.trans ?_)⟩
  rw [State.rdN, before.dead, State.rdN]

-- a phase that turns on

/-- A turn of the chopper writes its phase, then its half-bridges take their pairs. -/
theorem turn_switches (s : State) (n ph st rev c : Nat) : ∃ x,
    Keeps (may .phWas ||| may .phWasAt ||| may .phSince ||| may .phState ||| may .phRev) s x ∧ x.rd .phState (2 * n + ph) = st ∧
      s.turn n ph st rev c = x.switchAt n c := by
  unfold State.turn
  extract_lets p x y
  have step {y : State} (h : Keeps (may .phWas ||| may .phWasAt ||| may .phSince ||| may .phState ||| may .phRev) s y) (r : Reg) (i : Nat) (v : Int)
      (hr : r ∈ [Reg.phWas, .phWasAt, .phSince, .phState, .phRev]) :
      Keeps (may .phWas ||| may .phWasAt ||| may .phSince ||| may .phState ||| may .phRev) s (y.wr r i v) := by
    refine keeps_wr h r i v ?_
    revert r
    decide +kernel
  have older : Keeps _ s x := keeps_foldl (keeps_refl _ s) fun _ _ g => step (step g .phWas _ _ (by decide)) .phWasAt _ _ (by decide)
  refine ⟨_, step (step (step (step (step older .phWas _ _ (by decide)) .phWasAt _ _ (by decide)) .phSince _ _ (by decide)) .phState _ _ (by decide))
    .phRev _ _ (by decide), ?_, rfl⟩
  exact (State.rd_wr_ne _ _ _ _ (by decide)).trans (State.rd_wr_same ..)

/-- The pair of a half-bridge of a phase that is ON (R102). -/
theorem chopPair_on (sign : Int) (hb : Nat) : chopPair 1 sign hb = if decide (hb % 2 = 0) = decide (0 < sign) then 1 else 2 := rfl

/-- The state with which an on command finds its half-bridges: no higher rank is active, and both low switches of the phase are on. -/
structure State.RunsLow (s : State) (n ph c : Nat) : Prop where
  forced  : s.forcedOff n = false
  brake   : s.rd .brakeOn (dieOf n) = 0
  drive   : s.driveOf n = 1 ∨ s.driveOf n = 2
  refresh : ∀ hb, hb < 2 → s.rd .refreshOn (4 * n + (2 * ph + hb)) = 0
  low     : ∀ hb, hb < 2 → s.rd .swCmd (4 * n + (2 * ph + hb)) = 2
  on      : ∀ hb, hb < 2 → s.onFrom n (2 * ph + hb) ≤ c

theorem Keeps.runsLow {m : Nat} {s t : State} {n ph c : Nat} (k : Keeps m s t) (h : s.RunsLow n ph c)
    (hm : m &&& mayRegs (.DEAD_TIME :: higherRegs ++ hbRegs) = 0 := by decide +kernel) : t.RunsLow n ph c := by
  have same : ∀ r ∈ Reg.DEAD_TIME :: higherRegs ++ hbRegs, ∀ i, t.rd r i = s.rd r i := fun r hr i =>
    k.rd r i (testBit_of_apart hm (mayRegs_testBit_mem hr))
  have higher : ∀ r ∈ higherRegs, ∀ i, t.rd r i = s.rd r i := fun r hr => same r (List.mem_append_left _ (List.mem_cons_of_mem _ hr))
  constructor
  case forced => rw [forcedOff_congr higher, h.forced]
  case brake => rw [same .brakeOn (by decide), h.brake]
  case drive => rw [driveOf_congr higher]; exact h.drive
  case refresh => exact fun hb hhb => (same .refreshOn (by decide) _).trans (h.refresh hb hhb)
  case low => exact fun hb hhb => (same .swCmd (by decide) _).trans (h.low hb hhb)
  case on =>
    intro hb hhb
    rw [onFrom_congr (fun r hr => same r (List.mem_append_right _ hr) _) (same .DEAD_TIME (by decide) n)]
    exact h.on hb hhb

section
variable {s : State} {n ph c : Nat} (hph : ph < 2) (h : s.RunsLow n ph c)
include hph h

/-- A half-bridge of a phase that is commanded on follows its pair: the low switch stays on, or the high one is on after the dead time. -/
theorem turnedOn_bridge {hb : Nat} (hhb : hb < 2) :
    let pair := chopPair 1 (s.refIn n ph c).sign (2 * ph + hb)
    let u := s.turnedOn n ph c
    u.rdN .swCmd (4 * n + (2 * ph + hb)) = pair ∧ u.chopCmd n (2 * ph + hb) = pair ∧
      (pair = 1 → u.onFrom n (2 * ph + hb) = c + s.rdN .DEAD_TIME n) ∧ (pair = 2 → u.onFrom n (2 * ph + hb) ≤ c) := by
  extract_lets pair u
  obtain ⟨state, -, sign, -⟩ := turnedOn_shows s n ph c
  obtain ⟨x, kept, turned, e⟩ := turn_switches (s.wr .phSign (2 * n + ph) (s.refIn n ph c).sign) n ph 1 0 c
  have signed : Keeps (may .phSign) s (s.wr .phSign (2 * n + ph) (s.refIn n ph c).sign) := keeps_wr (keeps_refl _ s) _ _ _ may_self
  have low : x.RunsLow n ph c := kept.runsLow (signed.runsLow h)
  have here : 2 * n + (2 * ph + hb) / 2 = 2 * n + ph := by omega
  have commanded : x.pairOf n (2 * ph + hb) = pair := by
    rw [pairOf_chopping low.forced low.brake low.drive (low.refresh hb hhb), State.chopCmd, here, State.rdN, turned,
      kept.rd .phSign _ (by decide +kernel), State.rd_wr_same]
    rfl
  have dead : x.rdN .DEAD_TIME n = s.rdN .DEAD_TIME n :=
    congrArg Int.toNat ((kept.rd .DEAD_TIME n (by decide +kernel)).trans (signed.rd .DEAD_TIME n (by decide +kernel)))
  have noted : Keeps (may .phOnPrev) (x.switchAt n c) u := by
    unfold u State.turnedOn
    rw [e]
    exact keeps_wr (keeps_refl _ _) _ _ _ may_self
  have time : u.onFrom n (2 * ph + hb) = (x.switchAt n c).onFrom n (2 * ph + hb) :=
    onFrom_congr (fun r hr => noted.rd r _ (by revert r; decide +kernel)) (noted.rd .DEAD_TIME n (by decide +kernel))
  have cmd : u.rdN .swCmd (4 * n + (2 * ph + hb)) = ((x.switchAt n c).rd .swCmd (4 * n + (2 * ph + hb))).toNat :=
    congrArg Int.toNat (noted.rd .swCmd _ (by decide +kernel))
  have chop : u.chopCmd n (2 * ph + hb) = pair := by
    rw [State.chopCmd, here, State.rdN, state, sign]
    rfl
  have two : pair = 1 ∨ pair = 2 := by
    unfold pair
    rw [chopPair_on]
    split
    · exact .inl rfl
    · exact .inr rfl
  rw [cmd, time]
  rcases two with one | two
  · obtain ⟨rises, from'⟩ := switchAt_rises (by omega) (low.low hb hhb) (commanded.trans one) (low.on hb hhb)
    refine ⟨by rw [rises, one]; rfl, chop, fun _ => by rw [from', dead], fun e => absurd (one.symm.trans e) (by decide)⟩
  · obtain ⟨stays, from'⟩ := switchAt_stays (s := x) (n := n) (hb := 2 * ph + hb) (by omega) c (by rw [commanded, two, State.rdN, low.low hb hhb]; rfl)
    refine ⟨by rw [stays, low.low hb hhb, two]; rfl, chop, fun e => absurd (e.symm.trans two) (by decide), fun _ => ?_⟩
    rw [from']
    exact low.on hb hhb

/-- The switches of a phase that turns on are on one dead time after the command: one of its half-bridges switches over (R104, R142). -/
theorem turnedOn_onCycle : (s.turnedOn n ph c).onCycle n ph c = c + s.rdN .DEAD_TIME n := by
  obtain ⟨cmdA, chopA, riseA, stayA⟩ := turnedOn_bridge hph h (hb := 0) (by decide)
  obtain ⟨cmdB, chopB, riseB, stayB⟩ := turnedOn_bridge hph h (hb := 1) (by decide)
  have followsA := cmdA.trans chopA.symm
  have followsB := cmdB.trans chopB.symm
  have reached : (s.turnedOn n ph c).onCycle n ph c =
      max (max 0 ((s.turnedOn n ph c).onFrom n (2 * ph))) ((s.turnedOn n ph c).onFrom n (2 * ph + 1)) :=
    if_pos (by simpa using ⟨followsA, followsB⟩)
  rw [reached]
  by_cases positive : 0 < (s.refIn n ph c).sign
  · have pairA : chopPair 1 (s.refIn n ph c).sign (2 * ph + 0) = 1 := by simp [chopPair_on, positive]
    have pairB : chopPair 1 (s.refIn n ph c).sign (2 * ph + 1) = 2 := by simp [chopPair_on, positive]
    have first := riseA pairA
    have second := stayB pairB
    rw [Nat.add_zero] at first
    omega
  · have pairA : chopPair 1 (s.refIn n ph c).sign (2 * ph + 0) = 2 := by simp [chopPair_on, positive]
    have pairB : chopPair 1 (s.refIn n ph c).sign (2 * ph + 1) = 1 := by simp [chopPair_on, positive]
    have first := stayA pairA
    have second := riseB pairB
    rw [Nat.add_zero] at first
    omega

end

end Sys2Proof.Machine
end

section
/-! PROOFS. The events of a chopper and the off time that runs out (O27; R104–R106), and O27 itself. -/
namespace Sys2Proof.Machine

set_option Elab.async false

-- events of a chopper that is ready

section
variable {t : Nat} {n : Fin 64} {ph : Fin 2} {s0 : State}

/-- Every event of a chopper is its own step on the state that it finds, after what the chopper has done by itself. -/
theorem exec_chopEvent {e : Instr}
    (he : e ∈ [.chopperPeak t n ph, .chopperValley t n ph, .offTimeMax t n ph, .refSignChange t n ph, .fastBelowTwoCodes t n ph]) :
    ∃ f, exec e s0 = .next (s0.chopEvent t n ph f) := by
  simp only [List.mem_cons, List.not_mem_nil, or_false] at he
  rcases he with rfl | rfl | rfl | rfl | rfl <;> exact ⟨_, rfl⟩

variable (r : (s0.at t).ChopperReady n ph)
include r

/-- A sign change of REF starts a reversal, whatever event the cycle brings (R104). -/
theorem signChange_clause (changed : (s0.at t).signChanged n ph = true) (f : State → State) :
    (s0.chopEvent t n ph f).rd .phState (2 * n.val + ph.val) = 3 ∧ (s0.chopEvent t n ph f).rd .phRev (2 * n.val + ph.val) = 1 := by
  have on : (s0.at t).rd .phState (2 * n.val + ph.val) ≠ 0 := fun off => by simp [State.signChanged, off] at changed
  rw [chopEvent_ready r on, if_pos changed]
  exact reverse_shows ..

variable (same : (s0.at t).signChanged n ph = false)
include same

theorem chopEvent_steps (on : (s0.at t).rd .phState (2 * n.val + ph.val) ≠ 0) (f : State → State) :
    s0.chopEvent t n ph f = f ((s0.at t).looked n ph) := by
  rw [chopEvent_ready r on, if_neg (by rw [same]; decide)]

end

-- the peak

section
variable (s : State) (n ph : Nat)

theorem looked_decays : ((s.looked n ph).decaysFast n ph ↔ s.decaysFast n ph) ∧ ((s.looked n ph).decaysMixed n ↔ s.decaysMixed n) := by
  unfold State.decaysFast State.decaysMixed
  rw [looked_rd s n ph .effDecay n, looked_rd s n ph .effMix n, looked_rdN s n ph .phOnRef, (looked_sameRef s n ph).refNow]
  exact ⟨Iff.rfl, Iff.rfl⟩

end

section
variable {t : Nat} {n : Fin 64} {ph : Fin 2} {s0 : State} (r : (s0.at t).ChopperReady n ph) (same : (s0.at t).signChanged n ph = false)
include r same

theorem peak_clause (on : (s0.at t).rd .phState (2 * n.val + ph.val) = 1) :
    let s := s0.at t
    let p := 2 * n.val + ph.val
    ∃ u, exec (.chopperPeak t n ph) s0 = .next u ∧
      (s.rdN .phOnAt p + s.rdN .effBlank n ≤ s.ckp →
        u.rd .phState p = (if s.rd .effDecay n = 2 ∨ (s.rd .effDecay n = 3 ∧ s.rd .effMix n ≠ 0) ∨
          (s.rd .effDecay n = 0 ∧ (s.refNow n ph).natAbs < s.rdN .phOnRef p) then 3 else 2) ∧
        u.rd .phMixEnd p = (if s.rd .effDecay n = 3 ∧ s.rd .effMix n ≠ 0 then (s.ckp + s.rdN .effMix n + 1 : Nat) else 0) ∧
        u.rd .phOffAt p = (s.ckp : Int) ∧ u.rd .phTon p = (s.ckp - s.rdN .phOnAt p : Nat) ∧ u.rd .phPeak p = 1 ∧
        (s.rd .EARLY_TRIPS n + 1 < 2 ^ 32 → u.rd .EARLY_TRIPS n =
          s.rd .EARLY_TRIPS n + (if s.ckp = s.rdN .phOnAt p + s.rdN .effBlank n then 1 else 0))) ∧
      (s.ckp < s.rdN .phOnAt p + s.rdN .effBlank n →
        u.rd .phState p = 1 ∧ u.rd .phOffAt p = s.rd .phOffAt p ∧ u.rd .phOnAt p = s.rd .phOnAt p) := by
  intro s p
  let y := s.looked n ph
  have cycle : y.ckp = s.ckp := (looked_sameRef s n ph).ckp
  have onAt : y.rdN .phOnAt p = s.rdN .phOnAt p := looked_rdN ..
  have blank : y.rdN .effBlank n = s.rdN .effBlank n := looked_rdN ..
  have conducts : y.rd .phState p = 1 := (looked_rd ..).trans on
  obtain ⟨isFast, isMixed⟩ := looked_decays s n ph
  refine ⟨y.peak n ph, congrArg Host.Outcome.next (chopEvent_steps r same (by rw [on]; decide) _), fun clear => ?_, fun early => ?_⟩
  · have ended := peak_ends y n ph conducts ((looked_rd ..).trans r.pend) (by rwa [cycle, onAt, blank])
    rw [isFast, isMixed, cycle, onAt, blank, looked_rdN s n ph .effMix n, looked_rd s n ph .EARLY_TRIPS n] at ended
    obtain ⟨fast, slow, mixed, plain, rest⟩ := ended
    refine ⟨?_, ?_, rest⟩
    · split
      · exact fast ‹_›
      · exact slow ‹_›
    · split
      · exact mixed ‹_›
      · exact plain ‹_›
  · rw [peak_early y n ph (by rwa [cycle, onAt, blank])]
    exact ⟨conducts, looked_rd .., looked_rd ..⟩

end

-- the valley, and the end of FAST

/-- The step of a valley event, and that of |REF| or the current below two codes in FAST (R104). -/
def State.valley (s : State) (n ph : Nat) : State :=
  if s.inOff n ph && s.rd .phRev (2 * n + ph) = 0 && decide (s.rdN .phOffAt (2 * n + ph) + 50 ≤ s.ckp) then s.startOn n ph s.ckp else s

def State.fastEnd (s : State) (n ph : Nat) : State :=
  if s.rd .phState (2 * n + ph) = 3 then
    if s.rd .phRev (2 * n + ph) = 0 then (s.turn n ph 2 0 s.ckp).wr .phMixEnd (2 * n + ph) 0
    else if s.inOff n ph && decide (s.rdN .phOffAt (2 * n + ph) + 50 ≤ s.ckp) then s.startOn n ph s.ckp
    else s
  else s

/-- The cycle in which the switches of an on time that ends a SLOW off time are on (R104). -/
theorem startOn_time {s : State} {n ph c : Nat} (hph : ph < 2) (free : s.rd .phW (2 * n + ph) ≠ 63) (low : s.RunsLow n ph c) :
    (s.startOn n ph c).rd .phOnAt (2 * n + ph) = (c + s.rdN .DEAD_TIME n : Nat) := by
  have ended : Keeps (may .phOffEnd) s (s.wr .phOffEnd (2 * n + ph) c) := keeps_wr (keeps_refl _ s) _ _ _ may_self
  obtain ⟨-, -, -, -, -, time⟩ := commandOn_shows (s.wr .phOffEnd (2 * n + ph) c) n ph c
  have dead : (s.wr .phOffEnd (2 * n + ph) c).rdN .DEAD_TIME n = s.rdN .DEAD_TIME n := congrArg Int.toNat (ended.rd .DEAD_TIME n (by decide +kernel))
  rw [startOn_free s n ph free, time, turnedOn_onCycle hph (ended.runsLow low), dead]

/-- A phase in an off time of which no event has ended anything is in an off time that may end (R104). -/
theorem looked_inOff {s : State} {n ph : Nat} (r : s.ChopperReady n ph) (off : s.rd .phState (2 * n + ph) = 2 ∨ s.rd .phState (2 * n + ph) = 3) :
    (s.looked n ph).inOff n ph = true := by
  have cmd : (s.looked n ph).rd .phCmd (2 * n + ph) = 0 := (looked_rd ..).trans r.cmd
  have ref : (s.looked n ph).refNow n ph ≠ 0 := ((looked_sameRef s n ph).refNow n ph).trans_ne r.ref
  have state : (s.looked n ph).rd .phState (2 * n + ph) = s.rd .phState (2 * n + ph) := looked_rd ..
  rcases off with e | e <;> simp [State.inOff, cmd, ref, state, e]

section
variable {t : Nat} {n : Fin 64} {ph : Fin 2} {s0 : State} (r : (s0.at t).ChopperReady n ph) (same : (s0.at t).signChanged n ph = false)
include r same

theorem valley_clause (off : (s0.at t).rd .phState (2 * n.val + ph.val) = 2 ∨ (s0.at t).rd .phState (2 * n.val + ph.val) = 3)
    (forward : (s0.at t).rd .phRev (2 * n.val + ph.val) = 0) :
    let s := s0.at t
    let p := 2 * n.val + ph.val
    ∃ u, exec (.chopperValley t n ph) s0 = .next u ∧
      (s.rdN .phOffAt p + 50 ≤ s.ckp → s.rd .phW p ≠ 63 →
        u.rd .phState p = 1 ∧ u.rd .phSign p = (s.refNow n ph).sign ∧ u.rd .phOnPrev p = s.rd .phOnAt p ∧
        (s.rd .phState p = 2 → s.forcedOff n = false → s.rd .brakeOn (dieOf n) = 0 → s.driveOf n = 1 ∨ s.driveOf n = 2 →
          (∀ hb : Fin 2, let k := 4 * n.val + 2 * ph.val + hb.val;
            s.rd .refreshOn k = 0 ∧ s.rd .swCmd k = 2 ∧ s.onFrom n (2 * ph.val + hb.val) ≤ s.ckp) →
          u.rd .phOnAt p = (s.ckp + s.rdN .DEAD_TIME n : Nat))) ∧
      (s.rdN .phOffAt p + 50 ≤ s.ckp → s.rd .phState p = 2 → s.rd .phW p = 63 → s.bit .phFlags p 5 = true →
        s.ckp + s.rdN .DEAD_TIME n < s.rdN .phOnAt p + 625 → s.rd .FREQ_CAPS n + 1 < 2 ^ 32 →
        u.rd .phState p = 2 ∧ u.rd .phCmd p = (s.rdN .phOnAt p + 626 - s.rdN .DEAD_TIME n : Nat) ∧ u.rd .FREQ_CAPS n = s.rd .FREQ_CAPS n + 1) ∧
      (s.ckp < s.rdN .phOffAt p + 50 → u.rd .phState p = s.rd .phState p ∧ u.rd .phOnAt p = s.rd .phOnAt p) := by
  intro s p
  let y := s.looked n ph
  have ref : s.SameRef y := looked_sameRef s n ph
  have cycle : y.ckp = s.ckp := ref.ckp
  have offAt : y.rdN .phOffAt p = s.rdN .phOffAt p := looked_rdN ..
  have width : y.rd .phW p = s.rd .phW p := looked_rd ..
  have runs : y.rd .phRev p = 0 := (looked_rd ..).trans forward
  have inOff : y.inOff n ph = true := looked_inOff r off
  have ends (late : s.rdN .phOffAt p + 50 ≤ s.ckp) : y.valley n ph = y.startOn n ph s.ckp :=
    (if_pos (by simp [inOff, runs, p, offAt, cycle, late])).trans (by rw [cycle])
  refine ⟨y.valley n ph,
    congrArg Host.Outcome.next (chopEvent_steps r same (by rcases off with e | e <;> rw [e] <;> decide) _),
    fun late free => ?turns, fun late slow wide started soon room => ?capped, fun early => ?ignored⟩
  case turns =>
    obtain ⟨state, -, sign, -, prev⟩ := startOn_shows y n ph (c := s.ckp) (width.trans_ne free)
    rw [ends late]
    refine ⟨state, sign.trans (congrArg Int.sign (ref.refIn n ph s.ckp)), prev.trans (looked_rd ..), fun _ forced brake drive bridge => ?_⟩
    have low : s.RunsLow n ph s.ckp :=
      ⟨forced, brake, drive, fun hb hhb => Nat.add_assoc .. ▸ (bridge ⟨hb, hhb⟩).1, fun hb hhb => Nat.add_assoc .. ▸ (bridge ⟨hb, hhb⟩).2.1,
        fun hb hhb => (bridge ⟨hb, hhb⟩).2.2⟩
    rw [startOn_time ph.isLt (width.trans_ne free) ((looked_keeps s n ph).runsLow low), looked_rdN s n ph .DEAD_TIME n]
  case capped =>
    have onAt : y.rdN .phOnAt p = s.rdN .phOnAt p := looked_rdN ..
    have dead : y.rdN .DEAD_TIME n = s.rdN .DEAD_TIME n := looked_rdN ..
    have caps : (y.wr .phOffEnd p s.ckp).rd .FREQ_CAPS n = s.rd .FREQ_CAPS n := (State.rd_wr_ne _ _ _ _ (by decide)).trans (looked_rd ..)
    have state : y.rd .phState p = 2 := (looked_rd ..).trans slow
    rw [ends late, startOn_capped y n ph state (width.trans wide) ((looked_started s n ph).trans started) (by rwa [onAt, dead]), onAt, dead]
    refine ⟨?_, State.rd_wr_same .., ?_⟩
    · rw [State.rd_wr_ne _ _ _ _ (by decide), rd_count_ne _ _ _ _ _ _ (by decide), State.rd_wr_ne _ _ _ _ (by decide), state]
    · rw [State.rd_wr_ne _ _ _ _ (by decide), State.count_one (by rwa [caps]), State.rd_wr_same, caps]
  case ignored =>
    have stays : y.valley n ph = y := if_neg (by simp [p, offAt, cycle, early])
    rw [stays]
    exact ⟨looked_rd .., looked_rd ..⟩

theorem fastBelow_clause (fast : (s0.at t).rd .phState (2 * n.val + ph.val) = 3) :
    let s := s0.at t
    let p := 2 * n.val + ph.val
    ∃ u, exec (.fastBelowTwoCodes t n ph) s0 = .next u ∧
      (s.rd .phRev p = 0 → u.rd .phState p = 2) ∧
      (s.rd .phRev p ≠ 0 → s.rd .phW p ≠ 63 → s.rdN .phOffAt p + 50 ≤ s.ckp → u.rd .phState p = 1 ∧ u.rd .phSign p = (s.refNow n ph).sign) ∧
      (s.rd .phRev p ≠ 0 → s.ckp < s.rdN .phOffAt p + 50 → u.rd .phState p = 3) := by
  intro s p
  let y := s.looked n ph
  have ref : s.SameRef y := looked_sameRef s n ph
  have cycle : y.ckp = s.ckp := ref.ckp
  have offAt : y.rdN .phOffAt p = s.rdN .phOffAt p := looked_rdN ..
  have state : y.rd .phState p = 3 := (looked_rd ..).trans fast
  have rev : y.rd .phRev p = s.rd .phRev p := looked_rd ..
  have inOff : y.inOff n ph = true := looked_inOff r (.inr fast)
  have back : s.rd .phRev p ≠ 0 → y.fastEnd n ph =
      if y.inOff n ph && decide (y.rdN .phOffAt p + 50 ≤ y.ckp) then y.startOn n ph y.ckp else y := fun h =>
    (if_pos state).trans (if_neg (rev.trans_ne h))
  refine ⟨y.fastEnd n ph,
    congrArg Host.Outcome.next (chopEvent_steps r same (by rw [fast]; decide) _), fun forward => ?_, fun h free late => ?_, fun h early => ?_⟩
  · have slow : y.fastEnd n ph = (y.turn n ph 2 0 y.ckp).wr .phMixEnd p 0 := (if_pos state).trans (if_pos (rev.trans forward))
    rw [slow, State.rd_wr_ne _ _ _ _ (by decide)]
    exact (turn_shows y n ph 2 0 _).1
  · obtain ⟨on, -, sign, -, -⟩ := startOn_shows y n ph (c := s.ckp) ((looked_rd ..).trans_ne free)
    rw [back h, if_pos (by simp [inOff, offAt, cycle, late]), cycle]
    exact ⟨on, sign.trans (congrArg Int.sign (ref.refIn n ph s.ckp))⟩
  · rw [back h, if_neg (by simp [offAt, cycle, early])]
    exact state

end

-- the off time that runs out

section
variable {s : State} {n ph c : Nat}

/-- The end of an off time by TOFF_MAX is counted, but for a reversal's (R104). -/
def State.expired (s : State) (n ph : Nat) : State :=
  (s.iff (s.rd .phRev (2 * n + ph) = 0) (fun y => y.count .OFF_TIMEOUTS n)).wrBit .phFlags (2 * n + ph) 2 true

theorem expired_keeps (s : State) (n ph : Nat) : Keeps (may .OFF_TIMEOUTS ||| may .phFlags ||| State.count_may) s (s.expired n ph) :=
  wrBit_keeps .phFlags _ _ _ (keeps_iff (keeps_refl _ s) fun _ g => count_keeps .OFF_TIMEOUTS n 1 32 g)

theorem expired_counts (room : s.rd .OFF_TIMEOUTS n + 1 < 2 ^ 32) :
    (s.expired n ph).rd .OFF_TIMEOUTS n = s.rd .OFF_TIMEOUTS n + (if s.rd .phRev (2 * n + ph) = 0 then 1 else 0) := by
  rw [State.expired, State.rd_wrBit_ne _ _ _ _ _ (by decide), State.iff]
  by_cases forward : s.rd .phRev (2 * n + ph) = 0
  · rw [if_pos (decide_eq_true forward), if_pos forward, State.count_one room, State.rd_wr_same]
  · rw [if_neg (by simp [forward]), if_neg forward, Int.add_zero]

/-- What TOFF_MAX finds of an off time that has run out before cycle `c` (R104): REF is not 0, and has not changed its sign since. -/
structure State.RunsOut (s : State) (n ph c : Nat) : Prop where
  off  : s.rd .phState (2 * n + ph) = 2 ∨ s.rd .phState (2 * n + ph) = 3
  cmd  : s.rd .phCmd (2 * n + ph) = 0
  late : s.rdN .phOffAt (2 * n + ph) + s.rdN .effToff n < c
  atEnd : s.refIn n ph (s.rdN .phOffAt (2 * n + ph) + s.rdN .effToff n) ≠ 0
  now  : s.refIn n ph c ≠ 0
  sign : s.rd .phRev (2 * n + ph) ≠ 0 ∨ s.rd .phSign (2 * n + ph) = 0 ∨
    (s.refIn n ph (s.rdN .phOffAt (2 * n + ph) + s.rdN .effToff n)).sign = s.rd .phSign (2 * n + ph)

theorem toffDone_expires (h : s.RunsOut n ph c) :
    s.toffDone n ph c = (s.expired n ph).startOn n ph (s.rdN .phOffAt (2 * n + ph) + s.rdN .effToff n) := by
  unfold State.toffDone
  extract_lets p x e y
  have instant : e = x := if_neg h.atEnd
  rw [if_pos (by rcases h.off with off | off <;> simp [p, x, off, h.cmd, h.late, h.now]), instant]
  refine if_neg ?_
  simp only [Bool.and_eq_true, decide_eq_true_eq]
  rintro ⟨⟨forward, driven⟩, changed⟩
  rcases h.sign with rev | sign | sign
  · exact rev forward
  · exact driven sign
  · exact changed sign

/-- What a chopper whose off time has run out has done by itself: it has turned on in the cycle of expiry (R104). -/
theorem settlePhase_runsOut (h : s.RunsOut n ph c) (pend : s.rd .phPend (2 * n + ph) = 0) (mix : s.rd .phMixEnd (2 * n + ph) = 0)
    (free : s.rd .phW (2 * n + ph) ≠ 63) : let u := s.settlePhase n ph c
    s.SameRef u ∧ u.rd .phState (2 * n + ph) = 1 ∧ u.rd .phRev (2 * n + ph) = 0 ∧
      u.rd .phSign (2 * n + ph) = (s.refIn n ph (s.rdN .phOffAt (2 * n + ph) + s.rdN .effToff n)).sign ∧
      (s.rd .OFF_TIMEOUTS n + 1 < 2 ^ 32 →
        u.rd .OFF_TIMEOUTS n = s.rd .OFF_TIMEOUTS n + (if s.rd .phRev (2 * n + ph) = 0 then 1 else 0)) := by
  let x := s.rdN .phOffAt (2 * n + ph) + s.rdN .effToff n
  let z := (s.expired n ph).startOn n ph x
  have counted := expired_keeps s n ph
  have ended : Keeps State.startOn_may (s.expired n ph) z := startOn_keeps n ph x (keeps_refl _ _) may_self
  obtain ⟨state, rev, sign, cmd, -⟩ := startOn_shows (s.expired n ph) n ph (c := x) ((counted.rd .phW _ (by decide +kernel)).trans_ne free)
  have settled : s.settlePhase n ph c = (z.onStart n ph c).noteClamp n ph c := by
    unfold State.settlePhase
    rw [if_neg (by rcases h.off with e | e <;> simp [e]), onStart_idle pend, zeroRef_idle h.now, mixDone_idle (.inl mix)]
    dsimp only
    rw [toffDone_expires h, capDone_idle cmd]
  have begun : Keeps (State.onStart_may ||| State.noteClamp_may) z ((z.onStart n ph c).noteClamp n ph c) :=
    noteClamp_keeps n ph c (onStart_keeps n ph c (keeps_refl _ z))
  rw [settled]
  refine ⟨fun r hr i => ?_, ?_, ?_, ?_, fun room => ?_⟩
  · exact ((begun.sameRef (by decide +kernel) r hr i).trans (ended.sameRef (by decide +kernel) r hr i)).trans
      (counted.sameRef (by decide +kernel) r hr i)
  · exact (begun.rd .phState _ (by decide +kernel)).trans state
  · exact (begun.rd .phRev _ (by decide +kernel)).trans rev
  · rw [begun.rd .phSign _ (by decide +kernel), sign, counted.sameRef.refIn]
  · rw [begun.rd .OFF_TIMEOUTS _ (by decide +kernel), ended.rd .OFF_TIMEOUTS _ (by decide +kernel), expired_counts room]

end

theorem offTimeMax_clause {t : Nat} {n : Fin 64} {ph : Fin 2} {s0 : State} :
    let s := s0.at t
    let p := 2 * n.val + ph.val
    s.RunsOut n ph s.ckp → s.rd .phPend p = 0 → s.rd .phMixEnd p = 0 → s.rd .phW p ≠ 63 →
    (s.refNow n ph).sign = (s.refIn n ph (s.rdN .phOffAt p + s.rdN .effToff n)).sign → (∀ hb, hb < 4 → s.rd .refreshWait (4 * n.val + hb) = 0) →
    ∃ u, exec (.offTimeMax t n ph) s0 = .next u ∧ u.rd .phState p = 1 ∧
      u.rd .phSign p = (s.refIn n ph (s.rdN .phOffAt p + s.rdN .effToff n)).sign ∧
      (s.rd .OFF_TIMEOUTS n + 1 < 2 ^ 32 → u.rd .OFF_TIMEOUTS n = s.rd .OFF_TIMEOUTS n + (if s.rd .phRev p = 0 then 1 else 0)) := by
  intro s p h pend mix free steady idle
  obtain ⟨ref, state, rev, sign, counts⟩ := settlePhase_runsOut h pend mix free
  let u := s.settlePhase n ph s.ckp
  have unchanged : u.signChanged n ph = false := by
    have now : (u.refNow n ph).sign = u.rd .phSign p := by rw [ref.refNow, steady, sign]
    simp [State.signChanged, p, now]
  refine ⟨u, congrArg Host.Outcome.next ?_, state, sign, counts⟩
  unfold State.chopEvent
  rw [dueRefresh_idle idle]
  exact if_neg (by rw [unchanged]; decide)

/-- Settles O27: a ready chopper does nothing by itself, so that each event is its own step, or the reversal; one whose off time has run out has turned
on by itself. -/
theorem choppersRunTheirPhases : Obligations.ChoppersRunTheirPhases := by
  unfold Obligations.ChoppersRunTheirPhases
  refine ⟨fun t n ph s0 r => ⟨fun same on => peak_clause r same on, fun changed e he => ?_⟩, fun t n ph s0 => ⟨fun r same => ⟨fun off forward =>
    valley_clause r same off forward, fun fast => fastBelow_clause r same fast⟩,
    fun off pend cmd mix free late atEnd now steady sign idle => offTimeMax_clause ⟨off, cmd, late, atEnd, now, sign⟩ pend mix free steady idle⟩⟩
  obtain ⟨f, run⟩ := exec_chopEvent (s0 := s0) he
  exact ⟨_, run, signChange_clause r changed f⟩

end Sys2Proof.Machine
end

section
/-! PROOFS. HOME records that the profile step of a resting axis takes (O20; R130–R134). -/
namespace Sys2Proof.Machine

set_option Elab.async false

-- the instructions (R130, R131, R134)

/-- The instruction of a HOME record's method runs the profile step. -/
theorem exec_homeRecord {t : Nat} {n : Fin 64} {s0 : State} {m : Move} {e : Instr} (head : (s0.at t).headRec n = some m) (home : m.kind = 9)
    (method : (e, m.method) ∈ [(Instr.homeHere t n, 0), (.homeEndStop t n, 1), (.homeLimitInput t n, 2), (.homeLimitOrEndStop t n, 3),
      (.homeExerciseRun t n, 4)]) :
    exec e s0 = .next ((s0.at t).builtin 2 n ⟨false, false, .clean⟩ (State.profileCommit n)) := by
  have step {k : Nat} (hk : m.method = k) :
      (s0.at t).takeIf n (fun m => m.isHome k) = (s0.at t).builtin 2 n ⟨false, false, .clean⟩ (State.profileCommit n) :=
    takeIf_of_head head (Bool.and_eq_true_iff.mpr ⟨decide_eq_true home, decide_eq_true hk⟩)
  simp only [List.mem_cons, List.not_mem_nil, or_false, Prod.mk.injEq] at method
  rcases method with ⟨rfl, k⟩ | ⟨rfl, k⟩ | ⟨rfl, k⟩ | ⟨rfl, k⟩ | ⟨rfl, k⟩ <;> exact congrArg Host.Outcome.next (step k)

theorem startRec_of_home {s : State} {n : Nat} {m : Move} (home : m.kind = 9) : s.startRec n m = s.startHome n m := by rw [State.startRec, home]; rfl

-- the move queues

namespace State.SameMoves

section
variable {S s : State} (h : S.SameMoves s)
include h

theorem exerciseEnd (n r : Nat) : S.SameMoves (s.exerciseEnd n r) := by
  unfold State.exerciseEnd
  extract_lets s1 s2 s3
  have merged : S.SameMoves s1 := h.same rfl
  have counted : S.SameMoves s2 := ((merged.wr .EX_RESULT n _).wr .EX_TIME n _).count .EX_COUNT n 1 32
  have shown : S.SameMoves s3 := (counted.iff (counted.count .EX_FAILS n 1 32)).event n 10
  exact shown.detect _ _ _ _

theorem homeResult (n method r : Nat) : S.SameMoves (s.homeResult n method r) := by
  unfold State.homeResult
  extract_lets s1 s2
  have begun : S.SameMoves s1 := (h.wr .hmPhase n 0).wr .hmFoundAt n 0
  have shown : S.SameMoves s2 := (begun.wr .HOME_RESULT n r).event n 6
  exact (begun.exerciseEnd n r).ite ((shown.wrBit .brPersist n 12 false).ite (shown.detect _ _ _ _))

theorem homeAtOnce (n : Nat) (m : Move) (r : Nat) : S.SameMoves (s.homeAtOnce n m r) := (h.homeResult n m.method r).completeRec n

theorem completeAtMark (n : Nat) : S.SameMoves (s.completeAtMark n) :=
  h.keeps (completeAtMark_keeps (M := State.completeAtMark_may) n (keeps_refl _ s))

theorem askAssign (n kind : Nat) (v : Int) (what : Nat) : S.SameMoves (s.askAssign n kind v what) := h.same rfl

theorem homeHere (n : Nat) (m : Move) : S.SameMoves (s.homeHere n m) := by
  unfold State.homeHere
  extract_lets s1 s2 s3
  have asked : S.SameMoves s1 := (h.askAssign n 1 m.homeVal 2).count .HOME_COUNT n 1 32
  have homing : S.SameMoves s2 := asked.iff (asked.setAxis n 4)
  exact ((homing.completeAtMark n).wr .finHome n 1).wr .finPend n _

end

end State.SameMoves

-- a search (R131, R134)

section
variable {s : State} {n : Nat} {m : Move}

/-- The state in which the search of a HOME record is planned: a preset is asked for, and the lowest index of an exercise run starts afresh. -/
def State.searchFrom (s : State) (n : Nat) (m : Move) : State :=
  let x := if m.preset then s.askAssign n 1 (s.rd .HOME_PRESET n) 0 else s
  ((x.wr .hmStart n (s.planner n).nxt.x).wr .EX_MIN_INDEX n (if m.method = 4 then 1023 else x.rd .EX_MIN_INDEX n)).wr .exPend n 1023

/-- A HOME record sets out on its search over HOME_SEARCH_DIST; with a preset, the clamps of the search count from the position after it (R131). -/
def State.setOut (s : State) (n : Nat) (m : Move) : State :=
  let x := (s.planner n).nxt.x
  let shift : Int := if m.preset then s.rd .HOME_PRESET n - fdiv x 65536 else 0
  let s := s.searchFrom n m
  s.search n m (x + m.homeDir * s.rd .HOME_SEARCH_DIST n * 65536) 1 shift

/-- A HOME record taken: HERE, one that cannot begin, or a search. -/
theorem startHome_eq (s : State) (n : Nat) (m : Move) : s.startHome n m =
    if m.method = 0 then s.homeHere n m
    else if m.method = 4 && s.rd .EX_TRAVEL n = 0 then s.homeAtOnce n m 6
    else if m.byStall && !((s.refFor n (decide (m.homeDir < 0)) m.speed).isSome &&
        (m.method ≠ 4 || (s.refFor n (decide (-m.homeDir < 0)) m.speed).isSome)) then s.homeAtOnce n m (if m.method = 4 then 6 else 3)
    else if m.method = 2 && !s.limitBound n m.homeDir then s.homeAtOnce n m 6
    else if (m.method = 2 || m.method = 3) && s.limitOn n m.homeDir then s.homeAtOnce n m 4
    else s.setOut n m := rfl

/-- What a search may change before it is planned. -/
def searchFrom_may : Nat := State.askAssign_may ||| may .hmStart ||| may .EX_MIN_INDEX ||| may .exPend

theorem searchFrom_keeps (s : State) (n : Nat) (m : Move) : Keeps searchFrom_may s (s.searchFrom n m) :=
  keeps_wr (keeps_wr (keeps_wr (keeps_ite (askAssign_keeps n 1 _ 0 (keeps_refl _ s)) (keeps_refl _ s)) .hmStart n _ (by decide +kernel))
    .EX_MIN_INDEX n _ (by decide +kernel)) .exPend n 1023 (by decide +kernel)

/-- What a HOME record that sets out may change. -/
def setOut_may : Nat := searchFrom_may ||| State.search_may

theorem setOut_keeps (s : State) (n : Nat) (m : Move) : Keeps setOut_may s (s.setOut n m) :=
  search_keeps n m _ 1 _ ((searchFrom_keeps s n m).mono (by decide +kernel)) (by decide +kernel)

theorem State.HoldsRec.search {S : State} (h : S.HoldsRec n s) (T : Int) (ph : Nat) (shift : Int) : S.HoldsRec n (s.search n m T ph shift) :=
  ((h.newMove T m.speed shift).wr .hmPhase n ph).setAxis n 4

theorem setOut_holds (s : State) (n : Nat) (m : Move) : s.HoldsRec n (s.setOut n m) :=
  ((holdsRec_refl n s).keeps (searchFrom_keeps s n m)).search _ 1 _

/-- The start of a HOME record leaves the move queues alone. -/
theorem startHome_moves (s : State) (n : Nat) (m : Move) : s.SameMoves (s.startHome n m) := by
  have same := sameMoves_refl s
  rw [startHome_eq]
  exact (same.homeHere n m).ite (.ite (same.homeAtOnce n m 6) (.ite (same.homeAtOnce n m _) (.ite (same.homeAtOnce n m 6)
    (.ite (same.homeAtOnce n m 4) (setOut_holds s n m).moves))))

/-- What a HOME record finds that sets out on a search: its references, its travel and its input are there, and no input is active. -/
structure State.SetsOut (s : State) (n : Nat) (m : Move) : Prop where
  method : m.method ≠ 0
  ref    : m.method ≠ 2 → (s.refFor n (decide (m.homeDir < 0)) m.speed).isSome = true
  run    : m.method = 4 → (s.refFor n (decide (-m.homeDir < 0)) m.speed).isSome = true ∧ s.rd .EX_TRAVEL n ≠ 0
  bound  : m.method = 2 → s.rdN (if m.homeDir < 0 then .LIMIT_NEG else .LIMIT_POS) n < 128
  input  : s.rd .LIMIT_STATE n = 0

/-- A HOME record that finds all that its search needs sets out on it. -/
theorem startHome_setsOut (h : s.SetsOut n m) : s.startHome n m = s.setOut n m := by
  have travels : (decide (m.method = 4) && decide (s.rd .EX_TRAVEL n = 0)) = false := by
    by_cases four : m.method = 4
    · simp [(h.run four).2]
    · simp [four]
  have known : (m.byStall && !((s.refFor n (decide (m.homeDir < 0)) m.speed).isSome &&
      (decide (m.method ≠ 4) || (s.refFor n (decide (-m.homeDir < 0)) m.speed).isSome))) = false := by
    by_cases two : m.method = 2
    · simp [Move.byStall, two]
    · by_cases four : m.method = 4
      · rw [h.ref two, (h.run four).1, Bool.or_true, Bool.true_and, Bool.not_true, Bool.and_false]
      · simp [h.ref two, four]
  have bound : (decide (m.method = 2) && !s.limitBound n m.homeDir) = false := by
    by_cases two : m.method = 2
    · simp [State.limitBound, h.bound two]
    · simp [two]
  have free : s.limitOn n m.homeDir = false := by
    rw [State.limitOn, State.bit, State.rdN, h.input]
    exact Bool.and_eq_false_iff.mpr (.inr (Nat.zero_testBit _))
  rw [startHome_eq, if_neg h.method, if_neg (Bool.eq_false_iff.mp travels), if_neg (Bool.eq_false_iff.mp known),
    if_neg (Bool.eq_false_iff.mp bound), if_neg (by rw [free, Bool.and_false]; exact Bool.false_ne_true)]

/-- A reference is found in the table of the axis by its speed and its method alone (R120). -/
theorem refFor_congr {s t : State} {n : Nat} (table : ∀ i, t.rd .SIG_ACTIVE i = s.rd .SIG_ACTIVE i)
    (least : t.rd .LI_MIN_SPEED n = s.rd .LI_MIN_SPEED n) (tol : t.rd .LI_SPEED_TOL n = s.rd .LI_SPEED_TOL n) (neg : Bool) (v : Nat) :
    t.refFor n neg v = s.refFor n neg v := by
  have method : t.methodOf n v = s.methodOf n v := by rw [State.methodOf, State.methodOf, State.rdN, State.rdN, least]
  have entries (k : Nat) : t.sigEntries n k neg = s.sigEntries n k neg := by simp only [State.sigEntries, State.rdN, table]
  rw [State.refFor, State.refFor, method, entries, State.rdN, State.rdN, tol]

/-- A search is a move of an axis in HOMING, in its phase. -/
theorem search_shows (s : State) (n : Nat) (m : Move) (T : Int) (ph : Nat) (shift : Int) :
    (s.search n m T ph shift).rd .AXIS_STATE n = 4 ∧ (s.search n m T ph shift).rd .hmPhase n = ph ∧
      (s.search n m T ph shift).rd .TARGET n = (s.newMove n T m.speed shift).rd .TARGET n := by
  have homing := setAxis_keeps (M := State.setAxis_may) n 4 (keeps_refl _ ((s.newMove n T m.speed shift).wr .hmPhase n ph))
  refine ⟨setAxis_state _ n 4, ?_, ?_⟩
  · rw [State.search, homing.rd .hmPhase n (by decide +kernel), State.rd_wr_same]
  · rw [State.search, homing.rd .TARGET n (by decide +kernel), State.rd_wr_ne _ _ _ _ (by decide)]

/-- Without a preset, a search whose end lies within the soft limits aims at it. -/
theorem setOut_aims {T : Int} (plain : m.preset = false) (sum : T = fdiv (s.planner n).nxt.x 65536 + m.homeDir * s.rd .HOME_SEARCH_DIST n)
    (whole : (s.planner n).nxt.x % 65536 = 0) (lo : s.rd .SOFT_MIN n ≤ T) (hi : T ≤ s.rd .SOFT_MAX n) (input : s.rd .LIMIT_STATE n = 0) :
    (s.setOut n m).rd .TARGET n = T := by
  have goal : (s.planner n).nxt.x + m.homeDir * s.rd .HOME_SEARCH_DIST n * 65536 = T * 65536 := by
    have read : fdiv (s.planner n).nxt.x 65536 = (s.planner n).nxt.x / 65536 := Int.fdiv_eq_ediv_of_nonneg _ (by decide)
    rw [sum, read]
    omega
  have begun := searchFrom_keeps s n m
  obtain ⟨aims, -, -⟩ := newMove_aims (s := s.searchFrom n m) (n := n) (T := T) m.speed (by rwa [begun.rd .SOFT_MIN n (by decide +kernel)])
    (by rwa [begun.rd .SOFT_MAX n (by decide +kernel)]) ((begun.rd .LIMIT_STATE n (by decide +kernel)).trans input)
  obtain ⟨-, -, target⟩ := search_shows (s.searchFrom n m) n m (T * 65536) 1 0
  unfold State.setOut
  dsimp only
  rw [plain, if_neg Bool.false_ne_true, begun.rd .HOME_SEARCH_DIST n (by decide +kernel), goal, target, aims]

end

-- HERE (R130, R132)

section
variable {s : State} {n : Nat} {m : Move} (active : (s.planner n).act = some m)
include active

/-- A record that completes at the next mark leaves its TAG for it, and no record is active. -/
theorem completeAtMark_shows : (s.completeAtMark n).rd .finTag n = m.tag ∧ ((s.completeAtMark n).planner n).act = none := by
  unfold State.completeAtMark
  rw [active]
  dsimp only
  rw [State.rd_wr_ne _ _ _ _ (by decide), State.rd_wr_same, State.planner_wr, State.planner_wr, State.planner_wrPlanner, if_pos rfl]
  exact ⟨rfl, rfl⟩

/-- HERE at rest: the home value is assigned at the next mark, where the record completes with result 1; until then the axis is in HOMING. -/
theorem homeHere_shows (rest : s.rd .AXIS_STATE n = 0 ∨ s.rd .AXIS_STATE n = 1) (room : s.rd .HOME_COUNT n + 1 < 2 ^ 32) :
    let u := s.homeHere n m
    u.rd .finHome n = 1 ∧ u.rd .HOME_COUNT n = s.rd .HOME_COUNT n + 1 ∧ u.rd .finTag n = m.tag ∧ (u.planner n).act = none ∧
      u.rd .asgPend n = 1 ∧ u.rd .asgVal n = m.homeVal ∧ u.rd .AXIS_STATE n = 4 := by
  let a := s.askAssign n 1 m.homeVal 2
  have asked : Keeps State.askAssign_may s a := askAssign_keeps n 1 m.homeVal 2 (keeps_refl _ s)
  let b := a.wr .HOME_COUNT n (s.rd .HOME_COUNT n + 1)
  have counted : a.count .HOME_COUNT n = b := by
    have same : a.rd .HOME_COUNT n = s.rd .HOME_COUNT n := asked.rd .HOME_COUNT n (by decide +kernel)
    rw [State.count_one (by rwa [same]), same]
  let c := b.setAxis n 4
  have homing : b.iff (decide (b.rdN .AXIS_STATE n ≤ 1)) (fun s => s.setAxis n 4) = c := by
    have axis : b.rd .AXIS_STATE n = s.rd .AXIS_STATE n := (State.rd_wr_ne _ _ _ _ (by decide)).trans (asked.rd .AXIS_STATE n (by decide +kernel))
    refine if_pos (decide_eq_true ?_)
    rw [State.rdN, axis]
    rcases rest with e | e <;> rw [e] <;> decide
  have turned : Keeps State.setAxis_may b c := setAxis_keeps n 4 (keeps_refl _ b)
  obtain ⟨tag, none⟩ := completeAtMark_shows (s := c) (n := n) (m := m) ((congrArg Planner.act (turned.planner n)).trans active)
  have done : Keeps State.completeAtMark_may c (c.completeAtMark n) := completeAtMark_keeps n (keeps_refl _ c)
  have here : s.homeHere n m = ((c.completeAtMark n).wr .finHome n 1).wr .finPend n ((c.completeAtMark n).rdN .finPend n ||| 4 : Nat) := by
    unfold State.homeHere
    dsimp only
    rw [show (s.askAssign n 1 m.homeVal 2).count .HOME_COUNT n = b from counted, homing, State.rdN, State.rd_wr_ne _ _ _ _ (by decide)]
    rfl
  have shows (q : Reg) (hf : q ≠ .finPend) (hh : q ≠ .finHome) : (s.homeHere n m).rd q n = (c.completeAtMark n).rd q n := by
    rw [here, State.rd_wr_ne _ _ _ _ hf, State.rd_wr_ne _ _ _ _ hh]
  have early (q : Reg) (own : (State.completeAtMark_may ||| State.setAxis_may).testBit q.ctorIdx = false) :
      (c.completeAtMark n).rd q n = b.rd q n := by
    obtain ⟨inDone, inTurned⟩ := Bool.or_eq_false_iff.mp ((Nat.testBit_or ..).symm.trans own)
    rw [done.rd q n inDone, turned.rd q n inTurned]
  refine ⟨?_, ?_, ?_, ?_, ?_, ?_, ?_⟩
  · rw [here, State.rd_wr_ne _ _ _ _ (by decide), State.rd_wr_same]
  · rw [shows .HOME_COUNT (by decide) (by decide), early .HOME_COUNT (by decide +kernel), State.rd_wr_same]
  · rw [shows .finTag (by decide) (by decide), tag]
  · rw [here, State.planner_wr, State.planner_wr, none]
  · rw [shows .asgPend (by decide) (by decide), early .asgPend (by decide +kernel)]
    simp [b, a, State.askAssign, State.rd_wr]
  · rw [shows .asgVal (by decide) (by decide), early .asgVal (by decide +kernel)]
    simp [b, a, State.askAssign, State.rd_wr]
  · rw [shows .AXIS_STATE (by decide) (by decide), done.rd .AXIS_STATE n (by decide +kernel), setAxis_state]

end

-- what the step leaves

section
variable {s r u : State} {n : Nat} {m : Move} (took : s.Took n m r) (carried : State.Carried n (r.startHome n m) u)
include took carried

theorem home_taken (hn : n < 64) : u.rd .ACTIVE_TAG n = m.tag ∧ u.waiting n + 1 = s.waiting n := by
  have started := startHome_keeps (M := State.startHome_may) n m (keeps_refl _ r)
  have queue : u.queue n = r.queue n := ((startHome_moves r n m).trans carried.holds.moves).queue n hn
  refine ⟨?_, ?_⟩
  · rw [carried.keeps.rd .ACTIVE_TAG n (by decide +kernel), started.rd .ACTIVE_TAG n (by decide +kernel), took.tag]
  · rw [State.waiting, queue]
    exact took.queue

theorem home_here (rest : s.AtRest n) (here : m.method = 0) (room : s.rd .HOME_COUNT n + 1 < 2 ^ 32) :
    u.rd .finHome n = 1 ∧ u.rd .HOME_COUNT n = s.rd .HOME_COUNT n + 1 ∧ u.rd .finTag n = m.tag ∧ (u.planner n).act = none ∧
      u.rd .asgPend n = 1 ∧ u.rd .asgVal n = m.homeVal ∧ u.rd .AXIS_STATE n = 4 ∧ u.rd .TARGET n = s.rd .TARGET n := by
  have start : r.startHome n m = r.homeHere n m := if_pos here
  have axis : r.rd .AXIS_STATE n = s.rd .AXIS_STATE n := took.keeps.rd .AXIS_STATE n (by decide +kernel)
  have count : r.rd .HOME_COUNT n = s.rd .HOME_COUNT n := took.keeps.rd .HOME_COUNT n (by decide +kernel)
  obtain ⟨finHome, counted, tag, none, pend, val, homing⟩ := homeHere_shows took.act (by rw [axis]; exact rest.axis) (by rwa [count])
  have same := homeHere_keeps (M := State.homeHere_may) n m (keeps_refl _ r)
  rw [start] at carried
  have e := carried.keeps.rd
  rw [e .finHome n (by decide +kernel), e .HOME_COUNT n (by decide +kernel), e .finTag n (by decide +kernel), e .asgPend n (by decide +kernel),
    e .asgVal n (by decide +kernel), e .AXIS_STATE n (by decide +kernel), e .TARGET n (by decide +kernel), carried.holds.act,
    same.rd .TARGET n (by decide +kernel), took.keeps.rd .TARGET n (by decide +kernel), ← count]
  exact ⟨finHome, counted, tag, none, pend, val, homing, rfl⟩

omit carried in
theorem took_setsOut (h : s.SetsOut n m) : r.SetsOut n m := by
  have ref := refFor_congr (fun i => took.keeps.rd .SIG_ACTIVE i (by decide +kernel)) (took.keeps.rd .LI_MIN_SPEED n (by decide +kernel))
    (took.keeps.rd .LI_SPEED_TOL n (by decide +kernel))
  constructor
  case method => exact h.method
  case ref => rw [ref]; exact h.ref
  case run => rw [ref, took.keeps.rd .EX_TRAVEL n (by decide +kernel)]; exact h.run
  case bound =>
    have own : ∀ q ∈ [Reg.LIMIT_NEG, .LIMIT_POS], toRecord_may.testBit q.ctorIdx = false := by decide +kernel
    have input : (if m.homeDir < 0 then Reg.LIMIT_NEG else .LIMIT_POS) ∈ [Reg.LIMIT_NEG, .LIMIT_POS] := by split <;> simp
    rw [State.rdN, took.keeps.rd _ n (own _ input)]
    exact h.bound
  case input => rw [took.keeps.rd .LIMIT_STATE n (by decide +kernel)]; exact h.input

/-- From the record taken to the end of the step, a HOME record that sets out stays active, in the first phase of its search. -/
theorem home_setsOut (home : m.kind = 9) (h : s.SetsOut n m) :
    u.rd .AXIS_STATE n = 4 ∧ u.rd .hmPhase n = 1 ∧ u.rd .ACTIVE_KIND n = 9 ∧ (u.planner n).act = some m ∧
      (∀ T : Int, m.preset = false → T = fdiv (s.planner n).nxt.x 65536 + m.homeDir * s.rd .HOME_SEARCH_DIST n →
        s.rd .SOFT_MIN n ≤ T → T ≤ s.rd .SOFT_MAX n → (s.planner n).nxt.x % 65536 = 0 → u.rd .TARGET n = T) := by
  have kind := (setOut_keeps r n m).rd .ACTIVE_KIND n (by decide +kernel)
  have start := startHome_setsOut (took_setsOut took h)
  obtain ⟨axis, phase, -⟩ : _ ∧ (r.setOut n m).rd .hmPhase n = 1 ∧ _ := search_shows (r.searchFrom n m) n m _ 1 _
  rw [start] at carried
  have e := carried.keeps.rd
  rw [e .AXIS_STATE n (by decide +kernel), e .hmPhase n (by decide +kernel), e .ACTIVE_KIND n (by decide +kernel), e .TARGET n (by decide +kernel),
    carried.holds.act, (setOut_holds r n m).act, kind, took.kind, home]
  refine ⟨axis, phase, rfl, took.act, fun T plain sum lo hi whole => ?_⟩
  have same (q : Reg) (own : toRecord_may.testBit q.ctorIdx = false) : r.rd q n = s.rd q n := took.keeps.rd q n own
  exact setOut_aims plain (by rw [took.nxt, same .HOME_SEARCH_DIST (by decide +kernel), sum]) (by rw [took.nxt, whole])
    (by rwa [same .SOFT_MIN (by decide +kernel)]) (by rwa [same .SOFT_MAX (by decide +kernel)])
    ((same .LIMIT_STATE (by decide +kernel)).trans h.input)

end

-- O20

/-- Settles O20: HERE completes at the next mark, and every other method sets out on its search where the step finds what that needs. -/
theorem homeRecordsAreTaken : Obligations.HomeRecordsAreTaken := by
  unfold Obligations.HomeRecordsAreTaken
  intro t n s0 m e s ok slot folded rest head home method
  obtain ⟨r, took, carried⟩ := profileCommit_takes n.isLt ok slot folded rest head
  rw [startRec_of_home home] at carried
  obtain ⟨tag, queue⟩ := home_taken took carried n.isLt
  obtain ⟨-, -, input⟩ := rest.input
  exact ⟨_, exec_homeRecord head home method, tag, queue, fun here room => home_here took carried rest here room,
    fun other ref run bound => home_setsOut took carried home ⟨other, ref, run, bound, input⟩⟩

end Sys2Proof.Machine
end

section
/-! PROOFS. Statements about the bridges that a register below 0 contradicts (O29, O30, O31): they are said of every table of integers. `rdN` reads
a value below 0 as 0, so that a half-bridge at pair −1 seems commanded off already, and a pulse whose end is −1 seems to be no pulse. -/
namespace Sys2Proof.Machine

set_option Elab.async false

/-- The module after reset 98 cycles on, a refresh of half-bridge 0 of axis 0 running since cycle 0; half-bridge 1 is at pair −1, and the pulse of the
axis at end −1. No typed register holds either value. -/
def State.belowZero : State :=
  (((State.reset.wr .DEVICE_TIME 0 98).wr .refreshOn 0 1).wr .swCmd 1 (-1)).wr .pulseEnd 0 (-1)

/-- Refutes O29: at the end of the refresh VBS is 0 and the axis latches, but the command of half-bridge 1 stays at −1. -/
theorem not_protectionsLatch : ¬ Obligations.ProtectionsLatch := by
  unfold Obligations.ProtectionsLatch
  intro h
  obtain ⟨-, boot⟩ := h 0 0 State.belowZero
  obtain ⟨-, -, ended⟩ := boot 0 0
  obtain ⟨u, run, -, latched, -⟩ := ended (by decide +kernel) (by decide +kernel)
  obtain ⟨-, -, -, off, -⟩ := latched (by decide)
  have kept : u.rd .swCmd 1 = -1 := by
    obtain rfl := Host.Outcome.next.inj run
    decide +kernel
  exact absurd (kept.symm.trans (off 1 (by decide))) (by decide)

/-- Refutes O30: a pulse whose end is −1 is there and its time has come, but it does not end. -/
theorem not_diagnosticsRun : ¬ Obligations.DiagnosticsRun := by
  unfold Obligations.DiagnosticsRun
  intro h
  obtain ⟨-, -, pulse, -⟩ := h 0 State.belowZero
  obtain ⟨u, run, ended, -⟩ := pulse 0 (by decide +kernel) (by decide +kernel)
  have kept : u.rd .pulseEnd 0 = -1 := by
    obtain rfl := Host.Outcome.next.inj run
    decide +kernel
  exact absurd (kept.symm.trans ended) (by decide)

/-- Refutes O31: die 0 shuts down, but the command of half-bridge 1 of its axis 0 stays at −1. -/
theorem not_dieBusAndEnableEvents : ¬ Obligations.DieBusAndEnableEvents := by
  unfold Obligations.DieBusAndEnableEvents
  intro h
  obtain ⟨die, -⟩ := h
  obtain ⟨-, -, -, shutdown, -⟩ := die 0 0 State.belowZero
  obtain ⟨u, run, -, -, -, -, axes⟩ := shutdown (by decide +kernel)
  obtain ⟨-, -, -, -, off⟩ := axes 0
  have kept : u.rd .swCmd 1 = -1 := by
    obtain rfl := Host.Outcome.next.inj run
    decide +kernel
  exact absurd (kept.symm.trans (off 1 (by decide))) (by decide)

end Sys2Proof.Machine
end

section
/-! PROOFS. What readings of the bus and of the dies leave alone, and what diagnostics, retries, shutdowns, the short-brake and the enable inputs
do (O32). -/
namespace Sys2Proof.Machine

set_option Elab.async false

-- readings

/-- The registers of the module that a reading of the bus, of a die or of the enable inputs writes. -/
def supplyRegs : List Reg := faultRegs ++ [.DEVICE_TIME, .BUS_VM, .busLowOn, .busHighOn, .brakeFrom]

/-- The registers of a die in which its temperature and its pump show. -/
def dieRegs : List Reg := [.DIE_STATE, .PUMP_OK]

theorem State.OnlyAt.iff {s t : State} {n : Nat} {own free : List Reg} {c : Bool} {f : State → State} (h : s.OnlyAt t n own free)
    (g : s.OnlyAt (f t) n own free) : s.OnlyAt (t.iff c f) n own free := by
  unfold State.iff
  split
  · exact g
  · exact h

section
variable {t v : Nat} {k : Fin 8} {e : Instr} {s u : State}
  (he : e ∈ [.busLow t v, .busHigh t v, .busHighEnd t v, .enaDiscrepancy t, .pumpFail t k, .dieHot t k, .dieHotEnd t k]) (run : exec e s = .next u)
include he run

/-- The bus and the enable inputs write registers of the module alone; a die writes its own, then its cause. -/
theorem reading_onlyAt : s.OnlyAt u k dieRegs supplyRegs := by
  have same := onlyAt_refl s k dieRegs supplyRegs
  have timed : s.OnlyAt (s.at t) k dieRegs supplyRegs := same.keeps (at_keeps t (keeps_refl State.at_may s) may_self)
  simp only [List.mem_cons, List.not_mem_nil, or_false] at he
  rcases he with rfl | rfl | rfl | rfl | rfl | rfl | rfl
  · exact same.keeps ((execBusLow_keeps t v (keeps_refl _ s) may_self).next u run)
  · exact same.keeps ((execBusHigh_keeps t v (keeps_refl _ s) may_self).next u run)
  · exact same.keeps ((execBusHighEnd_keeps t v (keeps_refl _ s) may_self).next u run)
  · exact same.keeps ((execEnaDiscrepancy_keeps t (keeps_refl _ s) may_self).next u run)
  · obtain rfl := Host.Outcome.next.inj run
    exact (timed.wr .PUMP_OK 0).keeps (detectHeld_keeps _ _ _ (keeps_refl _ _) may_self)
  · obtain rfl := Host.Outcome.next.inj run
    exact (timed.iff (timed.wr .DIE_STATE 1)).keeps (detectHeld_keeps _ _ _ (keeps_refl _ _) may_self)
  · obtain rfl := Host.Outcome.next.inj run
    exact (timed.iff (timed.wr .DIE_STATE 0)).keeps (endCause_keeps _ _ (keeps_refl _ _) may_self)

theorem reading_logOnly : s.LogOnly u := by
  have same := keeps_refl (mayAll ||| mayLog) s
  have kept : Keeps (mayAll ||| mayLog) s u := by
    simp only [List.mem_cons, List.not_mem_nil, or_false] at he
    rcases he with rfl | rfl | rfl | rfl | rfl | rfl | rfl
    · exact (execBusLow_keeps t v same).next u run
    · exact (execBusHigh_keeps t v same).next u run
    · exact (execBusHighEnd_keeps t v same).next u run
    · exact (execEnaDiscrepancy_keeps t same).next u run
    · exact (execPumpFail_keeps t k same).next u run
    · exact (execDieHot_keeps t k same).next u run
    · exact (execDieHotEnd_keeps t k same).next u run
  exact kept.logOnly

end

-- events of the bridges

/-- The registers that diagnostics, retries, pulses, shutdowns, the short-brake and the gate supply write. -/
def bridgeRegs : List Reg :=
  faultRegs ++ [.DEVICE_TIME, .DRIVE_STATE, .BRIDGE_FAULT, .SHOOT_COUNT, .DIAG_RESULT, .DIAG_FLAGS, .DIAG_LEVELS, .DIAG_TIME, .DIAG_AXIS,
    .DIE_STATE, .RETRY_COUNT, .BUS_VM, .BRAKE_COUNT, .ENA_STATE, .ENA_REMOVALS, .DEV_VALID, .WIDEN_EVENTS, .FREQ_CAPS, .THRESH_CLAMPS,
    .rearmPend, .brPersist, .retryAt, .retryDiag, .diagFrom, .contPend, .diePend, .enaPend, .enaDiffFrom, .uvOn, .busUvOn, .busLowOn, .brakeOn,
    .brakeFrom, .prevDrive, .chopFrom, .pulseEnd, .faultLatch, .latchAt] ++ phaseRegs ++ [.phWas, .phWasAt] ++ switchRegs

/-- What these events may change. -/
def bridgeMay : Nat := mayRegs bridgeRegs ||| mayLog ||| may_diag

theorem bridgeEvent_keeps {t v : Nat} {n : Fin 64} {k : Fin 8} {ph i : Fin 2} {d : Byte} {w : List Nat} {b : Bool} {e : Instr} (s : State)
    (he : e ∈ [.openPhase n ph, .diagTestStart t k, .diagEnd t k w b, .ocRetry n, .retryCountReset n, .directPulseEnd t n, .dieShutdown t k,
      .dieCooled t k, .busRecovered t v, .busOvervoltage t d v, .shortBrakeEnd t d v, .enaRemoved t i, .enaRestored t i]) :
    KeepsO bridgeMay s (exec e s) := by
  have same := keeps_refl bridgeMay s
  simp only [List.mem_cons, List.not_mem_nil, or_false] at he
  rcases he with rfl | rfl | rfl | rfl | rfl | rfl | rfl | rfl | rfl | rfl | rfl | rfl | rfl
  · exact execOpenPhase_keeps n ph same
  · exact execDiagTestStart_keeps t k same
  · exact execDiagEnd_keeps t k w b same
  · exact execOcRetry_keeps n same
  · exact execRetryCountReset_keeps n same
  · exact execDirectPulseEnd_keeps t n same
  · exact execDieShutdown_keeps t k same
  · exact execDieCooled_keeps t k same
  · exact execBusRecovered_keeps t v same
  · exact execBusOvervoltage_keeps t d v same
  · exact execShortBrakeEnd_keeps t d v same
  · exact execEnaRemoved_keeps t i same
  · exact execEnaRestored_keeps t i same

/-- What is left where neither the fault log nor the waiting diagnostics count. -/
theorem Keeps.restButDiag {m : Nat} {s t : State} (h : Keeps m s t) (hm : m &&& (mayAll ||| mayLog ||| may_diag) = m := by decide +kernel) :
    { t with diag := s.diag, regs := s.regs, queues := s.queues, log := s.log, opens := s.opens, shadows := s.shadows, fresh := s.fresh
             freshAt := s.freshAt, freeCtr := s.freeCtr, was := s.was } = s := by
  have h := h.mono hm
  simp only [h.pend, h.ledger (by decide +kernel), h.staged (by decide +kernel), h.planners (by decide +kernel), h.streams (by decide +kernel),
    h.slopes (by decide +kernel), h.bankA (by decide +kernel), h.bankB (by decide +kernel), h.planCopy (by decide +kernel),
    h.fallback (by decide +kernel), h.loading (by decide +kernel), h.progs (by decide +kernel), h.runs (by decide +kernel),
    h.cutoffs (by decide +kernel), h.safes (by decide +kernel), h.calls (by decide +kernel), h.images (by decide +kernel),
    h.chunks (by decide +kernel), h.flash (by decide +kernel), h.newSet (by decide +kernel), h.tags (by decide +kernel),
    h.deferred (by decide +kernel), h.gateway (by decide +kernel), h.wire (by decide +kernel), h.delays (by decide +kernel),
    h.traceBuf (by decide +kernel), h.traceOut (by decide +kernel)]

/-- Settles O32: readings write what their die and the supply show, and the mask of every other event holds no register of motion, mode or
configuration. -/
theorem bridgeAndSupplyFrame : Obligations.BridgeAndSupplyFrame := by
  unfold Obligations.BridgeAndSupplyFrame
  refine ⟨fun t v k e s u he run => ⟨reading_onlyAt he run, reading_logOnly he run⟩, fun t v n k ph i d w b e s u he run => ?_⟩
  have kept := (bridgeEvent_keeps s he).next u run
  exact ⟨kept.onlyRegs bridgeRegs, kept.restButDiag⟩

end Sys2Proof.Machine
end

section
/-! PROOFS. What the events of a feedback channel leave alone (O17): they stay within the registers of their channel, the fault log and what the
followers of the channel and the axes bound to it note. -/
namespace Sys2Proof.Machine

set_option Elab.async false

-- the registers of a channel

/-- The registers of a feedback channel that its events write. -/
def channelRegs : List Reg :=
  [.CH_POS, .CH_SPEED, .CH_FLAGS, .CH_EVENTS, .ILLEGAL_COUNT, .INDEX_DEV_COUNT, .CORR_COUNT, .OUT_WINDOW_COUNT, .SKIPPED_INDEX,
   .LAST_DEV, .Z_POS, .Z_TIME, .LATCH_POS, .LATCH_TIME, .LATCH_SPEED, .LATCH_COUNT, .FRAME_ERRORS, .ABS_RAW, .SAT_EDGES, .chCount, .qState,
   .edgeT1, .edgeT2, .edgeT3, .edgeT4, .edgeT5, .edgeN, .edgeDir, .edgeDt, .illegalAt, .illegalWin, .idxRef, .ssiState, .ssiStamp, .ssiLast,
   .absPrev, .absHave, .absErr, .latchArmed, .latchDone, .edgeAt, .lineAtA, .lineAtB, .lineAtZ, .ssiOld, .ssiMono]

/-- What an event of a channel writes elsewhere: the fault log, device time, what the axes that follow the channel or are bound to it note. -/
def channelFree : List Reg := faultRegs ++ [.DEVICE_TIME, .DEV_VALID, .srcGoal, .srcFrom, .srcAt, .srcSpan, .srcNew, .fbAlignPend]

/-- Between `s` and `t` no register of another channel than `c` has changed, nor any other beside `channelFree`. -/
def State.ChannelOnly (s t : State) (c : Nat) : Prop := s.OnlyAt t c channelRegs channelFree

theorem channelOnly_refl (s : State) (c : Nat) : s.ChannelOnly s c := onlyAt_refl s c _ _

-- the operations on a channel

namespace State.ChannelOnly

section
variable {S s t : State} {c : Nat} (h : S.ChannelOnly s c)
include h

theorem wr (r : Reg) (v : Int) (hr : r ∈ channelRegs := by decide) : S.ChannelOnly (s.wr r c v) c := State.OnlyAt.wr h r v hr

theorem keeps {m : Nat} (k : Keeps m s t) (hm : m &&& (mayRegs channelFree ||| mayTables) = m := by decide +kernel) : S.ChannelOnly t c :=
  State.OnlyAt.keeps h k hm

theorem ite {p : Prop} {_ : Decidable p} (g : S.ChannelOnly t c) : S.ChannelOnly (if p then s else t) c := by
  split <;> assumption

theorem thenIf {p : Prop} {_ : Decidable p} (g : S.ChannelOnly s c → S.ChannelOnly t c) : S.ChannelOnly (if p then t else s) c := (g h).ite h

theorem elseIf {p : Prop} {_ : Decidable p} (g : S.ChannelOnly s c → S.ChannelOnly t c) : S.ChannelOnly (if p then s else t) c := h.ite (g h)

theorem iff {p : Bool} {f : State → State} (g : S.ChannelOnly (f s) c) : S.ChannelOnly (s.iff p f) c := State.OnlyAt.iff h g

theorem wrBit (r : Reg) (b : Nat) (v : Bool) (hr : r ∈ channelRegs := by decide) : S.ChannelOnly (s.wrBit r c b v) c := h.wr r _ hr

theorem draw (w : Nat) : S.ChannelOnly (s.draw w).2 c := h

theorem count (r : Reg) (n w : Nat) (hr : r ∈ channelRegs := by decide) : S.ChannelOnly (s.count r c n w) c :=
  (h.wr r _ hr).ite ((h.draw w).wr r _ hr)

theorem wr48 (r : Reg) (v : Int) (hr : r ∈ channelRegs := by decide) : S.ChannelOnly (s.wr48 r c v) c :=
  (h.wr r v hr).ite ((h.draw 48).wr r _ hr)

theorem chEvent (b : Nat) : S.ChannelOnly (s.chEvent c b) c := h.wr .CH_EVENTS (s.rdN .CH_EVENTS c ||| 2 ^ b : Nat)

theorem detect (b k : Nat) : S.ChannelOnly (s.detect b k) c := h.keeps (detect_keeps b k 0 false (keeps_refl _ s) may_self)

theorem detectHeld (b k : Nat) : S.ChannelOnly (s.detectHeld b k) c := h.keeps (detectHeld_keeps b k 0 (keeps_refl _ s) may_self)

theorem endCause (b k : Nat) : S.ChannelOnly (s.endCause b k) c := h.keeps (endCause_keeps b k (keeps_refl _ s) may_self)

theorem chUpdate : S.ChannelOnly (s.chUpdate c) c := h.keeps (chUpdate_keeps c (keeps_refl _ s) may_self)

theorem chInvalid : S.ChannelOnly (s.chInvalid c) c := by
  have off : S.ChannelOnly (s.devOff c) c := h.keeps (devOff_keeps c (keeps_refl _ s) may_self)
  exact (off.wrBit .CH_FLAGS 0 false).detectHeld _ _

theorem chValid : S.ChannelOnly (s.chValid c) c := by
  have ended := ((h.wrBit .CH_FLAGS 0 true).wrBit .CH_FLAGS 5 false).endCause (blkFb c) 0x13
  have aligned (x : State) : Keeps (may .fbAlignPend) x (x.forList (x.boundTo c) (fun y n => y.wr .fbAlignPend n 1)) :=
    keeps_forList (keeps_refl _ x) fun y n hy => keeps_wr hy .fbAlignPend n 1 may_self
  exact h.elseIf fun _ => ended.keeps (aligned _)

theorem chSet (v : Int) : S.ChannelOnly (s.chSet c v) c := by
  unfold State.chSet
  extract_lets lo hi w x
  have counted : S.ChannelOnly x c := h.wr .chCount w
  exact (((counted.count .SAT_EDGES _ 32).wrBit .CH_FLAGS 2 true).detectHeld _ _).ite
    (((counted.wrBit .CH_FLAGS 2 false).endCause _ _).ite counted)

theorem pushEdge : S.ChannelOnly (s.pushEdge c) c :=
  ((((h.wr .edgeT5 _).wr .edgeT4 _).wr .edgeT3 _).wr .edgeT2 _).wr .edgeT1 _

theorem speedEdge (d : Int) : S.ChannelOnly (s.speedEdge c d) c := by
  unfold State.speedEdge
  extract_lets k run x y span dt z
  have counted : S.ChannelOnly y c := ((((h.pushEdge).wr .edgeN _).wr .edgeDir _).wr .edgeAt _).wrBit .CH_FLAGS 4 false
  have timed : S.ChannelOnly z c := (counted.wr .edgeDt _).wrBit .CH_FLAGS 1 true
  exact (timed.elseIf fun g => g.wr .CH_SPEED _).ite (counted.wrBit .CH_FLAGS 1 false)

theorem illegalEdge : S.ChannelOnly (s.illegalEdge c) c := by
  unfold State.illegalEdge
  extract_lets x y z
  have tallied : S.ChannelOnly (((s.chEvent c 0).count .ILLEGAL_COUNT c).tally (100 + c)) c :=
    ((h.chEvent 0).count .ILLEGAL_COUNT 1 32).keeps (tally_keeps (100 + c) 1 (keeps_refl _ _) may_self)
  have noted : S.ChannelOnly y c := ((tallied.wr .illegalAt _).wr .illegalWin _).wrBit .CH_FLAGS 1 false
  exact thenIf ((noted.pushEdge.wr .edgeN 1).detect _ _) fun g => g.chInvalid

theorem indexDeviates (dev : Int) : S.ChannelOnly (s.indexDeviates c dev) c := by
  unfold State.indexDeviates
  extract_lets x y
  have shown : S.ChannelOnly x c := (((h.chEvent 1).count .INDEX_DEV_COUNT 1 32).wr .LAST_DEV dev).detect _ _
  have corrected : S.ChannelOnly ((((y.chEvent c 2).count .CORR_COUNT c).detect (blkFb c) 0x20).chUpdate c) c :=
    ((((shown.chSet _).chEvent 2).count .CORR_COUNT 1 32).detect _ _).chUpdate
  exact (shown.count .OUT_WINDOW_COUNT 1 32).ite (corrected.ite shown)

theorem badFrame : S.ChannelOnly (s.badFrame c) c :=
  thenIf ((((h.chEvent 3).count .FRAME_ERRORS 1 32).detect _ _).wr .absErr _) fun g => g.chInvalid

theorem ssiLate : S.ChannelOnly (s.ssiLate c) c := h.iff ((h.wr .ssiOld 0).count .FRAME_ERRORS 1 32)

theorem takeRaw (v stamp : Nat) : S.ChannelOnly (s.takeRaw c v stamp) c := by
  unfold State.takeRaw
  extract_lets bits have0 first dif unwrap old x dt y z w u
  have counted : S.ChannelOnly x c := h.chSet _
  have timed : S.ChannelOnly y c := counted.thenIf fun g => (g.wr .CH_SPEED _).wrBit .CH_FLAGS 1 true
  have taken : S.ChannelOnly w c := ((((timed.wr .absPrev _).wr .ABS_RAW _).wr .absHave 1).wr .ssiLast _).wr .absErr 0
  exact (h.chEvent 6).badFrame.ite (taken.thenIf fun g => g.chValid).chUpdate

theorem capture : S.ChannelOnly (s.capture c) c := by
  unfold State.capture
  extract_lets v p x y z
  have noted : S.ChannelOnly x c := (h.wr48 .LATCH_POS p).wr .LATCH_TIME _
  have counted : S.ChannelOnly y c := ((noted.wr .LATCH_SPEED v).count .LATCH_COUNT 1 32).chEvent 4
  exact (counted.wr .latchDone 1).elseIf fun g => g.wr .latchArmed 0

theorem time (t : Nat) : S.ChannelOnly (s.at t) c := h.keeps (at_keeps t (keeps_refl _ s) may_self)

end

end State.ChannelOnly

-- the events of a channel

/-- The level of a line of channel `c` behind its filter (R171): the raw level `x` where it can have come through, else what it was, `x0`. -/
def State.filtered (s : State) (r : Reg) (c : Nat) (x x0 : Bool) : Bool := if s.lineFree r c then x else x0

/-- The filtered levels `a` and `b` noted, and the cycle in which a line changes (R171). -/
def State.noteLevels (s : State) (c : Nat) (a b : Bool) : State :=
  let x := s.wr .qState c ((if a then 1 else 0) + (if b then 2 else 0))
  (x.iff (a ≠ s.bit .qState c 0) (fun y => y.wr .lineAtA c (y.now + 1))).iff (b ≠ s.bit .qState c 1) (fun y => y.wr .lineAtB c (y.now + 1))

/-- A counted edge in direction `d` (R172, R175). -/
def State.countEdge (s : State) (c : Nat) (d : Int) : State := ((s.chSet c (s.rd .chCount c + d)).speedEdge c d).chUpdate c

/-- What a channel makes of the filtered levels `a` and `b` (R171, R172). -/
def State.decodeLevels (s : State) (c : Nat) (a b : Bool) : State :=
  let a0 := s.bit .qState c 0
  let b0 := s.bit .qState c 1
  let x := s.noteLevels c a b
  if !x.counting c || (a = a0 && b = b0) then x
  else if a ≠ a0 && b ≠ b0 then x.illegalEdge c
  else x.countEdge c (quadStep a0 b0 a b * (if x.rd .CH_INVERT c = 1 then -1 else 1))

/-- The count and the time of an index noted (R173). -/
def State.noteIndex (s : State) (c : Nat) : State := ((s.wr .Z_POS c (s.rd .chCount c)).wr .Z_TIME c s.now).wr .lineAtZ c (s.now + 1)

/-- What a channel that counts makes of an index (R172, R173). -/
def State.takeIndex (s : State) (c : Nat) : State :=
  let x := s.noteIndex c
  let z := s.rd .chCount c
  let P := s.rdN .INDEX_PERIOD c
  let m := s.rd .INDEX_MODE c
  if x.rdN .illegalAt c = x.now + 1 then x.count .SKIPPED_INDEX c
  else if m = 0 || P = 0 then x
  else if m = 1 && !x.bit .CH_FLAGS c 5 then (x.wr .idxRef c (z % P)).wrBit .CH_FLAGS c 5 true
  else
    let dev := indexDev z (if m = 1 then x.rd .idxRef c else x.rd .INDEX_REF c) P
    if dev = 0 then x else x.indexDeviates c dev

theorem exec_quadratureEdge (t : Nat) (c : Fin 16) (a b : Bool) (s : State) : exec (.quadratureEdge t c a b) s = .next ((s.at t).decodeLevels c
    ((s.at t).filtered .lineAtA c a ((s.at t).bit .qState c 0)) ((s.at t).filtered .lineAtB c b ((s.at t).bit .qState c 1))) := rfl

theorem exec_index (t : Nat) (c : Fin 16) (s : State) : exec (.index t c) s = .next (
    if !(s.at t).counting c || !((s.at t).rd .lineAtZ c = 0 || decide ((s.at t).rdN .lineAtZ c + (s.at t).rdN .CH_FILTER c ≤ (s.at t).now))
    then s.at t else (s.at t).takeIndex c) := rfl

namespace State.ChannelOnly

section
variable {S s : State} {c : Nat} (h : S.ChannelOnly s c)
include h

theorem noteLevels (a b : Bool) : S.ChannelOnly (s.noteLevels c a b) c := by
  unfold State.noteLevels
  extract_lets x
  have levels : S.ChannelOnly x c := h.wr .qState _
  refine iff (levels.iff (levels.wr .lineAtA _)) ?_
  exact (levels.iff (levels.wr .lineAtA _)).wr .lineAtB _

theorem decodeLevels (a b : Bool) : S.ChannelOnly (s.decodeLevels c a b) c := by
  unfold State.decodeLevels
  extract_lets a0 b0 x
  have noted : S.ChannelOnly x c := h.noteLevels a b
  exact noted.elseIf fun g => g.illegalEdge.ite ((g.chSet _).speedEdge _).chUpdate

theorem takeIndex : S.ChannelOnly (s.takeIndex c) c := by
  unfold State.takeIndex
  extract_lets x z P m dev
  have seen : S.ChannelOnly x c := ((h.wr .Z_POS _).wr .Z_TIME _).wr .lineAtZ _
  have learned : S.ChannelOnly ((x.wr .idxRef c (z % P)).wrBit .CH_FLAGS c 5 true) c := (seen.wr .idxRef _).wrBit .CH_FLAGS 5 true
  exact (seen.count .SKIPPED_INDEX 1 32).ite (seen.elseIf fun _ => learned.ite (seen.elseIf fun g => g.indexDeviates _))

end

end State.ChannelOnly

section
variable {t : Nat} {c : Fin 16} {e : Instr} {s u : State}
  (he : e ∈ [.index t c, .speedTimeout t c, .ssiMonoTimeout t c, .ssiDeadline t c, .latchCapture t c] ∨ (∃ a b, e = .quadratureEdge t c a b) ∨
    (∃ h, e = .ssiFrameStart t c h) ∨ ∃ w m, e = .ssiFrameArrival t c w m) (run : exec e s = .next u)
include he run

theorem channelEvent_channelOnly : s.ChannelOnly u c := by
  have timed := (channelOnly_refl s c).time t
  simp only [List.mem_cons, List.not_mem_nil, or_false] at he
  obtain (rfl | rfl | rfl | rfl | rfl) | ⟨a, b, rfl⟩ | ⟨h, rfl⟩ | ⟨w, m, rfl⟩ := he <;> obtain rfl := Host.Outcome.next.inj run
  · exact timed.elseIf fun g => g.takeIndex
  · exact timed.thenIf fun g => ((g.wr .CH_SPEED 0).wrBit .CH_FLAGS 4 true).wr .edgeN 0
  · exact timed.thenIf fun g => (g.wr .ssiMono 0).badFrame
  · exact timed.elseIf fun g => g.ssiLate
  · exact timed.thenIf fun g => g.capture
  · exact timed.decodeLevels _ _
  · exact timed.thenIf fun g => ((g.wr .ssiState 2).wr .ssiStamp _).ite (g.wr .ssiState 1)
  · refine timed.thenIf fun g => ?_
    extract_lets x
    have ended : s.ChannelOnly x c := (g.wr .ssiOld 0).ite (g.wr .ssiState 0)
    exact (ended.takeRaw _ _).ite (ended.wr .ssiMono _)

theorem channelEvent_logOnly : s.LogOnly u := by
  have same := keeps_refl (mayAll ||| mayLog) s
  have kept : Keeps (mayAll ||| mayLog) s u := by
    simp only [List.mem_cons, List.not_mem_nil, or_false] at he
    obtain (rfl | rfl | rfl | rfl | rfl) | ⟨a, b, rfl⟩ | ⟨h, rfl⟩ | ⟨w, m, rfl⟩ := he
    · exact (execIndex_keeps t c same).next u run
    · exact (execSpeedTimeout_keeps t c same).next u run
    · exact (execSsiMonoTimeout_keeps t c same).next u run
    · exact (execSsiDeadline_keeps t c same).next u run
    · exact (execLatchCapture_keeps t c same).next u run
    · exact (execQuadratureEdge_keeps t c a b same).next u run
    · exact (execSsiFrameStart_keeps t c h same).next u run
    · exact (execSsiFrameArrival_keeps t c w m same).next u run
  exact kept.logOnly

end

/-- Settles O17: an event stays within its channel operation by operation, and its mask holds no table but those of the fault log. -/
theorem feedbackFrame : Obligations.FeedbackFrame := by
  unfold Obligations.FeedbackFrame
  exact fun t c e s u he run => ⟨channelEvent_channelOnly he run, channelEvent_logOnly he run⟩

end Sys2Proof.Machine
end

section
/-! PROOFS. Edges of A, B and the index of a quadrature channel (O14; R171–R173, R178): what is noted of the levels, what counts, and how an index
corrects the count. -/
namespace Sys2Proof.Machine

set_option Elab.async false

-- the count of a channel

/-- A value held within CH_MIN to CH_MAX of channel `c` (R178). -/
def State.heldCount (s : State) (c : Nat) (v : Int) : Int := clampInt (s.rd .CH_MIN c) (s.rd .CH_MAX c) v

theorem chSet_count (s : State) (c : Nat) (v : Int) : (s.chSet c v).rd .chCount c = s.heldCount c v := by
  unfold State.chSet
  extract_lets lo hi w x
  have set : x.rd .chCount c = w := State.rd_wr_same ..
  have flagged (y : State) (b : Bool) : (y.wrBit .CH_FLAGS c 2 b).rd .chCount c = y.rd .chCount c := State.rd_wrBit_ne _ _ _ _ _ (by decide)
  have detected (y : State) : (y.detectHeld (blkFb c) 0x14).rd .chCount c = y.rd .chCount c :=
    (detectHeld_keeps (M := State.detectHeld_may) (blkFb c) 0x14 0 (keeps_refl _ y)).rd _ _ (by decide +kernel)
  split
  · rw [detected, flagged, rd_count_ne _ _ _ _ _ _ (by decide), set]; rfl
  · split
    · rw [endCause_rd _ _ _ _ _ (by decide +kernel), flagged, set]; rfl
    · exact set

/-- What a counted edge changes once the count is set. -/
def afterCount_may : Nat := State.speedEdge_may ||| State.chUpdate_may

theorem countEdge_count (s : State) (c : Nat) (d : Int) : (s.countEdge c d).rd .chCount c = s.heldCount c (s.rd .chCount c + d) := by
  have kept : Keeps afterCount_may (s.chSet c (s.rd .chCount c + d)) (s.countEdge c d) := chUpdate_keeps c (speedEdge_keeps c d (keeps_refl _ _))
  rw [kept.rd .chCount c (by decide +kernel), chSet_count]

-- an illegal change

/-- What an illegal change writes beside the event and its count. -/
def afterIllegal_may : Nat :=
  State.tally_may ||| may .illegalAt ||| may .illegalWin ||| may .CH_FLAGS ||| State.pushEdge_may ||| may .edgeN ||| State.detect_may |||
  State.chInvalid_may

theorem illegalEdge_keeps_event (s : State) (c : Nat) : Keeps afterIllegal_may ((s.chEvent c 0).count .ILLEGAL_COUNT c) (s.illegalEdge c) := by
  unfold State.illegalEdge
  extract_lets x y z
  have same := keeps_refl afterIllegal_may ((s.chEvent c 0).count .ILLEGAL_COUNT c)
  have noted : Keeps afterIllegal_may ((s.chEvent c 0).count .ILLEGAL_COUNT c) y :=
    wrBit_keeps .CH_FLAGS c 1 false
      (keeps_wr (keeps_wr (tally_keeps (100 + c) 1 same) .illegalAt c _ (by decide +kernel)) .illegalWin c _ (by decide +kernel))
  have found : Keeps afterIllegal_may ((s.chEvent c 0).count .ILLEGAL_COUNT c) z :=
    detect_keeps (blkFb c) 0x10 0 false (keeps_wr (pushEdge_keeps c noted) .edgeN c 1 (by decide +kernel))
  exact keeps_ite (chInvalid_keeps c found) found

theorem chEvent_bit (s : State) (c b : Nat) : (s.chEvent c b).bit .CH_EVENTS c b = true := by
  rw [State.chEvent, State.bit_raise, Nat.testBit_two_pow_self, decide_eq_true rfl, Bool.and_self, Bool.or_true]

theorem chEvent_rd (s : State) (c b : Nat) (r : Reg) (i : Nat) (h : r ≠ .CH_EVENTS := by decide) : (s.chEvent c b).rd r i = s.rd r i :=
  State.rd_raise_ne s c _ i h

/-- An event of channel `c` that counts in register `r`. -/
theorem chEvent_count (s : State) {c : Nat} (b : Nat) {r : Reg} (room : s.rd r c + 1 < 2 ^ 32) (hr : r ≠ .CH_EVENTS := by decide) :
    ((s.chEvent c b).count r c).rd r c = s.rd r c + 1 := by
  have same : (s.chEvent c b).rd r c = s.rd r c := chEvent_rd s c b r c hr
  rw [State.count_one (by rwa [same]), State.rd_wr_same, same]

theorem chEvent_count_bit (s : State) (c b : Nat) (r : Reg) (hr : .CH_EVENTS ≠ r := by decide) :
    ((s.chEvent c b).count r c).bit .CH_EVENTS c b = true := by
  rw [State.bit_congr (rd_count_ne _ _ _ _ _ _ hr), chEvent_bit]

theorem illegalEdge_shows (s : State) (c : Nat) :
    (s.illegalEdge c).rd .chCount c = s.rd .chCount c ∧ (s.illegalEdge c).bit .CH_EVENTS c 0 = true ∧
    (s.rd .ILLEGAL_COUNT c + 1 < 2 ^ 32 → (s.illegalEdge c).rd .ILLEGAL_COUNT c = s.rd .ILLEGAL_COUNT c + 1) := by
  have kept := illegalEdge_keeps_event s c
  refine ⟨?_, ?_, fun room => ?_⟩
  · rw [kept.rd .chCount c (by decide +kernel), rd_count_ne _ _ _ _ _ _ (by decide), chEvent_rd s c 0 .chCount]
  · rw [State.bit_congr (kept.rd .CH_EVENTS c (by decide +kernel)), chEvent_count_bit s c 0 .ILLEGAL_COUNT]
  · rw [kept.rd .ILLEGAL_COUNT c (by decide +kernel), chEvent_count s 0 room]

-- the levels of A and B

/-- What the levels of A and B write. -/
def levels_may : Nat := may .qState ||| may .lineAtA ||| may .lineAtB

theorem iff_wr_rd_ne (s : State) (p : Bool) (r : Reg) (i : Nat) (f : State → Int) {q : Reg} (j : Nat) (h : q ≠ r) :
    (s.iff p (fun y => y.wr r i (f y))).rd q j = s.rd q j := by
  unfold State.iff
  split
  · exact State.rd_wr_ne _ _ _ _ h
  · rfl

theorem noteLevels_keeps (s : State) (c : Nat) (a b : Bool) : Keeps levels_may s (s.noteLevels c a b) :=
  keeps_iff (keeps_iff (keeps_wr (keeps_refl _ s) .qState c _ (by decide +kernel)) fun _ h => keeps_wr h .lineAtA c _ (by decide +kernel))
    fun _ h => keeps_wr h .lineAtB c _ (by decide +kernel)

theorem noteLevels_rd (s : State) (c : Nat) (a b : Bool) (r : Reg) (i : Nat) (h : levels_may.testBit r.ctorIdx = false := by decide +kernel) :
    (s.noteLevels c a b).rd r i = s.rd r i := (noteLevels_keeps s c a b).rd r i h

theorem noteLevels_qState (s : State) (c : Nat) (a b : Bool) :
    (s.noteLevels c a b).rd .qState c = (if a then 1 else 0) + (if b then 2 else 0) := by
  unfold State.noteLevels
  extract_lets x
  rw [iff_wr_rd_ne _ _ _ _ _ _ (by decide), iff_wr_rd_ne _ _ _ _ _ _ (by decide)]
  exact State.rd_wr_same ..

theorem noteLevels_counting (s : State) (c : Nat) (a b : Bool) : (s.noteLevels c a b).counting c = s.counting c := by
  rw [State.counting, State.counting, noteLevels_rd s c a b .CH_MODE, State.bit_congr (noteLevels_rd s c a b .CH_FLAGS c)]

/-- What a change of the levels writes beside them. -/
def afterLevels_may : Nat := State.illegalEdge_may ||| State.chSet_may ||| afterCount_may

theorem decodeLevels_keeps (s : State) (c : Nat) (a b : Bool) : Keeps afterLevels_may (s.noteLevels c a b) (s.decodeLevels c a b) := by
  unfold State.decodeLevels
  extract_lets a0 b0 x
  have same := keeps_refl afterLevels_may x
  exact keeps_ite same (keeps_ite (illegalEdge_keeps c same) (chUpdate_keeps c (speedEdge_keeps c _ (chSet_keeps c _ same))))

/-- The levels are the decoder's reference from now on. -/
theorem decodeLevels_bits (s : State) (c : Nat) (a b : Bool) :
    (s.decodeLevels c a b).bit .qState c 0 = a ∧ (s.decodeLevels c a b).bit .qState c 1 = b := by
  have shown (k : Nat) : (s.decodeLevels c a b).bit .qState c k = ((if a then 1 else 0) + (if b then 2 else 0) : Int).toNat.testBit k := by
    rw [State.bit, State.rdN, (decodeLevels_keeps s c a b).rd .qState c (by decide +kernel), noteLevels_qState]
  rw [shown, shown]
  cases a <;> cases b <;> decide

section
variable {s : State} {c : Nat} {a b : Bool}

/-- On a channel that does not count, and where no level changes, nothing but the levels is noted. -/
theorem decodeLevels_idle (h : s.counting c = false ∨ (a = s.bit .qState c 0 ∧ b = s.bit .qState c 1)) :
    s.decodeLevels c a b = s.noteLevels c a b := by
  have idle : (!(s.noteLevels c a b).counting c || (a = s.bit .qState c 0 && b = s.bit .qState c 1)) = true := by
    rw [noteLevels_counting]
    obtain off | ⟨same, also⟩ := h
    · rw [off]; rfl
    · simp [same, also]
  exact if_pos idle

theorem decodeLevels_illegal (on : s.counting c = true) (ha : a = !s.bit .qState c 0) (hb : b = !s.bit .qState c 1) :
    s.decodeLevels c a b = (s.noteLevels c a b).illegalEdge c := by
  unfold State.decodeLevels
  dsimp only
  rw [noteLevels_counting, on, if_neg (by simp [ha]), if_pos (by simp [ha, hb])]

/-- A change of one line counts in the direction of its step. -/
theorem decodeLevels_step (on : s.counting c = true) (one : a = s.bit .qState c 0 ↔ b ≠ s.bit .qState c 1) :
    s.decodeLevels c a b =
      (s.noteLevels c a b).countEdge c (quadStep (s.bit .qState c 0) (s.bit .qState c 1) a b * (if s.rd .CH_INVERT c = 1 then -1 else 1)) := by
  unfold State.decodeLevels
  dsimp only
  rw [noteLevels_counting, on, noteLevels_rd s c a b .CH_INVERT, if_neg (by simp [one]), if_neg (by simp [one])]

theorem decodeLevels_step_count (on : s.counting c = true) (one : a = s.bit .qState c 0 ↔ b ≠ s.bit .qState c 1) :
    (s.decodeLevels c a b).rd .chCount c = s.heldCount c (s.rd .chCount c +
      quadStep (s.bit .qState c 0) (s.bit .qState c 1) a b * (if s.rd .CH_INVERT c = 1 then -1 else 1)) := by
  rw [decodeLevels_step on one, countEdge_count, State.heldCount, State.heldCount, noteLevels_rd s c a b .chCount,
    noteLevels_rd s c a b .CH_MIN, noteLevels_rd s c a b .CH_MAX]

end

/-- A leads B. -/
theorem quadStep_forward (a0 b0 : Bool) : ((!b0) = a0 ↔ a0 ≠ b0) ∧ quadStep a0 b0 (!b0) a0 = 1 := by
  cases a0 <;> cases b0 <;> decide

/-- B leads A. -/
theorem quadStep_backward (a0 b0 : Bool) : (b0 = a0 ↔ (!a0) ≠ b0) ∧ quadStep a0 b0 b0 (!a0) = -1 := by
  cases a0 <;> cases b0 <;> decide

theorem filtered_eq (s : State) (r : Reg) (c : Nat) (x x0 : Bool) :
    s.filtered r c x x0 = if s.rd r c = 0 ∨ s.rdN r c + s.rdN .CH_FILTER c ≤ s.now + 1 then x else x0 := by
  simp [State.filtered, State.lineFree]

theorem counting_iff (s : State) (c : Nat) : s.counting c = true ↔ s.rd .CH_MODE c = 1 ∧ s.bit .CH_FLAGS c 3 = false := by
  simp [State.counting]

-- the index

/-- What an index writes beside its count and its time. -/
def afterIndex_may : Nat := may .SKIPPED_INDEX ||| may .CH_FLAGS ||| may .idxRef ||| State.count_may ||| State.indexDeviates_may

theorem takeIndex_keeps (s : State) (c : Nat) : Keeps afterIndex_may (s.noteIndex c) (s.takeIndex c) := by
  unfold State.takeIndex
  extract_lets x z P m dev
  have same := keeps_refl afterIndex_may x
  exact keeps_ite (count_keeps .SKIPPED_INDEX c 1 32 same) (keeps_ite same
    (keeps_ite (wrBit_keeps .CH_FLAGS c 5 true (keeps_wr same .idxRef c _ (by decide +kernel))) (keeps_ite same (indexDeviates_keeps c _ same))))

theorem noteIndex_keeps (s : State) (c : Nat) : Keeps (may .Z_POS ||| may .Z_TIME ||| may .lineAtZ) s (s.noteIndex c) :=
  keeps_wr (keeps_wr (keeps_wr (keeps_refl _ s) .Z_POS c _ (by decide +kernel)) .Z_TIME c _ (by decide +kernel)) .lineAtZ c _ (by decide +kernel)

theorem noteIndex_rd (s : State) (c : Nat) (r : Reg) (i : Nat)
    (h : (may .Z_POS ||| may .Z_TIME ||| may .lineAtZ).testBit r.ctorIdx = false := by decide +kernel) : (s.noteIndex c).rd r i = s.rd r i :=
  (noteIndex_keeps s c).rd r i h

theorem noteIndex_rdN (s : State) (c : Nat) (r : Reg) (i : Nat)
    (h : (may .Z_POS ||| may .Z_TIME ||| may .lineAtZ).testBit r.ctorIdx = false := by decide +kernel) : (s.noteIndex c).rdN r i = s.rdN r i :=
  congrArg Int.toNat (noteIndex_rd s c r i h)

theorem noteIndex_now (s : State) (c : Nat) : (s.noteIndex c).now = s.now := noteIndex_rdN s c .DEVICE_TIME 0

theorem takeIndex_shows (s : State) (c : Nat) :
    (s.takeIndex c).rd .Z_POS c = s.rd .chCount c ∧ (s.takeIndex c).rd .Z_TIME c = (s.now : Int) := by
  have kept := takeIndex_keeps s c
  rw [kept.rd .Z_POS c (by decide +kernel), kept.rd .Z_TIME c (by decide +kernel)]
  simp [State.noteIndex, State.rd_wr]

section
variable {s : State} {c : Nat}

/-- In the cycle of an illegal change (R172). -/
theorem takeIndex_skipped (illegal : s.rdN .illegalAt c = s.now + 1) : s.takeIndex c = (s.noteIndex c).count .SKIPPED_INDEX c := by
  exact if_pos (by rwa [noteIndex_rdN s c .illegalAt, noteIndex_now])

section
variable (legal : s.rdN .illegalAt c ≠ s.now + 1)
include legal

theorem takeIndex_legal : s.takeIndex c =
    if s.rd .INDEX_MODE c = 0 || s.rdN .INDEX_PERIOD c = 0 then s.noteIndex c
    else if s.rd .INDEX_MODE c = 1 && !s.bit .CH_FLAGS c 5 then
      ((s.noteIndex c).wr .idxRef c (s.rd .chCount c % s.rdN .INDEX_PERIOD c)).wrBit .CH_FLAGS c 5 true
    else
      let dev := indexDev (s.rd .chCount c) (if s.rd .INDEX_MODE c = 1 then s.rd .idxRef c else s.rd .INDEX_REF c) (s.rdN .INDEX_PERIOD c)
      if dev = 0 then s.noteIndex c else (s.noteIndex c).indexDeviates c dev := by
  unfold State.takeIndex
  dsimp only
  rw [noteIndex_rdN s c .illegalAt, noteIndex_now, if_neg legal, State.bit_congr (noteIndex_rd s c .CH_FLAGS c),
    noteIndex_rd s c .idxRef, noteIndex_rd s c .INDEX_REF]

theorem takeIndex_unused (off : s.rd .INDEX_MODE c = 0) : s.takeIndex c = s.noteIndex c := by
  rw [takeIndex_legal legal, if_pos (by simp [off])]

variable (period : 0 < s.rdN .INDEX_PERIOD c)
include period

theorem takeIndex_learns (mode : s.rd .INDEX_MODE c = 1) (new : s.bit .CH_FLAGS c 5 = false) : s.takeIndex c =
    ((s.noteIndex c).wr .idxRef c (s.rd .chCount c % s.rdN .INDEX_PERIOD c)).wrBit .CH_FLAGS c 5 true := by
  rw [takeIndex_legal legal, if_neg (by simp [mode]; omega), if_pos (by simp [mode, new])]

/-- An index against its reference, learned or given. -/
theorem takeIndex_compares {ref : Int} (h : (s.rd .INDEX_MODE c = 1 ∧ s.bit .CH_FLAGS c 5 = true ∧ ref = s.rd .idxRef c) ∨
      (s.rd .INDEX_MODE c = 2 ∧ ref = s.rd .INDEX_REF c)) :
    s.takeIndex c = if indexDev (s.rd .chCount c) ref (s.rdN .INDEX_PERIOD c) = 0 then s.noteIndex c
      else (s.noteIndex c).indexDeviates c (indexDev (s.rd .chCount c) ref (s.rdN .INDEX_PERIOD c)) := by
  rw [takeIndex_legal legal]
  obtain ⟨mode, learned, rfl⟩ | ⟨mode, rfl⟩ := h
  · rw [if_neg (by simp [mode]; omega), if_neg (by simp [learned]), if_pos mode]
  · rw [if_neg (by simp [mode]; omega), if_neg (by simp [mode]), if_neg (show s.rd .INDEX_MODE c ≠ 1 by simp [mode])]

end

end

-- a deviation

/-- A deviation shown and counted (R173). -/
def State.noteDeviation (s : State) (c : Nat) (dev : Int) : State :=
  (((s.chEvent c 1).count .INDEX_DEV_COUNT c).wr .LAST_DEV c dev).detect (blkFb c) 0x11

/-- What showing a deviation writes. -/
def noteDeviation_may : Nat := State.chEvent_may ||| may .INDEX_DEV_COUNT ||| State.count_may ||| may .LAST_DEV ||| State.detect_may

/-- What shows a correction of the count. -/
def correction_may : Nat := State.chEvent_may ||| may .CORR_COUNT ||| State.count_may ||| State.detect_may ||| State.chUpdate_may

section
variable (s : State) (c : Nat) (dev : Int)

theorem indexDeviates_eq : s.indexDeviates c dev =
    let x := s.noteDeviation c dev
    let y := x.chSet c (x.rd .chCount c - dev)
    if x.rdN .INDEX_WINDOW c < dev.natAbs then x.count .OUT_WINDOW_COUNT c
    else if x.rd .INDEX_CORR c = 1 then (((y.chEvent c 2).count .CORR_COUNT c).detect (blkFb c) 0x20).chUpdate c
    else x := rfl

theorem noteDeviation_rd (r : Reg) (i : Nat) (h : noteDeviation_may.testBit r.ctorIdx = false := by decide +kernel) :
    (s.noteDeviation c dev).rd r i = s.rd r i :=
  (detect_keeps (M := noteDeviation_may) (blkFb c) 0x11 0 false
    (keeps_wr (count_keeps .INDEX_DEV_COUNT c 1 32 (chEvent_keeps c 1 (keeps_refl _ s))) .LAST_DEV c dev (by decide +kernel))).rd r i h

theorem noteDeviation_shows : (s.noteDeviation c dev).rd .LAST_DEV c = dev ∧
    (s.rd .INDEX_DEV_COUNT c + 1 < 2 ^ 32 → (s.noteDeviation c dev).rd .INDEX_DEV_COUNT c = s.rd .INDEX_DEV_COUNT c + 1) := by
  unfold State.noteDeviation
  refine ⟨?_, fun room => ?_⟩
  · rw [detect_rd _ _ _ _ _ _ _ (by decide +kernel), State.rd_wr_same]
  · rw [detect_rd _ _ _ _ _ _ _ (by decide +kernel), State.rd_wr_ne _ _ _ _ (by decide), chEvent_count s 1 room]

theorem noteDeviation_held (v : Int) : (s.noteDeviation c dev).heldCount c v = s.heldCount c v := by
  rw [State.heldCount, State.heldCount, noteDeviation_rd s c dev .CH_MIN, noteDeviation_rd s c dev .CH_MAX]

theorem indexDeviates_keeps_shown :
    Keeps (may .OUT_WINDOW_COUNT ||| State.chSet_may ||| correction_may) (s.noteDeviation c dev) (s.indexDeviates c dev) := by
  rw [indexDeviates_eq]
  extract_lets x y
  have same := keeps_refl (may .OUT_WINDOW_COUNT ||| State.chSet_may ||| correction_may) x
  exact keeps_ite (count_keeps .OUT_WINDOW_COUNT c 1 32 same) (keeps_ite (chUpdate_keeps c (detect_keeps (blkFb c) 0x20 0 false
    (count_keeps .CORR_COUNT c 1 32 (chEvent_keeps c 2 (chSet_keeps c _ same))))) same)

theorem indexDeviates_shows : (s.indexDeviates c dev).rd .LAST_DEV c = dev ∧
    (s.rd .INDEX_DEV_COUNT c + 1 < 2 ^ 32 → (s.indexDeviates c dev).rd .INDEX_DEV_COUNT c = s.rd .INDEX_DEV_COUNT c + 1) := by
  have kept := indexDeviates_keeps_shown s c dev
  rw [kept.rd .LAST_DEV c (by decide +kernel), kept.rd .INDEX_DEV_COUNT c (by decide +kernel)]
  exact noteDeviation_shows s c dev

variable {s c dev}

theorem indexDeviates_outside (out : s.rdN .INDEX_WINDOW c < dev.natAbs) :
    s.indexDeviates c dev = (s.noteDeviation c dev).count .OUT_WINDOW_COUNT c := by
  rw [indexDeviates_eq]
  exact if_pos (by rwa [State.rdN, noteDeviation_rd s c dev .INDEX_WINDOW])

/-- Within the window the deviation is taken off the count where INDEX_CORR asks for it. -/
theorem indexDeviates_within (within : dev.natAbs ≤ s.rdN .INDEX_WINDOW c) :
    (s.indexDeviates c dev).rd .OUT_WINDOW_COUNT c = s.rd .OUT_WINDOW_COUNT c ∧
      (s.indexDeviates c dev).rd .chCount c = if s.rd .INDEX_CORR c = 1 then s.heldCount c (s.rd .chCount c - dev) else s.rd .chCount c := by
  have window : ¬ (s.noteDeviation c dev).rdN .INDEX_WINDOW c < dev.natAbs := by
    rw [State.rdN, noteDeviation_rd s c dev .INDEX_WINDOW]
    exact Nat.not_lt.mpr within
  rw [indexDeviates_eq]
  extract_lets x y
  rw [if_neg window, show x.rd .INDEX_CORR c = s.rd .INDEX_CORR c from noteDeviation_rd s c dev .INDEX_CORR c]
  have counted : x.rd .chCount c = s.rd .chCount c := noteDeviation_rd s c dev .chCount c
  have outside : x.rd .OUT_WINDOW_COUNT c = s.rd .OUT_WINDOW_COUNT c := noteDeviation_rd s c dev .OUT_WINDOW_COUNT c
  split
  · have kept := chUpdate_keeps (M := correction_may) c (detect_keeps (blkFb c) 0x20 0 false
      (count_keeps .CORR_COUNT c 1 32 (chEvent_keeps c 2 (keeps_refl _ y))))
    have set : y.rd .OUT_WINDOW_COUNT c = x.rd .OUT_WINDOW_COUNT c :=
      (chSet_keeps (M := State.chSet_may) c _ (keeps_refl _ x)).rd _ _ (by decide +kernel)
    exact ⟨(kept.rd _ _ (by decide +kernel)).trans (set.trans outside),
      (kept.rd _ _ (by decide +kernel)).trans ((chSet_count ..).trans (by rw [counted, noteDeviation_held]))⟩
  · exact ⟨outside, counted⟩

end

-- the clauses

/-- The edge of a channel that counts: the three changes of the levels. -/
theorem decodeLevels_counts {s : State} {c : Nat} {a b : Bool} (on : s.counting c = true) :
    (a = !s.bit .qState c 1 → b = s.bit .qState c 0 →
      (s.decodeLevels c a b).rd .chCount c = s.heldCount c (s.rd .chCount c + if s.rd .CH_INVERT c = 1 then -1 else 1)) ∧
    (a = s.bit .qState c 1 → b = !s.bit .qState c 0 →
      (s.decodeLevels c a b).rd .chCount c = s.heldCount c (s.rd .chCount c - if s.rd .CH_INVERT c = 1 then -1 else 1)) ∧
    (a = !s.bit .qState c 0 → b = !s.bit .qState c 1 →
      (s.decodeLevels c a b).rd .chCount c = s.rd .chCount c ∧ (s.decodeLevels c a b).bit .CH_EVENTS c 0 = true ∧
      (s.rd .ILLEGAL_COUNT c + 1 < 2 ^ 32 → (s.decodeLevels c a b).rd .ILLEGAL_COUNT c = s.rd .ILLEGAL_COUNT c + 1)) := by
  refine ⟨?_, ?_, fun ha hb => ?_⟩
  · rintro rfl rfl
    obtain ⟨one, up⟩ := quadStep_forward (s.bit .qState c 0) (s.bit .qState c 1)
    rw [decodeLevels_step_count on one, up, one_mul]
  · rintro rfl rfl
    obtain ⟨one, down⟩ := quadStep_backward (s.bit .qState c 0) (s.bit .qState c 1)
    rw [decodeLevels_step_count on one, down, neg_one_mul, ← Int.sub_eq_add_neg]
  · rw [decodeLevels_illegal on ha hb, ← noteLevels_rd s c a b .chCount, ← noteLevels_rd s c a b .ILLEGAL_COUNT]
    exact illegalEdge_shows _ c

theorem decodeLevels_idle_counts {s : State} {c : Nat} {a b : Bool}
    (idle : s.rd .CH_MODE c ≠ 1 ∨ s.bit .CH_FLAGS c 3 = true ∨ (a = s.bit .qState c 0 ∧ b = s.bit .qState c 1)) :
    (s.decodeLevels c a b).rd .chCount c = s.rd .chCount c ∧ (s.decodeLevels c a b).rd .ILLEGAL_COUNT c = s.rd .ILLEGAL_COUNT c := by
  have off : s.counting c = false ∨ (a = s.bit .qState c 0 ∧ b = s.bit .qState c 1) := by
    obtain mode | contained | same := idle
    · exact .inl (by simp [State.counting, mode])
    · exact .inl (by simp [State.counting, contained])
    · exact .inr same
  rw [decodeLevels_idle off]
  exact ⟨noteLevels_rd s c a b .chCount c, noteLevels_rd s c a b .ILLEGAL_COUNT c⟩

section
variable {s : State} {c : Nat}

theorem takeIndex_off_count (off : s.rd .INDEX_MODE c = 0) : (s.takeIndex c).rd .chCount c = s.rd .chCount c := by
  by_cases illegal : s.rdN .illegalAt c = s.now + 1
  · rw [takeIndex_skipped illegal, rd_count_ne _ _ _ _ _ _ (by decide), noteIndex_rd s c .chCount]
  · rw [takeIndex_unused illegal off, noteIndex_rd s c .chCount]

theorem takeIndex_skipped_counts (illegal : s.rdN .illegalAt c = s.now + 1) (room : s.rd .SKIPPED_INDEX c + 1 < 2 ^ 32) :
    (s.takeIndex c).rd .SKIPPED_INDEX c = s.rd .SKIPPED_INDEX c + 1 ∧ (s.takeIndex c).rd .chCount c = s.rd .chCount c := by
  have same := noteIndex_rd s c .SKIPPED_INDEX c
  rw [takeIndex_skipped illegal, State.count_one (by rwa [same]), State.rd_wr_same, State.rd_wr_ne _ _ _ _ (by decide), same,
    noteIndex_rd s c .chCount]
  exact ⟨rfl, rfl⟩

theorem takeIndex_learns_ref (legal : s.rdN .illegalAt c ≠ s.now + 1) (period : 0 < s.rdN .INDEX_PERIOD c) (mode : s.rd .INDEX_MODE c = 1)
    (new : s.bit .CH_FLAGS c 5 = false) : (s.takeIndex c).rd .idxRef c = s.rd .chCount c % (s.rdN .INDEX_PERIOD c : Int) ∧
      (s.takeIndex c).bit .CH_FLAGS c 5 = true ∧ (s.takeIndex c).rd .chCount c = s.rd .chCount c := by
  rw [takeIndex_learns legal period mode new]
  refine ⟨?_, ?_, ?_⟩
  · rw [State.rd_wrBit_ne _ _ _ _ _ (by decide), State.rd_wr_same]
  · rw [State.bit_wrBit, if_pos ⟨rfl, rfl⟩]
  · rw [State.rd_wrBit_ne _ _ _ _ _ (by decide), State.rd_wr_ne _ _ _ _ (by decide), noteIndex_rd s c .chCount]

/-- A deviation that the index shows, on the module that has noted the index. -/
theorem noteIndex_deviates (dev : Int) :
    ((s.noteIndex c).indexDeviates c dev).rd .LAST_DEV c = dev ∧
    (s.rd .INDEX_DEV_COUNT c + 1 < 2 ^ 32 → ((s.noteIndex c).indexDeviates c dev).rd .INDEX_DEV_COUNT c = s.rd .INDEX_DEV_COUNT c + 1) ∧
    (dev.natAbs ≤ s.rdN .INDEX_WINDOW c → ((s.noteIndex c).indexDeviates c dev).rd .OUT_WINDOW_COUNT c = s.rd .OUT_WINDOW_COUNT c ∧
      ((s.noteIndex c).indexDeviates c dev).rd .chCount c =
        if s.rd .INDEX_CORR c = 1 then s.heldCount c (s.rd .chCount c - dev) else s.rd .chCount c) ∧
    (s.rdN .INDEX_WINDOW c < dev.natAbs → ((s.noteIndex c).indexDeviates c dev).rd .chCount c = s.rd .chCount c ∧
      (s.rd .OUT_WINDOW_COUNT c + 1 < 2 ^ 32 →
        ((s.noteIndex c).indexDeviates c dev).rd .OUT_WINDOW_COUNT c = s.rd .OUT_WINDOW_COUNT c + 1)) := by
  obtain ⟨shown, counts⟩ := indexDeviates_shows (s.noteIndex c) c dev
  rw [noteIndex_rd s c .INDEX_DEV_COUNT] at counts
  refine ⟨shown, counts, fun within => ?_, fun out => ?_⟩
  · have corrected := indexDeviates_within (s := s.noteIndex c) (by rwa [noteIndex_rdN s c .INDEX_WINDOW])
    rwa [State.heldCount, noteIndex_rd s c .CH_MIN, noteIndex_rd s c .CH_MAX, noteIndex_rd s c .chCount, noteIndex_rd s c .INDEX_CORR,
      noteIndex_rd s c .OUT_WINDOW_COUNT] at corrected
  · have same : ((s.noteIndex c).noteDeviation c dev).rd .OUT_WINDOW_COUNT c = s.rd .OUT_WINDOW_COUNT c :=
      (noteDeviation_rd _ c dev .OUT_WINDOW_COUNT c).trans (noteIndex_rd s c .OUT_WINDOW_COUNT c)
    rw [indexDeviates_outside (by rwa [noteIndex_rdN s c .INDEX_WINDOW])]
    refine ⟨?_, fun room => ?_⟩
    · rw [rd_count_ne _ _ _ _ _ _ (by decide), noteDeviation_rd _ c dev .chCount, noteIndex_rd s c .chCount]
    · rw [State.count_one (by rwa [same]), State.rd_wr_same, same]

end

/-- An index that the filter can have let through, on a channel that counts (R173). -/
theorem exec_index_taken {t : Nat} {c : Fin 16} {s : State} (on : (s.at t).counting c = true)
    (passed : (s.at t).rd .lineAtZ c = 0 ∨ (s.at t).rdN .lineAtZ c + (s.at t).rdN .CH_FILTER c ≤ (s.at t).now) :
    exec (.index t c) s = .next ((s.at t).takeIndex c) := by
  rw [exec_index, on, if_neg (by simpa using or_iff_not_imp_left.mp passed)]

/-- Settles O14: the levels decide which of its cases an edge is, and an index on a channel that counts is compared with its reference. -/
theorem quadratureAndIndexEdges : Obligations.QuadratureAndIndexEdges := by
  unfold Obligations.QuadratureAndIndexEdges
  refine ⟨fun t c a b s0 => ?_, fun t c s0 => ?_⟩
  · intro s a0 b0 a' b' way held
    obtain ⟨levelA, levelB⟩ := decodeLevels_bits s c a' b'
    refine ⟨s.decodeLevels c a' b', by rw [exec_quadratureEdge, filtered_eq, filtered_eq], levelA, levelB, fun mode free => ?_,
      decodeLevels_idle_counts⟩
    exact decodeLevels_counts ((counting_iff s c).mpr ⟨mode, free⟩)
  · intro s mode free passed
    obtain ⟨pos, time⟩ := takeIndex_shows s c
    have taken := exec_index_taken ((counting_iff s c).mpr ⟨mode, free⟩) passed
    refine ⟨s.takeIndex c, taken, pos, time, takeIndex_off_count, takeIndex_skipped_counts, fun legal period =>
      ⟨takeIndex_learns_ref legal period, fun ref compared => ?_⟩⟩
    intro dev
    rw [takeIndex_compares legal period compared]
    refine ⟨fun zero => ?_, fun off => ?_⟩
    · rw [if_pos zero]
      exact ⟨noteIndex_rd s c .chCount c, noteIndex_rd s c .LAST_DEV c⟩
    · rw [if_neg off]
      exact noteIndex_deviates dev

end Sys2Proof.Machine
end

section
/-! PROOFS. The speed timeout of a quadrature channel and the frames of a synchronous serial one (O15; R16, R175–R177). -/
namespace Sys2Proof.Machine

set_option Elab.async false

-- the speed timeout

/-- The speed of channel `c` once SPEED_TIMEOUT has passed without an edge (R175). -/
def State.stopSpeed (s : State) (c : Nat) : State := ((s.wr .CH_SPEED c 0).wrBit .CH_FLAGS c 4 true).wr .edgeN c 0

theorem stopSpeed_regsAt (s : State) (c : Nat) : s.RegsAt (s.stopSpeed c) c [.CH_SPEED, .CH_FLAGS, .edgeN] [] :=
  (((regsAt_refl s c _ _).wr .CH_SPEED 0).wr .CH_FLAGS _).wr .edgeN 0

theorem stopSpeed_flags (s : State) (c b : Nat) : (s.stopSpeed c).bit .CH_FLAGS c b = if b = 4 then true else s.bit .CH_FLAGS c b := by
  unfold State.stopSpeed
  rw [State.bit_congr (State.rd_wr_ne _ _ _ _ (by decide)), State.bit_wrBit, State.bit_congr (State.rd_wr_ne _ _ _ _ (by decide))]
  simp

theorem stopSpeed_shows (s : State) (c : Nat) : (s.stopSpeed c).rd .CH_SPEED c = 0 ∧ (s.stopSpeed c).rd .edgeN c = 0 := by
  unfold State.stopSpeed
  rw [State.rd_wr_same, State.rd_wr_ne _ _ _ _ (by decide), State.rd_wrBit_ne _ _ _ _ _ (by decide), State.rd_wr_same]
  exact ⟨rfl, rfl⟩

section
variable {t : Nat} {c : Fin 16} {s : State}

theorem exec_speedTimeout_due (mode : (s.at t).rd .CH_MODE c = 1) (free : (s.at t).bit .CH_FLAGS c 3 = false) (timed : (s.at t).rd .edgeAt c ≠ 0)
    (running : (s.at t).bit .CH_FLAGS c 4 = false) (due : (s.at t).rdN .edgeAt c + (s.at t).rdN .SPEED_TIMEOUT c ≤ (s.at t).now) :
    exec (.speedTimeout t c) s = .next ((s.at t).stopSpeed c) := by
  have on := (counting_iff (s.at t) c).mpr ⟨mode, free⟩
  exact congrArg Host.Outcome.next (if_pos (by simp [State.edgeTimed, on, timed, running, due]))

-- the start of a frame

theorem exec_ssiFrameStart_due (h : Bool) (on : (s.at t).ssiOn c = true)
    (due : (s.at t).ssiDue c = true ∧ (s.at t).rd .ssiState c = 0 ∨ (s.at t).rd .ssiState c = 1) :
    exec (.ssiFrameStart t c h) s = .next (if h then ((s.at t).wr .ssiState c 2).wr .ssiStamp c (s.at t).now else (s.at t).wr .ssiState c 1) :=
  congrArg Host.Outcome.next (if_pos (by simp only [Bool.and_eq_true, Bool.or_eq_true, decide_eq_true_eq]; exact ⟨on, due⟩))

-- the arrival of a frame

/-- The word of a frame, read from Gray code where SSI_GRAY asks for it (R176). -/
def State.frameWord (s : State) (c word : Nat) : Nat :=
  let w := word % 2 ^ s.rdN .SSI_BITS c
  if s.rd .SSI_GRAY c = 1 then grayToBin w (s.rdN .SSI_BITS c) else w

theorem exec_ssiFrameArrival_sampled (word : Nat) (mono : Bool) (on : (s.at t).ssiOn c = true) (runs : (s.at t).rd .ssiState c = 2)
    (new : (s.at t).rd .ssiOld c = 0) (sampled : (s.at t).ssiSampled c ((s.at t).rdN .ssiStamp c) = true) :
    exec (.ssiFrameArrival t c word mono) s = .next (
      if mono then ((s.at t).wr .ssiState c 0).takeRaw c ((s.at t).frameWord c word) ((s.at t).rdN .ssiStamp c)
      else ((s.at t).wr .ssiState c 0).wr .ssiMono c ((s.at t).now + 1)) := by
  have now : ((s.at t).wr .ssiState c 0).now = (s.at t).now := congrArg Int.toNat (State.rd_wr_ne _ _ _ _ (by decide))
  have gray : ((s.at t).wr .ssiState c 0).rd .SSI_GRAY c = (s.at t).rd .SSI_GRAY c := State.rd_wr_ne _ _ _ _ (by decide)
  refine congrArg Host.Outcome.next ?_
  simp [on, runs, new, sampled, now, gray, State.frameWord]

end

-- the word that is taken

/-- The step from the last raw word of channel `c` to `v`, as a signed number of SSI_BITS bits (R176). -/
def State.rawStep (s : State) (c v : Nat) : Int := signed (s.rdN .SSI_BITS c) (unsigned (s.rdN .SSI_BITS c) ((v : Int) - s.rd .absPrev c))

/-- What follows the word taken: a position that becomes valid, and the followers. -/
def afterWord_may : Nat := State.chValid_may ||| State.chUpdate_may

/-- What the word itself writes beside the count. -/
def word_may : Nat := may .CH_SPEED ||| may .CH_FLAGS ||| may .absPrev ||| may .ABS_RAW ||| may .absHave ||| may .ssiLast ||| may .absErr

theorem takeRaw_accepts {s : State} {c v stamp : Nat} (fits : s.rd .ABS_JUMP_MAX c = 0 ∨ s.rd .absHave c = 0) :
    (s.takeRaw c v stamp).rd .ABS_RAW c = v ∧ (s.takeRaw c v stamp).rd .absErr c = 0 ∧ (s.takeRaw c v stamp).rd .ssiState c = s.rd .ssiState c ∧
    (s.takeRaw c v stamp).rd .chCount c =
      s.heldCount c (if s.rd .ABS_UNWRAP c = 1 ∧ s.rd .absHave c = 1 then s.rd .chCount c + s.rawStep c v else v) := by
  unfold State.takeRaw
  extract_lets bits have0 first dif unwrap old x dt y z w u
  have timed : Keeps word_may x y := keeps_ite (wrBit_keeps .CH_FLAGS c 1 true (keeps_wr (keeps_refl _ x) .CH_SPEED c _ (by decide +kernel)))
    (keeps_refl _ x)
  have noted : Keeps word_may x w :=
    keeps_wr (keeps_wr (keeps_wr (keeps_wr (keeps_wr timed .absPrev c _ (by decide +kernel)) .ABS_RAW c _ (by decide +kernel)) .absHave c _
      (by decide +kernel)) .ssiLast c _ (by decide +kernel)) .absErr c _ (by decide +kernel)
  have shown : Keeps afterWord_may w (u.chUpdate c) := chUpdate_keeps c (keeps_ite (chValid_keeps c (keeps_refl _ w)) (keeps_refl _ w))
  have set : Keeps State.chSet_may s x := chSet_keeps c _ (keeps_refl _ s)
  have small : ¬ ((have0 && s.rd .ABS_JUMP_MAX c ≠ 0 && decide (s.rdN .ABS_JUMP_MAX c < dif.natAbs)) = true) := by
    obtain jump | first := fits
    · simp [jump]
    · simp [have0, first]
  rw [if_neg small, shown.rd .ABS_RAW c (by decide +kernel), shown.rd .absErr c (by decide +kernel), shown.rd .ssiState c (by decide +kernel),
    shown.rd .chCount c (by decide +kernel), noted.rd .ssiState c (by decide +kernel), noted.rd .chCount c (by decide +kernel)]
  refine ⟨?_, State.rd_wr_same .., set.rd .ssiState c (by decide +kernel), ?_⟩
  · simp [w, z, State.rd_wr]
  · rw [chSet_count]
    congr 1
    by_cases asked : s.rd .ABS_UNWRAP c = 1 <;> simp [unwrap, have0, old, asked, dif, bits, State.rawStep]

-- frames that are no frame

/-- An invalid frame shown and counted (R176). -/
def State.noteBadFrame (s : State) (c : Nat) : State :=
  (((s.chEvent c 3).count .FRAME_ERRORS c).detect (blkFb c) 0x12).wr .absErr c (min (s.rd .absErr c + 1) 255)

/-- The position becomes invalid once ABS_ERR_LIMIT frames in turn were invalid. -/
theorem badFrame_keeps_noted (s : State) (c : Nat) : Keeps State.chInvalid_may (s.noteBadFrame c) (s.badFrame c) :=
  keeps_ite (chInvalid_keeps c (keeps_refl _ _)) (keeps_refl _ _)

theorem badFrame_shows (s : State) (c : Nat) :
    (s.rd .FRAME_ERRORS c + 1 < 2 ^ 32 → (s.badFrame c).rd .FRAME_ERRORS c = s.rd .FRAME_ERRORS c + 1) ∧
      (s.badFrame c).bit .CH_EVENTS c 3 = true ∧ (s.badFrame c).rd .absErr c = min (s.rd .absErr c + 1) 255 := by
  have kept := badFrame_keeps_noted s c
  rw [kept.rd .FRAME_ERRORS c (by decide +kernel), State.bit_congr (kept.rd .CH_EVENTS c (by decide +kernel)), kept.rd .absErr c (by decide +kernel)]
  unfold State.noteBadFrame
  let x := ((s.chEvent c 3).count .FRAME_ERRORS c).detect (blkFb c) 0x12
  have found (r : Reg) (h : State.detect_may.testBit r.ctorIdx = false) : x.rd r c = ((s.chEvent c 3).count .FRAME_ERRORS c).rd r c :=
    detect_rd _ _ _ _ _ _ _ h
  refine ⟨fun room => ?_, ?_, ?_⟩
  · exact (State.rd_wr_ne _ _ _ _ (by decide)).trans ((found .FRAME_ERRORS (by decide +kernel)).trans (chEvent_count s 3 room))
  · have same := (State.rd_wr_ne x (q := .CH_EVENTS) (r := .absErr) c c (min (s.rd .absErr c + 1) 255) (by decide)).trans
      (found .CH_EVENTS (by decide +kernel))
    exact (State.bit_congr same 3).trans (chEvent_count_bit s c 3 .FRAME_ERRORS)
  · rw [State.rd_wr_same]

section
variable {t : Nat} {c : Fin 16} {s : State}

theorem exec_ssiMonoTimeout_due (waits : (s.at t).rd .ssiMono c ≠ 0) (due : (s.at t).rdN .ssiMono c + (s.at t).rdN .SSI_MONO c ≤ (s.at t).now) :
    exec (.ssiMonoTimeout t c) s = .next (((s.at t).wr .ssiMono c 0).badFrame c) :=
  congrArg Host.Outcome.next (if_pos (by simp [waits, due]))

theorem exec_ssiDeadline_late (past : (s.at t).atMark = false) (late : (s.at t).rd .ssiOld c ≠ 0) :
    exec (.ssiDeadline t c) s = .next (((s.at t).wr .ssiOld c 0).count .FRAME_ERRORS c) :=
  congrArg Host.Outcome.next (by simp [past, State.ssiLate, State.iff, late])

theorem ssiMonoTimeout_clause (waits : (s.at t).rd .ssiMono c ≠ 0) (due : (s.at t).rdN .ssiMono c + (s.at t).rdN .SSI_MONO c ≤ (s.at t).now)
    (room : (s.at t).rd .FRAME_ERRORS c + 1 < 2 ^ 32) :
    ∃ u, exec (.ssiMonoTimeout t c) s = .next u ∧ u.rd .ssiMono c = 0 ∧ u.rd .FRAME_ERRORS c = (s.at t).rd .FRAME_ERRORS c + 1 ∧
      u.bit .CH_EVENTS c 3 = true ∧ u.rd .absErr c = min ((s.at t).rd .absErr c + 1) 255 := by
  let x := (s.at t).wr .ssiMono c 0
  have errors : x.rd .FRAME_ERRORS c = (s.at t).rd .FRAME_ERRORS c := State.rd_wr_ne _ _ _ _ (by decide)
  have inTurn : x.rd .absErr c = (s.at t).rd .absErr c := State.rd_wr_ne _ _ _ _ (by decide)
  obtain ⟨counted, shown, erred⟩ := badFrame_shows x c
  rw [errors] at counted
  have ended : (x.badFrame c).rd .ssiMono c = x.rd .ssiMono c :=
    (badFrame_keeps (M := State.badFrame_may) c (keeps_refl _ x)).rd _ _ (by decide +kernel)
  exact ⟨_, exec_ssiMonoTimeout_due waits due, ended.trans (State.rd_wr_same ..), counted room, shown, by rw [erred, inTurn]⟩

theorem ssiDeadline_clause (past : (s.at t).atMark = false) (late : (s.at t).rd .ssiOld c ≠ 0)
    (room : (s.at t).rd .FRAME_ERRORS c + 1 < 2 ^ 32) :
    ∃ u, exec (.ssiDeadline t c) s = .next u ∧ u.rd .ssiOld c = 0 ∧ u.rd .FRAME_ERRORS c = (s.at t).rd .FRAME_ERRORS c + 1 ∧
      u.rd .absErr c = (s.at t).rd .absErr c := by
  have errors : ((s.at t).wr .ssiOld c 0).rd .FRAME_ERRORS c = (s.at t).rd .FRAME_ERRORS c := State.rd_wr_ne _ _ _ _ (by decide)
  have discarded := exec_ssiDeadline_late past late
  rw [State.count_one (by rwa [errors]), errors] at discarded
  exact ⟨_, discarded, by simp [State.rd_wr], State.rd_wr_same .., by simp [State.rd_wr]⟩

theorem ssiFrameStart_clause (on : (s.at t).ssiOn c = true)
    (due : ((s.at t).atMark = true ∧ (s.at t).pass % (s.at t).rdN .ABS_PERIOD c = 0 ∧ (s.at t).rd .ssiState c = 0) ∨
      (s.at t).rd .ssiState c = 1) :
    (∃ u, exec (.ssiFrameStart t c true) s = .next u ∧ u.rd .ssiState c = 2 ∧ u.rd .ssiStamp c = ((s.at t).now : Int)) ∧
      (∃ u, exec (.ssiFrameStart t c false) s = .next u ∧ u.rd .ssiState c = 1 ∧ u.rd .ssiStamp c = (s.at t).rd .ssiStamp c) := by
  have starts : (s.at t).ssiDue c = true ∧ (s.at t).rd .ssiState c = 0 ∨ (s.at t).rd .ssiState c = 1 :=
    due.imp_left fun ⟨mark, period, idle⟩ => ⟨by simp [State.ssiDue, mark, period], idle⟩
  exact ⟨⟨_, exec_ssiFrameStart_due true on starts, by simp [State.rd_wr], by simp [State.rd_wr]⟩,
    ⟨_, exec_ssiFrameStart_due false on starts, by simp [State.rd_wr], by simp [State.rd_wr]⟩⟩

section
variable (word : Nat) (on : (s.at t).ssiOn c = true) (runs : (s.at t).rd .ssiState c = 2) (new : (s.at t).rd .ssiOld c = 0)
  (sampled : (s.at t).ssiSampled c ((s.at t).rdN .ssiStamp c) = true)
include on runs new sampled

theorem ssiFrameArrival_takes (fits : (s.at t).rd .ABS_JUMP_MAX c = 0 ∨ (s.at t).rd .absHave c = 0) :
    ∃ u, exec (.ssiFrameArrival t c word true) s = .next u ∧ u.rd .ssiState c = 0 ∧ u.rd .ABS_RAW c = (s.at t).frameWord c word ∧
      u.rd .absErr c = 0 ∧ u.rd .chCount c = (s.at t).heldCount c (if (s.at t).rd .ABS_UNWRAP c = 1 ∧ (s.at t).rd .absHave c = 1
        then (s.at t).rd .chCount c + (s.at t).rawStep c ((s.at t).frameWord c word) else (s.at t).frameWord c word) := by
  let x := (s.at t).wr .ssiState c 0
  have same (r : Reg) (h : r ≠ .ssiState := by decide) : x.rd r c = (s.at t).rd r c := State.rd_wr_ne _ _ _ _ h
  obtain ⟨raw, errors, state, count⟩ := takeRaw_accepts (s := x) (v := (s.at t).frameWord c word) (stamp := (s.at t).rdN .ssiStamp c)
    (by rwa [same .ABS_JUMP_MAX, same .absHave])
  have bits : x.rdN .SSI_BITS c = (s.at t).rdN .SSI_BITS c := congrArg Int.toNat (same .SSI_BITS)
  rw [State.heldCount, State.rawStep, same .CH_MIN, same .CH_MAX, same .ABS_UNWRAP, same .absHave, same .chCount, bits, same .absPrev] at count
  exact ⟨_, exec_ssiFrameArrival_sampled word true on runs new sampled, state.trans (State.rd_wr_same ..), raw, errors, count⟩

theorem ssiFrameArrival_waits : ∃ u, exec (.ssiFrameArrival t c word false) s = .next u ∧ u.rd .ssiState c = 0 ∧
      u.rd .ssiMono c = ((s.at t).now : Int) + 1 ∧
      u.rd .ABS_RAW c = (s.at t).rd .ABS_RAW c :=
  ⟨_, exec_ssiFrameArrival_sampled word false on runs new sampled, by simp [State.rd_wr], by simp [State.rd_wr], by simp [State.rd_wr]⟩

end

end

/-- Settles O15, event by event: each that is due is its own step, and a word that fits its predecessor is the new count. -/
theorem speedTimeoutsAndSerialFrames : Obligations.SpeedTimeoutsAndSerialFrames := by
  unfold Obligations.SpeedTimeoutsAndSerialFrames
  refine ⟨fun t c s0 => ?_, fun t c s0 => ?_⟩
  · intro s mode free timed running due
    obtain ⟨speed, history⟩ := stopSpeed_shows s c
    refine ⟨s.stopSpeed c, exec_speedTimeout_due mode free timed running due, speed, ?_, history, fun b hb => ?_, (stopSpeed_regsAt s c).regs,
      (stopSpeed_regsAt s c).rest⟩
    · rw [stopSpeed_flags, if_pos rfl]
    · rw [stopSpeed_flags, if_neg hb]
  · intro s
    refine ⟨fun mode free awake => ?_, ssiMonoTimeout_clause, ssiDeadline_clause⟩
    have on : s.ssiOn c = true := by simp [State.ssiOn, mode, free, awake]
    refine ⟨ssiFrameStart_clause on, fun runs new early late word => ?_⟩
    have sampled : s.ssiSampled c (s.rdN .ssiStamp c) = true := by simp [State.ssiSampled, early, late]
    exact ⟨ssiFrameArrival_takes word on runs new sampled, ssiFrameArrival_waits word on runs new sampled⟩

end Sys2Proof.Machine
end

section
/-! PROOFS. Line faults contain a channel (O16; R169, R170, R177, R336). -/
namespace Sys2Proof.Machine

set_option Elab.async false

theorem at_rd (s : State) (t : Nat) (r : Reg) (i : Nat) (h : State.at_may.testBit r.ctorIdx = false := by decide +kernel) :
    (s.at t).rd r i = s.rd r i := (at_keeps t (keeps_refl _ s)).rd r i h

-- a position that becomes invalid

/-- A detection takes back no cause. -/
theorem detectHeld_causes {s : State} {r : Reg} (hr : r = .CAUSES_LATCHED ∨ r = .CAUSES_PRESENT) (b k : Nat) {a j : Nat}
    (h : s.bit r a j = true) : (s.detectHeld b k).bit r a j = true := by
  unfold State.detectHeld
  split
  · exact h
  · obtain rfl | rfl := hr
    · rw [detect_latched, h, Bool.true_or]
    · rw [detect_present, h, ite_self]

section
variable (s : State) (c : Nat)

theorem devOff_rd (r : Reg) (i : Nat) (h : State.devOff_may.testBit r.ctorIdx = false := by decide +kernel) : (s.devOff c).rd r i = s.rd r i :=
  (devOff_keeps c (keeps_refl _ s)).rd r i h

theorem chInvalid_rd (r : Reg) (i : Nat) (h : State.chInvalid_may.testBit r.ctorIdx = false := by decide +kernel) :
    (s.chInvalid c).rd r i = s.rd r i := (chInvalid_keeps c (keeps_refl _ s)).rd r i h

theorem chInvalid_flags (b : Nat) : (s.chInvalid c).bit .CH_FLAGS c b = if b = 0 then false else s.bit .CH_FLAGS c b := by
  have held (y : State) : (y.detectHeld (blkFb c) 0x13).rd .CH_FLAGS c = y.rd .CH_FLAGS c :=
    (detectHeld_keeps (M := State.detectHeld_may) (blkFb c) 0x13 0 (keeps_refl _ y)).rd _ _ (by decide +kernel)
  rw [State.chInvalid, State.bit_congr (held _), State.bit_wrBit, State.bit_congr (devOff_rd s c .CH_FLAGS c)]
  simp

theorem chInvalid_causes {r : Reg} (hr : r = .CAUSES_LATCHED ∨ r = .CAUSES_PRESENT) {a k : Nat} (h : s.bit r a k = true) :
    (s.chInvalid c).bit r a k = true := by
  refine detectHeld_causes hr _ _ ?_
  obtain rfl | rfl := hr
  · rwa [State.bit_congr (State.rd_wrBit_ne _ _ _ _ _ (by decide)), State.bit_congr (devOff_rd s c .CAUSES_LATCHED a)]
  · rwa [State.bit_congr (State.rd_wrBit_ne _ _ _ _ _ (by decide)), State.bit_congr (devOff_rd s c .CAUSES_PRESENT a)]

-- the fault

/-- The fault of a line of channel `c`, and the shadow over the axes that depend on it (R170, R341). -/
def State.detectLine : State :=
  let deps := (List.range 64).filter (fun n => s.rdN .FB_CHANNEL n = c || (s.rd .FOLLOW_SOURCE n = 2 && s.rdN .SOURCE_NUM n = c))
  s.detectShadow (blkFb c) 1 0 (deps.map (fun n => (blkAxis n, []))) .waiting

/-- A channel contained (R170): its event and its flag, and no serial frame of it goes on. -/
def State.containChannel : State :=
  let x := ((s.chEvent c 5).wrBit .CH_FLAGS c 3 true).wr .chFreePend c 0
  ((x.wr .ssiState c 0).wr .ssiOld c 0).wr .ssiMono c 0

theorem exec_lineFault (t : Nat) (c : Fin 16) (p : Fin 3) : exec (.lineFault t c p) s = .next (
    if !(s.at t).pairUsed c p || (s.at t).bit .CAUSES_PRESENT (blkFb c) 1 then s.at t
    else (((s.at t).detectLine c).containChannel c).chInvalid c) := rfl

theorem persists_line (c : Fin 16) : persists (blkFb c) 1 = true := by revert c; decide

theorem detectLine_causes (c : Fin 16) {r : Reg} (hr : r = .CAUSES_LATCHED ∨ r = .CAUSES_PRESENT) :
    (s.detectLine c).bit r (blkFb c) 1 = true := by
  obtain rfl | rfl := hr
  · exact (State.bit_congr (detectShadow_rd_eq ..) 1).trans (detect_latches ..)
  · exact detectShadow_present _ _ _ _ _ _ (persists_line c)

/-- What the containment of a channel writes. -/
def containChannel_may : Nat := State.chEvent_may ||| may .CH_FLAGS ||| may .chFreePend ||| may .ssiState ||| may .ssiOld ||| may .ssiMono

theorem containChannel_rd (r : Reg) (i : Nat) (h : containChannel_may.testBit r.ctorIdx = false := by decide +kernel) :
    (s.containChannel c).rd r i = s.rd r i := by
  have contained := wrBit_keeps (M := containChannel_may) .CH_FLAGS c 3 true (chEvent_keeps c 5 (keeps_refl _ s))
  have idle := keeps_wr (keeps_wr contained .chFreePend c 0 (by decide +kernel)) .ssiState c 0 (by decide +kernel)
  exact (keeps_wr (keeps_wr idle .ssiOld c 0 (by decide +kernel)) .ssiMono c 0 (by decide +kernel)).rd r i h

theorem containChannel_shows : (s.containChannel c).bit .CH_FLAGS c 3 = true ∧ (s.containChannel c).bit .CH_EVENTS c 5 = true := by
  let x := (s.chEvent c 5).wrBit .CH_FLAGS c 3 true
  have left (r : Reg) (h : r ∉ [Reg.chFreePend, .ssiState, .ssiOld, .ssiMono]) : (s.containChannel c).rd r c = x.rd r c := by
    simp only [List.mem_cons, List.not_mem_nil, or_false, not_or] at h
    simp [State.containChannel, State.rd_wr, h, x]
  rw [State.bit_congr (left .CH_FLAGS (by decide)), State.bit_congr (left .CH_EVENTS (by decide)), State.bit_wrBit, if_pos ⟨rfl, rfl⟩,
    State.bit_congr (State.rd_wrBit_ne _ _ _ _ _ (by decide)), chEvent_bit]
  exact ⟨rfl, rfl⟩

theorem lineFault_shows (c : Fin 16) : let u := ((s.detectLine c).containChannel c).chInvalid c
    u.bit .CH_FLAGS c 3 = true ∧ u.bit .CH_FLAGS c 0 = false ∧ u.bit .CH_EVENTS c 5 = true ∧
      u.bit .CAUSES_LATCHED (blkFb c) 1 = true ∧ u.bit .CAUSES_PRESENT (blkFb c) 1 = true := by
  intro u
  obtain ⟨flag, event⟩ := containChannel_shows (s.detectLine c) c
  have latched : ((s.detectLine c).containChannel c).bit .CAUSES_LATCHED (blkFb c) 1 = true :=
    (State.bit_congr (containChannel_rd _ c .CAUSES_LATCHED _) 1).trans (detectLine_causes s c (.inl rfl))
  have present : ((s.detectLine c).containChannel c).bit .CAUSES_PRESENT (blkFb c) 1 = true :=
    (State.bit_congr (containChannel_rd _ c .CAUSES_PRESENT _) 1).trans (detectLine_causes s c (.inr rfl))
  refine ⟨?_, ?_, ?_, chInvalid_causes _ c (.inl rfl) latched, chInvalid_causes _ c (.inr rfl) present⟩
  · rw [chInvalid_flags, if_neg (by decide), flag]
  · rw [chInvalid_flags, if_pos rfl]
  · rw [State.bit_congr (chInvalid_rd _ c .CH_EVENTS c), event]

end

/-- A used receiver (R169, R170). -/
theorem pairUsed_iff (s : State) (c : Nat) (p : Fin 3) : s.pairUsed c p = true ↔
    (s.rd .CH_MODE c = 1 ∧ (p ≠ 2 ∨ s.rd .INDEX_MODE c ≠ 0 ∨ s.rd .LATCH_SRC c = 1)) ∨ (s.rd .CH_MODE c = 2 ∧ p = 1) := by
  have one : s.rdN .CH_MODE c = 1 ↔ s.rd .CH_MODE c = 1 := by unfold State.rdN; omega
  have two : s.rdN .CH_MODE c = 2 ↔ s.rd .CH_MODE c = 2 := by unfold State.rdN; omega
  have below : p.val < 2 ↔ p ≠ 2 := by omega
  have second : p.val = 1 ↔ p = 1 := by omega
  unfold State.pairUsed
  split
  · next m => simp [one.mp m, below, or_assoc]
  · next m => simp [two.mp m, second]
  · next m1 m2 => simp [← one, ← two, show s.rdN .CH_MODE c ≠ 1 from m1, show s.rdN .CH_MODE c ≠ 2 from m2]

theorem pairUsed_at (s : State) (t c p : Nat) : (s.at t).pairUsed c p = s.pairUsed c p := by
  unfold State.pairUsed State.rdN
  rw [at_rd s t .CH_MODE, at_rd s t .INDEX_MODE, at_rd s t .LATCH_SRC]

section
variable {t : Nat} {c : Fin 16} {s : State}

theorem lineFault_clause {p : Fin 3} (used : s.pairUsed c p = true) (new : s.bit .CAUSES_PRESENT (blkFb c) 1 = false) :
    ∃ u, exec (.lineFault t c p) s = .next u ∧ u.bit .CH_FLAGS c 3 = true ∧ u.bit .CH_FLAGS c 0 = false ∧ u.bit .CH_EVENTS c 5 = true ∧
      u.bit .CAUSES_LATCHED (blkFb c) 1 = true ∧ u.bit .CAUSES_PRESENT (blkFb c) 1 = true := by
  refine ⟨_, ?_, lineFault_shows (s.at t) c⟩
  rw [exec_lineFault, pairUsed_at, used, State.bit_congr (at_rd s t .CAUSES_PRESENT _), new]
  rfl

theorem lineFault_unused {p : Fin 3} (unused : ¬ s.pairUsed c p = true) : exec (.lineFault t c p) s = .next (s.at t) := by
  rw [exec_lineFault, pairUsed_at, Bool.eq_false_iff.mpr unused]
  rfl

theorem lineFaultEnd_clause (present : s.bit .CAUSES_PRESENT (blkFb c) 1 = true) :
    ∃ u, exec (.lineFaultEnd t c) s = .next u ∧ u.bit .CAUSES_PRESENT (blkFb c) 1 = false ∧ u.rd .CH_FLAGS c = s.rd .CH_FLAGS c ∧
      u.rd .CAUSES_LATCHED (blkFb c) = s.rd .CAUSES_LATCHED (blkFb c) := by
  have still : (s.at t).bit .CAUSES_PRESENT (blkFb c) 1 = true := (State.bit_congr (at_rd s t .CAUSES_PRESENT _) 1).trans present
  have ended : ((s.at t).endCause (blkFb c) 1).bit .CAUSES_PRESENT (blkFb c) 1 = false := by rw [endCause_present, if_pos ⟨rfl, rfl⟩]
  exact ⟨_, congrArg Host.Outcome.next (if_pos still), ended, (endCause_rd _ _ _ _ _ (by decide +kernel)).trans (at_rd s t .CH_FLAGS c),
    (endCause_rd _ _ _ _ _ (by decide +kernel)).trans (at_rd s t .CAUSES_LATCHED _)⟩

end

end Sys2Proof.Machine
end

section
/-! PROOFS. Edges of the sense inputs (O16; R182): the level, the latched edge and the count of a terminal. -/
namespace Sys2Proof.Machine

set_option Elab.async false

-- the level of a terminal

/-- The object in which the filtered level of terminal `i` stands, as bit `i % 64` (R182). -/
def senseReg (i : Nat) : Reg := if i < 64 then .SENSE_LO else .SENSE_HI

/-- The object in which an edge of terminal `i` to the level `act` is latched, at the same bit. -/
def senseEdgeReg (i : Nat) (act : Bool) : Reg :=
  if act then (if i < 64 then .SENSE_RISE_LO else .SENSE_RISE_HI) else (if i < 64 then .SENSE_FALL_LO else .SENSE_FALL_HI)

/-- A bit for each of 128 terminals, in two objects of 64. -/
theorem bit_halves (s : State) (lo hi : Reg) {i : Nat} (bound : i < 128) :
    (if i < 64 then s.bit lo 0 i else s.bit hi 0 (i - 64)) = s.bit (if i < 64 then lo else hi) 0 (i % 64) := by
  split
  · next low => rw [Nat.mod_eq_of_lt low]
  · next high => rw [show i - 64 = i % 64 by omega]

theorem sense_eq (s : State) {i : Nat} (hi : i < 128) : s.sense i = s.bit (senseReg i) 0 (i % 64) := bit_halves s _ _ hi

theorem sense_congr {s t : State} (lo : t.rd .SENSE_LO 0 = s.rd .SENSE_LO 0) (hi : t.rd .SENSE_HI 0 = s.rd .SENSE_HI 0) (i : Nat) :
    t.sense i = s.sense i := by
  unfold State.sense
  rw [State.bit_congr lo, State.bit_congr hi]

/-- Two terminals share a bit of an object only where they are one. -/
theorem sense_wrBit (s : State) {i j : Nat} (hi : i < 128) (hj : j < 128) (act : Bool) :
    (s.wrBit (senseReg i) 0 (i % 64) act).sense j = if j = i then act else s.sense j := by
  rw [sense_eq _ hj, sense_eq s hj]
  by_cases same : senseReg j = senseReg i
  · have one : j % 64 = i % 64 ↔ j = i := by
      have halves : j < 64 ↔ i < 64 := by
        by_cases lowJ : j < 64 <;> by_cases lowI : i < 64 <;> simp [senseReg, lowJ, lowI] at same ⊢
      omega
    rw [same, State.bit_wrBit]
    simp only [true_and, one]
  · have apart : j ≠ i := fun e => same (by rw [e])
    rw [State.bit_congr (State.rd_wrBit_ne _ _ _ _ _ same), if_neg apart]

-- an edge

/-- A filtered edge of terminal `i`: its level and the latched edge. -/
def State.latchSense (s : State) (i : Nat) (act : Bool) : State :=
  (s.wrBit (senseReg i) 0 (i % 64) act).raise (senseEdgeReg i act) 0 (2 ^ (i % 64))

/-- The edge noted with its count and its cycle. -/
def State.noteSense (s : State) (i : Nat) (act : Bool) : State :=
  ((s.latchSense i act).count .SENSE_EDGES i).wr .senseAt i ((s.latchSense i act).now + 1)

/-- What an edge does to limits, homing searches and WAIT records. -/
def afterSense_may : Nat := State.limitInputs_may ||| State.limitFind_may ||| State.senseWait_may

theorem senseChange_keeps_noted {s : State} {i : Nat} {act : Bool} (edge : s.sense i ≠ act) :
    Keeps afterSense_may (s.noteSense i act) (s.senseChange i act) := by
  unfold State.senseChange
  extract_lets lo b x y z bound w v
  have noted : z = s.noteSense i act := by
    by_cases low : i < 64 <;> simp [z, y, x, lo, b, State.noteSense, State.latchSense, senseReg, senseEdgeReg, low]
  have limits : Keeps afterSense_may (s.noteSense i act) w := keeps_forList (noted ▸ keeps_refl _ z) fun _ n h => limitInputs_keeps n h
  have found : Keeps afterSense_may (s.noteSense i act) v := keeps_ite (keeps_forList limits fun _ n h => limitFind_keeps i n h) limits
  rw [if_neg edge]
  exact keeps_forAll found fun _ n h => senseWait_keeps i act n h

section
variable (s : State) {i : Nat} (act : Bool)

theorem noteSense_rd (i : Nat) (r : Reg) (j : Nat) (hr : r ≠ .senseAt ∧ r ≠ .SENSE_EDGES) :
    (s.noteSense i act).rd r j = (s.latchSense i act).rd r j :=
  (State.rd_wr_ne _ _ _ _ hr.1).trans (rd_count_ne _ _ _ _ _ _ hr.2)

theorem noteSense_sense (hi : i < 128) {j : Nat} (hj : j < 128) : (s.noteSense i act).sense j = if j = i then act else s.sense j := by
  have left (r : Reg) (hr : r = .SENSE_LO ∨ r = .SENSE_HI) : (s.noteSense i act).rd r 0 = (s.wrBit (senseReg i) 0 (i % 64) act).rd r 0 := by
    have notEdge : r ≠ senseEdgeReg i act := by
      obtain rfl | rfl := hr <;> unfold senseEdgeReg <;> split <;> split <;> decide
    have notCount : r ≠ .senseAt ∧ r ≠ .SENSE_EDGES := by obtain rfl | rfl := hr <;> decide
    exact (noteSense_rd s act i r 0 notCount).trans (State.rd_raise_ne _ _ _ _ notEdge)
  rw [sense_congr (left _ (.inl rfl)) (left _ (.inr rfl)), sense_wrBit s hi hj]

theorem noteSense_edges (i : Nat) (room : s.rd .SENSE_EDGES i + 1 < 2 ^ 32) :
    (s.noteSense i act).rd .SENSE_EDGES i = s.rd .SENSE_EDGES i + 1 := by
  have notEdge : Reg.SENSE_EDGES ≠ senseEdgeReg i act := by unfold senseEdgeReg; split <;> split <;> decide
  have notLevel : Reg.SENSE_EDGES ≠ senseReg i := by unfold senseReg; split <;> decide
  have same : (s.latchSense i act).rd .SENSE_EDGES i = s.rd .SENSE_EDGES i :=
    (State.rd_raise_ne _ _ _ _ notEdge).trans (State.rd_wrBit_ne _ _ _ _ _ notLevel)
  rw [State.noteSense, State.rd_wr_ne _ _ _ _ (by decide), State.count_one (by rwa [same]), State.rd_wr_same, same]

theorem noteSense_latched (i : Nat) : (s.noteSense i act).bit (senseEdgeReg i act) 0 (i % 64) = true := by
  have notCount : senseEdgeReg i act ≠ .senseAt ∧ senseEdgeReg i act ≠ .SENSE_EDGES := by
    unfold senseEdgeReg; split <;> split <;> decide
  rw [State.bit_congr (noteSense_rd s act i _ 0 notCount), State.latchSense, State.bit_raise, Nat.testBit_two_pow_self, decide_eq_true rfl,
    Bool.and_self, Bool.or_true]

end

/-- What an edge shows; what it does to limits, searches and records leaves that alone. -/
theorem senseChange_shows {s : State} {i : Nat} {act : Bool} (hi : i < 128) (edge : s.sense i ≠ act) (room : s.rd .SENSE_EDGES i + 1 < 2 ^ 32) :
    (s.senseChange i act).sense i = act ∧ (∀ j < 128, j ≠ i → (s.senseChange i act).sense j = s.sense j) ∧
      (s.senseChange i act).rd .SENSE_EDGES i = s.rd .SENSE_EDGES i + 1 ∧ (s.senseChange i act).bit (senseEdgeReg i act) 0 (i % 64) = true := by
  have kept := senseChange_keeps_noted edge
  have levels (j : Nat) : (s.senseChange i act).sense j = (s.noteSense i act).sense j :=
    sense_congr (kept.rd _ _ (by decide +kernel)) (kept.rd _ _ (by decide +kernel)) j
  have latched : afterSense_may.testBit (senseEdgeReg i act).ctorIdx = false := by
    unfold senseEdgeReg; split <;> split <;> decide +kernel
  refine ⟨?_, fun j hj apart => ?_, ?_, ?_⟩
  · rw [levels, noteSense_sense s act hi hi, if_pos rfl]
  · rw [levels, noteSense_sense s act hi hj, if_neg apart]
  · rw [kept.rd .SENSE_EDGES i (by decide +kernel), noteSense_edges s act i room]
  · rw [State.bit_congr (kept.rd _ _ latched), noteSense_latched]

/-- The active level of terminal `i` at the level `high` of its line (R182). -/
def State.activeLevel (s : State) (i : Nat) (high : Bool) : Bool := high ≠ (s.rd .SENSE_INVERT i = 1)

section
variable {t : Nat} {i : Fin 128} {high : Bool} {s : State} (edge : (s.at t).sense i ≠ (s.at t).activeLevel i high) (sample : (s.at t).now % 100 = 0)
  (passed : (s.at t).rd .senseChg i = 0 ∨ (s.at t).rdN .senseChg i + 100 * (s.at t).rdN .SENSE_FILTER i ≤ (s.at t).now + 1)
include edge sample passed

theorem exec_senseEdge_decided : exec (.senseEdge t i high) s =
    .next (((s.at t).wr .senseChg i ((s.at t).now + 1)).senseChange i ((s.at t).activeLevel i high)) := by
  have decides : (s.at t).senseDecides i = true := by simpa [State.senseDecides, sample] using passed
  refine congrArg Host.Outcome.next (if_neg ?_)
  simp only [decides, Bool.not_true, Bool.or_false, decide_eq_true_eq]
  exact edge

theorem senseEdge_clause (room : (s.at t).rd .SENSE_EDGES i + 1 < 2 ^ 32) :
    ∃ u, exec (.senseEdge t i high) s = .next u ∧ u.sense i = (s.at t).activeLevel i high ∧
       (∀ j : Fin 128, j ≠ i → u.sense j = (s.at t).sense j) ∧ u.rd .SENSE_EDGES i = (s.at t).rd .SENSE_EDGES i + 1 ∧
       ((s.at t).activeLevel i high = true →
         (if i.val < 64 then u.bit .SENSE_RISE_LO 0 i.val else u.bit .SENSE_RISE_HI 0 (i.val - 64)) = true) ∧
       ((s.at t).activeLevel i high = false →
         (if i.val < 64 then u.bit .SENSE_FALL_LO 0 i.val else u.bit .SENSE_FALL_HI 0 (i.val - 64)) = true) := by
  let x := (s.at t).wr .senseChg i ((s.at t).now + 1)
  have sense (j : Nat) : x.sense j = (s.at t).sense j :=
    sense_congr (State.rd_wr_ne _ _ _ _ (by decide)) (State.rd_wr_ne _ _ _ _ (by decide)) j
  have edges : x.rd .SENSE_EDGES i = (s.at t).rd .SENSE_EDGES i := State.rd_wr_ne _ _ _ _ (by decide)
  obtain ⟨level, others, count, latched⟩ := senseChange_shows (s := x) i.isLt (by rwa [sense]) (by rwa [edges])
  refine ⟨_, exec_senseEdge_decided edge sample passed, level, fun j apart => ?_, by rw [count, edges], fun rise => ?_, fun fall => ?_⟩
  · rw [others j j.isLt (Fin.val_ne_of_ne apart), sense]
  · rw [bit_halves _ _ _ i.isLt]
    rw [rise] at latched ⊢
    exact latched
  · rw [bit_halves _ _ _ i.isLt]
    rw [fall] at latched ⊢
    exact latched

end

end Sys2Proof.Machine
end

section
/-! PROOFS. The latch of a channel (O16; R172, R179), and O16 itself. -/
namespace Sys2Proof.Machine

set_option Elab.async false

section
variable (s : State) (c : Nat)

/-- The speed that a latch captures: in mode 1 the one before an edge of the same cycle (R172). -/
def State.latchSpeed : Int :=
  if s.rd .CH_MODE c = 1 ∧ s.rdN .edgeAt c = s.now + 1 then s.rdWas .CH_SPEED c else s.rd .CH_SPEED c

/-- The position that a latch captures: in mode 2 the one that the speed gives for the cycle (R179). -/
def State.latchPos : Int :=
  if s.rd .CH_MODE c = 2 then s.rd .chCount c + fdiv (s.latchSpeed c * ((s.now : Int) - s.rd .ssiLast c)) (10 ^ 8) else s.rd .chCount c

/-- Position, time and speed of the capture, its count and its event. -/
def State.noteLatch : State :=
  ((((s.wr .LATCH_POS c (s.latchPos c)).wr .LATCH_TIME c s.now).wr .LATCH_SPEED c (s.latchSpeed c)).count .LATCH_COUNT c).chEvent c 4

variable {s c}

theorem capture_of_range (lo : -2 ^ 47 ≤ s.latchPos c) (hi : s.latchPos c < 2 ^ 47) : s.capture c =
    if s.rd .LATCH_REPEAT c = 1 then (s.noteLatch c).wr .latchDone c 1 else ((s.noteLatch c).wr .latchDone c 1).wr .latchArmed c 0 := by
  unfold State.capture
  extract_lets v p x y z
  have speed : v = s.latchSpeed c := by simp [v, State.latchSpeed]
  have pos : p = s.latchPos c := by rw [State.latchPos, ← speed]
  have noted : y = s.noteLatch c := by simp only [y, x, pos, speed, wr48_of_range s .LATCH_POS c lo hi, State.noteLatch]
  have repeats : z.rd .LATCH_REPEAT c = s.rd .LATCH_REPEAT c := by
    rw [State.rd_wr_ne _ _ _ _ (by decide), noted, State.noteLatch, chEvent_rd _ c 4 .LATCH_REPEAT, rd_count_ne _ _ _ _ _ _ (by decide)]
    simp [State.rd_wr]
  rw [repeats]
  simp only [z, noted]

theorem noteLatch_rd (r : Reg) (hr : r ≠ .LATCH_COUNT ∧ r ≠ .CH_EVENTS) : (s.noteLatch c).rd r c =
    (((s.wr .LATCH_POS c (s.latchPos c)).wr .LATCH_TIME c s.now).wr .LATCH_SPEED c (s.latchSpeed c)).rd r c :=
  (chEvent_rd _ c 4 r c hr.2).trans (rd_count_ne _ _ _ _ _ _ hr.1)

theorem noteLatch_count (room : s.rd .LATCH_COUNT c + 1 < 2 ^ 32) : (s.noteLatch c).rd .LATCH_COUNT c = s.rd .LATCH_COUNT c + 1 := by
  let x := ((s.wr .LATCH_POS c (s.latchPos c)).wr .LATCH_TIME c s.now).wr .LATCH_SPEED c (s.latchSpeed c)
  have same : x.rd .LATCH_COUNT c = s.rd .LATCH_COUNT c := by simp [x, State.rd_wr]
  rw [State.noteLatch, chEvent_rd _ c 4 .LATCH_COUNT, State.count_one (by rwa [same]), State.rd_wr_same, same]

theorem capture_shows (armed : s.rd .latchArmed c = 1) (lo : -2 ^ 47 ≤ s.latchPos c) (hi : s.latchPos c < 2 ^ 47)
    (room : s.rd .LATCH_COUNT c + 1 < 2 ^ 32) :
    (s.capture c).rd .LATCH_POS c = s.latchPos c ∧ (s.capture c).rd .LATCH_TIME c = (s.now : Int) ∧
      (s.capture c).rd .LATCH_SPEED c = s.latchSpeed c ∧ (s.capture c).rd .LATCH_COUNT c = s.rd .LATCH_COUNT c + 1 ∧
      (s.capture c).bit .CH_EVENTS c 4 = true ∧ (s.capture c).rd .latchArmed c = (if s.rd .LATCH_REPEAT c = 1 then 1 else 0) ∧
      (s.capture c).rd .chCount c = s.rd .chCount c := by
  have left (r : Reg) (hr : r ≠ .latchDone ∧ r ≠ .latchArmed) : (s.capture c).rd r c = (s.noteLatch c).rd r c := by
    rw [capture_of_range lo hi]
    split
    · exact State.rd_wr_ne _ _ _ _ hr.1
    · exact (State.rd_wr_ne _ _ _ _ hr.2).trans (State.rd_wr_ne _ _ _ _ hr.1)
  have event : (s.capture c).bit .CH_EVENTS c 4 = true := (State.bit_congr (left .CH_EVENTS (by decide)) 4).trans (chEvent_bit _ c 4)
  have state : (s.capture c).rd .latchArmed c = (if s.rd .LATCH_REPEAT c = 1 then 1 else 0) := by
    rw [capture_of_range lo hi]
    split
    · rw [State.rd_wr_ne _ _ _ _ (by decide), noteLatch_rd .latchArmed (by decide), ← armed]
      simp [State.rd_wr]
    · exact State.rd_wr_same ..
  rw [left .LATCH_POS (by decide), left .LATCH_TIME (by decide), left .LATCH_SPEED (by decide), left .LATCH_COUNT (by decide),
    left .chCount (by decide), noteLatch_rd .LATCH_POS (by decide), noteLatch_rd .LATCH_TIME (by decide), noteLatch_rd .LATCH_SPEED (by decide),
    noteLatch_rd .chCount (by decide)]
  exact ⟨by simp [State.rd_wr], by simp [State.rd_wr], State.rd_wr_same .., noteLatch_count room, event, state, by simp [State.rd_wr]⟩

/-- The cycle of the event of an armed latch (R179). -/
theorem latchDue_of_event (armed : s.rd .latchArmed c = 1)
    (event : (s.rdN .LATCH_SRC c = 1 ∧ s.rdN .lineAtZ c = s.now + 1 ∧ s.rd .CH_MODE c = 1 ∧ s.bit .CH_FLAGS c 3 = false) ∨
      (s.rdN .LATCH_SRC c = 2 ∧ s.rdN .senseAt (s.rdN .LATCH_SENSE c % 128) = s.now + 1 ∧
        s.sense (s.rdN .LATCH_SENSE c % 128) ≠ s.bit .LATCH_SENSE c 8) ∨
      (s.rdN .LATCH_SRC c = 3 ∧ s.rd .latchDone c = 0 ∧ s.rdN .LATCH_AT c ≤ s.ring)) : s.latchDue c = true := by
  unfold State.latchDue
  obtain ⟨src, edge, mode, free⟩ | ⟨src, edge, level⟩ | ⟨src, new, reached⟩ := event
  · simp [armed, src, edge, (counting_iff s c).mpr ⟨mode, free⟩]
  · simp [armed, src, edge, level]
  · simp [armed, src, new, reached]

end

/-- Settles O16: a used line contains its channel, an edge shows at its own terminal, and a latch that is due captures. -/
theorem lineFaultsSenseEdgesAndLatches : Obligations.LineFaultsSenseEdgesAndLatches := by
  unfold Obligations.LineFaultsSenseEdgesAndLatches
  refine ⟨fun t c p s => ?_, fun t i high s0 => senseEdge_clause, fun t c s0 => ?_⟩
  · intro used
    have uses : s.pairUsed c p = true ↔ used := pairUsed_iff s c p
    exact ⟨fun h => lineFault_clause (uses.mpr h), fun h => lineFault_unused (mt uses.mp h), lineFaultEnd_clause⟩
  · intro s v p armed lo hi room event
    exact ⟨s.capture c, congrArg Host.Outcome.next (if_pos (latchDue_of_event armed event)), capture_shows armed lo hi room⟩

end Sys2Proof.Machine
end
